-- ==== Sys2Proof/Word.lean ====
section
/-!
DEFINITION. The word types of the part (R11, R13, R36).
-/
namespace Sys2Proof

/-- A register word: 64 bits (R11). -/
abbrev Word := BitVec 64

/-- A byte. -/
abbrev Byte := BitVec 8

/-- A physical address: 52 bits (R36). -/
abbrev PAddr := BitVec 52

/-- A line of 64 bytes, named by its physical address bits 51 to 6. -/
abbrev Line := BitVec 46

/-- An association list: the first entry for a key counts. -/
abbrev Bank (κ α : Type) := List (κ × α)

end Sys2Proof
end

