-- ==== Sys2Proof/Syntax.lean ====
section
/-!
DEFINITION. The commands the block takes, with their operands.
-/
namespace Sys2Proof
namespace Machine

/-- Who sends a register access (R612): a service core by the Tether or by the mesh, a hart, or a requester of the other
socket whose kennel, world and class the Brace request carries (R30). -/
inductive Requester where
  | tether (core : Fin 4)
  | derrum (core : Fin 4)
  | hart (h : Fin 256)
  | remote (kennel : Fin 16) (secure : Bool) (isHart : Bool)
  deriving DecidableEq, Repr

/-- Access sizes. -/
inductive Size where
  | b1 | b2 | b4 | b8
  deriving DecidableEq, Repr

/-- The number of bytes of an access. -/
def Size.bytes : Size → Nat
  | .b1 => 1 | .b2 => 2 | .b4 => 4 | .b8 => 8

/-- A TIME frame of the Leash ring (R57): the bytes after TYPE, with the CRC as it arrived. -/
structure TimeFrame where
  flags : BitVec 8
  racktime : BitVec 64
  acc : BitVec 24
  last : BitVec 8
  fallen : BitVec 256
  crc : BitVec 16
  deriving DecidableEq, Repr

/-- A SCHED frame of the Leash ring (R58): the bytes after TYPE, with the CRC as it arrived. -/
structure SchedFrame where
  action : BitVec 8
  target : BitVec 48
  arg : BitVec 64
  origin : BitVec 8
  crc : BitVec 16
  deriving DecidableEq, Repr

/-- What the DRAM decode of one line finds (R355, R358): no error; an error confined to one device, with the low byte of its
syndrome; an uncorrectable error, with whether the partner's copy is uncorrectable too. A line that holds the poison pattern
is found so from the state, whatever the operand says. -/
inductive DramResult where
  | clean
  | corrected (device : Fin 10) (syndrome : Byte)
  | bad (partnerBad : Bool) (syndrome : Byte)
  deriving DecidableEq, Repr

/-- How full training failed: the code of MC_TRAIN_STATUS, subchannel and rank. -/
structure TrainFail where
  code : BitVec 8
  sub : BitVec 1
  rank : BitVec 4
  deriving DecidableEq, Repr

/-- The AMO operations. -/
inductive AmoOp where
  | swap | add | xor | and | or | min | max | minu | maxu
  deriving DecidableEq, Repr

/-- Who sends a request to a home agent, as the message names it (R21, R299). -/
inductive ReqSrc where
  | core (h : Fin 256)
  | engine (e : Fin 8)
  | derrum (d : Fin 4)
  | port (p : Fin 8) (link : Fin 4)
  /-- the other socket's Brace agent, with the kennel and world the request carries and whether it is a device's -/
  | peer (kennel : Fin 16) (secure : Bool) (device : Bool)
  deriving DecidableEq, Repr

/-- A holder a snoop is sent to. -/
inductive HolderId where
  | core (h : Fin 256)
  | engine (e : Fin 8)
  | remote
  deriving DecidableEq, Repr

/-- What the other socket answers for a line it is home of, or for a snoop: the line, its poison mark, and the state granted
(0 none, 1 S, 2 E, 3 M). -/
structure PeerLine where
  data : BitVec 512
  poison : Bool
  grant : Fin 4
  deriving DecidableEq, Repr

/-- The token of a speculative response (R311). -/
structure Token where
  slice : Nat
  session : Nat
  epoch : Nat
  deriving DecidableEq, Repr

/-- What a read of an LLC array finds (R258, R259): one bad symbol or more than the code corrects in a sub-block's data; a tag
entry's parity, with whether the dirty-tag copy fails too; the dirty-tag copy; replacement state of a set; an owner-table
cache entry; a snoop-filter entry by its two parity bits; a transaction-table entry. -/
inductive LlcError where
  | symbol (line : Line) (position : Fin 35)
  | data (line : Line)
  | tag (set : Fin 1536) (way : Fin 16) (copyBad : Bool)
  | dirtyCopy (set : Fin 1536) (way : Fin 16)
  | replacement (set : Fin 1536)
  | ownerCache (index : Fin 512)
  | sfHold (line : Line)
  | sfTag (line : Line)
  | txn (index : Fin 192)
  deriving DecidableEq, Repr

/-- The control transfers of R158: a conditional branch; a jump without link; a call; an indirect jump, call and return by
jalr. -/
inductive BranchKind where
  | cond | jump | call | indirect | indirectCall | ret
  deriving DecidableEq, Repr

/-- A control transfer that fetch predicted in front of an instruction: its address, kind, and predicted outcome. -/
structure Ahead where
  pc : Word
  kind : BranchKind
  compressed : Bool
  taken : Bool
  target : Word
  deriving DecidableEq, Repr

/-- An instruction as it enters the reorder buffer of a hart: its address and size, and the transfers predicted between it and the
entry before it. -/
structure Ins where
  h : Fin 256
  pc : Word
  compressed : Bool
  ahead : List Ahead
  deriving DecidableEq, Repr

/-- Where a value goes. -/
inductive Dest where
  | none | x (n : Fin 32) | f (n : Fin 32) | v (n : Fin 32)
  deriving DecidableEq, Repr

/-- An AMO instruction: an operation, LR or SC. -/
inductive AmoKind where
  | op (o : AmoOp) | lr | sc
  deriving DecidableEq, Repr

/-- What retires: the oldest entry of the reorder buffer; an instruction that holds no place there, with the value it computes
and the control transfer it makes, whether that was mispredicted, and the FP element operations it counts; a CSR instruction;
sret. -/
inductive Retire where
  | oldest
  | plain (compressed : Bool) (dest : Dest) (value : BitVec 256) (flow : Option (BranchKind × Bool × Word)) (mispredicted : Bool) (fpOps : Nat)
  | csr (n : BitVec 12) (rd : Fin 32) (write : Option Word)
  | sret
  deriving DecidableEq, Repr

/-- What a walk is for: a page of an access of a reorder-buffer entry, or a fetch. -/
inductive WalkOf where
  | piece (place index : Nat)
  | fetch (va : Word)
  deriving DecidableEq, Repr

/-- What a core array's check finds (R204, R258, R259): a predictor entry; an L1I line's data or tag; L1D or L2 data of a line, with
whether it can be corrected; a tag entry by array (0 L1I, 1 L1D, 2 L2), set and way, with whether the dirty-tag copy fails too; a
fill-buffer or side-buffer line; a TLB or walk-cache entry by its structure code and index; a locked slot, with the
reorder-buffer place of the access that hit it; or an array whose error loses the core, by its structure code and the senior
stores whose entries fail their check. -/
inductive CoreError where
  | predictor (entry : Nat)
  | l1iData (line : Line) (corrected : Bool) (syndrome : Byte)
  | data (l2 : Bool) (line : Line) (corrected : Bool) (syndrome : Byte)
  | tag (array : Fin 3) (set : Fin 2048) (way : Fin 16) (copyBad : Bool)
  | buffer (side : Bool) (line : Line) (corrected : Bool) (syndrome : Byte)
  | tlb (struct : Fin 4) (index : Nat)
  | slot (i : Fin 16) (place : Option Nat)
  | lost (struct : Byte) (entry : BitVec 16) (syndrome : Byte) (badStores : List Nat)
  deriving DecidableEq, Repr

/-- How a non-posted request ends at its link (R445): with data, with data marked poisoned, with UR or CA, or with a configuration
request retry status, with whether RRS Software Visibility is enabled. -/
inductive CplResult where
  | ok (data : BitVec 512)
  | poisoned
  | unsupported
  | retry (visible : Bool)
  deriving DecidableEq, Repr

/-- What happens to a link (R467, R468): lost, an ERR_FATAL received, an uncorrectable error of its datapath, a corrected error,
a non-fatal error, or an error of the port's internal queues or buffers. -/
inductive LinkEvent where
  | lost | fatal | datapath | corrected | nonfatal | queues
  deriving DecidableEq, Repr

/-- What the host writes in the endpoint function's configuration space (R454, R459, R460): the Command register's Memory Space
Enable, Bus Master Enable and Interrupt Disable; MSI enable, vectors allocated, address and data; the vector masks; a BAR. -/
inductive HostWrite where
  | command (mem bme intxDis : Bool)
  | msi (enable : Bool) (vectors : Fin 33) (addr : Word) (data : BitVec 16)
  | mask (bits : BitVec 32)
  | bar (b : Fin 6) (addr : Word)
  deriving DecidableEq, Repr

/-- The context whose claim register an access names (R412): a hart's M context, its S context (0) or a guest context, or a service
core's context of domain 15. -/
inductive ClaimCtx where
  | m (h : Fin 256)
  | s (h : Fin 256) (g : Fin 8)
  | drm (d : Fin 4)
  deriving DecidableEq, Repr

/-- What the instructions of a service core, which are no commands, have left when one of its accesses runs: the access's pc, the
privilege, the CSRs written since, and the sfence.vma made since, each with its address and whether it keeps global entries. -/
structure DrmCtx where
  pc : Word
  priv : Fin 4
  csrs : List (BitVec 12 × Word)
  fences : List (Option Word × Bool)
  deriving DecidableEq, Repr

/-- A load of a service core to a register, sign-extended or not, or a store of a value. -/
inductive DrmAccess where
  | load (rd : Fin 32) (signed : Bool)
  | store (value : Word)
  deriving DecidableEq, Repr

/-- What a read of an SRAM word finds (R502). -/
inductive SramResult where
  | clean | corrected | bad
  deriving DecidableEq, Repr

/-- The instructions of the TAP (R604). -/
inductive JtagIr where
  | bypass | idcode | sample | extest | clamp | highz | dtmcs | dmi
  deriving DecidableEq, Repr

end Machine
open Machine

/-- The commands of the block: one constructor per row of spec/opcode_table.json, in the table's order. -/
inductive Instr where
  /-- REGISTER_WRITE (R7): A write to a register that has no row of its own takes effect according to each field's access code, on either path. -/
  | registerWrite (req : Requester) (offset : BitVec 43) (size : Size) (value : Word)
  /-- CLEARING_READ (R8): A read of a register holding RC fields returns its value and clears the bits it returned as 1. -/
  | clearingRead (req : Requester) (offset : BitVec 43) (size : Size)
  /-- TETHER_TIMEOUT (R24): A station on a failed chain returns a timeout status 2 µs after the access was issued. -/
  | tetherTimeout (core : Fin 4)
  /-- SPAN_TICK (R41): The phase reaches zero: the span number increments and every station delivers the tick to its unit with its tick-time actions. -/
  | spanTick (power : BitVec 16) (temps : List (Fin 68 × Int))
  /-- WINDOW_END (R42): The service window of the span ends at phase WINDOW × 25 ns. -/
  | windowEnd
  /-- SPN_CFG_WRITE (R42): A write to SPN_CFG is accepted before the seal, takes effect from the next tick, or is ignored as a whole with CFG_ERR. -/
  | spnCfgWrite (req : Requester) (value : Word)
  /-- OVERRUN_REFRESH (R51): At a fixed instant outside the window, a channel issues an all-bank refresh that did not fit in the window. -/
  | overrunRefresh (channel : Fin 16) (index : Nat)
  /-- LEASH_ENABLE (R65): SPN_CTL.ENABLE is set; the master goes to TX_LOCK and other nodes to SEEK. -/
  | leashEnable (req : Requester) (value : Word)
  /-- LEASH_DISABLE (R65): SPN_CTL.ENABLE is cleared; the port enters OFF and LEASH_HOLD falls at the next tick. -/
  | leashDisable (req : Requester) (value : Word)
  /-- TX_PLL_LOCK (R65): The master's transmitter PLL locks and the port enters LOCKED, raising LEASH_HOLD at the next tick. -/
  | txPllLock
  /-- SYMBOL_LOCK (R65): A node gains symbol lock on its receive pair; it enters ACQUIRE, measures FWD and carries out a pending RECAL. -/
  | symbolLock (fwd : BitVec 24)
  /-- SYMBOL_LOCK_LOST (R65): A node loses symbol lock and moves from ACQUIRE to SEEK or from LOCKED to RIDE. -/
  | symbolLockLost
  /-- TIME_FRAME (R61): A non-master node receives a TIME frame, checks it, computes the master tick, updates ACC, LAST and FALLEN, and forwards it. -/
  | timeFrame (frame : TimeFrame) (markerAt : Int) (now : Nat)
  /-- TIME_FRAME_RETURN (R63): The master receives its returning TIME frame, computes EXPECTED and MEASURED, and sets RING_MISMATCH when they differ. -/
  | timeFrameReturn (frame : TimeFrame) (measured : BitVec 24)
  /-- MARKER_TIMEOUT (R65): A locked node misses its tick marker by 100 ns and enters RIDE in holdover. -/
  | markerTimeout
  /-- RIDE_EXPIRY (R65): Two spans pass in RIDE; the node enters SEEK, LEASH_HOLD falls at the next tick and LEASH_LOST is raised. -/
  | rideExpiry
  /-- HOLDOVER_EXPIRY (R65): 8 ms after last discipline the timebase leaves holdover and runs free on LEASH_REFCLK. -/
  | holdoverExpiry
  /-- LEASH_RECAL (R64): A write of SPN_CTL.RECAL requests a remeasurement of FWD, applied at the next tick. -/
  | leashRecal (req : Requester) (value : Word) (fwd : BitVec 24)
  /-- SCHED_SEND (R60): Firmware writes SPN_SCHED_TX0 with GO to queue a SCHED frame for insertion. -/
  | schedSend (req : Requester) (value : Word)
  /-- SCHED_INSERT (R60): After 8 idle symbols with the next tick more than 1 µs away, the node inserts its SCHED frame into the ring. -/
  | schedInsert (idleSymbols : Nat)
  /-- SCHED_FRAME (R72): A node receives a SCHED frame, queues it for its TARGET tick or drops it, and removes it when it is the origin. -/
  | schedFrame (frame : SchedFrame)
  /-- SCHED_TARGET_REACHED (R72): At the tick of TARGET, a waiting EVENT becomes visible and raises LEASH_SCHED, or a RECAL is carried out. -/
  | schedTargetReached (fwd : BitVec 24)
  /-- SCHED_RX_POP (R73): Writing 1 to SPN_SCHED_RX0.VALID removes the shown EVENT entry and shows the next. -/
  | schedRxPop (req : Requester)
  /-- TIME_LOAD (R73): A write to SPN_TIME_LOAD on a disabled master loads rack time at the next tick, or is ignored with TIME_LOAD_ERR. -/
  | timeLoad (req : Requester) (value : Word)
  /-- OVERRUN_CLR (R73): Writing SPN_OVERRUN.CLR sets COUNT to zero. -/
  | overrunClr (req : Requester)
  /-- CLAIM (R75): A service core takes ownership of the ZNX block when it is not held. -/
  | claim (core : Fin 4)
  /-- RELEASE (R75): The owner gives up the ZNX block. -/
  | release (core : Fin 4)
  /-- VERIFY (R74): The ZNX block copies the image from Derrum SRAM and checks it in five stages. -/
  | verify (core : Fin 4)
  /-- VERIFY_DONE (R96): VERIFY ends, passing to VERIFIED or STAGED, or failing with ERR_CODE, ERR_SECTION and ERR_RECORD. -/
  | verifyDone
  /-- APPLY (R97): The verified image is capacity-checked and its records are written to the stations over the Tether. -/
  | apply (core : Fin 4)
  /-- APPLY_DONE (R97): Every station acknowledges and the image state becomes APPLIED. -/
  | applyDone
  /-- APPLY_STATION_TIMEOUT (R97): A station times out during APPLY and the image state becomes FAILED. -/
  | applyStationTimeout (station : Fin 109)
  /-- SEAL (R97): The applied image is sealed; RWL fields become read-only and ZNX_DIGEST, ZNX_BUILD and ZNX_PAIR are set. -/
  | seal (core : Fin 4)
  /-- ARM (R102): ARM with a valid TARGET starts distribution of the staged reflow, or is refused with CMD_ERR. -/
  | arm (core : Fin 4)
  /-- CANCEL (R101): CANCEL discards the staged or distributing reflow with outcome ABORTED, cause CANCEL. -/
  | cancel (core : Fin 4)
  /-- ZNX_INVALID_OP (R109): A ZNX_CMD write with an undefined OP, or one not valid in the current state, has no effect and sets CMD_ERR. -/
  | znxInvalidOp (core : Fin 4) (op : Byte)
  /-- DISTRIBUTION_DONE (R101): Every concerned station acknowledges its shadow values and the reflow becomes READY. -/
  | distributionDone
  /-- VOTE_START (R103): At phase S − 2 µs of span TARGET − 1, concerned stations check R100 and vote, or the reflow aborts as LATE. -/
  | voteStart
  /-- STATION_VOTE (R103): A station's vote arrives; the ZNX block decides COMMIT when all are ready, or ABORT on a busy vote. -/
  | stationVote (station : Fin 109)
  /-- VOTE_TIMEOUT (R103): A station has not voted 1 µs after the vote instant; the reflow aborts with cause STATION. -/
  | voteTimeout
  /-- REFLOW_COMMIT (R105): At the tick of TARGET, every concerned station swaps in its shadow values and the digest is chained. -/
  | reflowCommit (fails : List (Fin 109))
  /-- REHASH_SWEEP_STEP (R106): In a window, each slice moves 16 sets of lines whose home changed to their new home slice. -/
  | rehashSweepStep
  /-- TLSYNC (R127): Makes earlier writes to tlctl, tlpred and tlpf take effect and refetches younger instructions. -/
  | tlsync (h : Fin 256)
  /-- WFS (R128): Stalls the hart until the next tick or window end, or an interrupt, then writes a status word. -/
  | wfs (h : Fin 256) (rd : Fin 32) (rs1 : Word)
  /-- WFS_WAKE (R129): The awaited tick or window end reaches the station and WFS retires within 60 ns. -/
  | wfsWake (h : Fin 256)
  /-- WCALL (R132): Enters M-mode in world S at tlwvec with cause 24. -/
  | wcall (h : Fin 256)
  /-- WRET (R133): Scrubs registers when SCRUB is set, then returns from M-mode as mret into tlworld.RWORLD. -/
  | wret (h : Fin 256)
  /-- TLB_LOCK (R135): Walks and checks a translation and locks it in a slot, writing a status code. -/
  | tlbLock (h : Fin 256) (rd : Fin 32) (rs1 rs2 : Word)
  /-- TLB_UNLOCK (R138): Unlocks a slot and writes a status code. -/
  | tlbUnlock (h : Fin 256) (rd : Fin 32) (rs1 : Word)
  /-- UNLOCK_ALL (R145): Writing tllock.UNLOCK_ALL unlocks every locked slot, keeping M-reserved slots when written from S-mode. -/
  | unlockAll (h : Fin 256)
  /-- SKOHAL_CSR_WRITE (R148): A write to tlctl, tlpred or tlpf governs the hart no later than 32 instructions after it. -/
  | skohalCsrWrite (h : Fin 256) (csr : BitVec 12) (rd : Fin 32) (value : Word)
  /-- PRED_FLUSH (R161): Invalidates every predictor entry, zeroes histories and clears the stream table. -/
  | predFlush (h : Fin 256)
  /-- TRAP_ENTRY (R130): A trap into M-mode sets the world bit to S, with the flushes of any world change. -/
  | trapEntry (h : Fin 256) (cause : Fin 64) (tval tval2 : Word)
  /-- MRET (R130): A return below M-mode sets the world bit to tlworld.RWORLD. -/
  | mret (h : Fin 256)
  /-- INTERRUPT_TAKEN (R203): A pending enabled interrupt is taken at the oldest unretired instruction after any issued I/O access or AMO completes. -/
  | interruptTaken (h : Fin 256)
  /-- LOAD (R175): A load reads L1D, forwards from the store queue, waits on partial overlap, or misses into the fill buffer. -/
  | load (i : Ins) (va : Word) (bytes : Nat) (dest : Dest) (signed : Bool) (noFwd : Bool) (hyp : Bool) (hlvx : Bool) (gaps : Nat)
  /-- STORE (R172): A store's address is translated and checked, its data queued, and ownership requested once bound. -/
  | store (i : Ins) (va : Word) (bytes : Nat) (data : BitVec 512) (hyp : Bool) (younger : Nat)
  /-- STORE_PERFORM (R173): A senior store is performed in L1D once its line is held in M. -/
  | storePerform (h : Fin 256)
  /-- AMO (R184): An AMO, LR or SC is performed in L1D with its line in M after older senior stores. -/
  | amo (i : Ins) (kind : AmoKind) (va : Word) (dword : Bool) (rd : Fin 32) (rs2 : Word) (aq : Bool) (rl : Bool)
  /-- FENCE (R183): A fence completes when its predecessor accesses have performed or read. -/
  | fence (i : Ins) (pred : BitVec 4) (succ : BitVec 4) (tso : Bool)
  /-- FENCE_I (R188): After the store queue drains, invalidates L1I and instruction fill entries and refetches. -/
  | fenceI (i : Ins)
  /-- SFENCE_VMA (R230): Removes TLB and walk-cache entries selected by address and ASID once older stores have performed. -/
  | sfenceVma (i : Ins) (rs1 : Option Word) (rs2 : Option Word)
  /-- HFENCE_VVMA (R231): Removes guest entries of the current VMID as sfence.vma does. -/
  | hfenceVvma (i : Ins) (rs1 : Option Word) (rs2 : Option Word)
  /-- HFENCE_GVMA (R231): Removes V = 1, G-stage TLB and V = 1 walk-cache entries of a VMID or of all. -/
  | hfenceGvma (i : Ins) (rs1 : Option Word) (rs2 : Option Word)
  /-- SATP_WRITE (R233): A write to satp, vsatp or hgatp flushes the speculative fill buffer and removes no TLB entry. -/
  | satpWrite (h : Fin 256) (which : Fin 3) (value : Word)
  /-- CBO_CLEAN (R269): Writes every dirty copy of the line to memory. -/
  | cboClean (i : Ins) (va : Word)
  /-- CBO_FLUSH (R269): Writes every dirty copy to memory and invalidates every copy. -/
  | cboFlush (i : Ins) (va : Word)
  /-- CBO_INVAL (R269): Invalidates every copy, discarding dirty data or flushing per CBIE. -/
  | cboInval (i : Ins) (va : Word)
  /-- CBO_ZERO (R271): Takes ownership without data and writes 64 zero bytes into L1D. -/
  | cboZero (i : Ins) (va : Word)
  /-- PREFETCH_HINT (R254): A Zicbop hint issues one prefetch of its line at retirement when HINTS is set. -/
  | prefetchHint (i : Ins) (kind : Fin 3) (va : Word)
  /-- WFI (R124): Stalls the hart, which chooses its idle state under the power rules. -/
  | wfi (h : Fin 256)
  /-- BRANCH_RESOLVE (R163): A branch resolves; a misprediction restores history from its checkpoint and redirects fetch. -/
  | branchResolve (h : Fin 256) (place : Nat) (taken : Bool) (target : Word)
  /-- INSTRUCTION_RETIRE (R165): Instructions retire in order, installing their lines, translations and predictor training. -/
  | instructionRetire (h : Fin 256) (what : Retire)
  /-- FILL_ARRIVE (R251): Data of a fill arrives in 16 B chunks and waiting accesses wake. -/
  | fillArrive (h : Fin 256) (line : Line)
  /-- WC_BUFFER_TIMEOUT (R186): A write-combining buffer with no store for 64 core cycles is written out. -/
  | wcBufferTimeout (h : Fin 256) (line : Line)
  /-- CORE_ARRAY_ERROR (R204): A core array detects an error and corrects, invalidates, poisons, or loses the core. -/
  | coreArrayError (h : Fin 256) (err : CoreError)
  /-- LOST_CORE_FLUSH_STEP (R205): In a window, the station flushes 512 lines of a lost core's L1D and L2. -/
  | lostCoreFlushStep (h : Fin 256) (unreadable : List Line)
  /-- LOST_CORE_POWER_OFF (R205): At the tick after the flush ends, the core is powered off and CORE_LOST is raised to the sentinel. -/
  | lostCorePowerOff (h : Fin 256)
  /-- PAGE_WALK (R221): A TLB miss walks the page tables from the deepest matching walk-cache entry. -/
  | pageWalk (h : Fin 256) (of : WalkOf)
  /-- AD_UPDATE (R227): Once bound, the walker sets A and D by compare-and-swap, or restarts the walk. -/
  | adUpdate (h : Fin 256) (of : WalkOf)
  /-- CACHE_INV (R264): A write of INV starts a whole-cache invalidate of a core level or slice, or sets CMD_ERR. -/
  | cacheInv (req : Requester) (h : Fin 256) (level : Fin 3) (value : Word)
  /-- CACHE_INV_DONE (R267): The invalidate ends and INV_DONE reads 1. -/
  | cacheInvDone (h : Fin 256) (level : Fin 3)
  /-- INV_DONE_OBSERVE (R263): A read returning INV_DONE = 1 sets the hidden observed mark. -/
  | invDoneObserve (req : Requester) (n : Fin 64) (core : Option (Fin 4))
  /-- CACHE_ENABLE (R263): A write of EN 1 turns a level ON if its invalidate was observed, else sets EN_REFUSED. -/
  | cacheEnable (req : Requester) (h : Fin 256) (level : Fin 3) (value : Word)
  /-- CACHE_DISABLE (R267): A write of EN 0 starts draining an ON level. -/
  | cacheDisable (req : Requester) (h : Fin 256) (level : Fin 3) (value : Word)
  /-- CACHE_FLUSH (R265): A write of FLUSH walks the level, writing back and invalidating lines. -/
  | cacheFlush (req : Requester) (h : Fin 256) (level : Fin 2) (value : Word)
  /-- CACHE_WALK_DONE (R265): A flush or drain walk ends; a drained level becomes OFF. -/
  | cacheWalkDone (h : Fin 256) (level : Fin 3)
  /-- SLICE_ENABLE (R268): A write of EN 1 turns a READY slice ON if its clear was observed. -/
  | sliceEnable (req : Requester) (n : Fin 64) (value : Word)
  /-- SLICE_DISABLE (R268): A write of EN 0 writes back and drops the slice's sectors and returns it to READY. -/
  | sliceDisable (req : Requester) (n : Fin 64) (value : Word)
  /-- SLICE_CLEAR_DONE (R268): A slice clear ends; INV_DONE is set and READMIT_OK after a clear in TESTED. -/
  | sliceClearDone (n : Fin 64)
  /-- SLICE_RETIRE (R276): Writing RETIRE begins retirement; the slice enters HOLD and sends a hold notice. -/
  | sliceRetire (req : Requester) (n : Fin 64) (value : Word)
  /-- SLICE_REHASH (R277): At the next tick, the slice leaves every live mask, hashes are rebuilt and held requests released. -/
  | sliceRehash (n : Fin 64)
  /-- SLICE_DRAIN_STEP (R277): In a window, a retiring slice drains 16 sets and hands over 2,048 snoop-filter entries. -/
  | sliceDrainStep (n : Fin 64)
  /-- SLICE_POWER_OFF (R277): At the tick after the drain ends, the slice is RETIRED, powered off and SLICE_RETIRED recorded. -/
  | slicePowerOff (n : Fin 64)
  /-- SLICE_BIST (R280): Writing BIST in RETIRED starts the slice self-test, or sets CMD_ERR. -/
  | sliceBist (req : Requester) (n : Fin 64) (value : Word)
  /-- SLICE_BIST_DONE (R280): The slice self-test ends PASS, REPAIRED or FAIL. -/
  | sliceBistDone (n : Fin 64) (repaired : BitVec 6) (fails : Bool)
  /-- LLC_ARRAY_ERROR (R258): An LLC array read detects an error and corrects, reloads, poisons or loses the address. -/
  | llcArrayError (n : Fin 64) (err : LlcError)
  /-- MESH_REPLAY (R289): A flit fails CRC and the link replays from the sender's buffer; 16 consecutive failures declare the link down. -/
  | meshReplay (n : Fin 64) (dir : Fin 4) (run : Nat)
  /-- RD_SHARED (R300): A home agent serves a read, granting E or S after any snoop. -/
  | rdShared (n : Fin 64) (who : ReqSrc) (line : Line) (first : Fin 4)
  /-- RD_OWN (R300): A home agent serves a read for ownership, granting M after invalidating others. -/
  | rdOwn (n : Fin 64) (who : ReqSrc) (line : Line) (first : Fin 4)
  /-- UPGRADE (R300): A home agent grants M without data to an S holder after invalidating others. -/
  | upgrade (n : Fin 64) (who : ReqSrc) (line : Line)
  /-- OWN_ZERO (R300): A home agent grants M without data, discarding other copies. -/
  | ownZero (n : Fin 64) (who : ReqSrc) (line : Line)
  /-- RD_SPEC (R193): A home agent serves a speculative read with no state change and a token or UNSAFE mark. -/
  | rdSpec (n : Fin 64) (who : ReqSrc) (line : Line) (first : Fin 4)
  /-- BIND (R194): A home agent confirms a speculative fill with BIND_OK or serves BIND_DATA. -/
  | bind (n : Fin 64) (who : ReqSrc) (line : Line) (token : Token)
  /-- PF_RD (R255): A home agent serves a read prefetch, or answers PF_NONE when another core holds E or M. -/
  | pfRd (n : Fin 64) (who : ReqSrc) (line : Line)
  /-- PF_WR (R255): A home agent serves a write prefetch in E, or in S when shared. -/
  | pfWr (n : Fin 64) (who : ReqSrc) (line : Line)
  /-- OFFER (R247): A home slice installs, declines, or writes to memory an offered L2 victim. -/
  | offer (n : Fin 64) (who : ReqSrc) (line : Line) (data : BitVec 512) (dirty : Bool) (poison : Bool)
  /-- CLEAN_DROP (R300): A home agent records that a core dropped a clean copy. -/
  | cleanDrop (n : Fin 64) (who : ReqSrc) (line : Line)
  /-- CMO_CLEAN (R272): A home agent cleans a line across all copies and sockets. -/
  | cmoClean (n : Fin 64) (who : ReqSrc) (line : Line) (data : Option (BitVec 512))
  /-- CMO_FLUSH (R272): A home agent flushes a line across all copies and sockets. -/
  | cmoFlush (n : Fin 64) (who : ReqSrc) (line : Line) (data : Option (BitVec 512))
  /-- CMO_INVAL (R272): A home agent invalidates every copy of a line. -/
  | cmoInval (n : Fin 64) (who : ReqSrc) (line : Line)
  /-- CMO_CHECK (R270): A home agent checks a maintenance operation's line against the owner table. -/
  | cmoCheck (n : Fin 64) (who : ReqSrc) (line : Line)
  /-- NC_RD (R300): A home agent performs a non-allocating read. -/
  | ncRd (n : Fin 64) (who : ReqSrc) (line : Line)
  /-- NC_WR (R300): A home agent performs a non-allocating write after invalidating holders. -/
  | ncWr (n : Fin 64) (who : ReqSrc) (line : Line) (data : BitVec 512) (mask : BitVec 64)
  /-- NC_AMO (R300): A home agent performs an AMO at the home agent and returns its result. -/
  | ncAmo (n : Fin 64) (who : ReqSrc) (line : Line) (op : AmoOp) (dword : Bool) (data : BitVec 512) (mask : BitVec 64)
  /-- NC_LR (R305): A home agent records a reservation for a core in its reservation table. -/
  | ncLr (n : Fin 64) (who : ReqSrc) (line : Line)
  /-- NC_SC (R305): A home agent performs a store-conditional if the core's reservation exists. -/
  | ncSc (n : Fin 64) (who : ReqSrc) (line : Line) (data : BitVec 512) (mask : BitVec 64)
  /-- DEV_RD (R300): A home agent serves a device read after the region check. -/
  | devRd (n : Fin 64) (who : ReqSrc) (line : Line)
  /-- DEV_WR (R300): A home agent performs a masked device write after the region check. -/
  | devWr (n : Fin 64) (who : ReqSrc) (line : Line) (data : BitVec 512) (mask : BitVec 64)
  /-- SNP_SHARE (R301): A holder answers a share snoop and moves to S. -/
  | snpShare (holder : HolderId) (line : Line)
  /-- SNP_INV (R301): A holder answers an invalidating snoop and moves to I. -/
  | snpInv (holder : HolderId) (line : Line)
  /-- SNP_PEEK (R301): A holder returns its data without changing state. -/
  | snpPeek (holder : HolderId) (line : Line)
  /-- SNP_CLEAN (R301): A holder returns dirty data and keeps a clean copy. -/
  | snpClean (holder : HolderId) (line : Line)
  /-- ACK_DATA (R301): A home agent receives a snoop answer carrying data and merges it. -/
  | ackData (n : Fin 64) (holder : HolderId) (line : Line) (peer : Option (BitVec 512))
  /-- ACK (R301): A home agent receives a snoop answer without data. -/
  | ack (n : Fin 64) (holder : HolderId) (line : Line)
  /-- ACK_NONE (R301): A home agent learns that the snooped holder holds no copy. -/
  | ackNone (n : Fin 64) (holder : HolderId) (line : Line)
  /-- ACK_POISON (R301): A home agent receives a poisoned snoop answer. -/
  | ackPoison (n : Fin 64) (holder : HolderId) (line : Line)
  /-- ACK_OFFERED (R304): A home agent learns the answer is an offer in flight and waits for it. -/
  | ackOffered (n : Fin 64) (holder : HolderId) (line : Line)
  /-- MEM_DONE (R302): A memory controller reports a read done and the home agent retires the transaction. -/
  | memDone (n : Fin 64) (line : Line) (peer : Option PeerLine)
  /-- RETRY (R307): A requester's stop receives RETRY and enters the kennel's wake list. -/
  | retry (n : Fin 64) (stop : Fin 80)
  /-- GO (R307): A stop receives GO and resends its oldest retried request. -/
  | go (n : Fin 64) (kennel : Fin 16)
  /-- GO_HOLD_EXPIRY (R307): A stop has not resent within 64 mesh cycles and loses the held entry. -/
  | goHoldExpiry (n : Fin 64) (kennel : Fin 16)
  /-- RETRY_DEST (R327): A stop's request reached a slice in HOLD and is queued again. -/
  | retryDest (n : Fin 64) (stop : Fin 80)
  /-- HOLD_NOTICE (R327): A stop receives a hold notice and keeps requests for that slice in its queues. -/
  | holdNotice (n : Fin 64) (stop : Fin 80)
  /-- SNOOP_TIMEOUT (R309): A snoop answer has not arrived after 100 µs; HA_SNOOP_TIMEOUT is raised. -/
  | snoopTimeout (n : Fin 64) (line : Line)
  /-- GRAIN_CHUNK_REQUEST (R321): A stop's ledger or pool grants a chunk of grains on request. -/
  | grainChunkRequest (stop : Fin 80) (kennel : Fin 16)
  /-- GRAIN_CHUNK_GRANT (R321): A stop receives a chunk and releases held requests, or discards a late chunk. -/
  | grainChunkGrant (stop : Fin 80) (kennel : Fin 16)
  /-- LEND_INSTANT (R324): At phase S/2, kennels with LEND give unused grains to the pool. -/
  | lendInstant
  /-- BRACE_LINK_DOWN (R319): A Brace link goes down; its traffic is held until the tick when the map is rebuilt. -/
  | braceLinkDown (b : Fin 3)
  /-- BRACE_ACK (R319): A Brace agent frees a sent message when the peer acknowledges it. -/
  | braceAck (b : Fin 3) (seq : Nat)
  /-- BRACE_TRAINING (R88): At link training, sockets exchange PAIR_ID and SOCKET; a mismatch keeps the link down. -/
  | braceTraining (b : Fin 3) (full : Bool) (peerId : Word) (peerSocket : Bool) (peerLink : Byte)
  /-- BRC_CLR_REPLAYS (R332): Writing CLR_REPLAYS sets REPLAYS to zero. -/
  | brcClrReplays (req : Requester) (b : Fin 3)
  /-- QOS_HOLDCNT_CLR (R330): Writing CLR sets SPANS_HELD to zero. -/
  | qosHoldcntClr (req : Requester) (kennel : Fin 16)
  /-- MC_READ (R338): A controller accepts a read into its queue, or answers it from the write queue. -/
  | mcRead (m : Fin 16)
  /-- MC_WRITE (R338): A controller accepts a write into its queue, merging with a queued one. -/
  | mcWrite (m : Fin 16)
  /-- DRAM_READ_RESULT (R358): A DRAM read's decode returns data, correction, poison or the partner's data. -/
  | dramReadResult (m : Fin 16) (result : DramResult)
  /-- SAME_BANK_REFRESH (R344): In a window, one same-bank refresh is issued when debt reaches 624. -/
  | sameBankRefresh (m : Fin 16)
  /-- TEMP_POLL (R346): In every 256th span's window, the controller reads mode register 4 and sets the refresh rate. -/
  | tempPoll (m : Fin 16) (code : BitVec 3) (doubled : Bool) (overRange : Bool)
  /-- RETRAIN_STEP (R351): In a window, the oldest due periodic retraining step runs. -/
  | retrainStep (m : Fin 16) (fails : Bool)
  /-- RETRAIN_STARVED (R352): A step due for 1,024 spans without room sets RETRAIN_STARVED. -/
  | retrainStarved (m : Fin 16)
  /-- REWRITE_LINE (R358): In a window, a corrected or poisoned line from the rewrite queue is written. -/
  | rewriteLine (m : Fin 16)
  /-- PPR_STEP (R363): A post-package-repair COPY, REPAIR or WRITE step runs. -/
  | pprStep (m : Fin 16) (bad : List (Fin 16)) (noSpare : Bool)
  /-- RESILVER_STEP (R369): In a window, the survivor copies 16 lines to the resilvering channel. -/
  | resilverStep (m : Fin 16)
  /-- SCRUB_BATCH (R360): In a window, patrol scrub reads one 512 B batch when allowance permits. -/
  | scrubBatch (m : Fin 16) (results : List DramResult)
  /-- MC_LINK_RETRY (R359): A device reports a CA parity or write CRC error; the command is retried up to 8 times. -/
  | mcLinkRetry (m : Fin 16) (attempt : Nat)
  /-- TRAIN (R347): Writing MC_CTL.TRAIN starts full training in UNTRAINED or EVACUATED. -/
  | train (req : Requester) (m : Fin 16) (value : Word)
  /-- TRAIN_DONE (R347): Training passes or fails and the channel moves on. -/
  | trainDone (m : Fin 16) (fail : Option TrainFail) (rate : BitVec 16) (timeMs : BitVec 16) (code : BitVec 3) (doubled : Bool)
  /-- RETRAIN (R353): Writing MC_CTL.RETRAIN queues a pass of every step. -/
  | retrain (req : Requester) (m : Fin 16) (value : Word)
  /-- MC_EN (R371): Writing MC_CTL.EN moves a READY channel to ACTIVE or EVACUATED. -/
  | mcEn (req : Requester) (m : Fin 16) (value : Word)
  /-- EVACUATE (R368): Writing EVACUATE on a NORMAL pair channel evacuates it at the next tick. -/
  | evacuate (req : Requester) (m : Fin 16) (value : Word)
  /-- RESILVER (R369): Writing RESILVER on an eligible EVACUATED channel starts a resilver. -/
  | resilver (req : Requester) (m : Fin 16) (value : Word)
  /-- SR (R373): Writing MC_CTL.SR completes accepted writes and puts DRAM in self-refresh. -/
  | sr (req : Requester) (m : Fin 16) (value : Word)
  /-- PWR_OFF (R371): Writing PWR_OFF powers off logic and PHY of an EVACUATED or OFF channel. -/
  | pwrOff (req : Requester) (m : Fin 16) (value : Word)
  /-- FAILOVER_TICK (R366): At the tick after a fault, a FAILING channel becomes EVACUATED and the pair DEGRADED. -/
  | failoverTick (m : Fin 16)
  /-- EVACUATE_TICK (R368): At the tick after EVACUATE, the channel leaves service. -/
  | evacuateTick (m : Fin 16)
  /-- RESILVER_COMPLETE (R369): At the tick after the copy ends, the pair is NORMAL and the channel ACTIVE. -/
  | resilverComplete (m : Fin 16)
  /-- PPR_START (R362): Writing MC_PPR_CTL.GO starts a soft or hard repair, or is refused. -/
  | pprStart (req : Requester) (m : Fin 16) (value : Word)
  /-- SPD_READ (R374): Writing MC_SPD.GO starts a 4-byte SPD read. -/
  | spdRead (req : Requester) (m : Fin 16) (value : Word)
  /-- SPD_READ_DONE (R374): The SPD read returns data or sets ERR. -/
  | spdReadDone (m : Fin 16) (data : Option (BitVec 32))
  /-- KENNEL_STOP (R377): Writing SYS_KCTL.STOP begins stopping a kennel. -/
  | kennelStop (req : Requester) (k : Fin 16) (value : Word)
  /-- KENNEL_RESET (R378): Writing SYS_KCTL.RESET begins a kennel reset. -/
  | kennelReset (req : Requester) (k : Fin 16) (value : Word)
  /-- KENNEL_STOP_DONE (R378): Halt and senior stores complete and the kennel is STOPPED. -/
  | kennelStopDone (k : Fin 16)
  /-- KENNEL_RESET_DONE (R378): All kennel-reset steps complete and the kennel is HELD. -/
  | kennelResetDone (k : Fin 16)
  /-- OWN_INV (R389): Writing OWN_INV.GO invalidates owner-table cache entries. -/
  | ownInv (req : Requester) (value : Word)
  /-- OWN_INV_DONE (R389): All home agents have invalidated and GO reads 0. -/
  | ownInvDone
  /-- SET (R392): OWN_CMD SET writes a new owner byte to free pages. -/
  | set (req : Requester) (value : Word)
  /-- RELEASE_OWNERSHIP (R392): OWN_CMD RELEASE purges each page and writes its new byte. -/
  | releaseOwnership (req : Requester) (value : Word)
  /-- RELEASE_PAGE_DONE (R392): A page's purge completes and the next page begins. -/
  | releasePageDone
  /-- SHOLD_INCREMENT (R402): A world-S OP 1 write increments the secure hold count. -/
  | sholdIncrement (req : Requester) (station : Fin 109) (viaTile : Bool) (value : Word)
  /-- SHOLD_DECREMENT (R402): A world-S OP 2 write decrements the count and applies deferred requests at zero. -/
  | sholdDecrement (req : Requester) (station : Fin 109) (viaTile : Bool) (value : Word)
  /-- ICN_CLAIM (R418): A claim read returns the best eligible source, 4095 or 0. -/
  | icnClaim (req : Requester) (ctx : ClaimCtx)
  /-- ICN_COMPLETE (R419): A write to the claim register clears ACTIVE of the named source. -/
  | icnComplete (req : Requester) (ctx : ClaimCtx) (id : BitVec 12)
  /-- ICN_MESSAGE (R429): A write to ICN_DOM_MSG makes an edge source pending or is dropped. -/
  | icnMessage (req : Requester) (dom : Fin 16) (value : Word)
  /-- SOURCE_SET (R413): Writing SET makes an edge source pending. -/
  | sourceSet (req : Requester) (dom : Fin 16) (id : Fin 4095) (value : Word)
  /-- SOURCE_CLR (R413): Writing CLR clears an edge source's PENDING. -/
  | sourceClr (req : Requester) (dom : Fin 16) (id : Fin 4095) (value : Word)
  /-- SOURCE_ROUTE_WRITE (R414): A write of route fields checks the route and sets or clears ROUTE_OFF. -/
  | sourceRouteWrite (req : Requester) (dom : Fin 16) (id : Fin 4095) (value : Word)
  /-- THRESHOLD_WRITE (R432): A write of THRESHOLD changes presentation at the next decision. -/
  | thresholdWrite (req : Requester) (ctx : ClaimCtx) (value : Word)
  /-- WIRED_EDGE (R430): A wired input edge sets its source pending. -/
  | wiredEdge (w : Fin 16)
  /-- WIRED_LEVEL (R430): A wired input level change changes a level source's PENDING. -/
  | wiredLevel (w : Fin 16) (level : Bool)
  /-- HOLDOFF_EXPIRY (R422): A group's hold-off expires and its sources become eligible. -/
  | holdoffExpiry (dom : Fin 16) (g : Fin 64)
  /-- POST_VCPU (R426): An eligible posted source with no resident VCPU is written to the pending table. -/
  | postVcpu (dom : Fin 16) (id : Fin 4095)
  /-- POSTING_DONE (R426): Both posting writes are accepted and DOORBELL is made pending. -/
  | postingDone (dom : Fin 16) (id : Fin 4095)
  /-- ICN_GCTX_WRITE (R427): A write of ICN_GCTX makes a VCPU resident or not, or sets GCTX_ERR. -/
  | icnGctxWrite (req : Requester) (h : Fin 256) (g : Fin 8) (value : Word)
  /-- ICN_GCTX_READ (R427): A read of ICN_GCTX returns after earlier postings are accepted. -/
  | icnGctxRead (req : Requester) (h : Fin 256) (g : Fin 8)
  /-- DOMAIN_CLOCK_STOP (R431): A quiet domain stops its clock. -/
  | domainClockStop (dom : Fin 16)
  /-- DOMAIN_CLOCK_RESTART (R431): A latch event, message or access restarts the domain's clock. -/
  | domainClockRestart (dom : Fin 16)
  /-- OUTBOUND_READ (R443): A hart load to a port window is decoded and sent on a link, or faults. -/
  | outboundRead (who : ReqSrc) (pa : PAddr) (n : Fin 65) (peer : Option (BitVec 512))
  /-- OUTBOUND_WRITE (R443): A hart store to a port window is posted to a link, or discarded and logged. -/
  | outboundWrite (who : ReqSrc) (pa : PAddr) (n : Fin 65) (data : BitVec 512)
  /-- CONFIG_READ (R443): A configuration read is sent as Type 0 or Type 1. -/
  | configRead (who : ReqSrc) (pa : PAddr) (size : Size) (peer : Option (BitVec 512))
  /-- CONFIG_WRITE (R443): A configuration write is sent as Type 0 or Type 1. -/
  | configWrite (who : ReqSrc) (pa : PAddr) (size : Size) (data : Word)
  /-- PCIE_COMPLETION (R445): A completion for an outbound request ends it with data, poison or error. -/
  | pcieCompletion (p : Fin 8) (j : Fin 4) (place : Nat) (result : CplResult)
  /-- CPL_TIMEOUT (R445): An outbound non-posted request's completion timeout expires. -/
  | cplTimeout (p : Fin 8) (j : Fin 4) (place : Nat)
  /-- INBOUND_MEM_READ (R447): An inbound read is decoded to a home agent, peer link or refusal. -/
  | inboundMemRead (p : Fin 8) (j : Fin 4) (addr : Word) (n : Fin 4097) (ro : Bool) (bad : Bool) (reqId : BitVec 16)
  /-- INBOUND_MEM_WRITE (R447): An inbound write is decoded to a home agent, peer link or refusal. -/
  | inboundMemWrite (p : Fin 8) (j : Fin 4) (addr : Word) (n : Fin 4097) (data : Nat) (ep : Bool) (ro : Bool) (bad : Bool) (reqId : BitVec 16)
  /-- MSI_WRITE (R450): A write to the MSI page becomes a message to the owner's domain. -/
  | msiWrite (p : Fin 8) (j : Fin 4) (offset : BitVec 12) (n : Fin 4097) (data : Nat) (reqId : BitVec 16)
  /-- ASSERT_INTX (R452): An Assert_INTx message raises a virtual wire. -/
  | assertIntx (p : Fin 8) (j : Fin 4) (wire : Fin 4)
  /-- DEASSERT_INTX (R452): A Deassert_INTx message lowers a virtual wire. -/
  | deassertIntx (p : Fin 8) (j : Fin 4) (wire : Fin 4)
  /-- BME_CLEAR (R453): Clearing a root port's Bus Master Enable stops upstream forwarding. -/
  | bmeClear (who : ReqSrc) (p : Fin 8) (j : Fin 4)
  /-- HOST_BME_CLEAR (R454): The host clears the endpoint's Bus Master Enable. -/
  | hostBmeClear (p : Fin 8)
  /-- EP_INBOUND (R463): A host request to an endpoint BAR is translated by the inbound table. -/
  | epInbound (p : Fin 8) (write : Bool) (addr : Word) (n : Fin 4097) (data : Nat) (ep : Bool) (ro : Bool) (reqId : BitVec 16)
  /-- XLAT_COMMIT (R464): Writing XCOMMIT.GO copies a shadow into its translation entry. -/
  | xlatCommit (req : Requester) (p : Fin 8) (value : Word)
  /-- XLAT_OLD_DRAIN_DONE (R464): Requests of the replaced entry finish and OLD_BUSY clears. -/
  | xlatOldDrainDone (p : Fin 8)
  /-- EP_MSI_REQUEST (R461): Writing IOP_EP_MSI requests an MSI vector to the host. -/
  | epMsiRequest (req : Requester) (p : Fin 8) (value : Word)
  /-- EP_INTX_WRITE (R462): A change of ASSERT sends Assert_INTA or Deassert_INTA. -/
  | epIntxWrite (req : Requester) (p : Fin 8) (value : Word)
  /-- LINK_EN (R459): Writing LINK_EN trains the endpoint link. -/
  | linkEn (req : Requester) (p : Fin 8) (value : Word)
  /-- PERST_REL (R467): Writing PERST_REL releases PERST# and starts root-link training. -/
  | perstRel (req : Requester) (p : Fin 8) (j : Fin 4) (value : Word)
  /-- LINK_RETRAIN (R467): Writing RETRAIN moves a DOWN link to TRAINING. -/
  | linkRetrain (req : Requester) (p : Fin 8) (j : Fin 4) (value : Word)
  /-- DPC_RELEASE (R467): Writing DPC_RELEASE moves a CONTAINED link to TRAINING. -/
  | dpcRelease (req : Requester) (p : Fin 8) (j : Fin 4) (value : Word)
  /-- LINK_PWR_REQ (R466): Writing PWR_REQ powers a link off or on. -/
  | linkPwrReq (req : Requester) (p : Fin 8) (j : Fin 4) (value : Word)
  /-- LINK_UP (R467): The data link layer comes up and the link is UP. -/
  | linkUp (p : Fin 8) (j : Fin 4) (speed : Fin 7) (width : Fin 17) (cxl : Bool)
  /-- LINK_LOST (R468): A link is lost or reports fatal error and becomes DOWN or CONTAINED. -/
  | linkLost (p : Fin 8) (j : Fin 4) (ev : LinkEvent) (dpc : Bool)
  /-- L1_ENTRY (R465): An idle link enters L1 after IDLE_L1 µs. -/
  | l1Entry (p : Fin 8) (j : Fin 4)
  /-- L1_EXIT (R467): A link leaves L1 for a TLP or the partner's exit. -/
  | l1Exit (p : Fin 8) (j : Fin 4)
  /-- HOT_RESET_END (R469): A 2 ms hot reset of a root link ends and the link retrains. -/
  | hotResetEnd (p : Fin 8) (j : Fin 4)
  /-- PERST_INPUT (R595): An endpoint's PE_PERST_N input changes; low holds the link in RESET. -/
  | perstInput (p : Fin 8) (level : Bool)
  /-- COPY (R478): A COPY descriptor copies the source range to the destination. -/
  | copy (e : Fin 8)
  /-- FILL (R478): A FILL descriptor writes the 8-byte pattern across the destination. -/
  | fill (e : Fin 8)
  /-- COMPARE (R478): A COMPARE descriptor finds the first differing byte. -/
  | compare (e : Fin 8)
  /-- CRC32C (R478): A CRC32C descriptor computes the source's CRC. -/
  | crc32c (e : Fin 8)
  /-- ZERO (R478): A ZERO descriptor zeroes whole 4 KiB pages. -/
  | zero (e : Fin 8)
  /-- NOP (R478): A NOP descriptor writes only its record. -/
  | nop (e : Fin 8)
  /-- CHUNK_CHECKPOINT (R480): Every write of a chunk is accepted and the channel's checkpoint advances. -/
  | chunkCheckpoint (e : Fin 8)
  /-- ENGINE_SLICE_BOUNDARY (R484): At a 1/16-span boundary, an engine finishes its chunk and picks work. -/
  | engineSliceBoundary (e : Fin 8)
  /-- COMPLETION_RECORD (R486): A descriptor's record is written, HEAD advances and a message may be sent. -/
  | completionRecord (e : Fin 8)
  /-- CH_TAIL_WRITE (R477): Writing RTV_CH_TAIL adds descriptors or sets TAIL_ERR. -/
  | chTailWrite (req : Requester) (c : Fin 512) (value : Word)
  /-- CH_ABORT (R487): Writing ABORT stops the descriptor in progress. -/
  | chAbort (req : Requester) (c : Fin 512) (value : Word)
  /-- CH_ENABLE (R489): Writing ENABLE 1 resumes the channel at HEAD. -/
  | chEnable (req : Requester) (c : Fin 512) (value : Word)
  /-- CH_DISABLE (R489): Writing ENABLE 0 disables the channel after its descriptor. -/
  | chDisable (req : Requester) (c : Fin 512) (value : Word)
  /-- CH_BIND (R476): Writing RTV_CH_BIND binds a channel to a kennel and world. -/
  | chBind (req : Requester) (c : Fin 512) (value : Word)
  /-- CH_UNBIND (R476): Writing VALID 0 unbinds a DISABLED channel. -/
  | chUnbind (req : Requester) (c : Fin 512) (value : Word)
  /-- ENGINE_RESET (R482): Writing RESET on a LOST engine starts its reset and self-test. -/
  | engineReset (req : Requester) (e : Fin 8) (value : Word)
  /-- ENGINE_TEST_DONE (R490): The engine self-test ends; on a pass it returns at the next tick. -/
  | engineTestDone (e : Fin 8) (pass : Bool)
  /-- ENGINE_PWR_REQ (R483): Writing PWR_REQ powers an engine off or on. -/
  | enginePwrReq (req : Requester) (e : Fin 8) (value : Word)
  /-- DM_LOCK (R504): Writing dmlock.LOCK locks a translation slot. -/
  | dmLock (d : Fin 4) (ctx : DrmCtx) (va : Word) (value : Word)
  /-- DM_UNLOCK (R504): Writing dmlock.UNLOCK unlocks a slot. -/
  | dmUnlock (d : Fin 4) (value : Word)
  /-- BTB_FLUSH (R499): Writing dmctl.BTB_FLUSH empties the branch target buffer. -/
  | btbFlush (d : Fin 4) (value : Word)
  /-- DMCTL_WRITE (R506): A dmctl write governs the core from the third issue group. -/
  | dmctlWrite (d : Fin 4) (value : Word)
  /-- TETHER_ACCESS (R508): A Tether window access ends OK, ERROR, TIMEOUT or REFUSED. -/
  | tetherAccess (d : Fin 4) (ctx : DrmCtx) (va : Word) (size : Size) (what : DrmAccess)
  /-- FLASH_FILL (R498): A fetch-buffer miss queues a 64 B flash read. -/
  | flashFill (d : Fin 4) (offset : BitVec 28) (demand : Bool)
  /-- FLASH_FILL_DONE (R498): A flash fill ends and waiting requesters restart. -/
  | flashFillDone (data : BitVec 512)
  /-- FLASH_CMD (R501): Writing DRM_FLASH_CMD.GO issues one xSPI command. -/
  | flashCmd (d : Fin 4) (value : Word)
  /-- FLASH_CMD_DONE (R501): An xSPI command ends, and WIP polling begins when WAIT is set. -/
  | flashCmdDone (data : List Byte)
  /-- FLASH_WIP_TIMEOUT (R501): Write-in-progress remains set after 4 s; ERR and DRM_FLASH_FAIL. -/
  | flashWipTimeout
  /-- FB_INV (R501): Writing FB_INV invalidates the fetch buffer. -/
  | fbInv (d : Fin 4) (value : Word)
  /-- FLASH_CFG_WRITE (R500): A DRM_FLASH_CFG write takes effect when no flash transfer runs. -/
  | flashCfgWrite (d : Fin 4) (value : Word)
  /-- SRAM_SCRUB (R502): The scrubber reads one SRAM word every 256 core cycles. -/
  | sramScrub (result : SramResult)
  /-- SRAM_ERROR (R502): An SRAM read is corrected, or raises cause 19 with DRM_SRAM_UE. -/
  | sramError (d : Fin 4) (pc : Word) (word : Fin 65536) (fetch : Bool) (corrected : Bool)
  /-- DRM_CORE_RUN (R509): Writing RUN releases a HELD service core. -/
  | drmCoreRun (d : Fin 4) (target : Fin 4) (value : Word)
  /-- DRM_CORE_LOST (R517): An uncorrectable error stops a service core. -/
  | drmCoreLost (d : Fin 4)
  /-- MB_DOORBELL (R511): A doorbell write with RING sets PENDING and raises MAILBOX in domain 15. -/
  | mbDoorbell (req : Requester) (page : Fin 32) (value : Word)
  /-- MB_STATUS_WRITE (R511): A Tether write of DRM_MB_STATUS raises MAILBOX in the kennel's domain. -/
  | mbStatusWrite (core : Fin 4) (page : Fin 32) (value : Word)
  /-- MB_NOTICE_WRITE (R511): A Tether write of DRM_MB_NOTICE raises MAILBOX in the kennel's domain. -/
  | mbNoticeWrite (core : Fin 4) (page : Fin 32) (value : Word)
  /-- SB_STATUS (R513): Sideband code 0x01 returns 8 status bytes. -/
  | sbStatus
  /-- SB_APPEND (R514): Sideband code 0x02 appends bytes to the request buffer. -/
  | sbAppend (bytes : List Byte)
  /-- SB_COMMIT (R514): Sideband code 0x03 commits the frame after checks. -/
  | sbCommit (seq : Byte)
  /-- SB_READ_RESPONSE (R514): Sideband code 0x04 reads response bytes. -/
  | sbReadResponse (n : Fin 33)
  /-- SB_ABANDON (R514): Sideband code 0x05 empties the buffers. -/
  | sbAbandon
  /-- SB_INVALID_CODE (R513): Any other sideband code is refused. -/
  | sbInvalidCode (code : Byte)
  /-- SB_READY (R514): Writing READY opens or closes the request buffer. -/
  | sbReady (d : Fin 4) (value : Word)
  /-- SB_RSP_GO (R514): Writing RSP_GO offers the response and alerts the controller. -/
  | sbRspGo (d : Fin 4) (value : Word)
  /-- KENNEL_RESET_REQUEST (R516): Mailbox opcode 0x01 resets the requesting kennel if permitted. -/
  | kennelResetRequest (d : Fin 4) (k : Fin 15) (w : Bool)
  /-- RELEASE_PAGES (R516): Mailbox opcode 0x02 returns the kennel's pages with scrub. -/
  | releasePages (d : Fin 4) (k : Fin 15) (w : Bool) (base : BitVec 40) (pages : BitVec 32)
  /-- FAULT_RECORDS (R516): Mailbox opcode 0x03 returns fault records. -/
  | faultRecords (d : Fin 4) (k : Fin 15) (w : Bool)
  /-- SENSORS (R516): Mailbox opcode 0x04 returns temperatures and power. -/
  | sensors (d : Fin 4) (k : Fin 15) (w : Bool)
  /-- PAGES_DONE (R516): Notice 0x0001 reports an ownership change complete. -/
  | pagesDone (d : Fin 4) (k : Fin 15) (w : Bool) (seq : BitVec 16)
  /-- REFLOW_PLANNED (R516): Notice 0x0002 reports an armed reflow. -/
  | reflowPlanned (d : Fin 4) (k : Fin 15) (w : Bool)
  /-- FAULT (R516): Notice 0x0003 reports new fault records. -/
  | fault (d : Fin 4) (k : Fin 15) (w : Bool)
  /-- GET_STATUS (R516): Sideband 0x01 returns image, kennel and heel state. -/
  | getStatus (d : Fin 4)
  /-- GET_SENSORS (R516): Sideband 0x02 returns temperatures, currents and power. -/
  | getSensors (d : Fin 4)
  /-- GET_FAULTS (R516): Sideband 0x03 returns sticky bits and unit logs. -/
  | getFaults (d : Fin 4)
  /-- READ_DUMP (R516): Sideband 0x04 returns up to 240 B of a dump. -/
  | readDump (d : Fin 4) (sram : Bool) (offset : BitVec 26) (n : Fin 241)
  /-- IMAGE_CHUNK (R516): Sideband 0x05 loads an image chunk into SRAM. -/
  | imageChunk (d : Fin 4) (offset : Fin 524288) (data : List Byte)
  /-- IMAGE_END (R516): Sideband 0x06 ends the image load. -/
  | imageEnd (d : Fin 4)
  /-- POWER_CAP (R516): Sideband 0x07 sets a TDP by reflow. -/
  | powerCap (d : Fin 4) (tdp : BitVec 16)
  /-- KENNEL_CTL (R516): Sideband 0x08 stops or resets a kennel. -/
  | kennelCtl (d : Fin 4) (k : Fin 16) (reset : Bool)
  /-- SOCKET_RESET (R516): Sideband 0x09 warm-resets the socket. -/
  | socketReset (d : Fin 4)
  /-- RING_EVENT (R516): Sideband 0x0A sends a SCHED EVENT frame. -/
  | ringEvent (d : Fin 4) (target : BitVec 48) (arg : Word)
  /-- FAULT_EVENT (R523): A station delivers a fault event and the collector sets its sticky bit. -/
  | faultEvent (src : Fin 1280) (sub : Fin 4)
  /-- FAULT_REACTION (R525): The collector takes a source's class reaction. -/
  | faultReaction
  /-- HEEL_CMD (R541): A Tether write of 0xA5 to FCR_HEEL.CMD enters the heel state. -/
  | heelCmd (req : Requester) (value : Word)
  /-- FATAL_DUMP (R549): Derrum writes the SRAM summary and the dump. -/
  | fatalDump (core : Fin 4)
  /-- DUMP_DONE (R542): Derrum writes DUMP_DONE after dump and self-refresh. -/
  | dumpDone (req : Requester) (value : Word)
  /-- HW_SR_FALLBACK (R545): Two seconds after heel entry without DUMP_DONE, the collector forces self-refresh. -/
  | hwSrFallback
  /-- HEEL_NOTICE (R546): A Brace heel notice raises BRACE_PEER_HEEL. -/
  | heelNotice (b : Fin 3)
  /-- COLLECTOR_WALK (R538): Every 64 µs, the collector checks its storage parity. -/
  | collectorWalk (bad : Option (Fin 4))
  /-- INJECT_EVENT (R540): FCR_INJECT.GO delivers a source event in factory mode. -/
  | injectEvent (req : Requester) (value : Word)
  /-- INJECT_COLLECTOR (R540): FCR_INJECT.COLLECTOR corrupts sticky parity. -/
  | injectCollector (req : Requester) (value : Word)
  /-- CORE_OFFLINE (R536): Writing OFFLINE takes a core out of service. -/
  | coreOffline (req : Requester) (h : Fin 256) (value : Word)
  /-- CORE_LBIST (R537): Writing LBIST runs an OFFLINE core's self-test. -/
  | coreLbist (req : Requester) (h : Fin 256) (value : Word)
  /-- LBIST_DONE (R537): The self-test ends PASS or FAIL. -/
  | lbistDone (h : Fin 256) (pass : Bool)
  /-- CORE_POWER_SWITCH (R564): At a tick, a core's power gates switch off or on. -/
  | corePowerSwitch (h : Fin 256)
  /-- CORE_SAVE_DONE (R559): A core finishes flush and save, and its clock is gated. -/
  | coreSaveDone (h : Fin 256)
  /-- CORE_WAKE (R566): An interrupt or debug halt wakes a sleeping core. -/
  | coreWake (h : Fin 256)
  /-- CORE_EXIT_START (R563): At E minus exit latency, the core begins its exit. -/
  | coreExitStart (h : Fin 256)
  /-- CORE_RESTORE_DONE (R559): Restore ends and the core fetches. -/
  | coreRestoreDone (h : Fin 256)
  /-- CORE_FORCE_STATE (R565): Writing REQ 2, 3 or 4 forces a power state. -/
  | coreForceState (req : Requester) (h : Fin 256) (value : Word)
  /-- CORE_FORCE_RELEASE (R565): Writing REQ 0 releases a forced state. -/
  | coreForceRelease (req : Requester) (h : Fin 256) (value : Word)
  /-- CORE_STOP_REQUEST (R567): Writing REQ 7 stops the hart at its next WFI or WFS. -/
  | coreStopRequest (req : Requester) (h : Fin 256) (value : Word)
  /-- CORE_UNIT_RESET (R578): Writing UNIT_RESET resets an OFFLINE core into service. -/
  | coreUnitReset (req : Requester) (h : Fin 256) (value : Word)
  /-- KENNEL_RELEASE (R568): Writing PWR_KREL.GO releases a kennel's sentinel. -/
  | kennelRelease (req : Requester) (value : Word)
  /-- CORE_START (R569): Writing TILE_CORE_START.GO starts a STOPPED core. -/
  | coreStart (req : Requester) (h : Fin 256) (value : Word)
  /-- PACK_FREQ_REQUEST (R571): Writing REQ_MHZ requests a pack frequency. -/
  | packFreqRequest (req : Requester) (n : Fin 64) (value : Word)
  /-- PACK_FREQ_CHANGE (R571): A pack frequency change is applied with a stall of at most 300 ns. -/
  | packFreqChange (n : Fin 64)
  /-- VIN_LIMIT (R573): VIN_MAIN over VIN_IMAX for 1 µs halves every pack clock. -/
  | vinLimit
  /-- VIN_RECOVER (R573): Full clocks return after a span below 95 % of VIN_IMAX. -/
  | vinRecover
  /-- THERMAL_EMERGENCY (R574): A sensor reads 130 °C; packs go to 800 MHz. -/
  | thermalEmergency (sensor : Fin 68) (temp : Int)
  /-- EMERGENCY_FORCE_CS4 (R574): A tile still at 130 °C after 1 ms is forced to CS4. -/
  | emergencyForceCs4 (n : Fin 64)
  /-- EMERGENCY_END (R574): Sensors below THROTTLE_C for 1 ms end the emergency. -/
  | emergencyEnd (temps : List (Fin 68 × Int))
  /-- THERMAL_TRIP (R575): A sensor reads 135 °C; packs off, heel state and THERMTRIP_N. -/
  | thermalTrip (sensor : Fin 68) (temp : Int)
  /-- COLD_RESET (R576): PWR_OK low or rail loss resets the socket. -/
  | coldReset
  /-- WARM_RESET (R577): WARM_RST_N low resets the socket, keeping DRAM in self-refresh. -/
  | warmReset
  /-- WARM_RESET_CMD (R576): A Tether write of 0x5A to PWR_RST_CTL.CMD starts a warm reset. -/
  | warmResetCmd (req : Requester) (value : Word)
  /-- WARM_RESET_RELEASE (R577): At release, service core 0 starts at flash offset 0. -/
  | warmResetRelease
  /-- POWER_ON (R588): PWR_OK rises; straps are sampled and boot begins. -/
  | powerOn (straps : BitVec 6) (orderOk : Bool)
  /-- RAIL_UNDERVOLTAGE (R587): A rail below 90 % for 1 µs starts a cold reset. -/
  | railUndervoltage (rail : Fin 6)
  /-- JTAG_INSTRUCTION (R604): A TAP instruction acts, or acts as BYPASS after the seal. -/
  | jtagInstruction (ir : JtagIr)
  /-- DEBUG_AUTH (R605): An authdata exchange goes to Derrum, which sets authentication. -/
  | debugAuth (data : BitVec 32) (grant : Option Bool)
  /-- BIND_OK (R194): A BIND_OK answer reaches the hart and its speculative fill buffer entry moves from SPEC to BOUND. -/
  | bindOk (h : Fin 256) (line : Line)
  /-- COMPLETION (R308): A grant without data, a completion or an error completion reaches its requester or home agent and ends the waiting transaction. -/
  | completion (who : ReqSrc) (line : Line)
  /-- SLICE_DISABLING_DONE (R268): A DISABLING slice finishes writing back its sets and returns to READY. -/
  | sliceDisablingDone (n : Fin 64)
  /-- COMMAND_SLOT (R339): On each command slot a subchannel picks and issues a DRAM command by the urgent, batch, read and opportunistic rules, and precharges idle banks. -/
  | commandSlot (m : Fin 16) (sub : Fin 2) (clocks : Nat) (ready : List (Fin 64 × Fin 8 × Fin 4))
  /-- HOST_COMMAND_WRITE (R454): The host writes the endpoint function's configuration space, setting Bus Master Enable, Interrupt Disable or MSI enable and masks. -/
  | hostCommandWrite (p : Fin 8) (what : HostWrite)
  /-- BRACE_FLIT_REPLAY (R315): A Brace link detects a flit error, replays the flit, increments REPLAYS and raises BRACE_CE. -/
  | braceFlitReplay (b : Fin 3)
  /-- PTM_REQUEST (R446): A device's PTM request arrives on a link and the port answers with time from the socket timebase. -/
  | ptmRequest (p : Fin 8) (j : Fin 4)
  /-- WRITE_IN_PROGRESS_CLEAR (R501): The status poll finds the flash write-in-progress bit clear, the command ends and fetch-buffer misses resume. -/
  | writeInProgressClear
  /-- DEBUG_HALT_REQUEST (R566): The debug module, when authenticated, requests a halt or resume of a hart, which wakes it and ends a WFS wait. -/
  | debugHaltRequest (h : Fin 260) (halt : Bool)
  /-- EMERGENCY_CORE_RESUME (R574): A tile's sensor reads below THROTTLE_C and its unheld cores forced into CS4 by the emergency resume. -/
  | emergencyCoreResume (n : Fin 64) (temp : Int)
  deriving DecidableEq, Repr

end Sys2Proof
end

