-- ==== Sys2Proof/Config.lean ====
section
/-!
DEFINITION. What an implementation fixes and the spec leaves open: the free values.
-/
namespace Sys2Proof

/-- A free value of `w` bits: the value the part shows where the spec states none, for the `n`-th such value of a run
(log 1). It has no body: nothing can be proved of it but that it has `w` bits. -/
opaque Config.free (n w : Nat) : BitVec w

end Sys2Proof
end

