-- ==== Sys2Proof/Machine/Regs.lean ====
section
/-!
DEFINITION. The register tables of the spec as data: the registers of R616, R509, R139 and R505 by name, the field rows of
their tables (bits, access code of R7, reset value and reset kinds of R12), their places in register space (R609, R610),
path codes (R615) and where they are held (R26).
-/
namespace Sys2Proof.Machine

/-- Every register of the register index (R616), the Derrum local registers (R509, R515), the Skohal CSRs of the harts (R139)
and of the service cores (R505), under its own name. `ICN_CTX_*` hold the S context (element 0) and the guest contexts
(elements 1 to 7) of a hart; `ICN_MCTX_*` its M context. -/
inductive Reg where
  | SYS_ID | SYS_STRAP | SYS_CS_STATUS | SYS_QOS_LEDGER | SYS_QOS_LEND | SYS_QOS_POOL
  | SYS_QOS_STATUS | SYS_QOS_HOLDCNT | SYS_KCTL | SPN_CTL | SPN_STATUS | SPN_SPAN
  | SPN_RACKTIME | SPN_CFG | SPN_DELAY | SPN_RING_DELAY | SPN_TIME_LOAD | SPN_SCHED_TX0
  | SPN_SCHED_TX1 | SPN_SCHED_RX0 | SPN_SCHED_RX1 | SPN_FALLEN | SPN_OVERRUN | ZNX_OWNER
  | ZNX_CMD | ZNX_SRC | ZNX_STATUS | ZNX_REFLOW_TARGET | ZNX_REFLOW_RESULT | ZNX_REFLOW_COUNT
  | ZNX_FUSE | ZNX_DIGEST | ZNX_BUILD | ZNX_PAIR | FCR_STICKY | FCR_SUMMARY
  | FCR_CLASS | FCR_KPEND | FCR_HEEL | FCR_HEEL_SPAN | FCR_INJECT | PWR_KREL
  | PWR_KSTART_N | PWR_CFG | PWR_STATUS | PWR_RST_CTL | PWR_SHOLD | OWN_TABLE
  | OWN_TABLE_PAGES | OWN_DUMP | OWN_INV | OWN_CMD | OWN_CMD_BASE | OWN_STATUS
  | OWN_DENY | ICN_WIRE | ICN_DOM_CFG | ICN_DOM_MSG | ICN_DOM_PTAB | ICN_DOM_STATUS
  | ICN_DOM_LOST | ICN_DRM_CLAIM | ICN_DRM_THRESH | ICN_GRP | ICN_CTX_CLAIM | ICN_CTX_THRESH
  | ICN_GCTX | ICN_MCTX_CLAIM | ICN_MCTX_THRESH | ICN_SRC | TILE_CORE_MCLOG | TILE_CORE_TEST
  | TILE_CORE_HALT | TILE_CACHE_CTL | TILE_SLICE_CTL | TILE_SLICE_STATUS | TILE_SLICE_ERRLOG | TILE_SLICE_ERRADDR
  | TILE_HA_STATUS | TILE_HA_EPOCH | TILE_SLICE_OCC | TILE_MS_GRAIN | TILE_MS_RETRY | TILE_MS_LINKERR
  | TILE_SHOLD | TILE_CORE_PWR | TILE_PACK_FREQ | TILE_CORE_START | MC_CFG | MC_STATUS
  | MC_WQ_WM | MC_CTL | MC_DIMM_CFG | MC_SPD | MC_TRAIN_STATUS | MC_RETRAIN_CFG
  | MC_REFRESH | MC_SCRUB | MC_ERR_LOG | MC_ERR_ADDR | MC_ERR_CNT | MC_DEV_MARK
  | MC_CE_THRESH | MC_PPR_CTL | MC_PPR_STATUS | MC_RESILVER | MC_PPR_LOG | MC_REGION_CFG
  | MC_REGION_LIMIT | IOP_CFG | IOP_LINK_CTL | IOP_LINK_STATUS | IOP_LINK_INTX | IOP_LINK_ERR
  | IOP_LINK_ERRADDR | IOP_LINK_CXL | IOP_EP_CTL | IOP_EP_ID | IOP_EP_BAR | IOP_EP_STATUS
  | IOP_EP_INTX | IOP_EP_MSI | IOP_EP_XCOMMIT | IOP_EP_XLAT | IOP_EP_XLAT_TGT | IOP_EP_XSH
  | IOP_EP_XSH_TGT | BRC_STATUS | BRC_CTL | RTV_ENG_STATUS | RTV_ENG_CTL | RTV_CH_BIND
  | RTV_CH_RING | RTV_CH_TAIL | RTV_CH_HEAD | RTV_CH_CTL | RTV_CH_STATUS | RTV_CH_PROGRESS
  | DRM_MB_DOORBELL | DRM_MB_STATUS | DRM_MB_NOTICE | DRM_MB_REQ | DRM_MB_RSP | DRM_MB_PENDING
  | DRM_CORE_CTL | DRM_TIME | DRM_TIMECMP | DRM_MSIP | DRM_TETHER_ERR | DRM_FLASH_CFG
  | DRM_FLASH_CMD | DRM_FLASH_DATA | DRM_SRAM_ERR | DRM_SB_CTL | DRM_SB_REQ | DRM_SB_RSP
  | tlctl | tlpred | tlworld | tlwvec | tlpf | tllock
  | tlspan | tlwin | dmctl | dmlock | dmlkva
  deriving DecidableEq, Repr

/-- The access codes of R7 (RWS and RsvdP stand in no table of the spec). -/
inductive Acc where
  | rw | ro | wo | w1c | w1s | rc | rwl
  deriving DecidableEq, Repr

/-- The sets of reset kinds that occur in the Reset columns (R12). -/
inductive Kinds where
  | c | cw | cwk
  deriving DecidableEq, Repr

/-- One field row of a register table: lowest bit, width, access code, reset value, and which of the reset kinds cold (c),
warm (w) and kennel (k) load it (R12). Bits that no row covers are RsvdZ. Image, strap and fuse values stand as 0 until the image, strap or fuse gives them
(log 2). -/
structure Row where
  lo : Nat
  wd : Nat
  acc : Acc
  reset : Nat
  kinds : Kinds
  deriving DecidableEq, Repr

/-- A named field of a register. -/
structure Fld where
  reg : Reg
  lo : Nat
  wd : Nat
  deriving DecidableEq, Repr

/-- The key of one register: its name and its element numbers (instance, then element). -/
structure RK where
  reg : Reg
  i : Nat
  j : Nat
  deriving DecidableEq, Repr


/-- The field rows of SYS_ID. -/
def rows_SYS_ID : List Row :=
  [⟨48, 1, .ro, 0x0, .c⟩, ⟨32, 16, .ro, 0x9256, .c⟩, ⟨24, 8, .ro, 0xB0, .c⟩, ⟨20, 4, .ro, 0x4, .c⟩, ⟨16, 4, .ro, 0x2, .c⟩, ⟨8, 8, .ro, 0x40, .c⟩]
/-- The field rows of SYS_STRAP. -/
def rows_SYS_STRAP : List Row :=
  [⟨7, 1, .ro, 0x0, .c⟩, ⟨6, 1, .ro, 0x0, .c⟩, ⟨3, 3, .ro, 0x0, .c⟩, ⟨2, 1, .ro, 0x0, .c⟩]
/-- The field rows of SYS_CS_STATUS. -/
def rows_SYS_CS_STATUS : List Row :=
  [⟨32, 22, .ro, 0x0, .cw⟩, ⟨24, 8, .ro, 0x0, .cw⟩, ⟨20, 1, .ro, 0x0, .cw⟩, ⟨16, 4, .ro, 0x0, .cw⟩, ⟨4, 1, .w1c, 0x0, .cw⟩, ⟨3, 1, .w1c, 0x0, .cw⟩, ⟨2, 1, .w1c, 0x0, .cw⟩, ⟨1, 1, .w1c, 0x0, .cw⟩, ⟨0, 1, .ro, 0x0, .cw⟩]
/-- The field rows of SYS_QOS_LEDGER. -/
def rows_SYS_QOS_LEDGER : List Row :=
  [⟨32, 32, .ro, 0x0, .cw⟩, ⟨0, 32, .ro, 0x0, .cw⟩]
/-- The field rows of SYS_QOS_LEND. -/
def rows_SYS_QOS_LEND : List Row :=
  [⟨32, 32, .ro, 0x0, .cw⟩, ⟨0, 32, .ro, 0x0, .cw⟩]
/-- The field rows of SYS_QOS_POOL. -/
def rows_SYS_QOS_POOL : List Row :=
  [⟨32, 32, .ro, 0x0, .cw⟩, ⟨0, 32, .ro, 0x0, .cw⟩]
/-- The field rows of SYS_QOS_STATUS. -/
def rows_SYS_QOS_STATUS : List Row :=
  [⟨16, 16, .ro, 0x0, .cw⟩, ⟨0, 16, .ro, 0x0, .cw⟩]
/-- The field rows of SYS_QOS_HOLDCNT. -/
def rows_SYS_QOS_HOLDCNT : List Row :=
  [⟨63, 1, .wo, 0x0, .cw⟩, ⟨32, 18, .ro, 0x0, .cw⟩, ⟨0, 32, .ro, 0x0, .cw⟩]
/-- The field rows of SYS_KCTL. -/
def rows_SYS_KCTL : List Row :=
  [⟨44, 4, .ro, 0x0, .cw⟩, ⟨40, 4, .ro, 0x0, .cw⟩, ⟨8, 1, .ro, 0x0, .cw⟩, ⟨3, 1, .w1c, 0x0, .cw⟩, ⟨2, 1, .w1s, 0x0, .cw⟩, ⟨1, 1, .w1s, 0x0, .cw⟩]
/-- The field rows of SPN_CTL. -/
def rows_SPN_CTL : List Row :=
  [⟨2, 1, .rw, 0x0, .cw⟩, ⟨1, 1, .w1s, 0x0, .cw⟩, ⟨0, 1, .rw, 0x0, .cw⟩]
/-- The field rows of SPN_STATUS. -/
def rows_SPN_STATUS : List Row :=
  [⟨20, 12, .ro, 0x0, .cw⟩, ⟨17, 1, .w1c, 0x0, .cw⟩, ⟨16, 1, .w1c, 0x0, .cw⟩, ⟨15, 1, .w1c, 0x0, .cw⟩, ⟨14, 1, .w1c, 0x0, .cw⟩, ⟨13, 1, .w1c, 0x0, .cw⟩, ⟨12, 1, .w1c, 0x0, .cw⟩, ⟨11, 1, .w1c, 0x0, .cw⟩, ⟨10, 1, .w1c, 0x0, .cw⟩, ⟨9, 1, .w1c, 0x0, .cw⟩, ⟨8, 1, .w1c, 0x0, .cw⟩, ⟨7, 1, .ro, 0x0, .cw⟩, ⟨6, 1, .ro, 0x0, .c⟩, ⟨4, 2, .ro, 0x0, .cw⟩, ⟨0, 3, .ro, 0x0, .cw⟩]
/-- The field rows of SPN_SPAN. -/
def rows_SPN_SPAN : List Row :=
  [⟨63, 1, .ro, 0x1, .cw⟩, ⟨0, 48, .ro, 0x0, .cw⟩]
/-- The field rows of SPN_RACKTIME. -/
def rows_SPN_RACKTIME : List Row :=
  [⟨0, 64, .ro, 0x0, .cw⟩]
/-- The field rows of SPN_CFG. -/
def rows_SPN_CFG : List Row :=
  [⟨16, 8, .rwl, 0x0, .cw⟩, ⟨4, 7, .rwl, 0x20, .cw⟩, ⟨0, 3, .rwl, 0x1, .cw⟩]
/-- The field rows of SPN_DELAY. -/
def rows_SPN_DELAY : List Row :=
  [⟨24, 24, .ro, 0x0, .cw⟩, ⟨0, 24, .ro, 0x0, .cw⟩]
/-- The field rows of SPN_RING_DELAY. -/
def rows_SPN_RING_DELAY : List Row :=
  [⟨24, 24, .ro, 0x0, .cw⟩, ⟨0, 24, .ro, 0x0, .cw⟩]
/-- The field rows of SPN_TIME_LOAD. -/
def rows_SPN_TIME_LOAD : List Row :=
  [⟨0, 64, .wo, 0x0, .cw⟩]
/-- The field rows of SPN_SCHED_TX0. -/
def rows_SPN_SCHED_TX0 : List Row :=
  [⟨63, 1, .w1s, 0x0, .cw⟩, ⟨48, 8, .rw, 0x0, .cw⟩, ⟨0, 48, .rw, 0x0, .cw⟩]
/-- The field rows of SPN_SCHED_TX1. -/
def rows_SPN_SCHED_TX1 : List Row :=
  [⟨0, 64, .rw, 0x0, .cw⟩]
/-- The field rows of SPN_SCHED_RX0. -/
def rows_SPN_SCHED_RX0 : List Row :=
  [⟨63, 1, .w1c, 0x0, .cw⟩, ⟨48, 8, .ro, 0x0, .cw⟩, ⟨0, 48, .ro, 0x0, .cw⟩]
/-- The field rows of SPN_SCHED_RX1. -/
def rows_SPN_SCHED_RX1 : List Row :=
  [⟨0, 64, .ro, 0x0, .cw⟩]
/-- The field rows of SPN_FALLEN. -/
def rows_SPN_FALLEN : List Row :=
  [⟨0, 64, .ro, 0x0, .cw⟩]
/-- The field rows of SPN_OVERRUN. -/
def rows_SPN_OVERRUN : List Row :=
  [⟨32, 32, .ro, 0x0, .cw⟩, ⟨31, 1, .wo, 0x0, .cw⟩, ⟨1, 1, .w1c, 0x0, .cw⟩, ⟨0, 1, .w1c, 0x0, .cw⟩]
/-- The field rows of ZNX_OWNER. -/
def rows_ZNX_OWNER : List Row :=
  [⟨16, 1, .ro, 0x0, .cw⟩, ⟨0, 16, .ro, 0x0, .cw⟩]
/-- The field rows of ZNX_CMD. -/
def rows_ZNX_CMD : List Row :=
  [⟨0, 8, .wo, 0x0, .cw⟩]
/-- The field rows of ZNX_SRC. -/
def rows_ZNX_SRC : List Row :=
  [⟨32, 32, .rw, 0x0, .cw⟩, ⟨0, 19, .rw, 0x0, .cw⟩]
/-- The field rows of ZNX_STATUS. -/
def rows_ZNX_STATUS : List Row :=
  [⟨48, 16, .ro, 0x0, .cw⟩, ⟨40, 8, .ro, 0x0, .cw⟩, ⟨32, 8, .ro, 0x0, .cw⟩, ⟨24, 3, .ro, 0x0, .cw⟩, ⟨16, 3, .ro, 0x0, .cw⟩, ⟨2, 1, .ro, 0x0, .cw⟩, ⟨1, 1, .w1c, 0x0, .cw⟩, ⟨0, 1, .w1c, 0x0, .cw⟩]
/-- The field rows of ZNX_REFLOW_TARGET. -/
def rows_ZNX_REFLOW_TARGET : List Row :=
  [⟨0, 48, .rw, 0x0, .cw⟩]
/-- The field rows of ZNX_REFLOW_RESULT. -/
def rows_ZNX_REFLOW_RESULT : List Row :=
  [⟨62, 2, .ro, 0x0, .cw⟩, ⟨56, 6, .ro, 0x0, .cw⟩, ⟨48, 8, .ro, 0x0, .cw⟩, ⟨0, 48, .ro, 0x0, .cw⟩]
/-- The field rows of ZNX_REFLOW_COUNT. -/
def rows_ZNX_REFLOW_COUNT : List Row :=
  [⟨0, 32, .ro, 0x0, .cw⟩]
/-- The field rows of ZNX_FUSE. -/
def rows_ZNX_FUSE : List Row :=
  [⟨16, 32, .ro, 0x0, .c⟩, ⟨8, 1, .ro, 0x0, .c⟩, ⟨4, 4, .ro, 0x0, .c⟩, ⟨0, 4, .ro, 0x0, .c⟩]
/-- The field rows of ZNX_DIGEST. -/
def rows_ZNX_DIGEST : List Row :=
  [⟨0, 64, .ro, 0x0, .cw⟩]
/-- The field rows of ZNX_BUILD. -/
def rows_ZNX_BUILD : List Row :=
  [⟨0, 64, .ro, 0x0, .cw⟩]
/-- The field rows of ZNX_PAIR. -/
abbrev rows_ZNX_PAIR : List Row := rows_ZNX_BUILD
/-- The field rows of FCR_STICKY. -/
def rows_FCR_STICKY : List Row :=
  [⟨0, 64, .w1c, 0x0, .c⟩]
/-- The field rows of FCR_SUMMARY. -/
def rows_FCR_SUMMARY : List Row :=
  [⟨0, 20, .ro, 0x0, .c⟩]
/-- The field rows of FCR_CLASS. -/
def rows_FCR_CLASS : List Row :=
  [⟨0, 3, .rwl, 0x0, .cw⟩, ⟨4, 3, .rwl, 0x0, .cw⟩, ⟨8, 3, .rwl, 0x0, .cw⟩, ⟨12, 3, .rwl, 0x0, .cw⟩, ⟨16, 3, .rwl, 0x0, .cw⟩, ⟨20, 3, .rwl, 0x0, .cw⟩, ⟨24, 3, .rwl, 0x0, .cw⟩, ⟨28, 3, .rwl, 0x0, .cw⟩, ⟨32, 3, .rwl, 0x0, .cw⟩, ⟨36, 3, .rwl, 0x0, .cw⟩, ⟨40, 3, .rwl, 0x0, .cw⟩, ⟨44, 3, .rwl, 0x0, .cw⟩, ⟨48, 3, .rwl, 0x0, .cw⟩, ⟨52, 3, .rwl, 0x0, .cw⟩, ⟨56, 3, .rwl, 0x0, .cw⟩, ⟨60, 3, .rwl, 0x0, .cw⟩]
/-- The field rows of FCR_KPEND. -/
def rows_FCR_KPEND : List Row :=
  [⟨0, 16, .w1c, 0x0, .cw⟩]
/-- The field rows of FCR_HEEL. -/
def rows_FCR_HEEL : List Row :=
  [⟨56, 8, .wo, 0x0, .cw⟩, ⟨48, 8, .ro, 0x0, .c⟩, ⟨47, 1, .w1s, 0x0, .cw⟩, ⟨46, 1, .ro, 0x0, .cw⟩, ⟨43, 3, .ro, 0x0, .c⟩, ⟨37, 3, .ro, 0x0, .c⟩, ⟨24, 11, .ro, 0x7FF, .c⟩, ⟨0, 1, .ro, 0x0, .cw⟩]
/-- The field rows of FCR_HEEL_SPAN. -/
def rows_FCR_HEEL_SPAN : List Row :=
  [⟨0, 48, .ro, 0x0, .c⟩]
/-- The field rows of FCR_INJECT. -/
def rows_FCR_INJECT : List Row :=
  [⟨63, 1, .w1s, 0x0, .cw⟩, ⟨62, 1, .w1s, 0x0, .cw⟩, ⟨0, 11, .rw, 0x0, .cw⟩]
/-- The field rows of PWR_KREL. -/
def rows_PWR_KREL : List Row :=
  [⟨63, 1, .w1s, 0x0, .cw⟩, ⟨62, 1, .w1c, 0x0, .cw⟩, ⟨61, 1, .ro, 0x0, .cw⟩, ⟨52, 4, .rw, 0x0, .cw⟩, ⟨2, 50, .rw, 0x0, .cw⟩]
/-- The field rows of PWR_KSTART_N. -/
def rows_PWR_KSTART_N : List Row :=
  [⟨0, 16, .rw, 0x0, .cw⟩]
/-- The field rows of PWR_CFG. -/
def rows_PWR_CFG : List Row :=
  [⟨48, 16, .rwl, 0x0, .cw⟩, ⟨32, 16, .rwl, 0x0, .cw⟩, ⟨24, 8, .rwl, 0x0, .cw⟩, ⟨12, 12, .rwl, 0x0, .cw⟩, ⟨0, 12, .rw, 0x32, .cw⟩]
/-- The field rows of PWR_STATUS. -/
def rows_PWR_STATUS : List Row :=
  [⟨48, 16, .ro, 0x0, .cw⟩, ⟨40, 8, .ro, 0x0, .cw⟩, ⟨28, 12, .ro, 0xED8, .cw⟩, ⟨13, 7, .ro, 0x0, .cw⟩, ⟨3, 1, .ro, 0x0, .c⟩, ⟨2, 1, .ro, 0x0, .cw⟩, ⟨1, 1, .ro, 0x0, .cw⟩, ⟨0, 1, .ro, 0x0, .cw⟩]
/-- The field rows of PWR_RST_CTL. -/
def rows_PWR_RST_CTL : List Row :=
  [⟨56, 8, .wo, 0x0, .cw⟩, ⟨4, 4, .ro, 0x0, .c⟩]
/-- The field rows of PWR_SHOLD. -/
def rows_PWR_SHOLD : List Row :=
  [⟨48, 8, .ro, 0x0, .cwk⟩, ⟨40, 1, .w1c, 0x0, .cw⟩, ⟨39, 1, .w1c, 0x0, .cwk⟩, ⟨38, 1, .ro, 0x0, .cwk⟩, ⟨37, 1, .w1c, 0x0, .cwk⟩, ⟨36, 1, .w1c, 0x0, .cwk⟩, ⟨32, 2, .wo, 0x0, .cw⟩, ⟨24, 4, .ro, 0x0, .cwk⟩]
/-- The field rows of OWN_TABLE. -/
def rows_OWN_TABLE : List Row :=
  [⟨21, 31, .rwl, 0x0, .cw⟩]
/-- The field rows of OWN_TABLE_PAGES. -/
def rows_OWN_TABLE_PAGES : List Row :=
  [⟨0, 32, .rwl, 0x0, .cw⟩]
/-- The field rows of OWN_DUMP. -/
def rows_OWN_DUMP : List Row :=
  [⟨26, 26, .rwl, 0x0, .cw⟩]
/-- The field rows of OWN_INV. -/
def rows_OWN_INV : List Row :=
  [⟨63, 1, .w1s, 0x0, .cw⟩, ⟨62, 1, .rw, 0x0, .cw⟩, ⟨12, 40, .rw, 0x0, .cw⟩]
/-- The field rows of OWN_CMD. -/
def rows_OWN_CMD : List Row :=
  [⟨63, 1, .w1s, 0x0, .cw⟩, ⟨56, 2, .rw, 0x0, .cw⟩, ⟨48, 1, .rw, 0x0, .cw⟩, ⟨32, 8, .rw, 0x0, .cw⟩, ⟨0, 32, .rw, 0x0, .cw⟩]
/-- The field rows of OWN_CMD_BASE. -/
def rows_OWN_CMD_BASE : List Row :=
  [⟨12, 40, .rw, 0x0, .cw⟩]
/-- The field rows of OWN_STATUS. -/
def rows_OWN_STATUS : List Row :=
  [⟨32, 32, .ro, 0x0, .cw⟩, ⟨16, 8, .ro, 0x0, .cw⟩, ⟨2, 1, .ro, 0x0, .cw⟩, ⟨1, 1, .w1c, 0x0, .cw⟩, ⟨0, 1, .w1c, 0x0, .cw⟩]
/-- The field rows of OWN_DENY. -/
def rows_OWN_DENY : List Row :=
  [⟨63, 1, .w1c, 0x0, .cw⟩, ⟨62, 1, .ro, 0x0, .cw⟩, ⟨59, 3, .ro, 0x0, .cw⟩, ⟨58, 1, .ro, 0x0, .cw⟩, ⟨54, 4, .ro, 0x0, .cw⟩, ⟨52, 2, .ro, 0x0, .cw⟩, ⟨12, 40, .ro, 0x0, .cw⟩, ⟨0, 12, .ro, 0x0, .cw⟩]
/-- The field rows of ICN_WIRE. -/
def rows_ICN_WIRE : List Row :=
  [⟨63, 1, .rw, 0x0, .cw⟩, ⟨62, 1, .rw, 0x0, .cw⟩, ⟨61, 1, .ro, 0x0, .cw⟩, ⟨60, 1, .w1c, 0x0, .cw⟩, ⟨16, 4, .rw, 0x0, .cw⟩, ⟨0, 12, .rw, 0x0, .cw⟩]
/-- The field rows of ICN_DOM_CFG. -/
def rows_ICN_DOM_CFG : List Row :=
  [⟨40, 8, .ro, 0x0, .cw⟩, ⟨35, 1, .ro, 0x0, .cw⟩, ⟨34, 1, .ro, 0x0, .cw⟩, ⟨33, 1, .ro, 0x0, .cw⟩, ⟨16, 3, .ro, 0x0, .cw⟩, ⟨0, 16, .ro, 0x0, .cw⟩]
/-- The field rows of ICN_DOM_MSG. -/
def rows_ICN_DOM_MSG : List Row :=
  [⟨0, 12, .wo, 0x0, .cw⟩]
/-- The field rows of ICN_DOM_PTAB. -/
def rows_ICN_DOM_PTAB : List Row :=
  [⟨52, 11, .rw, 0x0, .cwk⟩, ⟨12, 40, .rw, 0x0, .cwk⟩]
/-- The field rows of ICN_DOM_STATUS. -/
def rows_ICN_DOM_STATUS : List Row :=
  [⟨48, 16, .rc, 0x0, .cwk⟩, ⟨6, 1, .w1c, 0x0, .cwk⟩, ⟨5, 1, .w1c, 0x0, .cwk⟩, ⟨4, 1, .w1c, 0x0, .cwk⟩, ⟨3, 1, .w1c, 0x0, .cwk⟩, ⟨2, 1, .w1c, 0x0, .cwk⟩, ⟨1, 1, .w1c, 0x0, .cwk⟩]
/-- The field rows of ICN_DOM_LOST. -/
def rows_ICN_DOM_LOST : List Row :=
  [⟨0, 64, .w1c, 0x0, .cw⟩]
/-- The field rows of ICN_DRM_CLAIM. -/
def rows_ICN_DRM_CLAIM : List Row :=
  [⟨0, 12, .rw, 0x0, .cwk⟩]
/-- The field rows of ICN_DRM_THRESH. -/
def rows_ICN_DRM_THRESH : List Row :=
  [⟨63, 1, .ro, 0x0, .cwk⟩, ⟨62, 1, .ro, 0x0, .cwk⟩, ⟨0, 4, .rw, 0x0, .cwk⟩]
/-- The field rows of ICN_GRP. -/
def rows_ICN_GRP : List Row :=
  [⟨32, 24, .ro, 0x0, .cwk⟩, ⟨9, 1, .ro, 0x0, .cwk⟩, ⟨8, 1, .rw, 0x0, .cwk⟩, ⟨0, 6, .rw, 0x0, .cwk⟩]
/-- The field rows of ICN_CTX_CLAIM. -/
abbrev rows_ICN_CTX_CLAIM : List Row := rows_ICN_DRM_CLAIM
/-- The field rows of ICN_CTX_THRESH. -/
abbrev rows_ICN_CTX_THRESH : List Row := rows_ICN_DRM_THRESH
/-- The field rows of ICN_GCTX. -/
def rows_ICN_GCTX : List Row :=
  [⟨63, 1, .rw, 0x0, .cwk⟩, ⟨0, 10, .rw, 0x0, .cwk⟩]
/-- The field rows of ICN_MCTX_CLAIM. -/
abbrev rows_ICN_MCTX_CLAIM : List Row := rows_ICN_DRM_CLAIM
/-- The field rows of ICN_MCTX_THRESH. -/
abbrev rows_ICN_MCTX_THRESH : List Row := rows_ICN_DRM_THRESH
/-- The field rows of ICN_SRC. -/
def rows_ICN_SRC : List Row :=
  [⟨63, 1, .ro, 0x0, .cwk⟩, ⟨62, 1, .ro, 0x0, .cwk⟩, ⟨61, 1, .wo, 0x0, .cwk⟩, ⟨60, 1, .wo, 0x0, .cwk⟩, ⟨59, 1, .ro, 0x0, .cwk⟩, ⟨58, 1, .rw, 0x0, .cwk⟩, ⟨57, 1, .rw, 0x0, .cwk⟩, ⟨56, 1, .rw, 0x0, .cwk⟩, ⟨52, 4, .rw, 0x0, .cwk⟩, ⟨46, 6, .rw, 0x0, .cwk⟩, ⟨45, 1, .ro, 0x0, .cwk⟩, ⟨40, 4, .rw, 0x0, .cwk⟩, ⟨32, 8, .rw, 0x0, .cwk⟩, ⟨0, 10, .rw, 0x0, .cwk⟩]
/-- The field rows of TILE_CORE_MCLOG. -/
def rows_TILE_CORE_MCLOG : List Row :=
  [⟨63, 1, .w1c, 0x0, .c⟩, ⟨62, 1, .ro, 0x0, .c⟩, ⟨61, 1, .ro, 0x0, .c⟩, ⟨60, 1, .ro, 0x0, .c⟩, ⟨48, 8, .ro, 0x0, .c⟩, ⟨32, 16, .ro, 0x0, .c⟩, ⟨24, 8, .ro, 0x0, .c⟩, ⟨0, 16, .ro, 0x0, .c⟩]
/-- The field rows of TILE_CORE_TEST. -/
def rows_TILE_CORE_TEST : List Row :=
  [⟨63, 1, .w1s, 0x0, .cw⟩, ⟨62, 1, .w1s, 0x0, .cw⟩, ⟨4, 4, .ro, 0x0, .cw⟩, ⟨0, 4, .ro, 0x0, .c⟩]
/-- The field rows of TILE_CORE_HALT. -/
def rows_TILE_CORE_HALT : List Row :=
  [⟨63, 1, .ro, 0x0, .c⟩, ⟨62, 1, .ro, 0x0, .c⟩, ⟨60, 2, .ro, 0x0, .c⟩, ⟨59, 1, .ro, 0x0, .c⟩, ⟨0, 57, .ro, 0x0, .c⟩]
/-- The field rows of TILE_CACHE_CTL. -/
def rows_TILE_CACHE_CTL : List Row :=
  [⟨23, 1, .w1c, 0x0, .cw⟩, ⟨22, 1, .w1c, 0x0, .cw⟩, ⟨20, 2, .ro, 0x0, .cw⟩, ⟨19, 1, .ro, 0x0, .cw⟩, ⟨18, 1, .w1s, 0x0, .cw⟩, ⟨17, 1, .w1s, 0x0, .cw⟩, ⟨16, 1, .rw, 0x0, .cw⟩, ⟨15, 1, .w1c, 0x0, .cw⟩, ⟨14, 1, .w1c, 0x0, .cw⟩, ⟨12, 2, .ro, 0x0, .cw⟩, ⟨11, 1, .ro, 0x0, .cw⟩, ⟨10, 1, .w1s, 0x0, .cw⟩, ⟨9, 1, .w1s, 0x0, .cw⟩, ⟨8, 1, .rw, 0x0, .cw⟩, ⟨7, 1, .w1c, 0x0, .cw⟩, ⟨6, 1, .w1c, 0x0, .cw⟩, ⟨4, 2, .ro, 0x0, .cw⟩, ⟨3, 1, .ro, 0x0, .cw⟩, ⟨1, 1, .w1s, 0x0, .cw⟩, ⟨0, 1, .rw, 0x0, .cw⟩]
/-- The field rows of TILE_SLICE_CTL. -/
def rows_TILE_SLICE_CTL : List Row :=
  [⟨7, 1, .w1c, 0x0, .cw⟩, ⟨6, 1, .w1c, 0x0, .cw⟩, ⟨5, 1, .w1s, 0x0, .cw⟩, ⟨4, 1, .w1s, 0x0, .cw⟩, ⟨3, 1, .ro, 0x0, .cw⟩, ⟨1, 1, .w1s, 0x0, .cw⟩, ⟨0, 1, .rw, 0x0, .cw⟩]
/-- The field rows of TILE_SLICE_STATUS. -/
def rows_TILE_SLICE_STATUS : List Row :=
  [⟨42, 11, .ro, 0x0, .cw⟩, ⟨24, 18, .ro, 0x0, .cw⟩, ⟨16, 6, .ro, 0x0, .c⟩, ⟨14, 2, .ro, 0x0, .c⟩, ⟨11, 3, .ro, 0x0, .cw⟩, ⟨10, 1, .ro, 0x0, .cw⟩, ⟨0, 4, .ro, 0x0, .cw⟩]
/-- The field rows of TILE_SLICE_ERRLOG. -/
def rows_TILE_SLICE_ERRLOG : List Row :=
  [⟨63, 1, .w1c, 0x0, .c⟩, ⟨62, 1, .ro, 0x0, .c⟩, ⟨61, 1, .ro, 0x0, .c⟩, ⟨60, 1, .ro, 0x0, .c⟩, ⟨56, 4, .ro, 0x0, .c⟩, ⟨42, 11, .ro, 0x0, .c⟩, ⟨38, 4, .ro, 0x0, .c⟩, ⟨36, 2, .ro, 0x0, .c⟩, ⟨16, 6, .ro, 0x0, .c⟩, ⟨0, 16, .ro, 0x0, .c⟩]
/-- The field rows of TILE_SLICE_ERRADDR. -/
def rows_TILE_SLICE_ERRADDR : List Row :=
  [⟨63, 1, .ro, 0x0, .c⟩, ⟨6, 46, .ro, 0x0, .c⟩]
/-- The field rows of TILE_HA_STATUS. -/
def rows_TILE_HA_STATUS : List Row :=
  [⟨48, 16, .rc, 0x0, .cw⟩, ⟨40, 8, .ro, 0x0, .cw⟩, ⟨24, 8, .ro, 0x0, .cw⟩, ⟨19, 5, .ro, 0x0, .cw⟩, ⟨14, 5, .ro, 0x0, .cw⟩, ⟨10, 4, .ro, 0x0, .cw⟩]
/-- The field rows of TILE_HA_EPOCH. -/
def rows_TILE_HA_EPOCH : List Row :=
  [⟨0, 48, .ro, 0x0, .cw⟩]
/-- The field rows of TILE_SLICE_OCC. -/
def rows_TILE_SLICE_OCC : List Row :=
  [⟨32, 16, .ro, 0x0, .cw⟩, ⟨0, 16, .ro, 0x0, .cw⟩]
/-- The field rows of TILE_MS_GRAIN. -/
def rows_TILE_MS_GRAIN : List Row :=
  [⟨63, 1, .ro, 0x0, .cw⟩, ⟨62, 1, .ro, 0x0, .cw⟩, ⟨61, 1, .ro, 0x0, .cw⟩, ⟨32, 8, .ro, 0x0, .cw⟩, ⟨0, 32, .ro, 0x0, .cw⟩]
/-- The field rows of TILE_MS_RETRY. -/
def rows_TILE_MS_RETRY : List Row :=
  [⟨32, 32, .rc, 0x0, .cw⟩, ⟨0, 32, .rc, 0x0, .cw⟩]
/-- The field rows of TILE_MS_LINKERR. -/
def rows_TILE_MS_LINKERR : List Row :=
  [⟨48, 16, .w1c, 0x0, .cw⟩, ⟨32, 16, .w1c, 0x0, .cw⟩, ⟨16, 16, .w1c, 0x0, .cw⟩, ⟨0, 16, .w1c, 0x0, .cw⟩]
/-- The field rows of TILE_SHOLD. -/
abbrev rows_TILE_SHOLD : List Row := rows_PWR_SHOLD
/-- The field rows of TILE_CORE_PWR. -/
def rows_TILE_CORE_PWR : List Row :=
  [⟨63, 1, .w1s, 0x0, .cwk⟩, ⟨62, 1, .w1c, 0x0, .cwk⟩, ⟨48, 4, .ro, 0x6, .cwk⟩, ⟨8, 3, .rw, 0x4, .cwk⟩, ⟨0, 3, .rw, 0x0, .cwk⟩]
/-- The field rows of TILE_PACK_FREQ. -/
def rows_TILE_PACK_FREQ : List Row :=
  [⟨63, 1, .ro, 0x0, .cwk⟩, ⟨48, 8, .ro, 0x0, .cw⟩, ⟨32, 16, .ro, 0x0, .cw⟩, ⟨16, 16, .ro, 0xED8, .cw⟩, ⟨0, 12, .rw, 0xAF0, .cwk⟩]
/-- The field rows of TILE_CORE_START. -/
def rows_TILE_CORE_START : List Row :=
  [⟨63, 1, .w1s, 0x0, .cwk⟩, ⟨62, 1, .w1c, 0x0, .cwk⟩, ⟨2, 50, .rw, 0x0, .cwk⟩]
/-- The field rows of MC_CFG. -/
def rows_MC_CFG : List Row :=
  [⟨32, 8, .rwl, 0x0, .cw⟩, ⟨16, 16, .rwl, 0x0, .cw⟩, ⟨8, 2, .rwl, 0x0, .cw⟩, ⟨0, 2, .rwl, 0x0, .cw⟩]
/-- The field rows of MC_STATUS. -/
def rows_MC_STATUS : List Row :=
  [⟨32, 16, .ro, 0x0, .cw⟩, ⟨23, 1, .w1c, 0x0, .cw⟩, ⟨22, 1, .w1c, 0x0, .cw⟩, ⟨21, 1, .w1c, 0x0, .cw⟩, ⟨20, 1, .ro, 0x0, .cw⟩, ⟨17, 3, .ro, 0x0, .cw⟩, ⟨16, 1, .ro, 0x0, .c⟩, ⟨12, 2, .ro, 0x0, .c⟩, ⟨8, 1, .ro, 0x0, .cw⟩, ⟨0, 4, .ro, 0x1, .cw⟩]
/-- The field rows of MC_WQ_WM. -/
def rows_MC_WQ_WM : List Row :=
  [⟨40, 8, .rw, 0x0, .cw⟩, ⟨16, 8, .rw, 0x0, .cw⟩, ⟨0, 8, .rw, 0x0, .cw⟩]
/-- The field rows of MC_CTL. -/
def rows_MC_CTL : List Row :=
  [⟨8, 1, .w1c, 0x0, .cw⟩, ⟨7, 1, .rw, 0x0, .cw⟩, ⟨6, 1, .w1s, 0x0, .cw⟩, ⟨5, 1, .w1s, 0x0, .cw⟩, ⟨4, 1, .w1s, 0x0, .cw⟩, ⟨3, 1, .w1s, 0x0, .cw⟩, ⟨2, 1, .w1s, 0x0, .cw⟩, ⟨0, 1, .w1s, 0x0, .cw⟩]
/-- The field rows of MC_DIMM_CFG. -/
def rows_MC_DIMM_CFG : List Row :=
  [⟨52, 12, .rwl, 0x0, .cw⟩, ⟨40, 12, .rwl, 0x0, .cw⟩, ⟨35, 5, .rwl, 0x0, .cw⟩, ⟨29, 6, .rwl, 0x0, .cw⟩, ⟨27, 2, .rwl, 0x0, .cw⟩, ⟨26, 1, .rwl, 0x0, .cw⟩, ⟨17, 9, .rwl, 0x0, .cw⟩, ⟨0, 1, .rwl, 0x0, .cw⟩]
/-- The field rows of MC_SPD. -/
def rows_MC_SPD : List Row :=
  [⟨63, 1, .w1s, 0x0, .cw⟩, ⟨62, 1, .w1c, 0x0, .cw⟩, ⟨59, 1, .rw, 0x0, .cw⟩, ⟨32, 16, .rw, 0x0, .cw⟩, ⟨0, 32, .ro, 0x0, .cw⟩]
/-- The field rows of MC_TRAIN_STATUS. -/
def rows_MC_TRAIN_STATUS : List Row :=
  [⟨32, 16, .ro, 0x0, .cw⟩, ⟨20, 4, .ro, 0x0, .cw⟩, ⟨16, 4, .ro, 0x0, .cw⟩, ⟨8, 8, .ro, 0x0, .cw⟩, ⟨0, 4, .ro, 0x0, .cw⟩]
/-- The field rows of MC_RETRAIN_CFG. -/
def rows_MC_RETRAIN_CFG : List Row :=
  [⟨16, 16, .rw, 0x400, .cw⟩, ⟨0, 16, .rw, 0x80, .cw⟩]
/-- The field rows of MC_REFRESH. -/
def rows_MC_REFRESH : List Row :=
  [⟨32, 32, .ro, 0x0, .cw⟩, ⟨16, 4, .ro, 0x0, .cw⟩, ⟨0, 12, .ro, 0x0, .cw⟩]
/-- The field rows of MC_SCRUB. -/
def rows_MC_SCRUB : List Row :=
  [⟨48, 16, .ro, 0x0, .cw⟩, ⟨0, 40, .ro, 0x0, .cw⟩]
/-- The field rows of MC_ERR_LOG. -/
def rows_MC_ERR_LOG : List Row :=
  [⟨63, 1, .w1c, 0x0, .c⟩, ⟨62, 1, .ro, 0x0, .c⟩, ⟨61, 1, .ro, 0x0, .c⟩, ⟨60, 1, .ro, 0x0, .c⟩, ⟨56, 4, .ro, 0x0, .c⟩, ⟨52, 4, .ro, 0x0, .c⟩, ⟨40, 8, .ro, 0x0, .c⟩, ⟨0, 16, .ro, 0x0, .c⟩]
/-- The field rows of MC_ERR_ADDR. -/
def rows_MC_ERR_ADDR : List Row :=
  [⟨63, 1, .ro, 0x0, .c⟩, ⟨62, 1, .ro, 0x0, .c⟩, ⟨58, 4, .ro, 0x0, .c⟩, ⟨55, 3, .ro, 0x0, .c⟩, ⟨53, 2, .ro, 0x0, .c⟩, ⟨35, 18, .ro, 0x0, .c⟩, ⟨0, 35, .ro, 0x0, .c⟩]
/-- The field rows of MC_ERR_CNT. -/
def rows_MC_ERR_CNT : List Row :=
  [⟨48, 16, .rc, 0x0, .c⟩, ⟨32, 16, .rc, 0x0, .c⟩, ⟨16, 16, .rc, 0x0, .c⟩, ⟨0, 16, .rc, 0x0, .c⟩]
/-- The field rows of MC_DEV_MARK. -/
def rows_MC_DEV_MARK : List Row :=
  [⟨0, 64, .rw, 0xFFFFFFFFFFFFFFFF, .c⟩]
/-- The field rows of MC_CE_THRESH. -/
def rows_MC_CE_THRESH : List Row :=
  [⟨32, 8, .rw, 0x14, .cw⟩, ⟨16, 8, .rw, 0x4, .cw⟩, ⟨0, 16, .rw, 0x100, .cw⟩]
/-- The field rows of MC_PPR_CTL. -/
def rows_MC_PPR_CTL : List Row :=
  [⟨63, 1, .w1s, 0x0, .cw⟩, ⟨62, 1, .rw, 0x0, .cw⟩, ⟨61, 1, .rw, 0x0, .cw⟩, ⟨36, 1, .rw, 0x0, .cw⟩, ⟨32, 4, .rw, 0x0, .cw⟩, ⟨29, 3, .rw, 0x0, .cw⟩, ⟨27, 2, .rw, 0x0, .cw⟩, ⟨0, 18, .rw, 0x0, .cw⟩]
/-- The field rows of MC_PPR_STATUS. -/
def rows_MC_PPR_STATUS : List Row :=
  [⟨63, 1, .w1c, 0x0, .cw⟩, ⟨54, 1, .ro, 0x0, .cw⟩, ⟨50, 4, .ro, 0x0, .cw⟩, ⟨47, 3, .ro, 0x0, .cw⟩, ⟨45, 2, .ro, 0x0, .cw⟩, ⟨27, 18, .ro, 0x0, .cw⟩, ⟨4, 5, .ro, 0x0, .cw⟩, ⟨0, 4, .ro, 0x0, .cw⟩]
/-- The field rows of MC_RESILVER. -/
def rows_MC_RESILVER : List Row :=
  [⟨0, 40, .ro, 0x0, .cw⟩]
/-- The field rows of MC_PPR_LOG. -/
def rows_MC_PPR_LOG : List Row :=
  [⟨63, 1, .w1c, 0x0, .c⟩, ⟨62, 1, .ro, 0x0, .c⟩, ⟨36, 1, .ro, 0x0, .c⟩, ⟨32, 4, .ro, 0x0, .c⟩, ⟨29, 3, .ro, 0x0, .c⟩, ⟨27, 2, .ro, 0x0, .c⟩, ⟨0, 18, .ro, 0x0, .c⟩]
/-- The field rows of MC_REGION_CFG. -/
def rows_MC_REGION_CFG : List Row :=
  [⟨63, 1, .rw, 0x0, .cw⟩, ⟨62, 1, .rw, 0x0, .cw⟩, ⟨61, 1, .rw, 0x0, .cw⟩, ⟨60, 1, .rw, 0x0, .cw⟩, ⟨56, 4, .rw, 0x0, .cw⟩, ⟨55, 1, .ro, 0x0, .cw⟩, ⟨12, 40, .rw, 0x0, .cw⟩]
/-- The field rows of MC_REGION_LIMIT. -/
def rows_MC_REGION_LIMIT : List Row :=
  [⟨12, 40, .rw, 0x0, .cw⟩]
/-- The field rows of IOP_CFG. -/
def rows_IOP_CFG : List Row :=
  [⟨16, 3, .ro, 0x0, .cw⟩, ⟨8, 4, .rwl, 0x0, .cw⟩, ⟨4, 2, .rwl, 0x0, .cw⟩, ⟨0, 2, .rwl, 0x0, .cw⟩]
/-- The field rows of IOP_LINK_CTL. -/
def rows_IOP_LINK_CTL : List Row :=
  [⟨63, 1, .w1s, 0x0, .cw⟩, ⟨62, 1, .w1s, 0x0, .cw⟩, ⟨61, 1, .rw, 0x0, .cw⟩, ⟨56, 1, .rw, 0x0, .cw⟩, ⟨32, 8, .rw, 0x14, .cw⟩, ⟨2, 2, .rw, 0x2, .cw⟩, ⟨1, 1, .rw, 0x0, .cw⟩, ⟨0, 1, .rw, 0x0, .cw⟩]
/-- The field rows of IOP_LINK_STATUS. -/
def rows_IOP_LINK_STATUS : List Row :=
  [⟨48, 16, .rc, 0x0, .cw⟩, ⟨36, 4, .ro, 0x0, .cw⟩, ⟨35, 1, .ro, 0x0, .cw⟩, ⟨34, 1, .ro, 0x1, .cw⟩, ⟨33, 1, .ro, 0x1, .cw⟩, ⟨32, 1, .ro, 0x0, .cw⟩, ⟨8, 5, .ro, 0x0, .cw⟩, ⟨5, 3, .ro, 0x0, .cw⟩, ⟨4, 1, .ro, 0x0, .cw⟩, ⟨0, 4, .ro, 0x1, .cw⟩]
/-- The field rows of IOP_LINK_INTX. -/
def rows_IOP_LINK_INTX : List Row :=
  [⟨63, 1, .w1c, 0x0, .cw⟩, ⟨48, 4, .ro, 0x0, .cw⟩, ⟨36, 12, .rw, 0x0, .cw⟩, ⟨24, 12, .rw, 0x0, .cw⟩, ⟨12, 12, .rw, 0x0, .cw⟩, ⟨0, 12, .rw, 0x0, .cw⟩]
/-- The field rows of IOP_LINK_ERR. -/
def rows_IOP_LINK_ERR : List Row :=
  [⟨63, 1, .w1c, 0x0, .c⟩, ⟨62, 1, .ro, 0x0, .c⟩, ⟨61, 1, .ro, 0x0, .c⟩, ⟨56, 5, .ro, 0x0, .c⟩, ⟨40, 16, .ro, 0x0, .c⟩, ⟨0, 16, .ro, 0x0, .c⟩]
/-- The field rows of IOP_LINK_ERRADDR. -/
def rows_IOP_LINK_ERRADDR : List Row :=
  [⟨2, 62, .ro, 0x0, .c⟩, ⟨0, 1, .ro, 0x0, .c⟩]
/-- The field rows of IOP_LINK_CXL. -/
def rows_IOP_LINK_CXL : List Row :=
  [⟨63, 1, .rw, 0x0, .cw⟩, ⟨32, 12, .rw, 0x0, .cw⟩]
/-- The field rows of IOP_EP_CTL. -/
def rows_IOP_EP_CTL : List Row :=
  [⟨44, 20, .rw, 0x0, .cw⟩, ⟨1, 1, .w1c, 0x0, .cw⟩, ⟨0, 1, .w1s, 0x0, .cw⟩]
/-- The field rows of IOP_EP_ID. -/
def rows_IOP_EP_ID : List Row :=
  [⟨48, 16, .rw, 0x0, .cw⟩, ⟨32, 16, .rw, 0x0, .cw⟩, ⟨8, 24, .rw, 0x0, .cw⟩, ⟨0, 8, .rw, 0x0, .cw⟩]
/-- The field rows of IOP_EP_BAR. -/
def rows_IOP_EP_BAR : List Row :=
  [⟨63, 1, .rw, 0x0, .cw⟩, ⟨62, 1, .rw, 0x0, .cw⟩, ⟨61, 1, .rw, 0x0, .cw⟩, ⟨0, 6, .rw, 0x0, .cw⟩]
/-- The field rows of IOP_EP_STATUS. -/
def rows_IOP_EP_STATUS : List Row :=
  [⟨8, 6, .ro, 0x0, .cw⟩, ⟨4, 1, .ro, 0x0, .cw⟩, ⟨3, 1, .ro, 0x0, .cw⟩, ⟨2, 1, .ro, 0x0, .cw⟩, ⟨1, 1, .ro, 0x0, .cw⟩, ⟨0, 1, .ro, 0x0, .cw⟩]
/-- The field rows of IOP_EP_INTX. -/
def rows_IOP_EP_INTX : List Row :=
  [⟨1, 1, .ro, 0x0, .cwk⟩, ⟨0, 1, .rw, 0x0, .cwk⟩]
/-- The field rows of IOP_EP_MSI. -/
def rows_IOP_EP_MSI : List Row :=
  [⟨32, 32, .ro, 0x0, .cwk⟩, ⟨0, 5, .wo, 0x0, .cwk⟩]
/-- The field rows of IOP_EP_XCOMMIT. -/
def rows_IOP_EP_XCOMMIT : List Row :=
  [⟨63, 1, .w1s, 0x0, .cw⟩, ⟨62, 1, .ro, 0x0, .cw⟩, ⟨61, 1, .w1c, 0x0, .cw⟩, ⟨60, 1, .w1c, 0x0, .cw⟩, ⟨16, 16, .rc, 0x0, .cw⟩, ⟨0, 6, .rw, 0x0, .cw⟩]
/-- The field rows of IOP_EP_XLAT. -/
def rows_IOP_EP_XLAT : List Row :=
  [⟨63, 1, .rw, 0x0, .cw⟩, ⟨61, 2, .rw, 0x0, .cw⟩, ⟨60, 1, .rw, 0x0, .cw⟩, ⟨59, 1, .rw, 0x0, .cw⟩, ⟨58, 1, .rw, 0x0, .cw⟩, ⟨54, 4, .rw, 0x0, .cw⟩, ⟨51, 3, .rw, 0x0, .cw⟩, ⟨45, 6, .rw, 0x0, .cw⟩, ⟨12, 26, .rw, 0x0, .cw⟩]
/-- The field rows of IOP_EP_XLAT_TGT. -/
def rows_IOP_EP_XLAT_TGT : List Row :=
  [⟨12, 40, .rw, 0x0, .cw⟩]
/-- The field rows of IOP_EP_XSH. -/
abbrev rows_IOP_EP_XSH : List Row := rows_IOP_EP_XLAT
/-- The field rows of IOP_EP_XSH_TGT. -/
abbrev rows_IOP_EP_XSH_TGT : List Row := rows_IOP_EP_XLAT_TGT
/-- The field rows of BRC_STATUS. -/
def rows_BRC_STATUS : List Row :=
  [⟨32, 32, .ro, 0x0, .cw⟩, ⟨16, 8, .ro, 0x0, .cw⟩, ⟨7, 1, .ro, 0x0, .cw⟩, ⟨0, 3, .ro, 0x0, .cw⟩]
/-- The field rows of BRC_CTL. -/
def rows_BRC_CTL : List Row :=
  [⟨1, 1, .wo, 0x0, .cw⟩]
/-- The field rows of RTV_ENG_STATUS. -/
def rows_RTV_ENG_STATUS : List Row :=
  [⟨48, 16, .ro, 0xFFFF, .cw⟩, ⟨32, 16, .ro, 0x0, .cw⟩, ⟨0, 4, .ro, 0x1, .cw⟩]
/-- The field rows of RTV_ENG_CTL. -/
def rows_RTV_ENG_CTL : List Row :=
  [⟨2, 1, .w1c, 0x0, .cw⟩, ⟨1, 1, .w1s, 0x0, .cw⟩, ⟨0, 1, .rw, 0x0, .cw⟩]
/-- The field rows of RTV_CH_BIND. -/
def rows_RTV_CH_BIND : List Row :=
  [⟨63, 1, .rw, 0x0, .cw⟩, ⟨62, 1, .rw, 0x0, .cw⟩, ⟨61, 1, .w1c, 0x0, .cw⟩, ⟨60, 1, .ro, 0x0, .cw⟩, ⟨56, 4, .rw, 0x0, .cw⟩]
/-- The field rows of RTV_CH_RING. -/
def rows_RTV_CH_RING : List Row :=
  [⟨6, 46, .rw, 0x0, .cwk⟩, ⟨0, 4, .rw, 0x4, .cwk⟩]
/-- The field rows of RTV_CH_TAIL. -/
def rows_RTV_CH_TAIL : List Row :=
  [⟨0, 16, .rw, 0x0, .cwk⟩]
/-- The field rows of RTV_CH_HEAD. -/
def rows_RTV_CH_HEAD : List Row :=
  [⟨0, 16, .ro, 0x0, .cwk⟩]
/-- The field rows of RTV_CH_CTL. -/
def rows_RTV_CH_CTL : List Row :=
  [⟨63, 1, .rw, 0x0, .cwk⟩, ⟨62, 1, .w1s, 0x0, .cwk⟩, ⟨61, 1, .w1c, 0x0, .cwk⟩, ⟨32, 24, .rw, 0x0, .cwk⟩, ⟨0, 12, .rw, 0x0, .cwk⟩]
/-- The field rows of RTV_CH_STATUS. -/
def rows_RTV_CH_STATUS : List Row :=
  [⟨48, 16, .rc, 0x0, .cwk⟩, ⟨24, 24, .ro, 0x0, .cwk⟩, ⟨11, 1, .w1c, 0x0, .cwk⟩, ⟨10, 1, .w1c, 0x0, .cwk⟩, ⟨9, 1, .w1c, 0x0, .cwk⟩, ⟨8, 1, .w1c, 0x0, .cwk⟩, ⟨0, 4, .ro, 0x0, .cwk⟩]
/-- The field rows of RTV_CH_PROGRESS. -/
def rows_RTV_CH_PROGRESS : List Row :=
  [⟨0, 41, .ro, 0x0, .cwk⟩]
/-- The field rows of DRM_MB_DOORBELL. -/
def rows_DRM_MB_DOORBELL : List Row :=
  [⟨63, 1, .wo, 0x0, .cw⟩, ⟨32, 16, .rw, 0x0, .cw⟩, ⟨0, 16, .rw, 0x0, .cw⟩]
/-- The field rows of DRM_MB_STATUS. -/
def rows_DRM_MB_STATUS : List Row :=
  [⟨48, 8, .rw, 0x0, .cw⟩, ⟨32, 9, .rw, 0x0, .cw⟩, ⟨0, 16, .rw, 0x0, .cw⟩]
/-- The field rows of DRM_MB_NOTICE. -/
def rows_DRM_MB_NOTICE : List Row :=
  [⟨32, 32, .rw, 0x0, .cw⟩, ⟨16, 16, .rw, 0x0, .cw⟩, ⟨0, 16, .rw, 0x0, .cw⟩]
/-- The field rows of DRM_MB_REQ. -/
def rows_DRM_MB_REQ : List Row :=
  [⟨0, 64, .rw, 0x0, .cw⟩]
/-- The field rows of DRM_MB_RSP. -/
abbrev rows_DRM_MB_RSP : List Row := rows_DRM_MB_REQ
/-- The field rows of DRM_MB_PENDING. -/
def rows_DRM_MB_PENDING : List Row :=
  [⟨0, 32, .rc, 0x0, .cw⟩]
/-- The field rows of DRM_CORE_CTL. -/
def rows_DRM_CORE_CTL : List Row :=
  [⟨2, 2, .ro, 0x0, .cw⟩, ⟨0, 1, .w1s, 0x0, .cw⟩]
/-- The field rows of DRM_TIME. -/
abbrev rows_DRM_TIME : List Row := rows_SPN_RACKTIME
/-- The field rows of DRM_TIMECMP. -/
def rows_DRM_TIMECMP : List Row :=
  [⟨0, 64, .rw, 0xFFFFFFFFFFFFFFFF, .cw⟩]
/-- The field rows of DRM_MSIP. -/
def rows_DRM_MSIP : List Row :=
  [⟨0, 1, .rw, 0x0, .cw⟩]
/-- The field rows of DRM_TETHER_ERR. -/
def rows_DRM_TETHER_ERR : List Row :=
  [⟨63, 1, .w1c, 0x0, .cw⟩, ⟨61, 2, .ro, 0x0, .cw⟩, ⟨60, 1, .ro, 0x0, .cw⟩, ⟨0, 27, .ro, 0x0, .cw⟩]
/-- The field rows of DRM_FLASH_CFG. -/
def rows_DRM_FLASH_CFG : List Row :=
  [⟨63, 1, .w1s, 0x0, .cw⟩, ⟨40, 8, .rw, 0x3, .cw⟩, ⟨32, 5, .rw, 0x0, .cw⟩, ⟨24, 2, .rw, 0x0, .cw⟩, ⟨0, 8, .rw, 0xF, .cw⟩]
/-- The field rows of DRM_FLASH_CMD. -/
def rows_DRM_FLASH_CMD : List Row :=
  [⟨63, 1, .w1s, 0x0, .cw⟩, ⟨62, 1, .rw, 0x0, .cw⟩, ⟨61, 1, .rw, 0x0, .cw⟩, ⟨60, 1, .w1c, 0x0, .cw⟩, ⟨48, 8, .rw, 0x0, .cw⟩, ⟨46, 2, .rw, 0x0, .cw⟩, ⟨32, 9, .rw, 0x0, .cw⟩, ⟨0, 28, .rw, 0x0, .cw⟩]
/-- The field rows of DRM_FLASH_DATA. -/
abbrev rows_DRM_FLASH_DATA : List Row := rows_DRM_MB_REQ
/-- The field rows of DRM_SRAM_ERR. -/
def rows_DRM_SRAM_ERR : List Row :=
  [⟨63, 1, .w1c, 0x0, .c⟩, ⟨62, 1, .ro, 0x0, .c⟩, ⟨61, 1, .ro, 0x0, .c⟩, ⟨16, 16, .ro, 0x0, .c⟩, ⟨0, 16, .ro, 0x0, .c⟩]
/-- The field rows of DRM_SB_CTL. -/
def rows_DRM_SB_CTL : List Row :=
  [⟨63, 1, .w1s, 0x0, .cw⟩, ⟨48, 9, .rw, 0x0, .cw⟩, ⟨32, 9, .ro, 0x0, .cw⟩, ⟨24, 3, .ro, 0x0, .cw⟩, ⟨16, 4, .ro, 0x0, .cw⟩, ⟨8, 1, .ro, 0x0, .c⟩, ⟨4, 2, .rw, 0x0, .cw⟩, ⟨0, 1, .rw, 0x0, .cw⟩]
/-- The field rows of DRM_SB_REQ. -/
def rows_DRM_SB_REQ : List Row :=
  [⟨0, 64, .ro, 0x0, .cw⟩]
/-- The field rows of DRM_SB_RSP. -/
abbrev rows_DRM_SB_RSP : List Row := rows_DRM_MB_REQ
/-- The field rows of tlctl. -/
def rows_tlctl : List Row :=
  [⟨55, 1, .ro, 0x0, .cw⟩, ⟨54, 1, .ro, 0x0, .cw⟩, ⟨53, 1, .ro, 0x0, .cw⟩, ⟨52, 1, .ro, 0x0, .cw⟩, ⟨48, 4, .ro, 0x0, .cw⟩, ⟨40, 8, .ro, 0x0, .cwk⟩, ⟨16, 16, .rw, 0x0, .cwk⟩, ⟨2, 1, .rw, 0x0, .cwk⟩, ⟨1, 1, .rw, 0x1, .cwk⟩, ⟨0, 1, .rw, 0x0, .cwk⟩]
/-- The field rows of tlpred. -/
def rows_tlpred : List Row :=
  [⟨3, 1, .rw, 0x0, .cwk⟩, ⟨2, 1, .wo, 0x0, .cwk⟩, ⟨1, 1, .rw, 0x1, .cwk⟩, ⟨0, 1, .rw, 0x1, .cwk⟩]
/-- The field rows of tlworld. -/
def rows_tlworld : List Row :=
  [⟨6, 1, .rw, 0x0, .cwk⟩, ⟨5, 1, .w1s, 0x0, .cwk⟩, ⟨4, 1, .rw, 0x1, .cwk⟩, ⟨3, 1, .rw, 0x0, .cwk⟩, ⟨2, 1, .rw, 0x0, .cwk⟩, ⟨1, 1, .ro, 0x0, .cwk⟩, ⟨0, 1, .ro, 0x1, .cwk⟩]
/-- The field rows of tlwvec. -/
def rows_tlwvec : List Row :=
  [⟨2, 62, .rw, 0x0, .cwk⟩]
/-- The field rows of tlpf. -/
def rows_tlpf : List Row :=
  [⟨8, 1, .rw, 0x1, .cwk⟩, ⟨4, 4, .rw, 0x2, .cwk⟩, ⟨1, 3, .rw, 0x3, .cwk⟩, ⟨0, 1, .rw, 0x1, .cwk⟩]
/-- The field rows of tllock. -/
def rows_tllock : List Row :=
  [⟨63, 1, .wo, 0x0, .cwk⟩, ⟨32, 16, .ro, 0x0, .cwk⟩, ⟨16, 16, .ro, 0x0, .cwk⟩, ⟨0, 16, .ro, 0x0, .cwk⟩]
/-- The field rows of tlspan. -/
def rows_tlspan : List Row :=
  [⟨63, 1, .ro, 0x1, .cw⟩, ⟨62, 1, .ro, 0x0, .cw⟩, ⟨59, 3, .ro, 0x0, .cw⟩, ⟨0, 48, .ro, 0x0, .cw⟩]
/-- The field rows of tlwin. -/
def rows_tlwin : List Row :=
  [⟨63, 1, .ro, 0x1, .cw⟩, ⟨48, 7, .ro, 0x0, .cw⟩, ⟨24, 18, .ro, 0x0, .cw⟩, ⟨0, 18, .ro, 0x0, .cw⟩]
/-- The field rows of dmctl. -/
def rows_dmctl : List Row :=
  [⟨7, 1, .wo, 0x0, .cw⟩, ⟨3, 1, .rw, 0x1, .cw⟩, ⟨2, 1, .rw, 0x1, .cw⟩, ⟨0, 1, .rw, 0x1, .cw⟩]
/-- The field rows of dmlock. -/
def rows_dmlock : List Row :=
  [⟨63, 1, .wo, 0x0, .cw⟩, ⟨62, 1, .wo, 0x0, .cw⟩, ⟨40, 8, .ro, 0x0, .cw⟩, ⟨32, 4, .ro, 0x0, .cw⟩, ⟨16, 16, .ro, 0x0, .cw⟩, ⟨4, 2, .rw, 0x0, .cw⟩, ⟨0, 3, .rw, 0x0, .cw⟩]
/-- The field rows of dmlkva. -/
def rows_dmlkva : List Row :=
  [⟨0, 64, .rw, 0x0, .cw⟩]

/-- The field rows of each register's table. -/
def Reg.rows : Reg → List Row
  | .SYS_ID => rows_SYS_ID
  | .SYS_STRAP => rows_SYS_STRAP
  | .SYS_CS_STATUS => rows_SYS_CS_STATUS
  | .SYS_QOS_LEDGER => rows_SYS_QOS_LEDGER
  | .SYS_QOS_LEND => rows_SYS_QOS_LEND
  | .SYS_QOS_POOL => rows_SYS_QOS_POOL
  | .SYS_QOS_STATUS => rows_SYS_QOS_STATUS
  | .SYS_QOS_HOLDCNT => rows_SYS_QOS_HOLDCNT
  | .SYS_KCTL => rows_SYS_KCTL
  | .SPN_CTL => rows_SPN_CTL
  | .SPN_STATUS => rows_SPN_STATUS
  | .SPN_SPAN => rows_SPN_SPAN
  | .SPN_RACKTIME => rows_SPN_RACKTIME
  | .SPN_CFG => rows_SPN_CFG
  | .SPN_DELAY => rows_SPN_DELAY
  | .SPN_RING_DELAY => rows_SPN_RING_DELAY
  | .SPN_TIME_LOAD => rows_SPN_TIME_LOAD
  | .SPN_SCHED_TX0 => rows_SPN_SCHED_TX0
  | .SPN_SCHED_TX1 => rows_SPN_SCHED_TX1
  | .SPN_SCHED_RX0 => rows_SPN_SCHED_RX0
  | .SPN_SCHED_RX1 => rows_SPN_SCHED_RX1
  | .SPN_FALLEN => rows_SPN_FALLEN
  | .SPN_OVERRUN => rows_SPN_OVERRUN
  | .ZNX_OWNER => rows_ZNX_OWNER
  | .ZNX_CMD => rows_ZNX_CMD
  | .ZNX_SRC => rows_ZNX_SRC
  | .ZNX_STATUS => rows_ZNX_STATUS
  | .ZNX_REFLOW_TARGET => rows_ZNX_REFLOW_TARGET
  | .ZNX_REFLOW_RESULT => rows_ZNX_REFLOW_RESULT
  | .ZNX_REFLOW_COUNT => rows_ZNX_REFLOW_COUNT
  | .ZNX_FUSE => rows_ZNX_FUSE
  | .ZNX_DIGEST => rows_ZNX_DIGEST
  | .ZNX_BUILD => rows_ZNX_BUILD
  | .ZNX_PAIR => rows_ZNX_PAIR
  | .FCR_STICKY => rows_FCR_STICKY
  | .FCR_SUMMARY => rows_FCR_SUMMARY
  | .FCR_CLASS => rows_FCR_CLASS
  | .FCR_KPEND => rows_FCR_KPEND
  | .FCR_HEEL => rows_FCR_HEEL
  | .FCR_HEEL_SPAN => rows_FCR_HEEL_SPAN
  | .FCR_INJECT => rows_FCR_INJECT
  | .PWR_KREL => rows_PWR_KREL
  | .PWR_KSTART_N => rows_PWR_KSTART_N
  | .PWR_CFG => rows_PWR_CFG
  | .PWR_STATUS => rows_PWR_STATUS
  | .PWR_RST_CTL => rows_PWR_RST_CTL
  | .PWR_SHOLD => rows_PWR_SHOLD
  | .OWN_TABLE => rows_OWN_TABLE
  | .OWN_TABLE_PAGES => rows_OWN_TABLE_PAGES
  | .OWN_DUMP => rows_OWN_DUMP
  | .OWN_INV => rows_OWN_INV
  | .OWN_CMD => rows_OWN_CMD
  | .OWN_CMD_BASE => rows_OWN_CMD_BASE
  | .OWN_STATUS => rows_OWN_STATUS
  | .OWN_DENY => rows_OWN_DENY
  | .ICN_WIRE => rows_ICN_WIRE
  | .ICN_DOM_CFG => rows_ICN_DOM_CFG
  | .ICN_DOM_MSG => rows_ICN_DOM_MSG
  | .ICN_DOM_PTAB => rows_ICN_DOM_PTAB
  | .ICN_DOM_STATUS => rows_ICN_DOM_STATUS
  | .ICN_DOM_LOST => rows_ICN_DOM_LOST
  | .ICN_DRM_CLAIM => rows_ICN_DRM_CLAIM
  | .ICN_DRM_THRESH => rows_ICN_DRM_THRESH
  | .ICN_GRP => rows_ICN_GRP
  | .ICN_CTX_CLAIM => rows_ICN_CTX_CLAIM
  | .ICN_CTX_THRESH => rows_ICN_CTX_THRESH
  | .ICN_GCTX => rows_ICN_GCTX
  | .ICN_MCTX_CLAIM => rows_ICN_MCTX_CLAIM
  | .ICN_MCTX_THRESH => rows_ICN_MCTX_THRESH
  | .ICN_SRC => rows_ICN_SRC
  | .TILE_CORE_MCLOG => rows_TILE_CORE_MCLOG
  | .TILE_CORE_TEST => rows_TILE_CORE_TEST
  | .TILE_CORE_HALT => rows_TILE_CORE_HALT
  | .TILE_CACHE_CTL => rows_TILE_CACHE_CTL
  | .TILE_SLICE_CTL => rows_TILE_SLICE_CTL
  | .TILE_SLICE_STATUS => rows_TILE_SLICE_STATUS
  | .TILE_SLICE_ERRLOG => rows_TILE_SLICE_ERRLOG
  | .TILE_SLICE_ERRADDR => rows_TILE_SLICE_ERRADDR
  | .TILE_HA_STATUS => rows_TILE_HA_STATUS
  | .TILE_HA_EPOCH => rows_TILE_HA_EPOCH
  | .TILE_SLICE_OCC => rows_TILE_SLICE_OCC
  | .TILE_MS_GRAIN => rows_TILE_MS_GRAIN
  | .TILE_MS_RETRY => rows_TILE_MS_RETRY
  | .TILE_MS_LINKERR => rows_TILE_MS_LINKERR
  | .TILE_SHOLD => rows_TILE_SHOLD
  | .TILE_CORE_PWR => rows_TILE_CORE_PWR
  | .TILE_PACK_FREQ => rows_TILE_PACK_FREQ
  | .TILE_CORE_START => rows_TILE_CORE_START
  | .MC_CFG => rows_MC_CFG
  | .MC_STATUS => rows_MC_STATUS
  | .MC_WQ_WM => rows_MC_WQ_WM
  | .MC_CTL => rows_MC_CTL
  | .MC_DIMM_CFG => rows_MC_DIMM_CFG
  | .MC_SPD => rows_MC_SPD
  | .MC_TRAIN_STATUS => rows_MC_TRAIN_STATUS
  | .MC_RETRAIN_CFG => rows_MC_RETRAIN_CFG
  | .MC_REFRESH => rows_MC_REFRESH
  | .MC_SCRUB => rows_MC_SCRUB
  | .MC_ERR_LOG => rows_MC_ERR_LOG
  | .MC_ERR_ADDR => rows_MC_ERR_ADDR
  | .MC_ERR_CNT => rows_MC_ERR_CNT
  | .MC_DEV_MARK => rows_MC_DEV_MARK
  | .MC_CE_THRESH => rows_MC_CE_THRESH
  | .MC_PPR_CTL => rows_MC_PPR_CTL
  | .MC_PPR_STATUS => rows_MC_PPR_STATUS
  | .MC_RESILVER => rows_MC_RESILVER
  | .MC_PPR_LOG => rows_MC_PPR_LOG
  | .MC_REGION_CFG => rows_MC_REGION_CFG
  | .MC_REGION_LIMIT => rows_MC_REGION_LIMIT
  | .IOP_CFG => rows_IOP_CFG
  | .IOP_LINK_CTL => rows_IOP_LINK_CTL
  | .IOP_LINK_STATUS => rows_IOP_LINK_STATUS
  | .IOP_LINK_INTX => rows_IOP_LINK_INTX
  | .IOP_LINK_ERR => rows_IOP_LINK_ERR
  | .IOP_LINK_ERRADDR => rows_IOP_LINK_ERRADDR
  | .IOP_LINK_CXL => rows_IOP_LINK_CXL
  | .IOP_EP_CTL => rows_IOP_EP_CTL
  | .IOP_EP_ID => rows_IOP_EP_ID
  | .IOP_EP_BAR => rows_IOP_EP_BAR
  | .IOP_EP_STATUS => rows_IOP_EP_STATUS
  | .IOP_EP_INTX => rows_IOP_EP_INTX
  | .IOP_EP_MSI => rows_IOP_EP_MSI
  | .IOP_EP_XCOMMIT => rows_IOP_EP_XCOMMIT
  | .IOP_EP_XLAT => rows_IOP_EP_XLAT
  | .IOP_EP_XLAT_TGT => rows_IOP_EP_XLAT_TGT
  | .IOP_EP_XSH => rows_IOP_EP_XSH
  | .IOP_EP_XSH_TGT => rows_IOP_EP_XSH_TGT
  | .BRC_STATUS => rows_BRC_STATUS
  | .BRC_CTL => rows_BRC_CTL
  | .RTV_ENG_STATUS => rows_RTV_ENG_STATUS
  | .RTV_ENG_CTL => rows_RTV_ENG_CTL
  | .RTV_CH_BIND => rows_RTV_CH_BIND
  | .RTV_CH_RING => rows_RTV_CH_RING
  | .RTV_CH_TAIL => rows_RTV_CH_TAIL
  | .RTV_CH_HEAD => rows_RTV_CH_HEAD
  | .RTV_CH_CTL => rows_RTV_CH_CTL
  | .RTV_CH_STATUS => rows_RTV_CH_STATUS
  | .RTV_CH_PROGRESS => rows_RTV_CH_PROGRESS
  | .DRM_MB_DOORBELL => rows_DRM_MB_DOORBELL
  | .DRM_MB_STATUS => rows_DRM_MB_STATUS
  | .DRM_MB_NOTICE => rows_DRM_MB_NOTICE
  | .DRM_MB_REQ => rows_DRM_MB_REQ
  | .DRM_MB_RSP => rows_DRM_MB_RSP
  | .DRM_MB_PENDING => rows_DRM_MB_PENDING
  | .DRM_CORE_CTL => rows_DRM_CORE_CTL
  | .DRM_TIME => rows_DRM_TIME
  | .DRM_TIMECMP => rows_DRM_TIMECMP
  | .DRM_MSIP => rows_DRM_MSIP
  | .DRM_TETHER_ERR => rows_DRM_TETHER_ERR
  | .DRM_FLASH_CFG => rows_DRM_FLASH_CFG
  | .DRM_FLASH_CMD => rows_DRM_FLASH_CMD
  | .DRM_FLASH_DATA => rows_DRM_FLASH_DATA
  | .DRM_SRAM_ERR => rows_DRM_SRAM_ERR
  | .DRM_SB_CTL => rows_DRM_SB_CTL
  | .DRM_SB_REQ => rows_DRM_SB_REQ
  | .DRM_SB_RSP => rows_DRM_SB_RSP
  | .tlctl => rows_tlctl
  | .tlpred => rows_tlpred
  | .tlworld => rows_tlworld
  | .tlwvec => rows_tlwvec
  | .tlpf => rows_tlpf
  | .tllock => rows_tllock
  | .tlspan => rows_tlspan
  | .tlwin => rows_tlwin
  | .dmctl => rows_dmctl
  | .dmlock => rows_dmlock
  | .dmlkva => rows_dmlkva

/-- Where a register's elements lie in register space: base offset, then count and stride of the instance and of the element
(R609, R610, R616). -/
structure Place where
  base : Nat
  n1 : Nat
  s1 : Nat
  n2 : Nat
  s2 : Nat
  deriving DecidableEq, Repr

/-- The place of each register of register space; none for a register outside it (R613) and for the source registers of the
ICN, whose page depends on the domain (R412). -/
def Reg.place : Reg → Option Place
  | .SYS_ID => some ⟨0x0, 1, 0x0, 1, 0x0⟩
  | .SYS_STRAP => some ⟨0x10, 1, 0x0, 1, 0x0⟩
  | .SYS_CS_STATUS => some ⟨0x1000, 128, 0x8, 1, 0x0⟩
  | .SYS_QOS_LEDGER => some ⟨0x2000, 16, 0x8, 1, 0x0⟩
  | .SYS_QOS_LEND => some ⟨0x2080, 16, 0x8, 1, 0x0⟩
  | .SYS_QOS_POOL => some ⟨0x2100, 1, 0x0, 1, 0x0⟩
  | .SYS_QOS_STATUS => some ⟨0x2108, 1, 0x0, 1, 0x0⟩
  | .SYS_QOS_HOLDCNT => some ⟨0x2180, 16, 0x8, 1, 0x0⟩
  | .SYS_KCTL => some ⟨0x3000, 16, 0x8, 1, 0x0⟩
  | .SPN_CTL => some ⟨0x10000, 1, 0x0, 1, 0x0⟩
  | .SPN_STATUS => some ⟨0x10008, 1, 0x0, 1, 0x0⟩
  | .SPN_SPAN => some ⟨0x10010, 1, 0x0, 1, 0x0⟩
  | .SPN_RACKTIME => some ⟨0x10018, 1, 0x0, 1, 0x0⟩
  | .SPN_CFG => some ⟨0x10020, 1, 0x0, 1, 0x0⟩
  | .SPN_DELAY => some ⟨0x10028, 1, 0x0, 1, 0x0⟩
  | .SPN_RING_DELAY => some ⟨0x10030, 1, 0x0, 1, 0x0⟩
  | .SPN_TIME_LOAD => some ⟨0x10038, 1, 0x0, 1, 0x0⟩
  | .SPN_SCHED_TX0 => some ⟨0x10040, 1, 0x0, 1, 0x0⟩
  | .SPN_SCHED_TX1 => some ⟨0x10048, 1, 0x0, 1, 0x0⟩
  | .SPN_SCHED_RX0 => some ⟨0x10050, 1, 0x0, 1, 0x0⟩
  | .SPN_SCHED_RX1 => some ⟨0x10058, 1, 0x0, 1, 0x0⟩
  | .SPN_FALLEN => some ⟨0x10060, 4, 0x8, 1, 0x0⟩
  | .SPN_OVERRUN => some ⟨0x10080, 1, 0x0, 1, 0x0⟩
  | .ZNX_OWNER => some ⟨0x20000, 1, 0x0, 1, 0x0⟩
  | .ZNX_CMD => some ⟨0x20008, 1, 0x0, 1, 0x0⟩
  | .ZNX_SRC => some ⟨0x20010, 1, 0x0, 1, 0x0⟩
  | .ZNX_STATUS => some ⟨0x20018, 1, 0x0, 1, 0x0⟩
  | .ZNX_REFLOW_TARGET => some ⟨0x20020, 1, 0x0, 1, 0x0⟩
  | .ZNX_REFLOW_RESULT => some ⟨0x20028, 1, 0x0, 1, 0x0⟩
  | .ZNX_REFLOW_COUNT => some ⟨0x20030, 1, 0x0, 1, 0x0⟩
  | .ZNX_FUSE => some ⟨0x20038, 1, 0x0, 1, 0x0⟩
  | .ZNX_DIGEST => some ⟨0x20040, 6, 0x8, 1, 0x0⟩
  | .ZNX_BUILD => some ⟨0x20070, 1, 0x0, 1, 0x0⟩
  | .ZNX_PAIR => some ⟨0x20078, 1, 0x0, 1, 0x0⟩
  | .FCR_STICKY => some ⟨0x30000, 20, 0x8, 1, 0x0⟩
  | .FCR_SUMMARY => some ⟨0x300A0, 1, 0x0, 1, 0x0⟩
  | .FCR_CLASS => some ⟨0x30100, 80, 0x8, 1, 0x0⟩
  | .FCR_KPEND => some ⟨0x30380, 1, 0x0, 1, 0x0⟩
  | .FCR_HEEL => some ⟨0x30388, 1, 0x0, 1, 0x0⟩
  | .FCR_HEEL_SPAN => some ⟨0x30390, 1, 0x0, 1, 0x0⟩
  | .FCR_INJECT => some ⟨0x303C0, 1, 0x0, 1, 0x0⟩
  | .PWR_KREL => some ⟨0x40000, 1, 0x0, 1, 0x0⟩
  | .PWR_KSTART_N => some ⟨0x40008, 1, 0x0, 1, 0x0⟩
  | .PWR_CFG => some ⟨0x40010, 1, 0x0, 1, 0x0⟩
  | .PWR_STATUS => some ⟨0x40018, 1, 0x0, 1, 0x0⟩
  | .PWR_RST_CTL => some ⟨0x40020, 1, 0x0, 1, 0x0⟩
  | .PWR_SHOLD => some ⟨0x41000, 128, 0x8, 1, 0x0⟩
  | .OWN_TABLE => some ⟨0x200000, 1, 0x0, 1, 0x0⟩
  | .OWN_TABLE_PAGES => some ⟨0x200008, 1, 0x0, 1, 0x0⟩
  | .OWN_DUMP => some ⟨0x200010, 1, 0x0, 1, 0x0⟩
  | .OWN_INV => some ⟨0x200018, 1, 0x0, 1, 0x0⟩
  | .OWN_CMD => some ⟨0x200020, 1, 0x0, 1, 0x0⟩
  | .OWN_CMD_BASE => some ⟨0x200028, 1, 0x0, 1, 0x0⟩
  | .OWN_STATUS => some ⟨0x200030, 1, 0x0, 1, 0x0⟩
  | .OWN_DENY => some ⟨0x200038, 1, 0x0, 1, 0x0⟩
  | .ICN_WIRE => some ⟨0x100100, 16, 0x8, 1, 0x0⟩
  | .ICN_DOM_CFG => some ⟨0x101000, 16, 0x1000, 1, 0x0⟩
  | .ICN_DOM_MSG => some ⟨0x101008, 16, 0x1000, 1, 0x0⟩
  | .ICN_DOM_PTAB => some ⟨0x101010, 16, 0x1000, 1, 0x0⟩
  | .ICN_DOM_STATUS => some ⟨0x101018, 16, 0x1000, 1, 0x0⟩
  | .ICN_DOM_LOST => some ⟨0x101020, 16, 0x1000, 4, 0x8⟩
  | .ICN_DRM_CLAIM => some ⟨0x101100, 16, 0x1000, 4, 0x10⟩
  | .ICN_DRM_THRESH => some ⟨0x101108, 16, 0x1000, 4, 0x10⟩
  | .ICN_GRP => some ⟨0x101200, 16, 0x1000, 64, 0x8⟩
  | .ICN_CTX_CLAIM => some ⟨0x120000, 256, 0x400, 8, 0x80⟩
  | .ICN_CTX_THRESH => some ⟨0x120008, 256, 0x400, 8, 0x80⟩
  | .ICN_GCTX => some ⟨0x120010, 256, 0x400, 8, 0x80⟩
  | .ICN_MCTX_CLAIM => some ⟨0x160000, 256, 0x400, 1, 0x0⟩
  | .ICN_MCTX_THRESH => some ⟨0x160008, 256, 0x400, 1, 0x0⟩
  | .ICN_SRC => none
  | .TILE_CORE_MCLOG => some ⟨0x1000200, 64, 0x10000, 4, 0x8⟩
  | .TILE_CORE_TEST => some ⟨0x1000240, 64, 0x10000, 4, 0x8⟩
  | .TILE_CORE_HALT => some ⟨0x1000260, 64, 0x10000, 4, 0x8⟩
  | .TILE_CACHE_CTL => some ⟨0x1000300, 64, 0x10000, 4, 0x8⟩
  | .TILE_SLICE_CTL => some ⟨0x1000400, 64, 0x10000, 1, 0x0⟩
  | .TILE_SLICE_STATUS => some ⟨0x1000408, 64, 0x10000, 1, 0x0⟩
  | .TILE_SLICE_ERRLOG => some ⟨0x1000410, 64, 0x10000, 1, 0x0⟩
  | .TILE_SLICE_ERRADDR => some ⟨0x1000418, 64, 0x10000, 1, 0x0⟩
  | .TILE_HA_STATUS => some ⟨0x1000420, 64, 0x10000, 1, 0x0⟩
  | .TILE_HA_EPOCH => some ⟨0x1000428, 64, 0x10000, 1, 0x0⟩
  | .TILE_SLICE_OCC => some ⟨0x1000480, 64, 0x10000, 16, 0x8⟩
  | .TILE_MS_GRAIN => some ⟨0x1000500, 64, 0x10000, 1, 0x0⟩
  | .TILE_MS_RETRY => some ⟨0x1000508, 64, 0x10000, 1, 0x0⟩
  | .TILE_MS_LINKERR => some ⟨0x1000510, 64, 0x10000, 1, 0x0⟩
  | .TILE_SHOLD => some ⟨0x1001000, 64, 0x10000, 1, 0x0⟩
  | .TILE_CORE_PWR => some ⟨0x1001010, 64, 0x10000, 4, 0x8⟩
  | .TILE_PACK_FREQ => some ⟨0x1001030, 64, 0x10000, 1, 0x0⟩
  | .TILE_CORE_START => some ⟨0x1001040, 64, 0x10000, 4, 0x8⟩
  | .MC_CFG => some ⟨0x2000000, 16, 0x10000, 1, 0x0⟩
  | .MC_STATUS => some ⟨0x2000008, 16, 0x10000, 1, 0x0⟩
  | .MC_WQ_WM => some ⟨0x2000010, 16, 0x10000, 1, 0x0⟩
  | .MC_CTL => some ⟨0x2000018, 16, 0x10000, 1, 0x0⟩
  | .MC_DIMM_CFG => some ⟨0x2000020, 16, 0x10000, 2, 0x8⟩
  | .MC_SPD => some ⟨0x2000030, 16, 0x10000, 1, 0x0⟩
  | .MC_TRAIN_STATUS => some ⟨0x2000040, 16, 0x10000, 1, 0x0⟩
  | .MC_RETRAIN_CFG => some ⟨0x2000048, 16, 0x10000, 1, 0x0⟩
  | .MC_REFRESH => some ⟨0x2000050, 16, 0x10000, 1, 0x0⟩
  | .MC_SCRUB => some ⟨0x2000058, 16, 0x10000, 1, 0x0⟩
  | .MC_ERR_LOG => some ⟨0x2000060, 16, 0x10000, 1, 0x0⟩
  | .MC_ERR_ADDR => some ⟨0x2000068, 16, 0x10000, 1, 0x0⟩
  | .MC_ERR_CNT => some ⟨0x2000070, 16, 0x10000, 1, 0x0⟩
  | .MC_DEV_MARK => some ⟨0x2000078, 16, 0x10000, 2, 0x8⟩
  | .MC_CE_THRESH => some ⟨0x2000088, 16, 0x10000, 1, 0x0⟩
  | .MC_PPR_CTL => some ⟨0x2000090, 16, 0x10000, 1, 0x0⟩
  | .MC_PPR_STATUS => some ⟨0x2000098, 16, 0x10000, 1, 0x0⟩
  | .MC_RESILVER => some ⟨0x20000A0, 16, 0x10000, 1, 0x0⟩
  | .MC_PPR_LOG => some ⟨0x2000100, 16, 0x10000, 16, 0x8⟩
  | .MC_REGION_CFG => some ⟨0x2000800, 16, 0x10000, 32, 0x10⟩
  | .MC_REGION_LIMIT => some ⟨0x2000808, 16, 0x10000, 32, 0x10⟩
  | .IOP_CFG => some ⟨0x3000000, 8, 0x40000, 1, 0x0⟩
  | .IOP_LINK_CTL => some ⟨0x3000100, 8, 0x40000, 4, 0x40⟩
  | .IOP_LINK_STATUS => some ⟨0x3000108, 8, 0x40000, 4, 0x40⟩
  | .IOP_LINK_INTX => some ⟨0x3000110, 8, 0x40000, 4, 0x40⟩
  | .IOP_LINK_ERR => some ⟨0x3000118, 8, 0x40000, 4, 0x40⟩
  | .IOP_LINK_ERRADDR => some ⟨0x3000120, 8, 0x40000, 4, 0x40⟩
  | .IOP_LINK_CXL => some ⟨0x3000128, 8, 0x40000, 4, 0x40⟩
  | .IOP_EP_CTL => some ⟨0x3000400, 8, 0x40000, 1, 0x0⟩
  | .IOP_EP_ID => some ⟨0x3000408, 8, 0x40000, 1, 0x0⟩
  | .IOP_EP_BAR => some ⟨0x3000410, 8, 0x40000, 6, 0x8⟩
  | .IOP_EP_STATUS => some ⟨0x3000440, 8, 0x40000, 1, 0x0⟩
  | .IOP_EP_INTX => some ⟨0x3000448, 8, 0x40000, 1, 0x0⟩
  | .IOP_EP_MSI => some ⟨0x3000450, 8, 0x40000, 1, 0x0⟩
  | .IOP_EP_XCOMMIT => some ⟨0x3000460, 8, 0x40000, 1, 0x0⟩
  | .IOP_EP_XLAT => some ⟨0x3001000, 8, 0x40000, 64, 0x10⟩
  | .IOP_EP_XLAT_TGT => some ⟨0x3001008, 8, 0x40000, 64, 0x10⟩
  | .IOP_EP_XSH => some ⟨0x3001400, 8, 0x40000, 64, 0x10⟩
  | .IOP_EP_XSH_TGT => some ⟨0x3001408, 8, 0x40000, 64, 0x10⟩
  | .BRC_STATUS => some ⟨0x3800000, 3, 0x10000, 1, 0x0⟩
  | .BRC_CTL => some ⟨0x3800008, 3, 0x10000, 1, 0x0⟩
  | .RTV_ENG_STATUS => some ⟨0x4000000, 8, 0x1000, 1, 0x0⟩
  | .RTV_ENG_CTL => some ⟨0x4000008, 8, 0x1000, 1, 0x0⟩
  | .RTV_CH_BIND => some ⟨0x4008000, 512, 0x8, 1, 0x0⟩
  | .RTV_CH_RING => some ⟨0x4010000, 512, 0x1000, 1, 0x0⟩
  | .RTV_CH_TAIL => some ⟨0x4010008, 512, 0x1000, 1, 0x0⟩
  | .RTV_CH_HEAD => some ⟨0x4010010, 512, 0x1000, 1, 0x0⟩
  | .RTV_CH_CTL => some ⟨0x4010018, 512, 0x1000, 1, 0x0⟩
  | .RTV_CH_STATUS => some ⟨0x4010020, 512, 0x1000, 1, 0x0⟩
  | .RTV_CH_PROGRESS => some ⟨0x4010028, 512, 0x1000, 1, 0x0⟩
  | .DRM_MB_DOORBELL => some ⟨0x5000000, 32, 0x1000, 1, 0x0⟩
  | .DRM_MB_STATUS => some ⟨0x5000008, 32, 0x1000, 1, 0x0⟩
  | .DRM_MB_NOTICE => some ⟨0x5000010, 32, 0x1000, 1, 0x0⟩
  | .DRM_MB_REQ => some ⟨0x5000100, 32, 0x1000, 32, 0x8⟩
  | .DRM_MB_RSP => some ⟨0x5000200, 32, 0x1000, 32, 0x8⟩
  | .DRM_MB_PENDING => some ⟨0x5020000, 1, 0x0, 1, 0x0⟩
  | .DRM_CORE_CTL => none
  | .DRM_TIME => none
  | .DRM_TIMECMP => none
  | .DRM_MSIP => none
  | .DRM_TETHER_ERR => none
  | .DRM_FLASH_CFG => none
  | .DRM_FLASH_CMD => none
  | .DRM_FLASH_DATA => none
  | .DRM_SRAM_ERR => none
  | .DRM_SB_CTL => none
  | .DRM_SB_REQ => none
  | .DRM_SB_RSP => none
  | .tlctl => none
  | .tlpred => none
  | .tlworld => none
  | .tlwvec => none
  | .tlpf => none
  | .tllock => none
  | .tlspan => none
  | .tlwin => none
  | .dmctl => none
  | .dmlock => none
  | .dmlkva => none

/-- The path codes of R615. `l`: not in register space. -/
inductive Path where
  | b | m | tw | b15 | bc | l
  deriving DecidableEq, Repr

/-- The path code of each register (R616). -/
def Reg.path : Reg → Path
  | .SYS_ID => .b
  | .SYS_STRAP => .b
  | .SYS_CS_STATUS => .b
  | .SYS_QOS_LEDGER => .b
  | .SYS_QOS_LEND => .b
  | .SYS_QOS_POOL => .b
  | .SYS_QOS_STATUS => .b
  | .SYS_QOS_HOLDCNT => .b
  | .SYS_KCTL => .b
  | .SPN_CTL => .b
  | .SPN_STATUS => .b
  | .SPN_SPAN => .b
  | .SPN_RACKTIME => .b
  | .SPN_CFG => .b
  | .SPN_DELAY => .b
  | .SPN_RING_DELAY => .b
  | .SPN_TIME_LOAD => .b
  | .SPN_SCHED_TX0 => .b
  | .SPN_SCHED_TX1 => .b
  | .SPN_SCHED_RX0 => .b
  | .SPN_SCHED_RX1 => .b
  | .SPN_FALLEN => .b
  | .SPN_OVERRUN => .b
  | .ZNX_OWNER => .tw
  | .ZNX_CMD => .tw
  | .ZNX_SRC => .tw
  | .ZNX_STATUS => .tw
  | .ZNX_REFLOW_TARGET => .tw
  | .ZNX_REFLOW_RESULT => .tw
  | .ZNX_REFLOW_COUNT => .tw
  | .ZNX_FUSE => .tw
  | .ZNX_DIGEST => .tw
  | .ZNX_BUILD => .tw
  | .ZNX_PAIR => .tw
  | .FCR_STICKY => .b
  | .FCR_SUMMARY => .b
  | .FCR_CLASS => .b
  | .FCR_KPEND => .b
  | .FCR_HEEL => .bc
  | .FCR_HEEL_SPAN => .b
  | .FCR_INJECT => .b
  | .PWR_KREL => .b
  | .PWR_KSTART_N => .b
  | .PWR_CFG => .b
  | .PWR_STATUS => .b
  | .PWR_RST_CTL => .bc
  | .PWR_SHOLD => .b
  | .OWN_TABLE => .b
  | .OWN_TABLE_PAGES => .b
  | .OWN_DUMP => .b
  | .OWN_INV => .b
  | .OWN_CMD => .b
  | .OWN_CMD_BASE => .b
  | .OWN_STATUS => .b
  | .OWN_DENY => .b
  | .ICN_WIRE => .b
  | .ICN_DOM_CFG => .b
  | .ICN_DOM_MSG => .m
  | .ICN_DOM_PTAB => .b
  | .ICN_DOM_STATUS => .b
  | .ICN_DOM_LOST => .b
  | .ICN_DRM_CLAIM => .m
  | .ICN_DRM_THRESH => .b
  | .ICN_GRP => .b
  | .ICN_CTX_CLAIM => .m
  | .ICN_CTX_THRESH => .b
  | .ICN_GCTX => .b
  | .ICN_MCTX_CLAIM => .m
  | .ICN_MCTX_THRESH => .b
  | .ICN_SRC => .b
  | .TILE_CORE_MCLOG => .b
  | .TILE_CORE_TEST => .b
  | .TILE_CORE_HALT => .b
  | .TILE_CACHE_CTL => .b
  | .TILE_SLICE_CTL => .b
  | .TILE_SLICE_STATUS => .b
  | .TILE_SLICE_ERRLOG => .b
  | .TILE_SLICE_ERRADDR => .b
  | .TILE_HA_STATUS => .b
  | .TILE_HA_EPOCH => .b
  | .TILE_SLICE_OCC => .b
  | .TILE_MS_GRAIN => .b
  | .TILE_MS_RETRY => .b
  | .TILE_MS_LINKERR => .b
  | .TILE_SHOLD => .b
  | .TILE_CORE_PWR => .b
  | .TILE_PACK_FREQ => .b
  | .TILE_CORE_START => .b
  | .MC_CFG => .b
  | .MC_STATUS => .b
  | .MC_WQ_WM => .b
  | .MC_CTL => .b
  | .MC_DIMM_CFG => .b
  | .MC_SPD => .b
  | .MC_TRAIN_STATUS => .b
  | .MC_RETRAIN_CFG => .b
  | .MC_REFRESH => .b
  | .MC_SCRUB => .b
  | .MC_ERR_LOG => .b
  | .MC_ERR_ADDR => .b
  | .MC_ERR_CNT => .b
  | .MC_DEV_MARK => .b
  | .MC_CE_THRESH => .b
  | .MC_PPR_CTL => .b
  | .MC_PPR_STATUS => .b
  | .MC_RESILVER => .b
  | .MC_PPR_LOG => .b
  | .MC_REGION_CFG => .b15
  | .MC_REGION_LIMIT => .b15
  | .IOP_CFG => .b15
  | .IOP_LINK_CTL => .b15
  | .IOP_LINK_STATUS => .b15
  | .IOP_LINK_INTX => .b15
  | .IOP_LINK_ERR => .b15
  | .IOP_LINK_ERRADDR => .b15
  | .IOP_LINK_CXL => .b15
  | .IOP_EP_CTL => .b15
  | .IOP_EP_ID => .b15
  | .IOP_EP_BAR => .b15
  | .IOP_EP_STATUS => .b15
  | .IOP_EP_INTX => .b15
  | .IOP_EP_MSI => .b15
  | .IOP_EP_XCOMMIT => .b15
  | .IOP_EP_XLAT => .b15
  | .IOP_EP_XLAT_TGT => .b15
  | .IOP_EP_XSH => .b15
  | .IOP_EP_XSH_TGT => .b15
  | .BRC_STATUS => .b
  | .BRC_CTL => .b
  | .RTV_ENG_STATUS => .b
  | .RTV_ENG_CTL => .b
  | .RTV_CH_BIND => .b
  | .RTV_CH_RING => .b
  | .RTV_CH_TAIL => .b
  | .RTV_CH_HEAD => .b
  | .RTV_CH_CTL => .b
  | .RTV_CH_STATUS => .b
  | .RTV_CH_PROGRESS => .b
  | .DRM_MB_DOORBELL => .b
  | .DRM_MB_STATUS => .tw
  | .DRM_MB_NOTICE => .tw
  | .DRM_MB_REQ => .b
  | .DRM_MB_RSP => .tw
  | .DRM_MB_PENDING => .b
  | .DRM_CORE_CTL => .l
  | .DRM_TIME => .l
  | .DRM_TIMECMP => .l
  | .DRM_MSIP => .l
  | .DRM_TETHER_ERR => .l
  | .DRM_FLASH_CFG => .l
  | .DRM_FLASH_CMD => .l
  | .DRM_FLASH_DATA => .l
  | .DRM_SRAM_ERR => .l
  | .DRM_SB_CTL => .l
  | .DRM_SB_REQ => .l
  | .DRM_SB_RSP => .l
  | .tlctl => .l
  | .tlpred => .l
  | .tlworld => .l
  | .tlwvec => .l
  | .tlpf => .l
  | .tllock => .l
  | .tlspan => .l
  | .tlwin => .l
  | .dmctl => .l
  | .dmlock => .l
  | .dmlkva => .l

/-- True when the register is held in the unit (code U of R616). -/
def Reg.heldInUnit : Reg → Bool
  | .TILE_HA_STATUS => true
  | .TILE_HA_EPOCH => true
  | .TILE_SLICE_OCC => true
  | .MC_CFG => true
  | .MC_WQ_WM => true
  | .MC_TRAIN_STATUS => true
  | .MC_RETRAIN_CFG => true
  | .MC_REFRESH => true
  | .MC_SCRUB => true
  | .MC_CE_THRESH => true
  | .MC_PPR_CTL => true
  | .MC_PPR_STATUS => true
  | .MC_RESILVER => true
  | .IOP_LINK_CTL => true
  | .IOP_LINK_INTX => true
  | .IOP_LINK_CXL => true
  | .IOP_EP_CTL => true
  | .IOP_EP_ID => true
  | .IOP_EP_BAR => true
  | .IOP_EP_STATUS => true
  | .IOP_EP_INTX => true
  | .IOP_EP_MSI => true
  | .IOP_EP_XCOMMIT => true
  | .IOP_EP_XLAT => true
  | .IOP_EP_XLAT_TGT => true
  | .IOP_EP_XSH => true
  | .IOP_EP_XSH_TGT => true
  | _ => false

/-- Registers of register space, part 0. -/
def Reg.placed0 : List Reg := [.SYS_ID, .SYS_STRAP, .SYS_CS_STATUS, .SYS_QOS_LEDGER, .SYS_QOS_LEND, .SYS_QOS_POOL, .SYS_QOS_STATUS, .SYS_QOS_HOLDCNT, .SYS_KCTL, .SPN_CTL, .SPN_STATUS, .SPN_SPAN, .SPN_RACKTIME, .SPN_CFG, .SPN_DELAY, .SPN_RING_DELAY, .SPN_TIME_LOAD, .SPN_SCHED_TX0, .SPN_SCHED_TX1, .SPN_SCHED_RX0, .SPN_SCHED_RX1, .SPN_FALLEN, .SPN_OVERRUN, .ZNX_OWNER]
/-- Registers of register space, part 1. -/
def Reg.placed1 : List Reg := [.ZNX_CMD, .ZNX_SRC, .ZNX_STATUS, .ZNX_REFLOW_TARGET, .ZNX_REFLOW_RESULT, .ZNX_REFLOW_COUNT, .ZNX_FUSE, .ZNX_DIGEST, .ZNX_BUILD, .ZNX_PAIR, .FCR_STICKY, .FCR_SUMMARY, .FCR_CLASS, .FCR_KPEND, .FCR_HEEL, .FCR_HEEL_SPAN, .FCR_INJECT, .PWR_KREL, .PWR_KSTART_N, .PWR_CFG, .PWR_STATUS, .PWR_RST_CTL, .PWR_SHOLD, .OWN_TABLE]
/-- Registers of register space, part 2. -/
def Reg.placed2 : List Reg := [.OWN_TABLE_PAGES, .OWN_DUMP, .OWN_INV, .OWN_CMD, .OWN_CMD_BASE, .OWN_STATUS, .OWN_DENY, .ICN_WIRE, .ICN_DOM_CFG, .ICN_DOM_MSG, .ICN_DOM_PTAB, .ICN_DOM_STATUS, .ICN_DOM_LOST, .ICN_DRM_CLAIM, .ICN_DRM_THRESH, .ICN_GRP, .ICN_CTX_CLAIM, .ICN_CTX_THRESH, .ICN_GCTX, .ICN_MCTX_CLAIM, .ICN_MCTX_THRESH, .TILE_CORE_MCLOG, .TILE_CORE_TEST, .TILE_CORE_HALT]
/-- Registers of register space, part 3. -/
def Reg.placed3 : List Reg := [.TILE_CACHE_CTL, .TILE_SLICE_CTL, .TILE_SLICE_STATUS, .TILE_SLICE_ERRLOG, .TILE_SLICE_ERRADDR, .TILE_HA_STATUS, .TILE_HA_EPOCH, .TILE_SLICE_OCC, .TILE_MS_GRAIN, .TILE_MS_RETRY, .TILE_MS_LINKERR, .TILE_SHOLD, .TILE_CORE_PWR, .TILE_PACK_FREQ, .TILE_CORE_START, .MC_CFG, .MC_STATUS, .MC_WQ_WM, .MC_CTL, .MC_DIMM_CFG, .MC_SPD, .MC_TRAIN_STATUS, .MC_RETRAIN_CFG, .MC_REFRESH]
/-- Registers of register space, part 4. -/
def Reg.placed4 : List Reg := [.MC_SCRUB, .MC_ERR_LOG, .MC_ERR_ADDR, .MC_ERR_CNT, .MC_DEV_MARK, .MC_CE_THRESH, .MC_PPR_CTL, .MC_PPR_STATUS, .MC_RESILVER, .MC_PPR_LOG, .MC_REGION_CFG, .MC_REGION_LIMIT, .IOP_CFG, .IOP_LINK_CTL, .IOP_LINK_STATUS, .IOP_LINK_INTX, .IOP_LINK_ERR, .IOP_LINK_ERRADDR, .IOP_LINK_CXL, .IOP_EP_CTL, .IOP_EP_ID, .IOP_EP_BAR, .IOP_EP_STATUS, .IOP_EP_INTX]
/-- Registers of register space, part 5. -/
def Reg.placed5 : List Reg := [.IOP_EP_MSI, .IOP_EP_XCOMMIT, .IOP_EP_XLAT, .IOP_EP_XLAT_TGT, .IOP_EP_XSH, .IOP_EP_XSH_TGT, .BRC_STATUS, .BRC_CTL, .RTV_ENG_STATUS, .RTV_ENG_CTL, .RTV_CH_BIND, .RTV_CH_RING, .RTV_CH_TAIL, .RTV_CH_HEAD, .RTV_CH_CTL, .RTV_CH_STATUS, .RTV_CH_PROGRESS, .DRM_MB_DOORBELL, .DRM_MB_STATUS, .DRM_MB_NOTICE, .DRM_MB_REQ, .DRM_MB_RSP, .DRM_MB_PENDING]

/-- Every register of register space that has a place of its own. -/
def Reg.placed : List Reg :=
  (Reg.placed0 : List Reg) ++ (Reg.placed1 : List Reg) ++ (Reg.placed2 : List Reg) ++ (Reg.placed3 : List Reg) ++ (Reg.placed4 : List Reg) ++ (Reg.placed5 : List Reg)

/-! The named fields. -/
namespace F
abbrev SYS_ID_SOCKET : Fld := ⟨.SYS_ID, 48, 1⟩
abbrev SYS_ID_PART : Fld := ⟨.SYS_ID, 32, 16⟩
abbrev SYS_ID_STEPPING : Fld := ⟨.SYS_ID, 24, 8⟩
abbrev SYS_ID_COMPUTE_DIES : Fld := ⟨.SYS_ID, 20, 4⟩
abbrev SYS_ID_IO_DIES : Fld := ⟨.SYS_ID, 16, 4⟩
abbrev SYS_ID_TILES : Fld := ⟨.SYS_ID, 8, 8⟩
abbrev SYS_STRAP_LEASH_MASTER : Fld := ⟨.SYS_STRAP, 7, 1⟩
abbrev SYS_STRAP_SB_MODE : Fld := ⟨.SYS_STRAP, 6, 1⟩
abbrev SYS_STRAP_SB_ADDR : Fld := ⟨.SYS_STRAP, 3, 3⟩
abbrev SYS_STRAP_SOCKET : Fld := ⟨.SYS_STRAP, 2, 1⟩
abbrev SYS_CS_STATUS_DROP_OFFSET : Fld := ⟨.SYS_CS_STATUS, 32, 22⟩
abbrev SYS_CS_STATUS_DROP_COUNT : Fld := ⟨.SYS_CS_STATUS, 24, 8⟩
abbrev SYS_CS_STATUS_DROP_WORLD : Fld := ⟨.SYS_CS_STATUS, 20, 1⟩
abbrev SYS_CS_STATUS_DROP_KENNEL : Fld := ⟨.SYS_CS_STATUS, 16, 4⟩
abbrev SYS_CS_STATUS_OFF_ACCESS : Fld := ⟨.SYS_CS_STATUS, 4, 1⟩
abbrev SYS_CS_STATUS_TETHER_ERR : Fld := ⟨.SYS_CS_STATUS, 3, 1⟩
abbrev SYS_CS_STATUS_MESH_SUPERSEDED : Fld := ⟨.SYS_CS_STATUS, 2, 1⟩
abbrev SYS_CS_STATUS_MESH_DROP : Fld := ⟨.SYS_CS_STATUS, 1, 1⟩
abbrev SYS_CS_STATUS_UNIT_AVAILABLE : Fld := ⟨.SYS_CS_STATUS, 0, 1⟩
abbrev SYS_QOS_LEDGER_GRANTED : Fld := ⟨.SYS_QOS_LEDGER, 32, 32⟩
abbrev SYS_QOS_LEDGER_BALANCE : Fld := ⟨.SYS_QOS_LEDGER, 0, 32⟩
abbrev SYS_QOS_LEND_BORROWED : Fld := ⟨.SYS_QOS_LEND, 32, 32⟩
abbrev SYS_QOS_LEND_LENT : Fld := ⟨.SYS_QOS_LEND, 0, 32⟩
abbrev SYS_QOS_POOL_UNASSIGNED : Fld := ⟨.SYS_QOS_POOL, 32, 32⟩
abbrev SYS_QOS_POOL_POOL : Fld := ⟨.SYS_QOS_POOL, 0, 32⟩
abbrev SYS_QOS_STATUS_HELD_LAST : Fld := ⟨.SYS_QOS_STATUS, 16, 16⟩
abbrev SYS_QOS_STATUS_HELD : Fld := ⟨.SYS_QOS_STATUS, 0, 16⟩
abbrev SYS_QOS_HOLDCNT_CLR : Fld := ⟨.SYS_QOS_HOLDCNT, 63, 1⟩
abbrev SYS_QOS_HOLDCNT_FIRST_PHASE : Fld := ⟨.SYS_QOS_HOLDCNT, 32, 18⟩
abbrev SYS_QOS_HOLDCNT_SPANS_HELD : Fld := ⟨.SYS_QOS_HOLDCNT, 0, 32⟩
abbrev SYS_KCTL_STATE : Fld := ⟨.SYS_KCTL, 44, 4⟩
abbrev SYS_KCTL_CAUSE : Fld := ⟨.SYS_KCTL, 40, 4⟩
abbrev SYS_KCTL_SELF_RESET : Fld := ⟨.SYS_KCTL, 8, 1⟩
abbrev SYS_KCTL_CMD_ERR : Fld := ⟨.SYS_KCTL, 3, 1⟩
abbrev SYS_KCTL_STOP : Fld := ⟨.SYS_KCTL, 2, 1⟩
abbrev SYS_KCTL_RESET : Fld := ⟨.SYS_KCTL, 1, 1⟩
abbrev SPN_CTL_SCHED_IRQ_EN : Fld := ⟨.SPN_CTL, 2, 1⟩
abbrev SPN_CTL_RECAL : Fld := ⟨.SPN_CTL, 1, 1⟩
abbrev SPN_CTL_ENABLE : Fld := ⟨.SPN_CTL, 0, 1⟩
abbrev SPN_STATUS_HOLDOVER_SPANS : Fld := ⟨.SPN_STATUS, 20, 12⟩
abbrev SPN_STATUS_CFG_ERR : Fld := ⟨.SPN_STATUS, 17, 1⟩
abbrev SPN_STATUS_TIME_LOAD_ERR : Fld := ⟨.SPN_STATUS, 16, 1⟩
abbrev SPN_STATUS_RING_MISMATCH : Fld := ⟨.SPN_STATUS, 15, 1⟩
abbrev SPN_STATUS_SCHED_OVF : Fld := ⟨.SPN_STATUS, 14, 1⟩
abbrev SPN_STATUS_SCHED_LATE : Fld := ⟨.SPN_STATUS, 13, 1⟩
abbrev SPN_STATUS_CRC_ERR : Fld := ⟨.SPN_STATUS, 12, 1⟩
abbrev SPN_STATUS_MAP_ERR : Fld := ⟨.SPN_STATUS, 11, 1⟩
abbrev SPN_STATUS_RENUMBERED : Fld := ⟨.SPN_STATUS, 10, 1⟩
abbrev SPN_STATUS_STEPPED : Fld := ⟨.SPN_STATUS, 9, 1⟩
abbrev SPN_STATUS_K_MISMATCH : Fld := ⟨.SPN_STATUS, 8, 1⟩
abbrev SPN_STATUS_HOLD : Fld := ⟨.SPN_STATUS, 7, 1⟩
abbrev SPN_STATUS_MASTER : Fld := ⟨.SPN_STATUS, 6, 1⟩
abbrev SPN_STATUS_TIMEBASE : Fld := ⟨.SPN_STATUS, 4, 2⟩
abbrev SPN_STATUS_PORT_STATE : Fld := ⟨.SPN_STATUS, 0, 3⟩
abbrev SPN_SPAN_IN_WINDOW : Fld := ⟨.SPN_SPAN, 63, 1⟩
abbrev SPN_SPAN_SPAN : Fld := ⟨.SPN_SPAN, 0, 48⟩
abbrev SPN_RACKTIME_TIME : Fld := ⟨.SPN_RACKTIME, 0, 64⟩
abbrev SPN_CFG_POSITION : Fld := ⟨.SPN_CFG, 16, 8⟩
abbrev SPN_CFG_WINDOW : Fld := ⟨.SPN_CFG, 4, 7⟩
abbrev SPN_CFG_K : Fld := ⟨.SPN_CFG, 0, 3⟩
abbrev SPN_DELAY_ACC_IN : Fld := ⟨.SPN_DELAY, 24, 24⟩
abbrev SPN_DELAY_FWD : Fld := ⟨.SPN_DELAY, 0, 24⟩
abbrev SPN_RING_DELAY_EXPECTED : Fld := ⟨.SPN_RING_DELAY, 24, 24⟩
abbrev SPN_RING_DELAY_MEASURED : Fld := ⟨.SPN_RING_DELAY, 0, 24⟩
abbrev SPN_TIME_LOAD_TIME : Fld := ⟨.SPN_TIME_LOAD, 0, 64⟩
abbrev SPN_SCHED_TX0_GO : Fld := ⟨.SPN_SCHED_TX0, 63, 1⟩
abbrev SPN_SCHED_TX0_ACTION : Fld := ⟨.SPN_SCHED_TX0, 48, 8⟩
abbrev SPN_SCHED_TX0_TARGET : Fld := ⟨.SPN_SCHED_TX0, 0, 48⟩
abbrev SPN_SCHED_TX1_ARG : Fld := ⟨.SPN_SCHED_TX1, 0, 64⟩
abbrev SPN_SCHED_RX0_VALID : Fld := ⟨.SPN_SCHED_RX0, 63, 1⟩
abbrev SPN_SCHED_RX0_ORIGIN : Fld := ⟨.SPN_SCHED_RX0, 48, 8⟩
abbrev SPN_SCHED_RX0_TARGET : Fld := ⟨.SPN_SCHED_RX0, 0, 48⟩
abbrev SPN_SCHED_RX1_ARG : Fld := ⟨.SPN_SCHED_RX1, 0, 64⟩
abbrev SPN_FALLEN_MAP : Fld := ⟨.SPN_FALLEN, 0, 64⟩
abbrev SPN_OVERRUN_COUNT : Fld := ⟨.SPN_OVERRUN, 32, 32⟩
abbrev SPN_OVERRUN_CLR : Fld := ⟨.SPN_OVERRUN, 31, 1⟩
abbrev SPN_OVERRUN_OTHER : Fld := ⟨.SPN_OVERRUN, 1, 1⟩
abbrev SPN_OVERRUN_REFRESH : Fld := ⟨.SPN_OVERRUN, 0, 1⟩
abbrev ZNX_OWNER_HELD : Fld := ⟨.ZNX_OWNER, 16, 1⟩
abbrev ZNX_OWNER_HART : Fld := ⟨.ZNX_OWNER, 0, 16⟩
abbrev ZNX_CMD_OP : Fld := ⟨.ZNX_CMD, 0, 8⟩
abbrev ZNX_SRC_LEN : Fld := ⟨.ZNX_SRC, 32, 32⟩
abbrev ZNX_SRC_OFFSET : Fld := ⟨.ZNX_SRC, 0, 19⟩
abbrev ZNX_STATUS_ERR_RECORD : Fld := ⟨.ZNX_STATUS, 48, 16⟩
abbrev ZNX_STATUS_ERR_SECTION : Fld := ⟨.ZNX_STATUS, 40, 8⟩
abbrev ZNX_STATUS_ERR_CODE : Fld := ⟨.ZNX_STATUS, 32, 8⟩
abbrev ZNX_STATUS_REFLOW_STATE : Fld := ⟨.ZNX_STATUS, 24, 3⟩
abbrev ZNX_STATUS_IMAGE_STATE : Fld := ⟨.ZNX_STATUS, 16, 3⟩
abbrev ZNX_STATUS_BUSY : Fld := ⟨.ZNX_STATUS, 2, 1⟩
abbrev ZNX_STATUS_OWNER_ERR : Fld := ⟨.ZNX_STATUS, 1, 1⟩
abbrev ZNX_STATUS_CMD_ERR : Fld := ⟨.ZNX_STATUS, 0, 1⟩
abbrev ZNX_REFLOW_TARGET_TARGET : Fld := ⟨.ZNX_REFLOW_TARGET, 0, 48⟩
abbrev ZNX_REFLOW_RESULT_OUTCOME : Fld := ⟨.ZNX_REFLOW_RESULT, 62, 2⟩
abbrev ZNX_REFLOW_RESULT_CAUSE : Fld := ⟨.ZNX_REFLOW_RESULT, 56, 6⟩
abbrev ZNX_REFLOW_RESULT_STATION : Fld := ⟨.ZNX_REFLOW_RESULT, 48, 8⟩
abbrev ZNX_REFLOW_RESULT_TARGET : Fld := ⟨.ZNX_REFLOW_RESULT, 0, 48⟩
abbrev ZNX_REFLOW_COUNT_COUNT : Fld := ⟨.ZNX_REFLOW_COUNT, 0, 32⟩
abbrev ZNX_FUSE_MIN_SVN : Fld := ⟨.ZNX_FUSE, 16, 32⟩
abbrev ZNX_FUSE_FACTORY_MODE : Fld := ⟨.ZNX_FUSE, 8, 1⟩
abbrev ZNX_FUSE_KEY_REVOKED : Fld := ⟨.ZNX_FUSE, 4, 4⟩
abbrev ZNX_FUSE_KEY_PROGRAMMED : Fld := ⟨.ZNX_FUSE, 0, 4⟩
abbrev ZNX_DIGEST_DIGEST : Fld := ⟨.ZNX_DIGEST, 0, 64⟩
abbrev ZNX_BUILD_VALUE : Fld := ⟨.ZNX_BUILD, 0, 64⟩
abbrev ZNX_PAIR_VALUE : Fld := ⟨.ZNX_PAIR, 0, 64⟩
abbrev FCR_STICKY_STICKY : Fld := ⟨.FCR_STICKY, 0, 64⟩
abbrev FCR_SUMMARY_NONZERO : Fld := ⟨.FCR_SUMMARY, 0, 20⟩
abbrev FCR_CLASS_CLASS0 : Fld := ⟨.FCR_CLASS, 0, 3⟩
abbrev FCR_CLASS_CLASS1 : Fld := ⟨.FCR_CLASS, 4, 3⟩
abbrev FCR_CLASS_CLASS2 : Fld := ⟨.FCR_CLASS, 8, 3⟩
abbrev FCR_CLASS_CLASS3 : Fld := ⟨.FCR_CLASS, 12, 3⟩
abbrev FCR_CLASS_CLASS4 : Fld := ⟨.FCR_CLASS, 16, 3⟩
abbrev FCR_CLASS_CLASS5 : Fld := ⟨.FCR_CLASS, 20, 3⟩
abbrev FCR_CLASS_CLASS6 : Fld := ⟨.FCR_CLASS, 24, 3⟩
abbrev FCR_CLASS_CLASS7 : Fld := ⟨.FCR_CLASS, 28, 3⟩
abbrev FCR_CLASS_CLASS8 : Fld := ⟨.FCR_CLASS, 32, 3⟩
abbrev FCR_CLASS_CLASS9 : Fld := ⟨.FCR_CLASS, 36, 3⟩
abbrev FCR_CLASS_CLASS10 : Fld := ⟨.FCR_CLASS, 40, 3⟩
abbrev FCR_CLASS_CLASS11 : Fld := ⟨.FCR_CLASS, 44, 3⟩
abbrev FCR_CLASS_CLASS12 : Fld := ⟨.FCR_CLASS, 48, 3⟩
abbrev FCR_CLASS_CLASS13 : Fld := ⟨.FCR_CLASS, 52, 3⟩
abbrev FCR_CLASS_CLASS14 : Fld := ⟨.FCR_CLASS, 56, 3⟩
abbrev FCR_CLASS_CLASS15 : Fld := ⟨.FCR_CLASS, 60, 3⟩
abbrev FCR_KPEND_PEND : Fld := ⟨.FCR_KPEND, 0, 16⟩
abbrev FCR_HEEL_CMD : Fld := ⟨.FCR_HEEL, 56, 8⟩
abbrev FCR_HEEL_COUNT : Fld := ⟨.FCR_HEEL, 48, 8⟩
abbrev FCR_HEEL_DUMP_DONE : Fld := ⟨.FCR_HEEL, 47, 1⟩
abbrev FCR_HEEL_HW_SR : Fld := ⟨.FCR_HEEL, 46, 1⟩
abbrev FCR_HEEL_COLLECTOR_ARRAY : Fld := ⟨.FCR_HEEL, 43, 3⟩
abbrev FCR_HEEL_CAUSE : Fld := ⟨.FCR_HEEL, 37, 3⟩
abbrev FCR_HEEL_SOURCE : Fld := ⟨.FCR_HEEL, 24, 11⟩
abbrev FCR_HEEL_HEELED : Fld := ⟨.FCR_HEEL, 0, 1⟩
abbrev FCR_HEEL_SPAN_SPAN : Fld := ⟨.FCR_HEEL_SPAN, 0, 48⟩
abbrev FCR_INJECT_GO : Fld := ⟨.FCR_INJECT, 63, 1⟩
abbrev FCR_INJECT_COLLECTOR : Fld := ⟨.FCR_INJECT, 62, 1⟩
abbrev FCR_INJECT_SOURCE : Fld := ⟨.FCR_INJECT, 0, 11⟩
abbrev PWR_KREL_GO : Fld := ⟨.PWR_KREL, 63, 1⟩
abbrev PWR_KREL_CMD_ERR : Fld := ⟨.PWR_KREL, 62, 1⟩
abbrev PWR_KREL_HELD : Fld := ⟨.PWR_KREL, 61, 1⟩
abbrev PWR_KREL_KENNEL : Fld := ⟨.PWR_KREL, 52, 4⟩
abbrev PWR_KREL_ENTRY : Fld := ⟨.PWR_KREL, 2, 50⟩
abbrev PWR_KSTART_N_N_START : Fld := ⟨.PWR_KSTART_N, 0, 16⟩
abbrev PWR_CFG_PACK_FMAX : Fld := ⟨.PWR_CFG, 48, 16⟩
abbrev PWR_CFG_TDP_W : Fld := ⟨.PWR_CFG, 32, 16⟩
abbrev PWR_CFG_THROTTLE_C : Fld := ⟨.PWR_CFG, 24, 8⟩
abbrev PWR_CFG_VIN_IMAX : Fld := ⟨.PWR_CFG, 12, 12⟩
abbrev PWR_CFG_GUARD : Fld := ⟨.PWR_CFG, 0, 12⟩
abbrev PWR_STATUS_POWER_W : Fld := ⟨.PWR_STATUS, 48, 16⟩
abbrev PWR_STATUS_MAX_TEMP : Fld := ⟨.PWR_STATUS, 40, 8⟩
abbrev PWR_STATUS_LIMIT_MHZ : Fld := ⟨.PWR_STATUS, 28, 12⟩
abbrev PWR_STATUS_ACTIVE_PACKS : Fld := ⟨.PWR_STATUS, 13, 7⟩
abbrev PWR_STATUS_TRIP : Fld := ⟨.PWR_STATUS, 3, 1⟩
abbrev PWR_STATUS_EMERGENCY : Fld := ⟨.PWR_STATUS, 2, 1⟩
abbrev PWR_STATUS_VIN_LIMIT : Fld := ⟨.PWR_STATUS, 1, 1⟩
abbrev PWR_STATUS_THROTTLE : Fld := ⟨.PWR_STATUS, 0, 1⟩
abbrev PWR_RST_CTL_CMD : Fld := ⟨.PWR_RST_CTL, 56, 8⟩
abbrev PWR_RST_CTL_LAST_CAUSE : Fld := ⟨.PWR_RST_CTL, 4, 4⟩
abbrev PWR_SHOLD_COUNT : Fld := ⟨.PWR_SHOLD, 48, 8⟩
abbrev PWR_SHOLD_OVERRIDDEN : Fld := ⟨.PWR_SHOLD, 40, 1⟩
abbrev PWR_SHOLD_DEFERRED : Fld := ⟨.PWR_SHOLD, 39, 1⟩
abbrev PWR_SHOLD_PENDING : Fld := ⟨.PWR_SHOLD, 38, 1⟩
abbrev PWR_SHOLD_N_OP : Fld := ⟨.PWR_SHOLD, 37, 1⟩
abbrev PWR_SHOLD_SAT : Fld := ⟨.PWR_SHOLD, 36, 1⟩
abbrev PWR_SHOLD_OP : Fld := ⟨.PWR_SHOLD, 32, 2⟩
abbrev PWR_SHOLD_LAST_N_KENNEL : Fld := ⟨.PWR_SHOLD, 24, 4⟩
abbrev OWN_TABLE_BASE : Fld := ⟨.OWN_TABLE, 21, 31⟩
abbrev OWN_TABLE_PAGES_PAGES : Fld := ⟨.OWN_TABLE_PAGES, 0, 32⟩
abbrev OWN_DUMP_BASE : Fld := ⟨.OWN_DUMP, 26, 26⟩
abbrev OWN_INV_GO : Fld := ⟨.OWN_INV, 63, 1⟩
abbrev OWN_INV_ALL : Fld := ⟨.OWN_INV, 62, 1⟩
abbrev OWN_INV_PAGE : Fld := ⟨.OWN_INV, 12, 40⟩
abbrev OWN_CMD_GO : Fld := ⟨.OWN_CMD, 63, 1⟩
abbrev OWN_CMD_OP : Fld := ⟨.OWN_CMD, 56, 2⟩
abbrev OWN_CMD_SCRUB : Fld := ⟨.OWN_CMD, 48, 1⟩
abbrev OWN_CMD_NEW : Fld := ⟨.OWN_CMD, 32, 8⟩
abbrev OWN_CMD_PAGES : Fld := ⟨.OWN_CMD, 0, 32⟩
abbrev OWN_CMD_BASE_BASE : Fld := ⟨.OWN_CMD_BASE, 12, 40⟩
abbrev OWN_STATUS_DONE_PAGES : Fld := ⟨.OWN_STATUS, 32, 32⟩
abbrev OWN_STATUS_ERR : Fld := ⟨.OWN_STATUS, 16, 8⟩
abbrev OWN_STATUS_BUSY : Fld := ⟨.OWN_STATUS, 2, 1⟩
abbrev OWN_STATUS_CMD_ERR : Fld := ⟨.OWN_STATUS, 1, 1⟩
abbrev OWN_STATUS_DONE : Fld := ⟨.OWN_STATUS, 0, 1⟩
abbrev OWN_DENY_VALID : Fld := ⟨.OWN_DENY, 63, 1⟩
abbrev OWN_DENY_MORE : Fld := ⟨.OWN_DENY, 62, 1⟩
abbrev OWN_DENY_CLASS : Fld := ⟨.OWN_DENY, 59, 3⟩
abbrev OWN_DENY_WORLD : Fld := ⟨.OWN_DENY, 58, 1⟩
abbrev OWN_DENY_KENNEL : Fld := ⟨.OWN_DENY, 54, 4⟩
abbrev OWN_DENY_CAUSE : Fld := ⟨.OWN_DENY, 52, 2⟩
abbrev OWN_DENY_PAGE : Fld := ⟨.OWN_DENY, 12, 40⟩
abbrev OWN_DENY_COUNT : Fld := ⟨.OWN_DENY, 0, 12⟩
abbrev ICN_WIRE_VALID : Fld := ⟨.ICN_WIRE, 63, 1⟩
abbrev ICN_WIRE_POL : Fld := ⟨.ICN_WIRE, 62, 1⟩
abbrev ICN_WIRE_PIN : Fld := ⟨.ICN_WIRE, 61, 1⟩
abbrev ICN_WIRE_WIRE_ERR : Fld := ⟨.ICN_WIRE, 60, 1⟩
abbrev ICN_WIRE_DOMAIN : Fld := ⟨.ICN_WIRE, 16, 4⟩
abbrev ICN_WIRE_SOURCE : Fld := ⟨.ICN_WIRE, 0, 12⟩
abbrev ICN_DOM_CFG_SRC_PAGE : Fld := ⟨.ICN_DOM_CFG, 40, 8⟩
abbrev ICN_DOM_CFG_CLK_STOPPED : Fld := ⟨.ICN_DOM_CFG, 35, 1⟩
abbrev ICN_DOM_CFG_FENCE_ON : Fld := ⟨.ICN_DOM_CFG, 34, 1⟩
abbrev ICN_DOM_CFG_ENABLED : Fld := ⟨.ICN_DOM_CFG, 33, 1⟩
abbrev ICN_DOM_CFG_GUEST_CTX : Fld := ⟨.ICN_DOM_CFG, 16, 3⟩
abbrev ICN_DOM_CFG_SOURCES : Fld := ⟨.ICN_DOM_CFG, 0, 16⟩
abbrev ICN_DOM_MSG_ID : Fld := ⟨.ICN_DOM_MSG, 0, 12⟩
abbrev ICN_DOM_PTAB_VCPUS : Fld := ⟨.ICN_DOM_PTAB, 52, 11⟩
abbrev ICN_DOM_PTAB_BASE : Fld := ⟨.ICN_DOM_PTAB, 12, 40⟩
abbrev ICN_DOM_STATUS_MSG_DROP : Fld := ⟨.ICN_DOM_STATUS, 48, 16⟩
abbrev ICN_DOM_STATUS_LATCH_WAKE : Fld := ⟨.ICN_DOM_STATUS, 6, 1⟩
abbrev ICN_DOM_STATUS_GCTX_ERR : Fld := ⟨.ICN_DOM_STATUS, 5, 1⟩
abbrev ICN_DOM_STATUS_POST_DENY : Fld := ⟨.ICN_DOM_STATUS, 4, 1⟩
abbrev ICN_DOM_STATUS_POST_ERR : Fld := ⟨.ICN_DOM_STATUS, 3, 1⟩
abbrev ICN_DOM_STATUS_COMPLETE_ERR : Fld := ⟨.ICN_DOM_STATUS, 2, 1⟩
abbrev ICN_DOM_STATUS_N_WRITE : Fld := ⟨.ICN_DOM_STATUS, 1, 1⟩
abbrev ICN_DOM_LOST_LOST : Fld := ⟨.ICN_DOM_LOST, 0, 64⟩
abbrev ICN_DRM_CLAIM_ID : Fld := ⟨.ICN_DRM_CLAIM, 0, 12⟩
abbrev ICN_DRM_THRESH_LINE : Fld := ⟨.ICN_DRM_THRESH, 63, 1⟩
abbrev ICN_DRM_THRESH_PRESENTED : Fld := ⟨.ICN_DRM_THRESH, 62, 1⟩
abbrev ICN_DRM_THRESH_THRESHOLD : Fld := ⟨.ICN_DRM_THRESH, 0, 4⟩
abbrev ICN_GRP_REMAIN : Fld := ⟨.ICN_GRP, 32, 24⟩
abbrev ICN_GRP_WAITING : Fld := ⟨.ICN_GRP, 9, 1⟩
abbrev ICN_GRP_FENCE : Fld := ⟨.ICN_GRP, 8, 1⟩
abbrev ICN_GRP_HOLDOFF : Fld := ⟨.ICN_GRP, 0, 6⟩
abbrev ICN_CTX_CLAIM_ID : Fld := ⟨.ICN_CTX_CLAIM, 0, 12⟩
abbrev ICN_CTX_THRESH_LINE : Fld := ⟨.ICN_CTX_THRESH, 63, 1⟩
abbrev ICN_CTX_THRESH_PRESENTED : Fld := ⟨.ICN_CTX_THRESH, 62, 1⟩
abbrev ICN_CTX_THRESH_THRESHOLD : Fld := ⟨.ICN_CTX_THRESH, 0, 4⟩
abbrev ICN_GCTX_RESIDENT : Fld := ⟨.ICN_GCTX, 63, 1⟩
abbrev ICN_GCTX_VCPU : Fld := ⟨.ICN_GCTX, 0, 10⟩
abbrev ICN_MCTX_CLAIM_ID : Fld := ⟨.ICN_MCTX_CLAIM, 0, 12⟩
abbrev ICN_MCTX_THRESH_LINE : Fld := ⟨.ICN_MCTX_THRESH, 63, 1⟩
abbrev ICN_MCTX_THRESH_PRESENTED : Fld := ⟨.ICN_MCTX_THRESH, 62, 1⟩
abbrev ICN_MCTX_THRESH_THRESHOLD : Fld := ⟨.ICN_MCTX_THRESH, 0, 4⟩
abbrev ICN_SRC_PENDING : Fld := ⟨.ICN_SRC, 63, 1⟩
abbrev ICN_SRC_ACTIVE : Fld := ⟨.ICN_SRC, 62, 1⟩
abbrev ICN_SRC_SET : Fld := ⟨.ICN_SRC, 61, 1⟩
abbrev ICN_SRC_CLR : Fld := ⟨.ICN_SRC, 60, 1⟩
abbrev ICN_SRC_ROUTE_OFF : Fld := ⟨.ICN_SRC, 59, 1⟩
abbrev ICN_SRC_TYPE : Fld := ⟨.ICN_SRC, 58, 1⟩
abbrev ICN_SRC_POSTED : Fld := ⟨.ICN_SRC, 57, 1⟩
abbrev ICN_SRC_ENABLE : Fld := ⟨.ICN_SRC, 56, 1⟩
abbrev ICN_SRC_PRIORITY : Fld := ⟨.ICN_SRC, 52, 4⟩
abbrev ICN_SRC_GROUP : Fld := ⟨.ICN_SRC, 46, 6⟩
abbrev ICN_SRC_SEC : Fld := ⟨.ICN_SRC, 45, 1⟩
abbrev ICN_SRC_CTX : Fld := ⟨.ICN_SRC, 40, 4⟩
abbrev ICN_SRC_HART : Fld := ⟨.ICN_SRC, 32, 8⟩
abbrev ICN_SRC_VCPU : Fld := ⟨.ICN_SRC, 0, 10⟩
abbrev TILE_CORE_MCLOG_VALID : Fld := ⟨.TILE_CORE_MCLOG, 63, 1⟩
abbrev TILE_CORE_MCLOG_OVERFLOW : Fld := ⟨.TILE_CORE_MCLOG, 62, 1⟩
abbrev TILE_CORE_MCLOG_UE : Fld := ⟨.TILE_CORE_MCLOG, 61, 1⟩
abbrev TILE_CORE_MCLOG_POISON : Fld := ⟨.TILE_CORE_MCLOG, 60, 1⟩
abbrev TILE_CORE_MCLOG_STRUCT : Fld := ⟨.TILE_CORE_MCLOG, 48, 8⟩
abbrev TILE_CORE_MCLOG_ENTRY : Fld := ⟨.TILE_CORE_MCLOG, 32, 16⟩
abbrev TILE_CORE_MCLOG_SYNDROME : Fld := ⟨.TILE_CORE_MCLOG, 24, 8⟩
abbrev TILE_CORE_MCLOG_CE_COUNT : Fld := ⟨.TILE_CORE_MCLOG, 0, 16⟩
abbrev TILE_CORE_TEST_OFFLINE : Fld := ⟨.TILE_CORE_TEST, 63, 1⟩
abbrev TILE_CORE_TEST_LBIST : Fld := ⟨.TILE_CORE_TEST, 62, 1⟩
abbrev TILE_CORE_TEST_STATE : Fld := ⟨.TILE_CORE_TEST, 4, 4⟩
abbrev TILE_CORE_TEST_RESULT : Fld := ⟨.TILE_CORE_TEST, 0, 4⟩
abbrev TILE_CORE_HALT_VALID : Fld := ⟨.TILE_CORE_HALT, 63, 1⟩
abbrev TILE_CORE_HALT_WORLD : Fld := ⟨.TILE_CORE_HALT, 62, 1⟩
abbrev TILE_CORE_HALT_PRIV : Fld := ⟨.TILE_CORE_HALT, 60, 2⟩
abbrev TILE_CORE_HALT_V : Fld := ⟨.TILE_CORE_HALT, 59, 1⟩
abbrev TILE_CORE_HALT_PC : Fld := ⟨.TILE_CORE_HALT, 0, 57⟩
abbrev TILE_CACHE_CTL_L2_EN_REFUSED : Fld := ⟨.TILE_CACHE_CTL, 23, 1⟩
abbrev TILE_CACHE_CTL_L2_CMD_ERR : Fld := ⟨.TILE_CACHE_CTL, 22, 1⟩
abbrev TILE_CACHE_CTL_L2_STATE : Fld := ⟨.TILE_CACHE_CTL, 20, 2⟩
abbrev TILE_CACHE_CTL_L2_INV_DONE : Fld := ⟨.TILE_CACHE_CTL, 19, 1⟩
abbrev TILE_CACHE_CTL_L2_FLUSH : Fld := ⟨.TILE_CACHE_CTL, 18, 1⟩
abbrev TILE_CACHE_CTL_L2_INV : Fld := ⟨.TILE_CACHE_CTL, 17, 1⟩
abbrev TILE_CACHE_CTL_L2_EN : Fld := ⟨.TILE_CACHE_CTL, 16, 1⟩
abbrev TILE_CACHE_CTL_L1D_EN_REFUSED : Fld := ⟨.TILE_CACHE_CTL, 15, 1⟩
abbrev TILE_CACHE_CTL_L1D_CMD_ERR : Fld := ⟨.TILE_CACHE_CTL, 14, 1⟩
abbrev TILE_CACHE_CTL_L1D_STATE : Fld := ⟨.TILE_CACHE_CTL, 12, 2⟩
abbrev TILE_CACHE_CTL_L1D_INV_DONE : Fld := ⟨.TILE_CACHE_CTL, 11, 1⟩
abbrev TILE_CACHE_CTL_L1D_FLUSH : Fld := ⟨.TILE_CACHE_CTL, 10, 1⟩
abbrev TILE_CACHE_CTL_L1D_INV : Fld := ⟨.TILE_CACHE_CTL, 9, 1⟩
abbrev TILE_CACHE_CTL_L1D_EN : Fld := ⟨.TILE_CACHE_CTL, 8, 1⟩
abbrev TILE_CACHE_CTL_L1I_EN_REFUSED : Fld := ⟨.TILE_CACHE_CTL, 7, 1⟩
abbrev TILE_CACHE_CTL_L1I_CMD_ERR : Fld := ⟨.TILE_CACHE_CTL, 6, 1⟩
abbrev TILE_CACHE_CTL_L1I_STATE : Fld := ⟨.TILE_CACHE_CTL, 4, 2⟩
abbrev TILE_CACHE_CTL_L1I_INV_DONE : Fld := ⟨.TILE_CACHE_CTL, 3, 1⟩
abbrev TILE_CACHE_CTL_L1I_INV : Fld := ⟨.TILE_CACHE_CTL, 1, 1⟩
abbrev TILE_CACHE_CTL_L1I_EN : Fld := ⟨.TILE_CACHE_CTL, 0, 1⟩
abbrev TILE_SLICE_CTL_CMD_ERR : Fld := ⟨.TILE_SLICE_CTL, 7, 1⟩
abbrev TILE_SLICE_CTL_EN_REFUSED : Fld := ⟨.TILE_SLICE_CTL, 6, 1⟩
abbrev TILE_SLICE_CTL_BIST : Fld := ⟨.TILE_SLICE_CTL, 5, 1⟩
abbrev TILE_SLICE_CTL_RETIRE : Fld := ⟨.TILE_SLICE_CTL, 4, 1⟩
abbrev TILE_SLICE_CTL_INV_DONE : Fld := ⟨.TILE_SLICE_CTL, 3, 1⟩
abbrev TILE_SLICE_CTL_INV : Fld := ⟨.TILE_SLICE_CTL, 1, 1⟩
abbrev TILE_SLICE_CTL_EN : Fld := ⟨.TILE_SLICE_CTL, 0, 1⟩
abbrev TILE_SLICE_STATUS_DRAIN_SETS : Fld := ⟨.TILE_SLICE_STATUS, 42, 11⟩
abbrev TILE_SLICE_STATUS_DRAIN_SF : Fld := ⟨.TILE_SLICE_STATUS, 24, 18⟩
abbrev TILE_SLICE_STATUS_SPARES_USED : Fld := ⟨.TILE_SLICE_STATUS, 16, 6⟩
abbrev TILE_SLICE_STATUS_BIST_RESULT : Fld := ⟨.TILE_SLICE_STATUS, 14, 2⟩
abbrev TILE_SLICE_STATUS_CAUSE : Fld := ⟨.TILE_SLICE_STATUS, 11, 3⟩
abbrev TILE_SLICE_STATUS_READMIT_OK : Fld := ⟨.TILE_SLICE_STATUS, 10, 1⟩
abbrev TILE_SLICE_STATUS_STATE : Fld := ⟨.TILE_SLICE_STATUS, 0, 4⟩
abbrev TILE_SLICE_ERRLOG_VALID : Fld := ⟨.TILE_SLICE_ERRLOG, 63, 1⟩
abbrev TILE_SLICE_ERRLOG_OVERFLOW : Fld := ⟨.TILE_SLICE_ERRLOG, 62, 1⟩
abbrev TILE_SLICE_ERRLOG_UE : Fld := ⟨.TILE_SLICE_ERRLOG, 61, 1⟩
abbrev TILE_SLICE_ERRLOG_POISON : Fld := ⟨.TILE_SLICE_ERRLOG, 60, 1⟩
abbrev TILE_SLICE_ERRLOG_ARRAY : Fld := ⟨.TILE_SLICE_ERRLOG, 56, 4⟩
abbrev TILE_SLICE_ERRLOG_SET : Fld := ⟨.TILE_SLICE_ERRLOG, 42, 11⟩
abbrev TILE_SLICE_ERRLOG_WAY : Fld := ⟨.TILE_SLICE_ERRLOG, 38, 4⟩
abbrev TILE_SLICE_ERRLOG_SUB : Fld := ⟨.TILE_SLICE_ERRLOG, 36, 2⟩
abbrev TILE_SLICE_ERRLOG_SYMBOL : Fld := ⟨.TILE_SLICE_ERRLOG, 16, 6⟩
abbrev TILE_SLICE_ERRLOG_CE_COUNT : Fld := ⟨.TILE_SLICE_ERRLOG, 0, 16⟩
abbrev TILE_SLICE_ERRADDR_ADDR_VALID : Fld := ⟨.TILE_SLICE_ERRADDR, 63, 1⟩
abbrev TILE_SLICE_ERRADDR_LINE : Fld := ⟨.TILE_SLICE_ERRADDR, 6, 46⟩
abbrev TILE_HA_STATUS_SF_EVICTS : Fld := ⟨.TILE_HA_STATUS, 48, 16⟩
abbrev TILE_HA_STATUS_SESSION : Fld := ⟨.TILE_HA_STATUS, 40, 8⟩
abbrev TILE_HA_STATUS_TT_GENERAL : Fld := ⟨.TILE_HA_STATUS, 24, 8⟩
abbrev TILE_HA_STATUS_TT_WRITE : Fld := ⟨.TILE_HA_STATUS, 19, 5⟩
abbrev TILE_HA_STATUS_TT_REMOTE : Fld := ⟨.TILE_HA_STATUS, 14, 5⟩
abbrev TILE_HA_STATUS_TT_INTERNAL : Fld := ⟨.TILE_HA_STATUS, 10, 4⟩
abbrev TILE_HA_EPOCH_EPOCH : Fld := ⟨.TILE_HA_EPOCH, 0, 48⟩
abbrev TILE_SLICE_OCC_QUOTA : Fld := ⟨.TILE_SLICE_OCC, 32, 16⟩
abbrev TILE_SLICE_OCC_OCC : Fld := ⟨.TILE_SLICE_OCC, 0, 16⟩
abbrev TILE_MS_GRAIN_MEM_HELD : Fld := ⟨.TILE_MS_GRAIN, 63, 1⟩
abbrev TILE_MS_GRAIN_INJ_HELD : Fld := ⟨.TILE_MS_GRAIN, 62, 1⟩
abbrev TILE_MS_GRAIN_DEST_HELD : Fld := ⟨.TILE_MS_GRAIN, 61, 1⟩
abbrev TILE_MS_GRAIN_MEM_LOCAL : Fld := ⟨.TILE_MS_GRAIN, 32, 8⟩
abbrev TILE_MS_GRAIN_INJ_LEFT : Fld := ⟨.TILE_MS_GRAIN, 0, 32⟩
abbrev TILE_MS_RETRY_DEST_RETRIES : Fld := ⟨.TILE_MS_RETRY, 32, 32⟩
abbrev TILE_MS_RETRY_RETRIES : Fld := ⟨.TILE_MS_RETRY, 0, 32⟩
abbrev TILE_MS_LINKERR_WEST : Fld := ⟨.TILE_MS_LINKERR, 48, 16⟩
abbrev TILE_MS_LINKERR_SOUTH : Fld := ⟨.TILE_MS_LINKERR, 32, 16⟩
abbrev TILE_MS_LINKERR_EAST : Fld := ⟨.TILE_MS_LINKERR, 16, 16⟩
abbrev TILE_MS_LINKERR_NORTH : Fld := ⟨.TILE_MS_LINKERR, 0, 16⟩
abbrev TILE_SHOLD_COUNT : Fld := ⟨.TILE_SHOLD, 48, 8⟩
abbrev TILE_SHOLD_OVERRIDDEN : Fld := ⟨.TILE_SHOLD, 40, 1⟩
abbrev TILE_SHOLD_DEFERRED : Fld := ⟨.TILE_SHOLD, 39, 1⟩
abbrev TILE_SHOLD_PENDING : Fld := ⟨.TILE_SHOLD, 38, 1⟩
abbrev TILE_SHOLD_N_OP : Fld := ⟨.TILE_SHOLD, 37, 1⟩
abbrev TILE_SHOLD_SAT : Fld := ⟨.TILE_SHOLD, 36, 1⟩
abbrev TILE_SHOLD_OP : Fld := ⟨.TILE_SHOLD, 32, 2⟩
abbrev TILE_SHOLD_LAST_N_KENNEL : Fld := ⟨.TILE_SHOLD, 24, 4⟩
abbrev TILE_CORE_PWR_UNIT_RESET : Fld := ⟨.TILE_CORE_PWR, 63, 1⟩
abbrev TILE_CORE_PWR_CMD_ERR : Fld := ⟨.TILE_CORE_PWR, 62, 1⟩
abbrev TILE_CORE_PWR_STATE : Fld := ⟨.TILE_CORE_PWR, 48, 4⟩
abbrev TILE_CORE_PWR_MAX_DEPTH : Fld := ⟨.TILE_CORE_PWR, 8, 3⟩
abbrev TILE_CORE_PWR_REQ : Fld := ⟨.TILE_CORE_PWR, 0, 3⟩
abbrev TILE_PACK_FREQ_PENDING : Fld := ⟨.TILE_PACK_FREQ, 63, 1⟩
abbrev TILE_PACK_FREQ_TEMP : Fld := ⟨.TILE_PACK_FREQ, 48, 8⟩
abbrev TILE_PACK_FREQ_ACT_MHZ : Fld := ⟨.TILE_PACK_FREQ, 32, 16⟩
abbrev TILE_PACK_FREQ_CEIL_MHZ : Fld := ⟨.TILE_PACK_FREQ, 16, 16⟩
abbrev TILE_PACK_FREQ_REQ_MHZ : Fld := ⟨.TILE_PACK_FREQ, 0, 12⟩
abbrev TILE_CORE_START_GO : Fld := ⟨.TILE_CORE_START, 63, 1⟩
abbrev TILE_CORE_START_ERR : Fld := ⟨.TILE_CORE_START, 62, 1⟩
abbrev TILE_CORE_START_ENTRY : Fld := ⟨.TILE_CORE_START, 2, 50⟩
abbrev MC_CFG_PATROL_H : Fld := ⟨.MC_CFG, 32, 8⟩
abbrev MC_CFG_RATE : Fld := ⟨.MC_CFG, 16, 16⟩
abbrev MC_CFG_DPC : Fld := ⟨.MC_CFG, 8, 2⟩
abbrev MC_CFG_MODE : Fld := ⟨.MC_CFG, 0, 2⟩
abbrev MC_STATUS_RATE_ACT : Fld := ⟨.MC_STATUS, 32, 16⟩
abbrev MC_STATUS_CFG_ERR : Fld := ⟨.MC_STATUS, 23, 1⟩
abbrev MC_STATUS_RETRAIN_STARVED : Fld := ⟨.MC_STATUS, 22, 1⟩
abbrev MC_STATUS_SCRUB_LATE : Fld := ⟨.MC_STATUS, 21, 1⟩
abbrev MC_STATUS_DOUBLED : Fld := ⟨.MC_STATUS, 20, 1⟩
abbrev MC_STATUS_TEMP_CODE : Fld := ⟨.MC_STATUS, 17, 3⟩
abbrev MC_STATUS_FAILED : Fld := ⟨.MC_STATUS, 16, 1⟩
abbrev MC_STATUS_PAIR : Fld := ⟨.MC_STATUS, 12, 2⟩
abbrev MC_STATUS_TRAINED : Fld := ⟨.MC_STATUS, 8, 1⟩
abbrev MC_STATUS_STATE : Fld := ⟨.MC_STATUS, 0, 4⟩
abbrev MC_WQ_WM_AGE_CAP : Fld := ⟨.MC_WQ_WM, 40, 8⟩
abbrev MC_WQ_WM_HI : Fld := ⟨.MC_WQ_WM, 16, 8⟩
abbrev MC_WQ_WM_LO : Fld := ⟨.MC_WQ_WM, 0, 8⟩
abbrev MC_CTL_CMD_ERR : Fld := ⟨.MC_CTL, 8, 1⟩
abbrev MC_CTL_PWR_OFF : Fld := ⟨.MC_CTL, 7, 1⟩
abbrev MC_CTL_SR : Fld := ⟨.MC_CTL, 6, 1⟩
abbrev MC_CTL_RESILVER : Fld := ⟨.MC_CTL, 5, 1⟩
abbrev MC_CTL_EVACUATE : Fld := ⟨.MC_CTL, 4, 1⟩
abbrev MC_CTL_RETRAIN : Fld := ⟨.MC_CTL, 3, 1⟩
abbrev MC_CTL_TRAIN : Fld := ⟨.MC_CTL, 2, 1⟩
abbrev MC_CTL_EN : Fld := ⟨.MC_CTL, 0, 1⟩
abbrev MC_DIMM_CFG_TRFCSB : Fld := ⟨.MC_DIMM_CFG, 52, 12⟩
abbrev MC_DIMM_CFG_TRFC1 : Fld := ⟨.MC_DIMM_CFG, 40, 12⟩
abbrev MC_DIMM_CFG_ROW_BITS : Fld := ⟨.MC_DIMM_CFG, 35, 5⟩
abbrev MC_DIMM_CFG_DENSITY : Fld := ⟨.MC_DIMM_CFG, 29, 6⟩
abbrev MC_DIMM_CFG_DIES : Fld := ⟨.MC_DIMM_CFG, 27, 2⟩
abbrev MC_DIMM_CFG_PKG_RANKS : Fld := ⟨.MC_DIMM_CFG, 26, 1⟩
abbrev MC_DIMM_CFG_CAP_GIB : Fld := ⟨.MC_DIMM_CFG, 17, 9⟩
abbrev MC_DIMM_CFG_PRESENT : Fld := ⟨.MC_DIMM_CFG, 0, 1⟩
abbrev MC_SPD_GO : Fld := ⟨.MC_SPD, 63, 1⟩
abbrev MC_SPD_ERR : Fld := ⟨.MC_SPD, 62, 1⟩
abbrev MC_SPD_DIMM : Fld := ⟨.MC_SPD, 59, 1⟩
abbrev MC_SPD_OFFSET : Fld := ⟨.MC_SPD, 32, 16⟩
abbrev MC_SPD_DATA : Fld := ⟨.MC_SPD, 0, 32⟩
abbrev MC_TRAIN_STATUS_TIME_MS : Fld := ⟨.MC_TRAIN_STATUS, 32, 16⟩
abbrev MC_TRAIN_STATUS_RANK : Fld := ⟨.MC_TRAIN_STATUS, 20, 4⟩
abbrev MC_TRAIN_STATUS_SUB : Fld := ⟨.MC_TRAIN_STATUS, 16, 4⟩
abbrev MC_TRAIN_STATUS_FAIL_CODE : Fld := ⟨.MC_TRAIN_STATUS, 8, 8⟩
abbrev MC_TRAIN_STATUS_PHASE : Fld := ⟨.MC_TRAIN_STATUS, 0, 4⟩
abbrev MC_RETRAIN_CFG_ZQ_PERIOD : Fld := ⟨.MC_RETRAIN_CFG, 16, 16⟩
abbrev MC_RETRAIN_CFG_RT_PERIOD : Fld := ⟨.MC_RETRAIN_CFG, 0, 16⟩
abbrev MC_REFRESH_SB_ISSUED : Fld := ⟨.MC_REFRESH, 32, 32⟩
abbrev MC_REFRESH_EXTRA : Fld := ⟨.MC_REFRESH, 16, 4⟩
abbrev MC_REFRESH_DEBT : Fld := ⟨.MC_REFRESH, 0, 12⟩
abbrev MC_SCRUB_PASSES : Fld := ⟨.MC_SCRUB, 48, 16⟩
abbrev MC_SCRUB_POINTER : Fld := ⟨.MC_SCRUB, 0, 40⟩
abbrev MC_ERR_LOG_VALID : Fld := ⟨.MC_ERR_LOG, 63, 1⟩
abbrev MC_ERR_LOG_OVERFLOW : Fld := ⟨.MC_ERR_LOG, 62, 1⟩
abbrev MC_ERR_LOG_UE : Fld := ⟨.MC_ERR_LOG, 61, 1⟩
abbrev MC_ERR_LOG_MIRRORED : Fld := ⟨.MC_ERR_LOG, 60, 1⟩
abbrev MC_ERR_LOG_SOURCE : Fld := ⟨.MC_ERR_LOG, 56, 4⟩
abbrev MC_ERR_LOG_DEVICE : Fld := ⟨.MC_ERR_LOG, 52, 4⟩
abbrev MC_ERR_LOG_SYNDROME : Fld := ⟨.MC_ERR_LOG, 40, 8⟩
abbrev MC_ERR_LOG_CE_COUNT : Fld := ⟨.MC_ERR_LOG, 0, 16⟩
abbrev MC_ERR_ADDR_ADDR_VALID : Fld := ⟨.MC_ERR_ADDR, 63, 1⟩
abbrev MC_ERR_ADDR_SUB : Fld := ⟨.MC_ERR_ADDR, 62, 1⟩
abbrev MC_ERR_ADDR_RANK : Fld := ⟨.MC_ERR_ADDR, 58, 4⟩
abbrev MC_ERR_ADDR_BG : Fld := ⟨.MC_ERR_ADDR, 55, 3⟩
abbrev MC_ERR_ADDR_BANK : Fld := ⟨.MC_ERR_ADDR, 53, 2⟩
abbrev MC_ERR_ADDR_ROW : Fld := ⟨.MC_ERR_ADDR, 35, 18⟩
abbrev MC_ERR_ADDR_LINE : Fld := ⟨.MC_ERR_ADDR, 0, 35⟩
abbrev MC_ERR_CNT_UE : Fld := ⟨.MC_ERR_CNT, 48, 16⟩
abbrev MC_ERR_CNT_MIRROR : Fld := ⟨.MC_ERR_CNT, 32, 16⟩
abbrev MC_ERR_CNT_POISON_READS : Fld := ⟨.MC_ERR_CNT, 16, 16⟩
abbrev MC_ERR_CNT_REWRITE_DROP : Fld := ⟨.MC_ERR_CNT, 0, 16⟩
abbrev MC_DEV_MARK_MARK : Fld := ⟨.MC_DEV_MARK, 0, 64⟩
abbrev MC_CE_THRESH_LEAK : Fld := ⟨.MC_CE_THRESH, 32, 8⟩
abbrev MC_CE_THRESH_ROW_THRESH : Fld := ⟨.MC_CE_THRESH, 16, 8⟩
abbrev MC_CE_THRESH_DEV_THRESH : Fld := ⟨.MC_CE_THRESH, 0, 16⟩
abbrev MC_PPR_CTL_GO : Fld := ⟨.MC_PPR_CTL, 63, 1⟩
abbrev MC_PPR_CTL_HARD : Fld := ⟨.MC_PPR_CTL, 62, 1⟩
abbrev MC_PPR_CTL_AUTO : Fld := ⟨.MC_PPR_CTL, 61, 1⟩
abbrev MC_PPR_CTL_SUB : Fld := ⟨.MC_PPR_CTL, 36, 1⟩
abbrev MC_PPR_CTL_RANK : Fld := ⟨.MC_PPR_CTL, 32, 4⟩
abbrev MC_PPR_CTL_BG : Fld := ⟨.MC_PPR_CTL, 29, 3⟩
abbrev MC_PPR_CTL_BANK : Fld := ⟨.MC_PPR_CTL, 27, 2⟩
abbrev MC_PPR_CTL_ROW : Fld := ⟨.MC_PPR_CTL, 0, 18⟩
abbrev MC_PPR_STATUS_CANDIDATE : Fld := ⟨.MC_PPR_STATUS, 63, 1⟩
abbrev MC_PPR_STATUS_CAND_SUB : Fld := ⟨.MC_PPR_STATUS, 54, 1⟩
abbrev MC_PPR_STATUS_CAND_RANK : Fld := ⟨.MC_PPR_STATUS, 50, 4⟩
abbrev MC_PPR_STATUS_CAND_BG : Fld := ⟨.MC_PPR_STATUS, 47, 3⟩
abbrev MC_PPR_STATUS_CAND_BANK : Fld := ⟨.MC_PPR_STATUS, 45, 2⟩
abbrev MC_PPR_STATUS_CAND_ROW : Fld := ⟨.MC_PPR_STATUS, 27, 18⟩
abbrev MC_PPR_STATUS_STEP : Fld := ⟨.MC_PPR_STATUS, 4, 5⟩
abbrev MC_PPR_STATUS_RESULT : Fld := ⟨.MC_PPR_STATUS, 0, 4⟩
abbrev MC_RESILVER_POINTER : Fld := ⟨.MC_RESILVER, 0, 40⟩
abbrev MC_PPR_LOG_VALID : Fld := ⟨.MC_PPR_LOG, 63, 1⟩
abbrev MC_PPR_LOG_HARD : Fld := ⟨.MC_PPR_LOG, 62, 1⟩
abbrev MC_PPR_LOG_SUB : Fld := ⟨.MC_PPR_LOG, 36, 1⟩
abbrev MC_PPR_LOG_RANK : Fld := ⟨.MC_PPR_LOG, 32, 4⟩
abbrev MC_PPR_LOG_BG : Fld := ⟨.MC_PPR_LOG, 29, 3⟩
abbrev MC_PPR_LOG_BANK : Fld := ⟨.MC_PPR_LOG, 27, 2⟩
abbrev MC_PPR_LOG_ROW : Fld := ⟨.MC_PPR_LOG, 0, 18⟩
abbrev MC_REGION_CFG_VALID : Fld := ⟨.MC_REGION_CFG, 63, 1⟩
abbrev MC_REGION_CFG_WORLD_S : Fld := ⟨.MC_REGION_CFG, 62, 1⟩
abbrev MC_REGION_CFG_READ : Fld := ⟨.MC_REGION_CFG, 61, 1⟩
abbrev MC_REGION_CFG_WRITE : Fld := ⟨.MC_REGION_CFG, 60, 1⟩
abbrev MC_REGION_CFG_KENNEL : Fld := ⟨.MC_REGION_CFG, 56, 4⟩
abbrev MC_REGION_CFG_PENDING : Fld := ⟨.MC_REGION_CFG, 55, 1⟩
abbrev MC_REGION_CFG_BASE : Fld := ⟨.MC_REGION_CFG, 12, 40⟩
abbrev MC_REGION_LIMIT_LIMIT : Fld := ⟨.MC_REGION_LIMIT, 12, 40⟩
abbrev IOP_CFG_LINKS : Fld := ⟨.IOP_CFG, 16, 3⟩
abbrev IOP_CFG_MAX_GEN : Fld := ⟨.IOP_CFG, 8, 4⟩
abbrev IOP_CFG_BIFURC : Fld := ⟨.IOP_CFG, 4, 2⟩
abbrev IOP_CFG_ROLE : Fld := ⟨.IOP_CFG, 0, 2⟩
abbrev IOP_LINK_CTL_RETRAIN : Fld := ⟨.IOP_LINK_CTL, 63, 1⟩
abbrev IOP_LINK_CTL_DPC_RELEASE : Fld := ⟨.IOP_LINK_CTL, 62, 1⟩
abbrev IOP_LINK_CTL_PERST_REL : Fld := ⟨.IOP_LINK_CTL, 61, 1⟩
abbrev IOP_LINK_CTL_PWR_REQ : Fld := ⟨.IOP_LINK_CTL, 56, 1⟩
abbrev IOP_LINK_CTL_IDLE_L1 : Fld := ⟨.IOP_LINK_CTL, 32, 8⟩
abbrev IOP_LINK_CTL_CPL_TO : Fld := ⟨.IOP_LINK_CTL, 2, 2⟩
abbrev IOP_LINK_CTL_INTX_EN : Fld := ⟨.IOP_LINK_CTL, 1, 1⟩
abbrev IOP_LINK_CTL_P2P_EN : Fld := ⟨.IOP_LINK_CTL, 0, 1⟩
abbrev IOP_LINK_STATUS_BME_DROP : Fld := ⟨.IOP_LINK_STATUS, 48, 16⟩
abbrev IOP_LINK_STATUS_KENNEL : Fld := ⟨.IOP_LINK_STATUS, 36, 4⟩
abbrev IOP_LINK_STATUS_WORLD_S : Fld := ⟨.IOP_LINK_STATUS, 35, 1⟩
abbrev IOP_LINK_STATUS_INB_IDLE : Fld := ⟨.IOP_LINK_STATUS, 34, 1⟩
abbrev IOP_LINK_STATUS_OB_IDLE : Fld := ⟨.IOP_LINK_STATUS, 33, 1⟩
abbrev IOP_LINK_STATUS_BME : Fld := ⟨.IOP_LINK_STATUS, 32, 1⟩
abbrev IOP_LINK_STATUS_WIDTH : Fld := ⟨.IOP_LINK_STATUS, 8, 5⟩
abbrev IOP_LINK_STATUS_SPEED : Fld := ⟨.IOP_LINK_STATUS, 5, 3⟩
abbrev IOP_LINK_STATUS_CXL : Fld := ⟨.IOP_LINK_STATUS, 4, 1⟩
abbrev IOP_LINK_STATUS_STATE : Fld := ⟨.IOP_LINK_STATUS, 0, 4⟩
abbrev IOP_LINK_INTX_ERR : Fld := ⟨.IOP_LINK_INTX, 63, 1⟩
abbrev IOP_LINK_INTX_WIRES : Fld := ⟨.IOP_LINK_INTX, 48, 4⟩
abbrev IOP_LINK_INTX_SRC_D : Fld := ⟨.IOP_LINK_INTX, 36, 12⟩
abbrev IOP_LINK_INTX_SRC_C : Fld := ⟨.IOP_LINK_INTX, 24, 12⟩
abbrev IOP_LINK_INTX_SRC_B : Fld := ⟨.IOP_LINK_INTX, 12, 12⟩
abbrev IOP_LINK_INTX_SRC_A : Fld := ⟨.IOP_LINK_INTX, 0, 12⟩
abbrev IOP_LINK_ERR_VALID : Fld := ⟨.IOP_LINK_ERR, 63, 1⟩
abbrev IOP_LINK_ERR_OVERFLOW : Fld := ⟨.IOP_LINK_ERR, 62, 1⟩
abbrev IOP_LINK_ERR_UE : Fld := ⟨.IOP_LINK_ERR, 61, 1⟩
abbrev IOP_LINK_ERR_CAUSE : Fld := ⟨.IOP_LINK_ERR, 56, 5⟩
abbrev IOP_LINK_ERR_REQ_ID : Fld := ⟨.IOP_LINK_ERR, 40, 16⟩
abbrev IOP_LINK_ERR_COUNT : Fld := ⟨.IOP_LINK_ERR, 0, 16⟩
abbrev IOP_LINK_ERRADDR_ADDR : Fld := ⟨.IOP_LINK_ERRADDR, 2, 62⟩
abbrev IOP_LINK_ERRADDR_ADDR_VALID : Fld := ⟨.IOP_LINK_ERRADDR, 0, 1⟩
abbrev IOP_LINK_CXL_HDM_EN : Fld := ⟨.IOP_LINK_CXL, 63, 1⟩
abbrev IOP_LINK_CXL_SIZE_GIB : Fld := ⟨.IOP_LINK_CXL, 32, 12⟩
abbrev IOP_EP_CTL_OB_BASE : Fld := ⟨.IOP_EP_CTL, 44, 20⟩
abbrev IOP_EP_CTL_CMD_ERR : Fld := ⟨.IOP_EP_CTL, 1, 1⟩
abbrev IOP_EP_CTL_LINK_EN : Fld := ⟨.IOP_EP_CTL, 0, 1⟩
abbrev IOP_EP_ID_VENDOR : Fld := ⟨.IOP_EP_ID, 48, 16⟩
abbrev IOP_EP_ID_DEVICE : Fld := ⟨.IOP_EP_ID, 32, 16⟩
abbrev IOP_EP_ID_CLASS : Fld := ⟨.IOP_EP_ID, 8, 24⟩
abbrev IOP_EP_ID_REVISION : Fld := ⟨.IOP_EP_ID, 0, 8⟩
abbrev IOP_EP_BAR_ENABLE : Fld := ⟨.IOP_EP_BAR, 63, 1⟩
abbrev IOP_EP_BAR_IS64 : Fld := ⟨.IOP_EP_BAR, 62, 1⟩
abbrev IOP_EP_BAR_PREF : Fld := ⟨.IOP_EP_BAR, 61, 1⟩
abbrev IOP_EP_BAR_SIZE_LOG2 : Fld := ⟨.IOP_EP_BAR, 0, 6⟩
abbrev IOP_EP_STATUS_MSI_VECTORS : Fld := ⟨.IOP_EP_STATUS, 8, 6⟩
abbrev IOP_EP_STATUS_LINK_UP : Fld := ⟨.IOP_EP_STATUS, 4, 1⟩
abbrev IOP_EP_STATUS_MSI_EN : Fld := ⟨.IOP_EP_STATUS, 3, 1⟩
abbrev IOP_EP_STATUS_INTX_DIS : Fld := ⟨.IOP_EP_STATUS, 2, 1⟩
abbrev IOP_EP_STATUS_MEM_EN : Fld := ⟨.IOP_EP_STATUS, 1, 1⟩
abbrev IOP_EP_STATUS_BME : Fld := ⟨.IOP_EP_STATUS, 0, 1⟩
abbrev IOP_EP_INTX_SENT : Fld := ⟨.IOP_EP_INTX, 1, 1⟩
abbrev IOP_EP_INTX_ASSERT : Fld := ⟨.IOP_EP_INTX, 0, 1⟩
abbrev IOP_EP_MSI_PENDING : Fld := ⟨.IOP_EP_MSI, 32, 32⟩
abbrev IOP_EP_MSI_VECTOR : Fld := ⟨.IOP_EP_MSI, 0, 5⟩
abbrev IOP_EP_XCOMMIT_GO : Fld := ⟨.IOP_EP_XCOMMIT, 63, 1⟩
abbrev IOP_EP_XCOMMIT_OLD_BUSY : Fld := ⟨.IOP_EP_XCOMMIT, 62, 1⟩
abbrev IOP_EP_XCOMMIT_CMD_ERR : Fld := ⟨.IOP_EP_XCOMMIT, 61, 1⟩
abbrev IOP_EP_XCOMMIT_XLAT_ERR : Fld := ⟨.IOP_EP_XCOMMIT, 60, 1⟩
abbrev IOP_EP_XCOMMIT_MISS : Fld := ⟨.IOP_EP_XCOMMIT, 16, 16⟩
abbrev IOP_EP_XCOMMIT_INDEX : Fld := ⟨.IOP_EP_XCOMMIT, 0, 6⟩
abbrev IOP_EP_XLAT_ENABLE : Fld := ⟨.IOP_EP_XLAT, 63, 1⟩
abbrev IOP_EP_XLAT_TYPE : Fld := ⟨.IOP_EP_XLAT, 61, 2⟩
abbrev IOP_EP_XLAT_READ : Fld := ⟨.IOP_EP_XLAT, 60, 1⟩
abbrev IOP_EP_XLAT_WRITE : Fld := ⟨.IOP_EP_XLAT, 59, 1⟩
abbrev IOP_EP_XLAT_WORLD_S : Fld := ⟨.IOP_EP_XLAT, 58, 1⟩
abbrev IOP_EP_XLAT_KENNEL : Fld := ⟨.IOP_EP_XLAT, 54, 4⟩
abbrev IOP_EP_XLAT_BAR : Fld := ⟨.IOP_EP_XLAT, 51, 3⟩
abbrev IOP_EP_XLAT_SIZE_LOG2 : Fld := ⟨.IOP_EP_XLAT, 45, 6⟩
abbrev IOP_EP_XLAT_OFFSET : Fld := ⟨.IOP_EP_XLAT, 12, 26⟩
abbrev IOP_EP_XLAT_TGT_ADDR : Fld := ⟨.IOP_EP_XLAT_TGT, 12, 40⟩
abbrev IOP_EP_XSH_ENABLE : Fld := ⟨.IOP_EP_XSH, 63, 1⟩
abbrev IOP_EP_XSH_TYPE : Fld := ⟨.IOP_EP_XSH, 61, 2⟩
abbrev IOP_EP_XSH_READ : Fld := ⟨.IOP_EP_XSH, 60, 1⟩
abbrev IOP_EP_XSH_WRITE : Fld := ⟨.IOP_EP_XSH, 59, 1⟩
abbrev IOP_EP_XSH_WORLD_S : Fld := ⟨.IOP_EP_XSH, 58, 1⟩
abbrev IOP_EP_XSH_KENNEL : Fld := ⟨.IOP_EP_XSH, 54, 4⟩
abbrev IOP_EP_XSH_BAR : Fld := ⟨.IOP_EP_XSH, 51, 3⟩
abbrev IOP_EP_XSH_SIZE_LOG2 : Fld := ⟨.IOP_EP_XSH, 45, 6⟩
abbrev IOP_EP_XSH_OFFSET : Fld := ⟨.IOP_EP_XSH, 12, 26⟩
abbrev IOP_EP_XSH_TGT_ADDR : Fld := ⟨.IOP_EP_XSH_TGT, 12, 40⟩
abbrev BRC_STATUS_REPLAYS : Fld := ⟨.BRC_STATUS, 32, 32⟩
abbrev BRC_STATUS_PEER_LINK : Fld := ⟨.BRC_STATUS, 16, 8⟩
abbrev BRC_STATUS_IN_MAP : Fld := ⟨.BRC_STATUS, 7, 1⟩
abbrev BRC_STATUS_STATE : Fld := ⟨.BRC_STATUS, 0, 3⟩
abbrev BRC_CTL_CLR_REPLAYS : Fld := ⟨.BRC_CTL, 1, 1⟩
abbrev RTV_ENG_STATUS_CHANNEL : Fld := ⟨.RTV_ENG_STATUS, 48, 16⟩
abbrev RTV_ENG_STATUS_TAKEN : Fld := ⟨.RTV_ENG_STATUS, 32, 16⟩
abbrev RTV_ENG_STATUS_STATE : Fld := ⟨.RTV_ENG_STATUS, 0, 4⟩
abbrev RTV_ENG_CTL_CMD_ERR : Fld := ⟨.RTV_ENG_CTL, 2, 1⟩
abbrev RTV_ENG_CTL_RESET : Fld := ⟨.RTV_ENG_CTL, 1, 1⟩
abbrev RTV_ENG_CTL_PWR_REQ : Fld := ⟨.RTV_ENG_CTL, 0, 1⟩
abbrev RTV_CH_BIND_VALID : Fld := ⟨.RTV_CH_BIND, 63, 1⟩
abbrev RTV_CH_BIND_WORLD_S : Fld := ⟨.RTV_CH_BIND, 62, 1⟩
abbrev RTV_CH_BIND_CMD_ERR : Fld := ⟨.RTV_CH_BIND, 61, 1⟩
abbrev RTV_CH_BIND_HELD : Fld := ⟨.RTV_CH_BIND, 60, 1⟩
abbrev RTV_CH_BIND_KENNEL : Fld := ⟨.RTV_CH_BIND, 56, 4⟩
abbrev RTV_CH_RING_BASE : Fld := ⟨.RTV_CH_RING, 6, 46⟩
abbrev RTV_CH_RING_SIZE_LOG2 : Fld := ⟨.RTV_CH_RING, 0, 4⟩
abbrev RTV_CH_TAIL_TAIL : Fld := ⟨.RTV_CH_TAIL, 0, 16⟩
abbrev RTV_CH_HEAD_HEAD : Fld := ⟨.RTV_CH_HEAD, 0, 16⟩
abbrev RTV_CH_CTL_ENABLE : Fld := ⟨.RTV_CH_CTL, 63, 1⟩
abbrev RTV_CH_CTL_ABORT : Fld := ⟨.RTV_CH_CTL, 62, 1⟩
abbrev RTV_CH_CTL_CMD_ERR : Fld := ⟨.RTV_CH_CTL, 61, 1⟩
abbrev RTV_CH_CTL_GRAINS : Fld := ⟨.RTV_CH_CTL, 32, 24⟩
abbrev RTV_CH_CTL_IRQ_ID : Fld := ⟨.RTV_CH_CTL, 0, 12⟩
abbrev RTV_CH_STATUS_RETRIES : Fld := ⟨.RTV_CH_STATUS, 48, 16⟩
abbrev RTV_CH_STATUS_CREDIT : Fld := ⟨.RTV_CH_STATUS, 24, 24⟩
abbrev RTV_CH_STATUS_DESC_READ_ERR : Fld := ⟨.RTV_CH_STATUS, 11, 1⟩
abbrev RTV_CH_STATUS_TAIL_ERR : Fld := ⟨.RTV_CH_STATUS, 10, 1⟩
abbrev RTV_CH_STATUS_RECORD_ERR : Fld := ⟨.RTV_CH_STATUS, 9, 1⟩
abbrev RTV_CH_STATUS_ABORT_NOOP : Fld := ⟨.RTV_CH_STATUS, 8, 1⟩
abbrev RTV_CH_STATUS_STATE : Fld := ⟨.RTV_CH_STATUS, 0, 4⟩
abbrev RTV_CH_PROGRESS_CHECKPOINT : Fld := ⟨.RTV_CH_PROGRESS, 0, 41⟩
abbrev DRM_MB_DOORBELL_RING : Fld := ⟨.DRM_MB_DOORBELL, 63, 1⟩
abbrev DRM_MB_DOORBELL_ACK : Fld := ⟨.DRM_MB_DOORBELL, 32, 16⟩
abbrev DRM_MB_DOORBELL_SEQ : Fld := ⟨.DRM_MB_DOORBELL, 0, 16⟩
abbrev DRM_MB_STATUS_RESULT : Fld := ⟨.DRM_MB_STATUS, 48, 8⟩
abbrev DRM_MB_STATUS_RSP_LEN : Fld := ⟨.DRM_MB_STATUS, 32, 9⟩
abbrev DRM_MB_STATUS_DONE_SEQ : Fld := ⟨.DRM_MB_STATUS, 0, 16⟩
abbrev DRM_MB_NOTICE_ARG : Fld := ⟨.DRM_MB_NOTICE, 32, 32⟩
abbrev DRM_MB_NOTICE_CODE : Fld := ⟨.DRM_MB_NOTICE, 16, 16⟩
abbrev DRM_MB_NOTICE_NSEQ : Fld := ⟨.DRM_MB_NOTICE, 0, 16⟩
abbrev DRM_MB_REQ_DATA : Fld := ⟨.DRM_MB_REQ, 0, 64⟩
abbrev DRM_MB_RSP_DATA : Fld := ⟨.DRM_MB_RSP, 0, 64⟩
abbrev DRM_MB_PENDING_PAGES : Fld := ⟨.DRM_MB_PENDING, 0, 32⟩
abbrev DRM_CORE_CTL_STATE : Fld := ⟨.DRM_CORE_CTL, 2, 2⟩
abbrev DRM_CORE_CTL_RUN : Fld := ⟨.DRM_CORE_CTL, 0, 1⟩
abbrev DRM_TIME_TIME : Fld := ⟨.DRM_TIME, 0, 64⟩
abbrev DRM_TIMECMP_CMP : Fld := ⟨.DRM_TIMECMP, 0, 64⟩
abbrev DRM_MSIP_MSIP : Fld := ⟨.DRM_MSIP, 0, 1⟩
abbrev DRM_TETHER_ERR_VALID : Fld := ⟨.DRM_TETHER_ERR, 63, 1⟩
abbrev DRM_TETHER_ERR_STATUS : Fld := ⟨.DRM_TETHER_ERR, 61, 2⟩
abbrev DRM_TETHER_ERR_WRITE : Fld := ⟨.DRM_TETHER_ERR, 60, 1⟩
abbrev DRM_TETHER_ERR_OFFSET : Fld := ⟨.DRM_TETHER_ERR, 0, 27⟩
abbrev DRM_FLASH_CFG_FB_INV : Fld := ⟨.DRM_FLASH_CFG, 63, 1⟩
abbrev DRM_FLASH_CFG_READ_OP : Fld := ⟨.DRM_FLASH_CFG, 40, 8⟩
abbrev DRM_FLASH_CFG_DUMMY : Fld := ⟨.DRM_FLASH_CFG, 32, 5⟩
abbrev DRM_FLASH_CFG_MODE : Fld := ⟨.DRM_FLASH_CFG, 24, 2⟩
abbrev DRM_FLASH_CFG_CLK_DIV : Fld := ⟨.DRM_FLASH_CFG, 0, 8⟩
abbrev DRM_FLASH_CMD_GO : Fld := ⟨.DRM_FLASH_CMD, 63, 1⟩
abbrev DRM_FLASH_CMD_WAIT : Fld := ⟨.DRM_FLASH_CMD, 62, 1⟩
abbrev DRM_FLASH_CMD_WRITE : Fld := ⟨.DRM_FLASH_CMD, 61, 1⟩
abbrev DRM_FLASH_CMD_ERR : Fld := ⟨.DRM_FLASH_CMD, 60, 1⟩
abbrev DRM_FLASH_CMD_OPCODE : Fld := ⟨.DRM_FLASH_CMD, 48, 8⟩
abbrev DRM_FLASH_CMD_ABYTES : Fld := ⟨.DRM_FLASH_CMD, 46, 2⟩
abbrev DRM_FLASH_CMD_LEN : Fld := ⟨.DRM_FLASH_CMD, 32, 9⟩
abbrev DRM_FLASH_CMD_ADDR : Fld := ⟨.DRM_FLASH_CMD, 0, 28⟩
abbrev DRM_FLASH_DATA_DATA : Fld := ⟨.DRM_FLASH_DATA, 0, 64⟩
abbrev DRM_SRAM_ERR_VALID : Fld := ⟨.DRM_SRAM_ERR, 63, 1⟩
abbrev DRM_SRAM_ERR_OVERFLOW : Fld := ⟨.DRM_SRAM_ERR, 62, 1⟩
abbrev DRM_SRAM_ERR_UE : Fld := ⟨.DRM_SRAM_ERR, 61, 1⟩
abbrev DRM_SRAM_ERR_WORD : Fld := ⟨.DRM_SRAM_ERR, 16, 16⟩
abbrev DRM_SRAM_ERR_CE_COUNT : Fld := ⟨.DRM_SRAM_ERR, 0, 16⟩
abbrev DRM_SB_CTL_RSP_GO : Fld := ⟨.DRM_SB_CTL, 63, 1⟩
abbrev DRM_SB_CTL_RSP_LEN : Fld := ⟨.DRM_SB_CTL, 48, 9⟩
abbrev DRM_SB_CTL_REQ_LEN : Fld := ⟨.DRM_SB_CTL, 32, 9⟩
abbrev DRM_SB_CTL_REJECT_CODE : Fld := ⟨.DRM_SB_CTL, 24, 3⟩
abbrev DRM_SB_CTL_STATE : Fld := ⟨.DRM_SB_CTL, 16, 4⟩
abbrev DRM_SB_CTL_MODE : Fld := ⟨.DRM_SB_CTL, 8, 1⟩
abbrev DRM_SB_CTL_CORE : Fld := ⟨.DRM_SB_CTL, 4, 2⟩
abbrev DRM_SB_CTL_READY : Fld := ⟨.DRM_SB_CTL, 0, 1⟩
abbrev DRM_SB_REQ_DATA : Fld := ⟨.DRM_SB_REQ, 0, 64⟩
abbrev DRM_SB_RSP_DATA : Fld := ⟨.DRM_SB_RSP, 0, 64⟩
abbrev tlctl_SUM_LOCK : Fld := ⟨.tlctl, 55, 1⟩
abbrev tlctl_SVADU : Fld := ⟨.tlctl, 54, 1⟩
abbrev tlctl_ZTSO : Fld := ⟨.tlctl, 53, 1⟩
abbrev tlctl_SPAN_LOCKED : Fld := ⟨.tlctl, 52, 1⟩
abbrev tlctl_KENNEL : Fld := ⟨.tlctl, 48, 4⟩
abbrev tlctl_CTX_TAG : Fld := ⟨.tlctl, 40, 8⟩
abbrev tlctl_LOCK_M : Fld := ⟨.tlctl, 16, 16⟩
abbrev tlctl_MISALIGN_TRAP : Fld := ⟨.tlctl, 2, 1⟩
abbrev tlctl_TLBLOCK_S : Fld := ⟨.tlctl, 1, 1⟩
abbrev tlctl_WFS_LOW : Fld := ⟨.tlctl, 0, 1⟩
abbrev tlpred_IND_OFF : Fld := ⟨.tlpred, 3, 1⟩
abbrev tlpred_FLUSH : Fld := ⟨.tlpred, 2, 1⟩
abbrev tlpred_FLUSH_ASID : Fld := ⟨.tlpred, 1, 1⟩
abbrev tlpred_FLUSH_PRIV : Fld := ⟨.tlpred, 0, 1⟩
abbrev tlworld_HPM_S : Fld := ⟨.tlworld, 6, 1⟩
abbrev tlworld_NOSEC : Fld := ⟨.tlworld, 5, 1⟩
abbrev tlworld_SCRUB : Fld := ⟨.tlworld, 4, 1⟩
abbrev tlworld_PATH : Fld := ⟨.tlworld, 3, 1⟩
abbrev tlworld_RWORLD : Fld := ⟨.tlworld, 2, 1⟩
abbrev tlworld_PWORLD : Fld := ⟨.tlworld, 1, 1⟩
abbrev tlworld_WORLD : Fld := ⟨.tlworld, 0, 1⟩
abbrev tlwvec_BASE : Fld := ⟨.tlwvec, 2, 62⟩
abbrev tlpf_HINTS : Fld := ⟨.tlpf, 8, 1⟩
abbrev tlpf_CONFIRM : Fld := ⟨.tlpf, 4, 4⟩
abbrev tlpf_DEGREE : Fld := ⟨.tlpf, 1, 3⟩
abbrev tlpf_EN : Fld := ⟨.tlpf, 0, 1⟩
abbrev tllock_UNLOCK_ALL : Fld := ⟨.tllock, 63, 1⟩
abbrev tllock_M_RESERVED : Fld := ⟨.tllock, 32, 16⟩
abbrev tllock_FETCH : Fld := ⟨.tllock, 16, 16⟩
abbrev tllock_LOCKED : Fld := ⟨.tllock, 0, 16⟩
abbrev tlspan_IN_WINDOW : Fld := ⟨.tlspan, 63, 1⟩
abbrev tlspan_LOCKED : Fld := ⟨.tlspan, 62, 1⟩
abbrev tlspan_K : Fld := ⟨.tlspan, 59, 3⟩
abbrev tlspan_SPAN : Fld := ⟨.tlspan, 0, 48⟩
abbrev tlwin_IN_WINDOW : Fld := ⟨.tlwin, 63, 1⟩
abbrev tlwin_WINDOW : Fld := ⟨.tlwin, 48, 7⟩
abbrev tlwin_SPAN_LEN : Fld := ⟨.tlwin, 24, 18⟩
abbrev tlwin_PHASE : Fld := ⟨.tlwin, 0, 18⟩
abbrev dmctl_BTB_FLUSH : Fld := ⟨.dmctl, 7, 1⟩
abbrev dmctl_PF_EN : Fld := ⟨.dmctl, 3, 1⟩
abbrev dmctl_BTB_EN : Fld := ⟨.dmctl, 2, 1⟩
abbrev dmctl_WORLD : Fld := ⟨.dmctl, 0, 1⟩
abbrev dmlock_LOCK : Fld := ⟨.dmlock, 63, 1⟩
abbrev dmlock_UNLOCK : Fld := ⟨.dmlock, 62, 1⟩
abbrev dmlock_LOCKED : Fld := ⟨.dmlock, 40, 8⟩
abbrev dmlock_RESULT : Fld := ⟨.dmlock, 32, 4⟩
abbrev dmlock_FAULT_CAUSE : Fld := ⟨.dmlock, 16, 16⟩
abbrev dmlock_KIND : Fld := ⟨.dmlock, 4, 2⟩
abbrev dmlock_SLOT : Fld := ⟨.dmlock, 0, 3⟩
abbrev dmlkva_VA : Fld := ⟨.dmlkva, 0, 64⟩
end F

end Sys2Proof.Machine
end

