-- ==== Sys2Proof/Machine/State.lean ====
section
/-!
DEFINITION. The machine's state: the queue of waiting commands, memory, and everything else the spec gives the part, as plain
data; the reasons a step can stop; and the state right after reset.
-/
namespace Sys2Proof.Machine

/-- The answer a register access got (R11, R24, R29, R37). -/
inductive Resp where
  /-- no access has answered yet -/
  | none
  /-- a read's data, or an accepted write (data 0) -/
  | done (data : Word)
  /-- a hart's access was refused: load access fault, or store/AMO access fault when `store` -/
  | accessFault (store : Bool)
  /-- an error status (Tether) or an error completion (any other mesh requester) -/
  | error
  /-- the timeout status of a station whose chain has failed (R24) -/
  | timeout
  /-- the access waits: its chain has failed and its 2 µs have not passed (R24), or it waits for the register's unit -/
  | waiting
  deriving DecidableEq, Repr

/-- A write of memory that a command makes; `Mem.apply` carries it out. -/
inductive MemOp where
  /-- one byte of physical memory -/
  | byte (addr : Nat) (b : Byte)
  /-- the poison mark of a 64-byte line of physical memory -/
  | poison (line : Nat) (on : Bool)
  /-- one byte of the Derrum SRAM, by its offset (R502) -/
  | sram (off : Nat) (b : Byte)
  /-- a cold reset: the contents of DRAM are lost and the Derrum SRAM is zeroed (R576) -/
  | lose
  deriving DecidableEq, Repr

/-- Memory: what DRAM and CXL memory hold by physical address (R36), the lines held as poison, and the Derrum SRAM by offset
(R502). Each list is sorted by address without repeats; a byte that is not listed reads 0x00 (log 3), a line that is not
listed is not poisoned. -/
structure Mem where
  dram : List Host.Cell
  poison : List Nat
  sram : List Host.Cell
  deriving DecidableEq, Repr

/-- A Tether access under way to a station whose chain has failed (R24), with the virtual address of the service core's access that made
it. -/
structure TetherWait where
  core : Nat
  offset : Nat
  write : Bool
  va : Option Word
  deriving DecidableEq, Repr

/-- The control stations' own state (ch. 1): the registers written by the Tether and by the mesh since the last tick with
the last mesh write's kennel and world (R32, R33), the stations whose chain has failed (R24), and the accesses that wait
for their timeout. -/
structure Stations where
  tetherMark : List RK
  meshMark : List (RK × Nat × Bool)
  chainFailed : List Nat
  waits : List TetherWait
  deriving DecidableEq, Repr

/-- One entry of the ring map (R90): delays in 10 ps units. -/
structure Hop where
  cable : Nat
  rxIn : Nat
  txOut : Nat
  bypass : Nat
  deriving DecidableEq, Repr

/-- What the node last put on its transmit pair (R56). -/
inductive RingItem where
  /-- idles only -/
  | idle
  /-- a tick marker and the TIME frame after it (R57) -/
  | time (f : TimeFrame)
  | sched (f : SchedFrame)
  deriving DecidableEq, Repr

/-- The SPN block and the Leash port behind their registers (ch. 2). Times inside a span are in units of 1/625 of a timebase
count (1.25 ps), so that a count is 625 units and 10 ps is 8 units. -/
structure SpanSt where
  /-- rack time in counts (R41) -/
  rackTime : Nat
  /-- counts of the timebase since reset: the time CSR's base (R113) -/
  now : Nat
  /-- K and WINDOW in force for the current span (R43) -/
  k : Nat
  window : Nat
  /-- the next tick set by a TIME frame: its offset from the current tick in units, and the rack time to adopt (R66) -/
  adjust : Option (Nat × Nat)
  /-- rack time to load at the next tick (R73, SPN_TIME_LOAD) -/
  load : Option Nat
  /-- the receive pair has symbol lock -/
  symbolLock : Bool
  /-- the level LEASH_HOLD takes at the next tick, when it changes then (R65, R67) -/
  holdNext : Option Bool
  /-- FWD remeasured and waiting for the next tick (R64) -/
  fwdNext : Option Nat
  /-- FWD in use (R64) -/
  fwdUsed : Nat
  /-- the RACKTIME of the valid TIME frame before, while in ACQUIRE (R65) -/
  lastRack : Option Nat
  /-- ticks passed in RIDE (R65) -/
  rideSpans : Nat
  /-- 8 ms since the last discipline have not passed (R65) -/
  inHoldover : Bool
  /-- SCHED frames that wait for their TARGET, oldest first (R72) -/
  waiting : List SchedFrame
  /-- EVENT entries whose target tick has passed, oldest first (R73) -/
  events : List SchedFrame
  /-- the ring map of the image (R90) -/
  ringMap : List Hop
  /-- what the port last sent -/
  tx : RingItem
  /-- SPN_OVERRUN.COUNT has already counted this span (R46) -/
  overrunSeen : Bool
  deriving DecidableEq, Repr

/-- A KENNEL record (R81). -/
structure KennelRec where
  enabled : Bool
  spanLocked : Bool
  ztso : Bool
  svadu : Bool
  sumLock : Bool
  lend : Bool
  hashMode : Nat
  iset : Nat
  sentinel : Nat
  latTol : Nat
  sliceMask : Nat
  deriving DecidableEq, Repr

/-- A TILE record (R82); kennel 0xFF is none. -/
structure TileRec where
  kennel : Nat
  coreEn : Nat
  svc : Bool
  deriving DecidableEq, Repr

/-- An INTERLEAVE record (R83). -/
structure IlvRec where
  id : Nat
  mirrored : Bool
  ways : Nat
  granule : Nat
  mask : Nat
  base : Nat
  size : Nat
  chOffset : Nat
  deriving DecidableEq, Repr

/-- A CHANNEL record (R84). -/
structure ChanRec where
  mode : Nat
  dpc : Nat
  rate : Nat
  wqHi : Nat
  wqLo : Nat
  ageCap : Nat
  patrolH : Nat
  deriving DecidableEq, Repr

/-- A ROUTE record (R85). -/
structure RouteRec where
  src : Nat
  dst : Nat
  yx : Bool
  nets : Nat
  deriving DecidableEq, Repr

/-- A QOS record (R86). -/
structure QosRec where
  mem : Nat
  inj : Nat
  quota : Nat
  deriving DecidableEq, Repr

/-- A PORT record (R87). -/
structure PortRec where
  role : Nat
  bifurc : Nat
  maxGen : Nat
  kennels : List Nat
  world : Nat
  deriving DecidableEq, Repr

/-- A BRACE record (R88). -/
structure BraceRec where
  mode : Nat
  peer : Nat
  deriving DecidableEq, Repr

/-- An IRQDOM record (R89). -/
structure IrqRec where
  guestCtx : Nat
  sources : Nat
  selfReset : Bool
  deriving DecidableEq, Repr

/-- A POWER record (R92). -/
structure PowerRec where
  tdp : Nat
  throttle : Nat
  fmax : Nat
  imax : Nat
  deriving DecidableEq, Repr

/-- A REGION record (R94) for one channel's register. -/
structure RegionRec where
  ch : Nat
  index : Nat
  kennel : Nat
  flags : Nat
  base : Nat
  limit : Nat
  deriving DecidableEq, Repr

/-- A PAGEOWN record (R94): owner 0xFF is the platform; worlds bit 0 N, bit 1 S. -/
structure PageRec where
  page : Nat
  owner : Nat
  worlds : Nat
  deriving DecidableEq, Repr

/-- A page grant of the OWNTAB section (R93). -/
structure Grant where
  base : Nat
  pages : Nat
  owner : Nat
  deriving DecidableEq, Repr

/-- The records of an image: of the configuration in force, or of an image that is verified or staged. A full image's lists
are indexed by kennel, tile, channel, port, link or domain; a reflow image's carry their key. -/
structure Conf where
  kennels : List (Nat × KennelRec)
  tiles : List (Nat × TileRec)
  ilv : List IlvRec
  chans : List (Nat × ChanRec)
  routes : List RouteRec
  qos : List (Nat × QosRec)
  ports : List (Nat × PortRec)
  brace : List (Nat × BraceRec)
  irq : List (Nat × IrqRec)
  /-- K, WINDOW, POSITION, RING_NODES when there is a SPAN section -/
  span : Option (Nat × Nat × Nat × Nat)
  ring : List Hop
  reaction : List (Nat × Nat)
  power : Option PowerRec
  tableBase : Nat
  dumpBase : Nat
  grants : List Grant
  regions : List RegionRec
  pages : List PageRec
  deriving DecidableEq, Repr

/-- The outcome of VERIFY's checks (R96): the parsed records, or the code, section and record of the first failed check. -/
inductive Verdict where
  | pass (c : Conf)
  | fail (code sect recd : Nat)
  deriving DecidableEq, Repr

/-- An image the ZNX block holds: its bytes, its records and its digest. -/
structure Held where
  bytes : List Byte
  conf : Conf
  digest : Nat
  deriving DecidableEq, Repr

/-- The ZNX block behind its registers (ch. 3). -/
structure ZnxSt where
  /-- the copy VERIFY made, where it started in the SRAM, and the length ZNX_SRC named (R74) -/
  copy : List Byte
  copyAt : Nat
  len : Nat
  /-- the operation in progress while BUSY: 0x10 VERIFY, 0x11 APPLY, 0x12 SEAL, 0 none -/
  op : Nat
  /-- the verified image not yet applied, and the staged reflow image (R76) -/
  full : Option Held
  staged : Option Held
  /-- stations that hold shadow values and have not yet acknowledged; the concerned stations; those that voted ready (R103) -/
  concerned : List Nat
  ready : List Nat
  /-- the reflow's commit window is open: held kennel resets, bindings, releases and starts wait (R104) -/
  commitWindow : Bool
  /-- the configuration before the last commit, while its commit window is open or its sweep runs, and the sets each slice has
  swept (R106) -/
  sweepOld : Option Conf
  sweepSets : Nat
  /-- the tick count of the sweep's last step -/
  sweepTick : Nat
  /-- SHA-384 of each fused key (R95) -/
  keyHash : List Nat
  deriving DecidableEq, Repr

/-- A fault event: the source number of R518 and the sub-unit that raised it (core of a tile or link of a port, R524). -/
structure Event where
  src : Nat
  sub : Nat
  deriving DecidableEq, Repr

/-- The fault collector behind its registers (ch. 15). -/
structure FcrSt where
  /-- detected, not yet arrived at the collector (R523), oldest first -/
  events : List Event
  /-- sticky bit set and reaction not yet taken (R527), with the owner at arrival (R524) -/
  reactions : List (Event × Nat)
  /-- the heel notice has been sent on the active Brace links (R542) -/
  noticeSent : Bool
  /-- the collector's array that failed in the injected walk, when one waits -/
  injected : Option Nat
  deriving DecidableEq, Repr

/-- A location in a channel's DRAM (R336). -/
structure DramLoc where
  sub : Nat
  rank : Nat
  bg : Nat
  bank : Nat
  row : Nat
  deriving DecidableEq, Repr

/-- A read a home agent sent to a channel (FWD): the line, its channel address, the slice, and its counted age in DRAM clocks
(R342). -/
structure MRead where
  line : Nat
  ca : Nat
  slice : Nat
  age : Nat
  deriving DecidableEq, Repr

/-- An answer of a controller on its way to the home agent: the line's data, its poison mark, an error completion, and whether
a DDR channel was read. -/
structure MDone where
  line : Nat
  slice : Nat
  data : BitVec 512
  poison : Bool
  err : Bool
  ddr : Bool
  deriving DecidableEq, Repr

/-- A write a home agent sent to a channel (MWR) that the controller has not accepted yet. -/
structure MWr where
  line : Nat
  slice : Nat
  data : BitVec 512
  poison : Bool
  deriving DecidableEq, Repr

/-- The periodic retraining steps (R351). -/
inductive RtKind where
  | oscStart | oscRead | zqStart | zqLatch | center
  deriving DecidableEq, Repr

/-- A retraining step that is due: since which tick, and whether it belongs to a requested pass (R353). -/
structure RtDue where
  kind : RtKind
  rank : Nat
  since : Nat
  pass : Bool
  deriving DecidableEq, Repr

/-- A post-package repair in progress (R363): the row, soft or hard, and whether a device reported no spare row. -/
structure Repair where
  loc : DramLoc
  hard : Bool
  noSpare : Bool
  deriving DecidableEq, Repr

/-- A change of a channel that waits for the next tick. -/
inductive ChanPend where
  | none
  /-- EVACUATE accepted (R368) -/
  | evacuate
  /-- the resilver's copy has ended (R369) -/
  | resilvered
  deriving DecidableEq, Repr

/-- A bank's open row (R339): its location, the DRAM clocks since its last command, and its consecutive column commands while a
request for another row waited. -/
structure OpenRow where
  loc : DramLoc
  quiet : Nat
  run : Nat
  deriving DecidableEq, Repr

/-- One memory controller behind its registers (ch. 9). -/
structure Chan where
  /-- reads sent by home agents and not yet in the read queue; the read queue; answers on their way; oldest first -/
  fwd : List MRead
  readQ : List MRead
  done : List MDone
  /-- writes sent and not yet accepted; the write queue (line and slice), oldest first (R338) -/
  mwr : List MWr
  writeQ : List (Nat × Nat)
  /-- reads whose column command has been issued; a write batch is in progress (R341); open rows (R339); the rotating pointer of
  each subchannel (R340) -/
  issued : List MRead
  batch : Bool
  rowsOpen : List OpenRow
  ptrs : List Nat
  /-- the rewrite queue: lines, and whether as poison (R358) -/
  rewriteQ : List (Nat × Bool)
  /-- DEBT of each rank-pair, by DIMM slot (R344); all-bank refreshes added for the next span; the next same-bank refresh's bank -/
  debts : List Nat
  extra : Nat
  sbBank : Nat
  /-- all-bank refreshes of this span that remain for the instants of R51 -/
  remain : Nat
  /-- the window's time used so far in ns, and the order number of its last step (R343) -/
  used : Nat
  stage : Nat
  /-- the doubled rate from the next tick; consecutive polls in the normal range (R346) -/
  dblNext : Bool
  normPolls : Nat
  due : List RtDue
  /-- scrub allowance, in units of 1 / (PATROL_H × 3,600 × 1,280,000,000) line (R360) -/
  allowance : Nat
  /-- corrected-error counts by subchannel, rank and device (R357); marks in force; errors by row (R361) -/
  devCnt : Bank (Nat × Nat × Nat) Nat
  marks : List Nat
  rows : List (DramLoc × Nat)
  repair : Option Repair
  /-- a candidate row that waits for AUTO (R361) -/
  autoNext : Option DramLoc
  pend : ChanPend
  /-- the tick count at which the waiting change began -/
  since : Nat
  /-- EVACUATED by the pair state (R370, R371) -/
  evac : Bool
  /-- the channel was in service at the last warm reset, its DRAM in self-refresh (R350) -/
  held : Bool
  /-- MC_WQ_WM in force (R374): AGE_CAP, HI, LO -/
  wm : Nat × Nat × Nat
  deriving DecidableEq, Repr

/-- A place that may hold a line (R297): a core, a Retriever engine, or the other socket as a whole. -/
inductive Holder where
  | core (h : Nat)
  | engine (e : Nat)
  | remote
  deriving DecidableEq, Repr

/-- Who sends a request to a home agent (R299). -/
inductive Source where
  | core (h : Nat)
  | engine (e : Nat)
  | derrum (d : Nat)
  | port (p : Nat) (link : Nat)
  /-- the other socket's Brace agent, on behalf of a hart or of a device -/
  | peer (device : Bool)
  deriving DecidableEq, Repr

/-- The requests of R299. -/
inductive ReqKind where
  | rdShared | rdOwn | upgrade | ownZero | rdSpec | bind | pfRd | pfWr | offer | cleanDrop
  | cmoClean | cmoFlush | cmoInval | cmoCheck | ncRd | ncWr | ncAmo | ncLr | ncSc | devRd | devWr
  deriving DecidableEq, Repr

/-- A request on its way to a home agent or in its table: kind, line, requester, the kennel and world it carries (R21), the
chunk of the requested address, write data with its byte mask, the dirty and poison marks of an offer, the token of a BIND and
whether that response was UNSAFE, and an AMO's operation and width. -/
structure Req where
  kind : ReqKind
  line : Nat
  who : Source
  kennel : Nat
  secure : Bool
  first : Nat := 0
  data : BitVec 512 := 0
  mask : BitVec 64 := 0
  dirty : Bool := false
  poison : Bool := false
  tok : Token := ⟨0, 0, 0⟩
  noBind : Bool := false
  amo : AmoOp := .swap
  dword : Bool := false
  deriving DecidableEq, Repr

/-- The snoops of R301. -/
inductive Snoop where
  | share | inv | peek | clean
  deriving DecidableEq, Repr

/-- The snoop answers of R301 and R304. -/
inductive Answer where
  | data (d : BitVec 512)
  | clean
  | none
  | poison
  | offered
  deriving DecidableEq, Repr

/-- What a fill is for: a demand read, an ownership request, a speculative read, a BIND_DATA answer, a prefetch, a
non-allocating access. -/
inductive FillKind where
  | shared | own | spec | bindData | pf | nc
  deriving DecidableEq, Repr

/-- A fill on its way to a core: data, poison, the owner tag of R243, the state granted (0 none, 1 S, 2 E, 3 M), the token and
UNSAFE mark of a speculative response, the critical chunk and the chunks delivered so far (R251), an error completion, and the
result of an NC_AMO or NC_SC. -/
structure Fill where
  h : Nat
  line : Nat
  kind : FillKind
  data : BitVec 512
  poison : Bool
  owner : Nat
  grant : Nat
  tok : Token
  noBind : Bool
  first : Nat
  got : Nat
  err : Bool
  result : Nat
  deriving DecidableEq, Repr

/-- A message under way. -/
inductive Msg where
  | req (n : Nat) (r : Req)
  | retry (n : Nat) (r : Req)
  | retryDest (n : Nat) (r : Req)
  | holdNotice (n : Nat) (stop : Nat)
  | snoop (n : Nat) (k : Snoop) (line : Nat) (dst : Holder)
  | ack (n : Nat) (line : Nat) (src : Holder) (a : Answer)
  | fill (f : Fill)
  /-- BIND_OK on its way to a hart -/
  | bindOk (h : Nat) (line : Nat)
  /-- ownership granted without data, with the owner tag; `zero` for OWN_ZERO -/
  | grant (h : Nat) (line : Nat) (tag : Nat) (zero : Bool)
  /-- an access of a hart, service core or engine to a port's window or to configuration space: the kennel and world it carries, its
  address, bytes and data -/
  | io (who : Source) (kennel : Nat) (secure : Bool) (write : Bool) (pa : Nat) (n : Nat) (data : Nat) (poison : Bool)
  /-- a chunk of grains for a stop and kennel, granted after a number of ticks -/
  | chunk (stop : Nat) (kennel : Nat) (grains : Nat) (tick : Nat)
  /-- a completion for a device, Derrum or the peer: line, data, poison, error -/
  | reply (dst : Source) (line : Nat) (data : BitVec 512) (poison : Bool) (err : Bool)
  deriving DecidableEq, Repr

/-- An LLC sector (R242): its way in its set, sector number, allocating kennel, the V, D and P bits of its four sub-blocks, and data. -/
structure Sector where
  way : Nat
  q : Nat
  kennel : Nat
  v : Nat
  d : Nat
  p : Nat
  data : List (BitVec 512)
  deriving DecidableEq, Repr

/-- A snoop-filter entry (R298): STATE 1 EX, 2 SH, 3 EXR. -/
structure SfEnt where
  line : Nat
  kennel : Nat
  proxy : Bool
  st : Nat
  owner : Nat
  tiles : BitVec 64
  engines : BitVec 8
  remote : Bool
  deriving DecidableEq, Repr

/-- The states of a transaction-table entry that last beyond a command (R308). -/
inductive TxnSt where
  | waitLine | snoop | memory | writing
  deriving DecidableEq, Repr

/-- The pools of the transaction table (R306). -/
inductive Pool where
  | general | write | remote | internal
  deriving DecidableEq, Repr

/-- A transaction-table entry: the request, its state and pool, the snoops still unanswered, what holders answered, the holder
whose offer it waits for, and the owner byte that admitted it. -/
structure Txn where
  req : Req
  st : TxnSt
  pool : Pool
  waits : List Holder
  got : Option (BitVec 512 × Bool)
  offerOf : Option Nat
  byte : Nat
  /-- the state found at CHECK was EX of another holder -/
  wasEx : Bool
  deriving DecidableEq, Repr

/-- An owner-table cache entry: the line of the table and its 64 bytes (R387). -/
structure OcEnt where
  line : Nat
  data : BitVec 512
  deriving DecidableEq, Repr

/-- One LLC slice and its home agent behind their registers (ch. 7, 8). -/
structure Slice where
  /-- the sectors, most recently used first -/
  sectors : List Sector
  /-- the snoop filter, most recently used first -/
  sf : List SfEnt
  txns : List Txn
  epoch : Nat
  session : Nat
  /-- the write-epoch table by bucket -/
  buckets : Bank Nat Nat
  /-- the reservation table of R305: core and 64 B block, oldest first -/
  resv : List (Nat × Nat)
  /-- the owner-table cache, most recently used first -/
  oc : List OcEnt
  /-- wake lists by kennel: stops, head first; entries held for a stop that was sent GO (R307) -/
  wake : Bank Nat (List Nat)
  goHeld : List (Nat × Nat)
  /-- the clear's completion has been observed (R263) -/
  observed : Bool
  /-- tick count at which HOLD or the end of the drain began (R277) -/
  since : Nat
  deriving DecidableEq, Repr

/-- A mesh stop: local memory-grain balances by kennel, injection grains left, requests held in order, requests answered RETRY,
and the slices it knows to be in HOLD. -/
structure Stop where
  mem : Bank Nat Nat
  inj : Nat
  held : List Req
  retried : List (Nat × Req)
  notices : List Nat
  /-- kennels for which a chunk has been asked for -/
  asked : List Nat
  deriving DecidableEq, Repr

/-- A line an engine stages (R297): destination data or a source copy. -/
structure Stage where
  line : Nat
  dst : Bool
  data : BitVec 512
  poison : Bool
  deriving DecidableEq, Repr

/-- A message a Brace agent keeps until the peer acknowledges it (R319). -/
structure BraceMsg where
  seq : Nat
  line : Nat
  deriving DecidableEq, Repr

/-- One Brace link: messages sent and unacknowledged, the next sequence number, and that the link went down after a number of
ticks and the map still names it. -/
structure BraceSt where
  sent : List BraceMsg
  seq : Nat
  downAt : Option Nat
  deriving DecidableEq, Repr

/-- A cached line of a core (R240, R243): its way, the state 1 S, 2 E, 3 M (R297), poison, owner tag and data. -/
structure CLine where
  line : Nat
  way : Nat
  st : Nat
  poison : Bool
  owner : Nat
  data : BitVec 512
  deriving DecidableEq, Repr

/-- The states of a speculative-fill-buffer entry other than FREE (R195). -/
inductive SfbSt where
  | spec | bound | stale
  deriving DecidableEq, Repr

/-- A speculative-fill-buffer entry (R192 to R196): an instruction entry or not, which 16 B chunks have arrived, the state
granted, where the line came from (beyond the hart, its L2, its side buffer), the token, and whether BIND has been sent. -/
structure SfbEnt where
  line : Nat
  st : SfbSt
  instr : Bool
  chunks : Nat
  data : BitVec 512
  poison : Bool
  owner : Nat
  grant : Nat
  tok : Token
  noBind : Bool
  bindSent : Bool
  fromL2 : Bool
  fromSide : Bool
  /-- every use was squashed while the request was outstanding: the data is discarded on arrival -/
  dead : Bool
  deriving DecidableEq, Repr

/-- A prefetch side buffer entry, PENDING or VALID (R256). -/
structure SideEnt where
  line : Nat
  valid : Bool
  st : Nat
  poison : Bool
  owner : Nat
  data : BitVec 512
  discard : Bool
  deriving DecidableEq, Repr

/-- A stride prefetcher stream (R252). -/
structure Stream where
  pc : Nat
  ctx : Nat
  last : Nat
  stride : Int
  count : Nat
  deriving DecidableEq, Repr

/-- The predictor tables of R157. -/
inductive PredTable where
  | base | tagged (n : Nat) | btb1 | btb2 | indirect | storeWait
  deriving DecidableEq, Repr

/-- A predictor entry: table, set or index, tag, context tag, and content. -/
structure PredEnt where
  table : PredTable
  idx : Nat
  tag : Nat
  ctx : Nat
  value : Nat
  deriving DecidableEq, Repr

/-- The history of the front end (R158, R160): global history, path history and return stack. -/
structure Hist where
  glob : BitVec 300
  path : BitVec 32
  ras : List Word
  deriving DecidableEq, Repr

/-- A leaf translation (R211, R212): its tag (world, V, VMID, ASID or global, page number at its size), where it lies, the
leaf's bits 7:0 and PBMT. -/
structure TlbEnt where
  world : Bool
  v : Bool
  vmid : Nat
  asid : Nat
  glob : Bool
  /-- log2 of the page size -/
  s : Nat
  vpn : Nat
  /-- physical address of the page -/
  pa : Nat
  flags : Nat
  pbmt : Nat
  deriving DecidableEq, Repr

/-- A non-leaf PTE in a page-walk cache (R211): its tag, the level it was read at, the address bits that lead to it, and the
next table's address. -/
structure WalkEnt where
  world : Bool
  v : Bool
  vmid : Nat
  asid : Nat
  glob : Bool
  level : Nat
  pre : Nat
  next : Nat
  deriving DecidableEq, Repr

/-- A locked slot (R137). -/
structure SlotEnt where
  fetch : Bool
  world : Bool
  asid : Nat
  glob : Bool
  s : Nat
  vpn : Nat
  pa : Nat
  flags : Nat
  pbmt : Nat
  deriving DecidableEq, Repr

/-- What a completed walk holds until its instruction retires (R201, R215): the combined leaf, the non-leaf PTEs, the G-stage
leaves, the PTEs read with their addresses, and the exception it found. -/
structure WalkRes where
  leaf : Option TlbEnt
  path : List WalkEnt
  gleaf : List TlbEnt
  ptes : List (Nat × Nat)
  /-- cause and guest-physical address of a failed walk -/
  exc : Option (Nat × Nat)
  /-- PTEs that need A or D: address, value seen, bits to set (R227), G-stage first -/
  upd : List (Nat × Nat × Nat)
  deriving DecidableEq, Repr

/-- The cache maintenance operations (R269). -/
inductive CboKind where
  | clean | flush | inval | zero
  deriving DecidableEq, Repr

/-- The fences that invalidate translations (R230, R231): x[rs1] and x[rs2], `none` for x0. -/
inductive TlbFence where
  | sfence | vvma | gvma
  deriving DecidableEq, Repr

/-- What an unretired instruction is. -/
inductive UopKind where
  | load | store | amo (op : AmoOp) | lr | sc
  | fence (pr pw pi po sr sw si so : Bool)
  | fenceTso | fenceI
  | tlbFence (k : TlbFence) (rs1 : Option Nat) (rs2 : Option Nat)
  | cbo (k : CboKind)
  | hint (k : Nat)
  /-- a branch, jal or jalr: predicted direction and target, and whether it has resolved -/
  | branch (kind : BranchKind) (taken : Bool) (target : Word) (resolved : Bool)
  deriving DecidableEq, Repr

/-- The part of an access, or of a fetch, that lies in one page: its address and bytes, and its translation once known: the
physical address, the page's PBMT, whether a slot gave it, whether the L1 TLB missed, the L2 TLB entry or the walk that gave it. -/
structure Piece where
  va : Nat
  n : Nat
  pa : Option Nat
  pbmt : Nat
  slot : Bool
  l1miss : Bool
  l2hit : Option TlbEnt
  walk : Option WalkRes
  deriving DecidableEq, Repr

/-- An unretired instruction of the reorder buffer with its load or store queue entry (R165, R171 to R178). -/
structure Uop where
  /-- a number of its own, by which a load names the store it forwarded from -/
  id : Nat
  kind : UopKind
  pc : Word
  len : Nat
  fetch : List Piece
  pieces : List Piece
  bytes : Nat
  dest : Dest
  sign : Bool
  aq : Bool
  rl : Bool
  /-- privilege and virtualisation of the access when they differ from the hart's (HLV, HSV): virtual, and execute permission -/
  hyp : Bool
  hlvx : Bool
  /-- store data, or an AMO's operand -/
  data : Nat
  /-- never forwards (R178) -/
  noFwd : Bool
  /-- older stores whose address is not known yet (R177) -/
  gaps : Nat
  /-- has read, or is otherwise complete but for retirement -/
  done : Bool
  value : Nat
  poison : Bool
  /-- the exception found: cause, tval, guest address -/
  exc : Option (Nat × Nat × Nat)
  /-- the fill-buffer lines its data comes from; the store it forwarded from -/
  sfb : List Nat
  fwd : Option Nat
  /-- has waited for partly overlapping stores; missed L1D (trains the prefetcher, R252) -/
  waited : Bool
  missed : Bool
  /-- sent to the mesh as an I/O, NC or home-agent access (R185, R203, R266) -/
  issued : Bool
  /-- a branch: mispredicted -/
  wrong : Bool
  /-- the checkpoint of a branch (R160) -/
  ckpt : Option Hist
  deriving DecidableEq, Repr

/-- What waits in the store queue after retirement (R165, R174). -/
inductive Senior where
  | store (spans : List (Nat × Nat)) (data pbmt : Nat) (sent : Bool)
  | cbo (k : CboKind) (pa : Nat) (pbmt : Nat) (sent : Bool)
  | fenceI
  | tlbFence (k : TlbFence) (rs1 : Option Nat) (rs2 : Option Nat)
  deriving DecidableEq, Repr

/-- A write-combining buffer (R186): line, bytes held as a mask, data. -/
structure WcBuf where
  line : Nat
  mask : BitVec 64
  data : BitVec 512
  deriving DecidableEq, Repr

/-- What a hart waits in (R124, R128). -/
inductive HartWait where
  | run
  | wfi
  /-- WFS to register `rd`: the tick count or window it waits for -/
  | wfs (rd : Nat) (windowEnd : Bool) (tick : Nat)
  deriving DecidableEq, Repr

/-- A Skohal CSR write not yet in force (R148): the register, the value it replaces, and the retirements left. -/
structure LateCsr where
  reg : Reg
  old : Word
  left : Nat
  deriving DecidableEq, Repr

/-- The flush of a lost core: positions of L1D and L2 passed, the tick count of its last step, the kennel that owned the core when it was
lost, and senior stores whose entry failed its check are gone already. -/
structure LostSt where
  pos : Nat
  last : Nat
  kennel : Nat
  deriving DecidableEq, Repr

/-- One compute core: the hart's architectural state and its private structures (ch. 4 to 7). -/
structure Hart where
  x : Bank Nat Word
  f : Bank Nat Word
  v : Bank Nat (BitVec 256)
  pc : Word
  /-- privilege 0 U, 1 S, 3 M, and the virtualisation mode -/
  priv : Nat
  virt : Bool
  /-- the standard CSRs by number -/
  csr : Bank Nat Word
  resv : Option Nat
  rob : List Uop
  sq : List Senior
  wcb : List WcBuf
  sfb : List SfbEnt
  side : List SideEnt
  /-- lines for which ownership has been asked (R172) -/
  own : List Nat
  l1i : List CLine
  l1d : List CLine
  l2 : List CLine
  /-- tree pseudo-LRU bits by array (0 L1I, 1 L1D, 2 L2, 3 L2 TLB) and set -/
  plru : Bank (Nat × Nat) Nat
  streams : List Stream
  pred : List PredEnt
  hist : Hist
  /-- loads retired since the store-wait table was cleared (R177) -/
  loads : Nat
  tlbD : List TlbEnt
  tlbI : List TlbEnt
  tlbL2 : List (Nat × TlbEnt)
  tlbG : List TlbEnt
  wc1 : List WalkEnt
  wcU : List WalkEnt
  slots : List (Nat × SlotEnt)
  /-- walks made for fetches whose instructions have not retired, by page address (R201) -/
  fwalk : List (Nat × WalkRes)
  /-- pcs of loads squashed by an older store, until they retire (R177) -/
  replay : List Word
  nextId : Nat
  /-- halted by the debug module -/
  halted : Bool
  wait : HartWait
  late : List LateCsr
  /-- whole-cache invalidates whose completion has been observed: L1I, L1D, L2 (R263) -/
  seen : List Nat
  /-- the flush of a lost core, while it lasts (R205) -/
  lost : Option LostSt
  deriving DecidableEq, Repr

/-- A message that waits at the ICN station of a domain whose clock is stopped, or that arrives during the domain's reset
(R431, R434). -/
structure IcnMsg where
  dom : Nat
  id : Nat
  secure : Bool
  deriving DecidableEq, Repr

/-- A posting begun and not yet accepted by memory (R426). -/
structure Posting where
  dom : Nat
  id : Nat
  vcpu : Nat
  deriving DecidableEq, Repr

/-- The interrupt concentrator behind its registers (ch. 11). -/
structure IcnSt where
  /-- fenced sources admitted at a tick, by domain and identifier (R423) -/
  admitted : List (Nat × Nat)
  /-- hold-offs running: domain and group, and the timebase count at which each ends (R422) -/
  holdoff : Bank (Nat × Nat) Nat
  postings : List Posting
  /-- messages waiting at stopped domains (R431) -/
  waiting : List IcnMsg
  /-- wired edges held in the asynchronous latches, by domain and identifier (R431) -/
  latched : List (Nat × Nat)
  /-- domains in the middle of a kennel reset (R434) -/
  inReset : List Nat
  /-- the levels of IRQ_IN0 to IRQ_IN15 at the pins (R430) -/
  pins : Nat
  deriving DecidableEq, Repr

/-- The resets under which the socket is held (R576): from cold reset until PWR_OK rises with the supply order met, or until the
release of a warm reset. -/
inductive Held2 where
  | none | cold | warm
  deriving DecidableEq, Repr

/-- A core's power sequencing (R558 to R566): the REQ in force, the state it enters or is in, whether it was forced, whether the
save is done, the tick of the planned switch off, the planned exit (a tick count for a switch at a tick, else an instant in
1/32 ns), whether a wake waits for a tick, and a pending START with its world (R569). -/
structure CorePwr where
  req : Nat
  target : Nat
  forced : Bool
  saved : Bool
  toff : Nat
  ton : Option Nat
  waking : Bool
  start : Option Bool
  deriving DecidableEq, Repr

/-- A world-N write of a requested-state field that waits for the hold count of a station (R403): its register, the value, its kennel. -/
structure Deferred where
  station : Nat
  key : RK
  value : Word
  kennel : Nat
  deriving DecidableEq, Repr

/-- Power, clocks, temperatures and resets behind their registers (ch. 16, 17). -/
structure PwrSt where
  hold : Held2
  /-- WARM_RST_N is low at the pin -/
  warmPin : Bool
  /-- FATAL_N and THERMTRIP_N are driven low (R590) -/
  fatal : Bool
  tripPin : Bool
  cores : Bank Nat CorePwr
  /-- the REQ_MHZ in force of each tile, where it differs from its reset value (R570, R403) -/
  reqMhz : Bank Nat Nat
  /-- the thermal ceiling of each pack below 3,800 MHz (R574) -/
  thermal : Bank Nat Nat
  /-- tiles whose sensor has read THROTTLE_C − 3 or more since the last tick; tiles that throttled at the last tick -/
  warmed : List Nat
  throttled : List Nat
  /-- the readings of the tile sensors 0 to 63 and the I/O-die sensors 64 to 67, in °C (R574) -/
  temps : Bank Nat Int
  /-- input power of the last 64 spans, newest first (R572) -/
  watts : List Nat
  /-- cores that an emergency forced into CS4 (R574) -/
  emergency : List Nat
  deferred : List Deferred
  deriving DecidableEq, Repr

/-- Who waits for an outbound request of a port: a hart, a service core or an engine; or, for a peer-to-peer request, another link's
inbound request, by its number. -/
inductive OutBy where
  | src (s : Source)
  | peer (port link id : Nat)
  deriving DecidableEq, Repr

/-- The kinds of outbound non-posted requests (R445). -/
inductive OutKind where
  | mem | cfgRead | cfgWrite
  deriving DecidableEq, Repr

/-- An outbound non-posted request that is outstanding on a link (R445): who waits, its physical address and bytes. -/
structure OutReq where
  by_ : OutBy
  kind : OutKind
  pa : Nat
  n : Nat
  deriving DecidableEq, Repr

/-- A TLP that a link sent last, as its partner sees it. -/
inductive Tlp where
  | none
  | memRead (addr n : Nat)
  | memWrite (addr n data : Nat) (poison : Bool)
  | cfgRead (type1 : Bool) (addr n : Nat)
  | cfgWrite (type1 : Bool) (addr n data : Nat)
  | cpl (n data : Nat) (poison : Bool)
  | unsupported
  | msi (addr data : Nat)
  | intx (wire : Nat) (assert : Bool)
  | ptm (ns : Nat)
  deriving DecidableEq, Repr

/-- What an inbound request of a link is (R447, R450, R463). -/
inductive InKind where
  | read | write
  /-- a message of an identifier to a domain -/
  | msg (dom id : Nat)
  /-- a peer-to-peer request to a link of a port -/
  | peerRead (port link : Nat) | peerWrite (port link : Nat)
  /-- a write of a Retriever channel's doorbell -/
  | doorbell (chan : Nat)
  deriving DecidableEq, Repr

/-- An inbound request of a link from its decode until it is visible and answered (R447 to R449): a number, its address and bytes, the kennel and
world it carries, relaxed ordering, data and EP, the lines not yet sent and those sent and not answered, what a read has
collected, whether a line was refused, and the translation entry that gave its address. -/
structure InReq where
  id : Nat
  kind : InKind
  addr : Nat
  n : Nat
  kennel : Nat
  secure : Bool
  ro : Bool
  data : Nat
  poison : Bool
  todo : List Nat
  waits : List Nat
  err : Bool
  entry : Option Nat
  reqId : Nat
  deriving DecidableEq, Repr

/-- A kennel reset's part of a link (R469): none, waiting for the outstanding requests, in hot reset. -/
inductive LinkReset where
  | none | waiting | hot
  deriving DecidableEq, Repr

/-- One link of a port behind its registers (ch. 12): the root port's configuration header by doubleword, outstanding requests,
inbound requests in order, the number of the next one, the power request in force, the reset under way, PERST# asserted, what was sent last, and
the INTx levels the device has signalled. -/
structure LinkSt where
  cfg : Bank Nat Nat
  out : List OutReq
  inq : List InReq
  nextId : Nat
  off : Bool
  reset : LinkReset
  perst : Bool
  tx : Tlp
  wires : Nat
  deriving DecidableEq, Repr

/-- An endpoint function's configuration as the host set it (R460, R461): BAR addresses, the MSI address and data, the vector masks; the level of
PE_PERST_N[0]; and the numbers of the inbound requests translated under a replaced entry (R464). -/
structure EpSt where
  bars : Bank Nat Nat
  msiAddr : Nat
  msiData : Nat
  masks : Nat
  perstIn : Bool
  old : List Nat
  deriving DecidableEq, Repr

/-- A descriptor of the Retriever in progress (R477): its fields, the running CRC, the POISON flag and repeats of its record, and what
stops it: an abort or a kennel reset. -/
structure Desc where
  op : Nat
  irq : Bool
  id : Nat
  len : Nat
  src : Nat
  dst : Nat
  rec_ : Nat
  seed : Nat
  crc : Nat
  poison : Bool
  retries : Nat
  stop : Option Nat
  deriving DecidableEq, Repr

/-- How far an engine is with a descriptor: reading it from the ring; carrying out chunks; ended with an outcome, cause, bytes and
result and waiting for the requests issued; its record sent; its record accepted. -/
inductive EngPhase where
  | fetch
  | run
  | ended (outcome cause bytes result flags : Nat)
  | record (outcome flags : Nat)
  | recorded (outcome flags : Nat)
  deriving DecidableEq, Repr

/-- What an engine does for its channel: the phase, destination lines of the chunk whose write is sent, those accepted, that the
chunk's work is done, and the CRC after it. -/
structure EngJob where
  chan : Nat
  phase : EngPhase
  sent : List Nat
  fin : List Nat
  ready : Bool
  crc : Nat
  deriving DecidableEq, Repr

/-- One Retriever engine behind its registers (ch. 13): its job; a slice boundary has passed since its chunk began; its release queue of
pages; PWR_REQ in force; the tick count at which a return to service began; and the channel that an engine lost took with it. -/
structure EngSt where
  job : Option EngJob
  turn : Bool
  relq : List Nat
  off : Bool
  since : Nat
  deriving DecidableEq, Repr

/-- One Retriever channel behind its registers (ch. 13): the descriptor in progress, that its chunk was interrupted by a lost engine, when it was last served, a
binding that waits for the end of a commit window, and that a kennel reset ends it. -/
structure RtvChan where
  desc : Option Desc
  broken : Bool
  served : Nat
  held : Option Word
  deriving DecidableEq, Repr

/-- The OWN block behind its registers (R392): the operation in progress (0 none, 1 SET, 2 RELEASE), the page reached, its byte as read
when its purge has begun, the engine that scrubs it, and the engine last given a page. -/
structure OwnSt where
  op : Nat
  page : Nat
  purge : Option Nat
  engine : Option Nat
  last : Nat
  deriving DecidableEq, Repr

/-- A kennel reset under way (R378): steps 1 to 5 begun, or held until the end of a commit window (R104). -/
inductive KReset where
  | held (cause : Nat)
  | halting
  | units
  deriving DecidableEq, Repr
/-- A TLB entry of a service core (R503): page number at its size, log2 of the size, physical address, leaf bits. -/
structure DrmTlb where
  vpn : Nat
  s : Nat
  pa : Nat
  flags : Nat
  deriving DecidableEq, Repr

/-- An entry of a service core's branch target buffer (R499). -/
structure BtbEnt where
  idx : Nat
  tag : Nat
  target : Nat
  type : Nat
  ctr : Nat
  deriving DecidableEq, Repr

/-- A write of a Derrum CSR not yet in force (R506): the register, its old value, issue groups left. -/
structure DrmLate where
  reg : Reg
  old : Word
  left : Nat
  deriving DecidableEq, Repr

/-- One service core (R491 to R506). -/
structure DrmCore where
  x : Bank Nat Word
  pc : Word
  priv : Nat
  csr : Bank Nat Word
  resv : Option Nat
  tlb : List DrmTlb
  slots : List (Nat × DrmTlb)
  btb : List BtbEnt
  late : List DrmLate
  halted : Bool
  deriving DecidableEq, Repr

/-- A request of the fetch buffer (R498): the line of flash, whether it is a demand miss, and its core. -/
structure FlashReq where
  line : Nat
  demand : Bool
  core : Nat
  deriving DecidableEq, Repr

/-- The flash command under way (R501). -/
inductive FlashCmd where
  | none | running | polling
  deriving DecidableEq, Repr

/-- The sideband port's buffers (R513, R514): request bytes, response bytes left, the last committed and the response SEQ, SB_ALERT_N or the
in-band interrupt, and the last transfer's answer: the bytes read and whether it was refused. -/
structure SbSt where
  req : List Byte
  rsp : List Byte
  seq : Nat
  rspSeq : Nat
  alert : Bool
  out : List Byte
  nack : Bool
  deriving DecidableEq, Repr

/-- The Derrum complex behind its registers (ch. 14): service cores, fetch buffer (most recently used first), queued and running fills, that
a fill in flight is discarded, the flash settings in force, the flash command, words of the SRAM that are uncorrectable, the
scrubber's next word, and the sideband port; pages of the dump's slot written (ch. 15). -/
structure DrmSt where
  cores : Bank Nat DrmCore
  fb : List (Nat × BitVec 512)
  fills : List FlashReq
  drop : Bool
  cfgNow : Word
  cmd : FlashCmd
  badWords : List Nat
  scrub : Nat
  sb : SbSt
  /-- local interrupt 16 of each core (R514) -/
  local16 : List Nat
  /-- the debug module: authenticated by Derrum firmware (R605); the JTAG instruction; a value of the authdata exchange -/
  auth : Bool
  ir : Nat
  authdata : Nat
  deriving DecidableEq, Repr

/-- Everything the part holds but memory and the queue. -/
structure Sys where
  /-- the registers, by name and element; one not listed holds its cold-reset value (R12, R616) -/
  regs : Bank RK Word
  /-- the model's own counter of free values (log 1) -/
  freeCount : Nat
  /-- the answer the last register access got -/
  resp : Resp
  /-- the control stations (ch. 1) -/
  stations : Stations
  /-- the SPN block (ch. 2) -/
  span : SpanSt
  /-- the ZNX block (ch. 3) -/
  znx : ZnxSt
  /-- the configuration in force (R97, R105) -/
  conf : Conf
  /-- the shadow values the stations hold for a reflow (R101) -/
  shadow : Option Conf
  /-- the fault collector (ch. 15) -/
  fcr : FcrSt
  /-- the interrupt concentrator (ch. 11) -/
  icn : IcnSt
  /-- ticks taken since reset: the model's own count, by which a change that waits for the next tick knows that one has come -/
  ticks : Nat
  /-- the memory controllers by channel; one not listed is as Chan.idle (ch. 9) -/
  chans : Bank Nat Chan
  /-- the LLC slices and home agents by tile; one not listed is as Slice.empty (ch. 7, 8) -/
  slices : Bank Nat Slice
  /-- the mesh stops: tiles 0 to 63, edge stops 64 + m by the memory channel m they serve (R20) -/
  stops : Bank Nat Stop
  /-- messages under way on the mesh, oldest first -/
  msgs : List Msg
  /-- the Retriever engines' staging buffers (R272, R297) -/
  staging : Bank Nat (List Stage)
  /-- the Brace links' agents (R319) -/
  brace : Bank Nat BraceSt
  /-- the region registers in force at the home agents, by channel and index (R398) -/
  regionNow : Bank (Nat × Nat) (Word × Word)
  /-- the compute cores by hart number; one not listed is as Hart.cold (ch. 4 to 7) -/
  harts : Bank Nat Hart
  /-- kennels held for memory grains in the current span, with the phase at which each was first held (R330) -/
  qosHeld : Bank Nat Nat
  /-- power, clocks, temperatures and resets (ch. 16, 17) -/
  pwr : PwrSt
  /-- the ports' links by port and link; one not listed is as LinkSt.cold (ch. 12) -/
  links : Bank (Nat × Nat) LinkSt
  /-- the endpoint functions of P0 and P4 (R459) -/
  eps : Bank Nat EpSt
  /-- the Retriever engines (ch. 13) -/
  engs : Bank Nat EngSt
  /-- the Retriever channels (ch. 13) -/
  rtv : Bank Nat RtvChan
  /-- picks of channels so far, by which "least recently served" is known (R484) -/
  rtvClock : Nat
  /-- the OWN block (R392) -/
  own : OwnSt
  /-- kennel resets under way (R378) -/
  kresets : Bank Nat KReset
  /-- the Derrum complex (ch. 14) -/
  drm : DrmSt
  deriving DecidableEq, Repr

/-- The machine: the commands that wait, first in first out; memory; and the rest of the part. -/
structure State where
  pending : List Instr
  mem : Mem
  sys : Sys
  deriving DecidableEq, Repr

/-- The reasons a step can stop with a fault. No meaning of this model raises one: every row of the table has an effect. -/
inductive Fault where
  /-- raised by no meaning; safe -/
  | none
  deriving DecidableEq, Repr

/-- The reasons a step can be refused. -/
inductive Refusal where
  /-- a row that has no meaning yet, raised by the dispatch; safe -/
  | notModelled (mnemonic : String)
  deriving DecidableEq, Repr

/-- The part right after cold reset with every strap and fuse 0 (log 4): each register at the value its table gives (R12). -/
def Sys.reset : Sys where
  regs := []
  freeCount := 0
  resp := .none
  stations := ⟨[], [], [], []⟩
  span := ⟨0, 0, 1, 32, none, none, false, none, none, 0, none, 0, false, [], [], [], .idle, false⟩
  znx := ⟨[], 0, 0, 0, none, none, [], [], false, none, 0, 0, [0, 0, 0, 0]⟩
  conf := ⟨[], [], [], [], [], [], [], [], [], none, [], [], none, 0, 0, [], [], []⟩
  shadow := none
  fcr := ⟨[], [], false, none⟩
  icn := ⟨[], [], [], [], [], [], 0⟩
  ticks := 0
  chans := []
  slices := []
  stops := []
  msgs := []
  staging := []
  brace := []
  regionNow := []
  harts := []
  qosHeld := []
  pwr := ⟨.none, false, false, false, [], [], [], [], [], [], [], [], []⟩
  links := []
  eps := []
  engs := []
  rtv := []
  rtvClock := 0
  own := ⟨0, 0, none, none, 0⟩
  kresets := []
  drm := ⟨[], [], [], false, 0, .none, [], 0, ⟨[], [], 0, 0, false, [], false⟩, [], false, 1, 0⟩

/-- Memory after reset: nothing listed. -/
def Mem.empty : Mem := ⟨[], [], []⟩

/-- The machine right after reset. -/
def State.reset : State := ⟨[], Mem.empty, Sys.reset⟩

end Sys2Proof.Machine
end

