-- ==== Sys2Proof/Machine/Ops.lean ====
section
/-!
DEFINITION. The named operations over banks, memory, bit fields and registers, the access codes, and the small views of the
state that several units share.
-/
namespace Sys2Proof.Machine

/-! ## Bit fields -/

/-- The `wd` bits of a word from bit `lo`, as a number. -/
def fget (w : Word) (lo wd : Nat) : Nat := (w.extractLsb' lo wd).toNat

/-- The word whose bits `lo` to `lo + wd - 1` are ones. -/
def fmask (lo wd : Nat) : Word := ((BitVec.allOnes wd).setWidth 64) <<< lo

/-- A word with the `wd` bits from bit `lo` replaced by the low bits of `v`. -/
def fput (w : Word) (lo wd v : Nat) : Word :=
  (w &&& ~~~ fmask lo wd) ||| (((BitVec.ofNat wd v).setWidth 64) <<< lo)

/-- Bit `i` of a number. -/
def bit (n i : Nat) : Bool := (n >>> i) % 2 == 1

/-- A Boolean as a one-bit number. -/
def b2n (b : Bool) : Nat := if b then 1 else 0

/-- Bits `lo` to `lo + wd - 1` of a number. -/
def nget (n lo wd : Nat) : Nat := (n >>> lo) % 2 ^ wd

/-! ## Banks -/

/-- The value a bank holds for a key. -/
def Bank.get? {κ α : Type} [DecidableEq κ] : Bank κ α → κ → Option α
  | [], _ => none
  | (k', v) :: l, k => if k' = k then some v else Bank.get? l k

/-- The value a bank holds for a key, or a default. -/
def Bank.getD {κ α : Type} [DecidableEq κ] (l : Bank κ α) (k : κ) (d : α) : α := (Bank.get? l k).getD d

/-- The bank with a key's value replaced. -/
def Bank.set {κ α : Type} [DecidableEq κ] : Bank κ α → κ → α → Bank κ α
  | [], k, v => [(k, v)]
  | (k', v') :: l, k, v => if k' = k then (k, v) :: l else (k', v') :: Bank.set l k v

/-- The bank without a key. -/
def Bank.erase {κ α : Type} [DecidableEq κ] (l : Bank κ α) (k : κ) : Bank κ α := l.filter (fun p => p.1 ≠ k)

/-! ## Memory -/

/-- The byte a sorted list of cells holds at an address; one not listed reads 0x00 (log 3). -/
def cellGet : List Host.Cell → Nat → Byte
  | [], _ => 0
  | (a, b) :: l, x => if a = x then b else cellGet l x

/-- The list with one byte written, in canonical form: sorted, and no entry that equals 0x00. -/
def cellPut : List Host.Cell → Nat → Byte → List Host.Cell
  | [], x, v => if v = 0 then [] else [(x, v)]
  | (a, b) :: l, x, v =>
    if x < a then (if v = 0 then (a, b) :: l else (x, v) :: (a, b) :: l)
    else if x = a then (if v = 0 then l else (x, v) :: l)
    else (a, b) :: cellPut l x v

/-- A sorted list of numbers with one added. -/
def setAdd : List Nat → Nat → List Nat
  | [], x => [x]
  | a :: l, x => if x < a then x :: a :: l else if x = a then a :: l else a :: setAdd l x

/-- A sorted list of numbers with one removed. -/
def setDel : List Nat → Nat → List Nat
  | [], _ => []
  | a :: l, x => if a = x then l else a :: setDel l x

/-- One write of memory. -/
def Mem.put (m : Mem) : MemOp → Mem
  | .byte a b => { m with dram := cellPut m.dram a b }
  | .poison l on => { m with poison := if on then setAdd m.poison l else setDel m.poison l }
  | .sram o b => { m with sram := cellPut m.sram o b }
  | .lose => ⟨[], [], []⟩

/-- Memory after a list of writes, in order. -/
def Mem.apply (m : Mem) (ops : List MemOp) : Mem := ops.foldl Mem.put m

/-- The canonical form of a list of cells: strictly rising addresses from `lo` on and no 0x00 byte. -/
def cellsOk : Nat → List Host.Cell → Bool
  | _, [] => true
  | lo, (a, b) :: l => decide (lo ≤ a) && decide (b ≠ 0) && cellsOk (a + 1) l

/-- The canonical form of a sorted set of numbers. -/
def setOk : Nat → List Nat → Bool
  | _, [] => true
  | lo, a :: l => decide (lo ≤ a) && setOk (a + 1) l

/-- Memory is in canonical form. -/
def Mem.wf (m : Mem) : Bool := cellsOk 0 m.dram && setOk 0 m.poison && cellsOk 0 m.sram

/-- One byte of physical memory. -/
def Mem.byte (m : Mem) (a : Nat) : Byte := cellGet m.dram a

/-- `n` bytes of physical memory from an address. -/
def Mem.bytes (m : Mem) (a n : Nat) : List Byte := (List.range n).map (fun i => cellGet m.dram (a + i))

/-- `n` bytes of the Derrum SRAM from an offset. -/
def Mem.sramBytes (m : Mem) (a n : Nat) : List Byte := (List.range n).map (fun i => cellGet m.sram (a + i))

/-- The little-endian number that bytes spell (R13). -/
def leNat : List Byte → Nat
  | [] => 0
  | b :: l => b.toNat + 256 * leNat l

/-- The `n` little-endian bytes of a number (R13). -/
def natLe : Nat → Nat → List Byte
  | 0, _ => []
  | n + 1, v => BitVec.ofNat 8 v :: natLe n (v / 256)

/-- The writes that store bytes from an address on. -/
def storeOps (a : Nat) (bs : List Byte) : List MemOp := bs.mapIdx (fun i b => .byte (a + i) b)

/-- The writes that store bytes into the Derrum SRAM. -/
def sramOps (a : Nat) (bs : List Byte) : List MemOp := bs.mapIdx (fun i b => .sram (a + i) b)

/-! ## The working context of a command

A command's effect is written as a function on `M`: the memory it found, the rest of the part as it stands, and the writes of
memory it has made so far. Whatever it does, the memory it leaves is the memory it found with those writes applied. -/

/-- The working context. -/
structure M where
  mem0 : Mem
  sys : Sys
  ops : List MemOp

/-- Memory as the command sees it now. -/
def M.mem (x : M) : Mem := x.mem0.apply x.ops

/-- The context with more writes of memory. -/
def M.write (x : M) (ops : List MemOp) : M := { x with ops := x.ops ++ ops }

/-- The context with the rest of the part changed. -/
def M.on (x : M) (f : Sys → Sys) : M := { x with sys := f x.sys }

/-- The outcome of a command that may write memory, also while the socket is held in reset. -/
def onMAny (f : M → M) (s : State) : Host.Outcome State Fault Refusal :=
  .next { s with mem := s.mem.apply (f ⟨s.mem, s.sys, []⟩).ops, sys := (f ⟨s.mem, s.sys, []⟩).sys }

/-- The outcome of a command that changes the rest of the part only, also while the socket is held in reset. -/
def onSysAny (f : Sys → Sys) (s : State) : Host.Outcome State Fault Refusal := .next { s with sys := f s.sys }

/-- The outcome of a command that changes the rest of the part only. While the socket is held in reset nothing happens (R577). -/
def onSys (f : Sys → Sys) (s : State) : Host.Outcome State Fault Refusal :=
  if s.sys.pwr.hold = .none then onSysAny f s else .next s

/-- The outcome of a command that may write memory. While the socket is held in reset nothing happens (R577). -/
def onM (f : M → M) (s : State) : Host.Outcome State Fault Refusal :=
  if s.sys.pwr.hold = .none then onMAny f s else .next s

/-! ## Registers -/

/-- The key of the register a name and element stand for: TILE_SHOLD of tile n is PWR_SHOLD[n] (R402). -/
def RK.canon (k : RK) : RK :=
  match k.reg with
  | .TILE_SHOLD => ⟨.PWR_SHOLD, k.i, 0⟩
  | _ => k

/-- The word a register's table loads at cold reset. -/
def Reg.coldWord (r : Reg) : Word :=
  r.rows.foldl (fun w x => fput w x.lo x.wd x.reset) 0

/-- The cold-reset word of a register's element: the table's, but for service core 0's DRM_CORE_CTL, which is running (R509),
and for SPN_SPAN and the like, whose live fields are computed at a read. -/
def RK.coldWord (k : RK) : Word :=
  match k.reg, k.i with
  | .DRM_CORE_CTL, 0 => 5
  | r, _ => r.coldWord

/-- The stored word of a register. -/
def Sys.rd (s : Sys) (k : RK) : Word := Bank.getD s.regs k k.coldWord

/-- The state with a register's stored word replaced. -/
def Sys.wr (s : Sys) (k : RK) (w : Word) : Sys := { s with regs := Bank.set s.regs k w }

/-- A field of a register as a number. -/
def Sys.rf (s : Sys) (f : Fld) (i : Nat := 0) (j : Nat := 0) : Nat := fget (s.rd ⟨f.reg, i, j⟩) f.lo f.wd

/-- The state with a field of a register replaced. -/
def Sys.put (s : Sys) (f : Fld) (v : Nat) (i : Nat := 0) (j : Nat := 0) : Sys :=
  s.wr ⟨f.reg, i, j⟩ (fput (s.rd ⟨f.reg, i, j⟩) f.lo f.wd v)

/-- A one-bit field is 1. -/
def Sys.on (s : Sys) (f : Fld) (i : Nat := 0) (j : Nat := 0) : Bool := s.rf f i j == 1

/-- The state with a field counted up by one, stopping at its largest value. -/
def Sys.bump (s : Sys) (f : Fld) (i : Nat := 0) (j : Nat := 0) : Sys :=
  s.put f (min (2 ^ f.wd - 1) (s.rf f i j + 1)) i j

/-- What a write leaves in a field under its access code (R7); RWL is as RW until the seal (R9). -/
def Acc.next (a : Acc) (isSealed : Bool) (old v : Nat) : Nat :=
  match a with
  | .rw => v
  | .ro => old
  | .wo => old
  | .w1c => old - (old &&& v)
  | .w1s => old ||| v
  | .rc => old
  | .rwl => if isSealed then old else v

/-- A register's word after a write under its access codes; the bits no row covers stay as they are. -/
def accWrite (rows : List Row) (isSealed : Bool) (old v : Word) : Word :=
  rows.foldl (fun w x => fput w x.lo x.wd (x.acc.next isSealed (fget old x.lo x.wd) (fget v x.lo x.wd))) old

/-- A register's word after a clearing read: every RC field that was read is zero (R7, R8). -/
def accClear (rows : List Row) (old : Word) : Word :=
  rows.foldl (fun w x => if x.acc = .rc then fput w x.lo x.wd 0 else w) old

/-- The reset kinds (R12). -/
inductive ResetKind where
  | cold | warm | kennel
  deriving DecidableEq, Repr

/-- The reset kinds a set of kinds holds. -/
def Kinds.has : Kinds → ResetKind → Bool
  | _, .cold => true
  | .c, _ => false
  | .cw, .warm => true
  | .cw, .kennel => false
  | .cwk, _ => true

/-- A register's word after a reset of a kind: each field the kind loads takes its reset value (R12). -/
def resetWord (k : RK) (kind : ResetKind) (old : Word) : Word :=
  k.reg.rows.foldl
    (fun w x => if x.kinds.has kind then fput w x.lo x.wd (fget k.coldWord x.lo x.wd) else w) old

/-- One register takes a reset of a kind. -/
def Sys.resetReg (s : Sys) (kind : ResetKind) (k : RK) : Sys := s.wr k (resetWord k kind (s.rd k))

/-- Every register takes a reset of a kind. -/
def Sys.resetRegs (s : Sys) (kind : ResetKind) : Sys :=
  { s with regs := s.regs.map (fun p => (p.1, resetWord p.1 kind p.2)) }

/-- Every register that a test picks takes a reset of a kind. -/
def Sys.resetSome (s : Sys) (kind : ResetKind) (pick : RK → Bool) : Sys :=
  { s with regs := s.regs.map (fun p => if pick p.1 then (p.1, resetWord p.1 kind p.2) else p) }

/-! ## Free values -/

/-- The next free value of `w` bits (log 1). -/
def Sys.freeVal (s : Sys) (w : Nat) : Nat := (Config.free s.freeCount w).toNat

/-- The state after a free value was used. -/
def Sys.usedFree (s : Sys) : Sys := { s with freeCount := s.freeCount + 1 }

/-- The state with a register field that takes a free value. -/
def Sys.putFree (s : Sys) (f : Fld) (i : Nat := 0) (j : Nat := 0) : Sys :=
  (s.put f (s.freeVal f.wd) i j).usedFree

/-! ## Fault events (R518, R523) -/

/-- A unit detects a fault: its event is on its way to the collector. -/
def Sys.raise (s : Sys) (src : Nat) (sub : Nat := 0) : Sys :=
  { s with fcr := { s.fcr with events := s.fcr.events ++ [⟨src, sub⟩] } }

/-- The source numbers of R518. -/
def srcTile (n o : Nat) : Nat := 12 * n + o
def srcChan (m o : Nat) : Nat := 768 + 16 * m + o
def srcPort (p o : Nat) : Nat := 1024 + 8 * p + o
def srcBrace (b o : Nat) : Nat := 1088 + 8 * b + o
def srcEngine (e : Nat) : Nat := 1112 + e
def srcGlobal (o : Nat) : Nat := 1120 + o

/-! ## Views shared by the units -/

/-- The image is sealed (R97). -/
def Sys.isSealed (s : Sys) : Bool := s.rf F.ZNX_STATUS_IMAGE_STATE == 4

/-- The socket number (R15). -/
def Sys.socket (s : Sys) : Nat := s.rf F.SYS_ID_SOCKET

/-- The socket is in the heel state. -/
def Sys.heeled (s : Sys) : Bool := s.on F.FCR_HEEL_HEELED

/-- The span length in counts for a K (R40). -/
def spanLen (k : Nat) : Nat := 5000 * 2 ^ k

/-- The span length in force, in counts. -/
def Sys.spanS (s : Sys) : Nat := spanLen s.span.k

/-- The phase in the span (R41), in counts. -/
def Sys.phase (s : Sys) : Nat := s.span.rackTime % s.spanS

/-- The span number (R41). -/
def Sys.spanNo (s : Sys) : Nat := (s.span.rackTime / s.spanS) % 2 ^ 48

/-- The length of the window in force, in counts (R42). -/
def Sys.windowLen (s : Sys) : Nat := s.span.window * 32

/-- The phase is within the window (R42). -/
def Sys.inWindow (s : Sys) : Bool := decide (s.phase < s.windowLen)

/-- Time goes on by a number of counts inside the span. -/
def Sys.passCounts (s : Sys) (n : Nat) : Sys :=
  { s with span := { s.span with rackTime := s.span.rackTime + n, now := s.span.now + n } }

/-- Time goes on to a phase of the current span, when that phase still lies ahead. -/
def Sys.toPhase (s : Sys) (p : Nat) : Sys := s.passCounts (p - s.phase)

/-- A record of a keyed list, or a default. -/
def recOf {α : Type} (l : List (Nat × α)) (k : Nat) (d : α) : α := (l.lookup k).getD d

/-- The record of an absent kennel, tile, channel, port or domain. -/
def KennelRec.none : KennelRec := ⟨false, false, false, false, false, false, 0, 0, 0xFFFF, 0, 0⟩
def TileRec.none : TileRec := ⟨0xFF, 0, false⟩
def ChanRec.none : ChanRec := ⟨0, 1, 0, 0, 0, 0, 0⟩
def QosRec.none : QosRec := ⟨0, 0, 0⟩
def PortRec.none : PortRec := ⟨0, 0, 1, [0xFF, 0xFF, 0xFF, 0xFF], 0⟩
def BraceRec.none : BraceRec := ⟨0, 0⟩
def IrqRec.none : IrqRec := ⟨0, 0, false⟩
/-- The POWER defaults of R80. -/
def PowerRec.default : PowerRec := ⟨800, 110, 3800, 480⟩

def Conf.kennel (c : Conf) (k : Nat) : KennelRec := recOf c.kennels k .none
def Conf.tile (c : Conf) (n : Nat) : TileRec := recOf c.tiles n .none
def Conf.chan (c : Conf) (m : Nat) : ChanRec := recOf c.chans m .none
def Conf.qosOf (c : Conf) (k : Nat) : QosRec := recOf c.qos k .none
def Conf.port (c : Conf) (p : Nat) : PortRec := recOf c.ports p .none
def Conf.braceOf (c : Conf) (b : Nat) : BraceRec := recOf c.brace b .none
def Conf.irqOf (c : Conf) (d : Nat) : IrqRec := recOf c.irq d .none
def Conf.powerOf (c : Conf) : PowerRec := c.power.getD .default

/-- The kennel that owns a tile: 15, the platform, when none does (R375). -/
def Sys.tileKennel (s : Sys) (n : Nat) : Nat :=
  if (s.conf.tile n).kennel = 0xFF then 15 else (s.conf.tile n).kennel

/-- The kennel of a hart (R82). -/
def Sys.hartKennel (s : Sys) (h : Nat) : Nat := s.tileKennel (h / 4)

/-- A kennel is span-locked (R47). -/
def Sys.spanLocked (s : Sys) (k : Nat) : Bool := (s.conf.kennel k).spanLocked

/-- The numbers below `n`, as a list. -/
abbrev below (n : Nat) : List Nat := List.range n

/-- The harts of a kennel. -/
def Sys.kennelHarts (s : Sys) (k : Nat) : List Nat := (below 256).filter (fun h => s.hartKennel h = k)

/-- A fold of an operation over a list of elements. -/
def Sys.each {α : Type} (s : Sys) (l : List α) (f : Sys → α → Sys) : Sys := l.foldl f s

/-- A change made only under a condition. -/
def Sys.when (s : Sys) (c : Bool) (f : Sys → Sys) : Sys := if c then f s else s

/-! ## CRC-16 of the Leash (R59) -/

/-- One bit step of the CRC-16 with polynomial 0x1021, not reflected. -/
def crc16Step (c : BitVec 16) : BitVec 16 := if c.msb then (c <<< 1) ^^^ 0x1021 else c <<< 1

/-- The CRC-16 after one more byte. -/
def crc16Byte (c : BitVec 16) (b : Byte) : BitVec 16 :=
  (List.range 8).foldl (fun c _ => crc16Step c) (c ^^^ ((b.setWidth 16) <<< 8))

/-- The CRC-16 of bytes, from 0xFFFF, with no final XOR. -/
def crc16 (bs : List Byte) : BitVec 16 := bs.foldl crc16Byte 0xFFFF

end Sys2Proof.Machine
end

