-- ==== Sys2Proof/Machine/Crypto.lean ====
section
/-!
DEFINITION. SHA-384 and ECDSA over P-384, as the standards that R95 names define them (FIPS 180-4, FIPS 186-5).
-/
namespace Sys2Proof.Machine

/-- Round constants of SHA-384, part 0. -/
def shaK0 : List Word := [
  0x428a2f98d728ae22, 0x7137449123ef65cd, 0xb5c0fbcfec4d3b2f, 0xe9b5dba58189dbbc,
  0x3956c25bf348b538, 0x59f111f1b605d019, 0x923f82a4af194f9b, 0xab1c5ed5da6d8118,
  0xd807aa98a3030242, 0x12835b0145706fbe, 0x243185be4ee4b28c, 0x550c7dc3d5ffb4e2,
  0x72be5d74f27b896f, 0x80deb1fe3b1696b1, 0x9bdc06a725c71235, 0xc19bf174cf692694,
  0xe49b69c19ef14ad2, 0xefbe4786384f25e3, 0x0fc19dc68b8cd5b5, 0x240ca1cc77ac9c65]
/-- Round constants of SHA-384, part 1. -/
def shaK1 : List Word := [
  0x2de92c6f592b0275, 0x4a7484aa6ea6e483, 0x5cb0a9dcbd41fbd4, 0x76f988da831153b5,
  0x983e5152ee66dfab, 0xa831c66d2db43210, 0xb00327c898fb213f, 0xbf597fc7beef0ee4,
  0xc6e00bf33da88fc2, 0xd5a79147930aa725, 0x06ca6351e003826f, 0x142929670a0e6e70,
  0x27b70a8546d22ffc, 0x2e1b21385c26c926, 0x4d2c6dfc5ac42aed, 0x53380d139d95b3df,
  0x650a73548baf63de, 0x766a0abb3c77b2a8, 0x81c2c92e47edaee6, 0x92722c851482353b]
/-- Round constants of SHA-384, part 2. -/
def shaK2 : List Word := [
  0xa2bfe8a14cf10364, 0xa81a664bbc423001, 0xc24b8b70d0f89791, 0xc76c51a30654be30,
  0xd192e819d6ef5218, 0xd69906245565a910, 0xf40e35855771202a, 0x106aa07032bbd1b8,
  0x19a4c116b8d2d0c8, 0x1e376c085141ab53, 0x2748774cdf8eeb99, 0x34b0bcb5e19b48a8,
  0x391c0cb3c5c95a63, 0x4ed8aa4ae3418acb, 0x5b9cca4f7763e373, 0x682e6ff3d6b2b8a3,
  0x748f82ee5defb2fc, 0x78a5636f43172f60, 0x84c87814a1f0ab72, 0x8cc702081a6439ec]
/-- Round constants of SHA-384, part 3. -/
def shaK3 : List Word := [
  0x90befffa23631e28, 0xa4506cebde82bde9, 0xbef9a3f7b2c67915, 0xc67178f2e372532b,
  0xca273eceea26619c, 0xd186b8c721c0c207, 0xeada7dd6cde0eb1e, 0xf57d4f7fee6ed178,
  0x06f067aa72176fba, 0x0a637dc5a2c898a6, 0x113f9804bef90dae, 0x1b710b35131c471b,
  0x28db77f523047d84, 0x32caab7b40c72493, 0x3c9ebe0a15c9bebc, 0x431d67c49c100d4c,
  0x4cc5d4becb3e42b6, 0x597f299cfc657e2a, 0x5fcb6fab3ad6faec, 0x6c44198c4a475817]
/-- The round constants of SHA-384. -/
def shaK : List Word := (shaK0 : List Word) ++ (shaK1 : List Word) ++ (shaK2 : List Word) ++ (shaK3 : List Word)

/-- The initial hash value of SHA-384. -/
def shaInit : List Word := [
  0xcbbb9d5dc1059ed8, 0x629a292a367cd507, 0x9159015a3070dd17, 0x152fecd8f70e5939,
  0x67332667ffc00b31, 0x8eb44a8768581511, 0xdb0c2e0d64f98fa7, 0x47b5481dbefa4fa4]

/-- Big-endian number of bytes. -/
def beNat (bs : List Byte) : Nat := bs.foldl (fun n b => 256 * n + b.toNat) 0

/-- The `n` big-endian bytes of a number. -/
def natBe (n v : Nat) : List Byte := (natLe n v).reverse

def shaS0 (x : Word) : Word := x.rotateRight 28 ^^^ x.rotateRight 34 ^^^ x.rotateRight 39
def shaS1 (x : Word) : Word := x.rotateRight 14 ^^^ x.rotateRight 18 ^^^ x.rotateRight 41
def shaG0 (x : Word) : Word := x.rotateRight 1 ^^^ x.rotateRight 8 ^^^ (x >>> 7)
def shaG1 (x : Word) : Word := x.rotateRight 19 ^^^ x.rotateRight 61 ^^^ (x >>> 6)

/-- The message schedule, newest word first, extended by one word. -/
def shaExtend (ws : List Word) : List Word :=
  (shaG1 (ws.getD 1 0) + ws.getD 6 0 + shaG0 (ws.getD 14 0) + ws.getD 15 0) :: ws

/-- The 80 words of a block's schedule, oldest first. -/
def shaSchedule (ws : List Word) : List Word := ((List.range 64).foldl (fun l _ => shaExtend l) ws.reverse).reverse

/-- One round on the eight working variables. -/
def shaRound : List Word → Word × Word → List Word
  | [a, b, c, d, e, f, g, h], (k, w) =>
    let t1 := h + shaS1 e + ((e &&& f) ^^^ (~~~ e &&& g)) + k + w
    let t2 := shaS0 a + ((a &&& b) ^^^ (a &&& c) ^^^ (b &&& c))
    [t1 + t2, a, b, c, d + t1, e, f, g]
  | l, _ => l

/-- One block of 128 bytes. -/
def shaBlock (h : List Word) (block : List Byte) : List Word :=
  let ws := (List.range 16).map (fun i => BitVec.ofNat 64 (beNat ((block.drop (8 * i)).take 8)))
  List.zipWith (· + ·) h ((shaK.zip (shaSchedule ws)).foldl shaRound h)

/-- The padded message. -/
def shaPad (m : List Byte) : List Byte :=
  m ++ [0x80] ++ List.replicate ((239 - m.length % 128) % 128) 0 ++ natBe 16 (8 * m.length)

/-- SHA-384 of a message, as a big-endian number of 384 bits. -/
def sha384 (m : List Byte) : Nat :=
  let p := shaPad m
  let h := (List.range (p.length / 128)).foldl (fun h i => shaBlock h ((p.drop (128 * i)).take 128)) shaInit
  (h.take 6).foldl (fun n w => n * 2 ^ 64 + w.toNat) 0

/-! ## P-384 -/

def p384p : Nat := 0xfffffffffffffffffffffffffffffffffffffffffffffffffffffffffffffffeffffffff0000000000000000ffffffff
def p384n : Nat := 0xffffffffffffffffffffffffffffffffffffffffffffffffc7634d81f4372ddf581a0db248b0a77aecec196accc52973
def p384b : Nat := 0xb3312fa7e23ee7e4988e056be3f82d19181d9c6efe8141120314088f5013875ac656398d8a2ed19d2a85c8edd3ec2aef
def p384gx : Nat := 0xaa87ca22be8b05378eb1c71ef320ad746e1d3b628ba79b9859f741e082542a385502f25dbf55296c3a545e3872760ab7
def p384gy : Nat := 0x3617de4a96262c6f5d9e98bf9292dc29f8f41dbd289a147ce9da3113b5f0b8c00a60b1ce1d7e819d7a431d7c90ea0e5f

/-- `b ^ e` modulo `m` for an exponent below 2 ^ 384. -/
def powMod (b e m : Nat) : Nat :=
  (List.range 384).foldr (fun i acc => let sq := acc * acc % m; if bit e i then sq * b % m else sq) 1

/-- The inverse modulo a prime. -/
def invMod (a m : Nat) : Nat := powMod (a % m) (m - 2) m

/-- The sum of two points of the curve; none is the point at infinity. -/
def ecAdd : Option (Nat × Nat) → Option (Nat × Nat) → Option (Nat × Nat)
  | none, q => q
  | p, none => p
  | some (x1, y1), some (x2, y2) =>
    if x1 = x2 ∧ (y1 + y2) % p384p = 0 then none
    else
      let l := if x1 = x2 then (3 * x1 * x1 + (p384p - 3)) * invMod (2 * y1) p384p % p384p
        else (y2 + (p384p - y1)) * invMod (x2 + (p384p - x1)) p384p % p384p
      let x := (l * l + (p384p - x1) + (p384p - x2)) % p384p
      some (x, (l * (x1 + (p384p - x)) + (p384p - y1)) % p384p)

/-- A multiple of a point. -/
def ecMul (k : Nat) (p : Option (Nat × Nat)) : Option (Nat × Nat) :=
  (List.range 384).foldr (fun i acc => let d := ecAdd acc acc; if bit k i then ecAdd d p else d) none

/-- The point lies on the curve. -/
def onP384 (x y : Nat) : Bool :=
  decide (x < p384p) && decide (y < p384p) && (y * y % p384p == (x * x * x + (p384p - 3) * x + p384b) % p384p)

/-- ECDSA P-384 verification of a digest (R95 check 3). -/
def ecdsaOk (z r s x y : Nat) : Bool :=
  decide (1 ≤ r) && decide (r < p384n) && decide (1 ≤ s) && decide (s < p384n) && onP384 x y &&
  (let w := invMod s p384n
   match ecAdd (ecMul (z * w % p384n) (some (p384gx, p384gy))) (ecMul (r * w % p384n) (some (x, y))) with
   | none => false
   | some (u, _) => u % p384n == r)

end Sys2Proof.Machine
end

