-- ==== Sys2Proof/Machine/Sources.lean ====
section
/-!
DEFINITION. The fault sources of R518 to R522 with their default class, floor and unit for a C3 reaction.
-/
namespace Sys2Proof.Machine

/-- What a C3 reaction takes out of service (R519 to R522). -/
inductive C3Unit where
  | none | core | slice | channel | link | brace | engine
  deriving DecidableEq, Repr

/-- A source's default class, floor, fixed-C5 mark and unit for C3. -/
structure SrcInfo where
  default : Nat
  floor : Nat
  fixed : Bool
  unit : C3Unit
  deriving DecidableEq, Repr

def fixedC5 : SrcInfo := ⟨5, 5, true, .none⟩

/-- Tile sources (R519). -/
def tileSrcs : List SrcInfo := [
  ⟨0, 0, false, .core⟩, ⟨1, 0, false, .core⟩, ⟨3, 3, false, .core⟩, fixedC5,
  ⟨0, 0, false, .slice⟩, ⟨2, 0, false, .slice⟩, ⟨2, 0, false, .none⟩, fixedC5,
  ⟨0, 0, false, .none⟩, fixedC5, fixedC5, fixedC5]

/-- Memory-channel sources (R520). -/
def chanSrcs : List SrcInfo := [
  ⟨0, 0, false, .channel⟩, ⟨2, 0, false, .channel⟩, ⟨0, 0, false, .channel⟩, ⟨2, 0, false, .channel⟩,
  ⟨3, 2, false, .channel⟩, ⟨3, 3, false, .channel⟩, ⟨2, 2, false, .channel⟩, ⟨2, 0, false, .channel⟩,
  ⟨2, 2, false, .channel⟩, ⟨2, 0, false, .none⟩, ⟨2, 0, false, .channel⟩, ⟨2, 0, false, .none⟩, fixedC5]

/-- Port sources (R521). -/
def portSrcs : List SrcInfo := [
  ⟨0, 0, false, .link⟩, ⟨1, 0, false, .link⟩, ⟨3, 1, false, .link⟩, ⟨1, 0, false, .link⟩,
  ⟨1, 0, false, .link⟩, ⟨1, 1, false, .link⟩, fixedC5]

/-- Brace-link sources (R521). -/
def braceSrcs : List SrcInfo := [⟨0, 0, false, .brace⟩, ⟨2, 0, false, .brace⟩, ⟨2, 0, false, .none⟩]

/-- Global sources 0 to 23 (R522). -/
def globalSrcs : List SrcInfo := [
  ⟨0, 0, false, .none⟩, ⟨2, 0, false, .none⟩, ⟨0, 0, false, .none⟩, ⟨2, 0, false, .none⟩,
  fixedC5, fixedC5, fixedC5, fixedC5, fixedC5, fixedC5,
  ⟨0, 0, false, .none⟩, ⟨2, 2, false, .none⟩, ⟨0, 0, false, .none⟩, ⟨2, 0, false, .none⟩, fixedC5,
  ⟨0, 0, false, .none⟩, ⟨2, 2, false, .none⟩, ⟨2, 2, false, .none⟩, ⟨2, 0, false, .none⟩, fixedC5,
  ⟨0, 0, false, .none⟩, ⟨2, 2, false, .none⟩, fixedC5, ⟨2, 0, false, .none⟩]

/-- The entry of a source number; none for a reserved one (R518). -/
def srcInfo (n : Nat) : Option SrcInfo :=
  if n < 768 then tileSrcs[n % 12]?
  else if n < 1024 then chanSrcs[(n - 768) % 16]?
  else if n < 1088 then portSrcs[(n - 1024) % 8]?
  else if n < 1112 then braceSrcs[(n - 1088) % 8]?
  else if n < 1120 then some ⟨3, 3, false, .engine⟩
  else if n = 1279 then some fixedC5
  else if n < 1280 then globalSrcs[n - 1120]?
  else none

/-- The image may give the source this class (R91, R528). -/
def classOk (n c : Nat) : Bool :=
  match srcInfo n with
  | none => false
  | some i => decide (c ≤ 5) && decide (i.floor ≤ c) && (!i.fixed || c == 5) && (c != 3 || i.unit != .none)

/-- The class in force of a source (R80, R518): FCR_CLASS shows it. -/
def Conf.classOf (c : Conf) (n : Nat) : Nat :=
  match srcInfo n with
  | none => 0
  | some i => if i.fixed then 5 else recOf c.reaction n i.default

end Sys2Proof.Machine
end

