-- ==== Sys2Proof/Machine/Icn.lean ====
section
/-!
DEFINITION. The interrupt concentrator (ch. 11): sources, routes, presentation, claim and complete, hold-off, fences, virtual
CPUs, messages and wired inputs.
-/
namespace Sys2Proof.Machine

/-- The domain's kennel is enabled (R407). -/
def Sys.domOn (s : Sys) (d : Nat) : Bool := s.on F.ICN_DOM_CFG_ENABLED d

/-- The domain holds a source with this identifier (R408). -/
def Sys.srcPresent (s : Sys) (d id : Nat) : Bool :=
  s.domOn d && decide (1 ≤ id) && (decide (id ≤ 15) || decide (id ≤ s.rf F.ICN_DOM_CFG_SOURCES d)) && decide (id < 4095)

/-- The source is level: fixed for the internal sources (R409), else its TYPE. -/
def Sys.srcLevel (s : Sys) (d id : Nat) : Bool :=
  if id ≤ 15 then decide (id = 1 ∨ id = 2) else s.on F.ICN_SRC_TYPE d id

/-- Wire `w` drives this external source of an enabled domain (R430). -/
def Sys.wireDrives (s : Sys) (w d id : Nat) : Bool :=
  s.on F.ICN_WIRE_VALID w && decide (s.rf F.ICN_WIRE_DOMAIN w = d) && decide (s.rf F.ICN_WIRE_SOURCE w = id) &&
  decide (16 ≤ id) && s.srcPresent d id

/-- The source that a virtual INTx wire of a link names (R452). -/
def Sys.intxName (s : Sys) (p j w : Nat) : Nat :=
  match w with
  | 0 => s.rf F.IOP_LINK_INTX_SRC_A p j
  | 1 => s.rf F.IOP_LINK_INTX_SRC_B p j
  | 2 => s.rf F.IOP_LINK_INTX_SRC_C p j
  | _ => s.rf F.IOP_LINK_INTX_SRC_D p j

/-- The owner kennel of a link; 15, the platform, when the image gives none (R87). -/
def Sys.linkKennel (s : Sys) (p j : Nat) : Nat :=
  let k := ((s.conf.port p).kennels[j]?).getD 0xFF
  if k = 0xFF then 15 else k

/-- A virtual INTx wire drives this source of a domain (R452). -/
def Sys.intxDrives (s : Sys) (d id : Nat) : Bool :=
  s.links.any (fun q => s.on F.IOP_LINK_CTL_INTX_EN q.1.1 q.1.2 && s.linkKennel q.1.1 q.1.2 == d &&
    (below 4).any (fun w => bit (s.rf F.IOP_LINK_INTX_WIRES q.1.1 q.1.2) w && s.intxName q.1.1 q.1.2 w == id))

/-- The level of a source's input (R409, R430, R452). -/
def Sys.srcInput (s : Sys) (d id : Nat) : Bool :=
  if id = 1 then (below 4).any (fun j => s.rf F.ICN_DOM_LOST_LOST d j != 0)
  else if id = 2 then bit (s.rf F.FCR_KPEND_PEND) d
  else (below 16).any (fun w => s.wireDrives w d id && s.on F.ICN_WIRE_PIN w) || (decide (16 ≤ id) && s.intxDrives d id)

/-- The source is pending (R413). -/
def Sys.srcPending (s : Sys) (d id : Nat) : Bool :=
  if s.srcLevel d id then s.srcInput d id else s.on F.ICN_SRC_PENDING d id

/-- The hart a source names: the sentinel for CORE_LOST (R409). -/
def Sys.srcHart (s : Sys) (d id : Nat) : Nat :=
  if id = 1 then (s.conf.kennel d).sentinel % 256 else s.rf F.ICN_SRC_HART d id

/-- The THRESHOLD register of a context, when the context exists (R410, R414). -/
def Sys.ctxKey (s : Sys) (d hart ctx : Nat) : Option RK :=
  if d = 15 then (if ctx = 0 ∧ hart < 4 then some ⟨.ICN_DRM_THRESH, 15, hart⟩ else none)
  else if hart < 256 ∧ s.hartKennel hart = d then
    (if ctx = 0 then some ⟨.ICN_MCTX_THRESH, hart, 0⟩
     else if ctx - 1 ≤ s.rf F.ICN_DOM_CFG_GUEST_CTX d then some ⟨.ICN_CTX_THRESH, hart, ctx - 1⟩
     else none)
  else none

/-- The guest contexts in which a virtual CPU of the domain is resident (R425). -/
def Sys.residents (s : Sys) (d v : Nat) : List RK :=
  s.regs.filterMap (fun p =>
    if p.1.reg = .ICN_GCTX ∧ s.hartKennel p.1.i = d ∧ fget p.2 63 1 = 1 ∧ fget p.2 0 10 = v
    then some ⟨.ICN_CTX_THRESH, p.1.i, p.1.j⟩ else none)

/-- The contexts a source is routed to now (R414, R417). -/
def Sys.srcCtxs (s : Sys) (d id : Nat) : List RK :=
  if s.on F.ICN_SRC_POSTED d id then s.residents d (s.rf F.ICN_SRC_VCPU d id)
  else (s.ctxKey d (s.srcHart d id) (s.rf F.ICN_SRC_CTX d id)).toList

/-- ROUTE_OFF as the check of R414 gives it. -/
def Sys.routeBad (s : Sys) (d id : Nat) : Bool :=
  if s.on F.ICN_SRC_POSTED d id then s.srcLevel d id
  else (s.ctxKey d (s.srcHart d id) (s.rf F.ICN_SRC_CTX d id)).isNone

/-- The group is in hold-off (R422). -/
def Sys.grpHeld (s : Sys) (d g : Nat) : Bool := decide (s.span.now < Bank.getD s.icn.holdoff (d, g) 0)

/-- The group is fenced (R423). -/
def Sys.grpFenced (s : Sys) (d g : Nat) : Bool := s.spanLocked d && s.on F.ICN_GRP_FENCE d g

/-- The source is eligible (R416). -/
def Sys.srcEligible (s : Sys) (d id : Nat) : Bool :=
  s.srcPresent d id && s.srcPending d id && s.on F.ICN_SRC_ENABLE d id && s.rf F.ICN_SRC_PRIORITY d id != 0 &&
  !s.on F.ICN_SRC_ACTIVE d id && !s.on F.ICN_SRC_ROUTE_OFF d id &&
  !s.grpHeld d (s.rf F.ICN_SRC_GROUP d id) &&
  (!s.grpFenced d (s.rf F.ICN_SRC_GROUP d id) || s.icn.admitted.contains (d, id))

/-- The identifiers of the domain's sources that software has touched; no other source can be eligible. -/
def Sys.srcIds (s : Sys) (d : Nat) : List Nat :=
  s.regs.filterMap (fun p => if p.1.reg = .ICN_SRC ∧ p.1.i = d then some p.1.j else none)

/-- The better of two candidates for a claim: higher priority, lower identifier among equals (R418). -/
def Sys.srcBetter (s : Sys) (d a b : Nat) : Bool :=
  decide (s.rf F.ICN_SRC_PRIORITY d a > s.rf F.ICN_SRC_PRIORITY d b) ||
  (decide (s.rf F.ICN_SRC_PRIORITY d a = s.rf F.ICN_SRC_PRIORITY d b) && decide (a < b))

/-- The source that a claim of a context would return (R418). In the heel state domains 0 to 14 present nothing (R542). -/
def Sys.bestFor (s : Sys) (d : Nat) (k : RK) : Option Nat :=
  if s.heeled && d != 15 then none
  else ((s.srcIds d).filter (fun id =>
      s.srcEligible d id && (s.srcCtxs d id).contains k && decide (s.rf F.ICN_SRC_PRIORITY d id > fget (s.rd k) 0 4))).foldl
    (fun acc id => match acc with
      | none => some id
      | some a => if s.srcBetter d id a then some id else some a) none

/-- One context's request line follows the eligible sources; its rising edge sets PRESENTED (R417). -/
def Sys.syncLine (s : Sys) (d : Nat) (k : RK) : Sys :=
  let on := (s.bestFor d k).isSome
  let w := s.rd k
  s.wr k (fput (fput w 63 1 (b2n on)) 62 1 (if on && fget w 63 1 == 0 then 1 else fget w 62 1))

/-- Every context line of a domain follows its sources, and a source that is no longer pending loses its admission (R423); while the
domain's clock is stopped nothing moves (R421, R431). -/
def Sys.icnSync (s : Sys) (d : Nat) : Sys :=
  if s.on F.ICN_DOM_CFG_CLK_STOPPED d then s
  else
    let s := { s with icn := { s.icn with admitted := s.icn.admitted.filter (fun p => p.1 ≠ d || s.srcPending d p.2) } }
    let ks := ((s.srcIds d).flatMap (s.srcCtxs d)) ++
      s.regs.filterMap (fun p =>
        if fget p.2 63 1 = 1 ∧ ((p.1.reg = .ICN_DRM_THRESH ∧ d = 15 ∧ p.1.i = 15) ∨
            ((p.1.reg = .ICN_CTX_THRESH ∨ p.1.reg = .ICN_MCTX_THRESH) ∧ s.hartKennel p.1.i = d))
        then some p.1 else none)
    ks.eraseDups.foldl (fun t k => t.syncLine d k) s

/-- Every domain's lines follow their sources. -/
def Sys.icnSyncAll (s : Sys) : Sys := s.each (below 16) Sys.icnSync

/-- The source loses its admission when its PENDING clears or it is claimed (R423). -/
def Sys.unadmit (s : Sys) (d id : Nat) : Sys :=
  { s with icn := { s.icn with admitted := s.icn.admitted.filter (· ≠ (d, id)) } }

/-- An edge event of a source (R413): PENDING is set; a level or absent source takes none. -/
def Sys.srcEvent (s : Sys) (d id : Nat) : Sys :=
  if s.srcPresent d id && !s.srcLevel d id then (s.put F.ICN_SRC_PENDING 1 d id).icnSync d else s

/-- A claim of a context of domain `d` (R418): the identifier returned and the state after. -/
def Sys.icnClaim (s : Sys) (d : Nat) (k : RK) : Nat × Sys :=
  let clear (t : Sys) : Sys := t.wr k (fput (fput (t.rd k) 62 1 0) 63 1 0)
  match s.bestFor d k with
  | some id =>
    let t := clear ((s.put F.ICN_SRC_ACTIVE 1 d id).unadmit d id)
    let t := if s.srcLevel d id then t else t.put F.ICN_SRC_PENDING 0 d id
    let g := s.rf F.ICN_SRC_GROUP d id
    let h := s.rf F.ICN_GRP_HOLDOFF d g
    let t := if h = 0 then t
      else { t with icn := { t.icn with holdoff := Bank.set t.icn.holdoff (d, g) (s.span.now + (h * s.spanS + 63) / 64) } }
    (id, t.icnSync d)
  | none => (if fget (s.rd k) 62 1 = 1 then 4095 else 0, (clear s).icnSync d)

/-- A complete written to a context of domain `d` (R419). -/
def Sys.icnComplete (s : Sys) (d id : Nat) : Sys :=
  if s.srcPresent d id && s.on F.ICN_SRC_ACTIVE d id then (s.put F.ICN_SRC_ACTIVE 0 d id).icnSync d
  else s.put F.ICN_DOM_STATUS_COMPLETE_ERR 1 d

/-- A message is dropped and counted (R429). -/
def Sys.msgDrop (s : Sys) (d : Nat) : Sys := s.bump F.ICN_DOM_STATUS_MSG_DROP d

/-- A message taken by a domain whose clock runs (R429). -/
def Sys.takeMessage (s : Sys) (d id : Nat) (secure : Bool) : Sys :=
  if s.srcPresent d id && decide (16 ≤ id) && !s.srcLevel d id && (secure || !s.on F.ICN_SRC_SEC d id)
  then s.srcEvent d id else s.msgDrop d

/-- A write of ICN_DOM_MSG arrives at the ICN (R429): it waits when the domain's clock is stopped (R431) or the domain is being
reset (R434). -/
def Sys.icnMessage (s : Sys) (d id : Nat) (secure : Bool) : Sys :=
  if s.on F.ICN_DOM_CFG_CLK_STOPPED d || s.icn.inReset.contains d
  then { s with icn := { s.icn with waiting := s.icn.waiting ++ [⟨d, id, secure⟩] } }
  else s.takeMessage d id secure

/-- A write to a source's entry by a requester of a world (R413, R414, R415). -/
def Sys.srcWrite (s : Sys) (d id : Nat) (v : Word) (secure : Bool) : Sys :=
  if !s.srcPresent d id then s
  else
    let toM := fget v 40 4 == 0 && fget v 57 1 == 0
    if !secure && (s.on F.ICN_SRC_SEC d id || toM) then s.put F.ICN_DOM_STATUS_N_WRITE 1 d
    else
      let set (t : Sys) (f : Fld) : Sys := t.put f (fget v f.lo f.wd) d id
      let t := [F.ICN_SRC_POSTED, F.ICN_SRC_ENABLE, F.ICN_SRC_PRIORITY, F.ICN_SRC_GROUP, F.ICN_SRC_CTX, F.ICN_SRC_VCPU].foldl set s
      let t := if id ≤ 15 then t.put F.ICN_SRC_TYPE (b2n (s.srcLevel d id)) d id else set t F.ICN_SRC_TYPE
      let t := if id = 1 then t else set t F.ICN_SRC_HART
      let t := t.put F.ICN_SRC_SEC (b2n (secure && toM)) d id
      let t := t.put F.ICN_SRC_ROUTE_OFF (b2n (t.routeBad d id)) d id
      let t :=
        if t.srcLevel d id then t
        else match fget v 61 1 == 1, fget v 60 1 == 1 with
          | true, false => t.put F.ICN_SRC_PENDING 1 d id
          | false, true => (t.put F.ICN_SRC_PENDING 0 d id).unadmit d id
          | true, true => t.putFree F.ICN_SRC_PENDING d id
          | false, false => t
      t.icnSync d

/-- A write of THRESHOLD (R417, R432). -/
def Sys.threshWrite (s : Sys) (d : Nat) (k : RK) (v : Word) : Sys :=
  (s.wr k (fput (s.rd k) 0 4 (fget v 0 4))).icnSync d

/-- A write of ICN_GCTX of guest context `g` of a hart (R425, R427). -/
def Sys.gctxWrite (s : Sys) (h g : Nat) (v : Word) : Sys :=
  let d := s.hartKennel h
  if fget v 63 1 = 1 ∧ (s.residents d (fget v 0 10)).any (fun k => k ≠ ⟨.ICN_CTX_THRESH, h, g⟩) then
    s.put F.ICN_DOM_STATUS_GCTX_ERR 1 d
  else ((s.put F.ICN_GCTX_RESIDENT (fget v 63 1) h g).put F.ICN_GCTX_VCPU (fget v 0 10) h g).icnSync d

/-- The pin level after POL is shown, and a VALID entry that names no usable source sets WIRE_ERR (R430, R439). -/
def Sys.wireCheck (s : Sys) (w : Nat) : Sys :=
  let s := s.put F.ICN_WIRE_PIN (b2n (bit s.icn.pins w != s.on F.ICN_WIRE_POL w)) w
  let d := s.rf F.ICN_WIRE_DOMAIN w
  let id := s.rf F.ICN_WIRE_SOURCE w
  s.when (s.on F.ICN_WIRE_VALID w && !(decide (16 ≤ id) && s.srcPresent d id)) (fun t => t.put F.ICN_WIRE_WIRE_ERR 1 w)

/-- A rising edge of a wired input after POL (R430): held in the latches while the domain's clock is stopped (R431). -/
def Sys.wireEdge (s : Sys) (w : Nat) : Sys :=
  let d := s.rf F.ICN_WIRE_DOMAIN w
  let id := s.rf F.ICN_WIRE_SOURCE w
  if !s.wireDrives w d id || s.srcLevel d id then s
  else if s.on F.ICN_DOM_CFG_CLK_STOPPED d then { s with icn := { s.icn with latched := s.icn.latched ++ [(d, id)] } }
  else s.srcEvent d id

/-- A wired input's pin takes a level (R430): a level source follows it, and an edge source takes the rise. -/
def Sys.wireLevel (s : Sys) (w : Nat) (level : Bool) : Sys :=
  let was := s.on F.ICN_WIRE_PIN w
  let pins := if level then s.icn.pins ||| 2 ^ w else s.icn.pins - (s.icn.pins &&& 2 ^ w)
  let t := ({ s with icn := { s.icn with pins := pins } }).wireCheck w
  let t := if !was && t.on F.ICN_WIRE_PIN w then t.wireEdge w else t
  t.icnSync (t.rf F.ICN_WIRE_DOMAIN w)

/-- The domain's clock runs again (R431): the latched edges and waiting messages are handled. -/
def Sys.clockRestart (s : Sys) (d : Nat) (wake : Bool) : Sys :=
  if !s.on F.ICN_DOM_CFG_CLK_STOPPED d then s
  else
    let t := s.put F.ICN_DOM_CFG_CLK_STOPPED 0 d
    let t := t.when wake (fun t => t.put F.ICN_DOM_STATUS_LATCH_WAKE 1 d)
    let mine := t.icn.waiting.filter (fun m => m.dom = d)
    let edges := t.icn.latched.filter (fun p => p.1 = d)
    let t := { t with icn := { t.icn with waiting := t.icn.waiting.filter (fun m => m.dom ≠ d),
                                          latched := t.icn.latched.filter (fun p => p.1 ≠ d) } }
    let t := edges.foldl (fun t p => t.srcEvent p.1 p.2) t
    (mine.foldl (fun t m => t.takeMessage m.dom m.id m.secure) t).icnSync d

/-- A hold-off ends (R422): time has come to its expiry, and its group's sources may be eligible again. -/
def Sys.holdoffEnd (s : Sys) (d g : Nat) : Sys :=
  match Bank.get? s.icn.holdoff (d, g) with
  | none => s
  | some t =>
    if t - s.span.now ≤ s.spanS - s.phase then
      let s := s.passCounts (t - s.span.now)
      ({ s with icn := { s.icn with holdoff := Bank.erase s.icn.holdoff (d, g) } }).icnSync d
    else s

/-- The ICN's actions at a span tick (R423): the pending sources of fenced groups are admitted. -/
def Sys.icnTick (s : Sys) : Sys :=
  let add := (below 16).flatMap (fun d =>
    ((s.srcIds d).filter (fun id => s.srcPending d id && s.grpFenced d (s.rf F.ICN_SRC_GROUP d id))).map (fun id => (d, id)))
  ({ s with icn := { s.icn with admitted := (s.icn.admitted ++ add).eraseDups,
                                holdoff := s.icn.holdoff.filter (fun p => decide (s.span.now < p.2)) } }).icnSyncAll

/-- The contexts of a hart load their K values (R433, R434). -/
def Sys.ctxReset (s : Sys) (h : Nat) : Sys :=
  s.resetSome .kennel (fun k => k.i = h &&
    [Reg.ICN_CTX_THRESH, .ICN_GCTX, .ICN_MCTX_THRESH, .ICN_CTX_CLAIM, .ICN_MCTX_CLAIM].contains k.reg)

/-- A kennel reset of a domain (R434): sources, groups, contexts, status and table register load their K values, ICN_DOM_LOST
stays, and the messages that arrived meanwhile are dropped and counted. -/
def Sys.icnDomainReset (s : Sys) (d : Nat) : Sys :=
  let t := s.resetSome .kennel (fun k => k.i = d &&
    [Reg.ICN_SRC, .ICN_GRP, .ICN_DOM_STATUS, .ICN_DOM_PTAB, .ICN_DRM_THRESH].contains k.reg)
  let t := (s.kennelHarts d).foldl Sys.ctxReset t
  let n := (t.icn.waiting.filter (fun m => m.dom = d)).length
  let t := { t with icn := { t.icn with
    admitted := t.icn.admitted.filter (fun p => p.1 ≠ d),
    holdoff := t.icn.holdoff.filter (fun p => p.1.1 ≠ d),
    postings := t.icn.postings.filter (fun p => p.dom ≠ d),
    waiting := t.icn.waiting.filter (fun m => m.dom ≠ d),
    latched := t.icn.latched.filter (fun p => p.1 ≠ d),
    inReset := t.icn.inReset.filter (· ≠ d) } }
  ((below n).foldl (fun t _ => t.msgDrop d) t).icnSync d

/-- A hart leaves a domain at a reflow's commit (R433). -/
def Sys.hartLeaves (s : Sys) (d h : Nat) : Sys :=
  let ids := (s.srcIds d).filter (fun id => !s.on F.ICN_SRC_POSTED d id && decide (s.srcHart d id = h))
  (ids.foldl (fun t id => t.put F.ICN_SRC_ROUTE_OFF 1 d id) s).ctxReset h

/-- The source windows assigned at APPLY (R407, R412): pages of 512 entries, packed in ascending domain order. -/
def Sys.icnWindows (s : Sys) : Sys :=
  ((below 16).foldl
    (fun (p : Nat × Sys) d =>
      let r := p.2.conf.irqOf d
      let on := (p.2.conf.kennel d).enabled
      let t := ((((p.2.put F.ICN_DOM_CFG_ENABLED (b2n on) d).put F.ICN_DOM_CFG_FENCE_ON (b2n (p.2.spanLocked d)) d).put
        F.ICN_DOM_CFG_GUEST_CTX (if on then r.guestCtx else 0) d).put F.ICN_DOM_CFG_SOURCES (if on then r.sources else 0) d).put
        F.ICN_DOM_CFG_SRC_PAGE (if on then p.1 else 0) d
      (if on then p.1 + (r.sources + 512) / 512 else p.1, t)) (0, s)).2

/-- The number of pages of a domain's source window (R412). -/
def Sys.winPages (s : Sys) (d : Nat) : Nat :=
  if s.domOn d then (s.rf F.ICN_DOM_CFG_SOURCES d + 512) / 512 else 0

/-- The source entry that an offset in the source windows names (R412). -/
def Sys.srcAt (s : Sys) (off : Nat) : Option RK :=
  if off < 0x1A0000 ∨ 0x200000 ≤ off then none
  else
    let page := (off - 0x1A0000) / 0x1000
    ((below 16).find? (fun d =>
      decide (s.rf F.ICN_DOM_CFG_SRC_PAGE d ≤ page) && decide (page < s.rf F.ICN_DOM_CFG_SRC_PAGE d + s.winPages d))).map
      (fun d => ⟨.ICN_SRC, d, (page - s.rf F.ICN_DOM_CFG_SRC_PAGE d) * 512 + (off % 0x1000) / 8⟩)

/-- A virtual CPU's source is posted (R426, R428): the posting begins when the VCPU is in the table and resident nowhere. -/
def Sys.postStart (s : Sys) (d id : Nat) : Sys :=
  let v := s.rf F.ICN_SRC_VCPU d id
  if !s.srcEligible d id || !s.on F.ICN_SRC_POSTED d id || !(s.residents d v).isEmpty ||
      s.icn.postings.any (fun p => p.dom = d ∧ p.id = id) then s
  else if s.rf F.ICN_DOM_PTAB_VCPUS d ≤ v then (s.put F.ICN_DOM_STATUS_POST_ERR 1 d).put F.ICN_SRC_ROUTE_OFF 1 d id
  else { s with icn := { s.icn with postings := s.icn.postings ++ [⟨d, id, v⟩] } }

end Sys2Proof.Machine
end

