-- ==== Sys2Proof/Machine/Span.lean ====
section
/-!
DEFINITION. The span and the Leash ring (ch. 2): the SPN block's registers, the port's states, frames and the tick.
Times inside a span are in units of 1/625 count: a count is 625 units, 10 ps are 8 units, 4 ns are 3,200 units.
-/
namespace Sys2Proof.Machine

/-- The PORT_STATE codes (R73). -/
abbrev portOff : Nat := 0
abbrev portSeek : Nat := 1
abbrev portAcquire : Nat := 2
abbrev portLocked : Nat := 3
abbrev portRide : Nat := 4
abbrev portTxLock : Nat := 5

def Sys.portState (s : Sys) : Nat := s.rf F.SPN_STATUS_PORT_STATE
/-- The LEASH_MASTER strap (R54). -/
def Sys.leashMaster (s : Sys) : Bool := s.on F.SPN_STATUS_MASTER
/-- The node's ring position: 0 on the master (R54). -/
def Sys.ringPos (s : Sys) : Nat := if s.leashMaster then 0 else s.rf F.SPN_CFG_POSITION

/-- An entry of the ring map; positions outside it have no delay. -/
def Sys.hop (s : Sys) (p : Nat) : Hop := (s.span.ringMap[p]?).getD ⟨0, 0, 0, 0⟩

/-- TIMEBASE and HOLDOVER_SPANS follow the port's state (R73). -/
def Sys.showTimebase (s : Sys) : Sys :=
  let st := s.portState
  let tb :=
    if st = portLocked then 1
    else if !s.leashMaster && (decide (st = portSeek) || decide (st = portAcquire) || decide (st = portRide)) && s.span.inHoldover
    then 2 else 0
  (s.put F.SPN_STATUS_TIMEBASE tb).when (tb == 1) (fun t => t.put F.SPN_STATUS_HOLDOVER_SPANS 0)

/-- The port enters a state (R65). -/
def Sys.portTo (s : Sys) (st : Nat) : Sys :=
  let s := s.put F.SPN_STATUS_PORT_STATE st
  let s := { s with span := { s.span with
    rideSpans := 0, lastRack := none,
    inHoldover := s.span.inHoldover || (decide (st = portLocked) && !s.leashMaster) } }
  s.showTimebase

/-- LEASH_HOLD takes a level at the next tick (R65, R67). -/
def Sys.holdAtTick (s : Sys) (level : Bool) : Sys := { s with span := { s.span with holdNext := some level } }

/-- SPN_CTL.ENABLE goes from 0 to 1 (R65): the master goes to TX_LOCK, any other node to SEEK. -/
def Sys.leashOn (s : Sys) : Sys :=
  if s.portState ≠ portOff then s
  else ({ s with span := { s.span with symbolLock := false } }).portTo (if s.leashMaster then portTxLock else portSeek)

/-- SPN_CTL.ENABLE goes to 0 (R65): OFF, and LEASH_HOLD falls at the next tick. -/
def Sys.leashOff (s : Sys) : Sys :=
  if s.portState = portOff then s
  else ({ s with span := { s.span with symbolLock := false, tx := .idle } }).portTo portOff |>.holdAtTick false

/-- The node remeasures FWD (R64): the value shows at once and is applied at the next tick. -/
def Sys.measureFwd (s : Sys) (fwd : Nat) : Sys :=
  { s.put F.SPN_DELAY_FWD fwd with span := { s.span with fwdNext := some (fwd % 2 ^ 24) } }

/-- A RECAL action (R64): pending until applied at a tick; measured now when the node holds symbol lock. -/
def Sys.recal (s : Sys) (fwd : Nat) : Sys :=
  (s.put F.SPN_CTL_RECAL 1).when s.span.symbolLock (fun t => t.measureFwd fwd)

/-- A write of SPN_CTL (R64, R65, R73), with the measurement that a RECAL makes. -/
def Sys.spnCtlWrite (s : Sys) (v : Word) (fwd : Nat) : Sys :=
  let on := fget v 0 1 == 1
  let was := s.on F.SPN_CTL_ENABLE
  let s := (s.put F.SPN_CTL_SCHED_IRQ_EN (fget v 2 1)).put F.SPN_CTL_ENABLE (fget v 0 1)
  let s := s.when (fget v 1 1 == 1) (fun t => t.recal fwd)
  if on && !was then s.leashOn else if !on && was then s.leashOff else s

/-- K and WINDOW are within R42's bounds. -/
def windowOk (k w : Nat) : Bool :=
  decide (k ≤ 5) && decide (16 ≤ w) && decide (w ≤ 80) && decide (w * 32 * 4 ≤ spanLen k)

/-- A write of SPN_CFG (R42): ignored after the seal, ignored as a whole with CFG_ERR out of bounds, else held at once. -/
def Sys.spnCfgWrite (s : Sys) (v : Word) : Sys :=
  if s.isSealed then s
  else if windowOk (fget v 0 3) (fget v 4 7) then
    ((s.put F.SPN_CFG_K (fget v 0 3)).put F.SPN_CFG_WINDOW (fget v 4 7)).put F.SPN_CFG_POSITION (fget v 16 8)
  else s.put F.SPN_STATUS_CFG_ERR 1

/-- A write of SPN_TIME_LOAD (R73): accepted only on the master while ENABLE is 0. -/
def Sys.timeLoad (s : Sys) (v : Word) : Sys :=
  if s.leashMaster && !s.on F.SPN_CTL_ENABLE then
    let l := spanLen (s.rf F.SPN_CFG_K)
    { s with span := { s.span with load := some (v.toNat / l * l) } }
  else s.put F.SPN_STATUS_TIME_LOAD_ERR 1

/-- A write of SPN_SCHED_TX0 or TX1: ignored while GO is 1 (R73). -/
def Sys.schedTxWrite (s : Sys) (v : Word) (first : Bool) : Sys :=
  if s.on F.SPN_SCHED_TX0_GO then s
  else if first then
    ((s.put F.SPN_SCHED_TX0_GO (fget v 63 1)).put F.SPN_SCHED_TX0_ACTION (fget v 48 8)).put F.SPN_SCHED_TX0_TARGET (fget v 0 48)
  else s.put F.SPN_SCHED_TX1_ARG v.toNat

/-- SPN_SCHED_RX0 and RX1 show the oldest EVENT entry (R73). -/
def Sys.showEvents (s : Sys) : Sys :=
  match s.span.events with
  | [] => (((s.put F.SPN_SCHED_RX0_VALID 0).put F.SPN_SCHED_RX0_ORIGIN 0).put F.SPN_SCHED_RX0_TARGET 0).put F.SPN_SCHED_RX1_ARG 0
  | e :: _ => (((s.put F.SPN_SCHED_RX0_VALID 1).put F.SPN_SCHED_RX0_ORIGIN e.origin.toNat).put
      F.SPN_SCHED_RX0_TARGET e.target.toNat).put F.SPN_SCHED_RX1_ARG e.arg.toNat

/-- Writing 1 to SPN_SCHED_RX0.VALID removes the shown entry (R73). -/
def Sys.schedPop (s : Sys) : Sys :=
  ({ s with span := { s.span with events := s.span.events.drop 1 } }).showEvents

/-- A write of SPN_OVERRUN (R73): CLR zeroes COUNT, and the bits are W1C. -/
def Sys.overrunWrite (s : Sys) (v : Word) : Sys :=
  let s := s.when (fget v 31 1 == 1) (fun t => t.put F.SPN_OVERRUN_COUNT 0)
  let s := s.when (fget v 1 1 == 1) (fun t => t.put F.SPN_OVERRUN_OTHER 0)
  s.when (fget v 0 1 == 1) (fun t => t.put F.SPN_OVERRUN_REFRESH 0)

/-- A window-only activity ran outside the window (R46): its bit, one count for the span, and SPAN_OVERRUN. -/
def Sys.overrun (s : Sys) (refresh : Bool) : Sys :=
  let s := s.put (if refresh then F.SPN_OVERRUN_REFRESH else F.SPN_OVERRUN_OTHER) 1
  if s.span.overrunSeen then s
  else ({ s.bump F.SPN_OVERRUN_COUNT with span := { s.span with overrunSeen := true } }).raise (srcGlobal 0)

/-! ## Frames -/

/-- The bytes of a TIME frame that its CRC covers (R57). -/
def TimeFrame.body (f : TimeFrame) : List Byte :=
  [0x01, f.flags] ++ natLe 8 f.racktime.toNat ++ natLe 3 f.acc.toNat ++ [f.last] ++ natLe 32 f.fallen.toNat

/-- The bytes of a SCHED frame that its CRC covers (R58). -/
def SchedFrame.body (f : SchedFrame) : List Byte :=
  [0x02, f.action] ++ natLe 6 f.target.toNat ++ natLe 8 f.arg.toNat ++ [f.origin]

/-- The frame's CRC is good (R59). -/
def TimeFrame.crcOk (f : TimeFrame) : Bool := f.crc == crc16 f.body
def SchedFrame.crcOk (f : SchedFrame) : Bool := f.crc == crc16 f.body

/-- The frame with its CRC computed anew (R59). -/
def TimeFrame.fresh (f : TimeFrame) : TimeFrame := { f with crc := crc16 f.body }
def SchedFrame.fresh (f : SchedFrame) : SchedFrame := { f with crc := crc16 f.body }

/-- A bit of a 256-bit map takes a value. -/
def mapBit (m : BitVec 256) (p : Nat) (v : Bool) : BitVec 256 :=
  if v then m ||| (1#256 <<< p) else m &&& ~~~ (1#256 <<< p)

/-- SPN_FALLEN takes a map (R69). -/
def Sys.showFallen (s : Sys) (m : BitVec 256) : Sys :=
  (below 4).foldl (fun t i => t.put F.SPN_FALLEN_MAP ((m.toNat >>> (64 * i)) % 2 ^ 64) i) s

/-- The FALLEN map shown, as one number. -/
def Sys.fallenMap (s : Sys) : BitVec 256 :=
  BitVec.ofNat 256 ((below 4).foldl (fun n i => n + (s.rf F.SPN_FALLEN_MAP i) * 2 ^ (64 * i)) 0)

/-- The delays of the bypassed positions from `a` to `b - 1` (R61, R63). -/
def Sys.bypassSum (s : Sys) (a b : Nat) : Nat :=
  ((below b).filter (fun m => decide (a ≤ m))).foldl (fun n m => n + (s.hop m).cable + (s.hop m).bypass) 0

/-- ACC at the node's own LEASH_RX pins (R61), in 10 ps units. -/
def Sys.accIn (s : Sys) (f : TimeFrame) : Nat :=
  f.acc.toNat + s.bypassSum (f.last.toNat + 1) s.ringPos + (s.hop s.ringPos).cable + (s.hop s.ringPos).rxIn

/-- The next tick that a valid TIME frame sets (R66): its offset from the start of the current span in units, and the rack time
to adopt. `markerAt` is when the marker reached the LEASH_RX pins, `now` when the frame is processed, both in units from the
start of the current span. -/
def Sys.nextTick (s : Sys) (f : TimeFrame) (markerAt : Int) (now : Nat) : Nat × Nat :=
  let l : Int := spanLen (s.rf F.SPN_CFG_K)
  let p : Int := l * 625
  let mt : Int := markerAt - 8 * (s.accIn f)
  let e : Int := max (s.windowLen * 625) now
  let n : Int := -((mt - e) / p)
  ((mt + n * p).toNat, ((f.racktime.toNat + n * l) % (2 ^ 64)).toNat)

/-- The node adopts the master's tick (R66): the next tick is set, and a large shift or an odd span number is recorded. -/
def Sys.spanAdjust (s : Sys) (f : TimeFrame) (markerAt : Int) (now : Nat) : Sys :=
  let own := match s.span.adjust with
    | some (t, _) => t
    | none => s.spanS * 625
  let (t, r) := s.nextTick f markerAt now
  let s := ({ s with span := { s.span with adjust := some (t, r) } }).toPhase (now / 625)
  let s := if 3200 < (max t own - min t own) then (s.put F.SPN_STATUS_STEPPED 1).raise (srcGlobal 2) else s
  s.when ((r / spanLen (s.rf F.SPN_CFG_K)) % 2 ^ 48 != (s.spanNo + 1) % 2 ^ 48) (fun u => u.put F.SPN_STATUS_RENUMBERED 1)

/-- A non-master node updates a valid TIME frame and forwards it (R59, R61, R69). -/
def Sys.timeForward (s : Sys) (f : TimeFrame) : Sys :=
  let j := s.ringPos
  let acc := s.accIn f
  let s := s.when (decide (j ≤ f.last.toNat)) (fun t => t.put F.SPN_STATUS_MAP_ERR 1)
  let s := s.put F.SPN_DELAY_ACC_IN acc
  let fallen := mapBit f.fallen j s.heeled
  let g : TimeFrame := { f with
    acc := BitVec.ofNat 24 (acc + s.span.fwdUsed + (s.hop j).txOut), last := BitVec.ofNat 8 j, fallen := fallen }
  ({ s with span := { s.span with tx := .time g.fresh } }).showFallen fallen

/-- A TIME frame reaches a non-master node that holds symbol lock (R59, R61, R65, R66). -/
def Sys.timeFrame (s : Sys) (f : TimeFrame) (markerAt : Int) (now : Nat) : Sys :=
  let st := s.portState
  if s.leashMaster || !s.span.symbolLock || !(decide (st = portAcquire) || decide (st = portLocked) || decide (st = portRide)) then s
  else if !f.crcOk then
    let s := s.put F.SPN_STATUS_CRC_ERR 1
    let s := { s with span := { s.span with tx := .time { f with crc := ~~~ f.crc }, lastRack := none } }
    s.when (decide (st = portLocked)) (fun t => t.portTo portRide)
  else if f.flags.toNat % 8 ≠ s.rf F.SPN_CFG_K then
    let s := s.put F.SPN_STATUS_K_MISMATCH 1
    let s := { s with span := { s.span with tx := .time f, lastRack := none } }
    s.when (decide (st = portLocked)) (fun t => t.portTo portRide)
  else
    let s := s.timeForward f
    if st = portAcquire then
      match s.span.lastRack with
      | some r =>
        if f.racktime.toNat = (r + spanLen (s.rf F.SPN_CFG_K)) % 2 ^ 64 then
          ((s.portTo portLocked).holdAtTick true).spanAdjust f markerAt now
        else { s with span := { s.span with lastRack := some f.racktime.toNat } }
      | none => { s with span := { s.span with lastRack := some f.racktime.toNat } }
    else if st = portRide then (s.portTo portLocked).spanAdjust f markerAt now
    else s.spanAdjust f markerAt now

/-- The master's TIME frame comes back (R59, R63, R69); `measured` is the interval of R63 in 10 ps units. -/
def Sys.timeReturn (s : Sys) (f : TimeFrame) (measured : Nat) : Sys :=
  if !s.leashMaster || s.portState ≠ portLocked then s
  else if !f.crcOk then s.put F.SPN_STATUS_CRC_ERR 1
  else if f.flags.toNat % 8 ≠ s.rf F.SPN_CFG_K then s
  else
    let e := (f.acc.toNat + s.bypassSum (f.last.toNat + 1) s.span.ringMap.length + (s.hop 0).cable + (s.hop 0).rxIn) % 2 ^ 24
    let s := (s.put F.SPN_RING_DELAY_EXPECTED e).put F.SPN_RING_DELAY_MEASURED measured
    let s := s.when (decide (200 < max e measured - min e measured)) (fun t => t.put F.SPN_STATUS_RING_MISMATCH 1)
    s.showFallen (mapBit f.fallen 0 s.heeled)

/-- Symbol lock is gained (R64, R65): SEEK goes to ACQUIRE and FWD is measured and applied at once; a pending RECAL is carried
out. -/
def Sys.gainLock (s : Sys) (fwd : Nat) : Sys :=
  let st := s.portState
  if st = portOff then s
  else
    let s := { s with span := { s.span with symbolLock := true } }
    let first := (decide (st = portSeek)) || s.leashMaster
    let s := s.when (decide (st = portSeek)) (fun t => t.portTo portAcquire)
    let s := s.when first (fun t =>
      { t.put F.SPN_DELAY_FWD fwd with span := { t.span with fwdUsed := fwd % 2 ^ 24 } })
    s.when (s.on F.SPN_CTL_RECAL) (fun t => t.measureFwd fwd)

/-- Symbol lock is lost (R65). -/
def Sys.loseLock (s : Sys) : Sys :=
  let st := s.portState
  let s := { s with span := { s.span with symbolLock := false } }
  if st = portAcquire then s.portTo portSeek
  else if st = portLocked ∧ !s.leashMaster then ({ s with span := { s.span with tx := .idle } }).portTo portRide
  else s

/-- A SCHED frame is taken into the node's waiting list, or dropped (R72). -/
def Sys.schedQueue (s : Sys) (f : SchedFrame) : Sys :=
  if f.action ≠ 1 ∧ f.action ≠ 2 then s
  else if f.target.toNat ≤ s.spanNo then s.put F.SPN_STATUS_SCHED_LATE 1
  else if 8 ≤ s.span.waiting.length then s.put F.SPN_STATUS_SCHED_OVF 1
  else { s with span := { s.span with waiting := s.span.waiting ++ [f] } }

/-- A SCHED frame arrives on the ring (R59, R60, R72). -/
def Sys.schedFrame (s : Sys) (f : SchedFrame) : Sys :=
  if s.portState = portOff || !s.span.symbolLock then s
  else if !f.crcOk then
    { s.put F.SPN_STATUS_CRC_ERR 1 with span := { s.span with tx := .sched { f with crc := ~~~ f.crc } } }
  else if f.origin.toNat = s.ringPos then { s with span := { s.span with tx := .idle } }
  else ({ s with span := { s.span with tx := .sched f } }).schedQueue f

/-- The node inserts its SCHED frame (R60): its input has been idle for 8 symbols and the next tick is more than 1 µs away. -/
def Sys.schedInsert (s : Sys) (idle : Nat) : Sys :=
  if s.on F.SPN_SCHED_TX0_GO && decide (8 ≤ idle) && decide (1280 < s.spanS - s.phase) && s.span.symbolLock then
    let f : SchedFrame := SchedFrame.fresh ⟨BitVec.ofNat 8 (s.rf F.SPN_SCHED_TX0_ACTION), BitVec.ofNat 48 (s.rf F.SPN_SCHED_TX0_TARGET),
      BitVec.ofNat 64 (s.rf F.SPN_SCHED_TX1_ARG), BitVec.ofNat 8 s.ringPos, 0⟩
    ({ s.put F.SPN_SCHED_TX0_GO 0 with span := { s.span with tx := .sched f } }).schedQueue f
  else s

/-- The tick of a waiting frame's TARGET has come (R72): an EVENT is shown, a RECAL is carried out. -/
def Sys.schedReached (s : Sys) (fwd : Nat) : Sys :=
  match s.span.waiting.find? (fun f => decide (f.target.toNat ≤ s.spanNo)) with
  | none => s
  | some f =>
    let s := { s with span := { s.span with waiting := s.span.waiting.erase f } }
    if f.action = 1 then
      let s := ({ s with span := { s.span with events := s.span.events ++ [f] } }).showEvents
      s.when (s.on F.SPN_CTL_SCHED_IRQ_EN) (fun t => t.srcEvent 15 5)
    else s.recal fwd

/-- The SPN block's part of a span tick (R41, R43, R57, R64 to R67). -/
def Sys.spnTick (s : Sys) : Sys :=
  let next : Nat × Nat := match s.span.adjust, s.span.load with
    | some (t, r), _ => (t / 625 - s.phase, r)
    | none, some r => (s.spanS - s.phase, r)
    | none, none => (s.spanS - s.phase, s.span.rackTime + (s.spanS - s.phase))
  let s := s.when s.span.fwdNext.isSome (fun t => t.put F.SPN_CTL_RECAL 0)
  let s := match s.span.holdNext with
    | some b => s.put F.SPN_STATUS_HOLD (b2n b)
    | none => s
  let s := { s with span := { s.span with
    rackTime := next.2 % 2 ^ 64, now := s.span.now + next.1,
    k := s.rf F.SPN_CFG_K, window := s.rf F.SPN_CFG_WINDOW,
    adjust := none, load := none, holdNext := none, fwdUsed := s.span.fwdNext.getD s.span.fwdUsed, fwdNext := none,
    rideSpans := if s.portState = portRide then s.span.rideSpans + 1 else s.span.rideSpans, overrunSeen := false } }
  let s := s.when (s.rf F.SPN_STATUS_TIMEBASE != 1) (fun t => t.bump F.SPN_STATUS_HOLDOVER_SPANS)
  s.when (s.leashMaster && decide (s.portState = portLocked)) (fun t =>
    let f : TimeFrame := ⟨BitVec.ofNat 8 (t.rf F.SPN_CFG_K), BitVec.ofNat 64 t.span.rackTime, BitVec.ofNat 24 (t.hop 0).txOut, 0,
      mapBit t.fallenMap 0 t.heeled, 0⟩
    { t with span := { t.span with tx := .time f.fresh } })

/-- Reset of the SPN block (R65, R67, R73). -/
def Sys.spnReset (s : Sys) : Sys :=
  { s with span := ⟨0, s.span.now, 1, 32, none, none, false, none, none, 0, none, 0, false, [], [], [], .idle, false⟩ }

/-! ## The rows that are events of the ring -/

/-- WINDOW_END (R42): time comes to the end of the window; a reflow's commit window ends with it (R104). -/
def Sys.windowEnd (s : Sys) : Sys :=
  if s.inWindow then s.passCounts (s.windowLen - s.phase) else s

/-- TX_PLL_LOCK (R65). -/
def execTxPllLock (s : State) : Host.Outcome State Fault Refusal :=
  onSys (fun s => if s.portState = portTxLock then (s.portTo portLocked).holdAtTick true else s) s

/-- SYMBOL_LOCK (R64, R65). -/
def execSymbolLock (fwd : BitVec 24) (s : State) : Host.Outcome State Fault Refusal :=
  onSys (fun s => s.gainLock fwd.toNat) s

/-- SYMBOL_LOCK_LOST (R65). -/
def execSymbolLockLost (s : State) : Host.Outcome State Fault Refusal := onSys Sys.loseLock s

/-- TIME_FRAME (R59, R61, R65, R66). -/
def execTimeFrame (f : TimeFrame) (markerAt : Int) (now : Nat) (s : State) : Host.Outcome State Fault Refusal :=
  onSys (fun s => s.timeFrame f markerAt now) s

/-- TIME_FRAME_RETURN (R63). -/
def execTimeFrameReturn (f : TimeFrame) (measured : BitVec 24) (s : State) : Host.Outcome State Fault Refusal :=
  onSys (fun s => s.timeReturn f measured.toNat) s

/-- MARKER_TIMEOUT (R65). -/
def execMarkerTimeout (s : State) : Host.Outcome State Fault Refusal :=
  onSys (fun s => if s.portState = portLocked ∧ !s.leashMaster then s.portTo portRide else s) s

/-- RIDE_EXPIRY (R65): two spans have passed in RIDE. -/
def execRideExpiry (s : State) : Host.Outcome State Fault Refusal :=
  onSys (fun s =>
    if s.portState = portRide ∧ 2 ≤ s.span.rideSpans then
      ((({ s with span := { s.span with symbolLock := false } }).portTo portSeek).holdAtTick false).raise (srcGlobal 1)
    else s) s

/-- HOLDOVER_EXPIRY (R65): 8 ms have passed since the node was last disciplined. -/
def execHoldoverExpiry (s : State) : Host.Outcome State Fault Refusal :=
  onSys (fun s =>
    if s.portState = portLocked then s
    else ({ s with span := { s.span with inHoldover := false } }).showTimebase) s

/-- SCHED_INSERT (R60). -/
def execSchedInsert (idle : Nat) (s : State) : Host.Outcome State Fault Refusal := onSys (fun s => s.schedInsert idle) s

/-- SCHED_FRAME (R59, R60, R72). -/
def execSchedFrame (f : SchedFrame) (s : State) : Host.Outcome State Fault Refusal := onSys (fun s => s.schedFrame f) s

/-- SCHED_TARGET_REACHED (R72). -/
def execSchedTargetReached (fwd : BitVec 24) (s : State) : Host.Outcome State Fault Refusal :=
  onSys (fun s => s.schedReached fwd.toNat) s

end Sys2Proof.Machine
end

