-- ==== Sys2Proof/Machine/Image.lean ====
section
/-!
DEFINITION. The Zelelnex image: its layout (R78 to R95) and the checks VERIFY makes in five stages (R96).
-/
namespace Sys2Proof.Machine

/-- The little-endian field of `n` bytes at offset `o`. -/
def u (r : List Byte) (o n : Nat) : Nat := leNat ((r.drop o).take n)

/-- The bytes from `a` to `b - 1` are zero. -/
def zeros (r : List Byte) (a b : Nat) : Bool := ((r.drop a).take (b - a)).all (· == 0)

/-- The number of ones in a mask of `w` bits. -/
def ones (m w : Nat) : Nat := ((below w).filter (bit m)).length

/-- The quadrant of a tile (R16). -/
def quadOf (n : Nat) : Nat := 2 * (n / 32) + (n % 8) / 4

def gib : Nat := 2 ^ 30
/-- The size of a socket's DRAM window (R36). -/
def dramWindow : Nat := 2 ^ 43

/-- One entry of the section table (R79). -/
structure Sect where
  type : Nat
  offset : Nat
  recSize : Nat
  count : Nat
  deriving DecidableEq, Repr

/-- A section type's record size, its range of counts in a full and in a reflow image (none: not accepted), and whether a full
image requires it (R80). -/
structure SectKind where
  size : Nat
  lo : Nat
  hi : Nat
  reflow : Option (Nat × Nat)
  required : Bool
  deriving DecidableEq, Repr

/-- The section types of R80; `nodes` is the number of ring nodes the SPAN section names. -/
def sectKind (t : Nat) : Option SectKind :=
  if t = 0 then none else
  [⟨32, 16, 16, some (1, 16), true⟩, ⟨8, 64, 64, some (1, 64), true⟩, ⟨32, 1, 16, none, true⟩, ⟨16, 16, 16, none, true⟩,
   ⟨8, 0, 1024, none, false⟩, ⟨16, 16, 16, some (1, 16), true⟩, ⟨16, 8, 8, some (1, 8), true⟩, ⟨8, 3, 3, none, false⟩,
   ⟨16, 16, 16, none, true⟩, ⟨16, 1, 257, some (1, 1), true⟩, ⟨4, 0, 1280, some (0, 1280), false⟩, ⟨16, 1, 1, some (1, 1), false⟩,
   ⟨16, 1, 65535, none, true⟩, ⟨32, 0, 512, some (0, 512), false⟩, ⟨8, 0, 4096, some (0, 4096), false⟩][t - 1]?

/-- An image as VERIFY sees it: the copy's bytes, and what the part holds that the checks compare with. -/
structure ImgCtx where
  bytes : List Byte
  len : Nat
  srcOffset : Nat
  /-- a reflow image is expected: the state is SEALED (R97) -/
  wantReflow : Bool
  socket : Nat
  stepping : Nat
  factory : Bool
  minSvn : Nat
  revoked : Nat
  programmed : Nat
  keyHash : List Nat
  digest : Nat
  position : Nat
  spnK : Nat
  cur : Conf
  deriving DecidableEq, Repr

/-- An image's fields of the header (R78). -/
def ImgCtx.sigOff (x : ImgCtx) : Nat := u x.bytes 12 4
def ImgCtx.sectCount (x : ImgCtx) : Nat := u x.bytes 16 2
def ImgCtx.sockets (x : ImgCtx) : Nat := u x.bytes 26 1
def ImgCtx.isReflow (x : ImgCtx) : Bool := bit (u x.bytes 18 2) 0

/-- Entry `i` of the section table (R79). -/
def ImgCtx.sect (x : ImgCtx) (i : Nat) : Sect :=
  let e := (x.bytes.drop (128 + 16 * i)).take 16
  ⟨u e 0 2, u e 4 4, u e 12 2, u e 14 2⟩

def ImgCtx.sects (x : ImgCtx) : List Sect := (below x.sectCount).map x.sect

/-- The records of a section, as bytes. -/
def ImgCtx.recs (x : ImgCtx) (t : Sect) : List (List Byte) :=
  (below t.count).map (fun i => (x.bytes.drop (t.offset + t.recSize * i)).take t.recSize)

/-- Stage 1: the header (R78, R96 codes 0x01 to 0x07), in code order. -/
def ImgCtx.stage1 (x : ImgCtx) : Option Nat :=
  let b := x.bytes
  if x.len < 384 ∨ 65536 < x.len ∨ x.len % 8 ≠ 0 ∨ 524288 < x.srcOffset + x.len ∨ u b 8 4 ≠ x.len ∨
      u b 8 4 ≠ x.sigOff + 256 ∨ x.sigOff % 8 ≠ 0 then some 0x01
  else if u b 0 4 ≠ 0x31584E5A ∨ u b 6 2 ≠ 128 then some 0x02
  else if u b 4 1 ≠ 1 then some 0x03
  else if u b 20 4 ≠ 0x9256 ∨ x.stepping < u b 24 1 ∨ u b 25 1 < x.stepping then some 0x04
  else if ¬(x.sockets = 1 ∨ x.sockets = 2) ∨ u b 27 1 ≠ x.socket ∨ (x.sockets = 1 ∧ (u b 27 1 ≠ 0 ∨ u b 40 8 ≠ 0)) then some 0x05
  else if 4 ≤ u b 18 2 ∨ (bit (u b 18 2) 1 ∧ !x.factory) ∨ x.isReflow ≠ x.wantReflow then some 0x06
  else if !zeros b 96 128 ∨ (!x.isReflow ∧ !zeros b 48 96) then some 0x07
  else none

/-- The section table's entries follow one another from `e` on, without overlap, gaps all zero (R79). -/
def ImgCtx.tableOk (x : ImgCtx) : Nat → List Sect → List Nat → Bool
  | e, [], _ => decide (e ≤ x.sigOff) && zeros x.bytes e x.sigOff
  | e, t :: l, seen =>
    (match sectKind t.type with
     | none => false
     | some k =>
       t.recSize == k.size &&
       (match x.isReflow, k.reflow with
        | true, some (lo, hi) => decide (lo ≤ t.count) && decide (t.count ≤ hi)
        | _, _ => decide (k.lo ≤ t.count) && decide (t.count ≤ k.hi))) &&
    !seen.contains t.type && t.offset % 8 == 0 && decide (e ≤ t.offset) &&
    decide (t.offset + t.recSize * t.count ≤ x.sigOff) && zeros x.bytes e t.offset &&
    x.tableOk (t.offset + t.recSize * t.count) l (t.type :: seen)

/-- Stage 2: the section table and the signature block's format (codes 0x08 and 0x09). -/
def ImgCtx.stage2 (x : ImgCtx) : Option Nat :=
  let n := x.sectCount
  let raw (i : Nat) : List Byte := (x.bytes.drop (128 + 16 * i)).take 16
  if n < 1 ∨ 32 < n ∨ x.sigOff < 128 + 16 * n ∨
      !((below n).all (fun i => u (raw i) 2 1 == 1 && u (raw i) 3 1 == 0 && u (raw i) 8 4 == u (raw i) 12 2 * u (raw i) 14 2)) ∨
      !x.tableOk (128 + 16 * n) x.sects [] then some 0x08
  else
    let g := x.bytes.drop x.sigOff
    if u g 0 4 ≠ 0x4749535A ∨ u g 4 2 ≠ 1 ∨ !zeros g 200 256 then some 0x09 else none

/-- Stage 3: the key, the signature, IMAGE_SVN, and the required sections (codes 0x0A to 0x0D). -/
def ImgCtx.stage3 (x : ImgCtx) : Option Nat :=
  let g := x.bytes.drop x.sigOff
  let slot := u g 6 2
  let pub := (g.drop 8).take 96
  if 3 < slot ∨ x.keyHash[slot]? ≠ some (sha384 pub) ∨ !bit x.programmed slot ∨ bit x.revoked slot then some 0x0A
  else if !ecdsaOk (sha384 (x.bytes.take (x.sigOff + 104))) (beNat ((g.drop 104).take 48)) (beNat ((g.drop 152).take 48))
      (beNat (pub.take 48)) (beNat (pub.drop 48)) then some 0x0B
  else if u x.bytes 28 4 < x.minSvn then some 0x0C
  else
    let types := x.sects.map Sect.type
    let need (t : Nat) : Bool := match sectKind t with
      | some k => k.required || (t == 8 && x.sockets == 2)
      | none => false
    if x.isReflow then
      (if types.all (fun t => match sectKind t with | some k => k.reflow.isSome | none => false) then none else some 0x0D)
    else if (below 16).all (fun t => !need t || types.contains t) then none else some 0x0D

/-! ## Records -/

def KennelRec.parse (r : List Byte) : KennelRec :=
  let f := u r 1 1
  ⟨bit f 0, bit f 1, bit f 2, bit f 3, bit f 4, bit f 5, u r 2 1, u r 3 1, u r 4 2, u r 6 2, u r 8 8⟩
def TileRec.parse (r : List Byte) : TileRec := ⟨u r 1 1, u r 2 1, u r 3 1 == 1⟩
def IlvRec.parse (r : List Byte) : IlvRec := ⟨u r 0 1, u r 1 1 == 1, u r 2 1, u r 3 1, u r 4 2, u r 8 8, u r 16 8, u r 24 8⟩
def ChanRec.parse (r : List Byte) : ChanRec := ⟨u r 1 1, u r 2 1, u r 4 2, u r 6 2, u r 8 2, u r 10 2, u r 12 1⟩
def RouteRec.parse (r : List Byte) : RouteRec := ⟨u r 0 1, u r 1 1, u r 2 1 == 1, u r 3 1⟩
def QosRec.parse (r : List Byte) : QosRec := ⟨u r 4 4, u r 8 4, u r 12 4⟩
def PortRec.parse (r : List Byte) : PortRec := ⟨u r 1 1, u r 2 1, u r 3 1, (below 4).map (fun j => u r (4 + j) 1), u r 8 1⟩
def Hop.parse (r : List Byte) : Hop := ⟨u r 0 4, u r 4 4, u r 8 4, u r 12 4⟩
/-- A REGION record with CH 0xFF stands for the register of every channel (R94). -/
def RegionRec.parse (r : List Byte) : List RegionRec :=
  (if u r 0 1 = 0xFF then below 16 else [u r 0 1]).map (fun c => ⟨c, u r 1 1, u r 2 1, u r 3 1, u r 8 8, u r 16 8⟩)

/-- A keyed list with a record replaced or added. -/
def putRec {α : Type} (l : List (Nat × α)) (k : Nat) (v : α) : List (Nat × α) := Bank.set l k v

/-- The configuration with one record of a section merged in by its key (R80, "Reflow"): in a full image record i describes kennel i, and
tile i (R81, R82). -/
def Conf.merge1 (c : Conf) (reflow : Bool) (t i : Nat) (r : List Byte) : Conf :=
  match t with
  | 1 => { c with kennels := putRec c.kennels (if reflow then u r 0 1 else i) (KennelRec.parse r) }
  | 2 => { c with tiles := putRec c.tiles (if reflow then u r 0 1 else i) (TileRec.parse r) }
  | 3 => { c with ilv := c.ilv ++ [IlvRec.parse r] }
  | 4 => { c with chans := putRec c.chans (u r 0 1) (ChanRec.parse r) }
  | 5 => { c with routes := c.routes ++ [RouteRec.parse r] }
  | 6 => { c with qos := putRec c.qos (u r 0 1) (QosRec.parse r) }
  | 7 => { c with ports := putRec c.ports (u r 0 1) (PortRec.parse r) }
  | 8 => { c with brace := putRec c.brace (u r 0 1) ⟨u r 1 1, u r 2 1⟩ }
  | 9 => { c with irq := putRec c.irq (u r 0 1) ⟨u r 1 1, u r 2 2, bit (u r 4 1) 0⟩ }
  | 10 => if i = 0 then { c with span := some (u r 0 1, u r 1 1, u r 2 1, u r 4 2) } else { c with ring := c.ring ++ [Hop.parse r] }
  | 11 => { c with reaction := putRec c.reaction (u r 0 2) (u r 2 1) }
  | 12 => { c with power := some ⟨u r 0 2, u r 2 1, u r 4 2, u r 6 2⟩ }
  | 13 => if i = 0 then { c with tableBase := u r 0 8, dumpBase := u r 8 8 }
          else { c with grants := c.grants ++ [⟨u r 0 8, u r 8 4, u r 12 1⟩] }
  | 14 => { c with regions := c.regions.filter (fun g => (RegionRec.parse r).all (fun n => n.ch ≠ g.ch ∨ n.index ≠ g.index)) ++
              RegionRec.parse r }
  | 15 => { c with pages := c.pages.filter (fun g => g.page ≠ u r 0 4) ++ [⟨u r 0 4, u r 4 1, u r 5 1⟩] }
  | _ => c

/-- The records of an image with their section index, type and record index, in the order of stage 5. -/
def ImgCtx.allRecs (x : ImgCtx) : List (Nat × Nat × Nat × List Byte) :=
  x.sects.zipIdx.flatMap (fun p => (x.recs p.1).zipIdx.map (fun q => (p.2, p.1.type, q.2, q.1)))

/-- Before any record: what an absent section leaves. -/
def Conf.empty : Conf := ⟨[], [], [], [], [], [], [], [], [], none, [], [], none, 0, 0, [], [], []⟩

/-- A configuration with a list of records merged in. For a reflow, a slice taken out of service leaves the mask of every
kennel that the image does not name (R276), and K, POSITION and the ring map stay (R100). -/
def mergeRecs (base : Conf) (reflow : Bool) (rs : List (Nat × Nat × Nat × List Byte)) : Conf :=
  let c := rs.foldl (fun c p => c.merge1 reflow p.2.1 p.2.2.1 p.2.2.2) base
  if !reflow then c
  else
    let named := (rs.filter (fun p => p.2.1 = 1)).map (fun p => u p.2.2.2 0 1)
    let live := (below 64).foldl (fun m n => if (c.tile n).svc then m + 2 ^ n else m) 0
    { c with
      kennels := c.kennels.map (fun p => if named.contains p.1 then p else (p.1, { p.2 with sliceMask := p.2.sliceMask &&& live })),
      span := match base.span, c.span with
        | some (k, _, p, n), some (_, w, _, _) => some (k, w, p, n)
        | _, o => o,
      ring := base.ring }

/-- The configuration an image gives: its own for a full image, the merged one for a reflow image. -/
def ImgCtx.result (x : ImgCtx) : Conf := mergeRecs (if x.isReflow then x.cur else Conf.empty) x.isReflow x.allRecs

/-! ## Checks on a configuration -/

/-- Kennel `k` owns tile `n` in a configuration. -/
def Conf.owns (c : Conf) (k n : Nat) : Bool := decide ((c.tile n).kennel = k)

/-- The slice mask less the slices out of service. -/
def Conf.liveMask (c : Conf) (k : Nat) : List Nat :=
  (below 64).filter (fun n => bit (c.kennel k).sliceMask n && (c.tile n).svc)

/-- The sentinel check of R81: a hart of the kennel that CORE_EN releases, or 0xFFFF for a kennel without tiles. The harts of
socket 1 are 256 to 511 (R18). -/
def Conf.sentinelOk (c : Conf) (socket k sentinel : Nat) : Bool :=
  if (below 64).any (c.owns k) then
    decide (256 * socket ≤ sentinel) && decide (sentinel < 256 * socket + 256) &&
    (let h := sentinel - 256 * socket
     c.owns k (h / 4) && bit (c.tile (h / 4)).coreEn (h % 4))
  else sentinel == 0xFFFF

/-- The quadrants of R81 that hold a tile of the kennel and no slice of its live mask. -/
def Conf.gaps (c : Conf) (k : Nat) : List Nat :=
  (below 4).filter (fun q => (below 64).any (fun n => quadOf n == q && c.owns k n) && !(c.liveMask k).any (fun n => quadOf n == q))

/-- The quadrant check of R81: no gap but those in `excused`, and no slice in a quadrant without a tile of the kennel. -/
def Conf.quadOk (c : Conf) (k : Nat) (excused : List Nat) : Bool :=
  (c.kennel k).hashMode != 0 ||
  ((c.gaps k).all excused.contains &&
   (c.liveMask k).all (fun n => (below 64).any (fun m => quadOf m == quadOf n && c.owns k m)))

/-- The other checks of R81 on a kennel's record. -/
def Conf.kennelOk (c : Conf) (k : Nat) : Bool :=
  let r := c.kennel k
  decide (r.hashMode ≤ 1) && c.ilv.any (fun v => v.id == r.iset) &&
  (below 64).all (fun n => !bit r.sliceMask n || (c.tile n).svc) &&
  (k != 15 || (r.enabled && r.hashMode == 1 && r.sliceMask != 0 && !(below 64).any (c.owns 15)))

/-- The number of equal parts an interleave set has: a mirrored pair counts once (R83). -/
def IlvRec.parts (v : IlvRec) : Nat := if v.mirrored then v.ways / 2 else v.ways

/-- Two ranges do not overlap. -/
def apart (a n b m : Nat) : Bool := decide (a + n ≤ b) || decide (b + m ≤ a)

/-- R83's checks of an interleave set against the sets before it. -/
def IlvRec.ok (v : IlvRec) (socket : Nat) (prev : List IlvRec) : Bool :=
  decide (v.id ≤ 15) && !prev.any (fun p => p.id == v.id) && decide (v.granule ≤ 1) &&
  v.ways == ones v.mask 16 && [1, 2, 4, 8, 16].contains v.ways &&
  (!v.mirrored || (below 8).all (fun i => bit v.mask (2 * i) == bit v.mask (2 * i + 1))) &&
  v.base % gib == 0 && v.size % (v.ways * gib) == 0 && v.chOffset % gib == 0 &&
  decide (socket * dramWindow ≤ v.base) && decide (v.base + v.size ≤ (socket + 1) * dramWindow) &&
  prev.all (fun p => apart p.base p.size v.base v.size &&
    ((below 16).all (fun m => !(bit p.mask m && bit v.mask m)) ||
     apart p.chOffset (p.size / p.parts) v.chOffset (v.size / v.parts)))

/-- The highest rate of a mode and number of DIMMs per channel (R84, R333). -/
def rateLimit (mode dpc : Nat) : Option Nat :=
  match mode, dpc with
  | 1, 1 => some 7200 | 2, 1 => some 12800 | 2, 2 => some 8800 | _, _ => none

/-- R84's checks of a channel. -/
def ChanRec.ok (r : ChanRec) (c : Conf) (m : Nat) : Bool :=
  decide (r.mode ≤ 2) &&
  (if r.mode = 0 then !c.ilv.any (fun v => bit v.mask m)
   else decide (r.dpc = 1 ∨ r.dpc = 2) && (rateLimit r.mode r.dpc).any (fun l => decide (r.rate ≤ l)) &&
     decide (r.wqLo < r.wqHi) && decide (r.wqHi ≤ 192) && decide (50 ≤ r.ageCap) && decide (r.ageCap ≤ 200))

/-- The socket's memory grains per span (R86). -/
def Conf.grains (c : Conf) : Nat :=
  let k := match c.span with | some (k, _) => k | none => 1
  c.chans.foldl (fun n p => if p.2.mode = 0 then n else n + p.2.rate * 2 ^ k * 125 / 256) 0

/-- The kennels' memory grains do not exceed the socket's (R86). -/
def Conf.qosSumOk (c : Conf) : Bool :=
  decide (c.qos.foldl (fun n p => if (c.kennel p.1).enabled then n + p.2.mem else n) 0 ≤ c.grains)

/-- R86's checks of one kennel's budgets. -/
def Conf.qosOk (c : Conf) (k : Nat) : Bool :=
  decide ((c.qosOf k).quota ≤ 24576 * ones (c.kennel k).sliceMask 64) && (!(c.kennel k).enabled || (c.qosOf k).inj != 0)

/-- The number of links a bifurcation makes (R87). -/
def linksOf (bifurc : Nat) : Nat := match bifurc with | 0 => 1 | 1 => 2 | 2 => 3 | _ => 4

/-- R87's checks of a port, but for the lane sum. -/
def Conf.portOk (c : Conf) (p : Nat) : Bool :=
  let r := c.port p
  decide (r.role ≤ 3) && decide (r.bifurc ≤ 3) && decide (1 ≤ r.maxGen) && decide (r.maxGen ≤ 6) &&
  (r.role != 3 || ((p == 0 || p == 4) && r.bifurc == 0)) &&
  r.kennels.zipIdx.all (fun q =>
    if r.role ≠ 0 ∧ q.2 < linksOf r.bifurc then decide (q.1 ≤ 15) && (c.kennel q.1).enabled else q.1 == 0xFF)

/-- The lanes of CXL ports on an I/O die total no more than 32 (R87). -/
def Conf.cxlLanesOk (c : Conf) : Bool :=
  (below 2).all (fun die => decide (16 * (c.ports.filter (fun p => p.1 / 4 = die ∧ p.2.role = 2)).length ≤ 32))

/-- The sources of the enabled kennels fit the ICN (R89). -/
def Conf.irqSumOk (c : Conf) : Bool :=
  decide (c.irq.foldl (fun n p => if (c.kennel p.1).enabled then n + p.2.sources else n) 0 ≤ 32768)

/-- A range lies wholly in the union of ranges, each given as base and length. -/
def covered : Nat → Nat → Nat → List (Nat × Nat) → Bool
  | 0, a, e, _ => decide (e ≤ a)
  | fuel + 1, a, e, l =>
    decide (e ≤ a) ||
    (match l.find? (fun p => decide (p.1 ≤ a) && decide (a < p.1 + p.2)) with
     | some p => covered fuel (p.1 + p.2) e l
     | none => false)

/-- The end of the highest interleave set (R93). -/
def Conf.topOf (c : Conf) (socket : Nat) : Nat := c.ilv.foldl (fun t v => max t (v.base + v.size)) (socket * dramWindow)

/-- The pages the owner table covers (R93, R382). -/
def Conf.tablePages (c : Conf) (socket : Nat) : Nat := (c.topOf socket - socket * dramWindow) / 4096

/-- R93's checks of record 0. -/
def Conf.ownPlaceOk (c : Conf) (socket : Nat) : Bool :=
  let n := c.tablePages socket
  let plat := (c.grants.filter (fun g => nget g.owner 3 4 == 15 && !bit g.owner 7 && bit g.owner 0 && !bit g.owner 2)).map
    (fun g => (g.base, g.pages * 4096))
  c.tableBase % 2 ^ 21 == 0 && c.dumpBase % 2 ^ 26 == 0 && apart c.tableBase n c.dumpBase (2 ^ 26) &&
  covered plat.length c.tableBase (c.tableBase + n) plat && covered plat.length c.dumpBase (c.dumpBase + 2 ^ 26) plat

/-- R93's checks of a grant against the grants before it. -/
def Grant.ok (g : Grant) (c : Conf) (prev : List Grant) : Bool :=
  g.base % 4096 == 0 && decide (1 ≤ g.pages) && bit g.owner 0 && !bit g.owner 2 && (c.kennel (nget g.owner 3 4)).enabled &&
  prev.all (fun p => apart p.base (p.pages * 4096) g.base (g.pages * 4096)) &&
  covered c.ilv.length g.base (g.base + g.pages * 4096) (c.ilv.map (fun v => (v.base, v.size)))

/-- A register page that PAGEOWN may name (R94): in a TILE, MC, IOP, BRC, ICN or RTV window and no tile station page. -/
def pageOwnable (page : Nat) : Bool :=
  let o := page * 4096
  (decide (0x1000000 ≤ o) && decide (o < 0x1400000) && o % 0x10000 != 0) ||
  (decide (0x2000000 ≤ o) && decide (o < 0x2100000)) || (decide (0x3000000 ≤ o) && decide (o < 0x3200000)) ||
  (decide (0x3800000 ≤ o) && decide (o < 0x3830000)) || (decide (0x100000 ≤ o) && decide (o < 0x200000)) ||
  (decide (0x4000000 ≤ o) && decide (o < 0x4210000))

/-- The owner of a PAGEOWN record is usable (R94). -/
def Conf.pageOwnerOk (c : Conf) (p : PageRec) : Bool :=
  p.owner == 0xFF || (decide (p.owner ≤ 15) && (c.kennel p.owner).enabled && p.worlds % 4 != 0)

/-- The records of one type before record `i`. -/
def keysBefore (rs : List (List Byte)) (i o n : Nat) : List Nat := (rs.take i).map (fun r => u r o n)

/-- A record's key: its index in a full image, any key below `n` used once in a reflow image. -/
def keyOk (reflow : Bool) (rs : List (List Byte)) (i n : Nat) (r : List Byte) : Bool :=
  if reflow then decide (u r 0 1 < n) && !(keysBefore rs i 0 1).contains (u r 0 1) else u r 0 1 == i

/-- The checks of one record of a section of type `t` (R81 to R94), on the image's configuration `c`. -/
def ImgCtx.recOk (x : ImgCtx) (c : Conf) (t i : Nat) (rs : List (List Byte)) (r : List Byte) : Bool :=
  let f := x.isReflow
  match t with
  | 1 =>
    let k := u r 0 1
    keyOk f rs i 16 r && decide (u r 1 1 < 64) && zeros r 16 32 && c.kennelOk k &&
    (if f then !(x.cur.sentinelOk x.socket k (x.cur.kennel k).sentinel && c.sentinelOk x.socket k (x.cur.kennel k).sentinel) ||
        c.sentinelOk x.socket k (u r 4 2)
     else c.quadOk k [] && c.sentinelOk x.socket k (u r 4 2))
  | 2 =>
    keyOk f rs i 64 r && zeros r 4 8 && decide (u r 1 1 ≤ 14 ∨ u r 1 1 = 0xFF) && decide (u r 2 1 < 16) &&
    ((u r 2 1 == 0) == (u r 1 1 == 0xFF)) && decide (u r 3 1 ≤ 1)
  | 3 => decide (u r 1 1 ≤ 1) && zeros r 6 8 && (IlvRec.parse r).ok x.socket ((rs.take i).map IlvRec.parse)
  | 4 => u r 0 1 == i && zeros r 3 4 && zeros r 13 16 && (ChanRec.parse r).ok c i
  | 5 =>
    decide (u r 0 1 < 80) && decide (u r 1 1 < 80) && u r 0 1 != u r 1 1 && decide (u r 2 1 ≤ 1) &&
    decide (1 ≤ u r 3 1) && decide (u r 3 1 ≤ 3) && zeros r 4 8 &&
    (rs.take i).all (fun p => !(u p 0 1 == u r 0 1 && u p 1 1 == u r 1 1 && (u p 3 1 &&& u r 3 1) != 0))
  | 6 =>
    keyOk true rs i 16 r && zeros r 1 4 && c.qosOk (u r 0 1) &&
    decide (((rs.take (i + 1)).filter (fun p => (c.kennel (u p 0 1)).enabled)).foldl (fun n p => n + u p 4 4) 0 ≤ c.grains)
  | 7 =>
    keyOk true rs i 8 r && zeros r 9 16 && decide (u r 8 1 < 16) && c.portOk (u r 0 1) &&
    (below 2).all (fun die => decide (((rs.take (i + 1)).filter (fun p => u p 0 1 / 4 = die ∧ u p 1 1 = 2)).length ≤ 2))
  | 8 =>
    decide (u r 0 1 ≤ 2) && !(keysBefore rs i 0 1).contains (u r 0 1) && decide (u r 1 1 ≤ 1) && decide (u r 2 1 ≤ 2) && zeros r 3 8 &&
    (i + 1 != rs.length || x.sockets != 2 || rs.any (fun p => u p 1 1 == 1))
  | 9 =>
    u r 0 1 == i && decide (u r 1 1 ≤ 7) && decide (1 ≤ u r 2 2) && decide (u r 2 2 ≤ 4094) && decide (u r 4 1 ≤ 1) && zeros r 5 16 &&
    decide ((((rs.take (i + 1)).zipIdx).filter (fun p => (c.kennel p.2).enabled)).foldl (fun n p => n + u p.1 2 2) 0 ≤ 32768)
  | 10 =>
    if i = 0 then
      zeros r 3 4 && zeros r 6 16 && windowOk (u r 0 1) (u r 1 1) &&
      (if f then u r 4 2 == 0 && u r 2 1 == x.position
       else rs.length == 1 + u r 4 2 &&
         ((u r 4 2 == 0 && u r 2 1 == 0) || (decide (2 ≤ u r 4 2) && decide (u r 4 2 ≤ 256) && decide (u r 2 1 < u r 4 2))))
    else (below 4).all (fun j => decide (u r (4 * j) 4 < 2 ^ 24))
  | 11 => classOk (u r 0 2) (u r 2 1) && !(keysBefore rs i 0 2).contains (u r 0 2) && zeros r 3 4
  | 12 =>
    decide (650 ≤ u r 0 2) && decide (u r 0 2 ≤ 850) && decide (60 ≤ u r 2 1) && decide (u r 2 1 ≤ 125) && zeros r 3 4 &&
    decide (800 ≤ u r 4 2) && decide (u r 4 2 ≤ 3800) && u r 4 2 % 25 == 0 && decide (100 ≤ u r 6 2) && decide (u r 6 2 ≤ 480) &&
    zeros r 8 16
  | 13 =>
    if i = 0 then c.ownPlaceOk x.socket
    else zeros r 13 16 && (⟨u r 0 8, u r 8 4, u r 12 1⟩ : Grant).ok c (c.grants.take (i - 1))
  | 14 =>
    decide (u r 0 1 ≤ 15 ∨ u r 0 1 = 0xFF) && decide (u r 1 1 ≤ 31) && decide (u r 2 1 ≤ 15) && decide (u r 3 1 < 16) &&
    zeros r 4 8 && zeros r 24 32 && decide (u r 8 8 < u r 16 8) && u r 8 8 % 4096 == 0 && u r 16 8 % 4096 == 0 &&
    decide (x.socket * dramWindow ≤ u r 8 8) && decide (u r 16 8 ≤ (x.socket + 1) * dramWindow) &&
    (rs.take i).all (fun p => u p 1 1 != u r 1 1 || (u p 0 1 != 0xFF && u r 0 1 != 0xFF && u p 0 1 != u r 0 1))
  | 15 => pageOwnable (u r 0 4) && zeros r 6 8 && c.pageOwnerOk ⟨u r 0 4, u r 4 1, u r 5 1⟩ && !(keysBefore rs i 0 4).contains (u r 0 4)
  | _ => true

/-- A record of a reflow image changes only what reflow changes (R43, R100, R325). -/
def ImgCtx.fieldOk (x : ImgCtx) (t : Nat) (r : List Byte) : Bool :=
  match t with
  | 1 => u r 3 1 == (x.cur.kennel (u r 0 1)).iset && (!bit (u r 1 1) 0 || (x.cur.kennel (u r 0 1)).enabled)
  | 7 => let p := x.cur.port (u r 0 1); u r 1 1 == p.role && u r 2 1 == p.bifurc && u r 3 1 == p.maxGen
  | 10 => u r 0 1 == x.spnK
  | _ => true

/-- The checks of a full image on the result of a reflow (R81, R86, R87, R89, R93, R94), each as a test of a configuration. -/
def ImgCtx.resultChecks (x : ImgCtx) : List (Conf → Bool) :=
  (below 16).map (fun k c => c.kennelOk k) ++ (below 16).map (fun k c => c.quadOk k (x.cur.gaps k)) ++
  (below 16).map (fun k c => c.sentinelOk x.socket k (c.kennel k).sentinel) ++ (below 16).map (fun k c => c.qosOk k) ++
  [Conf.qosSumOk] ++ (below 8).map (fun p c => c.portOk p) ++ [Conf.cxlLanesOk, Conf.irqSumOk] ++
  [fun c => c.grants.all (fun g => (c.kennel (nget g.owner 3 4)).enabled)] ++
  [fun c => c.pages.all c.pageOwnerOk]

/-- The record that a broken check of the result names (R96): the first whose change takes part in it. -/
def ImgCtx.culprit (x : ImgCtx) (chk : Conf → Bool) : Nat × Nat :=
  let rs := x.allRecs
  match (below rs.length).find? (fun i => chk (mergeRecs x.cur true (rs.eraseIdx i))) with
  | some i => match rs[i]? with | some p => (p.1, p.2.2.1) | none => (0xFF, 0)
  | none =>
    match (below rs.length).find? (fun i => !chk (mergeRecs x.cur true (rs.take (i + 1)))) with
    | some i => match rs[i]? with | some p => (p.1, p.2.2.1) | none => (0xFF, 0)
    | none => (0xFF, 0)

/-- Stage 5: the records in order, then, for a reflow image, its fields and its result (codes 0x10 to 0x1E and 0x21). -/
def ImgCtx.stage5 (x : ImgCtx) : Option (Nat × Nat × Nat) :=
  let c := x.result
  let bad := x.allRecs.find? (fun p =>
    match x.sects[p.1]? with
    | some t => !x.recOk c p.2.1 p.2.2.1 (x.recs t) p.2.2.2
    | none => false)
  match bad with
  | some p => some (0x0F + p.2.1, p.1, p.2.2.1)
  | none =>
    if !x.isReflow then none
    else
      match x.allRecs.find? (fun p => !x.fieldOk p.2.1 p.2.2.2) with
      | some p => some (0x21, p.1, p.2.2.1)
      | none =>
        match x.resultChecks.find? (fun k => !k c) with
        | some k => some (0x21, (x.culprit k).1, (x.culprit k).2)
        | none => none

/-- VERIFY's checks (R96): the first failed check, or the records. -/
def ImgCtx.verify (x : ImgCtx) : Verdict :=
  match x.stage1 with
  | some e => .fail e 0xFF 0
  | none => match x.stage2 with
    | some e => .fail e 0xFF 0
    | none => match x.stage3 with
      | some e => .fail e 0xFF 0
      | none =>
        if x.isReflow ∧ beNat ((x.bytes.drop 48).take 48) ≠ x.digest then .fail 0x20 0xFF 0
        else match x.stage5 with
          | some (e, s, r) => .fail e s r
          | none => .pass x.result

end Sys2Proof.Machine
end

