-- ==== Sys2Proof/Machine/Mc.lean ====
section
/-!
DEFINITION. The memory channels (ch. 9): addresses, queues, window steps, training, error handling, repair, mirroring and the
channel states.
-/
namespace Sys2Proof.Machine

/-! ## Lines of memory -/

/-- The 64 bytes of a line. -/
def Mem.line (m : Mem) (l : Nat) : BitVec 512 := BitVec.ofNat 512 (leNat (m.bytes (64 * l) 64))

/-- The line is held as poison. -/
def Mem.poisoned (m : Mem) (l : Nat) : Bool := m.poison.contains l

/-- The writes that store a line with its poison mark. -/
def lineOps (l : Nat) (data : BitVec 512) (poison : Bool) : List MemOp :=
  storeOps (64 * l) (natLe 64 data.toNat) ++ [.poison l poison]

/-! ## Error logs -/

/-- A log of R206, R261 or R374 takes an event: a corrected one fills it only while VALID is 0 and always counts; an
uncorrectable or poison one replaces a corrected one, and sets OVERFLOW over another such one. `was` says that the log holds
such an event. -/
def Sys.latch (s : Sys) (valid ovf cnt : Fld) (i : Nat) (was isUe countCe : Bool) (fill : Sys → Sys) : Sys :=
  let s := s.when countCe (fun s => s.bump cnt i)
  if isUe then
    if s.on valid i && was then s.put ovf 1 i else fill (s.put valid 1 i)
  else if s.on valid i then s else fill (s.put valid 1 i)

/-! ## Addresses (R335, R336) -/

/-- The folded granule index of R335. -/
def foldU (u : Nat) : Nat := u ^^^ (u >>> 8) ^^^ (u >>> 16) ^^^ (u >>> 24)

/-- The channels of a mask, ascending. -/
def maskBits (m : Nat) : List Nat := (below 16).filter (fun i => bit m i)

/-- The interleave set that holds an address. -/
def Conf.ilvOf (c : Conf) (pa : Nat) : Option IlvRec :=
  c.ilv.find? (fun v => decide (v.base ≤ pa) && decide (pa < v.base + v.size))

/-- The channels whose numbers `w` chooses among: every channel of the mask, or the lower one of each pair. -/
def IlvRec.chans (v : IlvRec) : List Nat :=
  if v.mirrored then (maskBits v.mask).filter (fun m => m % 2 = 0) else maskBits v.mask

/-- The granule in bytes. -/
def IlvRec.granuleBytes (v : IlvRec) : Nat := if v.granule = 0 then 256 else 4096

/-- The channel (the lower one of a mirrored pair) and channel address of an address of the set (R335). -/
def IlvRec.locate (v : IlvRec) (pa : Nat) : Nat × Nat :=
  let o := pa - v.base
  let g := v.granuleBytes
  let u := o / g
  (((v.chans)[foldU u % v.parts]?).getD 0, v.chOffset + (u / v.parts) * g + o % g)

/-- The channel and channel address of an address; none when no set holds it (R335). -/
def Conf.locate (c : Conf) (pa : Nat) : Option (Nat × Nat × Bool) :=
  (c.ilvOf pa).map (fun v => ((v.locate pa).1, (v.locate pa).2, v.mirrored))

/-- The address that a channel address of a channel stands for: R335 read backwards. -/
def Conf.paOf (c : Conf) (m ca : Nat) : Option Nat :=
  (c.ilv.find? (fun v => bit v.mask m && decide (v.chOffset ≤ ca) && decide (ca < v.chOffset + v.size / v.parts))).map
    (fun v =>
      let g := v.granuleBytes
      let hi := (ca - v.chOffset) / g * v.parts
      let w := v.chans.idxOf (if v.mirrored then m - m % 2 else m)
      let low := (w ^^^ ((hi >>> 8) ^^^ (hi >>> 16) ^^^ (hi >>> 24))) % v.parts
      v.base + (hi + low) * g + (ca - v.chOffset) % g)

/-- A channel is in an interleave set. -/
def Conf.inSet (c : Conf) (m : Nat) : Bool := c.ilv.any (fun v => bit v.mask m)

/-- The lines of a channel's DIMMs. -/
def Sys.chanLines (s : Sys) (m : Nat) : Nat :=
  ((below 2).map (fun d => if s.on F.MC_DIMM_CFG_PRESENT m d then s.rf F.MC_DIMM_CFG_CAP_GIB m d else 0)).sum * 2 ^ 24

/-- The logical ranks of a channel: package ranks times 3DS dies, over its DIMMs (R336). -/
def Sys.chanRanks (s : Sys) (m : Nat) : Nat :=
  ((below 2).map (fun d => if s.on F.MC_DIMM_CFG_PRESENT m d then
    (s.rf F.MC_DIMM_CFG_PKG_RANKS m d + 1) * 2 ^ s.rf F.MC_DIMM_CFG_DIES m d else 0)).sum

/-- The smallest power of two that reaches `n`, as its exponent. -/
def log2Up (n : Nat) : Nat := if n ≤ 1 then 0 else Nat.log2 (n - 1) + 1

/-- The DRAM location of a channel address (R336). -/
def Sys.dramLoc (s : Sys) (m ca : Nat) : DramLoc :=
  let r := log2Up (s.chanRanks m)
  let row := (ca >>> (19 + r)) % 2 ^ s.rf F.MC_DIMM_CFG_ROW_BITS m 0
  ⟨nget ca 8 1, nget ca 19 r, nget ca 9 3 ^^^ row % 8, nget ca 17 2 ^^^ (row / 8) % 4, row⟩

/-- The channel address of a line of a row (R336 read backwards). -/
def Sys.dramCa (s : Sys) (m : Nat) (l : DramLoc) (col : Nat) : Nat :=
  let r := log2Up (s.chanRanks m)
  (col % 4) * 64 + l.sub * 256 + (l.bg ^^^ l.row % 8) * 512 + (col / 4) * 4096
    + (l.bank ^^^ (l.row / 8) % 4) * 131072 + l.rank * 524288 + l.row * 2 ^ (19 + r)

/-! ## The channels' own state -/

/-- A controller right after cold reset. -/
def Chan.idle : Chan :=
  ⟨[], [], [], [], [], [], false, [], [0, 0], [], [0, 0], 0, 0, 0, 0, 0, false, 0, [], 0, [], [2 ^ 64 - 1, 2 ^ 64 - 1], [], none, none, .none, 0, false, false,
   (0, 160, 64)⟩

def Sys.chan (s : Sys) (m : Nat) : Chan := Bank.getD s.chans m .idle
def Sys.chanTo (s : Sys) (m : Nat) (c : Chan) : Sys := { s with chans := Bank.set s.chans m c }
def Sys.onChan (s : Sys) (m : Nat) (f : Chan → Chan) : Sys := s.chanTo m (f (s.chan m))

def mcOff : Nat := 0
def mcUntrained : Nat := 1
def mcTraining : Nat := 2
def mcReady : Nat := 3
def mcActive : Nat := 4
def mcFailing : Nat := 5
def mcOffline : Nat := 6
def mcEvacuated : Nat := 7
def mcTrainingE : Nat := 8
def mcResilvering : Nat := 9
def mcSelfRefresh : Nat := 10

def Sys.mcState (s : Sys) (m : Nat) : Nat := s.rf F.MC_STATUS_STATE m
def Sys.mcTo (s : Sys) (m st : Nat) : Sys := s.put F.MC_STATUS_STATE st m
/-- The state of a mirrored pair, on either channel: 0 not mirrored, 1 NORMAL, 2 DEGRADED, 3 RESILVERING (R365). -/
def Sys.pair (s : Sys) (m : Nat) : Nat := s.rf F.MC_STATUS_PAIR m
/-- The other channel of a pair. -/
def partner (m : Nat) : Nat := if m % 2 = 0 then m + 1 else m - 1
def Sys.pairTo (s : Sys) (m p : Nat) : Sys := (s.put F.MC_STATUS_PAIR p m).put F.MC_STATUS_PAIR p (partner m)
def Sys.mcCmdErr (s : Sys) (m : Nat) : Sys := s.put F.MC_CTL_CMD_ERR 1 m

/-- The states in which the channel serves requests: ACTIVE, FAILING (through its partner), EVACUATED and RESILVERING take
requests only as the pair's rules send them (R365, R372). -/
def Sys.mcServes (s : Sys) (m : Nat) : Bool := [mcActive, mcFailing, mcEvacuated, mcResilvering].contains (s.mcState m)

/-- The survivor of a pair that is not NORMAL (R365, R366): the channel in service, or, where neither is, the one that is neither evacuated
nor being resilvered. -/
def Sys.survivor (s : Sys) (m : Nat) : Nat :=
  if s.mcState m = mcActive then m
  else if s.mcState (partner m) = mcActive || [mcEvacuated, mcResilvering].contains (s.mcState m) then partner m
  else m

/-- Where the home agent sends a read of a line (R365): of a mirrored pair, channel 2i + ca[12] while the pair is NORMAL, else
the survivor. -/
def Sys.readChan (s : Sys) (m ca : Nat) (mirrored : Bool) : Nat :=
  if mirrored then
    if s.pair m = 1 then m - m % 2 + nget ca 12 1 else s.survivor m
  else m

/-- Where the home agent sends a write (R365): the pair's lead is 2i while NORMAL or RESILVERING, else the survivor; while
RESILVERING the survivor leads when 2i is the resilvering channel (R369). -/
def Sys.writeChan (s : Sys) (m : Nat) (mirrored : Bool) : Nat :=
  if mirrored then
    if s.pair m = 1 then m - m % 2 else s.survivor m
  else m

/-! ## Queues (R338 to R341) -/

/-- A write batch begins when the queue holds HI entries or more, and ends when it holds LO or fewer (R341). -/
def Chan.batched (c : Chan) : Chan :=
  { c with batch := if c.wm.2.1 ≤ c.writeQ.length then true else c.batch && decide (c.wm.2.2 < c.writeQ.length) }

/-- The channel that performs a request: a FAILING channel passes it to its partner (R366). -/
def Sys.performer (s : Sys) (m : Nat) : Nat := if s.mcState m = mcFailing then partner m else m

/-- A controller takes a write (R338): merged with a queued one or queued; from then on memory holds it. A channel that is
OFFLINE accepts and discards it; one that does not serve answers an error completion and the write is lost (R366, R372). -/
def M.acceptWrite (x : M) (m : Nat) (w : MWr) : M :=
  let x := x.on (fun s => s.onChan m (fun c => { c with mwr := c.mwr.filter (fun v => v ≠ w) }))
  let s := x.sys
  let p := s.performer m
  if s.mcState m = mcOffline || !s.mcServes m then x
  else
    let put := fun (c : Chan) =>
      ({ c with
          writeQ := if c.writeQ.any (fun e => e.1 = w.line) then c.writeQ else c.writeQ ++ [(w.line, w.slice)]
          rewriteQ := c.rewriteQ.filter (fun e => e.1 ≠ w.line) } : Chan).batched
    let s := s.onChan p put
    let s := if s.pair m = 1 && s.mcState (partner p) = mcActive then s.onChan (partner p) put else s
    { x with sys := s }.write (lineOps w.line w.data w.poison)

/-- The line as its channel has it: the newest write not yet accepted, else memory. -/
def M.memLine (x : M) (l : Nat) : BitVec 512 × Bool :=
  match ((below 16).flatMap (fun m => (x.sys.chan m).mwr)).filter (fun w => w.line = l) |>.getLast? with
  | some w => (w.data, w.poison)
  | none => (x.mem.line l, x.mem.poisoned l)

/-- The oldest read sent to a channel enters its queue (R338), is answered from the write queue, or gets the answer of a
channel that is OFFLINE (poison, R366) or does not serve (an error completion, R372). A write of the line that waits ahead of
it is accepted first. -/
def M.mcRead (x : M) (m : Nat) : M :=
  match (x.sys.chan m).fwd with
  | [] => x
  | r :: rest =>
    let x := ((x.sys.chan m).mwr.filter (fun w => w.line = r.line)).foldl (fun x w => x.acceptWrite m w) x
    let s := x.sys.onChan m (fun c => { c with fwd := rest })
    let st := s.mcState m
    let answer := fun (d : MDone) => { x with sys := s.onChan m (fun c => { c with done := c.done ++ [d] }) }
    if st = mcOffline then answer ⟨r.line, r.slice, 0, true, false, false⟩
    else if !s.mcServes m then answer ⟨r.line, r.slice, 0, false, true, false⟩
    else
      let p := s.performer m
      if (s.chan p).writeQ.any (fun e => e.1 = r.line) then
        answer ⟨r.line, r.slice, x.mem.line r.line, x.mem.poisoned r.line, false, false⟩
      else { x with sys := s.onChan p (fun c => { c with readQ := c.readQ ++ [r] }) }

/-! ## Errors (R355 to R361) -/

/-- The MC_ERR_LOG event of a line. -/
def Sys.mcLog (s : Sys) (m ca : Nat) (ue mirrored countCe : Bool) (source device synd : Nat) : Sys :=
  let l := s.dramLoc m ca
  s.latch F.MC_ERR_LOG_VALID F.MC_ERR_LOG_OVERFLOW F.MC_ERR_LOG_CE_COUNT m (s.on F.MC_ERR_LOG_UE m) ue countCe (fun s =>
    ((((((((((((s.put F.MC_ERR_LOG_UE (b2n ue) m).put F.MC_ERR_LOG_MIRRORED (b2n mirrored) m).put F.MC_ERR_LOG_SOURCE source m).put
      F.MC_ERR_LOG_DEVICE device m).put F.MC_ERR_LOG_SYNDROME synd m).put F.MC_ERR_ADDR_ADDR_VALID 1 m).put
      F.MC_ERR_ADDR_SUB l.sub m).put F.MC_ERR_ADDR_RANK l.rank m).put F.MC_ERR_ADDR_BG l.bg m).put
      F.MC_ERR_ADDR_BANK l.bank m).put F.MC_ERR_ADDR_ROW l.row m).put F.MC_ERR_ADDR_LINE (ca / 64) m))

/-- Which source codes MC_ERR_LOG.SOURCE takes. -/
def srcDemand : Nat := 1
def srcScrub : Nat := 2
def srcCopy : Nat := 3
def srcResilver : Nat := 4
def srcLink : Nat := 6

/-- The device marked in a rank of a subchannel, by the marks in force; 15 none. -/
def Chan.mark (c : Chan) (sub rank : Nat) : Nat := nget ((c.marks[sub]?).getD (2 ^ 64 - 1)) (4 * rank) 4

/-- A row becomes a repair candidate (R361): under AUTO a soft repair of it starts once none is in progress; else it is
recorded and reported. -/
def Sys.candidate (s : Sys) (m : Nat) (l : DramLoc) : Sys :=
  if s.on F.MC_PPR_CTL_AUTO m then
    if (s.chan m).repair.isNone then
      ((s.onChan m (fun c => { c with repair := some ⟨l, false, false⟩ })).put F.MC_PPR_STATUS_STEP 0 m).put F.MC_PPR_STATUS_RESULT 1 m
    else s.onChan m (fun c => { c with autoNext := some l })
  else
    ((((((s.put F.MC_PPR_STATUS_CANDIDATE 1 m).put F.MC_PPR_STATUS_CAND_SUB l.sub m).put F.MC_PPR_STATUS_CAND_RANK l.rank m).put
      F.MC_PPR_STATUS_CAND_BG l.bg m).put F.MC_PPR_STATUS_CAND_BANK l.bank m).put F.MC_PPR_STATUS_CAND_ROW l.row m).raise (srcChan m 9)

/-- A row's error count goes up: 64 rows, the least recently updated replaced (R361). -/
def Chan.rowHit (c : Chan) (l : DramLoc) : Nat × Chan :=
  let n := (((c.rows.find? (fun e => e.1 = l)).map (·.2)).getD 0) + 1
  (n, { c with rows := ((l, n) :: c.rows.filter (fun e => e.1 ≠ l)).take 64 })

/-- A correction is attributed to a device (R357): its count goes up, and at DEV_THRESH it is marked, or the rank already
holds a mark. -/
def Sys.deviceHit (s : Sys) (m : Nat) (l : DramLoc) (dev : Nat) : Sys :=
  let c := s.chan m
  let n := Bank.getD c.devCnt (l.sub, l.rank, dev) 0 + 1
  let s := s.chanTo m { c with devCnt := Bank.set c.devCnt (l.sub, l.rank, dev) n }
  if n = s.rf F.MC_CE_THRESH_DEV_THRESH m then
    let mk := nget (s.rf F.MC_DEV_MARK_MARK m l.sub) (4 * l.rank) 4
    if mk = 15 then
      let s := s.wr ⟨.MC_DEV_MARK, m, l.sub⟩ (fput (s.rd ⟨.MC_DEV_MARK, m, l.sub⟩) (4 * l.rank) 4 dev)
      (s.onChan m (fun c => { c with marks := (c.marks.set l.sub (s.rf F.MC_DEV_MARK_MARK m l.sub)) })).raise (srcChan m 3)
    else if mk = dev then s else s.raise (srcChan m 4)
  else s

/-- A line enters the rewrite queue: 16 lines, none twice; a full queue drops it (R358). -/
def Sys.queueRewrite (s : Sys) (m l : Nat) (poison : Bool) : Sys :=
  let c := s.chan m
  if c.rewriteQ.any (fun e => e.1 = l) then s
  else if c.rewriteQ.length < 16 then s.chanTo m { c with rewriteQ := c.rewriteQ ++ [(l, poison)] }
  else s.when (!poison) (fun s => s.bump F.MC_ERR_CNT_REWRITE_DROP m)

/-- What a read of a line's cells returns, and all it records (R358). `pats` says that the cells hold the poison pattern. -/
def Sys.dramResult (s : Sys) (m line ca : Nat) (pats : Bool) (r : DramResult) (source : Nat) : Bool × Sys :=
  let l := s.dramLoc m ca
  let mk := (s.chan m).mark l.sub l.rank
  let uncorrectable := fun (partnerBad : Bool) (synd : Nat) =>
    let s := s.bump F.MC_ERR_CNT_UE m
    let s := s.when (mk != 15) (fun s => s.raise (srcChan m 4))
    let s := s.candidate m l
    if s.pair m = 1 && !partnerBad then
      (false, (((s.mcLog m ca true true false source 15 synd).bump F.MC_ERR_CNT_MIRROR m).queueRewrite m line false).raise (srcChan m 2))
    else (true, ((s.mcLog m ca true false false source 15 synd).queueRewrite m line true).raise (srcChan m 1))
  if pats then (true, s.bump F.MC_ERR_CNT_POISON_READS m)
  else match r with
  | .clean => (false, s)
  | .corrected dev synd =>
    if mk != 15 && mk != dev.val then uncorrectable true synd.toNat
    else
      let s := (s.mcLog m ca false false true source dev synd.toNat).raise (srcChan m 0)
      let s := (s.deviceHit m l dev).queueRewrite m line false
      let (n, c) := (s.chan m).rowHit l
      let s := s.chanTo m c
      (false, s.when (n == s.rf F.MC_CE_THRESH_ROW_THRESH m) (fun s => s.candidate m l))
  | .bad partnerBad synd => uncorrectable partnerBad synd.toNat

/-- The burst of the oldest issued read returns from DRAM, and its answer leaves for the home agent. -/
def M.dramRead (x : M) (m : Nat) (r : DramResult) : M :=
  match (x.sys.chan m).issued with
  | [] => x
  | q :: rest =>
    let (poison, s) := x.sys.dramResult m q.line q.ca (x.mem.poisoned q.line) r srcDemand
    { x with sys := s.onChan m (fun c => { c with
        issued := rest
        done := c.done ++ [⟨q.line, q.slice, x.mem.line q.line, poison, false, true⟩] }) }

/-! ## Command slots (R339 to R342) -/

/-- A queued request of a subchannel: a read by its entry, or a write by its line, with its location. -/
structure SlotReq where
  read : Option MRead
  line : Nat
  loc : DramLoc

/-- The bank of a location within its subchannel. -/
def DramLoc.bankOf (l : DramLoc) : Nat × Nat × Nat := (l.rank, l.bg, l.bank)

/-- Two locations lie in one bank of one subchannel. -/
def DramLoc.sameBank (a b : DramLoc) : Bool := decide (a.sub = b.sub) && decide (a.bankOf = b.bankOf)

/-- The reads of a subchannel, oldest first. -/
def Sys.slotReads (s : Sys) (m sub : Nat) : List SlotReq :=
  ((s.chan m).readQ.map (fun q => (⟨some q, q.line, s.dramLoc m q.ca⟩ : SlotReq))).filter (fun r => r.loc.sub = sub)

/-- The writes of a subchannel, oldest first. -/
def Sys.slotWrites (s : Sys) (m sub : Nat) : List SlotReq :=
  ((s.chan m).writeQ.map (fun e => (⟨none, e.1, s.dramLoc m (((s.conf.locate (64 * e.1)).map (·.2.1)).getD 0)⟩ : SlotReq))).filter
    (fun r => r.loc.sub = sub)

/-- What a request needs next of its bank: its column command, an activate, or that another row be closed. -/
inductive SlotNeed where
  | column | activate | closed
  deriving DecidableEq

/-- The open row of a location's bank. -/
def Chan.openRow (c : Chan) (l : DramLoc) : Option OpenRow := c.rowsOpen.find? (fun (r : OpenRow) => r.loc.sameBank l)

/-- What a request needs next (R339). -/
def Chan.need (c : Chan) (l : DramLoc) : SlotNeed :=
  match c.openRow l with
  | none => .activate
  | some r => if r.loc.row = l.row then .column else .closed

/-- A read is urgent: its counted age has reached half of AGE_CAP × 10 ns (R339, R342). -/
def Sys.urgent (s : Sys) (m : Nat) (r : SlotReq) : Bool :=
  match r.read with
  | some q => decide (5 * (s.chan m).wm.1 * s.rf F.MC_STATUS_RATE_ACT m ≤ 2000 * q.age)
  | none => false

/-- A column command: the read awaits its burst, or the write leaves the queue; the row's run counts while another row is wanted. -/
def Sys.slotColumn (s : Sys) (m : Nat) (r : SlotReq) (wanted : Bool) : Sys :=
  s.onChan m (fun c =>
    let c := { c with rowsOpen := c.rowsOpen.map (fun (o : OpenRow) =>
      if o.loc.sameBank r.loc then { o with quiet := 0, run := if wanted then o.run + 1 else 0 } else o) }
    match r.read with
    | some q => { c with readQ := c.readQ.erase q, issued := c.issued ++ [q] }
    | none => ({ c with writeQ := c.writeQ.filter (fun e => e.1 ≠ r.line) } : Chan).batched)

/-- An activate opens the row of a location. -/
def Sys.slotActivate (s : Sys) (m : Nat) (l : DramLoc) : Sys :=
  s.onChan m (fun c => { c with rowsOpen := c.rowsOpen ++ [⟨l, 0, 0⟩] })

/-- A precharge closes the row of a location's bank. -/
def Sys.slotPrecharge (s : Sys) (m : Nat) (l : DramLoc) : Sys :=
  s.onChan m (fun c => { c with rowsOpen := c.rowsOpen.filter (fun (o : OpenRow) => !o.loc.sameBank l) })

/-- The rotating pick (R340): from the pointer onward, the first (rank, bank group) pair with a request whose activate the timing
allows; within it the oldest. -/
def Sys.slotPick (s : Sys) (m sub : Nat) (cands : List SlotReq) : Option (SlotReq × Nat) :=
  let n := 8 * max 1 (s.chanRanks m)
  let p := ((s.chan m).ptrs[sub]?).getD 0
  ((below n).map (fun i => (p + i) % n)).findSome? (fun i =>
    (cands.find? (fun r => decide (8 * r.loc.rank + r.loc.bg = i))).map (fun r => (r, (i + 1) % n)))

/-- One command slot of a subchannel (R339 to R342). `clocks` are the DRAM clocks of counted age since its last slot; `ready` names
the banks (rank, bank group, bank) whose next command the DDR5 timing allows. -/
def Sys.slot (s : Sys) (m sub clocks : Nat) (ready : List (Nat × Nat × Nat)) : Sys :=
  if s.inWindow || !s.mcServes m then s
  else
    let s := s.onChan m (fun c => { c with
      readQ := c.readQ.map (fun q => if (s.dramLoc m q.ca).sub = sub then { q with age := q.age + clocks } else q)
      rowsOpen := c.rowsOpen.map (fun (o : OpenRow) => if o.loc.sub = sub then { o with quiet := o.quiet + clocks } else o) })
    let c := s.chan m
    let reads := s.slotReads m sub
    let writes := s.slotWrites m sub
    let all := reads ++ writes
    let can := fun (r : SlotReq) => ready.contains r.loc.bankOf
    let wanted := fun (l : DramLoc) => all.any (fun r => r.loc.sameBank l && decide (c.need r.loc = .closed))
    let full := fun (l : DramLoc) => wanted l && ((c.openRow l).map (fun o => decide (4 ≤ o.run))).getD false
    let hit := fun (r : SlotReq) => can r && decide (c.need r.loc = .column) && !full r.loc
    let act := fun (r : SlotReq) => can r && decide (c.need r.loc = .activate)
    let serve := fun (rs : List SlotReq) => match rs.find? hit with
      | some r => some (s.slotColumn m r (wanted r.loc))
      | none => (s.slotPick m sub (rs.filter act)).map (fun e =>
          (s.slotActivate m e.1.loc).onChan m (fun c => { c with ptrs := c.ptrs.set sub e.2 }))
    let urgent := ((reads.filter (s.urgent m)).find? (fun r => can r && (hit r || decide (c.need r.loc ≠ .column)))).map (fun r =>
      match c.need r.loc with
      | .column => s.slotColumn m r (wanted r.loc)
      | .activate => s.slotActivate m r.loc
      | .closed => s.slotPrecharge m r.loc)
    let batch := if c.batch then serve writes else none
    let others := if reads.isEmpty then serve writes else none
    let close := (c.rowsOpen.find? (fun (o : OpenRow) => decide (o.loc.sub = sub) && ready.contains o.loc.bankOf &&
      ((wanted o.loc && (full o.loc || !all.any (fun r => r.loc.sameBank o.loc && decide (c.need r.loc = .column)))) || decide (64 ≤ o.quiet)))).map
        (fun o => s.slotPrecharge m o.loc)
    (((urgent.or batch).or (serve reads)).or (others.or close)).getD s

/-! ## The window (R343 to R346, R351 to R353) -/

/-- The states in which a channel takes the steps of a window. -/
def Sys.mcSteps (s : Sys) (m : Nat) : Bool :=
  [mcReady, mcActive, mcFailing, mcEvacuated, mcResilvering].contains (s.mcState m) && !s.on F.MC_CTL_PWR_OFF m

/-- The largest TRFC1 and TRFCSB of a channel's DIMMs in ns. -/
def Sys.trfc1 (s : Sys) (m : Nat) : Nat := max (s.rf F.MC_DIMM_CFG_TRFC1 m 0) (s.rf F.MC_DIMM_CFG_TRFC1 m 1)
def Sys.trfcsb (s : Sys) (m : Nat) : Nat := max (s.rf F.MC_DIMM_CFG_TRFCSB m 0) (s.rf F.MC_DIMM_CFG_TRFCSB m 1)

/-- The all-bank refreshes a span wants (R49), those that fit in the window, up to 4, and those that remain (R51). -/
def Sys.refreshes (s : Sys) (m : Nat) : Nat × Nat :=
  let n := 2 ^ s.span.k * (if s.on F.MC_STATUS_DOUBLED m then 2 else 1) + (s.chan m).extra
  let room := s.span.window * 25 - 60
  let fit := min 4 (if s.trfc1 m = 0 then 4 else room / s.trfc1 m)
  (min n fit, n - min n fit)

/-- A window-only step of order `o` and duration `ns` starts: the phase is in the window, the order is kept, and it ends no
later than 20 ns before the window's end (R45, R343). A step that repeats keeps its order number open. -/
def Sys.mcStep (s : Sys) (m o ns : Nat) (rep : Bool) (f : Sys → Sys) : Sys :=
  let c := s.chan m
  if s.mcSteps m && s.inWindow && decide (c.stage ≤ o) && decide (c.used + ns + 20 ≤ s.span.window * 25) then
    f (s.chanTo m { c with used := c.used + ns, stage := if rep then o else o + 1 })
  else s

/-- DEBT shows the largest debt (R374). -/
def Sys.showDebt (s : Sys) (m : Nat) : Sys := s.put F.MC_REFRESH_DEBT (min 4095 ((s.chan m).debts.foldl max 0)) m

/-- A same-bank refresh of every rank-pair that is due (R344). -/
def Sys.sameBank (s : Sys) (m : Nat) : Sys :=
  if (s.chan m).debts.any (fun d => decide (624 ≤ d)) then
    s.mcStep m 3 (s.trfcsb m) false (fun s =>
      ((s.onChan m (fun c => { c with debts := c.debts.map (fun d => if 624 ≤ d then d - 624 else d), sbBank := (c.sbBank + 1) % 4 })).bump
        F.MC_REFRESH_SB_ISSUED m).showDebt m)
  else s

/-- A poll's result (R346): the code is stored; the doubled rate begins at the next tick and ends after two normal polls. -/
def Sys.tempResult (s : Sys) (m code : Nat) (doubled hot : Bool) : Sys :=
  let s := s.put F.MC_STATUS_TEMP_CODE code m
  let s := s.onChan m (fun c =>
    if doubled then { c with dblNext := true, normPolls := 0 }
    else { c with normPolls := min 2 (c.normPolls + 1), dblNext := if 2 ≤ c.normPolls + 1 then false else c.dblNext })
  s.when hot (fun s => s.raise (srcChan m 8))

/-- The temperature poll of every 256th span's window (R346). -/
def Sys.tempPoll (s : Sys) (m code : Nat) (doubled hot : Bool) : Sys :=
  if s.spanNo % 256 = 0 then s.mcStep m 4 30 false (fun s => s.tempResult m code doubled hot) else s

/-- The duration of a retraining step in ns (R351). -/
def RtKind.ns : RtKind → Nat
  | .oscStart => 20 | .oscRead => 60 | .zqStart => 10 | .zqLatch => 30 | .center => 120

/-- The oldest due step, and a requested pass ahead of the schedule (R351, R353). -/
def Chan.nextDue (c : Chan) : Option RtDue :=
  ((c.due.filter (·.pass)).head?).or (c.due.foldl (fun b d => match b with
    | none => some d
    | some e => if d.since < e.since then some d else some e) none)

/-- A channel takes part in periodic retraining (R351). -/
def Sys.mcTrains (s : Sys) (m : Nat) : Bool := [mcActive, mcResilvering].contains (s.mcState m)

/-- The oldest due retraining step runs (R351, R352): OSC_START and ZQ_START make their second step due. -/
def Sys.retrainStep (s : Sys) (m : Nat) (fails : Bool) : Sys :=
  match (s.chan m).nextDue with
  | none => s
  | some d =>
    if s.mcTrains m then
      s.mcStep m 5 d.kind.ns false (fun s =>
        let next : List RtDue := match d.kind with
          | .oscStart => [⟨.oscRead, d.rank, s.ticks + 1, d.pass⟩]
          | .zqStart => [⟨.zqLatch, d.rank, s.ticks + 1, d.pass⟩]
          | _ => []
        let s := s.onChan m (fun c => { c with due := (c.due.erase d) ++ next })
        s.when (fails && (d.kind == .oscRead || d.kind == .center)) (fun s =>
          (s.mcLog m 0 true false false srcLink 15 0).raise (srcChan m 5)))
    else s

/-- A step due for 1,024 spans has found no room (R352). -/
def Sys.retrainStarved (s : Sys) (m : Nat) : Sys :=
  if (s.chan m).due.any (fun d => decide (d.since + 1024 ≤ s.ticks)) && !s.on F.MC_STATUS_RETRAIN_STARVED m then
    (s.put F.MC_STATUS_RETRAIN_STARVED 1 m).raise (srcChan m 7)
  else s

/-- The head of the rewrite queue is written (R343, R358). -/
def M.rewriteLine (x : M) (m : Nat) : M :=
  match (x.sys.chan m).rewriteQ with
  | [] => x
  | (l, p) :: rest =>
    let s := x.sys.mcStep m 6 45 true (fun s => s.onChan m (fun c => { c with rewriteQ := rest }))
    let done := decide ((s.chan m).rewriteQ.length < (x.sys.chan m).rewriteQ.length)
    let x := { x with sys := s }
    if done && p then x.write [.poison l true] else x

/-- A repair ends with a result (R363, R364). -/
def Sys.repairEnd (s : Sys) (m result : Nat) : Sys :=
  let next := (s.chan m).autoNext
  let s := s.onChan m (fun c => { c with repair := none, autoNext := none })
  let s := (s.put F.MC_PPR_CTL_GO 0 m).put F.MC_PPR_STATUS_RESULT result m
  match next with
  | none => s
  | some l => s.candidate m l

/-- A successful repair fills the lowest free entry of the log (R374). -/
def Sys.repairLog (s : Sys) (m : Nat) (r : Repair) : Sys :=
  match (below 16).find? (fun i => !s.on F.MC_PPR_LOG_VALID m i) with
  | none => s
  | some i => ((((((s.put F.MC_PPR_LOG_VALID 1 m i).put F.MC_PPR_LOG_HARD (b2n r.hard) m i).put F.MC_PPR_LOG_SUB r.loc.sub m i).put
      F.MC_PPR_LOG_RANK r.loc.rank m i).put F.MC_PPR_LOG_BG r.loc.bg m i).put F.MC_PPR_LOG_BANK r.loc.bank m i).put F.MC_PPR_LOG_ROW r.loc.row m i

/-- The channel is in service for a repair's steps (R362, R363). -/
def Sys.mcInService (s : Sys) (m : Nat) : Bool := [mcActive, mcFailing, mcResilvering].contains (s.mcState m)

/-- One step of a repair (R363): 8 COPY, 1 REPAIR, 8 WRITE. A copied line that is uncorrectable is held as poison, and so is
written back. -/
def M.pprStep (x : M) (m : Nat) (bad : List Nat) (noSpare : Bool) : M :=
  match (x.sys.chan m).repair with
  | none => x
  | some r =>
    let n := x.sys.rf F.MC_PPR_STATUS_STEP m
    let ns := if n = 8 then 140 else 100
    let run := fun (s : Sys) =>
      let s := s.put F.MC_PPR_STATUS_STEP (n + 1) m
      let s := s.when (n == 8 && noSpare) (fun s => s.onChan m (fun c => { c with repair := some { r with noSpare := true } }))
      if n = 16 then
        if r.noSpare then (s.repairEnd m 3).raise (srcChan m 10) else (s.repairLog m r).repairEnd m 2
      else s
    let s := if x.sys.mcInService m then x.sys.mcStep m 7 ns false run else run x.sys
    let went := decide (s.rf F.MC_PPR_STATUS_STEP m = n + 1)
    let lines := bad.filterMap (fun i => (x.sys.conf.paOf m (x.sys.dramCa m r.loc (16 * n + i))).map (· / 64))
    let x := { x with sys := s }
    if went && decide (n < 8) then x.write (lines.map (fun l => .poison l true)) else x

/-- The end of a pair's last set, in channel addresses (R369). -/
def Conf.pairEnd (c : Conf) (m : Nat) : Nat :=
  (c.ilv.filter (fun v => v.mirrored && bit v.mask m)).foldl (fun e v => max e (v.chOffset + v.size / v.parts)) 0

/-- One resilver step (R369): 1 KiB is copied; at the end of the pair's last set the copy has ended. -/
def Sys.resilverStep (s : Sys) (m : Nat) : Sys :=
  if s.mcState m = mcResilvering && (s.chan m).pend = .none then
    s.mcStep m 8 100 true (fun s =>
      let p := s.rf F.MC_RESILVER_POINTER m + 1
      let s := s.put F.MC_RESILVER_POINTER p m
      s.when (decide (s.conf.pairEnd m ≤ p * 1024)) (fun s => s.onChan m (fun c => { c with pend := .resilvered, since := s.ticks })))
  else s

/-- The cost of one scrubbed line in units of the allowance (R360). -/
def Sys.scrubCost (s : Sys) (m : Nat) : Nat := s.rf F.MC_CFG_PATROL_H m * 3600 * 1280000000

/-- One patrol batch (R360): 8 lines at the pointer; a line in the write queue is skipped. -/
def M.scrubBatch (x : M) (m : Nat) (results : List DramResult) : M :=
  let s := x.sys
  let cost := s.scrubCost m
  if decide (0 < cost) && decide (8 * cost ≤ (s.chan m).allowance) then
    let mem := x.mem
    x.on (fun s => s.mcStep m 9 40 true (fun s =>
      let p := s.rf F.MC_SCRUB_POINTER m
      let s := s.onChan m (fun c => { c with allowance := c.allowance - 8 * cost })
      let s := s.each (below 8) (fun s i =>
        match s.conf.paOf m (64 * (p + i)) with
        | none => s
        | some pa =>
          if (s.chan m).writeQ.any (fun e => e.1 = pa / 64) then s
          else (s.dramResult m (pa / 64) (64 * (p + i)) (mem.poisoned (pa / 64)) ((results[i]?).getD .clean) srcScrub).2)
      if s.chanLines m ≤ p + 8 then (s.put F.MC_SCRUB_POINTER 0 m).bump F.MC_SCRUB_PASSES m else s.put F.MC_SCRUB_POINTER (p + 8) m))
  else x

/-- A device reports a command/address parity or write CRC error: the command is retried, up to 8 times (R359). -/
def Sys.linkRetry (s : Sys) (m attempt : Nat) : Sys :=
  if 8 < attempt then (s.mcLog m 0 true false false srcLink 15 0).raise (srcChan m 5) else s

/-! ## Training and commands (R347 to R354, R362, R368 to R374) -/

/-- Training starts (R347, R354). -/
def Sys.mcTrain (s : Sys) (m : Nat) : Sys :=
  let go := fun (s : Sys) (st : Nat) => ((s.mcTo m st).put F.MC_TRAIN_STATUS_PHASE 1 m).put F.MC_TRAIN_STATUS_FAIL_CODE 0 m
  if s.mcState m = mcUntrained then go s mcTraining
  else if s.mcState m = mcEvacuated then go s mcTrainingE
  else s.mcCmdErr m

/-- Training ends (R347, R354, R371). -/
def Sys.mcTrainDone (s : Sys) (m : Nat) (fail : Option TrainFail) (rate timeMs code : Nat) (doubled : Bool) : Sys :=
  let st := s.mcState m
  if st = mcTraining || st = mcTrainingE then
    let s := (s.put F.MC_TRAIN_STATUS_TIME_MS timeMs m)
    match fail with
    | none =>
      let s := ((s.put F.MC_TRAIN_STATUS_PHASE 15 m).put F.MC_STATUS_TRAINED 1 m).put F.MC_STATUS_RATE_ACT (min rate (s.rf F.MC_CFG_RATE m)) m
      let s := s.tempResult m code doubled false
      let s := (s.put F.MC_STATUS_DOUBLED (b2n doubled) m).onChan m (fun c => { c with dblNext := doubled })
      s.mcTo m (if st = mcTraining then mcReady else mcEvacuated)
    | some f =>
      let s := (((s.put F.MC_TRAIN_STATUS_PHASE 0 m).put F.MC_TRAIN_STATUS_FAIL_CODE f.code.toNat m).put
        F.MC_TRAIN_STATUS_SUB f.sub.toNat m).put F.MC_TRAIN_STATUS_RANK f.rank.toNat m
      let s := (s.put F.MC_STATUS_TRAINED 0 m).raise (srcChan m 6)
      s.mcTo m (if st = mcTraining then mcUntrained else mcEvacuated)
  else s

/-- RETRAIN queues a pass of every step for every rank, ahead of the schedule; none while a pass is queued (R353). -/
def Sys.mcRetrain (s : Sys) (m : Nat) : Sys :=
  s.onChan m (fun c => if c.due.any (·.pass) then c else
    { c with due := ((below (s.chanRanks m)).flatMap (fun r =>
        [⟨.oscStart, r, s.ticks, true⟩, ⟨.zqStart, r, s.ticks, true⟩, ⟨.center, r, s.ticks, true⟩])) ++ c.due })

/-- EN: a READY channel enters service (R371). -/
def Sys.mcEnable (s : Sys) (m : Nat) : Sys :=
  if s.mcState m = mcReady then
    if s.conf.inSet m && !(s.chan m).evac then s.mcTo m mcActive else s.mcTo m mcEvacuated
  else s.mcCmdErr m

/-- EVACUATE (R368). -/
def Sys.mcEvacuate (s : Sys) (m : Nat) : Sys :=
  if s.pair m = 1 && s.mcState m = mcActive then s.onChan m (fun c => { c with pend := .evacuate, since := s.ticks })
  else s.mcCmdErr m

/-- RESILVER (R369). -/
def Sys.mcResilver (s : Sys) (m : Nat) : Sys :=
  if s.mcState m = mcEvacuated && s.on F.MC_STATUS_TRAINED m && s.pair m = 2 && s.mcState (partner m) = mcActive then
    ((s.pairTo m 3).mcTo m mcResilvering).put F.MC_RESILVER_POINTER 0 m
  else s.mcCmdErr m

/-- A repair in progress is aborted (R364). -/
def Sys.repairAbort (s : Sys) (m : Nat) : Sys :=
  if (s.chan m).repair.isSome then (s.onChan m (fun c => { c with autoNext := none })).repairEnd m 4 else s

/-- SR: accepted writes complete and the DRAM enters self-refresh (R371, R373). -/
def Sys.mcSr (s : Sys) (m : Nat) : Sys :=
  if [mcActive, mcResilvering, mcEvacuated].contains (s.mcState m) then
    (s.onChan m (fun c => { c with writeQ := [], batch := false, rowsOpen := [] })).mcTo m mcSelfRefresh
  else s.mcCmdErr m

/-- PWR_OFF: accepted in EVACUATED and OFF only (R371, R374). -/
def Sys.mcPwrOff (s : Sys) (m v : Nat) : Sys :=
  if s.rf F.MC_CTL_PWR_OFF m = v then s
  else if v = 0 || s.mcState m = mcEvacuated || s.mcState m = mcOff then s.put F.MC_CTL_PWR_OFF v m
  else s.mcCmdErr m

/-- A write of MC_CTL: each command bit that is 1, then PWR_OFF (R374). -/
def Sys.mcCtlWrite (s : Sys) (m : Nat) (v : Word) : Sys :=
  let on := fun (f : Fld) => fget v f.lo 1 = 1
  let s := s.when (on F.MC_CTL_CMD_ERR) (fun s => s.put F.MC_CTL_CMD_ERR 0 m)
  let s := s.when (on F.MC_CTL_TRAIN) (fun s => s.mcTrain m)
  let s := s.when (on F.MC_CTL_RETRAIN) (fun s => s.mcRetrain m)
  let s := s.when (on F.MC_CTL_EN) (fun s => s.mcEnable m)
  let s := s.when (on F.MC_CTL_EVACUATE) (fun s => s.mcEvacuate m)
  let s := s.when (on F.MC_CTL_RESILVER) (fun s => s.mcResilver m)
  let s := s.when (on F.MC_CTL_SR) (fun s => s.mcSr m)
  s.mcPwrOff m (fget v F.MC_CTL_PWR_OFF.lo 1)

/-- A write of MC_PPR_CTL (R362, R374): with GO it starts a repair, is refused, or, while one is in progress, is ignored. -/
def Sys.pprCtlWrite (s : Sys) (m : Nat) (v : Word) : Sys :=
  let go := fget v 63 1 = 1
  if go && (s.chan m).repair.isSome then s
  else
    let s := s.wr ⟨.MC_PPR_CTL, m, 0⟩ (fput (accWrite rows_MC_PPR_CTL false (s.rd ⟨.MC_PPR_CTL, m, 0⟩) v) 63 1 0)
    if go then
      let hard := s.on F.MC_PPR_CTL_HARD m
      let st := s.mcState m
      let ok := if hard then st = mcEvacuated || st = mcReady || st = mcUntrained else st = mcActive || st = mcResilvering || st = mcEvacuated
      if ok then
        ((s.onChan m (fun c => { c with repair := some ⟨⟨s.rf F.MC_PPR_CTL_SUB m, s.rf F.MC_PPR_CTL_RANK m, s.rf F.MC_PPR_CTL_BG m,
            s.rf F.MC_PPR_CTL_BANK m, s.rf F.MC_PPR_CTL_ROW m⟩, hard, false⟩ })).put F.MC_PPR_STATUS_STEP 0 m).put F.MC_PPR_STATUS_RESULT 1 m
          |>.put F.MC_PPR_CTL_GO 1 m
      else s.put F.MC_PPR_STATUS_RESULT 5 m
    else s

/-- A write of MC_SPD: ignored while a read is under way; GO starts one (R374). -/
def Sys.spdWrite (s : Sys) (m : Nat) (v : Word) : Sys :=
  if s.on F.MC_SPD_GO m then s else s.wr ⟨.MC_SPD, m, 0⟩ (accWrite rows_MC_SPD false (s.rd ⟨.MC_SPD, m, 0⟩) v)

/-- The SPD read ends (R374). -/
def Sys.spdDone (s : Sys) (m : Nat) (data : Option (BitVec 32)) : Sys :=
  if s.on F.MC_SPD_GO m then
    let s := s.put F.MC_SPD_GO 0 m
    match data with
    | some d => s.put F.MC_SPD_DATA d.toNat m
    | none => s.put F.MC_SPD_ERR 1 m
  else s

/-- A write of MC_WQ_WM (R374). -/
def Sys.wqWrite (s : Sys) (m : Nat) (v : Word) : Sys :=
  let lo := fget v F.MC_WQ_WM_LO.lo 8
  let hi := fget v F.MC_WQ_WM_HI.lo 8
  let cap := fget v F.MC_WQ_WM_AGE_CAP.lo 8
  if lo < hi && decide (hi ≤ 192) && decide (50 ≤ cap) && decide (cap ≤ 200) then
    s.wr ⟨.MC_WQ_WM, m, 0⟩ (accWrite rows_MC_WQ_WM false (s.rd ⟨.MC_WQ_WM, m, 0⟩) v)
  else s.put F.MC_STATUS_CFG_ERR 1 m

/-- A write of MC_RETRAIN_CFG: a zero field is stored as 1 (R374). -/
def Sys.retrainCfgWrite (s : Sys) (m : Nat) (v : Word) : Sys :=
  (s.put F.MC_RETRAIN_CFG_ZQ_PERIOD (max 1 (fget v 16 16)) m).put F.MC_RETRAIN_CFG_RT_PERIOD (max 1 (fget v 0 16)) m

/-- A write of MC_DEV_MARK: values 10 to 14 are stored as 15; the change applies from the next tick (R357, R374). -/
def Sys.devMarkWrite (s : Sys) (m sub : Nat) (v : Word) : Sys :=
  s.wr ⟨.MC_DEV_MARK, m, sub⟩ ((below 16).foldl (fun w r =>
    fput w (4 * r) 4 (if 10 ≤ fget v (4 * r) 4 then 15 else fget v (4 * r) 4)) 0)

/-- A write of MC_CE_THRESH: zero thresholds are stored as 1; a LEAK outside 8 to 31 is taken as the nearer bound (log 20). -/
def Sys.ceThreshWrite (s : Sys) (m : Nat) (v : Word) : Sys :=
  ((s.put F.MC_CE_THRESH_LEAK (min 31 (max 8 (fget v 32 8))) m).put F.MC_CE_THRESH_ROW_THRESH (max 1 (fget v 16 8)) m).put
    F.MC_CE_THRESH_DEV_THRESH (max 1 (fget v 0 16)) m

/-- A write of 1 to MC_ERR_LOG.VALID clears the log (R374). -/
def Sys.mcLogClear (s : Sys) (m : Nat) : Sys :=
  (((s.put F.MC_ERR_LOG_VALID 0 m).put F.MC_ERR_LOG_OVERFLOW 0 m).put F.MC_ERR_LOG_CE_COUNT 0 m).wr ⟨.MC_ERR_ADDR, m, 0⟩ 0

/-! ## Channel faults and mirrored pairs (R366 to R371) -/

/-- A channel is OFFLINE: its contents are lost, its queued reads are answered with poison (R366). -/
def Sys.mcOfflineNow (s : Sys) (m : Nat) : Sys :=
  let s := s.repairAbort m
  (s.onChan m (fun c => { c with
    done := c.done ++ (c.issued ++ c.readQ).map (fun q => ⟨q.line, q.slice, 0, true, false, false⟩)
    readQ := [], issued := [], rowsOpen := [], batch := false, writeQ := [], rewriteQ := [], due := [], pend := .none })).mcTo m mcOffline

/-- A channel takes a fault whose class is C3 or C4 (R366). -/
def Sys.chanFault (s : Sys) (m : Nat) : Sys :=
  let st := s.mcState m
  let p := partner m
  if st = mcActive then
    if s.pair m = 1 && s.mcState p = mcActive then
      let c := s.chan m
      let s := s.repairAbort m
      let s := s.onChan m (fun c => { c with readQ := [], issued := [], since := s.ticks, pend := .none })
      (s.onChan p (fun d => { d with readQ := d.readQ ++ c.issued ++ c.readQ })).mcTo m mcFailing
    else
      let s := s.mcOfflineNow m
      if s.mcState p = mcFailing then s
      else if s.mcState p = mcResilvering then
        ((s.mcTo p mcEvacuated).pairTo m 2).onChan p (fun c => { c with evac := true, pend := .none })
      else s
  else if st = mcEvacuated || st = mcTrainingE then
    (((s.repairAbort m).mcTo m mcEvacuated).put F.MC_STATUS_TRAINED 0 m).put F.MC_STATUS_FAILED 1 m
  else if st = mcResilvering then
    ((((s.repairAbort m).mcTo m mcEvacuated).put F.MC_STATUS_TRAINED 0 m).put F.MC_STATUS_FAILED 1 m).pairTo m 2
      |>.onChan m (fun c => { c with evac := true, pend := .none })
  else s

/-- At the tick after the fault the failing channel leaves service (R366); both are OFFLINE when the partner failed too. -/
def Sys.failoverTick (s : Sys) (m : Nat) : Sys :=
  if s.mcState m = mcFailing && decide ((s.chan m).since < s.ticks) then
    if s.mcState (partner m) = mcActive then
      let s := s.onChan m (fun c => { c with evac := true, batch := false, writeQ := [], rewriteQ := [] })
      (((s.mcTo m mcEvacuated).put F.MC_STATUS_FAILED 1 m).pairTo m 2).raise (srcChan m 11)
    else s.mcOfflineNow m
  else s

/-- At the tick after EVACUATE the channel leaves service (R368). -/
def Sys.evacuateTick (s : Sys) (m : Nat) : Sys :=
  if (s.chan m).pend = .evacuate && decide ((s.chan m).since < s.ticks) && s.mcState m = mcActive && s.pair m = 1 then
    let c := s.chan m
    let s := s.repairAbort m
    let s := s.onChan m (fun c => { c with evac := true, pend := .none, readQ := [], issued := [], batch := false, writeQ := [], rewriteQ := [] })
    ((s.onChan (partner m) (fun d => { d with readQ := d.readQ ++ c.issued ++ c.readQ })).mcTo m mcEvacuated).pairTo m 2
  else s

/-- At the tick after the copy ends the pair is NORMAL and the channel ACTIVE (R369). -/
def Sys.resilverComplete (s : Sys) (m : Nat) : Sys :=
  if (s.chan m).pend = .resilvered && decide ((s.chan m).since < s.ticks) && s.mcState m = mcResilvering then
    ((s.onChan m (fun c => { c with evac := false, pend := .none })).mcTo m mcActive).pairTo m 1
  else s

/-! ## The tick and resets -/

/-- The retraining steps that fall due at a tick (R351). -/
def Sys.retrainDue (s : Sys) (m : Nat) : List RtDue :=
  let t := s.ticks
  let each := fun (k : RtKind) => (below (s.chanRanks m)).map (fun r => (⟨k, r, t, false⟩ : RtDue))
  let c := s.chan m
  let fresh := fun (l : List RtDue) => l.filter (fun d => !c.due.any (fun e => e.kind = d.kind ∧ e.rank = d.rank ∧ !e.pass))
  fresh ((if t % s.rf F.MC_RETRAIN_CFG_RT_PERIOD m = 0 then each .oscStart else [])
    ++ (if t % s.rf F.MC_RETRAIN_CFG_ZQ_PERIOD m = 0 then each .zqStart else [])
    ++ (if t % 4096 = 0 then each .center else []))

/-- A channel at a tick: window entry and its refreshes, debts, retraining, scrub allowance, marks and watermarks (R341 to
R345, R351, R357, R360). -/
def Sys.mcTick (s : Sys) (m : Nat) : Sys :=
  let doubled := (s.chan m).dblNext
  let s := s.put F.MC_STATUS_DOUBLED (b2n doubled) m
  let s := s.onChan m (fun c => { c with
    marks := [s.rf F.MC_DEV_MARK_MARK m 0, s.rf F.MC_DEV_MARK_MARK m 1]
    wm := (s.rf F.MC_WQ_WM_AGE_CAP m, s.rf F.MC_WQ_WM_HI m, s.rf F.MC_WQ_WM_LO m)
    devCnt := if s.ticks % 2 ^ s.rf F.MC_CE_THRESH_LEAK m = 0 then c.devCnt.map (fun e => (e.1, e.2 - 1)) else c.devCnt
    rowsOpen := []
    stage := 3, used := 40, remain := 0 })
  if s.mcSteps m then
    let add := 2 ^ (s.span.k + (if doubled then 3 else 2))
    let s := s.onChan m (fun c => { c with debts := (below 2).map (fun d =>
      if s.on F.MC_DIMM_CFG_PRESENT m d then ((c.debts[d]?).getD 0) + add else 0) })
    let late := decide (2496 ≤ (s.chan m).debts.foldl max 0)
    let (n, e) := s.refreshes m
    let s := s.onChan m (fun c => { c with used := 40 + n * s.trfc1 m, remain := e, extra := 0 })
    let s := s.when late (fun s =>
      (s.onChan m (fun c => { c with extra := 1, debts := c.debts.map (fun d => if 2496 ≤ d then d - 2496 else d) })).bump F.MC_REFRESH_EXTRA m)
    let s := s.showDebt m
    let s := s.when (s.mcTrains m) (fun s => s.onChan m (fun c => { c with due := c.due ++ s.retrainDue m }))
    let cost := s.scrubCost m
    let s := s.when (decide (0 < cost)) (fun s => s.onChan m (fun c => { c with allowance := c.allowance + s.chanLines m * s.spanS }))
    s.when (decide (0 < cost) && decide (65536 * cost < (s.chan m).allowance)) (fun s => s.put F.MC_STATUS_SCRUB_LATE 1 m)
  else s

/-- A refresh at an instant of R51: the phase goes on to tick + W + i × (S − W) / (e + 1). -/
def Sys.overRefresh (s : Sys) (m i : Nat) : Sys :=
  let e := (s.chan m).remain
  if s.mcSteps m && decide (1 ≤ i) && decide (i ≤ e) then
    ((s.toPhase (s.windowLen + i * (s.spanS - s.windowLen) / (e + 1))).overrun true).onChan m (fun c => { c with rowsOpen := [] })
  else s

/-- A channel after a cold or warm reset (R350, R370, R371): its queues are empty; after warm reset a RESILVERING pair is
DEGRADED and the pair state is kept. -/
def Sys.mcReset (s : Sys) (m : Nat) (cold : Bool) : Sys :=
  let st := s.mcState m
  let c := s.chan m
  let held := !cold && [mcReady, mcActive, mcFailing, mcEvacuated, mcResilvering, mcSelfRefresh, mcTrainingE].contains st
  let pairSt := if cold then 0 else if s.pair m = 3 then 2 else s.pair m
  let s := s.chanTo m { Chan.idle with
    evac := !cold && (c.evac || st == mcEvacuated || st == mcResilvering || st == mcTrainingE) && pairSt != 0
    held := held
    devCnt := if cold then [] else c.devCnt
    marks := if cold then Chan.idle.marks else c.marks
    rows := if cold then [] else c.rows }
  s.put F.MC_STATUS_PAIR pairSt m

/-! ## Commands that are not register writes -/

/-- The oldest due same-bank refresh. -/
def execSameBankRefresh (m : Fin 16) (s : State) : Host.Outcome State Fault Refusal := onSys (fun s => s.sameBank m) s
def execTempPoll (m : Fin 16) (code : BitVec 3) (doubled hot : Bool) (s : State) : Host.Outcome State Fault Refusal :=
  onSys (fun s => s.tempPoll m code.toNat doubled hot) s
def execRetrainStep (m : Fin 16) (fails : Bool) (s : State) : Host.Outcome State Fault Refusal := onSys (fun s => s.retrainStep m fails) s
def execRetrainStarved (m : Fin 16) (s : State) : Host.Outcome State Fault Refusal := onSys (fun s => s.retrainStarved m) s
def execRewriteLine (m : Fin 16) (s : State) : Host.Outcome State Fault Refusal := onM (fun x => x.rewriteLine m) s
def execPprStep (m : Fin 16) (bad : List (Fin 16)) (noSpare : Bool) (s : State) : Host.Outcome State Fault Refusal :=
  onM (fun x => x.pprStep m (bad.map (·.val)) noSpare) s
def execResilverStep (m : Fin 16) (s : State) : Host.Outcome State Fault Refusal := onSys (fun s => s.resilverStep m) s
def execScrubBatch (m : Fin 16) (results : List DramResult) (s : State) : Host.Outcome State Fault Refusal :=
  onM (fun x => x.scrubBatch m results) s
def execMcLinkRetry (m : Fin 16) (attempt : Nat) (s : State) : Host.Outcome State Fault Refusal := onSys (fun s => s.linkRetry m attempt) s
def execTrainDone (m : Fin 16) (fail : Option TrainFail) (rate timeMs : BitVec 16) (code : BitVec 3) (doubled : Bool) (s : State) :
    Host.Outcome State Fault Refusal := onSys (fun s => s.mcTrainDone m fail rate.toNat timeMs.toNat code.toNat doubled) s
def execFailoverTick (m : Fin 16) (s : State) : Host.Outcome State Fault Refusal := onSys (fun s => s.failoverTick m) s
def execEvacuateTick (m : Fin 16) (s : State) : Host.Outcome State Fault Refusal := onSys (fun s => s.evacuateTick m) s
def execResilverComplete (m : Fin 16) (s : State) : Host.Outcome State Fault Refusal := onSys (fun s => s.resilverComplete m) s
def execSpdReadDone (m : Fin 16) (data : Option (BitVec 32)) (s : State) : Host.Outcome State Fault Refusal := onSys (fun s => s.spdDone m data) s
def execMcRead (m : Fin 16) (s : State) : Host.Outcome State Fault Refusal := onM (fun x => x.mcRead m) s
def execDramReadResult (m : Fin 16) (result : DramResult) (s : State) : Host.Outcome State Fault Refusal := onM (fun x => x.dramRead m result) s
def execCommandSlot (m : Fin 16) (sub : Fin 2) (clocks : Nat) (ready : List (Fin 64 × Fin 8 × Fin 4)) (s : State) :
    Host.Outcome State Fault Refusal := onSys (fun s => s.slot m sub clocks (ready.map (fun b => (b.1.val, b.2.1.val, b.2.2.val)))) s
def execOverrunRefresh (m : Fin 16) (i : Nat) (s : State) : Host.Outcome State Fault Refusal := onSys (fun s => s.overRefresh m i) s

end Sys2Proof.Machine
end

