-- ==== Sys2Proof/Machine/Mesh.lean ====
section
/-!
DEFINITION. The mesh: the slice hash, the stops with their grain balances, held and retried requests, the ledgers and the
lending pool (ch. 8).
-/
namespace Sys2Proof.Machine

/-! ## Where a line is homed (R292 to R294) -/

/-- XOR of the `w`-bit pieces of an address that begin at the bits of a list. -/
def foldBits (pa w : Nat) (los : List Nat) : Nat := los.foldl (fun x lo => x ^^^ nget pa lo w) 0

/-- The quadrant hash of R293. -/
def hashQuad (pa : Nat) : Nat := foldBits pa 8 [12, 20, 28, 36] ^^^ nget pa 44 8
/-- The slice hash within a quadrant (R293). -/
def hashSlice (pa : Nat) : Nat := foldBits pa 8 [8, 16, 24, 32, 40] ^^^ nget pa 48 4
/-- The socket-wide hash (R294). -/
def hashWide (pa : Nat) : Nat := foldBits pa 12 [8, 20, 32] ^^^ nget pa 44 8

/-- The home slice of an address under a live mask and hash mode (0 quadrant-local, 1 socket-wide). -/
def homeUnder (live : List Nat) (mode pa : Nat) : Option Nat :=
  if mode = 0 then
    let q := (below 4).filter (fun q => live.any (fun n => quadOf n = q))
    let s := live.filter (fun n => quadOf n = (q[hashQuad pa % q.length]?).getD 0)
    s[hashSlice pa % s.length]?
  else live[hashWide pa % live.length]?

/-- The home slice of an address under a kennel's hash; none when its live mask is empty (R292). -/
def Conf.homeOf (c : Conf) (k pa : Nat) : Option Nat := homeUnder (c.liveMask k) (c.kennel k).hashMode pa

/-! ## The address map (R36) -/

/-- The regions of R36. -/
inductive Region where
  | dram (socket : Nat)
  | cxl (socket : Nat)
  | window (socket : Nat)
  | ecam (socket : Nat)
  | regs (socket : Nat)
  | reserved
  deriving DecidableEq, Repr

/-- The region of a physical address. -/
def regionOf (pa : Nat) : Region :=
  if pa < 0x080000000000 then .dram 0
  else if pa < 0x100000000000 then .dram 1
  else if pa < 0x200000000000 then .cxl 0
  else if pa < 0x300000000000 then .cxl 1
  else if pa < 0xE000000000000 then .reserved
  else if pa < 0xE800000000000 then .window 0
  else if pa < 0xF000000000000 then .window 1
  else if pa < 0xF000080000000 then .ecam 0
  else if pa < 0xF000100000000 then .reserved
  else if pa < 0xF000180000000 then .ecam 1
  else if pa < 0xFF00000000000 then .reserved
  else if pa < 0xFF80000000000 then .regs 0
  else if pa < 0x10000000000000 then .regs 1
  else .reserved

/-- Main memory: cacheable, coherent, walkable (R36). -/
def Region.isMemory : Region → Bool
  | .dram _ => true
  | .cxl _ => true
  | _ => false

/-- The region's socket. -/
def Region.socket : Region → Nat
  | .dram s | .cxl s | .window s | .ecam s | .regs s => s
  | .reserved => 0

/-- The socket has a peer: some Brace link is in the map (R316). -/
def Sys.twoSockets (s : Sys) : Bool := (below 3).any (fun b => s.on F.BRC_STATUS_IN_MAP b)

/-- A hart's access to the address faults by R38: a reserved range, or a socket-1 range in a one-socket system. -/
def Sys.noSuchRange (s : Sys) (pa : Nat) : Bool :=
  match regionOf pa with
  | .reserved => true
  | r => r.socket == 1 && s.socket == 0 && !s.twoSockets

/-- The line belongs to the other socket (R316). -/
def Sys.foreign (s : Sys) (line : Nat) : Bool := (regionOf (64 * line)).socket != s.socket

/-! ## Counted events (R149, R150) -/

def Hart.cold : Hart where
  x := []
  f := []
  v := []
  pc := 0
  priv := 3
  virt := false
  csr := []
  resv := none
  rob := []
  sq := []
  wcb := []
  sfb := []
  side := []
  own := []
  l1i := []
  l1d := []
  l2 := []
  plru := []
  streams := []
  pred := []
  hist := ⟨0, 0, []⟩
  loads := 0
  tlbD := []
  tlbI := []
  tlbL2 := []
  tlbG := []
  wc1 := []
  wcU := []
  slots := []
  fwalk := []
  replay := []
  nextId := 0
  halted := false
  wait := .run
  late := []
  seen := []
  lost := none

def Sys.hart (s : Sys) (h : Nat) : Hart := Bank.getD s.harts h .cold
def Sys.hartTo (s : Sys) (h : Nat) (t : Hart) : Sys := { s with harts := Bank.set s.harts h t }
def Sys.onHart (s : Sys) (h : Nat) (f : Hart → Hart) : Sys := s.hartTo h (f (s.hart h))

/-- The hart's world bit: S (R130). -/
def Sys.worldS (s : Sys) (h : Nat) : Bool := s.on F.tlworld_WORLD h

/-- A standard CSR of a hart; one never written reads 0, except those of R111, R112 and R149 that are fixed. -/
def Hart.csrGet (t : Hart) (n : Nat) : Word := Bank.getD t.csr n 0
def Hart.csrSet (t : Hart) (n : Nat) (v : Word) : Hart := { t with csr := Bank.set t.csr n v }

def csrMcycle : Nat := 0xB00
def csrMinstret : Nat := 0xB02
def csrMip : Nat := 0x344

/-- The Sscofpmf inhibit bit of mhpmevent for the hart's mode: MINH, SINH, UINH, VSINH, VUINH (R149). -/
def Hart.inhibitBit (t : Hart) : Nat :=
  if t.priv = 3 then 62 else if t.virt then (if t.priv = 1 then 59 else 58) else (if t.priv = 1 then 61 else 60)

/-- One counter counts an event: no count in world S unless HPM_S, none while inhibited; an overflow sets OF and pends the
local counter-overflow interrupt, code 13 (R149). -/
def Hart.hpm1 (t : Hart) (code i : Nat) : Hart :=
  let ev := t.csrGet (0x320 + i)
  if fget ev 0 16 = code && fget ev t.inhibitBit 1 = 0 then
    let c := t.csrGet (0xB00 + i)
    let t := t.csrSet (0xB00 + i) (c + 1)
    if c + 1 = 0 && fget ev 63 1 = 0 then (t.csrSet (0x320 + i) (fput ev 63 1 1)).csrSet csrMip (fput (t.csrGet csrMip) 13 1 1) else t
  else t

/-- An event of a hart is counted by every mhpmcounter that selects it (R149). -/
def Sys.hpm (s : Sys) (h code : Nat) : Sys :=
  if s.worldS h && !s.on F.tlworld_HPM_S h then s
  else s.onHart h (fun t => ((List.range 29).map (· + 3)).foldl (fun t i => t.hpm1 code i) t)

/-! ## Stops -/

def Stop.idle : Stop := ⟨[], 0, [], [], [], []⟩
def Sys.stop (s : Sys) (i : Nat) : Stop := Bank.getD s.stops i .idle
def Sys.onStop (s : Sys) (i : Nat) (f : Stop → Stop) : Sys := { s with stops := Bank.set s.stops i (f (s.stop i)) }

/-- The stop a requester injects at (R20). -/
def Source.stop : Source → Nat
  | .core h => h / 4
  | .engine e => if e < 4 then 64 + 2 * e else 72 + 2 * (e - 4)
  | .derrum _ => 64
  | .port p _ => if p < 4 then 65 + 2 * p else 73 + 2 * (p - 4)
  | .peer _ => 72

/-- The memory and injection grains a request is charged (R320). -/
def Req.charge (r : Req) : Nat × Nat :=
  let tile := match r.who with | .core _ => true | _ => false
  let c := match r.kind with
    | .rdShared | .rdOwn | .rdSpec | .pfRd | .pfWr | .ncRd | .devRd => (1, 1)
    | .offer => if r.dirty || r.poison then (1, 1) else (0, 1)
    | .cmoClean | .cmoFlush => if r.dirty then (1, 1) else (0, 0)
    | .ncWr | .ncAmo | .ncSc | .devWr => (1, 1)
    | .upgrade | .ownZero | .bind | .cleanDrop | .cmoCheck | .cmoInval | .ncLr => (0, 0)
  match r.who with
  | .peer _ => (0, 0)
  | _ => if tile then c else (c.1, 0)

/-- A prefetch, which is dropped where another request is held (R255). -/
def Req.isPrefetch (r : Req) : Bool := r.kind == .pfRd || r.kind == .pfWr

/-- The home slice a request goes to, under its requester's kennel's hash (R292). -/
def Sys.homeFor (s : Sys) (r : Req) : Option Nat := s.conf.homeOf r.kennel (64 * r.line)

/-- Why a stop cannot inject a request now: held for memory grains, injection grains, or a destination in HOLD. -/
inductive HoldWhy where
  | mem | inj | dest
  deriving DecidableEq, Repr

/-- The reason a request is held at its stop (R322, R323, R327). -/
def Sys.holdWhy (s : Sys) (i : Nat) (r : Req) : Option HoldWhy :=
  let t := s.stop i
  if (s.homeFor r).any (fun n => t.notices.contains n) then some .dest
  else if Bank.getD t.mem r.kennel 0 < r.charge.1 then some .mem
  else if i < 64 && decide (t.inj < r.charge.2) then some .inj
  else none

/-- TILE_MS_GRAIN, the HELD bits of SYS_QOS_STATUS and the first hold of the span follow the stops' queues (R330, R331). -/
def Sys.showStop (s : Sys) (i : Nat) : Sys :=
  let t := s.stop i
  let why := t.held.filterMap (fun r => (s.holdWhy i r).map (fun w => (w, r.kennel)))
  let s := s.each ((why.filter (fun w => w.1 = .mem)).map (·.2)) (fun s k =>
    if (Bank.get? s.qosHeld k).isSome then s else { s with qosHeld := Bank.set s.qosHeld k s.phase })
  let heldK := (below 16).filter (fun k => s.stops.any (fun p => p.2.held.any (fun r => r.kennel = k ∧ s.holdWhy p.1 r = some .mem)))
  let s := s.put F.SYS_QOS_STATUS_HELD (heldK.foldl (fun m k => m + 2 ^ k) 0)
  if i < 64 then
    ((((s.put F.TILE_MS_GRAIN_MEM_HELD (b2n (why.any (fun w => w.1 = .mem))) i).put F.TILE_MS_GRAIN_INJ_HELD
      (b2n (why.any (fun w => w.1 = .inj))) i).put F.TILE_MS_GRAIN_DEST_HELD (b2n (why.any (fun w => w.1 = .dest))) i).put
      F.TILE_MS_GRAIN_MEM_LOCAL (Bank.getD t.mem (s.tileKennel i) 0) i).put F.TILE_MS_GRAIN_INJ_LEFT t.inj i
  else s

/-- A request that is not held enters the mesh, and its grains are taken. -/
def Sys.depart (s : Sys) (i : Nat) (r : Req) : Sys :=
  let c := r.charge
  match s.homeFor r with
  | none => s
  | some n =>
    let s := s.onStop i (fun t => { t with mem := Bank.set t.mem r.kennel (Bank.getD t.mem r.kennel 0 - c.1), inj := t.inj - (if i < 64 then c.2 else 0) })
    let s := { s with msgs := s.msgs ++ [Msg.req n r] }
    -- a charge of an engine comes off its channel's credit (R485)
    let s := match r.who with
      | .engine e =>
        let ch := s.rf F.RTV_ENG_STATUS_CHANNEL e
        s.when (decide (ch < 512)) (fun s => s.put F.RTV_CH_STATUS_CREDIT (s.rf F.RTV_CH_STATUS_CREDIT ch - c.1) ch)
      | _ => s
    s.when (decide (Bank.getD (s.stop i).mem r.kennel 0 < 64) && !(s.stop i).asked.contains r.kennel && decide (0 < c.1))
      (fun s => s.onStop i (fun t => { t with asked := r.kennel :: t.asked }))

/-- A hart's register, I/O or configuration request takes one injection grain of its stop (R320, R323); without one it waits. -/
def Sys.injIo (s : Sys) (h : Nat) : Option Sys :=
  if (s.stop (h / 4)).inj = 0 then none else some (s.onStop (h / 4) (fun t => { t with inj := t.inj - 1 }))

/-- A request waits behind its kennel's held requests, in their order (R322). -/
def Stop.behind (t : Stop) (r : Req) : Bool := t.held.any (fun q => q.kennel = r.kennel) && decide (r.charge ≠ (0, 0))

/-- The error completion of a request that has no home slice (R292), or that a home agent refuses. -/
def Req.errorMsg (r : Req) : Msg :=
  match r.who with
  | .core h => .fill ⟨h, r.line, match r.kind with
      | .rdShared => .shared | .rdOwn | .upgrade | .ownZero => .own | .rdSpec => .spec | .bind => .bindData | .pfRd | .pfWr => .pf | _ => .nc,
      0, false, 0, 0, ⟨0, 0, 0⟩, false, 0, 0, true, 0⟩
  | w => .reply w r.line 0 false true

/-- A requester sends a request: it enters the mesh, is held at the stop, is answered with an error completion when it has no
home slice, or, a prefetch, is dropped instead of held (R255, R292, R320, R322). -/
def Sys.send (s : Sys) (r : Req) : Sys :=
  let i := r.who.stop
  if (s.homeFor r).isNone then (if r.isPrefetch then s else { s with msgs := s.msgs ++ [r.errorMsg] })
  else
    match s.holdWhy i r with
    | none => if (s.stop i).behind r then (if r.isPrefetch then s else s.onStop i (fun t => { t with held := t.held ++ [r] }))
      else (s.depart i r).showStop i
    | some w =>
      if r.isPrefetch then s
      else
        let s := s.onStop i (fun t => { t with held := t.held ++ [r], asked := if w = .mem ∧ !t.asked.contains r.kennel then r.kennel :: t.asked else t.asked })
        s.showStop i

/-- The held requests of a stop that can leave now, in their order: one kept back keeps back every later one of its kennel, and one kept
back for memory grains asks for a chunk (R321, R322). -/
def Sys.releaseHeld (s : Sys) (i : Nat) : Sys :=
  let q := (s.stop i).held
  let s := s.onStop i (fun t => { t with held := [] })
  (s.each q (fun s r =>
    if (s.holdWhy i r).isSome || (s.stop i).behind r then
      let ask := decide (s.holdWhy i r = some .mem) && !(s.stop i).asked.contains r.kennel
      s.onStop i (fun t => { t with held := t.held ++ [r], asked := if ask then r.kennel :: t.asked else t.asked })
    else if (s.homeFor r).isNone then { s with msgs := s.msgs ++ [r.errorMsg] }
    else s.depart i r)).showStop i

/-- A kennel's held requests are discarded (R322, R378). -/
def Sys.dropHeld (s : Sys) (k : Nat) : Sys :=
  s.each (s.stops.map (·.1)) (fun s i =>
    (s.onStop i (fun t => { t with held := t.held.filter (fun r => r.kennel ≠ k) })).showStop i)

/-- A memory grain is given back: to the local balance up to 255, else to the ledger (R321). -/
def Sys.refund (s : Sys) (who : Source) (k : Nat) : Sys :=
  let i := who.stop
  let b := Bank.getD (s.stop i).mem k 0
  if b < 255 then s.onStop i (fun t => { t with mem := Bank.set t.mem k (b + 1) })
  else s.put F.SYS_QOS_LEDGER_BALANCE (s.rf F.SYS_QOS_LEDGER_BALANCE k + 1) k

/-! ## Ledgers and the pool (R321 to R325) -/

/-- The ledger, or for a lending kennel with an empty ledger the pool, grants a chunk (R321, R324). -/
def Sys.chunkRequest (s : Sys) (i k : Nat) : Sys :=
  if (s.stop i).asked.contains k then
    let b := s.rf F.SYS_QOS_LEDGER_BALANCE k
    let lend := (s.conf.kennel k).lend && (s.conf.kennel k).enabled
    let pool := s.rf F.SYS_QOS_POOL_POOL
    let grant := fun (s : Sys) (g : Nat) =>
      { (s.onStop i (fun t => { t with asked := t.asked.erase k })) with msgs := s.msgs ++ [.chunk i k g s.ticks] }
    if 0 < b then
      let g := min 128 b
      grant ((s.put F.SYS_QOS_LEDGER_BALANCE (b - g) k).put F.SYS_QOS_LEDGER_GRANTED (s.rf F.SYS_QOS_LEDGER_GRANTED k + g) k) g
    else if lend && decide (0 < pool) then
      let g := min 128 pool
      grant ((s.put F.SYS_QOS_POOL_POOL (pool - g)).put F.SYS_QOS_LEND_BORROWED (s.rf F.SYS_QOS_LEND_BORROWED k + g) k) g
    else s
  else s

/-- The messages a command delivers: a request of a kind for a line to a slice; a snoop; one of any kind from a slice; an answer to a slice; a
RETRY, a RETRY_DEST and a hold notice from a slice to a stop; a chunk; a reply; and a register-space or configuration access. -/
def Msg.isReq (n : Nat) (k : ReqKind) (l : Nat) (w : Source) (m : Msg) : Bool :=
  match m with | .req n' r => n' == n && r.kind == k && r.line == l && r.who == w | _ => false
def Msg.isSnoop (k : Snoop) (h : Holder) (l : Nat) (m : Msg) : Bool := match m with | .snoop _ k' l' h' => k' == k && l' == l && h' == h | _ => false
def Msg.isSnoopOf (n : Nat) (h : Holder) (l : Nat) (m : Msg) : Bool := match m with | .snoop n' _ l' h' => n' == n && l' == l && h' == h | _ => false
def Msg.isAck (n : Nat) (h : Holder) (l : Nat) (sel : Answer → Bool) (m : Msg) : Bool :=
  match m with | .ack n' l' h' a => n' == n && l' == l && h' == h && sel a | _ => false
def Msg.isRetry (n i : Nat) (m : Msg) : Bool := match m with | .retry n' r => n' == n && r.who.stop == i | _ => false
def Msg.isRetryDest (n i : Nat) (m : Msg) : Bool := match m with | .retryDest n' r => n' == n && r.who.stop == i | _ => false
def Msg.isNotice (n i : Nat) (m : Msg) : Bool := match m with | .holdNotice n' i' => n' == n && i' == i | _ => false
def Msg.isChunk (i k : Nat) (m : Msg) : Bool := match m with | .chunk i' k' _ _ => i' == i && k' == k | _ => false
def Msg.isReply (w : Source) (l : Nat) (m : Msg) : Bool := match m with | .reply d k _ _ _ => d == w && k == l | _ => false
def Msg.isIo (w : Source) (wr : Bool) (pa : Nat) (m : Msg) : Bool := match m with | .io w' _ _ wr' a _ _ _ => w' == w && wr' == wr && a == pa | _ => false

/-- The first message a test picks, and the rest. -/
def takeMsg (p : Msg → Bool) : List Msg → Option (Msg × List Msg)
  | [] => none
  | m :: l => if p m then some (m, l) else (takeMsg p l).map (fun r => (r.1, m :: r.2))

/-- A chunk reaches its stop (R321): one granted before the last tick is discarded and asked for again. -/
def Sys.chunkGrant (s : Sys) (i k : Nat) : Sys :=
  match takeMsg (Msg.isChunk i k) s.msgs with
  | some (.chunk _ _ g t, rest) =>
    let s := { s with msgs := rest }
    if t = s.ticks then
      let b := Bank.getD (s.stop i).mem k 0
      let s := s.onStop i (fun t => { t with mem := Bank.set t.mem k (min 255 (b + g)) })
      let s := s.when (decide (255 < b + g)) (fun s => s.put F.SYS_QOS_LEDGER_BALANCE (s.rf F.SYS_QOS_LEDGER_BALANCE k + (b + g - 255)) k)
      s.releaseHeld i
    else s.onStop i (fun t => { t with asked := k :: t.asked.erase k })
  | _ => s

/-- The kennels enabled. -/
def Sys.enabledKennels (s : Sys) : List Nat := (below 16).filter (fun k => (s.conf.kennel k).enabled)

/-- At phase S/2 each lending kennel gives the pool max(0, B − G) (R324). -/
def Sys.lend (s : Sys) : Sys :=
  if s.phase ≤ s.spanS / 2 then
    (s.toPhase (s.spanS / 2)).each (s.enabledKennels.filter (fun k => (s.conf.kennel k).lend)) (fun s k =>
      let g := s.rf F.SYS_QOS_LEDGER_BALANCE k - s.rf F.SYS_QOS_LEDGER_GRANTED k
      ((s.put F.SYS_QOS_LEDGER_BALANCE (s.rf F.SYS_QOS_LEDGER_BALANCE k - g) k).put F.SYS_QOS_LEND_LENT g k).put
        F.SYS_QOS_POOL_POOL (s.rf F.SYS_QOS_POOL_POOL + g))
  else s

/-- The tiles of a kennel, ascending. -/
def Sys.kennelTiles (s : Sys) (k : Nat) : List Nat := (below 64).filter (fun n => (s.conf.tile n).kennel = k)

/-- The injection grains of a tile for a span (R323). -/
def Sys.injShare (s : Sys) (n : Nat) : Nat :=
  let k := s.tileKennel n
  let ts := s.kennelTiles k
  let g := (s.conf.qosOf k).inj
  if ts.length = 0 then 0 else g / ts.length + (if ts.idxOf n < g % ts.length then 1 else 0)

/-- The tick of the grain budgets (R321, R323, R324, R330). -/
def Sys.qosTick (s : Sys) : Sys :=
  let heldNow := s.qosHeld
  let s := s.put F.SYS_QOS_STATUS_HELD_LAST ((below 16).foldl (fun m k => if (Bank.get? heldNow k).isSome then m + 2 ^ k else m) 0)
  let s := s.each (below 16) (fun s k =>
    match Bank.get? heldNow k with
    | some p => (s.put F.SYS_QOS_HOLDCNT_FIRST_PHASE p k).bump F.SYS_QOS_HOLDCNT_SPANS_HELD k
    | none => s.put F.SYS_QOS_HOLDCNT_FIRST_PHASE 0x3FFFF k)
  let s := { s with qosHeld := [] }
  let on := s.enabledKennels
  let s := s.each (below 16) (fun s k =>
    (((s.put F.SYS_QOS_LEDGER_BALANCE (if on.contains k then (s.conf.qosOf k).mem else 0) k).put F.SYS_QOS_LEDGER_GRANTED 0 k).put
      F.SYS_QOS_LEND_LENT 0 k).put F.SYS_QOS_LEND_BORROWED 0 k)
  let un := s.conf.grains - (on.map (fun k => (s.conf.qosOf k).mem)).sum
  let s := (s.put F.SYS_QOS_POOL_UNASSIGNED un).put F.SYS_QOS_POOL_POOL un
  let s := s.each (below 80) (fun s i =>
    if i < 64 || (Bank.get? s.stops i).isSome then
      s.onStop i (fun t => { t with mem := [], inj := if i < 64 then s.injShare i else 0 })
    else s)
  s.each (s.stops.map (·.1)) (fun s i => s.releaseHeld i)

/-! ## RETRY, GO and HOLD (R307, R327) -/

/-- A requester's stop receives RETRY (R307). -/
def Sys.retryMsg (s : Sys) (n i : Nat) : Sys :=
  match takeMsg (Msg.isRetry n i) s.msgs with
  | some (.retry _ r, rest) =>
    let s := { s with msgs := rest }
    let s := s.onStop i (fun t => { t with retried := t.retried ++ [(n, r)] })
    s.when (decide (i < 64)) (fun s => s.bump F.TILE_MS_RETRY_RETRIES i)
  | _ => s

/-- A request reached a slice in HOLD and its stop queues it again (R327); it is not charged again. -/
def Sys.retryDest (s : Sys) (n i : Nat) : Sys :=
  match takeMsg (Msg.isRetryDest n i) s.msgs with
  | some (.retryDest _ r, rest) =>
    let s := { s with msgs := rest }
    let s := s.onStop i (fun t => { t with held := t.held ++ [r]
                                           mem := Bank.set t.mem r.kennel (Bank.getD t.mem r.kennel 0 + r.charge.1)
                                           inj := t.inj + (if i < 64 then r.charge.2 else 0) })
    (s.when (decide (i < 64)) (fun s => s.bump F.TILE_MS_RETRY_DEST_RETRIES i)).showStop i
  | _ => s

/-- A stop learns that a slice is in HOLD (R327). -/
def Sys.holdNotice (s : Sys) (n i : Nat) : Sys :=
  match takeMsg (Msg.isNotice n i) s.msgs with
  | some (_, rest) => (({ s with msgs := rest } : Sys).onStop i (fun t => { t with notices := n :: t.notices.erase n })).showStop i
  | none => s

/-- The port that a mesh link replay is recorded for: north, east, south, west (R289). Sixteen failed replays in a row bring
the link down. -/
def Sys.meshReplay (s : Sys) (n dir run : Nat) : Sys :=
  let f := match dir with
    | 0 => F.TILE_MS_LINKERR_NORTH | 1 => F.TILE_MS_LINKERR_EAST | 2 => F.TILE_MS_LINKERR_SOUTH | _ => F.TILE_MS_LINKERR_WEST
  let s := (s.bump f n).raise (srcTile n 8)
  s.when (decide (16 ≤ run)) (fun s => s.raise (srcTile n 9))

def execMeshReplay (n : Fin 64) (dir : Fin 4) (run : Nat) (s : State) : Host.Outcome State Fault Refusal := onSys (fun s => s.meshReplay n dir run) s
def execRetry (n : Fin 64) (stop : Fin 80) (s : State) : Host.Outcome State Fault Refusal := onSys (fun s => s.retryMsg n stop) s
def execRetryDest (n : Fin 64) (stop : Fin 80) (s : State) : Host.Outcome State Fault Refusal := onSys (fun s => s.retryDest n stop) s
def execHoldNotice (n : Fin 64) (stop : Fin 80) (s : State) : Host.Outcome State Fault Refusal := onSys (fun s => s.holdNotice n stop) s
def execGrainChunkRequest (stop : Fin 80) (kennel : Fin 16) (s : State) : Host.Outcome State Fault Refusal := onSys (fun s => s.chunkRequest stop kennel) s
def execLendInstant (s : State) : Host.Outcome State Fault Refusal := onSys Sys.lend s

end Sys2Proof.Machine
end

