-- ==== Sys2Proof/Machine/Hart.lean ====
section
/-!
DEFINITION. A compute core's private structures: caches, fill and side buffers, write-combining buffers, snoops, squashes and
flushes (ch. 5, 7).
-/
namespace Sys2Proof.Machine

/-! ## Tree pseudo-LRU -/

/-- The way a tree of `2 ^ d` ways points at: at each node, bit 0 leads to the lower half. -/
def plruVictim (bits : Nat) : Nat → Nat → Nat
  | 0, node => node
  | d + 1, node => plruVictim bits d (2 * node + b2n (bit bits node))

/-- The tree after way `w` of `2 ^ d` was used: every node on its path points away from it. -/
def plruTouch (bits w : Nat) : Nat → Nat
  | 0 => bits
  | d + 1 =>
    let b := plruTouch bits (w / 2) d
    let i := (2 ^ (d + 1) + w) / 2
    if w % 2 = 0 then b ||| 2 ^ i else b - (b &&& 2 ^ i)

/-- The victim way of 16. -/
def victim16 (bits : Nat) : Nat := plruVictim bits 4 1 - 16
/-- The victim way of 8. -/
def victim8 (bits : Nat) : Nat := plruVictim bits 3 1 - 8

/-! ## Cache levels -/

/-- The states of a core cache level (R267). -/
def lvOff : Nat := 0
def lvInvalidating : Nat := 1
def lvOn : Nat := 2
def lvDraining : Nat := 3

def Sys.l1iState (s : Sys) (h : Nat) : Nat := s.rf F.TILE_CACHE_CTL_L1I_STATE (h / 4) (h % 4)
def Sys.l1dState (s : Sys) (h : Nat) : Nat := s.rf F.TILE_CACHE_CTL_L1D_STATE (h / 4) (h % 4)
def Sys.l2State (s : Sys) (h : Nat) : Nat := s.rf F.TILE_CACHE_CTL_L2_STATE (h / 4) (h % 4)
/-- L1D serves accesses: ON, or DRAINING for hits (R266). -/
def Sys.l1dOn (s : Sys) (h : Nat) : Bool := s.l1dState h == lvOn

/-- A cached line, if held. -/
def lineIn (l : List CLine) (n : Nat) : Option CLine := l.find? (fun c => c.line = n)
/-- The lines without one. -/
def lineOut (l : List CLine) (n : Nat) : List CLine := l.filter (fun c => c.line ≠ n)
/-- The lines with one changed. -/
def lineMap (l : List CLine) (n : Nat) (f : CLine → CLine) : List CLine := l.map (fun c => if c.line = n then f c else c)

/-- The sets of L1 and L2 (R240). -/
def l1Set (n : Nat) : Nat := n % 64
def l2Set (n : Nat) : Nat := n % 2048

/-- The way a new line takes in its set and the line that leaves it: an invalid way first, else the pseudo-LRU victim. -/
def takeWay (l : List CLine) (inSet : CLine → Bool) (bits : Nat) : Nat × Option CLine :=
  match (below 16).find? (fun w => !l.any (fun c => inSet c && c.way == w)) with
  | some w => (w, none)
  | none => (victim16 bits, l.find? (fun c => inSet c && c.way == victim16 bits))

/-- A use of a line's way in the replacement state of an array (0 L1I, 1 L1D, 2 L2). -/
def Hart.touch (t : Hart) (arr set way : Nat) : Hart :=
  { t with plru := Bank.set t.plru (arr, set) (plruTouch (Bank.getD t.plru (arr, set) 0) way 4) }

/-- A request of a core, with the kennel and world of the hart now (R21). -/
def Sys.coreReq (s : Sys) (h : Nat) (kind : ReqKind) (line : Nat) : Req :=
  { kind := kind, line := line, who := .core h, kennel := s.hartKennel h, secure := s.worldS h }

/-- A core offers an L2 victim to its home slice (R246). -/
def Sys.offerLine (s : Sys) (h : Nat) (c : CLine) : Sys :=
  (s.hpm h 0x16).send { s.coreReq h .offer c.line with data := c.data, dirty := c.st == 3, poison := c.poison, kennel := c.owner % 16 }

/-- An L2 victim leaves (R246). -/
def Sys.evictL2 (s : Sys) (h : Nat) (c : CLine) : Sys :=
  if (lineIn (s.hart h).l1d c.line).isSome then
    s.onHart h (fun t => { t with l1d := if c.st = 3 then lineMap t.l1d c.line (fun d => { d with st := 3 }) else t.l1d })
  else s.offerLine h c

/-- A line is installed in L2 when it is ON; its victim leaves (R244, R246). -/
def Sys.putL2 (s : Sys) (h : Nat) (c : CLine) : Sys :=
  let t := s.hart h
  match lineIn t.l2 c.line with
  | some d => s.hartTo h ({ t with l2 := lineMap t.l2 c.line (fun _ => { c with way := d.way }) }.touch 2 (l2Set c.line) d.way)
  | none =>
    if s.l2State h = lvOn then
      let (w, out) := takeWay t.l2 (fun d => l2Set d.line == l2Set c.line) (Bank.getD t.plru (2, l2Set c.line) 0)
      let l2 := match out with | some d => lineOut t.l2 d.line | none => t.l2
      let s := s.hartTo h ({ t with l2 := { c with way := w } :: l2 }.touch 2 (l2Set c.line) w)
      match out with
      | some d => s.evictL2 h d
      | none => s
    else if c.st = 3 || c.poison then s.offerLine h c
    else s

/-- The unretired loads of a hart whose line is watched and gone are squashed with everything after them; `none` when there is
none (R181, R182). -/
def Uop.isLoad (u : Uop) : Bool := match u.kind with | .load | .lr => true | _ => false
def Uop.isAmo (u : Uop) : Bool := match u.kind with | .amo _ | .lr | .sc => true | _ => false
def Uop.reads (u : Uop) : Bool := match u.kind with | .load | .lr | .amo _ => true | _ => false

/-- The physical byte ranges of an access that are known. -/
def Uop.spans (u : Uop) : List (Nat × Nat) := u.pieces.filterMap (fun p => p.pa.map (fun a => (a, p.n)))
/-- Every piece is translated. -/
def Uop.translated (u : Uop) : Bool := u.pieces.all (fun p => p.pa.isSome)

/-- An access to an I/O region, configuration or register space, or to a page whose PBMT is IO (R185, R198). -/
def Uop.isIo (u : Uop) : Bool := u.translated && u.pieces.any (fun p => !(regionOf (p.pa.getD 0)).isMemory || p.pbmt == 2)

/-- The lines of an access. -/
def spanLines (l : List (Nat × Nat)) : List Nat := (l.flatMap (fun p => [p.1 / 64, (p.1 + p.2 - 1) / 64])).eraseDups
/-- The lines that hold instructions fetched and not retired (R187). -/
def Hart.codeLines (t : Hart) : List Nat :=
  (t.rob.flatMap (fun u => spanLines (u.fetch.filterMap (fun p => p.pa.map (fun a => (a, p.n)))))).eraseDups
/-- The lines of the PTEs that an instruction's walks read. -/
def Uop.walkLines (u : Uop) : List Nat :=
  ((u.pieces ++ u.fetch).flatMap (fun p => (p.walk.map (fun w => w.ptes.map (fun q => q.1 / 64))).getD [])).eraseDups

/-- Two byte ranges overlap. -/
def overlap (a n b m : Nat) : Bool := decide (a < b + m) && decide (b < a + n)

/-- A load at a place of the reorder buffer is monitored: under Ztso when an older load has not read; else when an older load to
overlapping bytes has not read; and when an older fence or .aq access is not complete (R181 to R184). -/
def monitored (ztso : Bool) (older : List Uop) (u : Uop) : Bool :=
  older.any (fun o =>
    (o.reads && !o.done && (ztso || o.spans.any (fun a => u.spans.any (fun b => overlap a.1 a.2 b.1 b.2)))) ||
    (match o.kind with | .fence .. | .fenceTso => !o.done | .amo _ | .lr => o.aq && !o.done | _ => false))

/-- The place of the oldest monitored load that has read a line. -/
def orderBreak (ztso : Bool) (line : Nat) : List Uop → List Uop → Option Nat
  | _, [] => none
  | older, u :: l =>
    if u.isLoad && u.done && u.fwd.isNone && (spanLines u.spans).contains line && monitored ztso older u then some older.length
    else orderBreak ztso line (older ++ [u]) l

/-! ## Squash and fill buffer (R160, R195, R197) -/

/-- An entry of the fill buffer ends unused: a request still outstanding leaves it to be discarded on arrival; a BOUND line from
the home agent is reported with CLEAN_DROP (R195). -/
def Sys.sfbDrop (s : Sys) (h : Nat) (e : SfbEnt) : Sys :=
  let s := s.hpm h 0x42
  let outstanding := e.st == .spec && e.chunks != 15 || e.bindSent && e.st == .spec || e.st == .bound && e.chunks != 15
  if outstanding then
    s.onHart h (fun t => { t with sfb := t.sfb.map (fun d => if d.line = e.line ∧ d.instr = e.instr then { d with dead := true } else d) })
  else
    let s := s.onHart h (fun t => { t with sfb := t.sfb.filter (fun d => ¬ (d.line = e.line ∧ d.instr = e.instr)) })
    s.when (e.st == .bound && !e.fromL2 && !e.fromSide) (fun s => s.send (s.coreReq h .cleanDrop e.line))

/-- Fill-buffer entries that no unretired instruction uses are dropped. -/
def Sys.sfbSweep (s : Sys) (h : Nat) : Sys :=
  let t := s.hart h
  let used := fun (e : SfbEnt) => if e.instr then t.codeLines.contains e.line else
    t.rob.any (fun u => u.sfb.contains e.line || u.walkLines.contains e.line) || t.fwalk.any (fun w => w.2.ptes.any (fun q => q.1 / 64 = e.line))
  s.each (t.sfb.filter (fun e => !e.dead && !used e)) (fun s e => s.sfbDrop h e)

/-- The instructions from a place of the reorder buffer on are squashed; the histories are those of the oldest squashed
checkpoint (R160, R195). -/
def Sys.squash (s : Sys) (h i : Nat) : Sys :=
  let t := s.hart h
  let gone := t.rob.drop i
  let hist := ((gone.filterMap (·.ckpt)).head?).getD t.hist
  ((s.hartTo h { t with rob := t.rob.take i, hist := hist }).when (!gone.isEmpty) (fun s => s.hpm h 0x44)).sfbSweep h

/-- The hart's memory model is RVTSO (R118). -/
def Sys.ztso (s : Sys) (h : Nat) : Bool := (s.conf.kennel (s.hartKennel h)).ztso

/-- A line left the hart: monitored loads that read it are squashed (R181, R182). -/
def Sys.lineGone (s : Sys) (h line : Nat) : Sys :=
  match orderBreak (s.ztso h) line [] (s.hart h).rob with
  | some i => (s.hpm h 0x34).squash h i
  | none => s

/-- An L1D victim leaves (R245). -/
def Sys.evictL1d (s : Sys) (h : Nat) (c : CLine) : Sys :=
  let t := s.hart h
  let s := match lineIn t.l2 c.line with
    | some d =>
      if c.poison || c.st = 3 then s.hartTo h { t with l2 := lineMap t.l2 c.line (fun _ => { c with way := d.way, st := if c.st = 3 then 3 else d.st }) } else s
    | none => if s.l2State h = lvOn then s.putL2 h c else s.offerLine h c
  s.lineGone h c.line

/-- A line is installed in L1D when it is ON (R244). -/
def Sys.putL1d (s : Sys) (h : Nat) (c : CLine) : Sys :=
  let t := s.hart h
  match lineIn t.l1d c.line with
  | some d => s.hartTo h ({ t with l1d := lineMap t.l1d c.line (fun _ => { c with way := d.way }) }.touch 1 (l1Set c.line) d.way)
  | none =>
    if s.l1dOn h then
      let (w, out) := takeWay t.l1d (fun d => l1Set d.line == l1Set c.line) (Bank.getD t.plru (1, l1Set c.line) 0)
      let l1d := match out with | some d => lineOut t.l1d d.line | none => t.l1d
      let s := s.hartTo h ({ t with l1d := { c with way := w } :: l1d }.touch 1 (l1Set c.line) w)
      match out with
      | some d => s.evictL1d h d
      | none => s
    else s

/-- A line is installed in L1I when it is ON; its victim is dropped (R244, R245). -/
def Sys.putL1i (s : Sys) (h : Nat) (c : CLine) : Sys :=
  let t := s.hart h
  let c := { c with st := 1 }
  match lineIn t.l1i c.line with
  | some d => s.hartTo h ({ t with l1i := lineMap t.l1i c.line (fun _ => { c with way := d.way }) }.touch 0 (l1Set c.line) d.way)
  | none =>
    if s.l1iState h = lvOn then
      let (w, out) := takeWay t.l1i (fun d => l1Set d.line == l1Set c.line) (Bank.getD t.plru (0, l1Set c.line) 0)
      let l1i := match out with | some d => lineOut t.l1i d.line | none => t.l1i
      s.hartTo h ({ t with l1i := { c with way := w } :: l1i }.touch 0 (l1Set c.line) w)
    else s

/-- The state in which a core holds a line (R297): the strongest of its copies. -/
def Hart.lineSt (t : Hart) (n : Nat) : Nat :=
  let st := fun (l : List CLine) => ((lineIn l n).map (·.st)).getD 0
  let side := ((t.side.find? (fun e => e.line = n ∧ e.valid)).map (·.st)).getD 0
  let sfb := if t.sfb.any (fun e => e.line = n ∧ e.st = .bound) then 1 else 0
  max (max (st t.l1d) (st t.l2)) (max side sfb)

/-- The newest dirty copy of a line: L1D's before L2's. -/
def Hart.dirtyCopy (t : Hart) (n : Nat) : Option CLine :=
  match lineIn t.l1d n with
  | some c => if c.st = 3 then some c else (lineIn t.l2 n).filter (fun c => c.st = 3)
  | none => (lineIn t.l2 n).filter (fun c => c.st = 3)

/-- The copy a holder answers a snoop with. -/
def Hart.anyCopy (t : Hart) (n : Nat) : Option CLine :=
  (t.dirtyCopy n).or ((lineIn t.l1d n).or ((lineIn t.l2 n).or
    ((t.side.find? (fun e => e.line = n ∧ e.valid)).map (fun e => ⟨n, 0, e.st, e.poison, e.owner, e.data⟩))))

/-- Every copy of a line but L1I's is invalidated at a core: caches, side buffer, reservation; a BOUND fill-buffer entry is
STALE, and a prefetch still to arrive is discarded (R195, R256, R301). -/
def Sys.dropCopies (s : Sys) (h n : Nat) : Sys :=
  let s := s.onHart h (fun t => { t with
    l1d := lineOut t.l1d n, l2 := lineOut t.l2 n
    side := (t.side.filter (fun e => ¬ (e.line = n ∧ e.valid))).map (fun e => if e.line = n then { e with discard := true } else e)
    sfb := t.sfb.map (fun e => if e.line = n ∧ e.st = .bound then { e with st := .stale } else e)
    resv := if t.resv = some n then none else t.resv })
  s.lineGone h n

/-- Every copy of a line is downgraded to S. -/
def Hart.shareCopies (t : Hart) (n : Nat) : Hart :=
  { t with l1d := lineMap t.l1d n (fun c => { c with st := 1 }), l2 := lineMap t.l2 n (fun c => { c with st := 1 })
           side := t.side.map (fun e => if e.line = n then { e with st := 1 } else e) }

/-- A core has a fill of the line outstanding, which holds a snoop until it has arrived (R302). -/
def Sys.fillDue (s : Sys) (h n : Nat) : Bool :=
  s.msgs.any (fun m => match m with
    | .fill f => f.h == h && f.line == n && f.kind != .spec && !f.err
    | .grant h' n' _ _ => h' == h && n' == n | .bindOk h' n' => h' == h && n' == n | _ => false)

/-- An offer of the line by the core is under way (R304). -/
def Sys.offerDue (s : Sys) (h n : Nat) : Bool :=
  s.msgs.any (fun m => match m with | .req _ r => r.kind == .offer && r.line == n && r.who == .core h | _ => false)

/-- An offer of the line still held at the core's stop (R304). -/
def Sys.offerHeld (s : Sys) (h n : Nat) : Option Req :=
  (s.stop (h / 4)).held.find? (fun r => r.kind == .offer && r.line == n && r.who == .core h)

/-- A core answers a snoop (R301, R304). -/
def Sys.snoopCore (s : Sys) (k : Snoop) (h n : Nat) : Answer × Sys :=
  let t := s.hart h
  let st := t.lineSt n
  match s.offerHeld h n with
  | some r =>
    (if r.poison then .poison else if r.dirty || k == .peek then .data r.data else .clean,
      s.onStop (h / 4) (fun t => { t with held := t.held.filter (fun q => q ≠ r) }))
  | none =>
    if st = 0 then (if s.offerDue h n then .offered else .none, s.onHart h (fun t => if k = .inv ∧ t.resv = some n then { t with resv := none } else t))
    else
      let c := t.anyCopy n
      let poisoned := (c.map (·.poison)).getD false
      let d := (c.map (·.data)).getD 0
      let ans := fun (withData : Bool) => if withData then (if poisoned then Answer.poison else .data d) else .clean
      match k with
      | .share => (ans (st == 3 || poisoned), s.onHart h (fun t => t.shareCopies n))
      | .inv => (ans (st == 3 || poisoned), s.dropCopies h n)
      | .peek => (if 2 ≤ st then ans true else .none, s)
      | .clean => (ans (st == 3 || poisoned), s.onHart h (fun t =>
          let low := fun (c : CLine) => if c.st = 3 then { c with st := 2, data := d } else { c with data := d }
          { t with l1d := lineMap t.l1d n low, l2 := lineMap t.l2 n low }))

/-! ## Flushes -/

/-- A predictor flush (R161, R252). -/
def Sys.predFlush (s : Sys) (h : Nat) : Sys :=
  (s.onHart h (fun t => { t with pred := [], hist := ⟨0, 0, []⟩, streams := [] })).hpm h 0x52

/-- The speculative fill buffer is flushed (R197): instruction entries only, or all. The instructions that used a dropped entry
read again. -/
def Sys.sfbFlush (s : Sys) (h : Nat) (instrOnly : Bool) : Sys :=
  let es := (s.hart h).sfb.filter (fun e => !e.dead && (e.instr || !instrOnly))
  let s := s.each es (fun s e => s.sfbDrop h e)
  s.onHart h (fun t => { t with rob := t.rob.map (fun u =>
    if es.any (fun e => !e.instr && u.sfb.contains e.line) then { u with sfb := [], done := false } else u) })

/-- A write-combining buffer is written out (R186). -/
def Sys.wcOut (s : Sys) (h : Nat) (b : WcBuf) : Sys :=
  (s.onHart h (fun t => { t with wcb := t.wcb.filter (fun c => c.line ≠ b.line) })).send
    { s.coreReq h .ncWr b.line with data := b.data, mask := b.mask }

/-- Every write-combining buffer is written out. -/
def Sys.wcFlush (s : Sys) (h : Nat) : Sys := s.each (s.hart h).wcb (fun s b => s.wcOut h b)

end Sys2Proof.Machine
end

