-- ==== Sys2Proof/Machine/Home.lean ====
section
/-!
DEFINITION. The slices and home agents (ch. 7, 8) with the owner-table and region checks they make (ch. 10).
-/
namespace Sys2Proof.Machine

/-! ## Slices and lines -/

def Slice.empty : Slice := ⟨[], [], [], 0, 0, [], [], [], [], [], false, 0⟩
def Sys.slice (s : Sys) (n : Nat) : Slice := Bank.getD s.slices n .empty
def Sys.onSlice (s : Sys) (n : Nat) (f : Slice → Slice) : Sys := { s with slices := Bank.set s.slices n (f (s.slice n)) }

def slReset : Nat := 0
def slClearing : Nat := 1
def slReady : Nat := 2
def slClearingData : Nat := 3
def slOn : Nat := 4
def slDisabling : Nat := 5
def slHold : Nat := 6
def slDraining : Nat := 7
def slRetired : Nat := 8
def slTesting : Nat := 9
def slTested : Nat := 10
def slClearingT : Nat := 11

def Sys.slState (s : Sys) (n : Nat) : Nat := s.rf F.TILE_SLICE_STATUS_STATE n
def Sys.slTo (s : Sys) (n st : Nat) : Sys := s.put F.TILE_SLICE_STATUS_STATE st n

/-- The LLC set of a sector number (R241). -/
def llcSet (q : Nat) : Nat := (q % 2 ^ 22 ^^^ q / 2 ^ 22) % 1536
/-- The snoop-filter set of a line (R312). -/
def sfSet (l : Nat) : Nat := (nget l 0 24 ^^^ nget l 24 22) % 12288
/-- The write-epoch bucket of a line (R310). -/
def bucketOf (l : Nat) : Nat := nget l 0 12 ^^^ nget l 12 12 ^^^ nget l 24 12 ^^^ nget l 36 10

/-- The data array answers lookups: ON, DISABLING, HOLD and DRAINING (R268). -/
def Sys.llcUp (s : Sys) (n : Nat) : Bool := [slOn, slDisabling, slHold, slDraining].contains (s.slState n)

/-- The sector of a line at a slice, when it is present. -/
def Sys.sector (s : Sys) (n l : Nat) : Option Sector :=
  if s.llcUp n then (s.slice n).sectors.find? (fun e => e.q = l / 4) else none

/-- The LLC's data of a line, when its sub-block's V is 1, with its poison mark. -/
def Sys.llcLine (s : Sys) (n l : Nat) : Option (BitVec 512 × Bool) :=
  match s.sector n l with
  | some e => if bit e.v (l % 4) then some ((e.data[l % 4]?).getD 0, bit e.p (l % 4)) else none
  | none => none

/-- A number with a bit set or cleared. -/
def setBit (m i : Nat) (v : Bool) : Nat := if v then m ||| 2 ^ i else m - (m &&& 2 ^ i)

/-- The sub-block of a line takes data: V 1; D and P as given, or kept where already set (R247). -/
def Sector.fill (e : Sector) (i : Nat) (data : BitVec 512) (dm pm keep : Bool) : Sector :=
  { e with
    v := setBit e.v i true
    d := setBit e.d i (dm || pm || (keep && bit e.d i))
    p := setBit e.p i (pm || (keep && bit e.p i))
    data := e.data.set i data }

/-- The sub-block of a line is invalid; the tag entry ends with its last sub-block (R273). -/
def Sys.llcClear (s : Sys) (n l : Nat) : Sys :=
  let clear := fun (e : Sector) =>
    if e.q = l / 4 then
      { e with
        v := setBit e.v (l % 4) false
        d := setBit e.d (l % 4) false
        p := setBit e.p (l % 4) false }
    else e
  s.onSlice n (fun t => { t with sectors := (t.sectors.map clear).filter (fun e => e.v ≠ 0) })

/-- The sectors of a slice that a kennel allocated. -/
def Sys.occ (s : Sys) (n k : Nat) : Nat := ((s.slice n).sectors.filter (fun e => e.kennel = k)).length

/-- TILE_HA_STATUS, TILE_HA_EPOCH and TILE_SLICE_OCC follow the slice (R331). -/
def Sys.showHa (s : Sys) (n : Nat) : Sys :=
  let t := s.slice n
  let cnt := fun (p : Pool) => (t.txns.filter (fun x => x.pool = p)).length
  let s := (((((s.put F.TILE_HA_STATUS_TT_GENERAL (cnt .general) n).put F.TILE_HA_STATUS_TT_WRITE (cnt .write) n).put
    F.TILE_HA_STATUS_TT_REMOTE (cnt .remote) n).put F.TILE_HA_STATUS_TT_INTERNAL (cnt .internal) n).put
    F.TILE_HA_STATUS_SESSION t.session n).put F.TILE_HA_EPOCH_EPOCH t.epoch n
  s.each (below 16) (fun s k => s.put F.TILE_SLICE_OCC_OCC (s.occ n k) n k)

/-- An event of R310: E counts up and goes into the line's bucket; at a wrap the session counts up. -/
def Sys.epochUp (s : Sys) (n l : Nat) : Sys :=
  s.onSlice n (fun t =>
    let e := (t.epoch + 1) % 2 ^ 48
    { t with epoch := e, session := if e = 0 then (t.session + 1) % 256 else t.session, buckets := Bank.set t.buckets (bucketOf l) e })

/-! ## Memory behind a slice -/

/-- The first lane and width of link `j` of a port (R439). -/
def laneOf (bifurc j : Nat) : Nat × Nat :=
  match bifurc, j with
  | 0, _ => (0, 16)
  | 1, j => (8 * j, 8)
  | 2, 0 => (0, 8)
  | 2, j => (8 + 4 * (j - 1), 4)
  | _, j => (4 * j, 4)

/-- The port and link whose CXL window holds an address of this socket (R456). -/
def Sys.cxlLink (s : Sys) (pa : Nat) : Option (Nat × Nat) :=
  let base := 0x100000000000 * (1 + s.socket)
  if base ≤ pa && decide (pa < base + 0x100000000000) then
    let p := (pa - base) / 0x20000000000
    let lane := ((pa - base) % 0x20000000000) / 0x2000000000
    let b := (s.conf.port p).bifurc
    ((below (linksOf b)).find? (fun j => decide ((laneOf b j).1 ≤ lane) && decide (lane < (laneOf b j).1 + (laneOf b j).2))).map (fun j => (p, j))
  else none

/-- The states of a link (R467). -/
def lkOff : Nat := 0
def lkReset : Nat := 1
def lkTraining : Nat := 2
def lkUp : Nat := 3
def lkL1 : Nat := 4
def lkDown : Nat := 5
def lkContained : Nat := 6
def lkHeel : Nat := 7

/-- A link is UP or L1. -/
def Sys.linkUp (s : Sys) (p j : Nat) : Bool := [lkUp, lkL1].contains (s.rf F.IOP_LINK_STATUS_STATE p j)

/-- The address decodes to a device's HDM that can be reached: the link runs CXL and is UP or L1 (R456, R458). -/
def Sys.cxlDecodes (s : Sys) (pa : Nat) : Bool :=
  match s.cxlLink pa with
  | some (p, j) =>
    let base := 0x100000000000 * (1 + s.socket) + p * 0x20000000000 + (laneOf (s.conf.port p).bifurc j).1 * 0x2000000000
    (s.conf.port p).role == 2 && s.linkUp p j && s.on F.IOP_LINK_STATUS_CXL p j && s.on F.IOP_LINK_CXL_HDM_EN p j && decide (pa < base + s.rf F.IOP_LINK_CXL_SIZE_GIB p j * gib)
  | none => false

/-- A line leaves for memory: to its channel's controller, or at once to the CXL port (R335, R365, R457). A line that lies in no
set is not written. -/
def M.sendWrite (x : M) (n l : Nat) (data : BitVec 512) (poison : Bool) : M :=
  match x.sys.conf.locate (64 * l) with
  | some (m, _, mir) =>
    let c := x.sys.writeChan m mir
    x.on (fun s => s.onChan c (fun ch => { ch with mwr := ch.mwr ++ [⟨l, n, data, poison⟩] }))
  | none =>
    if x.sys.cxlDecodes (64 * l) then x.write (lineOps l data poison)
    else match x.sys.cxlLink (64 * l) with
      -- a write that the device can no longer take is discarded (R458)
      | some (p, j) => if x.sys.linkUp p j then x else x.on (fun s => s.raise (srcPort p 5) j)
      | none => x

/-- Data a holder or a requester gave goes into the LLC sub-block when the sector is present, marked dirty, else to memory
(R300). -/
def M.writeBack (x : M) (n l : Nat) (data : BitVec 512) (poison : Bool) : M :=
  if (x.sys.sector n l).isSome then
    x.on (fun s => s.onSlice n (fun t => { t with sectors := t.sectors.map (fun e =>
      if e.q = l / 4 then e.fill (l % 4) data true poison false else e) }))
  else x.sendWrite n l data poison

/-- A sector is evicted: clean sub-blocks dropped, dirty ones written, poisoned ones written as poison (R250). -/
def M.evictSector (x : M) (n : Nat) (e : Sector) : M :=
  let x := x.on (fun s => s.onSlice n (fun t => { t with sectors := t.sectors.filter (fun f => f.q ≠ e.q) }))
  (below 4).foldl (fun x i => if bit e.d i then x.sendWrite n (4 * e.q + i) ((e.data[i]?).getD 0) (bit e.p i) else x) x

/-- Where a new sector of a kennel goes in its set, and the sector that leaves (R248): below the quota an invalid way, the least
recent sector of a kennel at or above its quota, the least recent of the set; at the quota the least recent of its own. -/
def Sys.allocWay (s : Sys) (n k q : Nat) : Option (Nat × Option Sector) :=
  let set := (s.slice n).sectors.filter (fun e => llcSet e.q = llcSet q)
  let full := fun (k : Nat) => decide (s.rf F.TILE_SLICE_OCC_QUOTA n k ≤ s.occ n k)
  let last := fun (l : List Sector) => l.getLast?.map (fun e => (e.way, some e))
  if full k then last (set.filter (fun e => e.kennel = k))
  else match (below 16).find? (fun w => !set.any (fun e => e.way = w)) with
  | some w => some (w, none)
  | none => (last (set.filter (fun e => full e.kennel))).or (last set)

/-- An offered line is settled (R247): the second part says that a clean line was declined. -/
def M.settleOffer (x : M) (n l k : Nat) (data : BitVec 512) (dirty poison : Bool) : M × Bool :=
  let i := l % 4
  let s := x.sys
  match s.sector n l with
  | some e =>
    let keep := bit e.v i
    (x.on (fun s => s.onSlice n (fun t => { t with
      sectors := e.fill i data dirty poison keep :: t.sectors.filter (fun f => f.q ≠ e.q) })), false)
  | none =>
    if s.slState n = slOn then
      match s.allocWay n k (l / 4) with
      | some (w, out) =>
        let x := match out with | some e => x.evictSector n e | none => x
        (x.on (fun s => s.onSlice n (fun t => { t with
          sectors := (⟨w, l / 4, k, 0, 0, 0, [0, 0, 0, 0]⟩ : Sector).fill i data dirty poison false :: t.sectors })), false)
      | none => if dirty || poison then (x.sendWrite n l data poison, false) else (x, true)
    else if dirty || poison then (x.sendWrite n l data poison, false) else (x, true)

/-- An engine is in service (R482). -/
def Sys.engUp (s : Sys) (e : Nat) : Bool := s.rf F.RTV_ENG_STATUS_STATE e == 1

/-- The line as a coherent read finds it now, with nothing changed: a dirty copy of a core, an engine's destination data, an LLC
copy, memory. -/
def M.peek (x : M) (l : Nat) : BitVec 512 × Bool :=
  match x.sys.harts.findSome? (fun p => p.2.dirtyCopy l) with
  | some c => (c.data, c.poison)
  | none =>
    match x.sys.staging.findSome? (fun p => p.2.find? (fun g => g.line = l ∧ g.dst)) with
    | some g => (g.data, g.poison)
    | none =>
      match x.sys.slices.findSome? (fun p => x.sys.llcLine p.1 l) with
      | some r => r
      | none => x.memLine l

/-- Byte `i` of a line. -/
def lineByte (d : BitVec 512) (i : Nat) : Nat := (d.extractLsb' (8 * i) 8).toNat

/-! ## The owner table and the region registers (R382 to R388, R397) -/

/-- The address of a page's owner byte (R382). -/
def Sys.ownAddr (s : Sys) (pa : Nat) : Nat := s.rf F.OWN_TABLE_BASE * 2 ^ 21 + (pa - dramWindow * s.socket) / 4096

/-- The owner byte a home agent checks, from its cache or from the table; `none` for poison. A miss installs the table's line,
512 entries in 64 sets of 8, least recently used out, except for RD_SPEC (R387). -/
def M.ownByte (x : M) (n pa : Nat) (install : Bool) : Option Nat × M :=
  let a := x.sys.ownAddr pa
  let t := a / 64
  let oc := (x.sys.slice n).oc
  match oc.find? (fun e => e.line = t) with
  | some e =>
    (some (lineByte e.data (a % 64)), if install then x.on (fun s => s.onSlice n (fun z => { z with oc := e :: z.oc.filter (fun f => f.line ≠ t) })) else x)
  | none =>
    let (d, p) := x.peek t
    if p then (none, x)
    else
      let set := fun (t : Nat) => nget t 0 6 ^^^ nget t 6 6
      let x := if install then x.on (fun s => s.onSlice n (fun z =>
        let inSet := z.oc.filter (fun f => set f.line = set t)
        let out := if inSet.length < 8 then none else inSet.getLast?.map (·.line)
        { z with oc := ⟨t, d⟩ :: z.oc.filter (fun f => some f.line ≠ out) })) else x
      (some (lineByte d (a % 64)), x)

/-- A page or link marked with a world admits a request (R381): S admits world S only. -/
def worldOk (markS secure : Bool) : Bool := !markS || secure

/-- The outcome of a check: admitted with the byte whose bits 7:3 are the owner tag, or the cause OWN_DENY logs. -/
inductive Check where
  | ok (byte : Nat)
  | deny (cause : Nat)
  deriving DecidableEq, Repr

/-- The check of one owner byte (R383). -/
def checkByte (b k : Nat) (secure : Bool) : Check :=
  if !bit b 0 || bit b 2 then .deny 0
  else if nget b 3 4 ≠ k then .deny 1
  else if worldOk (bit b 7) secure then .ok b else .deny 2

/-- A requester's class is a device's (R397). -/
def Source.device : Source → Bool
  | .engine _ | .port _ _ => true
  | .peer d => d
  | _ => false

/-- The class code of OWN_DENY. -/
def Source.denyClass : Source → Nat
  | .core _ => 0 | .derrum _ => 1 | .port _ _ => 2 | .peer _ => 3 | .engine _ => 4

/-- A region of a channel admits a device request (R397). -/
def regionAdmits (cfg lim : Word) (pa k : Nat) (secure write : Bool) : Bool :=
  fget cfg 63 1 == 1 && decide (fget cfg 12 40 * 4096 ≤ pa) && decide (pa < fget lim 12 40 * 4096) && fget cfg 56 4 == k &&
  worldOk (fget cfg 62 1 == 1) secure && (if write then fget cfg 60 1 == 1 else fget cfg 61 1 == 1)

/-- The request writes. -/
def ReqKind.writes : ReqKind → Bool
  | .ncWr | .ncAmo | .ncSc | .devWr | .ownZero => true
  | _ => false

/-- The home agent's check of a request (R383, R385, R397), with the cache changes it makes. -/
def M.check (x : M) (n : Nat) (r : Req) : Check × M :=
  let pa := 64 * r.line
  let s := x.sys
  match s.cxlLink pa with
  | some (p, j) =>
    let k := ((s.conf.port p).kennels[j]?).getD 0xFF
    let ws := bit (s.conf.port p).world j
    (if k ≠ r.kennel then .deny 1 else if worldOk ws r.secure then .ok (b2n ws * 128 + k * 8 + 1) else .deny 2, x)
  | none =>
    if r.who.device then
      match s.conf.locate pa with
      | none => (.deny 0, x)
      | some (m, _, _) =>
        let rs := (below 32).map (fun i => Bank.getD s.regionNow (m, i) (0, 0))
        if rs.any (fun e => regionAdmits e.1 e.2 pa r.kennel r.secure r.kind.writes) then (.ok (b2n false * 128 + r.kennel * 8 + 1), x)
        else if rs.any (fun e => regionAdmits e.1 e.2 pa r.kennel true true || regionAdmits e.1 e.2 pa r.kennel true false) then (.deny 2, x)
        else (.deny 0, x)
    else
      match x.ownByte n pa (r.kind != .rdSpec) with
      | (some b, x) => (checkByte b r.kennel r.secure, x)
      | (none, x) => (.deny 3, x)

/-- A refusal is logged (R384, R406). -/
def Sys.logDeny (s : Sys) (r : Req) (cause : Nat) : Sys :=
  let quiet := r.kind == .rdSpec || r.isPrefetch
  let s := s.when (cause == 3) (fun s => s.raise (srcGlobal 11))
  if quiet then s
  else
    let s := s.bump F.OWN_DENY_COUNT
    let s := if s.on F.OWN_DENY_VALID then s.put F.OWN_DENY_MORE 1
      else (((((s.put F.OWN_DENY_VALID 1).put F.OWN_DENY_CLASS r.who.denyClass).put F.OWN_DENY_WORLD (b2n r.secure)).put
        F.OWN_DENY_KENNEL r.kennel).put F.OWN_DENY_CAUSE cause).put F.OWN_DENY_PAGE (r.line / 64)
    s.raise (srcGlobal 10)

/-- An owner tag admits a hit of a core (R386): the tag is bits 7:3 of the byte. -/
def tagAdmits (tag k : Nat) (secure : Bool) : Bool := tag % 16 == k && worldOk (bit tag 4) secure

/-! ## The snoop filter (R298, R312, R313) -/

/-- The holders an entry names. -/
def SfEnt.holders (e : SfEnt) : List Holder :=
  match e.st with
  | 1 => [if 0x100 ≤ e.owner then .engine (e.owner - 0x100) else .core e.owner]
  | 2 => ((below 64).filter (fun i => bit e.tiles.toNat i)).flatMap (fun i => (below 4).map (fun c => Holder.core (4 * i + c)))
    ++ ((below 8).filter (fun i => bit e.engines.toNat i)).map Holder.engine ++ (if e.remote then [.remote] else [])
  | _ => [.remote]

/-- The holder a requester is. -/
def Source.holder : Source → Option Holder
  | .core h => some (.core h)
  | .engine e => some (.engine e)
  | .peer _ => some .remote
  | _ => none

def Sys.sfGet (s : Sys) (n l : Nat) : Option SfEnt := (s.slice n).sf.find? (fun e => e.line = l)
def Sys.sfDel (s : Sys) (n l : Nat) : Sys := s.onSlice n (fun t => { t with sf := t.sf.filter (fun e => e.line ≠ l) })

/-- An entry for one holder in E or M. -/
def sfEx (l k : Nat) (proxy : Bool) : Holder → SfEnt
  | .core h => ⟨l, k, proxy, 1, h, 0, 0, false⟩
  | .engine e => ⟨l, k, proxy, 1, 0x100 + e, 0, 0, false⟩
  | .remote => ⟨l, k, proxy, 3, 0, 0, 0, false⟩

/-- An entry in SH with one more holder. -/
def SfEnt.share (e : SfEnt) (h : Holder) : SfEnt :=
  match h with
  | .core c => { e with st := 2, tiles := e.tiles ||| (1#64 <<< (c / 4)) }
  | .engine i => { e with st := 2, engines := e.engines ||| (1#8 <<< i) }
  | .remote => { e with st := 2, remote := true }

/-- An entry in SH of a list of holders. -/
def sfShare (l k : Nat) (proxy : Bool) (hs : List Holder) : SfEnt := hs.foldl SfEnt.share ⟨l, k, proxy, 2, 0, 0, 0, false⟩

/-- The number of enabled kennels whose live mask includes a slice (R307). -/
def Sys.kennelsOf (s : Sys) (n : Nat) : Nat := (s.enabledKennels.filter (fun k => (s.conf.liveMask k).contains n)).length

/-- A snoop-filter entry is evicted (R313): every holder is invalidated, a dirty answer is written back. -/
def M.sfEvict (x : M) (n : Nat) (e : SfEnt) : M :=
  let x := e.holders.foldl (fun x h => match h with
    | .core c =>
      let (a, s) := x.sys.snoopCore .inv c e.line
      let x := { x with sys := s }
      match a with
      | .data d => x.writeBack n e.line d false
      | .poison => x.writeBack n e.line ((((x.sys.hart c).anyCopy e.line).map (·.data)).getD 0) true
      | _ => x
    | .engine i => x.on (fun s => { s with staging := Bank.set s.staging i ((Bank.getD s.staging i []).filter (fun g => g.line ≠ e.line ∨ g.dst)) })
    | .remote => x) x
  x.on (fun s => ((s.sfDel n e.line).epochUp n e.line).bump F.TILE_HA_STATUS_SF_EVICTS n)

/-- The line's entry is written; a full set gives up its victim first (R313). -/
def M.sfPut (x : M) (n k : Nat) (e : SfEnt) : M :=
  let set := ((x.sys.slice n).sf.filter (fun f => sfSet f.line = sfSet e.line ∧ f.line ≠ e.line))
  let free := set.filter (fun f => !(x.sys.slice n).txns.any (fun t => t.req.line = f.line))
  let m := max 1 (x.sys.kennelsOf n)
  let mine := set.filter (fun f => f.kennel = k)
  let victim := if set.length < 16 then none
    else if (16 + m - 1) / m < mine.length then (free.filter (fun f => f.kennel = k)).getLast? else free.getLast?
  let x := match victim with | some v => x.sfEvict n v | none => x
  x.on (fun s => s.onSlice n (fun t => { t with sf := e :: t.sf.filter (fun f => f.line ≠ e.line) }))

/-! ## Transactions (R300, R306 to R308) -/

/-- The pool that serves a request (R306). -/
def Req.pool (r : Req) : Pool :=
  match r.who with
  | .peer _ => .remote
  | _ => match r.kind with
    | .offer | .ncWr | .devWr => .write
    | .cmoClean | .cmoFlush => if r.dirty then .write else .general
    | _ => .general

/-- The pool, and for the general pool the kennel's share, has an entry (R306, R307). An entry held for a stop counts. -/
def Sys.roomFor (s : Sys) (n : Nat) (r : Req) : Bool :=
  let t := s.slice n
  let used := (t.txns.filter (fun x => x.pool = r.pool)).length
  match r.pool with
  | .general =>
    let others := (t.goHeld.filter (fun g => ¬ (g.1 = r.who.stop ∧ g.2 = r.kennel))).length
    decide (used + others < 152) &&
      decide ((t.txns.filter (fun x => x.pool = .general ∧ x.req.kennel = r.kennel)).length < 152 - 8 * (s.kennelsOf n - 1))
  | .write => decide (used < 16)
  | .remote => decide (used < 16)
  | .internal => decide (used < 8)

/-- A BIND's token stands (R311). -/
def Sys.tokenOk (s : Sys) (n : Nat) (r : Req) : Bool :=
  let t := s.slice n
  r.tok.slice == n && r.tok.session == t.session && !r.noBind && decide (Bank.getD t.buckets (bucketOf r.line) 0 ≤ r.tok.epoch) &&
  s.slState n != slReady

/-- The snoop a request makes in a state of the snoop filter, and to whom (R300). -/
def Sys.snoopsFor (s : Sys) (n : Nat) (r : Req) : Option (Snoop × List Holder) :=
  match s.sfGet n r.line with
  | none => none
  | some e =>
    let others := e.holders.filter (fun h => some h ≠ r.who.holder)
    let ex := e.st == 1 || e.st == 3
    let one := fun (k : Snoop) (l : List Holder) => if l.isEmpty then none else some (k, l)
    match r.kind with
    | .rdShared => if ex then one .share others else none
    | .bind => if s.tokenOk n r then none else if ex then one .share others else none
    | .rdOwn | .upgrade | .ownZero => one .inv others
    | .ncWr | .ncAmo | .devWr => one .inv e.holders
    | .ncSc => if (s.slice n).resv.any (fun p => r.who = .core p.1 ∧ p.2 = r.line) then one .inv e.holders else none
    | .rdSpec | .ncRd | .devRd | .ncLr => if ex then one .peek others else none
    | .cmoClean => one .clean others
    | .cmoFlush | .cmoInval => one .inv others
    | .pfRd | .pfWr | .offer | .cleanDrop | .cmoCheck => none

/-- A request needs the line's data to be served (R300). -/
def Sys.needsData (s : Sys) (n : Nat) (r : Req) : Bool :=
  match r.kind with
  | .rdShared | .rdOwn | .rdSpec | .pfRd | .pfWr | .ncRd | .devRd | .ncLr | .ncAmo => true
  | .bind => !s.tokenOk n r
  | .upgrade => !(match s.sfGet n r.line, r.who with
      | some e, .core h => e.st == 2 && bit e.tiles.toNat (h / 4)
      | _, _ => false)
  | .ncWr | .devWr => r.mask != BitVec.allOnes 64
  | .ncSc => (s.slice n).resv.any (fun p => r.who = .core p.1 ∧ p.2 = r.line)
  | _ => false

/-- Bytes of one line put over another under a byte mask. -/
def mergeLine (old new : BitVec 512) (mask : BitVec 64) : BitVec 512 :=
  BitVec.ofNat 512 ((below 64).foldl (fun a i => a + lineByte (if bit mask.toNat i then new else old) i * 2 ^ (8 * i)) 0)

/-- The result of an AMO on `w` bits. -/
def amoApply (op : AmoOp) (w a b : Nat) : Nat :=
  let x : BitVec w := BitVec.ofNat w a
  let y : BitVec w := BitVec.ofNat w b
  match op with
  | .swap => y.toNat | .add => (x + y).toNat | .xor => (x ^^^ y).toNat | .and => (x &&& y).toNat | .or => (x ||| y).toNat
  | .min => (if x.sle y then x else y).toNat | .max => (if x.sle y then y else x).toNat
  | .minu => (if x.ule y then x else y).toNat | .maxu => (if x.ule y then y else x).toNat

/-- A field of `w` bits of a line at a byte. -/
def lineField (d : BitVec 512) (byte w : Nat) : Nat := (d.extractLsb' (8 * byte) w).toNat
/-- A line with a field of `w` bits at a byte replaced. -/
def linePut (d : BitVec 512) (byte w v : Nat) : BitVec 512 :=
  (d &&& ~~~ (((BitVec.allOnes w).setWidth 512) <<< (8 * byte))) ||| (((BitVec.ofNat w v).setWidth 512) <<< (8 * byte))

/-- The lowest byte a mask names. -/
def maskLow (m : BitVec 64) : Nat := ((below 64).find? (fun i => bit m.toNat i)).getD 0

/-- A sign extension of `w` bits to 64. -/
def sext (w v : Nat) : Nat := ((BitVec.ofNat w v).signExtend 64).toNat

/-- The answer to a requester that carries no line of data and is not a grant. -/
def Req.doneMsg (r : Req) (err : Bool) (result : Nat) : Msg :=
  match r.who with
  | .core h => .fill ⟨h, r.line, .nc, 0, false, 0, 0, ⟨0, 0, 0⟩, false, 0, 4, err, result⟩
  | w => .reply w r.line 0 false err

def M.post (x : M) (m : Msg) : M := x.on (fun s => { s with msgs := s.msgs ++ [m] })

/-- A core's grant without data (R300, R303): its copies become M; for OWN_ZERO the line is zeros in L1D (R271). -/
def Sys.grantNoData (s : Sys) (h l tag : Nat) (zero : Bool) : Sys :=
  let s := s.onHart h (fun t => { t with own := t.own.filter (· ≠ l) })
  if zero then
    let s := s.onHart h (fun t => { t with l2 := lineOut t.l2 l, side := t.side.filter (fun e => e.line ≠ l), l1i := lineOut t.l1i l })
    s.putL1d h ⟨l, 0, 3, false, tag, 0⟩
  else
    let t := s.hart h
    match t.side.find? (fun e => e.line = l ∧ e.valid) with
    | some e =>
      let s := (s.onHart h (fun t => { t with side := t.side.filter (fun e => e.line ≠ l) })).hpm h 0x14
      (s.putL2 h ⟨l, 0, 2, e.poison, e.owner, e.data⟩).putL1d h ⟨l, 0, 3, e.poison, e.owner, e.data⟩
    | none => s.onHart h (fun t => { t with l1d := lineMap t.l1d l (fun c => { c with st := 3 })
                                            l2 := lineMap t.l2 l (fun c => { c with st := if (lineIn t.l1d l).isSome then 2 else 3 }) })

/-- Every reservation of R305 for a block ends. -/
def Sys.clearResv (s : Sys) (n l : Nat) : Sys := s.onSlice n (fun t => { t with resv := t.resv.filter (fun p => p.2 ≠ l) })

/-- The transaction of a line ends and its entry is free. -/
def M.txnFree (x : M) (n : Nat) (t : Txn) : M := x.on (fun s => s.onSlice n (fun z => { z with txns := z.txns.erase t }))

/-- A read, grant, prefetch or bind is answered with data (R300, R311): the fill or reply, the snoop filter, the epoch, the
refund. `fromMem` says that it was served from memory or a port, `ddr` that a DDR channel was read. -/
def M.answerData (x : M) (n : Nat) (t : Txn) (d : BitVec 512) (p fromMem ddr : Bool) : M :=
  let r := t.req
  let l := r.line
  let e := x.sys.sfGet n l
  let tag := t.byte / 8
  let tok : Token := ⟨n, (x.sys.slice n).session, (x.sys.slice n).epoch⟩
  let x := if !ddr && decide (0 < r.charge.1) && r.kind != .ncAmo then x.on (fun s => s.refund r.who r.kennel) else x
  let x := match r.who, fromMem, r.kind with
    | .core h, true, .rdShared | .core h, true, .rdOwn => x.on (fun s => s.hpm h 0x18)
    | _, _, _ => x
  let others := ((e.map SfEnt.holders).getD []).filter (fun h => some h ≠ r.who.holder)
  let alone := others.isEmpty
  let proxy := x.sys.foreign l
  let fill := fun (h : Nat) (k : FillKind) (g : Nat) => Msg.fill ⟨h, l, k, d, p, tag, g, tok, t.wasEx, r.first, 0, false, 0⟩
  let kOwn := nget t.byte 3 4
  let share := fun (x : M) => match r.who.holder with
    | some h => x.sfPut n r.kennel ((match e with
        | some f => if f.st = 2 then f else sfShare l kOwn proxy others
        | none => sfShare l kOwn proxy []).share h)
    | none => x
  let own := fun (x : M) => match r.who.holder with
    | some h => (x.sfPut n r.kennel (sfEx l kOwn proxy h)).on (fun s => (s.epochUp n l).clearResv n l)
    | none => x
  match r.kind, r.who with
  | .rdShared, .core h => if alone && e.all (fun f => f.st == 1) then (own x).post (fill h .shared 2) else (share x).post (fill h .shared 1)
  | .rdShared, .engine i =>
    (share x).on (fun s => s.when (s.engUp i) (fun s => { s with staging := Bank.set s.staging i (Bank.getD s.staging i [] ++ [⟨l, false, d, p⟩]) }))
  | .bind, .core h => if alone && e.all (fun f => f.st == 1) then (own x).post (fill h .bindData 2) else (share x).post (fill h .bindData 1)
  | .rdOwn, .core h => (own x).post (fill h .own 3)
  | .upgrade, .core h => (own x).post (fill h .own 3)
  | .pfRd, .core h => if e.isNone then (own x).post (fill h .pf 2) else (share x).post (fill h .pf 1)
  | .pfWr, .core h => if e.isNone then (own x).post (fill h .pf 2) else (share x).post (fill h .pf 1)
  | .rdSpec, .core h => x.post (fill h .spec 0)
  | .ncRd, .core h => x.post (fill h .nc 0)
  | .ncLr, .core h => x.post (fill h .nc 0)
  | .rdShared, .peer _ => (if alone && e.isNone then own x else share x).post (.reply r.who l d p false)
  | .rdOwn, .peer _ => (own x).post (.reply r.who l d p false)
  | .upgrade, .peer _ => (own x).post (.reply r.who l d p false)
  | _, w => x.post (.reply w l d p false)

/-- The line a write leaves (R300, R260): the request's bytes over the old data; an AMO's result; a partial write keeps the
poison, a whole one clears it. -/
def Req.written (r : Req) (old : BitVec 512) (oldP : Bool) : BitVec 512 × Bool × Nat :=
  let i := maskLow r.mask
  let w := if r.dword then 64 else 32
  match r.kind with
  | .ncAmo => (linePut old i w (amoApply r.amo w (lineField old i w) (lineField r.data i w)), oldP, sext w (lineField old i w))
  | _ => (mergeLine old r.data r.mask, (oldP && r.mask != BitVec.allOnes 64) || r.poison, 0)

/-- A write is performed (R249, R300): the LLC sub-block is updated when present, else the line goes to memory and the
transaction waits for the controller to accept it. A core's write of the whole line clears the sub-block. -/
def M.writeTxn (x : M) (n : Nat) (t : Txn) (old : BitVec 512) (oldP : Bool) : M :=
  let r := t.req
  let l := r.line
  let (d, p, res) := r.written old oldP
  let x := x.on (fun s => ((s.sfDel n l).epochUp n l).clearResv n l)
  let whole := r.mask == BitVec.allOnes 64
  let x := if whole && !r.who.device then x.on (fun s => s.llcClear n l) else x
  if (x.sys.llcLine n l).isSome then ((x.writeBack n l d p).txnFree n t).post (r.doneMsg false res)
  else if (x.sys.conf.locate (64 * l)).isSome then
    (x.sendWrite n l d p).on (fun s => s.onSlice n (fun z =>
      { z with txns := z.txns.map (fun u => if u = t then { t with st := .writing, got := some (BitVec.ofNat 512 res, false) } else u) }))
  else if x.sys.cxlDecodes (64 * l) then ((x.sendWrite n l d p).txnFree n t).post (r.doneMsg false res)
  else (x.txnFree n t).post (r.doneMsg true res)

/-- A request ends in an error completion (R372, R384). -/
def M.failTxn (x : M) (n : Nat) (t : Txn) : M := (x.txnFree n t).post t.req.errorMsg

/-- The data is at hand (R308): the transaction is carried out with it. -/
def M.withData (x : M) (n : Nat) (t : Txn) (d : BitVec 512) (p fromMem ddr : Bool) : M :=
  match t.req.kind with
  | .ncWr | .ncAmo | .ncSc | .devWr => x.writeTxn n t d p
  | _ => (x.txnFree n t).answerData n t d p fromMem ddr

/-- Reads of a slice under way at a channel, against its 4 read credits (R328). -/
def Sys.readsAt (s : Sys) (n m : Nat) : Nat :=
  let c := s.chan m
  ((c.fwd ++ c.readQ ++ c.issued).filter (fun q => q.slice = n)).length + (c.done.filter (fun d => d.slice = n)).length

/-- A transaction that waits for memory sends its read under a credit; one that has none waits (R328). -/
def M.sendRead (x : M) (n : Nat) (t : Txn) : M :=
  let l := t.req.line
  match x.sys.conf.locate (64 * l) with
  | some (m, ca, mir) =>
    let c := x.sys.readChan m ca mir
    let under := (below 16).any (fun i =>
      ((x.sys.chan i).fwd ++ (x.sys.chan i).readQ ++ (x.sys.chan i).issued).any (fun q => q.slice = n ∧ q.line = l) ||
      (x.sys.chan i).done.any (fun d => d.slice = n ∧ d.line = l))
    if under || decide (4 ≤ x.sys.readsAt n c) then x
    else x.on (fun s => s.onChan c (fun ch => { ch with fwd := ch.fwd ++ [⟨l, ca, n, 0⟩] }))
  | none => x

/-- The snoops are answered: the transaction takes a holder's data, the LLC's, or goes to memory (R300, R308). -/
def M.access (x : M) (n : Nat) (t : Txn) : M :=
  let r := t.req
  let l := r.line
  -- a holder's data is written back first, but for data that is discarded
  let discard := r.kind == ReqKind.ownZero || r.kind == ReqKind.cmoInval
  let x := match t.got with
    | some (d, p) => if discard || r.kind == ReqKind.cmoFlush || r.kind == ReqKind.cmoClean then x else x.writeBack n l d p
    | none => x
  match r.kind with
  | .ownZero =>
    let x := x.on (fun s => ((s.llcClear n l).epochUp n l).clearResv n l)
    let x := match r.who.holder with
      | some h => x.sfPut n r.kennel (sfEx l (nget t.byte 3 4) (x.sys.foreign l) h)
      | none => x
    let x := x.txnFree n t
    match r.who with
    | .core h => x.post (.grant h l (t.byte / 8) true)
    | .engine i => x.on (fun s => s.when (s.engUp i) (fun s =>
        { s with staging := Bank.set s.staging i ((Bank.getD s.staging i []).filter (fun g => g.line ≠ l) ++ [⟨l, true, 0, false⟩]) }))
    | w => x.post (.reply w l 0 false false)
  | .cmoClean | .cmoFlush | .cmoInval =>
    let fromReq := if r.dirty then some (r.data, r.poison) else none
    let fromLlc := match x.sys.sector n l with
      | some e => if bit e.d (l % 4) then some ((e.data[l % 4]?).getD 0, bit e.p (l % 4)) else none
      | none => none
    let dirty := fromReq.or (t.got.or fromLlc)
    let x := x.on (fun s => (s.epochUp n l).clearResv n l)
    let x := if r.kind == .cmoClean then x.on (fun s => s.onSlice n (fun z => { z with sectors := z.sectors.map (fun e =>
        if e.q = l / 4 ∧ bit e.v (l % 4) then
          (match dirty with | some (d, _) => { e with
              data := e.data.set (l % 4) d
              d := setBit e.d (l % 4) false
              p := setBit e.p (l % 4) false } | none => e)
        else e) }))
      else x.on (fun s => (s.llcClear n l).sfDel n l)
    if r.kind == .cmoInval then (x.txnFree n t).post (r.doneMsg false 0)
    else match dirty with
    | some (d, p) =>
      let x := x.sendWrite n l d p
      if (x.sys.conf.locate (64 * l)).isSome then
        x.on (fun s => s.onSlice n (fun z => { z with txns := z.txns.map (fun u => if u = t then { t with st := .writing, got := none } else u) }))
      else (x.txnFree n t).post (r.doneMsg false 0)
    | none => (x.txnFree n t).post (r.doneMsg false 0)
  | .offer =>
    let (x, declined) := x.settleOffer n l (nget t.byte 3 4) r.data r.dirty r.poison
    let x := if r.dirty || r.poison then x.on (fun s => s.epochUp n l) else x
    let x := match r.who with
      | .core h =>
        let x := if declined then x.on (fun s => s.hpm h 0x17) else x
        match x.sys.sfGet n l with
        | some e => if e.st = 1 ∧ e.owner = h then x.on (fun s => s.sfDel n l) else x
        | none => x
      | _ => x
    x.txnFree n t
  | .cleanDrop =>
    let x := match x.sys.sfGet n l, r.who with
      | some e, .core h => if e.st = 1 ∧ e.owner = h then x.on (fun s => s.sfDel n l) else x
      | some e, .peer _ => if e.st = 3 then x.on (fun s => s.sfDel n l) else x
      | _, _ => x
    x.txnFree n t
  | .cmoCheck => (x.txnFree n t).post (r.doneMsg false 0)
  | .ncSc =>
    match r.who with
    | .core h =>
      if (x.sys.slice n).resv.contains (h, l) then
        match t.got.or (x.sys.llcLine n l) with
        | some (d, p) => x.writeTxn n t d p
        | none => x.on (fun s => s.onSlice n (fun z => { z with txns := z.txns.map (fun u => if u = t then { t with st := .memory } else u) }))
      else
        let x := x.on (fun s => s.onSlice n (fun z => { z with resv := z.resv.filter (fun p => p.1 ≠ h) }))
        (x.txnFree n t).post (r.doneMsg false 1)
    | _ => x.failTxn n t
  | .upgrade =>
    if x.sys.needsData n r then
      match t.got.or (x.sys.llcLine n l) with
      | some (d, p) => x.withData n t d p false false
      | none => x.on (fun s => s.onSlice n (fun z => { z with txns := z.txns.map (fun u => if u = t then { t with st := .memory } else u) }))
    else
      let x := match r.who.holder with
        | some h => x.sfPut n r.kennel (sfEx l (nget t.byte 3 4) (x.sys.foreign l) h)
        | none => x
      let x := (x.txnFree n t).on (fun s => (s.epochUp n l).clearResv n l)
      match r.who with
      | .core h => x.post (.grant h l (t.byte / 8) false)
      | w => x.post (.reply w l 0 false false)
  | .bind =>
    if x.sys.tokenOk n r then
      let x := x.sfPut n r.kennel ((match x.sys.sfGet n l with
        | some e => e
        | none => sfShare l (nget t.byte 3 4) (x.sys.foreign l) []).share (match r.who with | .core h => .core h | .engine e => .engine e | _ => .remote))
      let x := x.txnFree n t
      match r.who with
      | .core h => x.post (.bindOk h l)
      | w => x.post (.reply w l 0 false false)
    else match t.got.or (x.sys.llcLine n l) with
      | some (d, p) => x.withData n t d p false false
      | none => x.on (fun s => s.onSlice n (fun z => { z with txns := z.txns.map (fun u => if u = t then { t with st := .memory } else u) }))
  | .pfRd | .pfWr =>
    match x.sys.sfGet n l with
    | some e =>
      if e.st = 2 then
        match x.sys.llcLine n l with
        | some (d, p) => x.withData n t d p false false
        | none => x.on (fun s => s.onSlice n (fun z => { z with txns := z.txns.map (fun u => if u = t then { t with st := .memory } else u) }))
      else (x.txnFree n t).post r.errorMsg
    | none =>
      match x.sys.llcLine n l with
      | some (d, p) => x.withData n t d p false false
      | none => x.on (fun s => s.onSlice n (fun z => { z with txns := z.txns.map (fun u => if u = t then { t with st := .memory } else u) }))
  | _ =>
    let x := if r.kind == .ncLr then
        match r.who with
        | .core h => x.on (fun s => s.onSlice n (fun z =>
            let l0 := z.resv.filter (fun p => p.1 ≠ h)
            { z with resv := (if l0.length < 64 then l0 else l0.drop 1) ++ [(h, l)] }))
        | _ => x
      else x
    if x.sys.needsData n r then
      match t.got.or (x.sys.llcLine n l) with
      | some (d, p) => x.withData n t d p false false
      | none => x.on (fun s => s.onSlice n (fun z => { z with txns := z.txns.map (fun u => if u = t then { t with st := .memory } else u) }))
    else x.writeTxn n t ((t.got.map (·.1)).getD 0) false

/-- After ACCESS: a transaction that waits for memory sends its read, is served by a CXL port, waits for the other socket, or
fails where no set holds the line (R308, R335, R457). -/
def M.toMemory (x : M) (n : Nat) (l : Nat) : M :=
  match (x.sys.slice n).txns.find? (fun t => t.req.line = l ∧ t.st = .memory) with
  | none => x
  | some t =>
    if x.sys.foreign l then
      let g := (foldBits l 8 [0, 8, 16, 24, 32] ^^^ nget l 40 6)
      let act := (below 3).filter (fun b => x.sys.on F.BRC_STATUS_IN_MAP b)
      match act[g % act.length]? with
      | some b => x.on (fun s => { s with brace := Bank.set s.brace b (let z := Bank.getD s.brace b ⟨[], 0, none⟩
                                                                     { z with sent := z.sent ++ [⟨z.seq, l⟩], seq := z.seq + 1 }) })
      | none => x.failTxn n t
    else if (x.sys.conf.locate (64 * l)).isSome then x.sendRead n t
    else if x.sys.cxlDecodes (64 * l) then x.withData n t (x.memLine l).1 (x.memLine l).2 true false
    else x.failTxn n t

/-- The active transaction of a line: the one that is past WAIT_LINE. -/
def Sys.lineBusy (s : Sys) (n l : Nat) : Bool := (s.slice n).txns.any (fun t => t.req.line = l ∧ t.st ≠ .waitLine)

/-- Data and snoop-filter entry of a line that another slice still holds, after a rehash or during a drain, move to the slice
that serves the line now (R106, R277). -/
def M.pullLine (x : M) (n l : Nat) : M :=
  match x.sys.slices.find? (fun p => p.1 ≠ n && ((x.sys.sfGet p.1 l).isSome || (x.sys.llcLine p.1 l).isSome)) with
  | none => x
  | some (o, _) =>
    let x := match x.sys.sfGet o l with
      | some e => (x.on (fun s => s.sfDel o l)).sfPut n e.kennel e
      | none => x
    let x := match x.sys.sector o l with
      | some e =>
        if bit e.v (l % 4) then
          ((x.on (fun s => s.llcClear o l)).settleOffer n l e.kennel ((e.data[l % 4]?).getD 0) (bit e.d (l % 4)) (bit e.p (l % 4))).1
        else x
      | none => x
    x.on (fun s => s.epochUp n l)

/-- The oldest waiting transaction of a line becomes active (R308): the check of its page, then its snoops or its access. -/
def M.activate (x : M) (n l : Nat) : M :=
  if x.sys.lineBusy n l then x
  else match (x.sys.slice n).txns.find? (fun t => t.req.line = l) with
  | none => x
  | some t =>
    let (c, x) := x.check n t.req
    match c with
    | .deny cause => (x.on (fun s => s.logDeny t.req cause)).failTxn n t
    | .ok b =>
      let home := x.sys.conf.homeOf (nget b 3 4) (64 * l)
      if home.isSome && home != some n && !t.req.who.device then
        -- forwarded in FWD to the home slice under the owner kennel's hash (R292)
        (x.txnFree n t).post (.req (home.getD n) t.req)
      else
        let x := x.pullLine n l
        let t' := { t with byte := b, wasEx := (x.sys.sfGet n l).any (fun (e : SfEnt) => (e.st == 1 || e.st == 3) && e.holders.any (fun h => some h ≠ t.req.who.holder)) }
        let upd := fun (x : M) (u : Txn) => x.on (fun s => s.onSlice n (fun z => { z with txns := z.txns.map (fun v => if v = t then u else v) }))
        match x.sys.snoopsFor n t.req with
        | some (k, hs) =>
          let x := upd x { t' with st := .snoop, waits := hs }
          x.on (fun s => { s with msgs := s.msgs ++ hs.map (fun h => Msg.snoop n k l h) })
        | none =>
          let x := upd x { t' with st := .snoop }
          (x.access n { t' with st := .snoop }).toMemory n l

/-- The transactions of a line run as far as they can, in order of arrival. -/
def M.runLine (x : M) (n l : Nat) : Nat → M
  | 0 => x
  | fuel + 1 =>
    let left := (x.sys.slice n).txns.length
    if x.sys.lineBusy n l || left = 0 then x else (x.activate n l).runLine n l fuel

/-- After an entry was freed: transactions of the line go on, and waiting reads take the credits (R308, R328). -/
def M.settle (x : M) (n l : Nat) : M :=
  let x := x.runLine n l 193
  let x := ((x.sys.slice n).txns.filter (fun t => t.st = .memory)).foldl (fun x t => x.sendRead n t) x
  x.on (fun s => s.showHa n)

/-- A home agent receives a request (R262, R304, R306, R307, R327). In the heel state it serves kennel 15 alone, and messages of the
Brace are discarded (R542, R543). -/
def M.accept (x : M) (n : Nat) (r : Req) : M :=
  let st := x.sys.slState n
  if x.sys.heeled && (match r.who with | .peer _ => true | _ => false) then x
  else if x.sys.heeled && r.kennel != 15 then x.post r.errorMsg
  else if st = slHold || st = slDraining then x.post (.retryDest n r)
  else if !([slReady, slClearingData, slOn, slDisabling].contains st) then x.post r.errorMsg
  else match r.kind, r.who, (x.sys.slice n).txns.find? (fun t => t.req.line = r.line ∧ t.offerOf.isSome) with
  | .offer, .core h, some t =>
    if t.offerOf = some h then
      -- the offer is the holder's answer (R304)
      let t' := { t with offerOf := none, got := if r.dirty || r.poison then some (r.data, r.poison) else t.got }
      let x := x.on (fun s => s.onSlice n (fun z => { z with txns := z.txns.map (fun u => if u = t then t' else u) }))
      (if t'.waits.isEmpty then ((x.access n t').toMemory n r.line) else x).settle n r.line
    else x
  | _, _, _ =>
    if x.sys.roomFor n r then
      let x := x.on (fun s => s.onSlice n (fun z => { z with
        txns := z.txns ++ [⟨r, .waitLine, r.pool, [], none, none, 0, false⟩]
        goHeld := z.goHeld.erase (r.who.stop, r.kennel) }))
      x.settle n r.line
    else if r.pool == .general then
      let x := x.post (.retry n r)
      x.on (fun s => s.onSlice n (fun z =>
        let w := Bank.getD z.wake r.kennel []
        { z with wake := Bank.set z.wake r.kennel (if w.contains r.who.stop then w else w ++ [r.who.stop]) }))
    else x.post (.req n r)

/-- The kennel and world a requester's request carries (R21, R380): a hart's, a port link's, a service core's, a channel's;
the peer's as named. -/
def Sys.srcOf (s : Sys) (w : ReqSrc) : Source × Nat × Bool :=
  match w with
  | .core h => (.core h, s.hartKennel h, s.worldS h)
  | .derrum d => (.derrum d, 15, s.on F.dmctl_WORLD d)
  | .port p j => (.port p j, ((s.conf.port p).kennels[j.val]?).getD 15, bit (s.conf.port p).world j)
  | .engine e =>
    let c := s.rf F.RTV_ENG_STATUS_CHANNEL e
    (.engine e, s.rf F.RTV_CH_BIND_KENNEL c, s.on F.RTV_CH_BIND_WORLD_S c)
  | .peer k sec dev => (.peer dev, k, sec)

/-- A service core's access to the mesh: a dmctl write of up to two issue groups before may or may not govern its world yet, and each
group holds one access at most (R495, R506). -/
def Sys.drmWorld (s : Sys) (d : Nat) : Bool × Sys :=
  match Bank.get? s.drm.cores d with
  | none => (s.on F.dmctl_WORLD d, s)
  | some c =>
    match c.late.find? (fun l => l.reg = .dmctl ∧ 0 < l.left) with
    | none => (s.on F.dmctl_WORLD d, s)
    | some l =>
      let old := s.freeVal 1 = 1
      let c := { c with late := (c.late.map (fun e => { e with left := e.left - 1 })).filter (fun e => 0 < e.left) }
      (if old then fget l.old 0 1 == 1 else s.on F.dmctl_WORLD d,
        ({ s with drm := { s.drm with cores := Bank.set s.drm.cores d c } } : Sys).usedFree)

/-- The request that arrives at a home agent, and the context it is accepted in: the one under way that the command delivers, with what
that carries, or, where none is, the one the command describes. -/
def M.arriving (x : M) (n : Nat) (w : ReqSrc) (mk : Req → Req) (kind : ReqKind) (line : Line) : Req × M :=
  let (src, k, sec) := x.sys.srcOf w
  let (sec, x) := match w with
    | .derrum d => let (b, s) := x.sys.drmWorld d; (b, ({ x with sys := s } : M))
    | _ => (sec, x)
  let l := line.toNat
  match takeMsg (Msg.isReq n kind l src) x.sys.msgs with
  | some (.req _ r, rest) => (r, { x with sys := { x.sys with msgs := rest } })
  | _ => (mk { kind := kind, line := l, who := src, kennel := k, secure := sec }, x)

/-- A request arrives at a home agent. -/
def M.arrive (x : M) (n : Nat) (w : ReqSrc) (mk : Req → Req) (kind : ReqKind) (line : Line) : M :=
  let (r, x) := x.arriving n w mk kind line
  x.accept n r

/-! ## Snoops, answers and memory -/

def Answer.isData (a : Answer) : Bool := match a with | .data _ => true | _ => false

/-- A holder answers a snoop that is on its way to it; a fill of the line still due holds it back (R301, R302). -/
def Sys.snoopArrives (s : Sys) (k : Snoop) (h : Holder) (l : Nat) : Sys :=
  match takeMsg (Msg.isSnoop k h l) s.msgs with
  | some (.snoop n _ _ _, rest) =>
    match h with
    | .core c =>
      if s.fillDue c l then s
      else
        let (a, s) := ({ s with msgs := rest } : Sys).snoopCore k c l
        { s with msgs := s.msgs ++ [.ack n l h a] }
    | .engine i =>
      let st := Bank.getD s.staging i []
      let a := match st.find? (fun g => g.line = l) with
        | some g => if g.dst then (if g.poison then Answer.poison else .data g.data) else .clean
        | none => .none
      let keep := match k with | .inv => false | _ => true
      let s := { s with msgs := rest ++ [.ack n l h a] }
      if keep then s else { s with staging := Bank.set s.staging i (st.filter (fun g => g.line ≠ l)) }
    | .remote => s
  | _ => s

/-- A home agent takes a snoop answer (R304, R308). The other socket's answer comes as an operand. -/
def M.answer (x : M) (n : Nat) (h : Holder) (l : Nat) (sel : Answer → Bool) (peer : Option Answer) : M :=
  let found : Option (Answer × List Msg) := match h, peer with
    | .remote, some a =>
      (takeMsg (Msg.isSnoopOf n .remote l) x.sys.msgs).map (fun r => (a, r.2))
    | _, _ => match takeMsg (Msg.isAck n h l sel) x.sys.msgs with
      | some (.ack _ _ _ a, rest) => some (a, rest)
      | _ => none
  match found with
  | none => x
  | some (a, rest) =>
    let x := { x with sys := { x.sys with msgs := rest } }
    match (x.sys.slice n).txns.find? (fun t => t.req.line = l ∧ t.st = .snoop ∧ t.waits.contains h) with
    | none => x
    | some t =>
      let t' := { t with
        waits := t.waits.erase h
        got := match a with | .data d => some (d, false) | .poison => some (0, true) | _ => t.got
        offerOf := match a, h with | .offered, .core c => some c | _, _ => t.offerOf }
      let x := x.on (fun s => s.onSlice n (fun z => { z with txns := z.txns.map (fun u => if u = t then t' else u) }))
      (if t'.waits.isEmpty && t'.offerOf.isNone then (x.access n t').toMemory n l else x).settle n l

/-- A memory controller's answer reaches the home agent (R302, R372); for a line of the other socket the answer is the
operand's. -/
def M.memDone (x : M) (n l : Nat) (peer : Option PeerLine) : M :=
  match (x.sys.slice n).txns.find? (fun t => t.req.line = l ∧ t.st = .memory) with
  | none => x
  | some t =>
    match peer, x.sys.foreign l with
    | some p, true => (x.withData n t p.data p.poison true false).settle n l
    | _, _ =>
      match (below 16).find? (fun m => (x.sys.chan m).done.any (fun d => d.slice = n ∧ d.line = l)) with
      | none => x
      | some m =>
        match (x.sys.chan m).done.find? (fun d => d.slice = n ∧ d.line = l) with
        | none => x
        | some d =>
          let x := x.on (fun s => s.onChan m (fun c => { c with done := c.done.erase d }))
          (if d.err then x.failTxn n t else x.withData n t d.data d.poison true d.ddr).settle n l

/-- A controller accepts the oldest write sent to it; the transaction that waits for it completes (R308, R338), with an error
where the channel does not serve (R372). While the write queue is full the write waits (R328). -/
def M.mcWrite (x : M) (m : Nat) : M :=
  match (x.sys.chan m).mwr with
  | [] => x
  | w :: _ =>
    if 192 ≤ (x.sys.chan (x.sys.performer m)).writeQ.length && !(x.sys.chan (x.sys.performer m)).writeQ.any (fun e => e.1 = w.line) then x
    else
    let bad := !x.sys.mcServes m && x.sys.mcState m != mcOffline
    let x := x.acceptWrite m w
    match (x.sys.slice w.slice).txns.find? (fun t => t.req.line = w.line ∧ t.st = .writing) with
    | some t => ((x.txnFree w.slice t).post (t.req.doneMsg bad ((t.got.map (·.1.toNat)).getD 0 % 2 ^ 64))).settle w.slice w.line
    | none => x

/-- An open entry: GO to the stop at the head of the kennel's wake list, which resends its oldest retried request (R307). -/
def Sys.go (s : Sys) (n k : Nat) : Sys :=
  let z := s.slice n
  match Bank.getD z.wake k [] with
  | [] => s
  | i :: rest =>
    let probe : Req := { kind := .rdShared, line := 0, who := .core (4 * i), kennel := k, secure := false }
    if i < 64 && !s.roomFor n probe then s
    else
      let s := s.onSlice n (fun z => { z with wake := Bank.set z.wake k rest, goHeld := z.goHeld ++ [(i, k)] })
      match (s.stop i).retried.find? (fun p => p.1 = n ∧ p.2.kennel = k) with
      | some p =>
        let s := s.onStop i (fun t => { t with retried := t.retried.erase p })
        { s with msgs := s.msgs ++ [Msg.req n p.2] }
      | none => s

/-- A stop has not resent within 64 mesh cycles: it loses the held entry and goes to the tail of the list (R307). -/
def Sys.goExpiry (s : Sys) (n k : Nat) : Sys :=
  match (s.slice n).goHeld.find? (fun g => g.2 = k) with
  | some (i, _) =>
    if s.msgs.any (fun m => match m with | .req n' r => n' == n && r.who.stop == i && r.kennel == k | _ => false) then s
    else s.onSlice n (fun z => { z with goHeld := z.goHeld.erase (i, k), wake := Bank.set z.wake k (Bank.getD z.wake k [] ++ [i]) })
  | none => s

/-- A snoop answer is overdue by 100 µs (R309). -/
def Sys.snoopTimeout (s : Sys) (n l : Nat) : Sys :=
  if (s.slice n).txns.any (fun t => t.req.line = l ∧ t.st = .snoop ∧ !t.waits.isEmpty) then s.raise (srcTile n 10) else s

/-- The holder an operand names. -/
def HolderId.holder : HolderId → Holder
  | .core h => .core h | .engine e => .engine e | .remote => .remote

/-! ## Commands -/

def execRdShared (n : Fin 64) (w : ReqSrc) (line : Line) (first : Fin 4) (s : State) : Host.Outcome State Fault Refusal :=
  onM (fun x => x.arrive n w (fun r => { r with first := first }) .rdShared line) s
def execRdOwn (n : Fin 64) (w : ReqSrc) (line : Line) (first : Fin 4) (s : State) : Host.Outcome State Fault Refusal :=
  onM (fun x => x.arrive n w (fun r => { r with first := first }) .rdOwn line) s
def execUpgrade (n : Fin 64) (w : ReqSrc) (line : Line) (s : State) : Host.Outcome State Fault Refusal := onM (fun x => x.arrive n w id .upgrade line) s
def execOwnZero (n : Fin 64) (w : ReqSrc) (line : Line) (s : State) : Host.Outcome State Fault Refusal := onM (fun x => x.arrive n w id .ownZero line) s
def execRdSpec (n : Fin 64) (w : ReqSrc) (line : Line) (first : Fin 4) (s : State) : Host.Outcome State Fault Refusal :=
  onM (fun x => x.arrive n w (fun r => { r with first := first }) .rdSpec line) s
def execBind (n : Fin 64) (w : ReqSrc) (line : Line) (token : Token) (s : State) : Host.Outcome State Fault Refusal :=
  onM (fun x => x.arrive n w (fun r => { r with tok := token }) .bind line) s
def execPfRd (n : Fin 64) (w : ReqSrc) (line : Line) (s : State) : Host.Outcome State Fault Refusal := onM (fun x => x.arrive n w id .pfRd line) s
def execPfWr (n : Fin 64) (w : ReqSrc) (line : Line) (s : State) : Host.Outcome State Fault Refusal := onM (fun x => x.arrive n w id .pfWr line) s
def execOffer (n : Fin 64) (w : ReqSrc) (line : Line) (data : BitVec 512) (dirty poison : Bool) (s : State) : Host.Outcome State Fault Refusal :=
  onM (fun x => x.arrive n w (fun r => { r with data := data, dirty := dirty, poison := poison }) .offer line) s
def execCleanDrop (n : Fin 64) (w : ReqSrc) (line : Line) (s : State) : Host.Outcome State Fault Refusal := onM (fun x => x.arrive n w id .cleanDrop line) s
def execCmoClean (n : Fin 64) (w : ReqSrc) (line : Line) (data : Option (BitVec 512)) (s : State) : Host.Outcome State Fault Refusal :=
  onM (fun x => x.arrive n w (fun r => { r with data := data.getD 0, dirty := data.isSome }) .cmoClean line) s
def execCmoFlush (n : Fin 64) (w : ReqSrc) (line : Line) (data : Option (BitVec 512)) (s : State) : Host.Outcome State Fault Refusal :=
  onM (fun x => x.arrive n w (fun r => { r with data := data.getD 0, dirty := data.isSome }) .cmoFlush line) s
def execCmoInval (n : Fin 64) (w : ReqSrc) (line : Line) (s : State) : Host.Outcome State Fault Refusal := onM (fun x => x.arrive n w id .cmoInval line) s
def execCmoCheck (n : Fin 64) (w : ReqSrc) (line : Line) (s : State) : Host.Outcome State Fault Refusal := onM (fun x => x.arrive n w id .cmoCheck line) s
def execNcRd (n : Fin 64) (w : ReqSrc) (line : Line) (s : State) : Host.Outcome State Fault Refusal := onM (fun x => x.arrive n w id .ncRd line) s
def execNcWr (n : Fin 64) (w : ReqSrc) (line : Line) (data : BitVec 512) (mask : BitVec 64) (s : State) : Host.Outcome State Fault Refusal :=
  onM (fun x => x.arrive n w (fun r => { r with data := data, mask := mask }) .ncWr line) s
def execNcAmo (n : Fin 64) (w : ReqSrc) (line : Line) (op : AmoOp) (dword : Bool) (data : BitVec 512) (mask : BitVec 64) (s : State) :
    Host.Outcome State Fault Refusal :=
  onM (fun x => x.arrive n w (fun r => { r with data := data, mask := mask, amo := op, dword := dword }) .ncAmo line) s
def execNcLr (n : Fin 64) (w : ReqSrc) (line : Line) (s : State) : Host.Outcome State Fault Refusal := onM (fun x => x.arrive n w id .ncLr line) s
def execNcSc (n : Fin 64) (w : ReqSrc) (line : Line) (data : BitVec 512) (mask : BitVec 64) (s : State) : Host.Outcome State Fault Refusal :=
  onM (fun x => x.arrive n w (fun r => { r with data := data, mask := mask }) .ncSc line) s
def execDevRd (n : Fin 64) (w : ReqSrc) (line : Line) (s : State) : Host.Outcome State Fault Refusal := onM (fun x => x.arrive n w id .devRd line) s
def execDevWr (n : Fin 64) (w : ReqSrc) (line : Line) (data : BitVec 512) (mask : BitVec 64) (s : State) : Host.Outcome State Fault Refusal :=
  onM (fun x => x.arrive n w (fun r => { r with data := data, mask := mask }) .devWr line) s
def execSnpShare (h : HolderId) (line : Line) (s : State) : Host.Outcome State Fault Refusal := onSys (fun s => s.snoopArrives .share h.holder line.toNat) s
def execSnpInv (h : HolderId) (line : Line) (s : State) : Host.Outcome State Fault Refusal := onSys (fun s => s.snoopArrives .inv h.holder line.toNat) s
def execSnpPeek (h : HolderId) (line : Line) (s : State) : Host.Outcome State Fault Refusal := onSys (fun s => s.snoopArrives .peek h.holder line.toNat) s
def execSnpClean (h : HolderId) (line : Line) (s : State) : Host.Outcome State Fault Refusal := onSys (fun s => s.snoopArrives .clean h.holder line.toNat) s
def execAckData (n : Fin 64) (h : HolderId) (line : Line) (peer : Option (BitVec 512)) (s : State) : Host.Outcome State Fault Refusal :=
  onM (fun x => x.answer n h.holder line.toNat Answer.isData (peer.map .data)) s
def execAck (n : Fin 64) (h : HolderId) (line : Line) (s : State) : Host.Outcome State Fault Refusal :=
  onM (fun x => x.answer n h.holder line.toNat (· == .clean) (some .clean)) s
def execAckNone (n : Fin 64) (h : HolderId) (line : Line) (s : State) : Host.Outcome State Fault Refusal :=
  onM (fun x => x.answer n h.holder line.toNat (· == .none) (some .none)) s
def execAckPoison (n : Fin 64) (h : HolderId) (line : Line) (s : State) : Host.Outcome State Fault Refusal :=
  onM (fun x => x.answer n h.holder line.toNat (· == .poison) (some .poison)) s
def execAckOffered (n : Fin 64) (h : HolderId) (line : Line) (s : State) : Host.Outcome State Fault Refusal :=
  onM (fun x => x.answer n h.holder line.toNat (· == .offered) none) s
def execMemDone (n : Fin 64) (line : Line) (peer : Option PeerLine) (s : State) : Host.Outcome State Fault Refusal :=
  onM (fun x => x.memDone n line.toNat peer) s
def execMcWrite (m : Fin 16) (s : State) : Host.Outcome State Fault Refusal := onM (fun x => x.mcWrite m) s
def execGo (n : Fin 64) (k : Fin 16) (s : State) : Host.Outcome State Fault Refusal := onSys (fun s => s.go n k) s
def execGoHoldExpiry (n : Fin 64) (k : Fin 16) (s : State) : Host.Outcome State Fault Refusal := onSys (fun s => s.goExpiry n k) s
def execSnoopTimeout (n : Fin 64) (line : Line) (s : State) : Host.Outcome State Fault Refusal := onSys (fun s => s.snoopTimeout n line.toNat) s

end Sys2Proof.Machine
end

