-- ==== Sys2Proof/Machine/Csr.lean ====
section
/-!
DEFINITION. A hart's CSRs, its mode and world changes, traps and returns (ch. 4).
-/
namespace Sys2Proof.Machine

/-! ## Running -/

/-- The states of TILE_CORE_PWR (R583). -/
def psCs0 : Nat := 0
def psCs1 : Nat := 1
def psCs2 : Nat := 2
def psCs3 : Nat := 3
def psCs4 : Nat := 4
def psStopped : Nat := 5
def psResetHeld : Nat := 6
def psOffline : Nat := 7
def psEntering : Nat := 8
def psExiting : Nat := 9
def psHalted : Nat := 10

def Sys.coreState (s : Sys) (h : Nat) : Nat := s.rf F.TILE_CORE_PWR_STATE (h / 4) (h % 4)
/-- A core enters a power state; a core that leaves CS3 or CS4 starts its domain's clock again (R431). -/
def Sys.coreTo (s : Sys) (h st : Nat) : Sys :=
  let s := s.put F.TILE_CORE_PWR_STATE st (h / 4) (h % 4)
  s.when (!([psCs3, psCs4, psStopped, psResetHeld, psOffline].contains st)) (fun s => s.clockRestart (s.hartKennel h) false)

/-- The core holds architectural state: it is not STOPPED, RESET_HELD or OFFLINE. -/
def Sys.alive (s : Sys) (h : Nat) : Bool := !([psStopped, psResetHeld, psOffline].contains (s.coreState h))

/-- The hart executes instructions: its core is in CS0, it is not halted for debug, it waits in no WFI or WFS, and the socket is not in
the heel state (R542). -/
def Sys.runs (s : Sys) (h : Nat) : Bool :=
  s.coreState h == psCs0 && !s.heeled && !(s.hart h).halted && (s.hart h).wait == .run

/-- The next instruction to retire is one that holds no place of the reorder buffer. -/
def Hart.plainNext (t : Hart) : Bool :=
  match t.rob with
  | u :: _ => u.pc != t.pc
  | [] => true

/-- The hart is about to execute an ordinary instruction at its pc. -/
def Sys.ready (s : Sys) (h : Nat) : Bool := s.runs h && (s.hart h).plainNext

/-! ## Registers of the hart -/

def Hart.xGet (t : Hart) (n : Nat) : Word := if n = 0 then 0 else Bank.getD t.x n 0
def Hart.xSet (t : Hart) (n : Nat) (v : Word) : Hart := if n = 0 then t else { t with x := Bank.set t.x n v }

def mstatus : Nat := 0x300
def hstatus : Nat := 0x600
def vsstatus : Nat := 0x200

/-- A field of a CSR. -/
def Hart.cf (t : Hart) (n lo wd : Nat) : Nat := fget (t.csrGet n) lo wd
def Hart.cput (t : Hart) (n lo wd v : Nat) : Hart := t.csrSet n (fput (t.csrGet n) lo wd v)

/-- The predictor context tag of a hart (R140). -/
def Sys.ctxTag (s : Sys) (h : Nat) : Nat :=
  let t := s.hart h
  16 * s.hartKennel h + 8 * b2n (s.worldS h) + 4 * b2n t.virt + t.priv

/-- The kennel record of a hart. -/
def Sys.kennelOf (s : Sys) (h : Nat) : KennelRec := s.conf.kennel (s.hartKennel h)

/-- A Skohal CSR as a read finds it (R140 to R147). -/
def Sys.skohal (s : Sys) (h : Nat) (r : Reg) : Word :=
  let w := s.rd ⟨r, h, 0⟩
  let k := s.kennelOf h
  match r with
  | .tlctl => fput (fput (fput (fput (fput (fput w 55 1 (b2n k.sumLock)) 54 1 (b2n k.svadu)) 53 1 (b2n k.ztso)) 52 1 (b2n k.spanLocked))
      48 4 (s.hartKennel h)) 40 8 (s.ctxTag h)
  | .tlspan => fput (fput (fput (fput 0 63 1 (b2n s.inWindow)) 62 1 (b2n k.spanLocked)) 59 3 s.span.k) 0 48 s.spanNo
  | .tlwin => fput (fput (fput (fput 0 63 1 (b2n s.inWindow)) 48 7 s.span.window) 24 18 s.spanS) 0 18 s.phase
  | .tllock => fput w 32 16 (s.rf F.tlctl_LOCK_M h)
  | _ => w

/-- A Skohal CSR as it governs the hart now: while a write is late, each field of it is the old or the new one (R148); which is a
free value (log 1). -/
def Sys.ctl (s : Sys) (h : Nat) (r : Reg) : Word :=
  ((s.hart h).late.filter (fun l => l.reg = r)).foldl (fun w l =>
    (r.rows.mapIdx (fun i x => (i, x))).foldl (fun w x =>
      if bit (s.freeVal 64) x.1 then fput w x.2.lo x.2.wd (fget l.old x.2.lo x.2.wd) else w) w) (s.rd ⟨r, h, 0⟩)

/-- A field of a Skohal CSR as it governs. -/
def Sys.cf (s : Sys) (h : Nat) (f : Fld) : Nat := fget (s.ctl h f.reg) f.lo f.wd

/-! ## Mode and world changes (R130, R131, R148, R161, R197) -/

/-- The hart changes privilege, virtualisation and world: late CSR writes take effect, and the flushes of the change are made. -/
def Sys.modeTo (s : Sys) (h priv : Nat) (virt world : Bool) : Sys :=
  let t := s.hart h
  let world := world && !s.on F.tlworld_NOSEC h
  let wChg := s.worldS h != world
  let mChg := t.priv != priv || t.virt != virt
  let s := (s.onHart h (fun t => { t with priv := priv, virt := virt, late := [] })).put F.tlworld_WORLD (b2n world) h
  let s := s.when wChg (fun s => s.hpm h 0x53)
  let s := s.when (wChg || mChg) (fun s => s.sfbFlush h false)
  s.when (wChg || (mChg && s.on F.tlpred_FLUSH_PRIV h)) (fun s => s.predFlush h)

/-- The target of a trap: BASE, and the cause's slot for an interrupt in vectored mode. -/
def tvecPc (tvec : Word) (intr : Bool) (code : Nat) : Word :=
  let base := (tvec >>> 2) <<< 2
  if intr && fget tvec 0 2 == 1 then base + BitVec.ofNat 64 (4 * code) else base

/-- mcause or scause. -/
def causeWord (intr : Bool) (code : Nat) : Word := BitVec.ofNat 64 (code + b2n intr * 2 ^ 63)

/-- A trap of the RISC-V Privileged Architecture at a pc: delegation, saved state, mode, vector (R130, R202). `gva` says that tval
is a guest virtual address. Every unretired instruction is squashed, and the reservation ends (R112). -/
def Sys.trap (s : Sys) (h code : Nat) (intr : Bool) (pc : Word) (tval tval2 : Nat) (gva : Bool) : Sys :=
  let s := (s.squash h 0).onHart h (fun t => { t with resv := none, wait := .run, fwalk := [] })
  let t := s.hart h
  let tv := BitVec.ofNat 64 tval
  let deleg := fun (n m : Nat) => fget (t.csrGet (if intr then n else m)) code 1 == 1
  if t.priv < 3 && deleg 0x303 0x302 then
    if t.virt && deleg 0x603 0x602 then
      -- to VS-mode
      let code' := if intr && (code == 2 || code == 6 || code == 10) then code - 1 else code
      let t := (((t.csrSet 0x241 pc).csrSet 0x242 (causeWord intr code')).csrSet 0x243 tv)
      let t := ((t.cput vsstatus 8 1 t.priv).cput vsstatus 5 1 (t.cf vsstatus 1 1)).cput vsstatus 1 1 0
      (s.hartTo h { t with pc := tvecPc (t.csrGet 0x205) intr code' }).modeTo h 1 true (s.worldS h)
    else
      -- to HS-mode
      let t := ((((t.csrSet 0x141 pc).csrSet 0x142 (causeWord intr code)).csrSet 0x143 tv).csrSet 0x643 (BitVec.ofNat 64 (tval2 / 4))).csrSet 0x64A 0
      let t := ((t.cput mstatus 8 1 (min 1 t.priv)).cput mstatus 5 1 (t.cf mstatus 1 1)).cput mstatus 1 1 0
      let t := if t.virt then t.cput hstatus 8 1 t.priv else t
      let t := (t.cput hstatus 7 1 (b2n t.virt)).cput hstatus 6 1 (b2n gva)
      (s.hartTo h { t with pc := tvecPc (t.csrGet 0x105) intr code }).modeTo h 1 false (s.worldS h)
  else
    -- to M-mode
    let w := s.worldS h
    let t := ((((t.csrSet 0x341 pc).csrSet 0x342 (causeWord intr code)).csrSet 0x343 tv).csrSet 0x34B (BitVec.ofNat 64 (tval2 / 4))).csrSet 0x34A 0
    let t := ((((t.cput mstatus 11 2 t.priv).cput mstatus 39 1 (b2n t.virt)).cput mstatus 7 1 (t.cf mstatus 3 1)).cput mstatus 3 1 0).cput mstatus 38 1 (b2n gva)
    let s := (s.hartTo h { t with pc := tvecPc (t.csrGet 0x305) intr code }).put F.tlworld_PWORLD (b2n w) h
    s.modeTo h 3 false true

/-- The state restored by mret (R130): privilege, virtualisation, interrupt enable, pc; the world below M-mode is RWORLD. -/
def Sys.mretTo (s : Sys) (h : Nat) : Sys :=
  let t := s.hart h
  let p := t.cf mstatus 11 2
  let v := t.cf mstatus 39 1 == 1 && p != 3
  let t := ((t.cput mstatus 3 1 (t.cf mstatus 7 1)).cput mstatus 7 1 1).cput mstatus 11 2 0
  let t := t.cput mstatus 39 1 0
  let t := if p ≠ 3 then t.cput mstatus 17 1 0 else t
  let s := (s.squash h 0).hartTo h { t with pc := (t.csrGet 0x341 >>> 1) <<< 1, rob := [] }
  s.modeTo h p v (if p = 3 then s.worldS h else s.on F.tlworld_RWORLD h)

/-- An instruction has retired: minstret and INST_RETIRED count, late CSR writes come nearer (R148). mcycle goes on by a free
amount (log 1): cycles are not modelled. -/
def Sys.retired (s : Sys) (h : Nat) : Sys :=
  let s := (s.onHart h (fun t =>
    let t := (t.csrSet csrMinstret (t.csrGet csrMinstret + 1)).csrSet csrMcycle (t.csrGet csrMcycle + BitVec.ofNat 64 (s.freeVal 32))
    { t with late := (t.late.map (fun l => { l with left := l.left - 1 })).filter (fun l => l.left ≠ 0) })).usedFree
  (s.hpm h 0x01).hpm h 0x02

/-- An ordinary instruction of `len` bytes retires with nothing else to do. -/
def Sys.next (s : Sys) (h len : Nat) : Sys :=
  (s.onHart h (fun t => { t with pc := t.pc + BitVec.ofNat 64 len })).retired h

/-- An exception of the instruction at the hart's pc that carries no address. -/
def Sys.raiseAt (s : Sys) (h cause : Nat) : Sys := s.trap h cause false (s.hart h).pc 0 0 false

def exIllegal : Nat := 2
def exVirtual : Nat := 22

/-! ## Interrupts -/

/-- The context request lines of a hart (R123). -/
def Sys.lineOf (s : Sys) (k : RK) : Bool := fget (s.rd k) F.ICN_CTX_THRESH_LINE.lo 1 == 1

/-- mip as the hart sees it (R123, R149): the ICN's lines, the timer comparisons, and what software wrote. -/
def Sys.mip (s : Sys) (h : Nat) : Word :=
  let t := s.hart h
  let sw := t.csrGet csrMip
  let now := s.span.now
  let line := fun (ctx : Nat) => ((s.ctxKey (s.hartKennel h) h ctx).map s.lineOf).getD false
  let put := fun (w : Word) (i : Nat) (b : Bool) => if b then fput w i 1 1 else w
  let w := put (put sw 11 (line 0)) 9 (line 1)
  let w := if t.cf 0x30A 63 1 = 1 then fput w 5 1 (b2n (decide ((t.csrGet 0x14D).toNat ≤ now))) else w
  let w := if t.cf 0x60A 63 1 = 1 && t.cf 0x30A 63 1 = 1 then
      put w 6 (decide ((t.csrGet 0x24D).toNat ≤ (BitVec.ofNat 64 now + t.csrGet 0x605).toNat)) else w
  let vgein := t.cf hstatus 12 6
  put w 10 (decide (1 ≤ vgein) && decide (vgein ≤ 7) && line (vgein + 1))

/-- The WFI wake condition: an interrupt pending and enabled, whatever the global enables (R124, R128). -/
def Sys.wakePending (s : Sys) (h : Nat) : Bool := (s.mip h &&& (s.hart h).csrGet 0x304) != 0

/-- The interrupt that is taken now: its code, by destination mode and then in the architecture's order. -/
def Sys.intrNow (s : Sys) (h : Nat) : Option Nat :=
  let t := s.hart h
  let p := s.mip h &&& t.csrGet 0x304
  let d := t.csrGet 0x303 ||| 0x1444
  let hd := t.csrGet 0x603
  let order := [11, 3, 7, 9, 1, 5, 12, 10, 2, 6, 13]
  let pick := fun (w : Word) => order.find? (fun i => fget w i 1 = 1)
  let m := p &&& ~~~ d
  let hs := p &&& d &&& ~~~ hd
  let vs := p &&& d &&& hd
  if t.priv < 3 || t.cf mstatus 3 1 = 1 then
    match pick m with
    | some i => some i
    | none =>
      if t.priv = 3 then none
      else
      match (if t.priv = 0 || t.virt || t.cf mstatus 1 1 = 1 then pick hs else none) with
      | some i => some i
      | none => if t.virt && (t.priv = 0 || t.cf vsstatus 1 1 = 1) then pick vs else none
  else none

/-! ## Standard CSRs (R111, R112, R119, R120, R132, R149) -/

/-- The CSR a supervisor CSR number names in VS-mode. -/
def Hart.csrAlias (t : Hart) (n : Nat) : Nat :=
  if t.virt && [0x100, 0x104, 0x105, 0x141, 0x142, 0x143, 0x144, 0x180, 0x140, 0x14D].contains n then n + 0x100 else n

/-- The bits of mstatus that sstatus shows. -/
def sstatusMask : Word := 0x80000003000DE762

/-- The Skohal CSR at a number. -/
def skohalAt (n : Nat) : Option Reg :=
  match n with
  | 0x7C0 => some .tlctl | 0x7C1 => some .tlpred | 0x7C2 => some .tlworld | 0x7C3 => some .tlwvec
  | 0x5C0 => some .tlpf | 0x5C1 => some .tllock | 0xCC0 => some .tlspan | 0xCC1 => some .tlwin
  | _ => none

/-- Numbers at which a CSR is implemented. -/
def csrKnown (n : Nat) : Bool :=
  (skohalAt n).isSome || [0x001, 0x002, 0x003, 0x008, 0x009, 0x00A, 0x00F, 0xC00, 0xC01, 0xC02, 0xC20, 0xC21, 0xC22, 0x100, 0x104, 0x105, 0x106,
    0x10A, 0x140, 0x141, 0x142, 0x143, 0x144, 0x14D, 0x180, 0x200, 0x204, 0x205, 0x240, 0x241, 0x242, 0x243, 0x244, 0x24D, 0x280, 0x300,
    0x301, 0x302, 0x303, 0x304, 0x305, 0x306, 0x30A, 0x320, 0x340, 0x341, 0x342, 0x343, 0x344, 0x34A, 0x34B, 0x600, 0x602, 0x603, 0x604,
    0x605, 0x606, 0x607, 0x60A, 0x643, 0x644, 0x645, 0x64A, 0x680, 0x747, 0x7A0, 0x7A1, 0x7A2, 0x7A3, 0x7B0, 0x7B1, 0x7B2, 0xB00, 0xB02,
    0xE12, 0xF11, 0xF12, 0xF13, 0xF14, 0xF15, 0xDA0, 0x017, 0x015, 0x5A8, 0x10C].contains n ||
  (0xC03 ≤ n && n ≤ 0xC1F) || (0xB03 ≤ n && n ≤ 0xB1F) || (0x323 ≤ n && n ≤ 0x33F) || (0x3A0 ≤ n && n ≤ 0x3AE && n % 2 = 0) || (0x3B0 ≤ n && n ≤ 0x3EF)

/-- The exception a CSR access raises, if any (R139 for the Skohal CSRs). -/
def Sys.csrFault (s : Sys) (h n : Nat) (write : Bool) : Option Nat :=
  let t := s.hart h
  let need := nget n 8 2
  if !csrKnown n then some exIllegal
  else if nget n 10 2 = 3 && write then some exIllegal
  else if t.virt && (n = 0x5C0 || n = 0x5C1) then some exVirtual
  else if t.priv = 3 then none
  else if need = 3 then some exIllegal
  else if t.virt && (need = 2 || (need = 1 && t.priv = 0)) then some exVirtual
  else if need = 2 && t.priv = 0 then some exIllegal
  else if need = 1 && t.priv = 0 then some exIllegal
  else if 0xC00 ≤ n && n ≤ 0xC1F then
    let i := n % 32
    if t.cf 0x306 i 1 = 0 then some exIllegal
    else if t.virt && t.cf 0x606 i 1 = 0 then some exVirtual
    else if t.priv = 0 && t.cf 0x106 i 1 = 0 then (if t.virt then some exVirtual else some exIllegal)
    else none
  else if n = 0x180 && t.cf (if t.virt then hstatus else mstatus) 20 1 = 1 then some (if t.virt then exVirtual else exIllegal)
  else none

/-- A CSR's value as a read finds it. -/
def Sys.csrRead (s : Sys) (h n : Nat) : Word :=
  let t := s.hart h
  let n := t.csrAlias n
  match skohalAt n with
  | some r => s.skohal h r
  | none =>
    let sd := fun (w : Word) => if fget w 13 2 = 3 || fget w 9 2 = 3 then fput w 63 1 1 else fput w 63 1 0
    let xl := fun (w : Word) => fput w 32 2 2
    match n with
    | 0xF11 => 0x5A3
    | 0xF12 => 0x8000000000009256
    | 0xF13 => 0xB0
    | 0xF14 => BitVec.ofNat 64 (h + 0x100 * s.socket)
    | 0x301 => 0x80000000003411AF
    | 0xC22 => 32
    | 0x300 => fput (xl (sd (t.csrGet 0x300))) 34 2 2
    | 0x100 => xl (sd (t.csrGet 0x300 &&& sstatusMask))
    | 0x200 => xl (sd (t.csrGet 0x200))
    | 0x303 => t.csrGet 0x303 ||| 0x1444
    | 0x344 => s.mip h
    | 0x144 => s.mip h &&& (t.csrGet 0x303 ||| 0x1444) &&& 0x2222
    | 0x104 => t.csrGet 0x304 &&& (t.csrGet 0x303 ||| 0x1444) &&& 0x2222
    | 0x644 => s.mip h &&& 0x1444
    | 0x604 => t.csrGet 0x304 &&& 0x1444
    | 0x244 => ((s.mip h &&& t.csrGet 0x603) >>> 1) &&& 0x222
    | 0x204 => ((t.csrGet 0x304 &&& t.csrGet 0x603) >>> 1) &&& 0x222
    | 0xC00 => t.csrGet csrMcycle
    | 0xC01 => BitVec.ofNat 64 s.span.now + (if t.virt then t.csrGet 0x605 else 0)
    | 0xC02 => t.csrGet csrMinstret
    | 0xE12 => ((below 7).foldl (fun w g => if ((s.ctxKey (s.hartKennel h) h (g + 2)).map s.lineOf).getD false then fput w (g + 1) 1 1 else w) 0)
    | n => if 0xC03 ≤ n && n ≤ 0xC1F then t.csrGet (n - 0x100) else t.csrGet n

/-- The event codes of R150. -/
def hpmCodes : List Nat :=
  (below 9).tail ++ (below 9).map (0x10 + ·) ++ (below 5).map (0x20 + ·) ++ (below 7).map (0x30 + ·) ++ (below 6).map (0x40 + ·) ++ (below 4).map (0x50 + ·)

/-- A PMP configuration byte after a write: locked entries stay, NA4 is not selectable, write without read is reserved (R112). -/
def pmpByte (old new : Nat) : Nat :=
  if bit old 7 then old
  else
    let new := new % 256
    let new := if bit new 1 && !bit new 0 then (new - new % 4) + old % 4 else new
    let new := new - (nget new 5 2) * 32
    if nget new 3 2 = 2 then (new - 16) + nget old 3 2 * 8 else new

/-- A configuration byte of the PMP. -/
def Hart.pmpCfg (t : Hart) (i : Nat) : Nat := fget (t.csrGet (0x3A0 + 2 * (i / 8))) (8 * (i % 8)) 8

/-- A legal value of an envcfg CSR. -/
def envWrite (old v : Word) (mask : Word) (svadu : Bool) : Word :=
  let v := v &&& mask
  let v := if fget v 4 2 = 2 then fput v 4 2 0 else v
  let v := if fget v 32 2 = 1 then fput v 32 2 (fget old 32 2) else v
  if svadu then v else fput v 61 1 0

/-- A legal translation-root CSR: an unsupported MODE leaves it unchanged (R112). -/
def atpWrite (old v : Word) (g : Bool) : Word :=
  if [0, 8, 9, 10].contains (fget v 60 4) then (if g then fput (fput v 58 2 0) 0 2 0 else v) else old

/-- A legal trap vector (R112): direct 4-byte aligned, vectored 64-byte aligned; another mode leaves it unchanged. -/
def tvecWrite (old v : Word) : Word :=
  match fget v 0 2 with
  | 0 => v
  | 1 => fput v 2 4 0
  | _ => old

/-- A write of satp, vsatp or hgatp (R161, R197, R233): the fill buffer is flushed; a changed ASID or VMID flushes the predictors
while tlpred.FLUSH_ASID is 1; no TLB entry is removed. -/
def Sys.atpSet (s : Sys) (h n : Nat) (v : Word) : Sys :=
  let old := (s.hart h).csrGet n
  let new := atpWrite old v (n == 0x680)
  let s := (s.onHart h (fun t => t.csrSet n new)).sfbFlush h false
  s.when (fget old 44 16 != fget new 44 16 && fget (s.ctl h .tlpred) 1 1 == 1) (fun s => s.predFlush h)

/-- A slot of the locked translations is empty, and tllock shows it. -/
def Sys.slotFree (s : Sys) (h i : Nat) : Sys :=
  let s := s.onHart h (fun t => { t with slots := t.slots.filter (fun p => p.1 ≠ i) })
  let m := fun (v : Nat) => v - (v &&& 2 ^ i)
  (s.put F.tllock_LOCKED (m (s.rf F.tllock_LOCKED h)) h).put F.tllock_FETCH (m (s.rf F.tllock_FETCH h)) h

/-- A write of a Skohal CSR (R139 to R148). Writes to tlctl, tlpred and tlpf are readable at once and late in effect. -/
def Sys.skohalWrite (s : Sys) (h : Nat) (r : Reg) (v : Word) : Sys :=
  let old := s.rd ⟨r, h, 0⟩
  let late := fun (s : Sys) => s.onHart h (fun t => { t with late := t.late ++ [⟨r, old, 32⟩] })
  match r with
  | .tlctl => late (s.wr ⟨r, h, 0⟩ (accWrite r.rows false old v))
  | .tlpred =>
    let s := late (s.wr ⟨r, h, 0⟩ (accWrite r.rows false old v))
    s.when (fget v 2 1 == 1) (fun s => s.predFlush h)
  | .tlpf =>
    let w := accWrite r.rows false old v
    late (s.wr ⟨r, h, 0⟩ (if fget w 4 4 = 0 then fput w 4 4 1 else w))
  | .tlworld =>
    let nosec := fget old 5 1 = 1
    let w := accWrite r.rows false old v
    let w := if nosec || fget w 5 1 = 1 then fput (fput w 3 1 0) 2 1 0 else w
    let s := s.wr ⟨r, h, 0⟩ w
    -- NOSEC newly set: the world bit is N from now on (R130)
    s.when (fget w 5 1 == 1 && s.worldS h) (fun s => s.modeTo h (s.hart h).priv (s.hart h).virt false)
  | .tlwvec => s.wr ⟨r, h, 0⟩ (accWrite r.rows false old v)
  | .tllock =>
    if fget v 63 1 = 1 then
      (((s.hart h).slots.map (·.1)).filter (fun i => (s.hart h).priv = 3 || fget (s.ctl h .tlctl) (16 + i) 1 = 0)).foldl (fun s i => s.slotFree h i) s
    else s
  | _ => s

/-- A write of a standard CSR with the legal values of R111, R112, R119, R120 and R132. -/
def Sys.csrWrite (s : Sys) (h n : Nat) (v : Word) : Sys :=
  let t := s.hart h
  let n := t.csrAlias n
  let old := t.csrGet n
  let k := s.kennelOf h
  let set := fun (m : Nat) (w : Word) => s.onHart h (fun t => t.csrSet m w)
  let sum := fun (w : Word) => if k.sumLock then fput w 18 1 0 else w
  match skohalAt n with
  | some r => s.skohalWrite h r v
  | none =>
    if n = 0x300 then
      let w := v &&& 0x000000C0007E7FEA
      set n (sum (if fget w 11 2 = 2 then fput w 11 2 (fget old 11 2) else w))
    else if n = 0x100 then set 0x300 (sum ((t.csrGet 0x300 &&& ~~~ sstatusMask) ||| (v &&& sstatusMask &&& 0xDE762)))
    else if n = 0x200 then set n (sum (v &&& 0xDE762))
    else if n = 0x301 || 0xC00 ≤ n then s
    else if n = 0x302 then set n (v &&& ~~~ (0x1000800 : Word))
    else if n = 0x602 then set n (v &&& ~~~ (0x1F00E00 : Word))
    else if n = 0x303 then set n ((v &&& 0x2AAA) ||| 0x1444)
    else if n = 0x603 then set n (v &&& 0x444)
    else if n = 0x344 then set csrMip ((t.csrGet csrMip &&& ~~~ (0x2226 : Word)) ||| (v &&& 0x2226))
    else if n = 0x144 then set csrMip ((t.csrGet csrMip &&& ~~~ (0x2002 : Word)) ||| (v &&& 0x2002))
    else if n = 0x645 then (set csrMip ((t.csrGet csrMip &&& ~~~ (0x444 : Word)) ||| (v &&& 0x444)))
    else if n = 0x104 then
      let m := (t.csrGet 0x303 ||| 0x1444) &&& 0x2222
      set 0x304 ((t.csrGet 0x304 &&& ~~~ m) ||| (v &&& m))
    else if n = 0x604 then set 0x304 ((t.csrGet 0x304 &&& ~~~ (0x1444 : Word)) ||| (v &&& 0x1444))
    else if n = 0x204 then
      let m := t.csrGet 0x603 &&& 0x444
      set 0x304 ((t.csrGet 0x304 &&& ~~~ m) ||| ((v <<< 1) &&& m))
    else if n = 0x244 then
      let m := t.csrGet 0x603 &&& 0x4
      set csrMip ((t.csrGet csrMip &&& ~~~ m) ||| ((v <<< 1) &&& m))
    else if n = 0x305 || n = 0x105 || n = 0x205 then set n (tvecWrite old v)
    else if n = 0x30A || n = 0x60A then set n (envWrite old v 0xE0000003000000F1 k.svadu)
    else if n = 0x10A then set n (envWrite old v 0x3000000F1 true)
    else if n = 0x180 || n = 0x280 || n = 0x680 then s.atpSet h n v
    else if 0x3A0 ≤ n && n ≤ 0x3AE then
      set n ((below 8).foldl (fun w i => fput w (8 * i) 8 (pmpByte (fget old (8 * i) 8) (fget v (8 * i) 8))) 0)
    else if 0x3B0 ≤ n && n ≤ 0x3EF then
      let i := n - 0x3B0
      let next := t.pmpCfg (i + 1)
      if bit (t.pmpCfg i) 7 || (decide (i < 63) && bit next 7 && nget next 3 2 == 1) then s else set n (v &&& 0x3FFFFFFFFFFFFF)
    else if 0x323 ≤ n && n ≤ 0x33F then
      set n ((v &&& 0xFC00000000000000) ||| (if hpmCodes.contains (fget v 0 16) then v &&& 0xFFFF else 0))
    else set n v

/-! ## Skohal instructions and CSR commands -/

/-- TLSYNC (R127): late CSR writes take effect and younger instructions are fetched again. -/
def Sys.tlsync (s : Sys) (h : Nat) : Sys :=
  if s.ready h then ((s.onHart h (fun t => { t with late := [] })).squash h 0).next h 4 else s

/-- WFS (R128): the checks, then the wait for the next tick or the end of a window. -/
def Sys.wfs (s : Sys) (h rd : Nat) (rs1 : Word) : Sys :=
  if s.ready h then
    let t := s.hart h
    if t.priv ≠ 3 && s.cf h F.tlctl_WFS_LOW = 0 then s.raiseAt h exIllegal
    else if t.virt && t.cf hstatus 21 1 = 1 then s.raiseAt h exVirtual
    else
      let w := fget rs1 0 1 = 1
      let target := if w && s.inWindow then s.ticks else s.ticks + 1
      (s.squash h 0).onHart h (fun t => { t with wait := .wfs rd w target })
  else s

/-- The instant a WFS waits for has come. -/
def Sys.wfsReached (s : Sys) (windowEnd : Bool) (tick : Nat) : Bool :=
  if windowEnd then decide (tick < s.ticks) || (s.ticks == tick && !s.inWindow) else decide (tick ≤ s.ticks)

/-- WFS retires (R128, R129): the instant has come, an interrupt is pending and enabled, or a debug halt is requested. -/
def Sys.wfsWake (s : Sys) (h : Nat) : Sys :=
  match (s.hart h).wait with
  | .wfs rd w tick =>
    let reached := s.wfsReached w tick
    if s.coreState h = psCs0 && (reached || s.wakePending h || (s.hart h).halted) then
      let v := fput (fput (BitVec.ofNat 64 s.spanNo) 62 1 (b2n s.inWindow)) 63 1 (b2n (!reached))
      (s.onHart h (fun t => { t.xSet rd v with wait := .run })).next h 4
    else s
  | _ => s

/-- WCALL (R132). -/
def Sys.wcall (s : Sys) (h : Nat) : Sys :=
  if s.ready h then
    let t := s.hart h
    if s.on F.tlworld_NOSEC h || !s.on F.tlworld_PATH h || (t.priv = 0 && !t.virt) then s.raiseAt h exIllegal
    else if t.virt then s.raiseAt h exVirtual
    else
      let w := s.worldS h
      let t := ((((t.csrSet 0x341 t.pc).csrSet 0x342 24).csrSet 0x343 0).csrSet 0x34B 0).csrSet 0x34A 0
      let t := (((t.cput mstatus 11 2 t.priv).cput mstatus 39 1 (b2n t.virt)).cput mstatus 7 1 (t.cf mstatus 3 1)).cput mstatus 3 1 0
      let s := ((s.hartTo h { t with pc := s.rd ⟨.tlwvec, h, 0⟩ }).squash h 0).put F.tlworld_PWORLD (b2n w) h
      (s.modeTo h 3 false true).retired h
  else s

/-- The registers WRET scrubs (R133): x1 to x9, x16 to x31, every vector register and vstart. -/
def Hart.scrub (t : Hart) : Hart :=
  let t := { t with x := t.x.filter (fun p => 10 ≤ p.1 ∧ p.1 ≤ 15), v := [] }
  let t := t.csrSet 0x008 0
  if t.cf mstatus 9 2 ≠ 0 then t.cput mstatus 9 2 3 else t

/-- WRET (R133). -/
def Sys.wret (s : Sys) (h : Nat) : Sys :=
  if s.ready h then
    if (s.hart h).priv ≠ 3 || s.on F.tlworld_NOSEC h || !s.on F.tlworld_PATH h then s.raiseAt h exIllegal
    else ((s.when (s.on F.tlworld_SCRUB h) (fun s => s.onHart h Hart.scrub)).mretTo h).retired h
  else s

/-- mret (R130). -/
def Sys.mret (s : Sys) (h : Nat) : Sys :=
  if s.ready h then (if (s.hart h).priv ≠ 3 then s.raiseAt h exIllegal else (s.mretTo h).retired h) else s

/-- TLB.LOCK and TLB.UNLOCK are permitted (R134), or the exception they raise. -/
def Sys.lockFault (s : Sys) (h : Nat) : Option Nat :=
  let t := s.hart h
  if t.virt then some exVirtual
  else if t.priv = 3 || (t.priv = 1 && s.cf h F.tlctl_TLBLOCK_S = 1) then none
  else some exIllegal

/-- The slot is reserved to M-mode and the hart is below M. -/
def Sys.slotReserved (s : Sys) (h slot : Nat) : Bool := (s.hart h).priv != 3 && fget (s.ctl h .tlctl) (16 + slot) 1 == 1

/-- A result written by an instruction of 4 bytes that then retires. -/
def Sys.result (s : Sys) (h rd : Nat) (v : Word) : Sys := (s.onHart h (fun t => t.xSet rd v)).next h 4

/-- TLB.UNLOCK (R138). -/
def Sys.tlbUnlock (s : Sys) (h rd : Nat) (rs1 : Word) : Sys :=
  if s.ready h then
    match s.lockFault h with
    | some e => s.raiseAt h e
    | none =>
      let i := fget rs1 0 4
      if s.slotReserved h i then s.result h rd 2
      else if !bit (s.rf F.tllock_LOCKED h) i then s.result h rd 6
      else (s.slotFree h i).result h rd 0
  else s

/-- A CSR instruction (R139): the exception, or the old value into rd and the new value into the CSR. -/
def Sys.csrOp (s : Sys) (h n rd : Nat) (write : Option Word) : Sys :=
  if s.ready h then
    match s.csrFault h n write.isSome with
    | some e => s.trap h e false (s.hart h).pc 0 0 false
    | none =>
      let old := s.csrRead h n
      let s := (s.squash h 0).onHart h (fun t => t.xSet rd old)
      (match write with
        | some v => s.csrWrite h n v
        | none => s).next h 4
  else s

/-- A trap at the hart's pc (R130, R202). -/
def Sys.trapEntry (s : Sys) (h cause : Nat) (tval tval2 : Word) : Sys :=
  if s.ready h then s.trap h cause false (s.hart h).pc tval.toNat tval2.toNat ((s.hart h).virt && [0, 1, 4, 5, 6, 7, 12, 13, 15, 20, 21, 23].contains cause) else s

def execTlsync (h : Fin 256) (s : State) : Host.Outcome State Fault Refusal := onSys (fun s => s.tlsync h) s
def execWfsWake (h : Fin 256) (s : State) : Host.Outcome State Fault Refusal := onSys (fun s => s.wfsWake h) s
def execWcall (h : Fin 256) (s : State) : Host.Outcome State Fault Refusal := onSys (fun s => s.wcall h) s
def execWret (h : Fin 256) (s : State) : Host.Outcome State Fault Refusal := onSys (fun s => s.wret h) s
def execMret (h : Fin 256) (s : State) : Host.Outcome State Fault Refusal := onSys (fun s => s.mret h) s
def execTlbUnlock (h : Fin 256) (rd : Fin 32) (rs1 : Word) (s : State) : Host.Outcome State Fault Refusal := onSys (fun s => s.tlbUnlock h rd rs1) s
def execUnlockAll (h : Fin 256) (s : State) : Host.Outcome State Fault Refusal := onSys (fun s => s.csrOp h 0x5C1 0 (some 0x8000000000000000)) s
def execSkohalCsrWrite (h : Fin 256) (csr : BitVec 12) (rd : Fin 32) (v : Word) (s : State) : Host.Outcome State Fault Refusal :=
  onSys (fun s => s.when ((skohalAt csr.toNat).isSome) (fun s => s.csrOp h csr.toNat rd (some v))) s
def execPredFlush (h : Fin 256) (s : State) : Host.Outcome State Fault Refusal := onSys (fun s => s.csrOp h 0x7C1 0 (some (fput (s.rd ⟨.tlpred, h, 0⟩) 2 1 1))) s
def execTrapEntry (h : Fin 256) (cause : Fin 64) (tval tval2 : Word) (s : State) : Host.Outcome State Fault Refusal :=
  onSys (fun s => s.trapEntry h cause tval tval2) s
def execSatpWrite (h : Fin 256) (which : Fin 3) (v : Word) (s : State) : Host.Outcome State Fault Refusal :=
  onSys (fun s => s.csrOp h (match which with | 0 => 0x180 | 1 => 0x280 | _ => 0x680) 0 (some v)) s

end Sys2Proof.Machine
end

