-- ==== Sys2Proof/Machine/Translate.lean ====
section
/-!
DEFINITION. Address translation of a hart: modes, pointer masking, PMP, the TLBs, walk caches and locked slots, the table walk,
the A and D update, and the fences (ch. 6).
-/
namespace Sys2Proof.Machine

/-- The access types. -/
inductive AccTy where
  | load | store | fetch
  deriving DecidableEq, Repr

def AccTy.pageFault : AccTy → Nat
  | .load => 13 | .store => 15 | .fetch => 12
def AccTy.guestFault : AccTy → Nat
  | .load => 21 | .store => 23 | .fetch => 20
def AccTy.accessFault : AccTy → Nat
  | .load => 5 | .store => 7 | .fetch => 1
def AccTy.misaligned : AccTy → Nat
  | .load => 4 | .store => 6 | .fetch => 0
/-- The hardware-error cause (R112). -/
def exHardware : Nat := 19

/-- What a translation depends on beside the address: the effective mode, world, identifiers, and whether the access is an
HLVX. -/
structure Ctx where
  priv : Nat
  virt : Bool
  world : Bool
  asid : Nat
  vmid : Nat
  hlvx : Bool
  deriving DecidableEq, Repr

/-- The effective mode of an access (MPRV, HLV and HSV) with its identifiers. -/
def Sys.ctx (s : Sys) (h : Nat) (ty : AccTy) (hyp hlvx : Bool) : Ctx :=
  let t := s.hart h
  let mpp := t.cf mstatus 11 2
  let (p, v) := match ty with
    | .fetch => (t.priv, t.virt)
    | _ =>
      if hyp then (t.cf hstatus 8 1, true)
      else if t.priv = 3 && t.cf mstatus 17 1 = 1 then (mpp, mpp != 3 && t.cf mstatus 39 1 == 1)
      else (t.priv, t.virt)
  { priv := p
    virt := v
    world := s.worldS h
    asid := t.cf (if v then 0x280 else 0x180) 44 16
    vmid := t.cf 0x680 44 14
    hlvx := hlvx }

/-- The MODE of a root CSR as a number of levels; 0 is Bare. -/
def atpLevels (mode : Nat) : Nat := if mode = 8 then 3 else if mode = 9 then 4 else if mode = 10 then 5 else 0

/-- The levels of the first stage and of the G-stage of an access. -/
def Sys.levels (s : Sys) (h : Nat) (c : Ctx) : Nat × Nat :=
  let t := s.hart h
  if c.virt then (atpLevels (t.cf 0x280 60 4), atpLevels (t.cf 0x680 60 4))
  else if c.priv = 3 then (0, 0)
  else (atpLevels (t.cf 0x180 60 4), 0)

/-- No translation is in effect. -/
def Sys.bare (s : Sys) (h : Nat) (c : Ctx) : Bool := s.levels h c == (0, 0)

/-- PMLEN of the effective mode (R110): 0, 7 or 16; none for fetches and under MXR. -/
def Sys.pmlen (s : Sys) (h : Nat) (ty : AccTy) (c : Ctx) : Nat :=
  let t := s.hart h
  let f := if c.priv = 3 then t.cf 0x747 32 2
    else if c.priv = 1 then t.cf (if c.virt then 0x60A else 0x30A) 32 2
    else t.cf 0x10A 32 2
  if ty == .fetch || c.hlvx || (c.priv != 3 && t.cf mstatus 19 1 == 1) then 0 else if f = 2 then 7 else if f = 3 then 16 else 0

/-- The address after pointer masking (R210): sign-extended under translation, zero-extended without. -/
def Sys.masked (s : Sys) (h : Nat) (ty : AccTy) (c : Ctx) (va : Nat) : Nat :=
  let n := s.pmlen h ty c
  if n = 0 then va
  else if s.bare h c then va % 2 ^ (64 - n) else (((BitVec.ofNat 64 va) <<< n).sshiftRight n).toNat

/-- The address is canonical for a number of levels. -/
def canonical (levels va : Nat) : Bool :=
  let top := va / 2 ^ (12 + 9 * levels - 1)
  top == 0 || top == 2 ^ (64 - (12 + 9 * levels - 1)) - 1

/-! ## PMP (R112: 64 entries of 4 KiB granularity) -/

/-- The byte range of a PMP entry, when it is on. -/
def Hart.pmpRange (t : Hart) (i : Nat) : Option (Nat × Nat) :=
  let a := (t.csrGet (0x3B0 + i)).toNat
  match nget (t.pmpCfg i) 3 2 with
  | 1 => some (if i = 0 then 0 else ((t.csrGet (0x3B0 + i - 1)).toNat / 1024) * 4096, (a / 1024) * 4096)
  | 3 =>
    let a := a ||| 0x1FF
    let k := ((below 54).find? (fun j => !bit a j)).getD 54
    let lo := (a / 2 ^ (k + 1)) * 2 ^ (k + 1) * 4
    some (lo, lo + 2 ^ (k + 3))
  | _ => none

/-- The PMP admits an access of `n` bytes at a physical address in a privilege mode. -/
def Hart.pmpOk (t : Hart) (pa n : Nat) (ty : AccTy) (priv : Nat) : Bool :=
  match (below 64).find? (fun i => match t.pmpRange i with | some (lo, hi) => decide (lo < pa + n) && decide (pa < hi) | none => false) with
  | some i =>
    let c := t.pmpCfg i
    match t.pmpRange i with
    | some (lo, hi) =>
      decide (lo ≤ pa) && decide (pa + n ≤ hi) &&
      ((priv == 3 && !bit c 7) || bit c (match ty with | .load => 0 | .store => 1 | .fetch => 2))
    | none => false
  | none => priv == 3

/-! ## Reading a line for a walk or a fetch (R193, R222) -/

/-- What such a read finds: no fill-buffer entry is free, the check or the memory refuses it, or the line. -/
inductive LineRead where
  | wait
  | refused
  | ok (data : BitVec 512) (poison : Bool)
  deriving DecidableEq, Repr

/-- The fill buffer has room for a new entry (R192): 32 lines, 8 of them for instructions. -/
def Hart.sfbRoom (t : Hart) (instr : Bool) : Bool :=
  decide (t.sfb.length < 32) && (!instr || decide ((t.sfb.filter (·.instr)).length < 8))

/-- A line read for a PTE or for instructions: from L1D (L1I first for instructions), from the fill buffer, from L2 or the side
buffer by a copy into the fill buffer, or from the home agent by RD_SPEC into a SPEC entry with its token. -/
def M.specRead (x : M) (h line : Nat) (instr : Bool) : LineRead × M :=
  let s := x.sys
  let t := s.hart h
  let k := s.hartKennel h
  let w := s.worldS h
  let hit := fun (c : CLine) => if tagAdmits c.owner k w then LineRead.ok c.data c.poison else .refused
  let l1 := if instr then (lineIn t.l1i line).or (lineIn t.l1d line) else lineIn t.l1d line
  match l1 with
  | some c => (hit c, x)
  | none =>
    match t.sfb.find? (fun e => e.line = line ∧ e.instr = instr ∧ !e.dead ∧ e.chunks = 15) with
    | some e => (if tagAdmits e.owner k w then .ok e.data e.poison else .refused, x)
    | none =>
      if !t.sfbRoom instr || t.sfb.any (fun e => e.line = line ∧ e.instr = instr) then (.wait, x)
      else
        let s := if instr then s.hpm h 0x10 else s
        let entry : SfbEnt := ⟨line, .bound, instr, 15, 0, false, 0, 1, ⟨0, 0, 0⟩, false, false, false, false, false⟩
        let place := fun (s : Sys) (e : SfbEnt) => (s.onHart h (fun t => { t with sfb := t.sfb ++ [e] })).hpm h 0x41
        match lineIn t.l2 line with
        | some c =>
          (hit c, { x with sys := place s { entry with data := c.data, poison := c.poison, owner := c.owner, grant := c.st, fromL2 := true } })
        | none =>
          match t.side.find? (fun e => e.line = line ∧ e.valid) with
          | some e =>
            (hit ⟨line, 0, e.st, e.poison, e.owner, e.data⟩,
              { x with sys := place s { entry with data := e.data, poison := e.poison, owner := e.owner, grant := e.st, fromSide := true } })
          | none =>
            let r := s.coreReq h .rdSpec line
            match s.conf.homeOf k (64 * line) with
            | none => (.refused, { x with sys := s.hpm h 0x12 })
            | some n =>
              let s := s.hpm h 0x12
              let (c, x) := ({ x with sys := s } : M).check n r
              match c with
              | .deny cause => (.refused, x.on (fun s => s.logDeny r cause))
              | .ok b =>
                let z := x.sys.slice n
                let ex := (x.sys.sfGet n line).any (fun (e : SfEnt) => e.st == 1 || e.st == 3)
                let foreign := x.sys.foreign line
                if !foreign && (x.sys.conf.locate (64 * line)).isNone && !x.sys.cxlDecodes (64 * line) then (.refused, x)
                else
                  -- what the other socket's memory holds is not in this State: a free value (log 1)
                  let (d, p) := if foreign then (BitVec.ofNat 512 (x.sys.freeVal 512), false) else x.peek line
                  let x := if foreign then x.on Sys.usedFree else x
                  (.ok d p, { x with sys := place x.sys { entry with
                    st := .spec
                    data := d
                    poison := p
                    owner := b / 8
                    grant := 0
                    tok := ⟨n, z.session, z.epoch⟩
                    noBind := ex } })

/-- A PTE read: its value, a refusal, poison, or nothing yet. -/
inductive PteRead where
  | wait | access | poison
  | ok (v : Nat)
  deriving DecidableEq, Repr

/-- A PTE read at a physical address: walkable ranges, PMP as an S-mode access, then the line (R222 to R225). -/
def M.readPte (x : M) (h pa : Nat) : PteRead × M :=
  if !(regionOf pa).isMemory || x.sys.noSuchRange pa || !(x.sys.hart h).pmpOk pa 8 .load 1 then (.access, x)
  else match x.specRead h (pa / 64) false with
  | (.wait, x) => (.wait, x)
  | (.refused, x) => (.access, x)
  | (.ok d p, x) => (if p then .poison else .ok (lineField d (pa % 64) 64), x)

/-! ## PTE checks (R207 to R210, R226, R229) -/

/-- The non-leaf and leaf checks of R208 that do not depend on the access: `none` is a fault, `some leaf` tells the kind. -/
def pteKind (v level : Nat) : Option Bool :=
  let f := v % 256
  if nget v 54 7 ≠ 0 || nget v 61 2 = 3 || !bit f 0 || (bit f 2 && !bit f 1) then none
  else if bit f 1 || bit f 3 then
    if bit v 63 then (if level = 0 && nget v 10 4 = 8 then some true else none)
    else if (v / 2 ^ 10) % 2 ^ (9 * level) ≠ 0 then none
    else some true
  else if bit v 63 || nget v 61 2 ≠ 0 then none
  else some false

/-- The size of a leaf, as its base-2 logarithm: a 256 TiB page is held in 512 GiB pieces (R207). -/
def leafBits (v level : Nat) : Nat := if bit v 63 then 16 else min 39 (12 + 9 * level)

/-- The physical address of the piece of a leaf that holds an address. -/
def leafBase (v level va : Nat) : Nat :=
  let ppn := nget v 10 44
  if bit v 63 then (ppn / 16) * 2 ^ 16
  else ppn * 4096 + (if level = 4 then ((va / 2 ^ 39) % 2 ^ 9) * 2 ^ 39 else 0)

/-- The permissions of leaf flags admit an access: `sum` and `mxr` as they stand (R229). -/
def permOk (flags : Nat) (ty : AccTy) (priv : Nat) (sum mxr hlvx : Bool) : Bool :=
  (match ty with
    | .fetch => bit flags 3
    | .load => if hlvx then bit flags 3 else bit flags 1 || (mxr && bit flags 3)
    | .store => bit flags 2) &&
  (if priv = 0 then bit flags 4 else if bit flags 4 then (match ty with | .fetch => false | _ => sum) else true)

/-- SUM and MXR for the first stage of an access (R120, R229). -/
def Sys.sumMxr (s : Sys) (h : Nat) (c : Ctx) : Bool × Bool :=
  let t := s.hart h
  let r := if c.virt then vsstatus else mstatus
  (t.cf r 18 1 == 1 && !(s.kennelOf h).sumLock, t.cf r 19 1 == 1 || t.cf mstatus 19 1 == 1)

/-- The bits a leaf needs set: A, and D for a store. -/
def adNeed (flags : Nat) (ty : AccTy) : Nat :=
  (if bit flags 6 then 0 else 64) + (match ty with | .store => if bit flags 7 then 0 else 128 | _ => 0)

/-! ## The structures (R211 to R217) -/

def TlbEnt.holds (e : TlbEnt) (va : Nat) : Bool := va / 2 ^ e.s == e.vpn

/-- The tag of an entry matches an access (R212). -/
def TlbEnt.hit (e : TlbEnt) (c : Ctx) (va : Nat) : Bool :=
  e.world == c.world && e.v == c.virt && (!c.virt || e.vmid == c.vmid) && (e.glob || e.asid == c.asid) && e.holds va

/-- The address an entry gives. -/
def TlbEnt.pa' (e : TlbEnt) (va : Nat) : Nat := e.pa + va % 2 ^ e.s

/-- The L2 TLB set of an entry (R214). -/
def l2tlbSet (va s : Nat) : Nat := nget (va >>> s) 0 9 ^^^ nget (va >>> (s + 9)) 0 9

/-- An entry installed most recently used in a fully associative structure of a capacity; one of the same tag is replaced. -/
def putMru {α : Type} (l : List α) (same : α → Bool) (cap : Nat) (e : α) : List α := (e :: l.filter (fun f => !same f)).take cap

def TlbEnt.same (e f : TlbEnt) : Bool :=
  e.world == f.world && e.v == f.v && e.vmid == f.vmid && e.asid == f.asid && e.glob == f.glob && e.s == f.s && e.vpn == f.vpn
def WalkEnt.same (e f : WalkEnt) : Bool :=
  e.world == f.world && e.v == f.v && e.vmid == f.vmid && e.asid == f.asid && e.glob == f.glob && e.level == f.level && e.pre == f.pre

/-- A leaf goes into the L1 TLB of its side (R215). -/
def Hart.putL1tlb (t : Hart) (fetch : Bool) (e : TlbEnt) : Hart :=
  if fetch then { t with tlbI := putMru t.tlbI e.same 64 e } else { t with tlbD := putMru t.tlbD e.same 96 e }

/-- A leaf goes into the L2 TLB: an invalid way of its set, else the pseudo-LRU victim (R214). -/
def Hart.putL2tlb (t : Hart) (e : TlbEnt) : Hart :=
  let set := l2tlbSet (e.vpn * 2 ^ e.s) e.s
  let l := t.tlbL2.filter (fun p => !e.same p.2)
  let bits := Bank.getD t.plru (3, set) 0
  let w := ((below 8).find? (fun w => !l.any (fun p => p.1 = 8 * set + w))).getD (victim8 bits)
  { t with tlbL2 := (8 * set + w, e) :: l.filter (fun p => p.1 ≠ 8 * set + w), plru := Bank.set t.plru (3, set) (plruTouch bits w 3) }

/-- A non-leaf PTE goes into the walk cache of its level (R211). -/
def Hart.putWalk (t : Hart) (e : WalkEnt) : Hart :=
  if e.level = 1 then { t with wc1 := putMru t.wc1 e.same 32 e } else { t with wcU := putMru t.wcU e.same 16 e }

/-- The deepest walk-cache entry that leads to an address at or above a level. -/
def Hart.walkHit (t : Hart) (c : Ctx) (va : Nat) : Option WalkEnt :=
  let ok := fun (e : WalkEnt) => e.world == c.world && e.v == c.virt && (!c.virt || e.vmid == c.vmid) && (e.glob || e.asid == c.asid) &&
    va / 2 ^ (12 + 9 * e.level) == e.pre
  (t.wc1.find? ok).or ((below 3).findSome? (fun i => t.wcU.find? (fun e => ok e && e.level == i + 2)))

/-- The locked slot that matches an access (R217). -/
def Sys.slotHit (s : Sys) (h : Nat) (ty : AccTy) (c : Ctx) (va : Nat) : Option (Nat × SlotEnt) :=
  if c.virt || s.bare h c then none
  else (s.hart h).slots.find? (fun p => let e := p.2
    e.fetch == (ty == .fetch) && e.world == c.world && (e.glob || e.asid == c.asid) && va / 2 ^ e.s == e.vpn)

/-! ## The walk (R221 to R225) -/

/-- A walk in progress: its outcome so far, and what it has collected. -/
structure Walking where
  x : M
  acc : WalkRes
  /-- nothing can be read yet -/
  wait : Bool

def WalkRes.empty : WalkRes := ⟨none, [], [], [], none, []⟩

/-- The walk stops with an exception: nothing it collected is installed (R224). -/
def Walking.fail (w : Walking) (cause gpa : Nat) : Walking := { w with acc := { WalkRes.empty with exc := some (cause, gpa) } }

/-- A table of leaves that a stage found: the PTE, its level and address. -/
structure Leaf where
  v : Nat
  level : Nat
  glob : Bool
  deriving DecidableEq, Repr

/-- One stage's table walk from a table at a level down to a leaf. `read` gives a PTE at a table address; `fault` is the page-fault
cause. `e` carries the tag for the walk caches, when this stage fills them. -/
def tableWalk (read : Walking → Nat → Option Nat × Walking) (va fault gpa : Nat) (e : Option WalkEnt) :
    Nat → Nat → Nat → Bool → Walking → Option Leaf × Walking
  | level, base, idxBits, glob, w =>
    let a := base + 8 * ((va / 2 ^ (12 + 9 * level)) % 2 ^ idxBits)
    match read w a with
    | (none, w) => (none, w)
    | (some v, w) =>
      match pteKind v level with
      | none => (none, w.fail fault gpa)
      | some true => (some ⟨v, level, glob || bit v 5⟩, w)
      | some false =>
        match level with
        | 0 => (none, w.fail fault gpa)
        | l + 1 =>
          let g := glob || bit v 5
          let next := nget v 10 44 * 4096
          let w := match e with
            | some t => { w with acc := { w.acc with path := w.acc.path ++ [{ t with glob := g, level := l + 1, pre := va / 2 ^ (12 + 9 * (l + 1)), next := next }] } }
            | none => w
          tableWalk read va fault gpa e l next 9 g w

/-- A PTE read at a physical address as part of a walk. -/
def Walking.pte (h : Nat) (ty : AccTy) (gpa : Nat) (w : Walking) (pa : Nat) : Option Nat × Walking :=
  match w.x.readPte h pa with
  | (.wait, x) => (none, { w with x := x, wait := true })
  | (.access, x) => (none, ({ w with x := x }).fail ty.accessFault gpa)
  | (.poison, x) => (none, ({ w with x := x }).fail exHardware gpa)
  | (.ok v, x) => (some v, { w with x := x, acc := { w.acc with ptes := w.acc.ptes ++ [(pa, v)] } })

/-- The G-stage translation of a guest-physical address for a use: the entry that gives it (R216). -/
def gStage (h : Nat) (c : Ctx) (orig use : AccTy) (gpa : Nat) (w : Walking) : Option TlbEnt × Walking :=
  let t := w.x.sys.hart h
  let root := t.csrGet 0x680
  let lv := atpLevels (fget root 60 4)
  let ident : TlbEnt := ⟨c.world, true, c.vmid, 0, true, 39, gpa / 2 ^ 39, (gpa / 2 ^ 39) * 2 ^ 39, 0xFF, 0⟩
  let mxr := t.cf mstatus 19 1 == 1
  let perm := fun (f : Nat) => permOk f use 0 true mxr (c.hlvx && orig == use)
  if lv = 0 then (some ident, w)
  else if 2 ^ (12 + 9 * lv + 2) ≤ gpa then (none, w.fail orig.guestFault gpa)
  else
    match t.tlbG.find? (fun e => e.world == c.world && e.vmid == c.vmid && e.holds gpa) with
    | some e =>
      if !perm e.flags then (none, w.fail orig.guestFault gpa)
      else if adNeed e.flags use = 0 then (some e, w)
      else go t root lv ident perm w
    | none => go t root lv ident perm w
where
  /-- the walk of the G-stage tables -/
  go (t : Hart) (root : Word) (lv : Nat) (ident : TlbEnt) (perm : Nat → Bool) (w : Walking) : Option TlbEnt × Walking :=
    match tableWalk (Walking.pte h orig gpa) gpa orig.guestFault gpa none (lv - 1) (fget root 0 44 * 4096) 11 false w with
    | (none, w) => (none, w)
    | (some l, w) =>
      let f := l.v % 256
      if !perm f then (none, w.fail orig.guestFault gpa)
      else
        let need := adNeed f use
        if need ≠ 0 && t.cf 0x30A 61 1 = 0 then (none, w.fail orig.guestFault gpa)
        else
          let s := leafBits l.v l.level
          let e : TlbEnt := { ident with s := s, vpn := gpa / 2 ^ s, pa := leafBase l.v l.level gpa, flags := f ||| need, pbmt := nget l.v 61 2 }
          let pteAt := (w.acc.ptes.getLast?.map (·.1)).getD 0
          let upd := if need = 0 then [] else [(pteAt, l.v, need)]
          (some e, { w with acc := { w.acc with gleaf := w.acc.gleaf ++ [e], upd := w.acc.upd ++ upd } })

/-- The whole walk for an access (R216, R221): one or two stages, from the deepest walk-cache entry. -/
def M.walk (x : M) (h : Nat) (ty : AccTy) (c : Ctx) (va : Nat) : Walking :=
  let s := x.sys
  let t := s.hart h
  let (lv, g) := s.levels h c
  let w : Walking := ⟨x, .empty, false⟩
  let tag : WalkEnt := ⟨c.world, c.virt, if c.virt then c.vmid else 0, c.asid, false, 0, 0, 0⟩
  let (sum, mxr) := s.sumMxr h c
  let read := fun (w : Walking) (a : Nat) =>
    if c.virt && g != 0 then
      match gStage h c ty .load a w with
      | (none, w) => (none, w)
      | (some e, w) => w.pte h ty a (e.pa' a)
    else w.pte h ty 0 a
  if lv = 0 then
    -- guest-physical address, by the G-stage alone
    match gStage h c ty ty va w with
    | (none, w) => w
    | (some e, w) => { w with acc := { w.acc with leaf := some { e with vpn := va / 2 ^ e.s, glob := true } } }
  else if !canonical lv va then w.fail ty.pageFault 0
  else
    let root := t.csrGet (if c.virt then 0x280 else 0x180)
    let (level, base, glob) := match t.walkHit c va with
      | some e => if e.level < lv then (e.level - 1, e.next, e.glob) else (lv - 1, fget root 0 44 * 4096, false)
      | none => (lv - 1, fget root 0 44 * 4096, false)
    match tableWalk read va ty.pageFault 0 (some tag) level base 9 glob w with
    | (none, w) => w
    | (some l, w) =>
      let f := l.v % 256
      let pteAt := (w.acc.ptes.getLast?.map (·.1)).getD 0
      let need := adNeed f ty
      let adue := if c.virt then t.cf 0x60A 61 1 = 1 else t.cf 0x30A 61 1 = 1
      if !permOk f ty c.priv sum mxr c.hlvx || (need ≠ 0 && !adue) then w.fail ty.pageFault 0
      else
        let s1 := leafBits l.v l.level
        let base1 := leafBase l.v l.level va
        let e : TlbEnt := ⟨c.world, c.virt, if c.virt then c.vmid else 0, c.asid, l.glob, s1, va / 2 ^ s1, base1, f ||| need, nget l.v 61 2⟩
        let upd := if need = 0 then [] else [(pteAt, l.v, need)]
        let w := { w with acc := { w.acc with upd := w.acc.upd ++ upd } }
        if c.virt && g != 0 then
          match gStage h c ty ty (e.pa' va) w with
          | (none, w) => w
          | (some ge, w) =>
            let s2 := min s1 ge.s
            let pa := ge.pa' (e.pa' va)
            let both := (e.flags &&& (ge.flags ||| 0x31)) &&& (0x31 ||| (ge.flags &&& 0xCE))
            { w with acc := { w.acc with leaf := some { e with
              s := s2
              vpn := va / 2 ^ s2
              pa := pa - va % 2 ^ s2
              flags := both
              pbmt := if e.pbmt ≠ 0 then e.pbmt else ge.pbmt } } }
        else { w with acc := { w.acc with leaf := some e } }

/-! ## Translating one piece of an access (R213, R217, R218, R224) -/

/-- The outcome of a translation: it waits for a walk or an A/D update, an exception with its guest address, or the piece. -/
inductive Trans where
  | wait
  | exc (cause gpa : Nat)
  | ok (p : Piece)
  deriving DecidableEq, Repr

/-- PMP and the region's existence for a final physical address (R38, R224). -/
def Sys.finalOk (s : Sys) (h pa n : Nat) (ty : AccTy) (priv : Nat) : Bool :=
  decide (pa + n ≤ 2 ^ 52) && !s.noSuchRange pa && (s.hart h).pmpOk pa n ty priv

/-- A piece of an access is translated as far as the structures allow. -/
def Sys.translate (s : Sys) (h : Nat) (ty : AccTy) (hyp hlvx : Bool) (p : Piece) : Trans :=
  let c := s.ctx h ty hyp hlvx
  let t := s.hart h
  let (sum, mxr) := s.sumMxr h c
  let final := fun (q : Piece) (pa : Nat) =>
    if s.finalOk h pa p.n ty c.priv then Trans.ok { q with pa := some pa } else .exc ty.accessFault 0
  if s.bare h c then final p p.va
  else if (s.levels h c).1 ≠ 0 && !canonical (s.levels h c).1 p.va then .exc ty.pageFault 0
  else match s.slotHit h ty c p.va with
  | some (_, e) =>
    if permOk e.flags ty c.priv sum mxr c.hlvx && adNeed e.flags ty = 0 then
      final { p with slot := true, pbmt := e.pbmt } (e.pa + p.va % 2 ^ e.s)
    else .exc ty.pageFault 0
  | none =>
    let use := fun (e : TlbEnt) (q : Piece) =>
      if permOk e.flags ty c.priv sum mxr c.hlvx then final { q with pbmt := if (regionOf (e.pa' p.va)).isMemory then e.pbmt else 0 } (e.pa' p.va)
      else .exc ty.pageFault 0
    let usable := fun (e : TlbEnt) => e.hit c p.va && adNeed e.flags ty == 0
    match p.walk with
    | some w =>
      match w.exc, w.leaf with
      | some (cause, gpa), _ => .exc cause gpa
      | none, some e => if w.upd.isEmpty then use e { p with l1miss := true } else .wait
      | none, none => .wait
    | none =>
      match (if ty = .fetch then t.tlbI else t.tlbD).find? usable with
      | some e => use e p
      | none =>
        match t.tlbL2.find? (fun q => usable q.2) with
        | some q => use q.2 { p with l1miss := true, l2hit := some q.2 }
        | none => .wait

/-- The pieces of an access: one, or two when it crosses a page (R171). -/
def piecesOf (va n : Nat) : List Piece :=
  let room := 4096 - va % 4096
  let one := fun (a m : Nat) => (⟨a, m, none, 0, false, false, none, none⟩ : Piece)
  if n ≤ room then [one va n] else [one va room, one ((va + room) % 2 ^ 64) (n - room)]

/-- What a retiring instruction's translation installs (R215). -/
def Hart.putTrans (t : Hart) (fetch : Bool) (p : Piece) : Hart :=
  match p.walk, p.l2hit with
  | some w, _ =>
    match w.leaf with
    | some e =>
      let t := if t.tlbL2.any (fun q => e.same q.2) then t else t.putL2tlb e
      let t := t.putL1tlb fetch e
      let t := w.path.foldl (fun t e => t.putWalk e) t
      w.gleaf.foldl (fun t e => { t with tlbG := putMru t.tlbG e.same 32 e }) t
    | none => t
  | none, some e =>
    let t := t.putL1tlb fetch e
    match t.tlbL2.find? (fun q => e.same q.2) with
    | some q => { t with plru := Bank.set t.plru (3, q.1 / 8) (plruTouch (Bank.getD t.plru (3, q.1 / 8) 0) (q.1 % 8) 3) }
    | none => t
  | none, none => t

/-! ## Fences (R230, R231) -/

/-- The entries a fence removes. -/
def Sys.tlbFenceDo (s : Sys) (h : Nat) (k : TlbFence) (rs1 rs2 : Option Nat) : Sys :=
  let t := s.hart h
  let m := t.priv = 3
  let w := s.worldS h
  let vmid := t.cf 0x680 44 14
  let virt := match k with | .sfence => t.virt | _ => true
  let gone := fun (ew ev : Bool) (evmid easid : Nat) (eglob : Bool) (holds : Nat → Bool) =>
    (m || ew == w) &&
    (match k with
      | .gvma => ev && (match rs2 with | some v => evmid == v % 2 ^ 14 | none => true)
      | _ => ev == virt && (!virt || evmid == vmid) &&
        (match rs1 with | some a => holds a | none => true) &&
        (match rs2 with | some a => !eglob && easid == a % 2 ^ 16 | none => true))
  let tlb := fun (e : TlbEnt) => gone e.world e.v e.vmid e.asid e.glob e.holds
  let walk := fun (e : WalkEnt) => gone e.world e.v e.vmid e.asid e.glob (fun a => a / 2 ^ (12 + 9 * e.level) == e.pre)
  let g := fun (e : TlbEnt) => k == .gvma && (m || e.world == w) && (match rs2 with | some v => e.vmid == v % 2 ^ 14 | none => true) &&
    (match rs1 with | some a => e.holds (a * 4) | none => true)
  s.onHart h (fun t => { t with
    tlbD := t.tlbD.filter (fun e => !tlb e)
    tlbI := t.tlbI.filter (fun e => !tlb e)
    tlbL2 := t.tlbL2.filter (fun p => !tlb p.2)
    tlbG := t.tlbG.filter (fun e => !g e)
    wc1 := t.wc1.filter (fun e => !walk e)
    wcU := t.wcU.filter (fun e => !walk e)
    fwalk := [] })

/-! ## Ownership of a line in L1D -/

/-- A line is held in L1D in M, pulled up from the hart's own L2 or promoted from its side buffer when they hold it writable; else
ownership is asked for once (R172, R173, R244, R256, R297). -/
def Sys.wantM (s : Sys) (h line : Nat) : Bool × Sys :=
  let t := s.hart h
  match lineIn t.l1d line with
  | some c =>
    if 2 ≤ c.st then (true, s.onHart h (fun t => { t with l1d := lineMap t.l1d line (fun c => { c with st := 3 }) }))
    else (false, ask s .upgrade)
  | none =>
    match lineIn t.l2 line with
    | some c =>
      if 2 ≤ c.st then (true, (s.onHart h (fun t => { t with l2 := lineMap t.l2 line (fun c => { c with st := 2 }) })).putL1d h { c with st := 3 })
      else (false, ask s .upgrade)
    | none =>
      match t.side.find? (fun e => e.line = line ∧ e.valid) with
      | some e =>
        if e.st = 2 then
          let s := (s.onHart h (fun t => { t with side := t.side.filter (fun e => e.line ≠ line) })).hpm h 0x14
          let c : CLine := ⟨line, 0, 2, e.poison, e.owner, e.data⟩
          (true, (s.putL2 h c).putL1d h { c with st := 3 })
        else (false, ask s .upgrade)
      | none => (false, ask s .rdOwn)
where
  /-- the request, once -/
  ask (s : Sys) (k : ReqKind) : Sys :=
    if (s.hart h).own.contains line then s
    else (s.onHart h (fun t => { t with own := line :: t.own })).send (s.coreReq h k line)

/-- Bytes are written into a line of L1D held in M. -/
def Sys.l1dWrite (s : Sys) (h line byte n v : Nat) : Sys :=
  s.onHart h (fun t => { t with l1d := lineMap t.l1d line (fun c =>
    { c with data := linePut c.data byte (8 * n) v, poison := c.poison && n ≠ 64 }) })

/-! ## The A and D update (R226 to R228) -/

/-- One PTE's compare-and-swap at a line held in M: whether it was made. -/
def Sys.adSwap (s : Sys) (h : Nat) (u : Nat × Nat × Nat) : Bool × Sys :=
  match lineIn (s.hart h).l1d (u.1 / 64) with
  | some c =>
    let cur := lineField c.data (u.1 % 64) 64
    if cur = u.2.1 then (true, s.l1dWrite h (u.1 / 64) (u.1 % 64) 8 (cur ||| u.2.2)) else (false, s)
  | none => (false, s)

/-- The updates a walk waits for, in order: each line is obtained in M and swapped. The answer says what became of the walk: still
waiting, to be made again from the root, or complete. -/
def M.adRun (x : M) (h : Nat) (w : WalkRes) : Option (Option WalkRes) × M :=
  match w.upd with
  | [] => (some (some w), x)
  | u :: rest =>
    if x.sys.l1dOn h then
      let (ok, s) := x.sys.wantM h (u.1 / 64)
      if !ok then (none, { x with sys := s })
      else
        let (done, s) := s.adSwap h u
        (if done then some (some { w with upd := rest }) else some none, { x with sys := s })
    else
      -- L1D not ON: at the home agent (R266)
      let (d, p) := x.peek (u.1 / 64)
      if lineField d (u.1 % 64) 64 = u.2.1 then
        match x.sys.conf.homeOf (x.sys.hartKennel h) u.1 with
        | some n => (some (some { w with upd := rest }),
            (x.writeBack n (u.1 / 64) (linePut d (u.1 % 64) 64 (u.2.1 ||| u.2.2)) p).on (fun s => s.epochUp n (u.1 / 64)))
        | none => (some none, x)
      else (some none, x)

/-- Another locked slot of the same side, world and ASID covers part of the page (R135). -/
def TlbLock.overlap (t : Hart) (fetch world glob : Bool) (asid s vpn : Nat) : Bool :=
  t.slots.any (fun p => let e := p.2
    e.fetch == fetch && e.world == world && (e.glob || glob || e.asid == asid) &&
    (if s ≤ e.s then vpn / 2 ^ (e.s - s) == e.vpn else e.vpn / 2 ^ (s - e.s) == vpn))

/-- TLB.LOCK (R134 to R137): the status code written, or the exception. The walk is made at once. -/
def M.tlbLock (x : M) (h rd : Nat) (rs1 rs2 : Word) : M :=
  let s := x.sys
  if !s.ready h then x
  else match s.lockFault h with
  | some e => x.on (fun s => s.raiseAt h e)
  | none =>
    let slot := fget rs2 0 4
    let kind := fget rs2 4 2
    let ty : AccTy := match kind with | 0 => .load | 1 => .store | _ => .fetch
    let fin := fun (v : Word) (x : M) => x.on (fun s => s.result h rd v)
    if kind = 3 then fin 5 x
    else if s.slotReserved h slot then fin 2 x
    else if bit (s.rf F.tllock_LOCKED h) slot then fin 1 x
    else
      let c := s.ctx h ty false false
      if s.bare h c then fin 3 x
      else
        let va := s.masked h ty c rs1.toNat
        let w := x.walk h ty c va
        if w.wait then x
        else match w.acc.exc, w.acc.leaf with
        | some (cause, gpa), _ => w.x.on (fun s => s.trap h cause false (s.hart h).pc rs1.toNat gpa c.virt)
        | none, some e =>
          let (r, x) := runAd w.x w.acc w.acc.upd.length
          match r with
          | none => x
          | some _ =>
            if TlbLock.overlap (x.sys.hart h) (ty == .fetch) c.world e.glob c.asid e.s e.vpn then fin 4 x
            else
              fin 0 (x.on (fun s =>
                let s := s.onHart h (fun t => { t with slots := t.slots ++ [(slot, ⟨ty == .fetch, c.world, c.asid, e.glob, e.s, e.vpn, e.pa, e.flags, e.pbmt⟩)] })
                let s := s.put F.tllock_LOCKED (s.rf F.tllock_LOCKED h ||| 2 ^ slot) h
                s.when (ty == .fetch) (fun s => s.put F.tllock_FETCH (s.rf F.tllock_FETCH h ||| 2 ^ slot) h)))
        | none, none => x
where
  /-- the A and D updates of the walk -/
  runAd (x : M) (w : WalkRes) : Nat → Option WalkRes × M
    | 0 => (some w, x)
    | n + 1 =>
      match x.adRun h w with
      | (some (some w), x) => runAd x w n
      | (_, x) => (none, x)

def execTlbLock (h : Fin 256) (rd : Fin 32) (rs1 rs2 : Word) (s : State) : Host.Outcome State Fault Refusal := onM (fun x => x.tlbLock h rd rs1 rs2) s

end Sys2Proof.Machine
end

