-- ==== Sys2Proof/Machine/Cache.lean ====
section
/-!
DEFINITION. The control of the cache levels and slices, their array errors, lost cores, and the Brace links (ch. 5, 7, 8).
-/
namespace Sys2Proof.Machine

/-! ## TILE_CORE_MCLOG and lines removed from everywhere -/

/-- A first poison or uncorrectable event, or a corrected one, is latched in TILE_CORE_MCLOG (R206). -/
def Sys.coreLog (s : Sys) (h struct entry syn : Nat) (poison ue : Bool) : Sys :=
  let n := h / 4
  let c := h % 4
  let k : RK := ⟨.TILE_CORE_MCLOG, n, c⟩
  let w := s.rd k
  let latch := fun (w : Word) =>
    fput (fput (fput (fput (fput (fput w 63 1 1) 61 1 (b2n ue)) 60 1 (b2n poison)) 48 8 struct) 32 16 entry) 24 8 syn
  let bad := poison || ue
  let w' :=
    if !bad then
      let w := if fget w 63 1 = 0 then latch w else w
      fput w 0 16 (min 65535 (fget w 0 16 + 1))
    else if fget w 63 1 = 0 then latch w
    else if fget w 61 1 = 0 && fget w 60 1 = 0 then latch w
    else fput w 62 1 1
  s.wr k w'


/-- Every holder's copy of a line is removed, and dirty data goes to memory (R272, R392): cores, engines, slices. -/
def M.flushLine (x : M) (l : Nat) : M :=
  let (d, p) := x.peek l
  let s := x.sys
  let dirty := s.harts.any (fun (q : Nat × Hart) => (q.2.dirtyCopy l).isSome) || s.staging.any (fun q => q.2.any (fun g => g.line = l && g.dst)) ||
    s.slices.any (fun (q : Nat × Slice) => (s.sector q.1 l).any (fun e => bit e.d (l % 4)))
  let n := ((s.slices.find? (fun (q : Nat × Slice) => (s.sfGet q.1 l).isSome || (s.sector q.1 l).isSome)).map (fun (q : Nat × Slice) => q.1)).getD 0
  let x := x.on (fun (s : Sys) =>
    let s := s.each (s.harts.map (fun (q : Nat × Hart) => q.1)) (fun s h => s.dropCopies h l)
    let s := { s with staging := s.staging.map (fun (q : Nat × List Stage) => (q.1, q.2.filter (fun g => g.line ≠ l))) }
    s.each (s.slices.map (fun (q : Nat × Slice) => q.1)) (fun s n =>
      if (s.sfGet n l).isSome || (s.sector n l).isSome then ((s.llcClear n l).sfDel n l).epochUp n l else s))
  if dirty then x.sendWrite n l d p else x

/-! ## Core cache levels (R262 to R267) -/

/-- The first bit of a level's fields in TILE_CACHE_CTL: 0 L1I, 1 L1D, 2 L2. -/
def lvBase (lv : Nat) : Nat := 8 * lv

def Sys.cacheCtl (s : Sys) (h : Nat) : Word := s.rd ⟨.TILE_CACHE_CTL, h / 4, h % 4⟩
def Sys.cacheCtlTo (s : Sys) (h : Nat) (w : Word) : Sys := s.wr ⟨.TILE_CACHE_CTL, h / 4, h % 4⟩ w
/-- One bit of a level's fields. -/
def Sys.lvPut (s : Sys) (h lv off v : Nat) : Sys := s.cacheCtlTo h (fput (s.cacheCtl h) (lvBase lv + off) 1 v)
def Sys.lvState (s : Sys) (h lv : Nat) : Nat := fget (s.cacheCtl h) (lvBase lv + 4) 2
def Sys.lvTo (s : Sys) (h lv st : Nat) : Sys := s.cacheCtlTo h (fput (s.cacheCtl h) (lvBase lv + 4) 2 st)

/-- The invalidate of a level has been observed (R263). -/
def Sys.lvSeen (s : Sys) (h lv : Nat) : Bool := (s.hart h).seen.contains lv
def Sys.lvUnsee (s : Sys) (h lv : Nat) : Sys := s.onHart h (fun t => { t with seen := t.seen.filter (· ≠ lv) })

/-- A write of a level's fields (R263, R264, R267). -/
def Sys.levelWrite (s : Sys) (h lv : Nat) (v : Word) : Sys :=
  let b := lvBase lv
  let w := fun (o : Nat) => fget v (b + o) 1 = 1
  let st := s.lvState h lv
  let err := fun (s : Sys) => s.lvPut h lv 6 1
  let s := s.when (w 6) (fun s => s.lvPut h lv 6 0)
  let s := s.when (w 7) (fun s => s.lvPut h lv 7 0)
  -- EN
  let s :=
    if w 0 then
      if st = lvInvalidating || st = lvDraining then err s
      else if st = lvOn then s
      else if fget (s.cacheCtl h) (b + 3) 1 = 1 && s.lvSeen h lv && !w 1 then (s.lvTo h lv lvOn).lvPut h lv 0 1
      else s.lvPut h lv 7 1
    else
      let s := (s.lvPut h lv 3 0).lvUnsee h lv
      if st = lvOn then
        -- L1I drains in one core cycle: it holds nothing dirty
        (if lv = 0 then (s.onHart h (fun t => { t with l1i := [] })).lvTo h lv lvOff else s.lvTo h lv lvDraining).lvPut h lv 0 0
      else s
  -- INV
  let s := if w 1 then (if st = lvOff then (s.lvTo h lv lvInvalidating).lvPut h lv 1 1 else err s) else s
  -- FLUSH
  if w 2 && lv ≠ 0 then (if st = lvOn then s.lvPut h lv 2 1 else err s) else s

/-- A write of TILE_CACHE_CTL. -/
def Sys.cacheCtlWrite (s : Sys) (h : Nat) (v : Word) : Sys := ((s.levelWrite h 0 v).levelWrite h 1 v).levelWrite h 2 v

/-- A read of TILE_CACHE_CTL marks every completed invalidate as observed (R263). -/
def Sys.cacheCtlSeen (s : Sys) (h : Nat) : Sys :=
  s.each [0, 1, 2] (fun s lv =>
    if fget (s.cacheCtl h) (lvBase lv + 3) 1 = 1 && !s.lvSeen h lv then s.onHart h (fun t => { t with seen := lv :: t.seen }) else s)

/-- A whole-cache invalidate ends (R264, R267). -/
def Sys.cacheInvDone (s : Sys) (h lv : Nat) : Sys :=
  if s.lvState h lv = lvInvalidating then
    (((s.onHart h (fun t => match lv with
      | 0 => { t with l1i := [] }
      | 1 => { t with l1d := [] }
      | _ => { t with l2 := [], side := [] })).lvTo h lv lvOff).lvPut h lv 1 0).lvPut h lv 3 1
  else s

/-- A flush or drain walk ends (R265): every line written back if dirty, offered from L2, invalidated. -/
def Sys.walkDone (s : Sys) (h lv : Nat) : Sys :=
  let draining := s.lvState h lv == lvDraining
  if lv = 0 || !(draining || fget (s.cacheCtl h) (lvBase lv + 2) 1 = 1) then s
  else
    let t := s.hart h
    let s := if lv = 1 then
        let s := s.hartTo h { t with l1d := [] }
        s.each t.l1d (fun s c => s.evictL1d h c)
      else
        let s := s.hartTo h { t with l2 := [] }
        s.each t.l2 (fun s c => if (lineIn t.l1d c.line).isSome then
            (if c.st = 3 then s.onHart h (fun t => { t with l1d := lineMap t.l1d c.line (fun d => { d with st := 3 }) }) else s)
          else s.offerLine h c)
    let s := s.lvPut h lv 2 0
    s.when draining (fun s => s.lvTo h lv lvOff)

/-- The levels of a core whose EN is 1 are ON and empty again: at a wake from CS3 or CS4 and at a unit reset (R267). -/
def Sys.levelsWake (s : Sys) (h : Nat) : Sys :=
  s.each [0, 1, 2] (fun s lv => if fget (s.cacheCtl h) (lvBase lv) 1 = 1 then s.lvTo h lv lvOn else s)

/-! ## Slices (R268, R276 to R282) -/

/-- Retirement of a slice begins with HOLD (R276, R277): cause 1 a fault reaction, 2 a RETIRE write, 3 a reflow. -/
def Sys.retireSlice (s : Sys) (n cause : Nat) : Sys :=
  if [slReady, slOn, slDisabling].contains (s.slState n) then
    let s := (((s.slTo n slHold).put F.TILE_SLICE_STATUS_CAUSE cause n).put F.TILE_SLICE_CTL_RETIRE 1 n).put F.TILE_SLICE_STATUS_READMIT_OK 0 n
    let s := s.onSlice n (fun t => { t with since := s.ticks })
    -- a hold notice to every stop (R327)
    { s with msgs := s.msgs ++ ((below 80).map (fun i => Msg.holdNotice n i)) }
  else s

/-- A slice enters ON from READY or TESTED, with a new session (R268, R310). -/
def Sys.sliceOn (s : Sys) (n : Nat) : Sys :=
  (((s.slTo n slOn).put F.TILE_SLICE_CTL_EN 1 n).onSlice n (fun t => { t with session := (t.session + 1) % 256 })).showHa n

/-- A write of TILE_SLICE_CTL (R263, R264, R268, R280). -/
def Sys.sliceCtlWrite (s : Sys) (n : Nat) (v : Word) : Sys :=
  let st := s.slState n
  let w := fun (o : Nat) => fget v o 1 = 1
  let err := fun (s : Sys) => s.put F.TILE_SLICE_CTL_CMD_ERR 1 n
  let s := s.when (w 7) (fun s => s.put F.TILE_SLICE_CTL_CMD_ERR 0 n)
  let s := s.when (w 6) (fun s => s.put F.TILE_SLICE_CTL_EN_REFUSED 0 n)
  let s :=
    if w 0 then
      if st = slOn then s
      else if st = slReady && s.on F.TILE_SLICE_CTL_INV_DONE n && (s.slice n).observed && !w 1 then
        s.sliceOn n
      else s.put F.TILE_SLICE_CTL_EN_REFUSED 1 n
    else
      let s := (s.put F.TILE_SLICE_CTL_INV_DONE 0 n).onSlice n (fun t => { t with observed := false })
      if st = slOn then (s.slTo n slDisabling).put F.TILE_SLICE_CTL_EN 0 n else s
  let s := if w 1 then
      (if st = slReset then (s.slTo n slClearing).put F.TILE_SLICE_CTL_INV 1 n
       else if st = slReady then (s.slTo n slClearingData).put F.TILE_SLICE_CTL_INV 1 n
       else if st = slTested then (s.slTo n slClearingT).put F.TILE_SLICE_CTL_INV 1 n
       else err s)
    else s
  let s := if w 4 then (if [slReady, slOn, slDisabling].contains (s.slState n) then s.retireSlice n 2 else err s) else s
  if w 5 then (if s.slState n = slRetired then (s.slTo n slTesting).put F.TILE_SLICE_CTL_BIST 1 n else err s) else s

/-- A read of TILE_SLICE_CTL that returns INV_DONE = 1 marks the clear as observed (R263). -/
def Sys.sliceCtlSeen (s : Sys) (n : Nat) : Sys :=
  s.when (s.on F.TILE_SLICE_CTL_INV_DONE n) (fun s => s.onSlice n (fun t => { t with observed := true }))

/-- A slice's clear ends (R264, R268, R281). -/
def Sys.sliceClearDone (s : Sys) (n : Nat) : Sys :=
  let st := s.slState n
  let fin := fun (s : Sys) => (s.put F.TILE_SLICE_CTL_INV 0 n).put F.TILE_SLICE_CTL_INV_DONE 1 n
  let full := fun (s : Sys) => s.onSlice n (fun t => { t with sectors := [], sf := [], oc := [] })
  if st = slClearing then ((fin (full s)).slTo n slReady).showHa n
  else if st = slClearingData then ((fin (s.onSlice n (fun t => { t with sectors := [] }))).slTo n slReady).showHa n
  else if st = slClearingT then (((fin (full s)).slTo n slTested).put F.TILE_SLICE_STATUS_READMIT_OK 1 n).showHa n
  else s

/-- A DISABLING slice has written back its sets (R250, R268). -/
def M.disablingDone (x : M) (n : Nat) : M :=
  if x.sys.slState n = slDisabling then
    let x := (x.sys.slice n).sectors.foldl (fun x e => x.evictSector n e) x
    x.on (fun s => (s.slTo n slReady).showHa n)
  else x

/-- The quota of each kennel at a slice (R326). -/
def Sys.setQuotas (s : Sys) : Sys :=
  s.each (below 16) (fun s k =>
    let m := (s.conf.liveMask k).length
    let q := if m = 0 then 0 else min (s.conf.qosOf k).quota (24576 * m) / m
    s.each (below 64) (fun s n => if s.rf F.TILE_SLICE_OCC_QUOTA n k = q then s else s.put F.TILE_SLICE_OCC_QUOTA q n k))

/-- A slice leaves service in the configuration: SLICE_SVC is 0, and every live mask is without it. -/
def Conf.retire (c : Conf) (n : Nat) : Conf :=
  { c with tiles := c.tiles.map (fun p => if p.1 = n then (n, { p.2 with svc := false }) else p) }

/-- The rehash of a retiring slice, from HOLD or at a reflow's commit (R277). The kennels left without a slice are answered for their
stop (R278). -/
def Sys.sliceRehash (s : Sys) (n : Nat) : List Nat × Sys :=
  let before := s.enabledKennels.filter (fun k => (s.conf.liveMask k).contains n)
  let s := { s with conf := s.conf.retire n }
  let s := s.onSlice n (fun t => { t with session := (t.session + 1) % 256, oc := [], since := s.ticks })
  let s := ((s.slTo n slDraining).put F.TILE_SLICE_STATUS_DRAIN_SETS 1536 n).put F.TILE_SLICE_STATUS_DRAIN_SF 196608 n
  let s := s.setQuotas
  let s := { s with msgs := s.msgs.filter (fun m => match m with | .holdNotice n' _ => n' ≠ n | _ => true) }
  let s := s.each (s.stops.map (·.1)) (fun s i => (s.onStop i (fun t => { t with notices := t.notices.filter (· ≠ n) })).releaseHeld i)
  (before.filter (fun k => (s.conf.liveMask k).isEmpty), s.showHa n)

/-- One drain step of a window (R277): 16 sets and 2,048 snoop-filter entries. -/
def M.drainStep (x : M) (n : Nat) : M :=
  let s := x.sys
  let z := s.slice n
  if s.slState n ≠ slDraining || !s.inWindow || s.ticks ≤ z.since then x
  else
    let sets := s.rf F.TILE_SLICE_STATUS_DRAIN_SETS n
    let sf := s.rf F.TILE_SLICE_STATUS_DRAIN_SF n
    let lo := 1536 - sets
    let x := (z.sectors.filter (fun e => lo ≤ llcSet e.q ∧ llcSet e.q < lo + 16)).foldl (fun x e => x.evictSector n e) x
    let from_ := (196608 - sf) / 16
    let x := (z.sf.filter (fun e => from_ ≤ sfSet e.line ∧ sfSet e.line < from_ + 128)).foldl (fun x e =>
      let x := x.on (fun s => s.sfDel n e.line)
      match x.sys.conf.homeOf e.kennel (64 * e.line) with
      | some m => (x.sfPut m e.kennel e).on (fun s => s.epochUp m e.line)
      | none => x) x
    x.on (fun s =>
      let s := (s.put F.TILE_SLICE_STATUS_DRAIN_SETS (sets - 16) n).put F.TILE_SLICE_STATUS_DRAIN_SF (sf - 2048) n
      (s.onSlice n (fun t => { t with since := s.ticks })).showHa n)

/-- The tick after the drain (R277): the slice is powered off and RETIRED. -/
def Sys.slicePowerOff (s : Sys) (n : Nat) : Sys :=
  if s.slState n = slDraining && s.rf F.TILE_SLICE_STATUS_DRAIN_SETS n = 0 && s.rf F.TILE_SLICE_STATUS_DRAIN_SF n = 0 && decide ((s.slice n).since < s.ticks) then
    ((((s.slTo n slRetired).put F.TILE_SLICE_CTL_RETIRE 0 n).put F.TILE_SLICE_CTL_EN 0 n).put F.TILE_SLICE_CTL_INV_DONE 0 n).raise (srcTile n 6)
  else s

/-- A slice's self-test ends (R280, R281). -/
def Sys.sliceBistDone (s : Sys) (n repaired : Nat) (fails : Bool) : Sys :=
  if s.slState n = slTesting then
    let used := s.rf F.TILE_SLICE_STATUS_SPARES_USED n + repaired
    let s := (s.put F.TILE_SLICE_CTL_BIST 0 n).put F.TILE_SLICE_STATUS_READMIT_OK 0 n
    if fails || 32 < used then (s.slTo n slRetired).put F.TILE_SLICE_STATUS_BIST_RESULT 3 n
    else
      let s := (s.slTo n slTested).put F.TILE_SLICE_STATUS_BIST_RESULT (if repaired = 0 then 1 else 2) n
      (s.put F.TILE_SLICE_STATUS_SPARES_USED used n).onSlice n (fun t => { t with sectors := [], sf := [], oc := [] })
  else s

/-! ## Array errors of a slice (R258, R259, R261, R279, R314) -/

/-- An event is latched in TILE_SLICE_ERRLOG and TILE_SLICE_ERRADDR (R261). -/
def Sys.sliceLog (s : Sys) (n array set way sub symbol : Nat) (line : Option Nat) (ue poison : Bool) : Sys :=
  let k : RK := ⟨.TILE_SLICE_ERRLOG, n, 0⟩
  let w := s.rd k
  let latch := fun (s : Sys) (w : Word) =>
    let w := fput (fput (fput (fput (fput (fput (fput (fput w 63 1 1) 61 1 (b2n ue)) 60 1 (b2n poison)) 56 4 array) 42 11 set) 38 4 way) 36 2 sub) 16 6 symbol
    (s.wr k w).wr ⟨.TILE_SLICE_ERRADDR, n, 0⟩ (match line with
      | some l => fput (fput 0 63 1 1) 6 46 l
      | none => 0)
  if !ue then
    let s := if fget w 63 1 = 0 then latch s w else s
    s.bump F.TILE_SLICE_ERRLOG_CE_COUNT n
  else if fget w 63 1 = 0 || fget w 61 1 = 0 then latch s w
  else s.wr k (fput w 62 1 1)

/-- An error of a slice's array. -/
def M.llcError (x : M) (n : Nat) (err : LlcError) : M :=
  let s := x.sys
  let at_ := fun (set way : Nat) => (s.slice n).sectors.find? (fun e => llcSet e.q = set ∧ e.way = way)
  let ce := fun (x : M) => x.on (fun s => s.raise (srcTile n 4))
  let ue := fun (x : M) => x.on (fun s => s.raise (srcTile n 5))
  match err with
  | .symbol line p =>
    let l := line.toNat
    match s.sector n l with
    | some e => ce (x.on (fun s => s.sliceLog n 1 (llcSet e.q) e.way (l % 4) p (some l) false false))
    | none => x
  | .data line =>
    let l := line.toNat
    match s.sector n l with
    | some e =>
      if bit e.d (l % 4) then
        ue (x.on (fun s => (s.onSlice n (fun t => { t with sectors := t.sectors.map (fun f => if f.q = e.q then { f with
            data := f.data.set (l % 4) 0
            p := setBit f.p (l % 4) true } else f) })).sliceLog n 1 (llcSet e.q) e.way (l % 4) 63 (some l) true true))
      else if bit e.v (l % 4) then ce (x.on (fun s => (s.llcClear n l).sliceLog n 1 (llcSet e.q) e.way (l % 4) 63 (some l) false false))
      else x
    | none => x
  | .tag set way bad =>
    match at_ set way with
    | none => x
    | some e =>
      let gone := fun (x : M) => x.on (fun s => s.onSlice n (fun t => { t with sectors := t.sectors.filter (fun f => f.q ≠ e.q) }))
      if e.d = 0 then ce ((gone x).on (fun s => s.sliceLog n 2 set way 0 0 (some (4 * e.q)) false false))
      else if bad then (gone x).on (fun s => (s.sliceLog n 2 set way 0 0 none true false).raise (srcTile n 3))
      else
        let x := gone x
        let x := (below 4).foldl (fun x i => if bit e.d i then x.sendWrite n (4 * e.q + i) 0 true else x) x
        ue (x.on (fun s => s.sliceLog n 2 set way 0 0 (some (4 * e.q)) true true))
  | .dirtyCopy set way => ce (x.on (fun s => s.sliceLog n 3 set way 0 0 ((at_ set way).map (fun e => 4 * e.q)) false false))
  | .replacement set =>
    -- the set's order is the initial one: by way
    let reorder := fun (l : List Sector) =>
      l.filter (fun e => llcSet e.q ≠ set) ++ (below 16).filterMap (fun w => l.find? (fun e => llcSet e.q = set ∧ e.way = w))
    ce (x.on (fun s => (s.onSlice n (fun t => { t with sectors := reorder t.sectors })).sliceLog n 4 set 0 0 0 none false false))
  | .ownerCache i => ce (x.on (fun s => (s.onSlice n (fun t => { t with oc := t.oc.eraseIdx i })).sliceLog n 5 i 0 0 0 none false false))
  | .sfHold line =>
    let l := line.toNat
    match s.sfGet n l with
    | none => x
    | some e =>
      let all : SfEnt := { e with st := 2, tiles := BitVec.allOnes 64, engines := BitVec.allOnes 8, remote := s.twoSockets }
      ce ((x.sfEvict n all).on (fun s => s.sliceLog n 6 (sfSet l % 2048) 0 0 0 (some l) false false))
  | .sfTag line =>
    x.on (fun s => ((s.sfDel n line.toNat).sliceLog n 6 (sfSet line.toNat % 2048) 0 0 0 none true false).raise (srcTile n 11))
  | .txn i => x.on (fun s => (s.sliceLog n 7 i 0 0 0 none true false).raise (srcTile n 7))

/-! ## Core array errors and lost cores (R204, R205, R239, R536) -/

/-- A senior store of a lost core is performed by its station, or its line is written as poison when its entry fails its check. -/
def M.stationStore (x : M) (h : Nat) (spans : List (Nat × Nat)) (data : Nat) (bad : Bool) : M :=
  let room := fun (p : Nat × Nat) => min p.2 (64 - p.1 % 64)
  (spans.foldl (fun (acc : M × Nat) p =>
    let parts := [(p.1, room p, acc.2), (p.1 + room p, p.2 - room p, acc.2 + room p)]
    (parts.foldl (fun x q =>
      if q.2.1 = 0 then x
      else
        let l := q.1 / 64
        let (d, pz) := x.peek l
        let x := x.flushLine l
        let d := linePut d (q.1 % 64) (8 * q.2.1) (data / 2 ^ (8 * q.2.2))
        x.sendWrite (((x.sys.conf.homeOf (x.sys.hartKennel h) (64 * l))).getD 0) l d (bad || pz)) acc.1, acc.2 + p.2)) (x, 0)).1

/-- A core is halted for good: its architectural state is lost, its arrays stay (R205 steps 1 and 3, R536). -/
def M.coreHalt (x : M) (h : Nat) (badStores : List Nat) : M :=
  let t := x.sys.hart h
  let k := x.sys.hartKennel h
  let x := x.on (fun s => (s.hartTo h { Hart.cold with
    l1d := t.l1d
    l2 := t.l2
    seen := t.seen
    lost := some ⟨0, s.ticks, k⟩ }).coreTo h psOffline)
  let x := x.on (fun s => s.put F.TILE_CORE_TEST_STATE 1 (h / 4) (h % 4))
  ((t.sq.mapIdx (fun i q => (i, q))).foldl (fun x q => match q.2 with
    | .store spans d _ _ => x.stationStore h spans d (badStores.contains q.1)
    | .cbo .zero pa _ _ => x.stationStore h [(pa / 64 * 64, 64)] 0 (badStores.contains q.1)
    | _ => x) x)

/-- A core that holds nothing is OFFLINE at once (R536, R567). -/
def Sys.offlineNow (s : Sys) (h : Nat) : Sys :=
  ((s.coreTo h psOffline).put F.TILE_CORE_TEST_STATE 2 (h / 4) (h % 4)).put F.TILE_CORE_TEST_OFFLINE 0 (h / 4) (h % 4)

/-- A core is lost (R205). -/
def M.coreLost (x : M) (h struct entry syn : Nat) (badStores : List Nat) : M :=
  let st := x.sys.coreState h
  if st = psOffline then x
  else
    let x := x.on (fun s => (s.coreLog h struct entry syn false true).raise (srcTile (h / 4) 2) (h % 4))
    if st = psResetHeld then x.on (fun s => s.offlineNow h) else x.coreHalt h badStores

/-- OFFLINE written, or the C3 containment of a core (R536). -/
def M.coreOffline (x : M) (h : Nat) : M :=
  let st := x.sys.coreState h
  if x.sys.rf F.TILE_CORE_TEST_STATE (h / 4) (h % 4) ≠ 0 then x
  else if st = psResetHeld then x.on (fun s => s.offlineNow h)
  else (x.on (fun s => s.put F.TILE_CORE_TEST_OFFLINE 1 (h / 4) (h % 4))).coreHalt h []

/-- A window's step of the flush of a lost core: 512 lines of L1D, then L2 (R205). -/
def M.lostStep (x : M) (h : Nat) (unreadable : List Nat) : M :=
  let t := x.sys.hart h
  match t.lost with
  | none => x
  | some st =>
    if !x.sys.inWindow || x.sys.ticks ≤ st.last || 33792 ≤ st.pos then x
    else
      let here := fun (p : Nat) => decide (st.pos ≤ p) && decide (p < st.pos + 512)
      let d := t.l1d.filter (fun c => here (16 * l1Set c.line + c.way))
      let e := t.l2.filter (fun c => here (1024 + 16 * l2Set c.line + c.way))
      let out := fun (x : M) (c : CLine) =>
        if c.st = 3 then x.sendWrite (((x.sys.conf.homeOf st.kennel (64 * c.line))).getD 0) c.line c.data (c.poison || unreadable.contains c.line)
        else x.on (fun s => s.send { s.coreReq h .cleanDrop c.line with kennel := c.owner % 16 })
      -- a dirty L1D line supersedes the L2 copy
      let x := x.on (fun s => s.onHart h (fun t => { t with
        l1d := t.l1d.filter (fun c => !d.contains c)
        l2 := (t.l2.filter (fun c => !e.contains c)).filter (fun c => !d.any (fun f => f.line = c.line ∧ f.st = 3))
        lost := some { st with pos := st.pos + 512, last := x.sys.ticks } }))
      let x := d.foldl out x
      e.foldl (fun x c => if (lineIn (x.sys.hart h).l1d c.line).isSome then x else out x c) x

/-- The tick after the flush ends: the core is powered off and CORE_LOST raised in the domain of the kennel that owned it (R205). -/
def Sys.lostPowerOff (s : Sys) (h : Nat) : Sys :=
  match (s.hart h).lost with
  | none => s
  | some st =>
    if st.pos < 33792 || s.ticks ≤ st.last then s
    else
      let s := s.hartTo h { Hart.cold with seen := (s.hart h).seen }
      let s := (s.put F.TILE_CORE_TEST_STATE 2 (h / 4) (h % 4)).put F.TILE_CORE_TEST_OFFLINE 0 (h / 4) (h % 4)
      let s := if st.kennel < 15 then s.put F.ICN_DOM_LOST_LOST (s.rf F.ICN_DOM_LOST_LOST st.kennel (h / 64) ||| 2 ^ (h % 64)) st.kennel (h / 64) else s
      s.icnSync st.kennel

/-- An error of a core's array (R204, R258, R259). -/
def M.coreError (x : M) (h : Nat) (err : CoreError) : M :=
  let n := h / 4
  let s := x.sys
  let t := s.hart h
  let ce := fun (s : Sys) (struct entry syn : Nat) => (s.coreLog h struct entry syn false false).raise (srcTile n 0) (h % 4)
  let drop := fun (s : Sys) (l : Nat) (l2 : Bool) =>
    s.onHart h (fun t => if l2 then { t with l2 := lineOut t.l2 l } else { t with l1d := lineOut t.l1d l })
  match err with
  | .predictor i => x.on (fun s => ce (s.onHart h (fun t => { t with pred := t.pred.eraseIdx i })) 0x15 i 0)
  | .l1iData line c syn =>
    match lineIn t.l1i line.toNat with
    | some d =>
      x.on (fun s => ce (if c then s else s.onHart h (fun t => { t with l1i := lineOut t.l1i line.toNat })) 0x08 (16 * l1Set d.line + d.way) syn.toNat)
    | none => x
  | .data l2 line c syn =>
    match lineIn (if l2 then t.l2 else t.l1d) line.toNat with
    | none => x
    | some d =>
      let struct := if l2 then 0x0C else 0x0A
      let entry := if l2 then 16 * l2Set d.line + d.way else 16 * l1Set d.line + d.way
      if c then x.on (fun s => ce s struct entry syn.toNat)
      else if d.st = 3 then
        let p := fun (c : CLine) => { c with poison := true }
        x.on (fun s => (s.onHart h (fun t => if l2 then { t with l2 := lineMap t.l2 d.line p } else { t with l1d := lineMap t.l1d d.line p })).coreLog
          h struct entry syn.toNat true false)
      else x.on (fun s => ce (drop s d.line l2) struct entry syn.toNat)
  | .tag arr set way bad =>
    let l := match arr with | 0 => t.l1i | 1 => t.l1d | _ => t.l2
    let setOf := match arr with | 2 => l2Set | _ => l1Set
    match l.find? (fun c => setOf c.line = set.val ∧ c.way = way.val) with
    | none => x
    | some d =>
      let struct := match arr with | 0 => 0x09 | 1 => 0x0B | _ => 0x0D
      let entry := 16 * set.val + way.val
      let gone := fun (s : Sys) => match arr with
        | 0 => s.onHart h (fun t => { t with l1i := lineOut t.l1i d.line })
        | 1 => drop s d.line false
        | _ => drop s d.line true
      if d.st ≠ 3 then x.on (fun s => ce (gone s) struct entry 0)
      else if bad then x.on (fun s => (((gone s).coreLog h struct entry 0 true false).raise (srcTile n 3) (h % 4)))
      else ((x.on gone).sendWrite (((s.conf.homeOf (s.hartKennel h) (64 * d.line))).getD 0) d.line 0 true).on (fun s => s.coreLog h struct entry 0 true false)
  | .buffer side line c syn =>
    let l := line.toNat
    x.on (fun s =>
      let s := if c then s
        else if side then
          (s.onHart h (fun t => { t with side := t.side.filter (fun e => ¬ (e.line = l ∧ e.valid)) })).send (s.coreReq h .cleanDrop l)
        else
          let s := s.each ((s.hart h).sfb.filter (fun e => e.line = l && !e.dead && e.chunks = 15)) (fun s e => s.sfbDrop h e)
          s.onHart h (fun t => { t with rob := t.rob.map (fun u => if u.sfb.contains l ∧ u.reads then { u with sfb := [], done := false } else u) })
      ce s (if side then 0x0F else 0x0E) 0 syn.toNat)
  | .tlb st i =>
    x.on (fun s => ce (s.onHart h (fun t => match st with
      | 0 => { t with tlbD := t.tlbD.eraseIdx i }
      | 1 => { t with tlbI := t.tlbI.eraseIdx i }
      | 2 => { t with tlbL2 := t.tlbL2.filter (fun p => p.1 ≠ i) }
      | _ => if i < 32 then { t with wc1 := t.wc1.eraseIdx i } else { t with wcU := t.wcU.eraseIdx (i - 32) })) (0x10 + st.val) i 0)
  | .slot i place =>
    if t.slots.any (fun p => p.1 = i.val) then
      x.on (fun s =>
        let s := ce (s.slotFree h i) 0x14 i 0
        match place with
        | some j => match (s.hart h).rob[j]? with
          | some u => s.onHart h (fun t => { t with rob := t.rob.set j { u with exc := some (exHardware, match u.pieces with | p :: _ => p.va | [] => 0, 0), value := 0, done := false } })
          | none => s
        | none => s)
    else x
  | .lost st e syn bad => x.coreLost h st.toNat e.toNat syn.toNat bad

/-! ## Brace links (R88, R315, R319, R592) -/

def brcTraining : Nat := 1
def brcUp : Nat := 2
def brcDown : Nat := 3
def brcMismatch : Nat := 4

def Sys.braceSt (s : Sys) (b : Nat) : BraceSt := Bank.getD s.brace b ⟨[], 0, none⟩

/-- A link goes down: its traffic is held until the tick (R319); with the last one the sockets cannot stay coherent. -/
def Sys.braceDown (s : Sys) (b : Nat) : Sys :=
  if s.rf F.BRC_STATUS_STATE b = brcUp then
    let s := (s.put F.BRC_STATUS_STATE brcDown b).raise (srcBrace b 1)
    let s := { s with brace := Bank.set s.brace b { s.braceSt b with downAt := some s.ticks } }
    s.when (!(below 3).any (fun i => s.rf F.BRC_STATUS_STATE i == brcUp)) (fun s => s.raise (srcGlobal 5))
  else s

/-- The tick after a link went down: the map of R318 is rebuilt and its unacknowledged messages go to the links the new map names. -/
def Sys.braceTick (s : Sys) : Sys :=
  s.each (below 3) (fun s b =>
    if (s.braceSt b).downAt.isSome then
      let sent := (s.braceSt b).sent
      let s := { s.put F.BRC_STATUS_IN_MAP 0 b with brace := Bank.set s.brace b ⟨[], (s.braceSt b).seq, none⟩ }
      let act := (below 3).filter (fun i => s.on F.BRC_STATUS_IN_MAP i)
      s.each sent (fun s m =>
        match act[(foldBits m.line 8 [0, 8, 16, 24, 32] ^^^ nget m.line 40 6) % act.length]? with
        | some i => { s with brace := Bank.set s.brace i { s.braceSt i with sent := (s.braceSt i).sent ++ [m] } }
        | none => s)
    else s)

/-- The peer acknowledges a message. -/
def Sys.braceAck (s : Sys) (b seq : Nat) : Sys :=
  { s with brace := Bank.set s.brace b { s.braceSt b with sent := (s.braceSt b).sent.filter (fun m => m.seq ≠ seq) } }

/-- PAIR_ID of the image in force: ZNX_PAIR, or until the seal the applied image's own (R88). -/
def Sys.pairId (s : Sys) : Word :=
  match s.znx.full with
  | some h => BitVec.ofNat 64 (u h.bytes 40 8)
  | none => s.rd ⟨.ZNX_PAIR, 0, 0⟩

/-- A link trains: full width and rate, equal PAIR_ID and different SOCKET bring it up (R88, R315, R592). -/
def Sys.braceTrain (s : Sys) (b : Nat) (full : Bool) (peerId : Word) (peerSocket : Bool) (peerLink : Nat) : Sys :=
  if s.rf F.BRC_STATUS_STATE b = brcTraining then
    let s := s.put F.BRC_STATUS_PEER_LINK peerLink b
    if !full then s.put F.BRC_STATUS_STATE brcDown b
    else if s.pairId ≠ peerId || s.socket = b2n peerSocket then (s.put F.BRC_STATUS_STATE brcMismatch b).raise (srcBrace b 2)
    else (s.put F.BRC_STATUS_STATE brcUp b).put F.BRC_STATUS_IN_MAP 1 b
  else s

/-- A flit error is repaired by a replay (R315). -/
def Sys.flitReplay (s : Sys) (b : Nat) : Sys :=
  if s.rf F.BRC_STATUS_STATE b = brcUp then (s.bump F.BRC_STATUS_REPLAYS b).raise (srcBrace b 0) else s

/-! ## Commands -/

def execCacheInvDone (h : Fin 256) (level : Fin 3) (s : State) : Host.Outcome State Fault Refusal := onSys (fun s => s.cacheInvDone h level) s
def execCacheWalkDone (h : Fin 256) (level : Fin 3) (s : State) : Host.Outcome State Fault Refusal := onSys (fun s => s.walkDone h level) s
def execSliceDrainStep (n : Fin 64) (s : State) : Host.Outcome State Fault Refusal := onM (fun x => x.drainStep n) s
def execSlicePowerOff (n : Fin 64) (s : State) : Host.Outcome State Fault Refusal := onSys (fun s => s.slicePowerOff n) s
def execSliceClearDone (n : Fin 64) (s : State) : Host.Outcome State Fault Refusal := onSys (fun s => s.sliceClearDone n) s
def execSliceDisablingDone (n : Fin 64) (s : State) : Host.Outcome State Fault Refusal := onM (fun x => x.disablingDone n) s
def execSliceBistDone (n : Fin 64) (repaired : BitVec 6) (fails : Bool) (s : State) : Host.Outcome State Fault Refusal :=
  onSys (fun s => s.sliceBistDone n repaired.toNat fails) s
def execLlcArrayError (n : Fin 64) (err : LlcError) (s : State) : Host.Outcome State Fault Refusal := onM (fun x => x.llcError n err) s
def execCoreArrayError (h : Fin 256) (err : CoreError) (s : State) : Host.Outcome State Fault Refusal := onM (fun x => x.coreError h err) s
def execLostCoreFlushStep (h : Fin 256) (unreadable : List Line) (s : State) : Host.Outcome State Fault Refusal :=
  onM (fun x => x.lostStep h (unreadable.map BitVec.toNat)) s
def execLostCorePowerOff (h : Fin 256) (s : State) : Host.Outcome State Fault Refusal := onSys (fun s => s.lostPowerOff h) s
def execBraceLinkDown (b : Fin 3) (s : State) : Host.Outcome State Fault Refusal := onSys (fun s => s.braceDown b) s
def execBraceAck (b : Fin 3) (seq : Nat) (s : State) : Host.Outcome State Fault Refusal := onSys (fun s => s.braceAck b seq) s
def execBraceTraining (b : Fin 3) (full : Bool) (peerId : Word) (peerSocket : Bool) (peerLink : Byte) (s : State) :
    Host.Outcome State Fault Refusal := onSys (fun s => s.braceTrain b full peerId peerSocket peerLink.toNat) s
def execBraceFlitReplay (b : Fin 3) (s : State) : Host.Outcome State Fault Refusal := onSys (fun s => s.flitReplay b) s

end Sys2Proof.Machine
end

