-- ==== Sys2Proof/Machine/Znx.lean ====
section
/-!
DEFINITION. The ZNX block's commands and states (R74 to R77, R96 to R103, R107, R109), but for what an image writes into the
stations and what a commit changes there, which Reflow.lean holds.
-/
namespace Sys2Proof.Machine

/-- IMAGE_STATE (R109). -/
abbrev imgEmpty : Nat := 0
abbrev imgVerified : Nat := 1
abbrev imgApplying : Nat := 2
abbrev imgApplied : Nat := 3
abbrev imgSealed : Nat := 4
abbrev imgFailed : Nat := 5

/-- REFLOW_STATE (R109). -/
abbrev rfIdle : Nat := 0
abbrev rfStaged : Nat := 1
abbrev rfDistributing : Nat := 2
abbrev rfReady : Nat := 3
abbrev rfVoting : Nat := 4
abbrev rfCommit : Nat := 5
abbrev rfDraining : Nat := 6

def Sys.imageState (s : Sys) : Nat := s.rf F.ZNX_STATUS_IMAGE_STATE
def Sys.reflowState (s : Sys) : Nat := s.rf F.ZNX_STATUS_REFLOW_STATE
def Sys.imageTo (s : Sys) (st : Nat) : Sys := s.put F.ZNX_STATUS_IMAGE_STATE st
def Sys.reflowTo (s : Sys) (st : Nat) : Sys := s.put F.ZNX_STATUS_REFLOW_STATE st
def Sys.znxBusy (s : Sys) (b : Bool) : Sys := s.put F.ZNX_STATUS_BUSY (b2n b)
def Sys.znxCmdErr (s : Sys) : Sys := s.put F.ZNX_STATUS_CMD_ERR 1

/-- ERR_CODE, ERR_SECTION and ERR_RECORD (R96). -/
def Sys.znxErr (s : Sys) (code sect recd : Nat) : Sys :=
  ((s.put F.ZNX_STATUS_ERR_CODE code).put F.ZNX_STATUS_ERR_SECTION sect).put F.ZNX_STATUS_ERR_RECORD recd

/-- ZNX_REFLOW_RESULT (R101, R103). -/
def Sys.reflowResult (s : Sys) (outcome cause station : Nat) : Sys :=
  (((s.put F.ZNX_REFLOW_RESULT_OUTCOME outcome).put F.ZNX_REFLOW_RESULT_CAUSE cause).put
    F.ZNX_REFLOW_RESULT_STATION station).put F.ZNX_REFLOW_RESULT_TARGET (s.rf F.ZNX_REFLOW_TARGET_TARGET)

/-- ZNX_DIGEST as one big-endian number of its 48 bytes. -/
def Sys.digestNat (s : Sys) : Nat :=
  beNat ((below 6).flatMap (fun i => natLe 8 (s.rf F.ZNX_DIGEST_DIGEST i)))

/-- ZNX_DIGEST takes a digest. -/
def Sys.showDigest (s : Sys) (d : Nat) : Sys :=
  (below 6).foldl (fun t i => t.put F.ZNX_DIGEST_DIGEST (u (natBe 48 d) (8 * i) 8) i) s

/-- What the checks of VERIFY compare the copy with. -/
def Sys.imgCtx (s : Sys) : ImgCtx :=
  ⟨s.znx.copy, s.znx.len, s.znx.copyAt, s.imageState == imgSealed, s.socket, s.rf F.SYS_ID_STEPPING,
   s.on F.ZNX_FUSE_FACTORY_MODE, s.rf F.ZNX_FUSE_MIN_SVN, s.rf F.ZNX_FUSE_KEY_REVOKED, s.rf F.ZNX_FUSE_KEY_PROGRAMMED,
   s.znx.keyHash, s.digestNat, s.rf F.SPN_CFG_POSITION, s.rf F.SPN_CFG_K, s.conf⟩

/-- The records of the staged image, and nothing else. -/
def Sys.stagedRecs (s : Sys) : Conf :=
  match s.znx.staged with
  | some h => ({ s.imgCtx with bytes := h.bytes } : ImgCtx).allRecs.foldl (fun c p => c.merge1 true p.2.1 p.2.2.1 p.2.2.2) Conf.empty
  | none => Conf.empty

/-- The configuration that the staged image gives when it is merged with the one in force. -/
def Sys.stagedConf (s : Sys) : Conf :=
  match s.znx.staged with
  | some h => ({ s.imgCtx with bytes := h.bytes } : ImgCtx).result
  | none => s.conf

/-- CLAIM (R75): a service core becomes the owner when none is. -/
def Sys.znxClaim (s : Sys) (core : Nat) : Sys :=
  if s.on F.ZNX_OWNER_HELD then s.put F.ZNX_STATUS_OWNER_ERR 1
  else if s.imageState = imgFailed then s.znxCmdErr
  else (s.put F.ZNX_OWNER_HELD 1).put F.ZNX_OWNER_HART (0x1000 + core)

/-- RELEASE (R75). -/
def Sys.znxRelease (s : Sys) : Sys := (s.put F.ZNX_OWNER_HELD 0).put F.ZNX_OWNER_HART 0

/-- VERIFY begins (R74, R76): the copy is taken from the SRAM; a source out of range reads nothing. -/
def M.znxVerify (x : M) : M :=
  let s := x.sys
  if ([imgEmpty, imgVerified].contains s.imageState) ||
      (s.imageState == imgSealed && [rfIdle, rfStaged].contains s.reflowState) then
    let o := s.rf F.ZNX_SRC_OFFSET
    let n := s.rf F.ZNX_SRC_LEN
    let c := if 524288 < o + n ∨ 65536 < n then [] else x.mem.sramBytes o n
    { x with sys := { s.znxBusy true with znx := { s.znx with copy := c, copyAt := o, len := n, op := 0x10 } } }
  else { x with sys := s.znxCmdErr }

/-- VERIFY ends (R76, R96, R97). -/
def Sys.znxVerifyDone (s : Sys) : Sys :=
  if s.znx.op ≠ 0x10 then s
  else
    let held := fun (c : Conf) => (⟨s.znx.copy, c, sha384 s.znx.copy⟩ : Held)
    let t := { s.znxBusy false with znx := { s.znx with op := 0, copy := [] } }
    match s.imgCtx.verify, s.imageState == imgSealed with
    | .pass c, false => { (t.imageTo imgVerified).znxErr 0 0 0 with znx := { t.znx with full := some (held c) } }
    | .fail e a b, false => { (t.imageTo imgEmpty).znxErr e a b with znx := { t.znx with full := none } }
    | .pass c, true => { (t.reflowTo rfStaged).znxErr 0 0 0 with znx := { t.znx with staged := some (held c) } }
    | .fail e a b, true => { (t.reflowTo rfIdle).znxErr e a b with znx := { t.znx with staged := none } }

/-- Firmware writes a byte of the SRAM while VERIFY copies it (R74): the copy holds the old or the new value, unspecified. -/
def Sys.znxRace (s : Sys) (off : Nat) (b : Byte) : Sys :=
  if s.znx.op = 0x10 ∧ s.znx.copyAt ≤ off ∧ off < s.znx.copyAt + s.znx.copy.length then
    let i := off - s.znx.copyAt
    { s.usedFree with znx := { s.znx with copy := if s.freeVal 1 = 1 then s.znx.copy.set i b else s.znx.copy } }
  else s

/-- The installed capacity of a channel in bytes, as firmware recorded it (R96). -/
def Sys.chanCap (s : Sys) (m : Nat) : Nat :=
  (below 2).foldl (fun n d => if s.on F.MC_DIMM_CFG_PRESENT m d then n + s.rf F.MC_DIMM_CFG_CAP_GIB m d * gib else n) 0

/-- The index of an image's section of a type (R79). -/
def sectIndex (b : List Byte) (t : Nat) : Nat :=
  ((below (u b 16 2)).find? (fun i => u b (128 + 16 * i) 2 == t)).getD 0xFF

/-- The first interleave set that exceeds the capacity of a channel of its own (R96). -/
def Sys.capacityBad (s : Sys) (c : Conf) : Option Nat :=
  (below c.ilv.length).find? (fun i => match c.ilv[i]? with
    | none => false
    | some v => (below 16).any (fun m => bit v.mask m && decide (s.chanCap m < v.chOffset + v.size / v.parts)))

/-- SEAL (R97, R98). -/
def Sys.znxSeal (s : Sys) : Sys :=
  if s.imageState = imgApplied then
    match s.znx.full with
    | some h =>
      let s := ((s.imageTo imgSealed).showDigest h.digest).put F.ZNX_BUILD_VALUE (u h.bytes 32 8)
      let s := (s.put F.ZNX_PAIR_VALUE (u h.bytes 40 8)).put F.ZNX_REFLOW_COUNT_COUNT 0
      { s with znx := { s.znx with full := none } }
    | none => s.imageTo imgSealed
  else s.znxCmdErr

/-- The counts from now to the vote instant of a TARGET, as an integer (R102). -/
def Sys.toVote (s : Sys) (target : Nat) : Int :=
  ((target : Int) - 1 - s.spanNo) * s.spanS + s.spanS - 2560 - s.phase

/-- ARM (R101, R102). -/
def Sys.znxArm (s : Sys) (concerned : Conf → List Nat) : Sys :=
  let t := s.rf F.ZNX_REFLOW_TARGET_TARGET
  match s.znx.staged with
  | some h =>
    if s.reflowState = rfStaged ∧ s.imageState = imgSealed ∧ s.spanNo < t ∧ 2560 < s.toVote t then
      { s.reflowTo rfDistributing with shadow := some h.conf, znx := { s.znx with concerned := concerned h.conf, ready := [] } }
    else s.znxCmdErr
  | none => s.znxCmdErr

/-- A reflow aborts (R101, R107): ABORT is broadcast, shadows and the staged image are discarded. -/
def Sys.reflowAbort (s : Sys) (cause station : Nat) : Sys :=
  ({ (s.reflowTo rfIdle).reflowResult 2 cause station with
      shadow := none, znx := { s.znx with staged := none, concerned := [], ready := [] } }).raise (srcGlobal 3)

/-- CANCEL (R101). -/
def Sys.znxCancel (s : Sys) : Sys :=
  if s.imageState = imgSealed ∧ [rfStaged, rfDistributing, rfReady].contains s.reflowState then s.reflowAbort 5 0xFF
  else s.znxCmdErr

/-- A write of ZNX_REFLOW_TARGET (R109). -/
def Sys.targetWrite (s : Sys) (v : Word) : Sys :=
  if [rfIdle, rfStaged].contains s.reflowState then s.put F.ZNX_REFLOW_TARGET_TARGET (fget v 0 48) else s.znxCmdErr

/-- DISTRIBUTION_DONE (R101). -/
def Sys.distributed (s : Sys) : Sys := if s.reflowState = rfDistributing then s.reflowTo rfReady else s

/-- A containment that touches a unit the reflow concerns, between the vote and the tick, aborts the reflow (R104, R531). -/
def Sys.containAbort (s : Sys) (station : Nat) : Sys :=
  if [rfVoting, rfCommit].contains s.reflowState && s.znx.concerned.contains station then s.reflowAbort 4 0xFF else s

/-- The ZNX block at cold or warm reset (R97, R99, R109). -/
def Sys.znxReset (s : Sys) : Sys :=
  { s with znx := ⟨[], 0, 0, 0, none, none, [], [], false, none, 0, 0, s.znx.keyHash⟩, conf := Conf.empty, shadow := none }

/-- VERIFY_DONE. -/
def execVerifyDone (s : State) : Host.Outcome State Fault Refusal := onSys Sys.znxVerifyDone s

/-- DISTRIBUTION_DONE. -/
def execDistributionDone (s : State) : Host.Outcome State Fault Refusal := onSys Sys.distributed s

end Sys2Proof.Machine
end

