-- ==== Sys2Proof/Machine/Power.lean ====
section
/-!
DEFINITION. Core power states, idle choice, starts and releases, pack frequency and temperature (ch. 16).
-/
namespace Sys2Proof.Machine

/-! ## Records -/

/-- A core that is in no power sequence. -/
def CorePwr.idle : CorePwr := ⟨0, 0, false, false, 0, none, false, none⟩

def Sys.onPwr (s : Sys) (f : PwrSt → PwrSt) : Sys := { s with pwr := f s.pwr }
def Sys.cpwr (s : Sys) (h : Nat) : CorePwr := Bank.getD s.pwr.cores h .idle
def Sys.onCpwr (s : Sys) (h : Nat) (f : CorePwr → CorePwr) : Sys :=
  s.onPwr (fun p => { p with cores := Bank.set p.cores h (f (Bank.getD p.cores h .idle)) })

/-- The states of a kennel (R377). -/
def kDisabled : Nat := 0
def kHeld : Nat := 1
def kRunning : Nat := 2
def kStopping : Nat := 3
def kStopped : Nat := 4
def kResetting : Nat := 5

def Sys.kState (s : Sys) (k : Nat) : Nat := s.rf F.SYS_KCTL_STATE k
def Sys.kTo (s : Sys) (k st : Nat) : Sys := s.put F.SYS_KCTL_STATE st k

/-- The core is enabled by its tile's CORE_EN, and the tile belongs to a kennel (R567). -/
def Sys.coreEn (s : Sys) (h : Nat) : Bool :=
  (s.conf.tile (h / 4)).kennel != 0xFF && bit (s.conf.tile (h / 4)).coreEn (h % 4)

/-- The core counts as in CS4 (R562). -/
def Sys.countsCs4 (s : Sys) (h : Nat) : Bool :=
  [psCs4, psStopped, psResetHeld, psOffline].contains (s.coreState h) || !s.coreEn h

/-- The pack of a tile is powered off (R562). -/
def Sys.packOff (s : Sys) (n : Nat) : Bool := (below 4).all (fun c => s.countsCs4 (4 * n + c))

/-- The secure hold count of a station (R402). -/
def Sys.holdCount (s : Sys) (st : Nat) : Nat := s.rf F.PWR_SHOLD_COUNT st

/-- The staged image moves the tile or changes its CORE_EN (R100). -/
def Sys.tileMoves (s : Sys) (n : Nat) : Bool :=
  s.stagedRecs.tiles.any (fun p => p.1 = n && (p.2.kennel != (s.conf.tile n).kennel || p.2.coreEn != (s.conf.tile n).coreEn))

/-- A reflow has the tile's cores in hand, from its ready vote to the end of the commit window (R104). -/
def Sys.tileHeld (s : Sys) (n : Nat) : Bool :=
  s.znx.ready.contains n && (s.znx.commitWindow || ([rfVoting, rfCommit].contains s.reflowState && s.tileMoves n))

/-- A port whose ready vote holds a moving link defers new requests until the commit tick (R104). -/
def Sys.portHeld (s : Sys) (p : Nat) : Bool :=
  [rfVoting, rfCommit].contains s.reflowState && s.znx.ready.contains (80 + p) && s.stagedRecs.ports.any (fun q => q.1 = p)

/-- A kennel is concerned by a reflow between its vote and the end of the commit window (R104). -/
def Sys.kennelConcerned (s : Sys) (k : Nat) : Bool :=
  ([rfVoting, rfCommit].contains s.reflowState || s.znx.commitWindow) &&
  let c := if s.znx.commitWindow then s.shadow.getD Conf.empty else s.stagedRecs
  let old := if s.znx.commitWindow then s.znx.sweepOld.getD s.conf else s.conf
  c.kennels.any (fun p => p.1 = k) || c.tiles.any (fun p => p.2.kennel = k || (old.tile p.1).kennel = k) ||
    c.ports.any (fun p => p.2.kennels.contains k || (old.port p.1).kennels.contains k) || c.qos.any (fun p => p.1 = k)

/-! ## Pack frequency (R570 to R573) -/

/-- The active-pack ceiling. -/
def activeCeil (n : Nat) : Nat :=
  if n ≤ 4 then 3800 else if n ≤ 16 then 3500 else if n ≤ 32 then 3200 else if n ≤ 48 then 3000 else 2800

/-- The pack is active: a core is in CS0, CS1 or CS2, or on its way into or out of a state. -/
def Sys.packActive (s : Sys) (n : Nat) : Bool :=
  (below 4).any (fun c => [psCs0, psCs1, psCs2, psEntering, psExiting, psHalted].contains (s.coreState (4 * n + c)))

/-- The thermal ceiling of a pack. -/
def Sys.thermal (s : Sys) (n : Nat) : Nat := Bank.getD s.pwr.thermal n 3800

/-- The lowest ceiling in force, REQ_MHZ apart. -/
def Sys.ceilMhz (s : Sys) (n : Nat) : Nat :=
  min (min (s.rf F.PWR_CFG_PACK_FMAX) (activeCeil (s.rf F.PWR_STATUS_ACTIVE_PACKS))) (min (s.rf F.PWR_STATUS_LIMIT_MHZ) (s.thermal n))

/-- REQ_MHZ in force. -/
def Sys.reqMhz (s : Sys) (n : Nat) : Nat := Bank.getD s.pwr.reqMhz n 2800

/-- The frequency of a pack now: the highest multiple of 25 MHz under every bound; 800 in an emergency; halved under VIN_LIMIT; 0
while powered off. -/
def Sys.packMhz (s : Sys) (n : Nat) : Nat :=
  if s.packOff n then 0
  else
    let m := min (max 800 (s.reqMhz n)) (s.ceilMhz n) / 25 * 25
    let m := if s.on F.PWR_STATUS_EMERGENCY then min m 800 else m
    if s.on F.PWR_STATUS_VIN_LIMIT then m / 2 else m

/-- A pack's frequency change is applied (R571). -/
def Sys.freqApply (s : Sys) (n : Nat) : Sys :=
  let s := s.put F.TILE_PACK_FREQ_ACT_MHZ (s.packMhz n) n
  s.put F.TILE_PACK_FREQ_PENDING (b2n (s.pwr.deferred.any (fun d => d.key = ⟨.TILE_PACK_FREQ, n, 0⟩))) n

/-- The pack's gates follow its cores (R562): a pack that goes off or comes on shows its frequency. -/
def Sys.packCheck (s : Sys) (n : Nat) : Sys :=
  if s.packOff n != (s.rf F.TILE_PACK_FREQ_ACT_MHZ n == 0) then s.freqApply n else s

/-- PACK_FREQ_CHANGE (R571): in a span-locked kennel only in a window. -/
def Sys.freqChange (s : Sys) (n : Nat) : Sys :=
  if s.spanLocked (s.tileKennel n) && !s.inWindow then s else s.freqApply n

/-- REQ_MHZ comes into force (R570, R571). -/
def Sys.freqRequest (s : Sys) (n mhz : Nat) : Sys :=
  let s := s.onPwr (fun p => { p with reqMhz := Bank.set p.reqMhz n (mhz / 25 * 25) })
  s.when (s.spanLocked (s.tileKennel n)) (fun s => s.put F.TILE_PACK_FREQ_PENDING 1 n)

/-! ## The idle choice (R561 to R565). Instants are in 1/32 ns: a count of the timebase is 25 of them -/

/-- The instant of the next tick, and of a later one. -/
def Sys.tickAt (s : Sys) (ahead : Nat) : Nat := 25 * (s.span.now + (s.spanS - s.phase) + ahead * s.spanS)

/-- The instants that the ICN reports for a hart (R424). -/
def Sys.icnInstants (s : Sys) (h : Nat) : List Nat :=
  let d := s.hartKennel h
  let mine := (s.srcIds d).filter (fun id => s.srcPending d id && (s.srcCtxs d id).any (fun k => k.i = h))
  (mine.filterMap (fun id => (Bank.get? s.icn.holdoff (d, s.rf F.ICN_SRC_GROUP d id)).map (25 * ·))) ++
  (if mine.any (fun id => s.grpFenced d (s.rf F.ICN_SRC_GROUP d id)) then [s.tickAt 0] else [])

/-- The known events of a hart (R561). -/
def Sys.knownEvents (s : Sys) (h : Nat) : List Nat :=
  let t := s.hart h
  let now := s.span.now
  (if t.cf 0x30A 63 1 = 1 then [25 * (t.csrGet 0x14D).toNat] else []) ++
  (if t.cf 0x60A 63 1 = 1 then [25 * (now + ((t.csrGet 0x24D) - BitVec.ofNat 64 now - t.csrGet 0x605).toNat)] else []) ++
  (match t.wait with
    | .wfs _ w tick =>
      if !w then [s.tickAt (tick - s.ticks - 1)]
      else if tick = s.ticks then [25 * (now + (s.windowLen - s.phase))]
      else [s.tickAt (tick - s.ticks - 1) + 25 * s.windowLen]
    | _ => []) ++
  s.icnInstants h ++
  (if (s.kennelOf h).spanLocked then [s.tickAt 0] else []) ++
  (if (s.kennelOf h).latTol = 0 then [] else [25 * (now + 128 * (s.kennelOf h).latTol)])

/-- The instant E, or none at infinity (R561). -/
def Sys.idleEnd (s : Sys) (h : Nat) : Option Nat :=
  let l := (s.knownEvents h).filter (fun e => 25 * s.span.now < e)
  (l.foldl (fun a e => some (match a with | none => e | some b => min b e)) none).map (· - 320 * s.rf F.PWR_CFG_GUARD)

/-- The dirty lines of L1D and L2 (R558). -/
def Hart.dirtyLines (t : Hart) : Nat := (t.l1d.filter (fun c => c.st = 3)).length + (t.l2.filter (fun c => c.st = 3)).length

/-- The entry cost of a state (R558), in 1/32 ns. -/
def Sys.entryCost (s : Sys) (h st : Nat) : Nat :=
  let f := max 1 (s.rf F.TILE_PACK_FREQ_ACT_MHZ (h / 4))
  let flush := ((s.hart h).dirtyLines * 4 * 32000 + f - 1) / f
  match st with
  | 1 => 320
  | 2 => 32000
  | 3 => 96000 + flush
  | _ => 256000 + flush

/-- The exit latency of a state (R558), in 1/32 ns. -/
def exitCost (st : Nat) : Nat :=
  match st with
  | 1 => 1280
  | 2 => 64000
  | 3 => 800000
  | _ => 1920000

/-- The deepest state that the controls permit (R562, R565). -/
def Sys.depthOk (s : Sys) (h st : Nat) : Bool :=
  decide (st ≤ s.rf F.TILE_CORE_PWR_MAX_DEPTH (h / 4) (h % 4)) &&
  (s.holdCount (h / 4) == 0 || decide (st ≤ 2)) &&
  (decide (st < 4) || (below 4).all (fun c => c == h % 4 || s.countsCs4 (h / 4 * 4 + c)))

/-- A state qualifies (R563, R564): the tick of the switch off and the planned exit. -/
def Sys.qualifies (s : Sys) (h st : Nat) : Option (Nat × Option Nat) :=
  let now := 25 * s.span.now
  let e := s.idleEnd h
  let span := 25 * s.spanS
  if !s.depthOk h st then none
  else if st = 1 || !(s.kennelOf h).spanLocked then
    match e with
    | none => some (0, none)
    | some e =>
      if s.entryCost h st + exitCost st ≤ e - now && (st ≠ 1 || 3200 ≤ e - now) then some (0, some (e - exitCost st)) else none
  else
    let first := s.tickAt 0
    let ready := now + s.entryCost h st
    let jOff := if ready ≤ first then 0 else (ready - first + span - 1) / span
    match e with
    | none => some (s.ticks + 1 + jOff, none)
    | some e =>
      if first + exitCost st ≤ e then
        let jOn := (e - exitCost st - first) / span
        if jOff < jOn then some (s.ticks + 1 + jOff, some (s.ticks + 1 + jOn)) else none
      else none

/-- The core begins to wait, or waits again: it takes the deepest state that qualifies, or stops for REQ 7 (R561 to R567). -/
def Sys.idleChoose (s : Sys) (h : Nat) : Sys :=
  let c := s.cpwr h
  if s.coreState h ≠ psCs0 then s
  else if c.req = 7 && (s.hart h).wait != .run then
    (s.onCpwr h (fun c => { c with target := psStopped, forced := true, saved := false, toff := s.ticks + 1, ton := none, waking := false })).coreTo h psEntering
  else if 2 ≤ c.req && c.req ≤ 4 then
    (s.onCpwr h (fun c => { c with target := c.req, forced := true, saved := false, toff := s.ticks + 1, ton := none, waking := false })).coreTo h psEntering
  else if (s.hart h).wait == .run || s.wakePending h || (s.hart h).halted then s
  else
    match [4, 3, 2, 1].findSome? (fun st => (s.qualifies h st).map (fun q => (st, q))) with
    | none => s
    | some (st, toff, ton) =>
      (s.onCpwr h (fun c => { c with target := st, forced := false, saved := false, toff := toff, ton := ton, waking := false })).coreTo h
        (if st = 1 then psCs1 else psEntering)

/-- WFI (R124): mstatus.TW and hstatus.VTW, then the wait. -/
def Sys.wfi (s : Sys) (h : Nat) : Sys :=
  if s.ready h then
    let t := s.hart h
    if t.priv < 3 && t.cf mstatus 21 1 = 1 then s.raiseAt h exIllegal
    else if t.virt && (t.priv = 0 || t.cf hstatus 21 1 = 1) then s.raiseAt h exVirtual
    else if t.priv = 0 then s.raiseAt h exIllegal
    else
      let s := (s.squash h 0).onHart h (fun t => { t with wait := .wfi })
      if (s.cpwr h).req ≠ 7 && s.wakePending h then (s.onHart h (fun t => { t with wait := .run })).next h 4
      else s.idleChoose h
  else s

/-- WFS (R128, R129) and its idle choice. -/
def Sys.wfsWait (s : Sys) (h rd : Nat) (rs1 : Word) : Sys :=
  let s := s.wfs h rd rs1
  match (s.hart h).wait with
  | .wfs .. => s.idleChoose h
  | _ => s

/-! ## Entry, switch and exit (R559, R560, R564 to R566) -/

/-- The harts' structures that a core in CS3 or CS4 loses (R560). -/
def Hart.powerLoss (t : Hart) : Hart :=
  let c := Hart.cold
  { t with
    sfb := [], side := [], streams := [], pred := [], hist := c.hist, replay := []
    tlbD := [], tlbI := [], tlbL2 := [], tlbG := [], wc1 := [], wcU := [], slots := [], fwalk := []
    l1i := [], l1d := [], l2 := [], plru := [], resv := none
    csr := (t.csr.filter (fun p => !(0xB03 ≤ p.1 && p.1 ≤ 0xB1F))).map (fun p =>
      if 0x323 ≤ p.1 && p.1 ≤ 0x33F then (p.1, fput p.2 63 1 0) else p) }

/-- A core's registers of the Skohal CSRs load their K values. -/
def Sys.skohalReset (s : Sys) (h : Nat) : Sys :=
  s.resetSome .kennel (fun k => k.i = h && [Reg.tlctl, .tlpred, .tlworld, .tlwvec, .tlpf, .tllock, .tlspan, .tlwin].contains k.reg)

/-- The architectural state and the structures of a core are discarded: K values (R378, R567). What its levels' EN and observed
invalidates say stays with the station. -/
def Sys.hartReset (s : Sys) (h : Nat) : Sys :=
  (s.hartTo h { Hart.cold with seen := (s.hart h).seen }).skohalReset h

/-- A kennel reset of a core (R378, R379): K values; the lines of its caches stay. -/
def Sys.hartKReset (s : Sys) (h : Nat) : Sys :=
  let t := s.hart h
  (s.hartTo h { Hart.cold with seen := t.seen, l1i := t.l1i, l1d := t.l1d, l2 := t.l2, plru := t.plru }).skohalReset h

/-- A released or started hart (R567): M-mode, world S, pc, a0 = mhartid, other registers zero. -/
def Sys.hartStart (s : Sys) (h : Nat) (entry : Nat) : Sys :=
  let s := (s.hartKReset h).levelsWake h
  let s := s.onHart h (fun t => ({ t with pc := BitVec.ofNat 64 entry, priv := 3, virt := false }).xSet 10 (BitVec.ofNat 64 (h + 0x100 * s.socket)))
  let s := (s.put F.tlworld_WORLD 1 h).onCpwr h (fun c => { c with target := 0, forced := false, saved := false, waking := false, start := none })
  ((s.coreTo h psCs0).packCheck (h / 4)).idleChoose h

/-- A pending START is carried out when nothing holds it (R569). -/
def Sys.startRun (s : Sys) (h : Nat) : Sys :=
  match (s.cpwr h).start with
  | none => s
  | some _ =>
    let held := s.pwr.deferred.any (fun d => d.key = ⟨.TILE_CORE_START, h / 4, h % 4⟩)
    if held || s.tileHeld (h / 4) || s.coreState h ≠ psStopped then s
    else (s.put F.TILE_CORE_START_GO 0 (h / 4) (h % 4)).hartStart h (4 * s.rf F.TILE_CORE_START_ENTRY (h / 4) (h % 4))

/-- The core begins its exit. -/
def Sys.exitStart (s : Sys) (h : Nat) : Sys :=
  if s.tileHeld (h / 4) then s else ((s.coreTo h psExiting).onCpwr h (fun c => { c with waking := false })).packCheck (h / 4)

/-- CORE_POWER_SWITCH (R559, R564): gates off at the end of an entry, or on for an exit or a start; in a span-locked kennel in the
window of a tick. -/
def Sys.powerSwitch (s : Sys) (h : Nat) : Sys :=
  let c := s.cpwr h
  let st := s.coreState h
  let locked := s.spanLocked (s.hartKennel h) && !s.pwr.emergency.contains h
  let now := !locked || (s.inWindow && decide (c.toff ≤ s.ticks))
  if !now then s
  else if st = psEntering && c.saved then
    let s := if c.target = psStopped then (s.hartReset h).onCpwr h (fun c => { c with forced := false })
      else if 3 ≤ c.target then s.onHart h Hart.powerLoss
      else s.onHart h (fun t => { t with resv := none })
    (s.coreTo h c.target).packCheck (h / 4)
  else if 2 ≤ st && st ≤ 4 && locked && (c.waking || (!c.forced && c.ton.any (fun t => decide (t ≤ s.ticks)))) then s.exitStart h
  else if st = psStopped then s.startRun h
  else s

/-- CORE_WAKE (R566): an interrupt pending and enabled, or a debug halt, ends a wait or starts the exit of a core that is not forced; a
released forced state ends too. -/
def Sys.coreWake (s : Sys) (h : Nat) : Sys :=
  let c := s.cpwr h
  let t := s.hart h
  let st := s.coreState h
  let event := s.wakePending h || t.halted
  if st = psCs0 then
    (if event && t.wait == .wfi then (s.onHart h (fun t => { t with wait := .run })).next h 4 else s)
  else if s.tileHeld (h / 4) then s
  else if st = psEntering && !c.forced && !c.saved && event then s.coreTo h psCs0
  else if [psCs1, psCs2, psCs3, psCs4].contains st && ((event && !c.forced) || c.waking) then
    (if st = psCs1 || !s.spanLocked (s.hartKennel h) then s.exitStart h
     else if c.waking then s
     else s.onCpwr h (fun c => { c with waking := true, toff := s.ticks + 1 }))
  else s

/-- CORE_EXIT_START (R563): at E minus the exit latency. Time goes on to that instant, inside the span. -/
def Sys.plannedExit (s : Sys) (h : Nat) : Sys :=
  let c := s.cpwr h
  let st := s.coreState h
  if c.forced || !(st = psCs1 || ([psCs2, psCs3, psCs4].contains st && !s.spanLocked (s.hartKennel h))) then s
  else match c.ton with
  | none => s
  | some t =>
    let d := (t + 24) / 25 - s.span.now
    if d < s.spanS - s.phase then (s.passCounts d).exitStart h else s

/-- CORE_RESTORE_DONE (R559, R560): the core fetches again; a core that still waits chooses again. -/
def Sys.restoreDone (s : Sys) (h : Nat) : Sys :=
  if s.coreState h ≠ psExiting then s
  else
    let deep := decide (3 ≤ (s.cpwr h).target)
    let s := s.when deep (fun s => ((s.levelsWake h).put F.tllock_LOCKED 0 h).put F.tllock_FETCH 0 h)
    let s := (s.onCpwr h (fun c => { c with target := 0, forced := false, saved := false, ton := none, waking := false })).coreTo h psCs0
    let s := s.packCheck (h / 4)
    if (s.hart h).wait == .wfi && (s.wakePending h || (s.hart h).halted) then (s.onHart h (fun t => { t with wait := .run })).next h 4
    else s.idleChoose h

/-- REQ of TILE_CORE_PWR comes into force (R565, R567). -/
def Sys.reqForce (s : Sys) (h v : Nat) : Sys :=
  let v := if [2, 3, 4, 7].contains v then v else 0
  let c := s.cpwr h
  let s := s.onCpwr h (fun c => { c with req := v })
  if v = 0 then
    if c.forced && c.target ≠ psStopped then
      (if s.coreState h = psEntering && !c.saved then (s.onCpwr h (fun c => { c with forced := false })).coreTo h psCs0
       else
        let s := s.onCpwr h (fun c => { c with forced := false, waking := true, toff := s.ticks + 1 })
        if [psCs2, psCs3, psCs4].contains (s.coreState h) && !s.spanLocked (s.hartKennel h) then s.exitStart h else s)
    else s
  else s.idleChoose h

/-! ## Starting and releasing harts (R568, R569) -/

/-- A write of TILE_CORE_START.GO (R569), by its world; a hold count defers it before. -/
def Sys.coreStart (s : Sys) (h : Nat) (secure : Bool) : Sys :=
  let k := s.hartKennel h
  let err := s.put F.TILE_CORE_START_ERR 1 (h / 4) (h % 4)
  if !secure && !bit (s.rf F.PWR_KSTART_N_N_START) k then err
  else if s.coreState h ≠ psStopped || !s.coreEn h || s.kState k ≠ kRunning then err
  else
    let s := (s.onCpwr h (fun c => { c with start := some secure, toff := s.ticks + 1 })).put F.TILE_CORE_START_GO 1 (h / 4) (h % 4)
    if s.spanLocked k then s else s.startRun h

/-- A release that nothing holds is carried out (R567, R568). -/
def Sys.releaseRun (s : Sys) : Sys :=
  let k := s.rf F.PWR_KREL_KENNEL
  let s := ((s.kTo k kRunning).put F.PWR_KREL_GO 0).put F.PWR_KREL_HELD 0
  let sen := (s.conf.kennel k).sentinel
  s.each ((s.kennelHarts k).filter (fun h => s.coreEn h && s.coreState h = psResetHeld)) (fun s h =>
    if h = sen then s.hartStart h (4 * s.rf F.PWR_KREL_ENTRY) else s.coreTo h psStopped)

/-- A write of PWR_KREL.GO (R568). -/
def Sys.kennelRelease (s : Sys) : Sys :=
  let k := s.rf F.PWR_KREL_KENNEL
  if s.imageState ≠ imgSealed || k = 15 || s.kState k ≠ kHeld || (s.conf.kennel k).sentinel = 0xFFFF then
    (s.put F.PWR_KREL_GO 0).put F.PWR_KREL_CMD_ERR 1
  else
    let s := s.put F.PWR_KREL_GO 1
    if s.kennelConcerned k then s.put F.PWR_KREL_HELD 1 else s.releaseRun

/-- A release that waits is cancelled by a reset of its kennel (R568). -/
def Sys.releaseCancel (s : Sys) (k : Nat) : Sys :=
  if s.on F.PWR_KREL_HELD && s.rf F.PWR_KREL_KENNEL == k then
    ((s.put F.PWR_KREL_GO 0).put F.PWR_KREL_HELD 0).put F.PWR_KREL_CMD_ERR 1
  else s

/-- UNIT_RESET of a core (R578): accepted only while the core is OFFLINE, tested and not failed. -/
def Sys.unitReset (s : Sys) (h : Nat) : Sys :=
  let n := h / 4
  let c := h % 4
  let k := s.hartKennel h
  if s.rf F.TILE_CORE_TEST_STATE n c ≠ 2 || s.rf F.TILE_CORE_TEST_RESULT n c = 3 then s.put F.TILE_CORE_PWR_CMD_ERR 1 n c
  else
    let s := ((s.hartReset h).levelsWake h).put F.TILE_CORE_TEST_STATE 0 n c
    let s := s.onCpwr h (fun c => { CorePwr.idle with req := c.req })
    (s.coreTo h (if s.kState k = kRunning && s.coreEn h then psStopped else psResetHeld)).packCheck n

/-! ## Temperature and input power (R572 to R575) -/

/-- A sensor's reading (R574): shown in TEMP and in MAX_TEMP, which hold its low eight bits. -/
def Sys.reading (s : Sys) (i : Nat) (t : Int) : Sys :=
  let s := s.onPwr (fun p => { p with temps := Bank.set p.temps i t })
  let byte := fun (t : Int) => (BitVec.ofInt 8 t).toNat
  let s := s.when (decide (i < 64)) (fun s => s.put F.TILE_PACK_FREQ_TEMP (byte t) i)
  let top := s.pwr.temps.foldl (fun m p => max m p.2) t
  let s := s.put F.PWR_STATUS_MAX_TEMP (byte top)
  if i < 64 && (s.rf F.PWR_CFG_THROTTLE_C : Int) - 3 ≤ t && !s.pwr.warmed.contains i then
    s.onPwr (fun p => { p with warmed := i :: p.warmed })
  else s

def Sys.readings (s : Sys) (l : List (Nat × Int)) : Sys := s.each l (fun s p => s.reading p.1 p.2)

/-- The reading of a sensor, none before the first. -/
def Sys.tempOf (s : Sys) (i : Nat) : Option Int := Bank.get? s.pwr.temps i

/-- The configuration of the image is in force. -/
def Sys.applied (s : Sys) : Bool := [imgApplied, imgSealed].contains s.imageState

/-- A pack's thermal ceiling at a tick (R574). -/
def Sys.throttle (s : Sys) (n : Nat) : Sys :=
  let c := s.thermal n
  match s.tempOf n with
  | none => s
  | some t =>
    if (s.rf F.PWR_CFG_THROTTLE_C : Int) ≤ t then
      let s := s.onPwr (fun p => { p with thermal := Bank.set p.thermal n (max 800 (c - 100)), throttled := setAdd p.throttled n })
      s
    else
      let s := s.onPwr (fun p => { p with throttled := setDel p.throttled n })
      if c < 3800 && !s.pwr.warmed.contains n then s.onPwr (fun p => { p with thermal := Bank.set p.thermal n (min 3800 (c + 25)) }) else s

/-- PWR at a tick (R570, R572, R574): readings, input power and its limiter, active packs, thermal ceilings, CEIL_MHZ. -/
def Sys.pwrTick (s : Sys) (watts : Nat) (temps : List (Nat × Int)) : Sys :=
  let s := s.readings temps
  let s := (s.onPwr (fun p => { p with watts := (watts :: p.watts).take 64 })).put F.PWR_STATUS_POWER_W watts
  let s := s.put F.PWR_STATUS_ACTIVE_PACKS ((below 64).filter s.packActive).length
  if !s.applied then s
  else
    let sum := s.pwr.watts.foldl (· + ·) 0
    let n := s.pwr.watts.length
    let tdp := s.rf F.PWR_CFG_TDP_W
    let lim := s.rf F.PWR_STATUS_LIMIT_MHZ
    let s := if tdp * n < sum then s.put F.PWR_STATUS_LIMIT_MHZ (max 800 (lim - 25))
      else if 100 * sum < 97 * tdp * n then s.put F.PWR_STATUS_LIMIT_MHZ (min 3800 (lim + 25)) else s
    let before := s.pwr.throttled
    let s := s.each ((s.pwr.temps.map (fun (p : Nat × Int) => p.1)).filter (· < 64)) Sys.throttle
    let s := s.when (before.isEmpty && !s.pwr.throttled.isEmpty) (fun s => s.raise (srcGlobal 20))
    let hot := (s.pwr.temps.filter (fun (p : Nat × Int) => decide (p.1 < 64 ∧ (s.rf F.PWR_CFG_THROTTLE_C : Int) - 3 ≤ p.2))).map (fun (p : Nat × Int) => p.1)
    let s := s.onPwr (fun p => { p with warmed := hot })
    let s := s.put F.PWR_STATUS_THROTTLE (b2n (s.pwr.thermal.any (fun p => p.2 < 3800)))
    s.each (below 64) (fun s n => if s.rf F.TILE_PACK_FREQ_CEIL_MHZ n = s.ceilMhz n then s else s.put F.TILE_PACK_FREQ_CEIL_MHZ (s.ceilMhz n) n)

/-- Every running pack's clock changes at once. -/
def Sys.allPacks (s : Sys) : Sys :=
  s.each ((below 64).filter (fun n => !s.packOff n)) (fun s n => s.put F.TILE_PACK_FREQ_ACT_MHZ (s.packMhz n) n)

/-- VIN_LIMIT (R573). -/
def Sys.vinLimit (s : Sys) : Sys :=
  if s.on F.PWR_STATUS_VIN_LIMIT then s else ((s.put F.PWR_STATUS_VIN_LIMIT 1).allPacks).raise (srcGlobal 23)

/-- VIN_RECOVER (R573): in a window. -/
def Sys.vinRecover (s : Sys) : Sys :=
  if s.on F.PWR_STATUS_VIN_LIMIT && s.inWindow then (s.put F.PWR_STATUS_VIN_LIMIT 0).allPacks else s

/-- THERMAL_EMERGENCY (R574): a sensor reads 130 °C or more. -/
def Sys.emergency (s : Sys) (i : Nat) (t : Int) : Sys :=
  if t < 130 then s
  else
    let s := s.reading i t
    if s.on F.PWR_STATUS_EMERGENCY then s else ((s.put F.PWR_STATUS_EMERGENCY 1).allPacks).raise (srcGlobal 21)

/-- A held core is scrubbed and lost in an emergency (R405): dirty lines written back, everything zeroed, power cut. -/
def M.coreScrub (x : M) (h : Nat) : M :=
  let t := x.sys.hart h
  let k := x.sys.hartKennel h
  let out := fun (x : M) (c : CLine) =>
    if c.st = 3 then x.sendWrite ((x.sys.conf.homeOf k (64 * c.line)).getD 0) c.line c.data c.poison
    else x.on (fun s => s.send (s.coreReq h .cleanDrop c.line))
  let x := x.on (fun s => s.hartReset h)
  let x := t.l1d.foldl out x
  let x := (t.l2.filter (fun c => (lineIn t.l1d c.line).isNone)).foldl out x
  x.on (fun s =>
    let s := (s.coreTo h psCs4).put F.TILE_CORE_PWR_REQ 4 (h / 4) (h % 4)
    let s := s.onCpwr h (fun c => { c with req := 4, target := 4, forced := true, saved := true, start := none })
    let s := if k < 15 then s.put F.ICN_DOM_LOST_LOST (s.rf F.ICN_DOM_LOST_LOST k (h / 64) ||| 2 ^ (h % 64)) k (h / 64) else s
    s.icnSync k)

/-- EMERGENCY_FORCE_CS4 (R405, R574): a tile still at 130 °C 1 ms later. -/
def M.forceCs4 (x : M) (n : Nat) : M :=
  let s := x.sys
  if !s.on F.PWR_STATUS_EMERGENCY || !(s.tempOf n).any (fun t => decide (130 ≤ t)) then x
  else
    let hs := ((below 4).map (4 * n + ·)).filter (fun h => [psCs0, psCs1, psCs2, psCs3, psEntering, psExiting].contains (s.coreState h))
    if s.holdCount n = 0 then
      x.on (fun s => s.each hs (fun s h =>
        let s := s.onPwr (fun p => { p with emergency := h :: p.emergency })
        if s.coreState h = psCs3 then (s.coreTo h psCs4).onCpwr h (fun c => { c with target := 4, forced := true })
        else (s.onCpwr h (fun c => { c with target := 4, forced := true, saved := false, toff := 0, ton := none })).coreTo h psEntering))
    else
      let x := hs.foldl (fun x h => x.coreScrub h) x
      x.on (fun s => ((s.put F.PWR_SHOLD_OVERRIDDEN 1 n).raise (srcGlobal 13)).packCheck n)

/-- EMERGENCY_END (R574): every sensor has read below THROTTLE_C for 1 ms. -/
def Sys.emergencyEnd (s : Sys) (temps : List (Nat × Int)) : Sys :=
  let s := s.readings temps
  if s.on F.PWR_STATUS_EMERGENCY && s.pwr.temps.all (fun (p : Nat × Int) => decide (p.2 < s.rf F.PWR_CFG_THROTTLE_C)) then
    (s.put F.PWR_STATUS_EMERGENCY 0)
  else s

/-- EMERGENCY_CORE_RESUME (R574): the tile's sensor reads below THROTTLE_C. -/
def Sys.emergencyResume (s : Sys) (n : Nat) (t : Int) : Sys :=
  let s := s.reading n t
  if t < s.rf F.PWR_CFG_THROTTLE_C then
    let hs := s.pwr.emergency.filter (fun h => h / 4 = n)
    let s := s.onPwr (fun p => { p with emergency := p.emergency.filter (fun h => h / 4 ≠ n) })
    s.each hs (fun s h => ((s.onCpwr h (fun c => { c with forced := decide (2 ≤ c.req ∧ c.req ≤ 4) })).when (s.coreState h = psEntering) (fun s => s.coreTo h psCs0)).when
      (s.coreState h = psCs4 && !(decide (2 ≤ (s.cpwr h).req ∧ (s.cpwr h).req ≤ 4))) (fun s => s.exitStart h))
  else s

/-- THERMAL_TRIP's own part (R575): packs off, THERMTRIP_N low, TRIP. The heel state follows from its fault source. -/
def Sys.trip (s : Sys) (i : Nat) (t : Int) : Sys :=
  if t < 135 then s
  else
    let s := (((s.reading i t).put F.PWR_STATUS_TRIP 1).onPwr (fun p => { p with tripPin := true })).raise (srcGlobal 22)
    s.each (below 64) (fun s n => s.put F.TILE_PACK_FREQ_ACT_MHZ 0 n)

/-! ## Commands -/

def execWfi (h : Fin 256) (s : State) : Host.Outcome State Fault Refusal := onSys (fun s => s.wfi h) s
def execWfs (h : Fin 256) (rd : Fin 32) (rs1 : Word) (s : State) : Host.Outcome State Fault Refusal := onSys (fun s => s.wfsWait h rd rs1) s
def execCorePowerSwitch (h : Fin 256) (s : State) : Host.Outcome State Fault Refusal := onSys (fun s => s.powerSwitch h) s
def execCoreWake (h : Fin 256) (s : State) : Host.Outcome State Fault Refusal := onSys (fun s => s.coreWake h) s
def execCoreExitStart (h : Fin 256) (s : State) : Host.Outcome State Fault Refusal := onSys (fun s => s.plannedExit h) s
def execCoreRestoreDone (h : Fin 256) (s : State) : Host.Outcome State Fault Refusal := onSys (fun s => s.restoreDone h) s
def execPackFreqChange (n : Fin 64) (s : State) : Host.Outcome State Fault Refusal := onSys (fun s => s.freqChange n) s
def execVinLimit (s : State) : Host.Outcome State Fault Refusal := onSys Sys.vinLimit s
def execVinRecover (s : State) : Host.Outcome State Fault Refusal := onSys Sys.vinRecover s
def execThermalEmergency (sensor : Fin 68) (temp : Int) (s : State) : Host.Outcome State Fault Refusal := onSys (fun s => s.emergency sensor temp) s
def execEmergencyForceCs4 (n : Fin 64) (s : State) : Host.Outcome State Fault Refusal := onM (fun x => x.forceCs4 n) s
def execEmergencyEnd (temps : List (Fin 68 × Int)) (s : State) : Host.Outcome State Fault Refusal :=
  onSys (fun s => s.emergencyEnd (temps.map (fun p => (p.1.val, p.2)))) s
def execEmergencyCoreResume (n : Fin 64) (temp : Int) (s : State) : Host.Outcome State Fault Refusal := onSys (fun s => s.emergencyResume n temp) s
def execThermalTrip (sensor : Fin 68) (temp : Int) (s : State) : Host.Outcome State Fault Refusal := onSys (fun s => s.trip sensor temp) s

end Sys2Proof.Machine
end

