-- ==== Sys2Proof/Machine/Retriever.lean ====
section
/-!
DEFINITION. The Retriever: engines, channels, descriptors, chunks, records (ch. 13).
-/
namespace Sys2Proof.Machine

/-! ## Engines and channels -/

def EngSt.idle : EngSt := ⟨none, false, [], false, 0⟩
def RtvChan.idle : RtvChan := ⟨none, false, 0, none⟩
def Sys.eng (s : Sys) (e : Nat) : EngSt := Bank.getD s.engs e .idle
def Sys.onEng (s : Sys) (e : Nat) (f : EngSt → EngSt) : Sys := { s with engs := Bank.set s.engs e (f (s.eng e)) }
def Sys.chn (s : Sys) (c : Nat) : RtvChan := Bank.getD s.rtv c .idle
def Sys.onChn (s : Sys) (c : Nat) (f : RtvChan → RtvChan) : Sys := { s with rtv := Bank.set s.rtv c (f (s.chn c)) }

/-- The states of an engine (R490). -/
def egOff : Nat := 0
def egIn : Nat := 1
def egLost : Nat := 2
def egTesting : Nat := 3

/-- The states of a channel (R489). -/
def chUnbound : Nat := 0
def chDisabled : Nat := 1
def chIdle : Nat := 2
def chActive : Nat := 3
def chStopping : Nat := 4
def chStopped : Nat := 5
def chDraining : Nat := 6

def Sys.egTo (s : Sys) (e st : Nat) : Sys := s.put F.RTV_ENG_STATUS_STATE st e
def Sys.chState (s : Sys) (c : Nat) : Nat := s.rf F.RTV_CH_STATUS_STATE c
def Sys.chTo (s : Sys) (c st : Nat) : Sys := s.put F.RTV_CH_STATUS_STATE st c

/-- The kennel and world a channel is bound to (R474). -/
def Sys.chKennel (s : Sys) (c : Nat) : Nat := s.rf F.RTV_CH_BIND_KENNEL c
def Sys.chSecure (s : Sys) (c : Nat) : Bool := s.on F.RTV_CH_BIND_WORLD_S c
/-- The number of descriptors in the ring (R477). -/
def Sys.ringCount (s : Sys) (c : Nat) : Nat := (s.rf F.RTV_CH_TAIL_TAIL c + 65536 - s.rf F.RTV_CH_HEAD_HEAD c) % 65536
/-- The address of the slot HEAD names (R477). -/
def Sys.headSlot (s : Sys) (c : Nat) : Nat :=
  64 * s.rf F.RTV_CH_RING_BASE c + 64 * (s.rf F.RTV_CH_HEAD_HEAD c % 2 ^ s.rf F.RTV_CH_RING_SIZE_LOG2 c)
/-- The checkpoint of the descriptor in progress (R480). -/
def Sys.ckpt (s : Sys) (c : Nat) : Nat := s.rf F.RTV_CH_PROGRESS_CHECKPOINT c

/-- The engines in service, and those that may serve a channel: of its die, or, when it has none, of the other (R473). -/
def Sys.engsUp (s : Sys) : List Nat := (below 8).filter s.engUp
def Sys.dieEngs (s : Sys) (die : Nat) : List Nat :=
  let mine := s.engsUp.filter (fun e => e / 4 = die)
  if mine.isEmpty then s.engsUp else mine
def Sys.mayServe (s : Sys) (e c : Nat) : Bool := (s.dieEngs (c / 256)).contains e

/-- The kennel is held for grains at the engine's stop (R475). -/
def Sys.grainHeld (s : Sys) (e k : Nat) : Bool :=
  let t := s.stop (Source.stop (.engine e))
  decide (Bank.getD t.mem k 0 = 0) && t.asked.contains k

/-! ## Descriptors (R477, R478) -/

/-- Field of `n` bytes at a byte of a descriptor. -/
def dfield (d : BitVec 512) (o n : Nat) : Nat := lineField d o (8 * n)

/-- The descriptor a slot's 64 bytes spell. -/
def Desc.parse (d : BitVec 512) : Desc where
  op := dfield d 0 1
  irq := bit (dfield d 1 1) 0
  id := dfield d 4 4
  len := dfield d 8 8
  src := dfield d 16 8
  dst := dfield d 24 8
  rec_ := dfield d 32 8
  seed := dfield d 40 4
  crc := dfield d 40 4
  poison := false
  retries := 0
  stop := none

def opNop : Nat := 0
def opCopy : Nat := 1
def opFill : Nat := 2
def opCompare : Nat := 3
def opCrc : Nat := 4
def opZero : Nat := 5

/-- The operation reads source lines, and writes a destination (R478). -/
def Desc.reads (d : Desc) : Bool := d.op == opCopy || d.op == opCompare || d.op == opCrc
def Desc.writes (d : Desc) : Bool := d.op == opCopy || d.op == opFill || d.op == opZero

/-- The check an engine makes before any access (R478); fields the operation leaves zero count as reserved bytes. -/
def descOk (w : BitVec 512) : Bool :=
  let d := Desc.parse w
  decide (d.op ≤ 5) && dfield w 1 1 / 2 == 0 && dfield w 2 2 == 0 && dfield w 44 20 == 0 &&
  (if d.op = opNop then d.len == 0 else decide (1 ≤ d.len) && decide (d.len ≤ 2 ^ 40)) &&
  d.rec_ % 32 == 0 &&
  (!(d.op == opNop || d.op == opZero) || d.src == 0) && (!(d.op == opNop || d.op == opCrc) || d.dst == 0) &&
  (d.op == opCrc || d.seed == 0) &&
  (d.op != opZero || (d.dst % 4096 == 0 && d.len % 4096 == 0 && (regionOf d.dst).isMemory)) &&
  (d.op != opCopy || decide (d.src + d.len ≤ d.dst) || decide (d.dst + d.len ≤ d.src))

/-- One bit of the reflected CRC32C (Castagnoli). -/
def crc32cStep (c : BitVec 32) : BitVec 32 := if c.getLsbD 0 then (c >>> 1) ^^^ 0x82F63B78 else c >>> 1
/-- The CRC register after one more byte. -/
def crc32cByte (c : BitVec 32) (b : Byte) : BitVec 32 := (below 8).foldl (fun c _ => crc32cStep c) (c ^^^ b.setWidth 32)
/-- The CRC of bytes chained to the CRC of those before (R478). -/
def crc32c (seed : Nat) (bs : List Byte) : Nat := ((bs.foldl crc32cByte (BitVec.ofNat 32 seed ^^^ 0xFFFFFFFF)) ^^^ 0xFFFFFFFF).toNat

/-! ## Requests of an engine (R474, R475, R479) -/

/-- Where a request of an engine goes (R474): a home agent, a port of this socket, or nowhere. -/
inductive EngTo where
  | home | port | refused
  deriving DecidableEq, Repr

def Sys.engTo (s : Sys) (pa : Nat) : EngTo :=
  match regionOf pa with
  | .dram _ => .home
  | .cxl k => if k = s.socket then .home else .refused
  | .window k => if k = s.socket then .port else .refused
  | _ => .refused

/-- A request of an engine for its channel's kennel and world. -/
def Sys.engReq (s : Sys) (e c : Nat) (kind : ReqKind) (l : Nat) : Req :=
  { kind := kind, line := l, who := .engine e, kennel := s.chKennel c, secure := s.chSecure c }

/-- The requests of an engine that are outstanding at the mesh and the home agents; those still held at its stop apart. -/
def Sys.engReqs (s : Sys) (e : Nat) : List Req :=
  (s.msgs.filterMap (fun m => match m with | .req _ r => some r | .retry _ r => some r | .retryDest _ r => some r | _ => none) ++
   s.stops.flatMap (fun p => p.2.retried.map (·.2)) ++ s.slices.flatMap (fun p => p.2.txns.map (·.req))).filter (fun r => r.who == .engine e)
def Sys.engHeld (s : Sys) (e : Nat) : List Req := (s.stop (Source.stop (.engine e))).held.filter (fun r => r.who == .engine e)

/-- The lines of an engine's accesses under way at ports. -/
def Sys.engIo (s : Sys) (e : Nat) : List Nat :=
  s.msgs.filterMap (fun m => match m with | .io w _ _ _ pa _ _ _ => if w = .engine e then some (pa / 64) else none | _ => none) ++
  s.links.flatMap (fun p => p.2.out.filterMap (fun o => if o.by_ = .src (.engine e) then some (o.pa / 64) else none))

/-- Answers on their way to an engine. -/
def Sys.engAnswers (s : Sys) (e : Nat) : List Nat :=
  s.msgs.filterMap (fun m => match m with | .reply w l _ _ _ => if w = .engine e then some l else none | _ => none)

/-- Nothing the engine sent is under way. -/
def Sys.engQuiet (s : Sys) (e : Nat) : Bool :=
  (s.engReqs e).isEmpty && (s.engHeld e).isEmpty && (s.engIo e).isEmpty && (s.engAnswers e).isEmpty

/-- The held requests of an engine are discarded (R475, R487). -/
def Sys.engDropHeld (s : Sys) (e : Nat) : Sys :=
  let i := Source.stop (.engine e)
  (s.onStop i (fun t => { t with held := t.held.filter (fun r => r.who ≠ .engine e) })).showStop i

/-- The engine's staged copy of a line. -/
def Sys.staged (s : Sys) (e l : Nat) (dst : Bool) : Option Stage := (Bank.getD s.staging e []).find? (fun g => g.line = l ∧ g.dst = dst)
def Sys.onStaging (s : Sys) (e : Nat) (f : List Stage → List Stage) : Sys := { s with staging := Bank.set s.staging e (f (Bank.getD s.staging e [])) }

/-- The lines of a byte range. -/
def rangeLines (a n : Nat) : List Nat := if n = 0 then [] else (below ((a + n - 1) / 64 - a / 64 + 1)).map (· + a / 64)

/-- The part of a byte range that lies in a line: its first byte's address and its bytes. -/
def inLine (a n l : Nat) : Nat × Nat := (max a (64 * l), min (a + n) (64 * l + 64) - max a (64 * l))

/-- The bytes of the chunk that begins at the checkpoint (R480). -/
def chunkLen (d : Desc) (cp : Nat) : Nat := min d.len (cp + 4096) - cp

/-- The source and destination ranges of the chunk (R478, R480). -/
def Desc.srcRanges (d : Desc) (cp : Nat) : List (Nat × Nat) :=
  let n := chunkLen d cp
  if d.op = opCompare then [(d.src + cp, n), (d.dst + cp, n)] else if d.reads then [(d.src + cp, n)] else []
def Desc.srcLines (d : Desc) (cp : Nat) : List Nat := ((d.srcRanges cp).flatMap (fun r => rangeLines r.1 r.2)).eraseDups
def Desc.dstLines (d : Desc) (cp : Nat) : List Nat := if d.writes then rangeLines (d.dst + cp) (chunkLen d cp) else []

/-- A byte of the staged source lines, and whether its line is poison. -/
def Sys.srcByte (s : Sys) (e a : Nat) : Nat × Bool :=
  match s.staged e (a / 64) false with
  | some g => (lineByte g.data (a % 64), g.poison)
  | none => (0, false)

/-- The bytes a destination line takes (R478), as a line, and whether a source line was poison. -/
def Sys.dstData (s : Sys) (e : Nat) (d : Desc) (a n : Nat) : BitVec 512 × Bool :=
  let bytes := (below n).map (fun i =>
    if d.op = opCopy then s.srcByte e (d.src + (a + i - d.dst))
    else if d.op = opFill then (nget d.src (8 * ((a + i) % 8)) 8, false) else (0, false))
  (BitVec.ofNat 512 (bytes.mapIdx (fun i b => b.1 * 2 ^ (8 * ((a + i) % 64)))).sum, bytes.any (·.2))

/-! ## Ends of a descriptor -/

/-- BYTES_DONE of a descriptor that is stopped (R487): the checkpoint and the bytes of the chunk whose writes, or reads, had
completed, counted upward from its start. -/
def Sys.bytesDone (s : Sys) (e : Nat) (d : Desc) (j : EngJob) : Nat :=
  let cp := s.ckpt j.chan
  let n := chunkLen d cp
  let upTo := fun (a : Nat) (ok : Nat → Bool) =>
    match (rangeLines a n).find? (fun l => !ok l) with
    | some l => 64 * l - a
    | none => n
  if d.writes then cp + upTo (d.dst + cp) (fun l => j.fin.contains l)
  else cp + ((d.srcRanges cp).map (fun r => upTo r.1 (fun l => (s.staged e l false).isSome))).foldl min n

def Sys.onJob (s : Sys) (e : Nat) (f : EngJob → EngJob) : Sys := s.onEng e (fun t => { t with job := t.job.map f })

/-- The descriptor in progress ends with an outcome, cause and result: no further request is issued for it (R487). -/
def Sys.engEnd (s : Sys) (e outcome cause bytes result flags : Nat) : Sys :=
  (s.engDropHeld e).onJob e (fun j => { j with phase := .ended outcome cause bytes result flags })

/-- The engine has no work: its channel is given up. -/
def Sys.engFree (s : Sys) (e : Nat) : Sys :=
  (s.onEng e (fun t => { t with job := none, turn := false })).put F.RTV_ENG_STATUS_CHANNEL 0xFFFF e

/-- The channel enters STOPPED: ENABLE and ABORT read 0 (R489). -/
def Sys.chStop (s : Sys) (c : Nat) : Sys := ((s.chTo c chStopped).put F.RTV_CH_CTL_ENABLE 0 c).put F.RTV_CH_CTL_ABORT 0 c

/-- A channel enters DISABLED by a kennel reset, with its K values (R488, R489). -/
def Sys.chReset (s : Sys) (c : Nat) : Sys :=
  let s := s.resetSome .kennel (fun k => k.i = c &&
    [Reg.RTV_CH_RING, .RTV_CH_TAIL, .RTV_CH_HEAD, .RTV_CH_CTL, .RTV_CH_STATUS, .RTV_CH_PROGRESS].contains k.reg)
  (s.onChn c (fun t => { t with desc := none, broken := false })).chTo c chDisabled

/-- The 32 bytes of a completion record (R486). -/
def recordNat (d : Desc) (outcome cause bytes result flags : Nat) : Nat :=
  d.id + outcome * 2 ^ 32 + flags * 2 ^ 40 + cause * 2 ^ 48 + d.retries * 2 ^ 56 + bytes * 2 ^ 64 + result * 2 ^ 128

/-- When every request issued for an ended descriptor has completed, its record is sent (R486). A misaligned RECORD is refused. -/
def Sys.engSettle (s : Sys) (e : Nat) : Sys :=
  match (s.eng e).job with
  | some j =>
    match j.phase, (s.chn j.chan).desc with
    | .ended outcome cause bytes result flags, some d =>
      if !s.engQuiet e || s.heeled then s
      else
        let whole := outcome == 1 || cause == 3
        let bytes := if whole then bytes else s.bytesDone e d j
        let result := if whole then result else if d.op = opCrc then d.crc else 0
        let flags := flags + (if d.poison then 4 else 0)
        let s := s.onJob e (fun j => { j with phase := .record outcome flags })
        let refuse := fun (s : Sys) => { s with msgs := s.msgs ++ [Msg.reply (.engine e) (d.rec_ / 64) 0 false true] }
        let v := recordNat d outcome cause bytes result flags
        if d.rec_ % 32 ≠ 0 then refuse s
        else match s.engTo d.rec_ with
        | .home => s.send { s.engReq e j.chan .devWr (d.rec_ / 64) with
            data := linePut 0 (d.rec_ % 64) 256 v, mask := BitVec.ofNat 64 ((2 ^ 32 - 1) * 2 ^ (d.rec_ % 64)) }
        | .port => { s with msgs := s.msgs ++ [Msg.io (.engine e) (s.chKennel j.chan) (s.chSecure j.chan) true d.rec_ 32 v false] }
        | .refused => refuse s
    | _, _ => s
  | none => s

/-! ## Choosing work (R484) -/

/-- The channels an engine may take now, by the order of R484. -/
def Sys.engChoices (s : Sys) (e : Nat) : List Nat :=
  (below 512).filter (fun c =>
    ((s.chState c == chActive && (s.ringCount c != 0 || (s.chn c).desc.isSome)) ||
      ((s.chState c == chStopping || s.chState c == chDraining) && (s.chn c).desc.isSome)) &&
    s.mayServe e c && !s.grainHeld e (s.chKennel c) && !s.engs.any (fun p => p.2.job.any (fun j => j.chan = c)))

/-- The best of the choices: the largest CREDIT, then the least recently served, then the lowest number. Channels without
credit go round by the same order of service. -/
def Sys.engBest (s : Sys) (l : List Nat) : Option Nat :=
  l.foldl (fun acc c => match acc with
    | none => some c
    | some a =>
      let ca := s.rf F.RTV_CH_STATUS_CREDIT a
      let cc := s.rf F.RTV_CH_STATUS_CREDIT c
      if ca < cc || (ca == cc && decide ((s.chn c).served < (s.chn a).served)) then some c else some a) none

/-- The engine takes a channel: it goes on with a descriptor in progress, repeating a chunk that a lost engine left (R482), or
reads the descriptor HEAD names. -/
def Sys.engTake (s : Sys) (e c : Nat) : Sys :=
  let s := ({ s with rtvClock := s.rtvClock + 1 }).put F.RTV_ENG_STATUS_CHANNEL c e
  let s := s.onChn c (fun t => { t with served := s.rtvClock })
  let job : EngJob := ⟨c, .fetch, [], [], false, 0⟩
  match (s.chn c).desc with
  | some d =>
    let s := if (s.chn c).broken then
        (((s.onChn c (fun t => { t with broken := false, desc := some { d with retries := min 255 (d.retries + 1) } })).bump
          F.RTV_CH_STATUS_RETRIES c).bump F.RTV_ENG_STATUS_TAKEN e)
      else s
    let s := s.onEng e (fun t => { t with job := some { job with phase := .run } })
    match d.stop with
    | some k => s.engEnd e 2 k 0 0 0
    | none => if d.len ≤ s.ckpt c then s.engEnd e 1 0 d.len (if d.op = opCompare then d.len else if d.op = opCrc then d.crc else 0) 0 else s
  | none =>
    let s := s.onEng e (fun t => { t with job := some job })
    let a := s.headSlot c
    match s.engTo a with
    | .home => s.send (s.engReq e c .devRd (a / 64))
    | .port => { s with msgs := s.msgs ++ [Msg.io (.engine e) (s.chKennel c) (s.chSecure c) false a 64 0 false] }
    | .refused => { s with msgs := s.msgs ++ [Msg.reply (.engine e) (a / 64) 0 false true] }

/-- The engine chooses its next work (R484): its release queue first, else a channel. One asked to power off goes off (R483). -/
def Sys.engPick (s : Sys) (e : Nat) : Sys :=
  if !s.engUp e || s.heeled || (s.eng e).job.isSome then s
  else if (s.eng e).off then s.egTo e egOff
  else if !(s.eng e).relq.isEmpty then s
  else match s.engBest (s.engChoices e) with
  | some c => s.engTake e c
  | none => s

/-- At a chunk boundary the channel is given up for the reasons of R484. -/
def Sys.engYield (s : Sys) (e c : Nat) : Bool :=
  (s.eng e).turn || (s.eng e).off || !(s.eng e).relq.isEmpty ||
  (s.rf F.RTV_CH_STATUS_CREDIT c == 0 && (s.engChoices e).any (fun o => s.rf F.RTV_CH_STATUS_CREDIT o != 0))

/-- A slice boundary (R484): an idle engine chooses; one at work does so at its next chunk boundary. -/
def Sys.sliceBoundary (s : Sys) (e : Nat) : Sys :=
  if !s.engUp e then s
  else match (s.eng e).job with
  | some _ => s.onEng e (fun t => { t with turn := true })
  | none => s.engPick e

/-! ## Carrying out a chunk (R478 to R481) -/

/-- A chunk is abandoned at a grain hold: the engine gives the channel up and its held requests are discarded (R475). -/
def Sys.engAbandon (s : Sys) (e : Nat) : Sys := ((s.engDropHeld e).onStaging e (fun _ => [])).engFree e

/-- Ask for one line of source. -/
def Sys.engRead (s : Sys) (e c l : Nat) : Sys :=
  if (s.staged e l false).isSome || (s.engReqs e ++ s.engHeld e).any (fun r => r.kind == .rdShared && r.line == l) || (s.engIo e).contains l ||
      (s.engAnswers e).contains l then s
  else match s.engTo (64 * l) with
  | .home => s.send (s.engReq e c .rdShared l)
  | .port => { s with msgs := s.msgs ++ [Msg.io (.engine e) (s.chKennel c) (s.chSecure c) false (64 * l) 64 0 false] }
  | .refused => { s with msgs := s.msgs ++ [Msg.reply (.engine e) l 0 false true] }

/-- Take, or write, one line of the destination (R479): a whole line of memory is taken by OWN_ZERO first. -/
def Sys.engWrite (s : Sys) (e : Nat) (j : EngJob) (d : Desc) (cp l : Nat) : Sys :=
  let (a, n) := inLine (d.dst + cp) (chunkLen d cp) l
  if (((s.eng e).job.map (·.sent)).getD []).contains l then s
  else if !((d.op != opCopy) || (rangeLines (d.src + (a - d.dst)) n).all (fun k => (s.staged e k false).isSome)) then s
  else
    let mark := fun (s : Sys) => s.onJob e (fun j => { j with sent := j.sent ++ [l] })
    let (v, p) := s.dstData e d a n
    let flag := fun (s : Sys) => s.onChn j.chan (fun t => { t with desc := t.desc.map (fun d => { d with poison := d.poison || p }) })
    match s.engTo a with
    | .refused => { mark s with msgs := s.msgs ++ [Msg.reply (.engine e) l 0 false true] }
    | .port => { flag (mark s) with msgs := s.msgs ++
        [Msg.io (.engine e) (s.chKennel j.chan) (s.chSecure j.chan) true a n (lineField v (a % 64) (8 * n)) p] }
    | .home =>
      if n = 64 && (s.staged e l true).isNone then
        if (s.engReqs e ++ s.engHeld e).any (fun r => r.kind == .ownZero && r.line == l) || (s.engAnswers e).contains l then s
        else s.send (s.engReq e j.chan .ownZero l)
      else
        let s := s.onStaging e (fun g => g.filter (fun g => ¬ (g.line = l ∧ g.dst)))
        (flag (mark s)).send { s.engReq e j.chan .devWr l with
          data := v, mask := BitVec.ofNat 64 ((2 ^ n - 1) * 2 ^ (a % 64)), poison := p }

/-- The chunk of a COMPARE or CRC32C is worked out once its lines are there: in ascending order, up to the first difference or
poisoned line. -/
def Sys.engWork (s : Sys) (e : Nat) (d : Desc) (cp : Nat) : Sys :=
  let n := chunkLen d cp
  if !(d.srcLines cp).all (fun l => (s.staged e l false).isSome) then s
  else if d.op = opCompare then
    let look := (below n).find? (fun i =>
      let (a, pa) := s.srcByte e (d.src + cp + i)
      let (b, pb) := s.srcByte e (d.dst + cp + i)
      pa || pb || a != b)
    match look with
    | some i =>
      if (s.srcByte e (d.src + cp + i)).2 || (s.srcByte e (d.dst + cp + i)).2 then s.engEnd e 3 5 0 0 0
      else s.engEnd e 1 0 (cp + i) (cp + i) 2
    | none => s.onJob e (fun j => { j with ready := true })
  else if d.op = opCrc then
    if (rangeLines (d.src + cp) n).any (fun l => (s.staged e l false).any (·.poison)) then s.engEnd e 3 5 0 0 0
    else s.onJob e (fun j => { j with ready := true, crc := crc32c d.crc ((below n).map (fun i => BitVec.ofNat 8 (s.srcByte e (d.src + cp + i)).1)) })
  else s

/-- One step of the chunk in progress: what can be asked for, written or worked out now. -/
def Sys.engStep (s : Sys) (e : Nat) : Sys :=
  match (s.eng e).job with
  | some j =>
    match j.phase, (s.chn j.chan).desc with
    | .run, some d =>
      let cp := s.ckpt j.chan
      let s := (d.srcLines cp).foldl (fun s l => s.engRead e j.chan l) s
      let s := (d.dstLines cp).foldl (fun s l => s.engWrite e j d cp l) s
      if !(s.engHeld e).isEmpty then s.engAbandon e
      else if d.writes then
        let fin := ((s.eng e).job.map (·.fin)).getD []
        s.onJob e (fun j => { j with ready := (d.dstLines cp).all (fun l => fin.contains l) })
      else (s.engWork e d cp).engSettle e
    | _, _ => s
  | none => s

/-- The engine begins the descriptor it has read (R478, R487). -/
def Sys.engBegin (s : Sys) (e : Nat) (j : EngJob) (w : BitVec 512) : Sys :=
  let d := Desc.parse w
  let s := (s.onChn j.chan (fun t => { t with desc := some d })).put F.RTV_CH_PROGRESS_CHECKPOINT 0 j.chan
  let s := (s.onStaging e (fun g => g.filter (fun g => g.line ≠ s.headSlot j.chan / 64))).onJob e (fun j => { j with phase := .run })
  if !descOk w then (s.engEnd e 3 3 0 0 0).engSettle e
  else if d.op = opNop then (s.engEnd e 1 0 0 0 0).engSettle e
  else s.engStep e

/-- The descriptor an engine has read from the ring, when it is there. -/
def Sys.engFetched (s : Sys) (e : Nat) : Option (EngJob × BitVec 512) :=
  match (s.eng e).job with
  | some j => if j.phase = .fetch then (s.staged e (s.headSlot j.chan / 64) false).map (fun g => (j, g.data)) else none
  | none => none

/-- A descriptor of an operation is begun or goes on. -/
def Sys.engRun (s : Sys) (e op : Nat) : Sys :=
  if !s.engUp e || s.heeled then s
  else match s.engFetched e with
  | some (j, w) => if dfield w 0 1 = op then s.engBegin e j w else s
  | none =>
    match (s.eng e).job with
    | some j => if ((s.chn j.chan).desc.any (fun d => d.op = op)) then s.engStep e else s
    | none => s

/-- A chunk is checkpointed (R480): every write of it has been accepted, or its data has been worked through. -/
def Sys.checkpoint (s : Sys) (e : Nat) : Sys :=
  if !s.engUp e || s.heeled then s
  else match (s.eng e).job with
  | some j =>
    match j.phase, (s.chn j.chan).desc with
    | .run, some d =>
      if !j.ready then s
      else
        let cp := s.ckpt j.chan
        let next := cp + chunkLen d cp
        let s := s.put F.RTV_CH_PROGRESS_CHECKPOINT next j.chan
        let crc := if d.op = opCrc then j.crc else d.crc
        let s := s.onChn j.chan (fun t => { t with desc := t.desc.map (fun d => { d with crc := crc }) })
        let s := (s.onStaging e (fun g => g.filter (fun g => g.dst))).onJob e (fun j => { j with sent := [], fin := [], ready := false })
        if d.len ≤ next then
          (s.engEnd e 1 0 d.len (if d.op = opCompare then d.len else if d.op = opCrc then crc else 0) 0).engSettle e
        else if s.engYield e j.chan then (s.engFree e).engPick e
        else s
    | _, _ => s
  | none => s

/-- A descriptor's record has been accepted (R486, R489): HEAD advances, a message is sent, and the channel goes on or ends. -/
def Sys.recordDone (s : Sys) (e : Nat) : Sys :=
  match (s.eng e).job with
  | some j =>
    match j.phase, (s.chn j.chan).desc with
    | .recorded outcome flags, some d =>
      let c := j.chan
      let st := s.chState c
      let id := s.rf F.RTV_CH_CTL_IRQ_ID c
      let s := (s.put F.RTV_CH_HEAD_HEAD (s.rf F.RTV_CH_HEAD_HEAD c + 1) c).put F.RTV_CH_PROGRESS_CHECKPOINT 0 c
      let s := s.onChn c (fun t => { t with desc := none, broken := false })
      let s := s.when (id != 0 && (outcome != 1 || d.irq)) (fun s => s.icnMessage (s.chKennel c) id (s.chSecure c))
      let s :=
        if d.stop = some 2 then s.chReset c
        else if st = chStopping || outcome = 3 || bit flags 0 then s.chStop c
        else if st = chDraining then s.chTo c chDisabled
        else if s.ringCount c = 0 then s.chTo c chIdle else s
      if s.chState c = chActive && !s.engYield e c then (s.onEng e (fun t => { t with job := none })).engTake e c
      else (s.engFree e).engPick e
    | _, _ => s
  | none => s

/-- The record of the descriptor that has ended is written, or its acceptance carried out (R486); a descriptor whose operation
is invalid is begun and ended. -/
def Sys.completionRecord (s : Sys) (e : Nat) : Sys :=
  if !s.engUp e || s.heeled then s
  else match s.engFetched e with
  | some (j, w) => if 5 < dfield w 0 1 then s.engBegin e j w else s
  | none => (s.engSettle e).recordDone e

/-- An answer reaches an engine: the end of a write, a line read through a port, a descriptor, the acceptance of a record, or an
error completion (R488). -/
def Sys.engReply (s : Sys) (e l : Nat) (data : BitVec 512) (poison err : Bool) : Sys :=
  if !s.engUp e then s
  else match (s.eng e).job with
  | none => s
  | some j =>
    let stop := fun (s : Sys) (f : Fld) =>
      ((((s.put f 1 j.chan).chStop j.chan).onChn j.chan (fun t => { t with desc := none, broken := false })).engFree e).engPick e
    match j.phase with
    | .fetch =>
      if l ≠ s.headSlot j.chan / 64 then s
      else if err || poison then stop s F.RTV_CH_STATUS_DESC_READ_ERR
      else s.onStaging e (fun g => g ++ [⟨l, false, data, false⟩])
    | .run =>
      if err then (s.engEnd e 3 4 0 0 0).engSettle e
      else if j.sent.contains l && !j.fin.contains l then (s.onJob e (fun j => { j with fin := j.fin ++ [l] })).engStep e
      else (s.onStaging e (fun g => g ++ [⟨l, false, data, poison⟩])).engStep e
    | .ended _ _ _ _ _ =>
      (s.when (!err && j.sent.contains l && !j.fin.contains l) (fun s => s.onJob e (fun j => { j with fin := j.fin ++ [l] }))).engSettle e
    | .record outcome flags =>
      if err then
        -- a reset's record that cannot be written leaves the reset of the channel as it is (R488)
        if ((s.chn j.chan).desc.any (fun d => d.stop = some 2)) then (((s.chReset j.chan).put F.RTV_CH_STATUS_RECORD_ERR 1 j.chan).engFree e).engPick e
        else stop s F.RTV_CH_STATUS_RECORD_ERR
      else s.onJob e (fun j => { j with phase := .recorded outcome flags })
    | .recorded _ _ => s

/-! ## Loss and return of an engine (R482, R483, R490) -/

/-- The engine stops serving: its channel waits for another, its staged lines are dropped. -/
def Sys.engLeave (s : Sys) (e : Nat) : Sys :=
  let s := match (s.eng e).job with
    | some j => s.onChn j.chan (fun t => { t with broken := t.desc.isSome })
    | none => s
  ((s.engDropHeld e).onStaging e (fun _ => [])).engFree e

/-- An engine is lost (R482). -/
def Sys.engLost (s : Sys) (e : Nat) : Sys :=
  let s := (s.engLeave e).onEng e (fun t => { t with relq := [] })
  let s := if s.own.engine = some e then { s with own := { s.own with engine := none } } else s
  let s := s.egTo e egLost
  s.when s.engsUp.isEmpty (fun s => s.raise (srcGlobal 7))

/-- A write of RTV_ENG_CTL.RESET (R490). -/
def Sys.engReset (s : Sys) (e : Nat) : Sys :=
  if s.rf F.RTV_ENG_STATUS_STATE e = egLost then (s.egTo e egTesting).put F.RTV_ENG_CTL_RESET 1 e else s.put F.RTV_ENG_CTL_CMD_ERR 1 e

/-- The self-test ends (R490). -/
def Sys.engTestDone (s : Sys) (e : Nat) (pass : Bool) : Sys :=
  if s.rf F.RTV_ENG_STATUS_STATE e = egTesting && s.on F.RTV_ENG_CTL_RESET e then
    let s := s.put F.RTV_ENG_CTL_RESET 0 e
    if pass then s.onEng e (fun t => { t with since := s.ticks }) else s.egTo e egLost
  else s

/-- The power request in force (R483, R490): an engine without work goes off at once, one at work after its chunk. -/
def Sys.engPower (s : Sys) (e : Nat) (off : Bool) : Sys :=
  if (s.eng e).off = off then s
  else
  let s := s.onEng e (fun t => { t with off := off, since := s.ticks })
  if off then
    let s := if s.own.engine = some e then { s with own := { s.own with engine := none } } else s
    let s := s.onEng e (fun t => { t with relq := [] })
    if (s.eng e).job.isNone && s.engUp e then s.egTo e egOff else s
  else s

/-- The Retriever's actions at a span tick: returns to service (R490) and CREDIT of every channel (R485). -/
def Sys.rtvTick (s : Sys) : Sys :=
  let s := s.each (below 8) (fun s e =>
    let st := s.rf F.RTV_ENG_STATUS_STATE e
    if ((st == egOff && !(s.eng e).off) || (st == egTesting && !s.on F.RTV_ENG_CTL_RESET e)) && decide ((s.eng e).since < s.ticks) then s.egTo e egIn
    else s)
  s.each (below 512) (fun s c =>
    let g := s.rf F.RTV_CH_CTL_GRAINS c
    if g = s.rf F.RTV_CH_STATUS_CREDIT c then s else s.put F.RTV_CH_STATUS_CREDIT g c)

/-! ## Register effects of the channels (R476, R477, R489, R490) -/

/-- The engine that serves a channel. -/
def Sys.engOf (s : Sys) (c : Nat) : Option Nat := (below 8).find? (fun e => (s.eng e).job.any (fun j => j.chan = c))

/-- A write of RTV_CH_TAIL (R477, R489). -/
def Sys.tailWrite (s : Sys) (c v : Nat) : Sys :=
  if s.chState c = chUnbound then s.put F.RTV_CH_CTL_CMD_ERR 1 c
  else if 2 ^ s.rf F.RTV_CH_RING_SIZE_LOG2 c < (v % 65536 + 65536 - s.rf F.RTV_CH_HEAD_HEAD c) % 65536 then s.put F.RTV_CH_STATUS_TAIL_ERR 1 c
  else
    let s := s.put F.RTV_CH_TAIL_TAIL (v % 65536) c
    if s.chState c = chIdle && s.ringCount c != 0 then s.chTo c chActive else s

/-- A write of RTV_CH_RING (R489, R490). -/
def Sys.ringWrite (s : Sys) (c : Nat) (v : Word) : Sys :=
  if s.chState c = chDisabled then
    (s.put F.RTV_CH_RING_BASE (fget v 6 46) c).put F.RTV_CH_RING_SIZE_LOG2 (max 4 (fget v 0 4)) c
  else s.put F.RTV_CH_CTL_CMD_ERR 1 c

/-- An abort reaches a channel (R487, R489). -/
def Sys.chAbort (s : Sys) (c : Nat) : Sys :=
  let st := s.chState c
  match (s.chn c).desc with
  | some d =>
    if st = chActive || st = chDraining then
      let s := (s.chTo c chStopping).put F.RTV_CH_CTL_ABORT 1 c
      match s.engOf c with
      | some e =>
        match ((s.eng e).job.map (·.phase)).getD .fetch with
        | .ended 1 _ bytes result flags => s.onJob e (fun j => { j with phase := .ended 1 0 bytes result (flags ||| 1) })
        | .run => ((s.onChn c (fun t => { t with desc := some { d with stop := some 1 } })).engEnd e 2 1 0 0 0).engSettle e
        | _ => s
      | none => s.onChn c (fun t => { t with desc := some { d with stop := some 1 } })
    else s
  | none =>
    if st = chUnbound then s
    else
      let s := s.put F.RTV_CH_STATUS_ABORT_NOOP 1 c
      if st = chIdle || st = chActive then
        let s := s.chStop c
        match s.engOf c with
        | some e => ((s.engDropHeld e).engFree e).engPick e
        | none => s
      else s

/-- ENABLE written 1 (R489). -/
def Sys.chEnable (s : Sys) (c : Nat) : Sys :=
  if s.chState c = chDisabled || s.chState c = chStopped then
    (s.put F.RTV_CH_CTL_ENABLE 1 c).chTo c (if s.ringCount c = 0 then chIdle else chActive)
  else s

/-- ENABLE written 0 (R489). -/
def Sys.chDisable (s : Sys) (c : Nat) : Sys :=
  let st := s.chState c
  if st = chActive && (s.chn c).desc.isSome then (s.put F.RTV_CH_CTL_ENABLE 0 c).chTo c chDraining
  else if st = chIdle || st = chStopped || st = chActive then
    let s := (s.put F.RTV_CH_CTL_ENABLE 0 c).chTo c chDisabled
    match s.engOf c with
    | some e => ((s.engDropHeld e).engFree e).engPick e
    | none => s
  else s

/-- A write of RTV_CH_CTL (R490): GRAINS and IRQ_ID, ENABLE, and ABORT. -/
def Sys.chCtlWrite (s : Sys) (c : Nat) (v : Word) : Sys :=
  let s := (s.put F.RTV_CH_CTL_GRAINS (fget v 32 24) c).put F.RTV_CH_CTL_IRQ_ID (fget v 0 12) c
  let s := s.when (fget v 61 1 == 1) (fun s => s.put F.RTV_CH_CTL_CMD_ERR 0 c)
  let abort := fget v 62 1 == 1
  let s := if fget v 63 1 = 1 then s.chEnable c else if abort then s else s.chDisable c
  if abort then s.chAbort c else s

/-- A binding takes effect (R476, R489). -/
def Sys.bindNow (s : Sys) (c : Nat) (v : Word) : Sys :=
  ((((s.put F.RTV_CH_BIND_VALID 1 c).put F.RTV_CH_BIND_WORLD_S (fget v 62 1) c).put F.RTV_CH_BIND_KENNEL (fget v 56 4) c).put
    F.RTV_CH_BIND_HELD 0 c).chTo c chDisabled

/-- A write of RTV_CH_BIND (R476, R490). -/
def Sys.bindWrite (s : Sys) (c : Nat) (v : Word) : Sys :=
  let s := s.when (fget v 61 1 == 1) (fun s => s.put F.RTV_CH_BIND_CMD_ERR 0 c)
  let bad := s.put F.RTV_CH_BIND_CMD_ERR 1 c
  let k := fget v 56 4
  if fget v 63 1 = 1 then
    if s.on F.RTV_CH_BIND_VALID c then
      if k = s.chKennel c && fget v 62 1 == s.rf F.RTV_CH_BIND_WORLD_S c then s else bad
    else if !(s.conf.kennel k).enabled then bad
    else if s.kennelConcerned k then (s.onChn c (fun t => { t with held := some v })).put F.RTV_CH_BIND_HELD 1 c
    else s.bindNow c v
  else if s.chState c = chDisabled then
    (((s.put F.RTV_CH_BIND_VALID 0 c).put F.RTV_CH_BIND_WORLD_S (fget v 62 1) c).put F.RTV_CH_BIND_KENNEL k c).chTo c chUnbound
  else bad

/-- The bindings held by a commit window are made at its end (R104, R476). -/
def Sys.bindHeld (s : Sys) : Sys :=
  s.each (s.rtv.map (·.1)) (fun s c =>
    match (s.chn c).held with
    | some v =>
      let s := (s.onChn c (fun t => { t with held := none })).put F.RTV_CH_BIND_HELD 0 c
      if (s.conf.kennel (fget v 56 4)).enabled then s.bindNow c v else s.put F.RTV_CH_BIND_CMD_ERR 1 c
    | none => s)

/-- A write of RTV_ENG_CTL but for PWR_REQ, whose value in force comes from the station (R403, R490). -/
def Sys.engCtlWrite (s : Sys) (e : Nat) (v : Word) : Sys :=
  let s := s.when (fget v 2 1 == 1) (fun s => s.put F.RTV_ENG_CTL_CMD_ERR 0 e)
  s.when (fget v 1 1 == 1) (fun s => s.engReset e)

/-- A kennel reset reaches the kennel's channels (R378, R488): a descriptor in progress is aborted, every other channel takes
its K values at once. -/
def Sys.rtvKennelReset (s : Sys) (k : Nat) : Sys :=
  s.each ((below 512).filter (fun c => s.on F.RTV_CH_BIND_VALID c && s.chKennel c == k)) (fun s c =>
    match (s.chn c).desc with
    | some d =>
      let s := (s.onChn c (fun t => { t with desc := some { d with stop := some 2 } })).chTo c chStopping
      match s.engOf c with
      | some e =>
        match ((s.eng e).job.map (·.phase)).getD .fetch with
        | .run => (s.engEnd e 2 2 0 0 0).engSettle e
        | .ended 1 _ _ _ _ => s
        | .ended _ _ bytes result flags => s.onJob e (fun j => { j with phase := .ended 2 2 bytes result flags })
        | _ => s
      | none => s
    | none =>
      let s := match s.engOf c with
        | some e => ((s.engDropHeld e).engFree e).engPick e
        | none => s
      s.chReset c)

/-- No descriptor of the kennel's channels is in progress: the Retriever's part of a kennel reset has ended. -/
def Sys.rtvResetDone (s : Sys) (k : Nat) : Bool :=
  !(s.rtv.any (fun p => s.on F.RTV_CH_BIND_VALID p.1 && s.chKennel p.1 == k && p.2.desc.isSome))

/-- An answer on its way to an engine reaches it (R308). -/
def Sys.engCompletion (s : Sys) (e l : Nat) : Sys :=
  match takeMsg (Msg.isReply (.engine e) l) s.msgs with
  | some (.reply _ _ d p err, rest) => ({ s with msgs := rest } : Sys).engReply e l d p err
  | _ => s

/-! ## Commands -/

def execCopy (e : Fin 8) (s : State) : Host.Outcome State Fault Refusal := onSys (fun s => s.engRun e opCopy) s
def execFill (e : Fin 8) (s : State) : Host.Outcome State Fault Refusal := onSys (fun s => s.engRun e opFill) s
def execCompare (e : Fin 8) (s : State) : Host.Outcome State Fault Refusal := onSys (fun s => s.engRun e opCompare) s
def execCrc32c (e : Fin 8) (s : State) : Host.Outcome State Fault Refusal := onSys (fun s => s.engRun e opCrc) s
def execZero (e : Fin 8) (s : State) : Host.Outcome State Fault Refusal := onSys (fun s => s.engRun e opZero) s
def execNop (e : Fin 8) (s : State) : Host.Outcome State Fault Refusal := onSys (fun s => s.engRun e opNop) s
def execChunkCheckpoint (e : Fin 8) (s : State) : Host.Outcome State Fault Refusal := onSys (fun s => s.checkpoint e) s
def execEngineSliceBoundary (e : Fin 8) (s : State) : Host.Outcome State Fault Refusal := onSys (fun s => s.sliceBoundary e) s
def execCompletionRecord (e : Fin 8) (s : State) : Host.Outcome State Fault Refusal := onSys (fun s => s.completionRecord e) s
def execEngineTestDone (e : Fin 8) (pass : Bool) (s : State) : Host.Outcome State Fault Refusal := onSys (fun s => s.engTestDone e pass) s

end Sys2Proof.Machine
end

