-- ==== Sys2Proof/Machine/Station.lean ====
section
/-!
DEFINITION. Control stations: the register at an offset, its station, page owners, and the precedence of the two paths (ch. 1, 18).
-/
namespace Sys2Proof.Machine

/-! ## The register at an offset (R609, R611, R616) -/

/-- The element of a placed register whose 8 bytes hold an offset. -/
def Place.find (p : Place) (off : Nat) : Option (Nat × Nat) :=
  if off < p.base then none
  else
    let d := off - p.base
    let i := if p.s1 = 0 then 0 else d / p.s1
    let r := d - i * p.s1
    let j := if p.s2 = 0 then 0 else r / p.s2
    if i < p.n1 ∧ j < p.n2 ∧ r - j * p.s2 < 8 then some (i, j) else none

/-- The placed register that holds an offset, in a list of registers. -/
def regIn : List Reg → Nat → Option RK
  | [], _ => none
  | r :: l, off =>
    match r.place.bind (fun p => p.find off) with
    | some (i, j) => some ⟨r, i, j⟩
    | none => regIn l off

/-- The placed registers of the block that an offset lies in. -/
def regsNear (off : Nat) : List Reg :=
  let b := off / 0x100000
  Reg.placed.filter (fun r => match r.place with
    | some p => if b < 2 then decide (p.base / 0x10000 = off / 0x10000) || decide (0x100000 ≤ p.base && b == 1)
                else decide (p.base / 0x800000 = off / 0x800000)
    | none => false)

/-- The register at an offset of register space, under the name of R616. -/
def Sys.regAt (s : Sys) (off : Nat) : Option RK := (regIn (regsNear off) off).orElse (fun _ => s.srcAt off)

/-- The offset of a register in register space. -/
def Sys.offsetOf (s : Sys) (k : RK) : Nat :=
  match k.reg.place with
  | some p => p.base + k.i * p.s1 + k.j * p.s2
  | none => 0x1A0000 + 0x1000 * s.rf F.ICN_DOM_CFG_SRC_PAGE k.i + 8 * k.j

/-- The control station of an offset (R25, R610). -/
def stationAt (off : Nat) : Nat :=
  if off < 0x50000 then
    (if 0x41000 ≤ off ∧ off < 0x41000 + 8 * 109 then (off - 0x41000) / 8 else 101 + off / 0x10000)
  else if off < 0x200000 then 106
  else if off < 0x1000000 then 107
  else if off < 0x2000000 then (off - 0x1000000) / 0x10000
  else if off < 0x3000000 then 64 + (off - 0x2000000) / 0x10000
  else if off < 0x3800000 then 80 + (off - 0x3000000) / 0x40000
  else if off < 0x4000000 then 88 + (off - 0x3800000) / 0x10000
  else if off < 0x4008000 then 91 + (off - 0x4000000) / 0x1000
  else if off < 0x4010000 then (if (off - 0x4008000) / 8 < 256 then 99 else 100)
  else if off < 0x5000000 then (if (off - 0x4010000) / 0x1000 < 256 then 99 else 100)
  else 108

/-- Where the register window of an offset's station begins (R33, R610). -/
def windowBase (off : Nat) : Nat :=
  if off < 0x100000 then off / 0x10000 * 0x10000
  else if off < 0x200000 then 0x100000
  else if off < 0x1000000 then 0x200000
  else if off < 0x3000000 then off / 0x10000 * 0x10000
  else if off < 0x3800000 then off / 0x40000 * 0x40000
  else if off < 0x4000000 then off / 0x10000 * 0x10000
  else if off < 0x4008000 then off / 0x1000 * 0x1000
  else if off < 0x5000000 then 0x4000000
  else 0x5000000

/-! ## Page owners (R28, R29, R94, R411, R476, R510) -/

/-- Who owns a register page: the platform, or a kennel with the worlds N and S it admits. -/
inductive PageOwner where
  | platform
  | kennel (k : Nat) (n s : Bool)
  deriving DecidableEq, Repr

/-- The owner of a tile's pages: its kennel, or the platform when it has none. -/
def Sys.tilePage (s : Sys) (t : Nat) (n : Bool) : PageOwner :=
  if (s.conf.tile t).kennel = 0xFF then .platform else .kennel (s.conf.tile t).kennel n true

/-- The default owner of a page. -/
def Sys.pageDefault (s : Sys) (page : Nat) : PageOwner :=
  if 0x101 ≤ page ∧ page < 0x111 then .kennel (page - 0x101) true true
  else if 0x120 ≤ page ∧ page < 0x160 then s.tilePage (page - 0x120) true
  else if 0x160 ≤ page ∧ page < 0x1A0 then s.tilePage (page - 0x160) false
  else if 0x1A0 ≤ page ∧ page < 0x200 then
    match s.srcAt (0x1000 * page) with
    | some k => .kennel k.i true true
    | none => .platform
  else if 0x1000 ≤ page ∧ page < 0x1400 ∧ page % 16 ≠ 0 then s.tilePage ((page - 0x1000) / 16) true
  else if 0x5000 ≤ page ∧ page < 0x5020 then .kennel ((page - 0x5000) / 2) (page % 2 == 0) true
  else .platform

/-- The owner of a page: a bound Retriever channel's kennel, else a PAGEOWN record's, else the default. -/
def Sys.pageOwner (s : Sys) (page : Nat) : PageOwner :=
  let c := page - 0x4010
  if 0x4010 ≤ page ∧ page < 0x4210 ∧ s.on F.RTV_CH_BIND_VALID c then
    .kennel (s.rf F.RTV_CH_BIND_KENNEL c) (!s.on F.RTV_CH_BIND_WORLD_S c) true
  else match s.conf.pages.find? (fun r => r.page = page) with
    | some r => if r.owner = 0xFF then .platform else .kennel r.owner (bit r.worlds 0) (bit r.worlds 1)
    | none => s.pageDefault page

/-- A page admits a mesh request of a kennel and world (R29). -/
def Sys.pageAdmits (s : Sys) (page kennel : Nat) (secure : Bool) : Bool :=
  match s.pageOwner page with
  | .platform => kennel == 15
  | .kennel k n w => kennel == k && (if secure then w else n)

/-! ## Precedence of the paths (R31 to R33) -/

/-- A mesh write was dropped or superseded: SYS_CS_STATUS of its station records it (R33). -/
def Sys.meshNote (s : Sys) (bitOf : Fld) (off kennel : Nat) (secure : Bool) : Sys :=
  let i := stationAt off
  let s := (s.put bitOf 1 i).bump F.SYS_CS_STATUS_DROP_COUNT i
  ((s.put F.SYS_CS_STATUS_DROP_OFFSET (off - windowBase off) i).put F.SYS_CS_STATUS_DROP_KENNEL kennel i).put F.SYS_CS_STATUS_DROP_WORLD
    (b2n secure) i

/-- A mesh write of a register reaches the apply point (R33): false when it is dropped. -/
def Sys.meshApply (s : Sys) (k : RK) (off kennel : Nat) (secure : Bool) : Bool × Sys :=
  if s.stations.tetherMark.contains k.canon then (false, s.meshNote F.SYS_CS_STATUS_MESH_DROP off kennel secure)
  else
    let rest := s.stations.meshMark.filter (fun (m : RK × Nat × Bool) => m.1 ≠ k.canon)
    (true, { s with stations := { s.stations with meshMark := rest ++ [(k.canon, kennel, secure)] } })

/-- A Tether write of a register is applied (R32, R33): it marks the register, and supersedes a mesh write of this span. -/
def Sys.tetherApply (s : Sys) (k : RK) (off : Nat) : Sys :=
  let was := s.stations.meshMark.find? (fun (m : RK × Nat × Bool) => m.1 = k.canon)
  let s := match was with
    | some m => s.meshNote F.SYS_CS_STATUS_MESH_SUPERSEDED off m.2.1 m.2.2
    | none => s
  { s with stations := { s.stations with
      tetherMark := if s.stations.tetherMark.contains k.canon then s.stations.tetherMark else s.stations.tetherMark ++ [k.canon]
      meshMark := s.stations.meshMark.filter (fun (m : RK × Nat × Bool) => m.1 ≠ k.canon) } }

/-- At a span tick every mark is cleared (R32). -/
def Sys.marksTick (s : Sys) : Sys := { s with stations := { s.stations with tetherMark := [], meshMark := [] } }

/-- A delivery of R612 reaches a register as a mesh write (R31 to R33). -/
def Sys.meshDeliver (s : Sys) (k : RK) (kennel : Nat) (secure : Bool) (f : Sys → Sys) : Sys :=
  match s.meshApply k (s.offsetOf k) kennel secure with
  | (true, t) => f t
  | (false, t) => t

/-- A write of SYS_CS_STATUS (R33): the count is zero while both bits are. -/
def Sys.csStatusWrite (s : Sys) (i : Nat) (v : Word) : Sys :=
  let k : RK := ⟨.SYS_CS_STATUS, i, 0⟩
  if 109 ≤ i then s
  else
    let s := s.wr k (accWrite rows_SYS_CS_STATUS s.isSealed (s.rd k) v)
    s.when (!s.on F.SYS_CS_STATUS_MESH_DROP i && !s.on F.SYS_CS_STATUS_MESH_SUPERSEDED i) (fun s => s.put F.SYS_CS_STATUS_DROP_COUNT 0 i)

end Sys2Proof.Machine
end

