-- ==== Sys2Proof/Machine/Ports.lean ====
section
/-!
DEFINITION. The I/O ports: links, outbound and inbound requests, virtual wires, the endpoint function and its translation table,
link states (ch. 12).
-/
namespace Sys2Proof.Machine

/-! ## Links -/

def LinkSt.cold : LinkSt := ⟨[], [], [], 0, false, .none, true, .none, 0⟩
def EpSt.idle : EpSt := ⟨[], 0, 0, 0, false, []⟩
def Sys.link (s : Sys) (p j : Nat) : LinkSt := Bank.getD s.links (p, j) .cold
def Sys.onLink (s : Sys) (p j : Nat) (f : LinkSt → LinkSt) : Sys := { s with links := Bank.set s.links (p, j) (f (s.link p j)) }
def Sys.ep (s : Sys) (p : Nat) : EpSt := Bank.getD s.eps p .idle
def Sys.onEp (s : Sys) (p : Nat) (f : EpSt → EpSt) : Sys := { s with eps := Bank.set s.eps p (f (s.ep p)) }

def Sys.role (s : Sys) (p : Nat) : Nat := (s.conf.port p).role
/-- A port in a root-port role, and one in the endpoint role (R440). -/
def Sys.isRoot (s : Sys) (p : Nat) : Bool := s.role p == 1 || s.role p == 2
def Sys.isEp (s : Sys) (p : Nat) : Bool := s.role p == 3 && (p == 0 || p == 4)
/-- The link exists (R440). -/
def Sys.hasLink (s : Sys) (p j : Nat) : Bool := s.role p != 0 && decide (j < linksOf (s.conf.port p).bifurc)
/-- The link's LINK_WORLD (R87). -/
def Sys.linkSecure (s : Sys) (p j : Nat) : Bool := bit (s.conf.port p).world j
def Sys.lkState (s : Sys) (p j : Nat) : Nat := s.rf F.IOP_LINK_STATUS_STATE p j
def Sys.lkTo (s : Sys) (p j st : Nat) : Sys := s.put F.IOP_LINK_STATUS_STATE st p j

/-- INB_IDLE and OB_IDLE follow the link's requests. -/
def Sys.showLink (s : Sys) (p j : Nat) : Sys :=
  (s.put F.IOP_LINK_STATUS_INB_IDLE (b2n (s.link p j).inq.isEmpty) p j).put F.IOP_LINK_STATUS_OB_IDLE (b2n (s.link p j).out.isEmpty) p j

/-- What the link sends. -/
def Sys.lkSend (s : Sys) (p j : Nat) (t : Tlp) : Sys :=
  (s.onLink p j (fun l => { l with tx := t })).when (s.lkState p j == lkL1) (fun s => s.lkTo p j lkUp)

/-- An event is latched in IOP_LINK_ERR and IOP_LINK_ERRADDR as R261 states; a cause the spec does not name is a free value. -/
def Sys.linkLog (s : Sys) (p j : Nat) (cause : Option Nat) (addr : Option Nat) (reqId : Nat) : Sys :=
  let ue := cause != some 8
  let take := !s.on F.IOP_LINK_ERR_VALID p j || (ue && !s.on F.IOP_LINK_ERR_UE p j)
  let s := s.bump F.IOP_LINK_ERR_COUNT p j
  if take then
    let s := ((s.put F.IOP_LINK_ERR_VALID 1 p j).put F.IOP_LINK_ERR_UE (b2n ue) p j).put F.IOP_LINK_ERR_REQ_ID reqId p j
    let s := match cause with | some c => s.put F.IOP_LINK_ERR_CAUSE c p j | none => s.putFree F.IOP_LINK_ERR_CAUSE p j
    match addr with
    | some a => (s.put F.IOP_LINK_ERRADDR_ADDR (a / 4) p j).put F.IOP_LINK_ERRADDR_ADDR_VALID 1 p j
    | none => (s.put F.IOP_LINK_ERRADDR_ADDR 0 p j).put F.IOP_LINK_ERRADDR_ADDR_VALID 0 p j
  else if ue then s.put F.IOP_LINK_ERR_OVERFLOW 1 p j else s

def cUrDecode : Nat := 1
def cBme : Nat := 2
def cP2p : Nat := 3
def cRegion : Nat := 4
def cCplTimeout : Nat := 5
def cPoisonRx : Nat := 6
def cMalformed : Nat := 7
def cCorrected : Nat := 8
def cDpc : Nat := 9
def cSurprise : Nat := 10
def cMsiPage : Nat := 11
def cXlatMiss : Nat := 12
def cXlatSplit : Nat := 13
def cXlatPerm : Nat := 14
def cXlatTarget : Nat := 15
def cObRefused : Nat := 16
def cCxlLost : Nat := 17

/-! ## Virtual wires (R452) -/

/-- The sources of the link's wires follow their levels; a wire that names no usable source sets ERR (R452). -/
def Sys.intxSync (s : Sys) (p j : Nat) : Sys :=
  let d := s.linkKennel p j
  let s := s.put F.IOP_LINK_INTX_WIRES (s.link p j).wires p j
  let bad := s.on F.IOP_LINK_CTL_INTX_EN p j && (below 4).any (fun w =>
    let n := s.intxName p j w
    n != 0 && !(decide (16 ≤ n) && s.srcPresent d n && s.srcLevel d n))
  (s.when bad (fun s => s.put F.IOP_LINK_INTX_ERR 1 p j)).icnSync d

def Sys.intxTo (s : Sys) (p j : Nat) (m : Nat) : Sys := (s.onLink p j (fun l => { l with wires := m })).intxSync p j

/-- The partner sends a TLP: a link in L1 has left it (R467). -/
def Sys.lkWake (s : Sys) (p j : Nat) : Sys := s.when (s.lkState p j == lkL1) (fun s => s.lkTo p j lkUp)

/-- An Assert_INTx or Deassert_INTx message (R452). -/
def Sys.intxMessage (s : Sys) (p j w : Nat) (level : Bool) : Sys :=
  if s.isRoot p && s.hasLink p j && s.linkUp p j && (s.link p j).reset == .none then (s.lkWake p j).intxTo p j (setBit (s.link p j).wires w level) else s

/-! ## The root port's configuration header -/

/-- The writable bits of a doubleword of the type 1 header that govern the link: Command, bus numbers, memory and prefetchable
windows, bridge control (the layout is that of PCI Express, log 60). -/
def hdrMask (dw : Nat) : Option Nat :=
  match dw with
  | 1 => some 0x547
  | 6 => some 0xFFFFFF
  | 8 => some 0xFFF0FFF0
  | 9 => some 0xFFF0FFF0
  | 10 => some 0xFFFFFFFF
  | 11 => some 0xFFFFFFFF
  | 15 => some 0x4300FF
  | _ => none

def Sys.hdr (s : Sys) (p j dw : Nat) : Nat := Bank.getD (s.link p j).cfg dw 0

/-- Bus Master Enable of a root port (R453). -/
def Sys.rootBme (s : Sys) (p j : Nat) : Bool := bit (s.hdr p j 1) 2

/-- A write of bytes of a header doubleword; Bus Master Enable shows in IOP_LINK_STATUS. -/
def Sys.hdrWrite (s : Sys) (p j dw off n data : Nat) : Sys :=
  match hdrMask dw with
  | some m =>
    let lanes := (2 ^ (8 * n) - 1) * 2 ^ (8 * off)
    let old := s.hdr p j dw
    let v := ((old - (old &&& lanes)) ||| ((data * 2 ^ (8 * off)) &&& lanes)) &&& m
    let s := s.onLink p j (fun l => { l with cfg := Bank.set l.cfg dw v })
    s.put F.IOP_LINK_STATUS_BME (b2n (s.rootBme p j)) p j
  | none => s

/-- The windows of a root port hold an offset (R443). -/
def Sys.windowHolds (s : Sys) (p j o : Nat) : Bool :=
  let w := s.hdr p j 8
  let q := s.hdr p j 9
  let lo := nget w 4 12 * 2 ^ 20
  let hi := nget w 20 12 * 2 ^ 20 + (2 ^ 20 - 1)
  let plo := nget q 4 12 * 2 ^ 20 + s.hdr p j 10 * 2 ^ 32
  let phi := nget q 20 12 * 2 ^ 20 + (2 ^ 20 - 1) + s.hdr p j 11 * 2 ^ 32
  (decide (lo ≤ o) && decide (o ≤ hi)) || (decide (plo ≤ o) && decide (o ≤ phi))

/-- The link that a window offset, or a bus number, is sent on (R443). -/
def Sys.linkOfOffset (s : Sys) (p o : Nat) : Option Nat := (below 4).find? (fun j => s.hasLink p j && s.windowHolds p j o)
def Sys.linkOfBus (s : Sys) (p b : Nat) : Option Nat :=
  (below 4).find? (fun j => s.hasLink p j && decide (nget (s.hdr p j 6) 8 8 ≤ b) && decide (b ≤ nget (s.hdr p j 6) 16 8))

/-! ## Answers to outbound requests (R445) -/

/-- The first byte and size of a port's window and segment of a socket (R36). -/
def portWindow (k p : Nat) : Nat := 0xE000000000000 + k * 0x800000000000 + p * 0x100000000000
def portSegment (k p : Nat) : Nat := 0xF000000000000 + k * 0x100000000 + p * 0x10000000

/-- The next answer of a link's requester: data of `n` bytes at its place in the line. -/
def Sys.outAnswer (s : Sys) (w : Source) (pa n data : Nat) (poison err : Bool) : Sys :=
  let d := linePut 0 (pa % 64) (8 * n) data
  match w with
  | .core h => { s with msgs := s.msgs ++ [.fill ⟨h, pa / 64, .nc, d, poison, 0, 0, ⟨0, 0, 0⟩, false, 0, 4, err, 0⟩] }
  | w => { s with msgs := s.msgs ++ [.reply w (pa / 64) d poison err] }

/-- A posted write that has left a requester that waits for its acceptance (R480). -/
def Sys.outAccepted (s : Sys) (w : Source) (pa : Nat) (err : Bool) : Sys :=
  match w with
  | .engine _ => { s with msgs := s.msgs ++ [.reply w (pa / 64) 0 false err] }
  | _ => s

/-- The requester's kennel and world are admitted to a link's window, or to its configuration space (R444). -/
def Sys.linkAdmits (s : Sys) (p j k : Nat) (secure cfg : Bool) : Bool :=
  (k == s.linkKennel p j && worldOk (s.linkSecure p j) secure) || (cfg && k == 15)

/-- The link takes no new outbound request: it is not UP or L1, or a kennel reset acts on it (R445, R469). -/
def Sys.linkShut (s : Sys) (p j : Nat) : Bool := !s.linkUp p j || (s.link p j).reset != .none

/-- A request to port `p`'s window, or configuration access, under way: the message that carries it, or, where none is, the one the
command describes: requester, kennel, world, data and poison. -/
def Sys.takeIo (s : Sys) (w : ReqSrc) (write : Bool) (pa n data : Nat) : (Source × Nat × Bool × Nat × Nat × Bool) × Sys :=
  let (src, k, sec) := s.srcOf w
  match takeMsg (Msg.isIo src write pa) s.msgs with
  | some (.io _ k sec _ _ n d p, rest) => ((src, k, sec, n, d, p), { s with msgs := rest })
  | _ => ((src, k, sec, n, data, false), s)

/-- The host has Bus Master Enable set (R454). -/
def Sys.hostBme (s : Sys) (p : Nat) : Bool := s.on F.IOP_EP_STATUS_BME p

/-- A read of a port's window (R443 to R445, R461). For a window, or register space, of the other socket the answer is the operand's. -/
def Sys.outRead (s : Sys) (w : ReqSrc) (pa n : Nat) (peer : Option (BitVec 512)) : Sys :=
  let ((src, k, sec, n, _, _), s) := s.takeIo w false pa n 0
  let fail := fun (s : Sys) => s.outAnswer src pa n 0 false true
  match regionOf pa with
  | .window z =>
    if z ≠ s.socket then
      match peer with
      | some d => s.outAnswer src pa n (lineField d (pa % 64) (8 * n)) false false
      | none => fail s
    else
      let p := (pa - portWindow z 0) / 0x100000000000
      let o := (pa - portWindow z 0) % 0x100000000000
      match (if s.isEp p then some 0 else if s.isRoot p then s.linkOfOffset p o else none) with
      | none => fail s
      | some j =>
        if !s.linkAdmits p j k sec false then fail (s.linkLog p j (some cObRefused) (some pa) 0)
        else if s.linkShut p j || (s.isEp p && !s.hostBme p) then fail s
        else
          let a := if s.isEp p then s.rf F.IOP_EP_CTL_OB_BASE p * 2 ^ 44 + o else o
          ((s.onLink p j (fun l => { l with out := l.out ++ [⟨.src src, .mem, pa, n⟩] })).lkSend p j (.memRead a n)).showLink p j
  | .regs z =>
    if z = s.socket then s
    else match peer with
      | some d => s.outAnswer src pa n (lineField d (pa % 64) (8 * n)) false false
      | none => fail s
  | _ => s

/-- A write to a port's window (R443 to R445, R461): posted; what cannot be sent is discarded and logged. -/
def Sys.outWrite (s : Sys) (w : ReqSrc) (pa n data : Nat) : Sys :=
  let ((src, k, sec, n, data, poison), s) := s.takeIo w true pa n data
  let fail := fun (s : Sys) => s.outAccepted src pa true
  match regionOf pa with
  | .window z =>
    if z ≠ s.socket then s.outAccepted src pa false
    else
      let p := (pa - portWindow z 0) / 0x100000000000
      let o := (pa - portWindow z 0) % 0x100000000000
      match (if s.isEp p then some 0 else if s.isRoot p then s.linkOfOffset p o else none) with
      | none => fail (s.linkLog p 0 (some cUrDecode) (some pa) 0)
      | some j =>
        if !s.linkAdmits p j k sec false then fail (s.linkLog p j (some cObRefused) (some pa) 0)
        else if s.isEp p && !s.hostBme p then fail (s.bump F.IOP_LINK_STATUS_BME_DROP p j)
        else if s.linkShut p j then fail (s.linkLog p j none (some pa) 0)
        else
          let a := if s.isEp p then s.rf F.IOP_EP_CTL_OB_BASE p * 2 ^ 44 + o else o
          (s.lkSend p j (.memWrite a n data poison)).outAccepted src pa false
  | _ => s

/-! ## Configuration accesses (R440, R443 to R445) -/

/-- The parts of a configuration address: port, bus, device, function, register. -/
def cfgParts (socket pa : Nat) : Nat × Nat × Nat × Nat × Nat :=
  let o := pa - portSegment socket 0
  (o / 0x10000000, nget o 20 8, nget o 15 5, nget o 12 3, nget o 0 12)

/-- All ones of `n` bytes. -/
def allOnes (n : Nat) : Nat := 2 ^ (8 * n) - 1

/-- A configuration read. -/
def Sys.cfgRead (s : Sys) (w : ReqSrc) (pa n : Nat) (peer : Option (BitVec 512)) : Sys :=
  let ((src, k, sec, n, _, _), s) := s.takeIo w false pa n 0
  let ok := fun (s : Sys) (v : Nat) => s.outAnswer src pa n v false false
  let fail := fun (s : Sys) => s.outAnswer src pa n 0 false true
  match regionOf pa with
  | .ecam z =>
    if z ≠ s.socket then
      match peer with
      | some d => ok s (lineField d (pa % 64) (8 * n))
      | none => fail s
    else if 4 < n || pa % n ≠ 0 then fail s
    else
      let (p, b, dv, fn, reg) := cfgParts z pa
      if !s.isRoot p then ok s (allOnes n)
      else if b = 0 then
        if fn ≠ 0 || !(decide (dv < 4) && s.hasLink p dv) then ok s (allOnes n)
        else if !s.linkAdmits p dv k sec true then fail (s.linkLog p dv (some cObRefused) (some pa) 0)
        else match hdrMask (reg / 4) with
        | some _ =>
          let v := s.hdr p dv (reg / 4)
          let v := if reg / 4 = 1 then v + s.freeVal 16 * 2 ^ 16 else v
          ok s.usedFree (nget v (8 * (reg % 4)) (8 * n))
        | none => ok s.usedFree (nget (s.freeVal 32) (8 * (reg % 4)) (8 * n))
      else match s.linkOfBus p b with
      | none => ok (s.linkLog p 0 none (some pa) 0) (allOnes n)
      | some j =>
        if !s.linkAdmits p j k sec true then fail (s.linkLog p j (some cObRefused) (some pa) 0)
        else if s.linkShut p j then ok s (allOnes n)
        else
          let t1 := b != nget (s.hdr p j 6) 8 8
          ((s.onLink p j (fun l => { l with out := l.out ++ [⟨.src src, .cfgRead, pa, n⟩] })).lkSend p j (.cfgRead t1 (pa % 0x10000000) n)).showLink p j
  | _ => s

/-- A configuration write; it has been posted, so what cannot be done is discarded and logged. -/
def Sys.cfgWrite (s : Sys) (w : ReqSrc) (pa n data : Nat) : Sys :=
  let ((src, k, sec, n, data, _), s) := s.takeIo w true pa n data
  match regionOf pa with
  | .ecam z =>
    if z ≠ s.socket || 4 < n || pa % n ≠ 0 then s
    else
      let (p, b, dv, fn, reg) := cfgParts z pa
      if !s.isRoot p then s
      else if b = 0 then
        if fn ≠ 0 || !(decide (dv < 4) && s.hasLink p dv) then s
        else if !s.linkAdmits p dv k sec true then s.linkLog p dv (some cObRefused) (some pa) 0
        else s.hdrWrite p dv (reg / 4) (reg % 4) n data
      else match s.linkOfBus p b with
      | none => s.linkLog p 0 none (some pa) 0
      | some j =>
        if !s.linkAdmits p j k sec true then s.linkLog p j (some cObRefused) (some pa) 0
        else if s.linkShut p j then s.linkLog p j none (some pa) 0
        else
          let t1 := b != nget (s.hdr p j 6) 8 8
          ((s.onLink p j (fun l => { l with out := l.out ++ [⟨.src src, .cfgWrite, pa, n⟩] })).lkSend p j (.cfgWrite t1 (pa % 0x10000000) n data)).showLink p j
  | _ => s

/-- A write clears a root port's Bus Master Enable (R453): it is the configuration write of the Command register that does so. -/
def Sys.bmeClear (s : Sys) (w : ReqSrc) (p j : Nat) : Sys :=
  let pa := portSegment s.socket p + j * 2 ^ 15 + 4
  s.cfgWrite w pa 2 (setBit (s.hdr p j 1 % 65536) 2 false)

/-! ## Inbound requests (R447 to R451) -/

/-- Data of a line of a request of `n` bytes from an address. -/
def partOf (data a l : Nat) (b m : Nat) : BitVec 512 := linePut 0 (b - 64 * l) (8 * m) (data / 2 ^ (8 * (b - a)))

/-- An inbound request is sent to the home agents, line by line (R447). -/
def Sys.inSend (s : Sys) (p j : Nat) (r : InReq) : Sys :=
  s.each r.todo (fun s l =>
    let (b, m) := inLine r.addr r.n l
    let q : Req := { kind := if r.kind = .read then .devRd else .devWr, line := l, who := .port p j, kennel := r.kennel, secure := r.secure }
    s.send (if r.kind = .read then q
      else { q with data := partOf r.data r.addr l b m, mask := BitVec.ofNat 64 ((2 ^ m - 1) * 2 ^ (b % 64)), poison := r.poison }))

/-- The memory grains of a peer-to-peer request, one for each line it touches, taken at the port's stop, when there are enough (R448). -/
def Sys.peerCharge (s : Sys) (p j : Nat) (r : InReq) : Option Sys :=
  let i := Source.stop (.port p j)
  let c := (rangeLines r.addr r.n).length
  let b := Bank.getD (s.stop i).mem r.kennel 0
  if b < c then none else some (s.onStop i (fun t => { t with mem := Bank.set t.mem r.kennel (b - c) }))

/-- A peer-to-peer request may be forwarded (R448). -/
def Sys.peerOk (s : Sys) (p j q k : Nat) : Bool :=
  s.on F.IOP_LINK_CTL_P2P_EN p j && s.on F.IOP_LINK_CTL_P2P_EN q k && s.linkKennel p j == s.linkKennel q k &&
  s.linkSecure p j == s.linkSecure q k && s.linkUp q k && (s.link q k).reset == .none

def Sys.inTo (s : Sys) (p j : Nat) (r : InReq) : Sys := s.onLink p j (fun l => { l with inq := l.inq.map (fun q => if q.id = r.id then r else q) })
def Sys.inDel (s : Sys) (p j : Nat) (r : InReq) : Sys := s.onLink p j (fun l => { l with inq := l.inq.filter (fun q => q.id ≠ r.id) })

/-- A posted request. -/
def InKind.posted : InKind → Bool
  | .write | .peerWrite _ _ | .msg _ _ | .doorbell _ => true
  | _ => false

/-- One inbound request goes on as far as the order of R449 lets it. -/
def Sys.inStep (s : Sys) (p j id : Nat) : Sys :=
  match (s.link p j).inq.find? (fun r => r.id = id) with
  | none => s
  | some r =>
    let clear := !((s.link p j).inq.takeWhile (fun q => q.id ≠ id)).any (fun q => q.kind.posted)
    match r.kind with
    | .msg d n => if clear then (s.inDel p j r).icnMessage d n r.secure else s
    | .doorbell c =>
      if !clear then s
      else if s.on F.RTV_CH_BIND_VALID c && s.chKennel c == r.kennel && s.chSecure c == r.secure then
        (s.inDel p j r).meshDeliver ⟨.RTV_CH_TAIL, c, 0⟩ r.kennel r.secure (fun s => s.tailWrite c r.data)
      else (s.inDel p j r).linkLog p j (some cXlatTarget) (some r.addr) r.reqId
    | .write =>
      let s := if r.todo.isEmpty || !(clear || r.ro) then s else (s.inTo p j { r with todo := [], waits := r.waits ++ r.todo }).inSend p j r
      match (s.link p j).inq.find? (fun q => q.id = id) with
      | some r => if r.todo.isEmpty && r.waits.isEmpty then s.inDel p j r else s
      | none => s
    | .read =>
      let s := if r.todo.isEmpty then s else (s.inTo p j { r with todo := [], waits := r.todo }).inSend p j r
      match (s.link p j).inq.find? (fun q => q.id = id) with
      | some r =>
        if r.todo.isEmpty && r.waits.isEmpty && (clear || r.ro) then
          (s.inDel p j r).lkSend p j (if r.err then .unsupported else .cpl r.n r.data r.poison)
        else s
      | none => s
    | .peerWrite q k =>
      if !(clear || r.ro) then s
      else match s.peerCharge p j r with
      | some s => if s.peerOk p j q k then (s.inDel p j r).lkSend q k (.memWrite (r.addr % 0x100000000000) r.n r.data r.poison)
        else (s.inDel p j r).linkLog p j (some cP2p) (some r.addr) r.reqId
      | none => s
    | .peerRead q k =>
      if !r.todo.isEmpty then
        match s.peerCharge p j r with
        | some s =>
          if s.peerOk p j q k then
            ((s.inTo p j { r with todo := [], waits := r.todo }).onLink q k (fun l =>
              { l with out := l.out ++ [⟨.peer p j id, .mem, r.addr, r.n⟩] })).lkSend q k (.memRead (r.addr % 0x100000000000) r.n)
          else ((s.inDel p j r).linkLog p j (some cP2p) (some r.addr) r.reqId).lkSend p j .unsupported
        | none => s
      else if r.waits.isEmpty && (clear || r.ro) then (s.inDel p j r).lkSend p j (if r.err then .unsupported else .cpl r.n r.data r.poison)
      else s

/-- A kennel reset's hot reset of a root link begins when nothing is outstanding (R469); an endpoint link's part ends. -/
def Sys.resetGo (s : Sys) (p j : Nat) : Sys :=
  let l := s.link p j
  if l.reset = .waiting && l.out.isEmpty && l.inq.isEmpty then
    if s.isRoot p && (s.linkUp p j || s.lkState p j = lkTraining) then
      ((s.onLink p j (fun l => { l with reset := .hot, cfg := [], perst := true })).put F.IOP_LINK_STATUS_BME 0 p j).lkTo p j lkReset
    else (s.onLink p j (fun l => { l with reset := .none, cfg := if s.isRoot p then [] else l.cfg })).put F.IOP_LINK_STATUS_BME
      (b2n (!s.isRoot p && s.hostBme p)) p j
  else s

/-- The link's inbound requests go on, in order; each pass may free the next. -/
def Sys.inPump (s : Sys) (p j : Nat) : Sys :=
  let ids := (s.link p j).inq.map (·.id)
  let s := ids.foldl (fun s id => s.inStep p j id) s
  (s.showLink p j).resetGo p j

/-- Every link's requests go on, as after a grant of grains. -/
def Sys.inPumpAll (s : Sys) : Sys := s.each (s.links.map (·.1)) (fun s k => s.inPump k.1 k.2)

/-- A new inbound request enters the link's queue. -/
def Sys.inPut (s : Sys) (p j : Nat) (r : InReq) : Sys :=
  let id := (s.link p j).nextId
  (s.onLink p j (fun l => { l with inq := l.inq ++ [{ r with id := id }], nextId := id + 1 })).inPump p j

/-- An inbound request is refused (R447): UR for a non-posted one, and a log. -/
def Sys.inRefuse (s : Sys) (p j cause : Nat) (write : Bool) (addr reqId : Nat) : Sys :=
  let s := s.linkLog p j (some cause) (some addr) reqId
  if write then s else s.lkSend p j .unsupported

/-- The link takes TLPs from its partner: it is UP or L1, and the socket is not in the heel state, in which TLPs are discarded. -/
def Sys.linkTakes (s : Sys) (p j : Nat) : Bool := s.hasLink p j && s.linkUp p j && !s.heeled

/-- An inbound memory request of a root-port link (R447, R450, R453). -/
def Sys.inbound (s : Sys) (p j : Nat) (write : Bool) (addr n data : Nat) (ep ro bad : Bool) (reqId : Nat) : Sys :=
  if !(s.isRoot p && s.linkTakes p j) || n = 0 then s
  else
    let s := s.lkWake p j
    let no := fun (s : Sys) (c : Nat) => s.inRefuse p j c write addr reqId
    let k := s.linkKennel p j
    let sec := s.linkSecure p j
    let r : InReq := ⟨0, if write then .write else .read, addr, n, k, sec, ro, if write then data else 0, ep && write, rangeLines addr n, [], false, none, reqId⟩
    if (s.link p j).reset ≠ .none then no s cUrDecode
    else if !s.rootBme p j then (no s cBme).when write (fun s => s.bump F.IOP_LINK_STATUS_BME_DROP p j)
    else if bad then no s cUrDecode
    else if 0xFE00000000000 ≤ addr && addr < 0xFE00000001000 then
      if write && (n = 4 || n = 8) && addr % n = 0 then s.inPut p j { r with kind := .msg k (data % 4096), todo := [] }
      else no s cMsiPage
    else match regionOf addr with
    | .dram _ => s.inPut p j r
    | .cxl z => if z = s.socket then s.inPut p j r else no s cUrDecode
    | .window z =>
      if z ≠ s.socket then no s cUrDecode
      else
        let q := (addr - portWindow z 0) / 0x100000000000
        match (if s.isEp q then some 0 else if s.isRoot q then s.linkOfOffset q ((addr - portWindow z 0) % 0x100000000000) else none) with
        | some t => if s.peerOk p j q t then s.inPut p j { r with kind := if write then .peerWrite q t else .peerRead q t } else no s cP2p
        | none => no s cP2p
    | _ => no s cUrDecode

/-- A region register admits a device's request now (R397). -/
def Sys.regionOk (s : Sys) (pa k : Nat) (secure write : Bool) : Bool :=
  match s.conf.locate pa with
  | some (m, _, _) => (below 32).any (fun i => let e := Bank.getD s.regionNow (m, i) (0, 0); regionAdmits e.1 e.2 pa k secure write)
  | none => (s.cxlLink pa).isSome

/-- A home agent's answer for a line of a link reaches the port (R447, R449). -/
def Sys.inReply (s : Sys) (p j l : Nat) (d : BitVec 512) (poison err : Bool) : Sys :=
  match (s.link p j).inq.find? (fun r => r.waits.contains l && (r.kind == .read || r.kind == .write)) with
  | none => s
  | some r =>
    let (b, m) := inLine r.addr r.n l
    let rd := r.kind == .read
    let s := s.when (err && !s.regionOk (64 * l) r.kennel r.secure (!rd)) (fun s => s.linkLog p j (some cRegion) (some r.addr) r.reqId)
    (s.inTo p j { r with
      waits := r.waits.erase l
      err := r.err || err
      poison := r.poison || (rd && poison)
      data := if rd then r.data + lineField d (b % 64) (8 * m) * 2 ^ (8 * (b - r.addr)) else r.data }).inPump p j

/-! ## The ends of outbound requests (R445) -/

/-- A requester's outbound request has ended: the bytes, or poison, or an error completion. -/
def Sys.outEnd (s : Sys) (o : OutReq) (data : Nat) (poison err : Bool) : Sys :=
  match o.by_, o.kind with
  | .src w, .cfgWrite => match w with | .core _ => s | w => s.outAnswer w o.pa o.n 0 false false
  | .src w, _ => s.outAnswer w o.pa o.n data poison err
  | .peer p j id, _ =>
    match (s.link p j).inq.find? (fun r => r.id = id) with
    | some r => (s.inTo p j { r with waits := [], data := data, poison := poison, err := err }).inPump p j
    | none => s

/-- A completion ends an outbound request of a link (R445). -/
def Sys.pcieCpl (s : Sys) (p j i : Nat) (c : CplResult) : Sys :=
  match (s.link p j).out[i]? with
  | none => s
  | some o =>
    if !s.linkUp p j || s.heeled then s
    else
      let gone := fun (s : Sys) => (s.onLink p j (fun l => { l with out := l.out.eraseIdx i })).showLink p j
      let log := fun (s : Sys) (c : Option Nat) => s.linkLog p j c (some o.pa) 0
      let s' := match c, o.kind with
        | .ok d, _ => (gone s).outEnd o (lineField d 0 (8 * o.n)) false false
        | .poisoned, .mem => (gone s).outEnd o 0 true false
        | .poisoned, _ => (log (gone s) (some cPoisonRx)).outEnd o (allOnes o.n) false false
        | .unsupported, .mem => (gone s).outEnd o 0 false true
        | .unsupported, _ => (log (gone s) none).outEnd o (allOnes o.n) false false
        | .retry visible, .cfgRead =>
          let reg := o.pa % 4096
          if visible && reg = 0 then ((gone s).usedFree).outEnd o (1 + s.freeVal 16 * 2 ^ 16) false false else s
        | .retry _, _ => s
      s'.inPumpAll

/-- The completion timeout of an outbound request expires (R445). -/
def Sys.cplTimeout (s : Sys) (p j i : Nat) : Sys :=
  match (s.link p j).out[i]? with
  | none => s
  | some o =>
    if s.heeled then s
    else
      let s := (s.onLink p j (fun l => { l with out := l.out.eraseIdx i })).showLink p j
      let s := s.linkLog p j (some cCplTimeout) (some o.pa) 0
      (match o.kind with
        | .mem => s.outEnd o 0 false true
        | _ => s.outEnd o (allOnes o.n) false false).inPumpAll

/-! ## Link states (R459, R465 to R469, R595) -/

/-- The link leaves UP and L1 (R468): non-posted requests end, completions not yet sent are discarded, the wires deassert. -/
def Sys.linkEnd (s : Sys) (p j : Nat) : Sys :=
  let out := (s.link p j).out
  let s := s.onLink p j (fun l => { l with out := [], inq := l.inq.filter (fun r => r.kind.posted) })
  let s := s.each out (fun s o => match o.kind with | .mem => s.outEnd o 0 false true | _ => s.outEnd o (allOnes o.n) false false)
  let s := (s.put F.IOP_LINK_STATUS_SPEED 0 p j).put F.IOP_LINK_STATUS_WIDTH 0 p j
  let s := if s.isEp p then (s.put F.IOP_EP_STATUS_LINK_UP 0 p).put F.IOP_EP_INTX_SENT 0 p else s
  ((s.put F.IOP_LINK_STATUS_CXL 0 p j).intxTo p j 0).showLink p j

/-- The port sends Assert_INTA or Deassert_INTA when the state changed (R462). -/
def Sys.epIntx (s : Sys) (p : Nat) : Sys :=
  let want := s.on F.IOP_EP_INTX_ASSERT p && !s.on F.IOP_EP_STATUS_INTX_DIS p
  if s.linkUp p 0 && want != s.on F.IOP_EP_INTX_SENT p then (s.put F.IOP_EP_INTX_SENT (b2n want) p).lkSend p 0 (.intx 0 want) else s

/-- The vectors that may be sent now are sent, lowest first (R454, R461). -/
def Sys.epMsi (s : Sys) (p : Nat) : Sys :=
  if s.linkUp p 0 && s.hostBme p && s.on F.IOP_EP_STATUS_MSI_EN p && !s.heeled then
    (below 32).foldl (fun s v =>
      let pend := s.rf F.IOP_EP_MSI_PENDING p
      if bit pend v && !bit (s.ep p).masks v then
        (s.put F.IOP_EP_MSI_PENDING (setBit pend v false) p).lkSend p 0 (.msi (s.ep p).msiAddr ((s.ep p).msiData ||| v))
      else s) s
  else s

/-- A write of v to IOP_EP_MSI (R461): the vector is v modulo the number allocated; it stays pending while it may not be sent. -/
def Sys.epMsiWrite (s : Sys) (p v : Nat) : Sys :=
  if !s.isEp p then s
  else
    let v := v % max 1 (s.rf F.IOP_EP_STATUS_MSI_VECTORS p)
    (s.put F.IOP_EP_MSI_PENDING (setBit (s.rf F.IOP_EP_MSI_PENDING p) v true) p).epMsi p

/-- A write of IOP_EP_INTX (R462). -/
def Sys.epIntxWrite (s : Sys) (p : Nat) (v : Word) : Sys := if s.isEp p then (s.put F.IOP_EP_INTX_ASSERT (fget v 0 1) p).epIntx p else s

/-- The data link layer comes up (R467): within the image's limits. -/
def Sys.linkUpEvent (s : Sys) (p j speed width : Nat) (cxl : Bool) : Sys :=
  if s.hasLink p j && s.lkState p j = lkTraining && !s.heeled then
    let c := s.conf.port p
    let s := (s.lkTo p j lkUp).put F.IOP_LINK_STATUS_SPEED (min speed c.maxGen) p j
    let s := (s.put F.IOP_LINK_STATUS_WIDTH (min width (laneOf c.bifurc j).2) p j).put F.IOP_LINK_STATUS_CXL (b2n (cxl && c.role == 2)) p j
    if s.isEp p then ((s.put F.IOP_EP_STATUS_LINK_UP 1 p).epIntx p).epMsi p else s
  else s

/-- A link is lost or reports an error (R467, R468); `dpc` says that DPC is enabled in its configuration space. -/
def Sys.linkEvent (s : Sys) (p j : Nat) (ev : LinkEvent) (dpc : Bool) : Sys :=
  if !s.hasLink p j || s.heeled then s
  else
    let up := s.linkUp p j
    let contain := fun (s : Sys) => (((s.linkEnd p j).lkTo p j lkContained).linkLog p j (some cDpc) none 0).raise (srcPort p 4) j
    match ev with
    | .lost => if !up then s else if dpc then contain s
      else (((s.linkEnd p j).lkTo p j lkDown).linkLog p j (some cSurprise) none 0).raise (srcPort p 3) j
    | .fatal => if !up then s else if dpc then contain s else s.raise (srcPort p 2) j
    | .datapath => if !up then s else if dpc then contain s else (s.linkLog p j (some cMalformed) none 0).raise (srcPort p 2) j
    | .corrected => (s.linkLog p j (some cCorrected) none 0).raise (srcPort p 0) j
    | .nonfatal => s.raise (srcPort p 1) j
    | .queues => s.raise (srcPort p 6) j

/-- An idle link enters L1 (R465). -/
def Sys.l1Entry (s : Sys) (p j : Nat) : Sys :=
  if s.lkState p j = lkUp && s.rf F.IOP_LINK_CTL_IDLE_L1 p j != 0 && (s.link p j).out.isEmpty && (s.link p j).inq.isEmpty then s.lkTo p j lkL1 else s
def Sys.l1Exit (s : Sys) (p j : Nat) : Sys := if s.lkState p j = lkL1 then s.lkTo p j lkUp else s

/-- The 2 ms of a hot reset end (R469): PERST# rises again and the link trains. -/
def Sys.hotResetEnd (s : Sys) (p j : Nat) : Sys :=
  if (s.link p j).reset = .hot then (s.onLink p j (fun l => { l with reset := .none, perst := false })).lkTo p j lkTraining else s

/-- An endpoint's PERST# input takes a level (R595). -/
def Sys.perstInput (s : Sys) (p : Nat) (level : Bool) : Sys :=
  if !s.isEp p then s.onEp p (fun e => { e with perstIn := level })
  else
    let s := s.onEp p (fun e => { e with perstIn := level })
    let st := s.lkState p 0
    if st = lkOff || st = lkHeel then s
    else if !level then (if s.linkUp p 0 then s.linkEnd p 0 else s).lkTo p 0 lkReset
    else if st = lkReset && s.on F.IOP_EP_CTL_LINK_EN p then s.lkTo p 0 lkTraining else s

/-- A power request in force (R466, R467). -/
def Sys.linkPower (s : Sys) (p j : Nat) (off : Bool) : Sys :=
  let s := s.onLink p j (fun l => { l with off := off })
  let st := s.lkState p j
  if st = lkHeel then s
  else if off then
    if st = lkOff then s
    else
      let s := (s.intxTo p j 0).lkTo p j lkOff
      let s := ((s.put F.IOP_LINK_STATUS_SPEED 0 p j).put F.IOP_LINK_STATUS_WIDTH 0 p j).put F.IOP_LINK_STATUS_CXL 0 p j
      if s.isEp p then (s.put F.IOP_EP_STATUS_LINK_UP 0 p).put F.IOP_EP_INTX_SENT 0 p else s
  else if st = lkOff && s.role p != 0 then s.lkTo p j lkReset else s

/-- A write of IOP_LINK_CTL but for PWR_REQ, whose value in force comes from the station (R403, R467). -/
def Sys.linkCtlWrite (s : Sys) (p j : Nat) (v : Word) : Sys :=
  let set := fun (s : Sys) (f : Fld) => s.put f (fget v f.lo f.wd) p j
  let s := [F.IOP_LINK_CTL_IDLE_L1, F.IOP_LINK_CTL_CPL_TO, F.IOP_LINK_CTL_INTX_EN, F.IOP_LINK_CTL_P2P_EN, F.IOP_LINK_CTL_PERST_REL].foldl set s
  let st := s.lkState p j
  let s := s.onLink p j (fun l => { l with perst := fget v 61 1 == 0 })
  let s := s.when (s.isRoot p && s.hasLink p j && st == lkReset && fget v 61 1 == 1) (fun s => s.lkTo p j lkTraining)
  let s := s.when (fget v 63 1 == 1 && st == lkDown) (fun s => s.lkTo p j lkTraining)
  let s := s.when (fget v 62 1 == 1 && st == lkContained) (fun s => s.lkTo p j lkTraining)
  s.intxSync p j

/-- A write of IOP_LINK_ERR (R472): VALID written 1 clears the log. -/
def Sys.linkErrWrite (s : Sys) (p j : Nat) (v : Word) : Sys :=
  if fget v 63 1 = 1 then
    (((s.put F.IOP_LINK_ERR_VALID 0 p j).put F.IOP_LINK_ERR_OVERFLOW 0 p j).put F.IOP_LINK_ERR_COUNT 0 p j).wr ⟨.IOP_LINK_ERRADDR, p, j⟩ 0
  else s

/-- A write of IOP_LINK_CXL (R456, R472). -/
def Sys.linkCxlWrite (s : Sys) (p j : Nat) (v : Word) : Sys :=
  let s := if s.on F.IOP_LINK_CXL_HDM_EN p j then s
    else s.put F.IOP_LINK_CXL_SIZE_GIB (min (fget v 32 12) ((laneOf (s.conf.port p).bifurc j).2 * 128)) p j
  s.put F.IOP_LINK_CXL_HDM_EN (fget v 63 1) p j

/-! ## The endpoint (R459 to R464) -/

/-- A write of IOP_EP_CTL (R459, R467). -/
def Sys.epCtlWrite (s : Sys) (p : Nat) (v : Word) : Sys :=
  if !s.isEp p then s
  else
    let s := s.put F.IOP_EP_CTL_OB_BASE (fget v 44 20) p
    let s := s.when (fget v 1 1 == 1) (fun s => s.put F.IOP_EP_CTL_CMD_ERR 0 p)
    if fget v 0 1 = 1 then
      let s := s.put F.IOP_EP_CTL_LINK_EN 1 p
      s.when (s.lkState p 0 == lkReset && (s.ep p).perstIn) (fun s => s.lkTo p 0 lkTraining)
    else s

/-- A write of IOP_EP_ID or IOP_EP_BAR (R459): not after LINK_EN. -/
def Sys.epIdWrite (s : Sys) (k : RK) (v : Word) : Sys :=
  if !s.isEp k.i then s
  else if s.on F.IOP_EP_CTL_LINK_EN k.i then s.put F.IOP_EP_CTL_CMD_ERR 1 k.i
  else s.wr k (accWrite k.reg.rows s.isSealed (s.rd k) v)

/-- BAR `b` is presented to the host (R460). -/
def Sys.barOn (s : Sys) (p b : Nat) : Bool :=
  let wide := fun (i : Nat) => s.on F.IOP_EP_BAR_ENABLE p i && s.on F.IOP_EP_BAR_IS64 p i && i % 2 == 0
  decide (b < 6) && s.on F.IOP_EP_BAR_ENABLE p b && decide (12 ≤ s.rf F.IOP_EP_BAR_SIZE_LOG2 p b) && decide (s.rf F.IOP_EP_BAR_SIZE_LOG2 p b ≤ 38) &&
  (!s.on F.IOP_EP_BAR_IS64 p b || (b % 2 == 0 && !s.on F.IOP_EP_BAR_ENABLE p (b + 1))) && !(b % 2 == 1 && wide (b - 1))

/-- The BAR and offset that a host address names (R460). -/
def Sys.barOf (s : Sys) (p a : Nat) : Option (Nat × Nat) :=
  ((below 6).find? (fun b => s.barOn p b && (match Bank.get? (s.ep p).bars b with
    | some base => decide (base ≤ a) && decide (a < base + 2 ^ s.rf F.IOP_EP_BAR_SIZE_LOG2 p b)
    | none => false))).map (fun b => (b, a - Bank.getD (s.ep p).bars b 0))

/-- The entry that translates a request of a BAR at an offset: the lowest that matches (R463). -/
def Sys.xlatOf (s : Sys) (p b o : Nat) : Option Nat :=
  (below 64).find? (fun i => s.on F.IOP_EP_XLAT_ENABLE p i && s.rf F.IOP_EP_XLAT_TYPE p i != 3 && s.rf F.IOP_EP_XLAT_BAR p i == b &&
    decide (s.rf F.IOP_EP_XLAT_OFFSET p i * 4096 ≤ o) && decide (o < s.rf F.IOP_EP_XLAT_OFFSET p i * 4096 + 2 ^ s.rf F.IOP_EP_XLAT_SIZE_LOG2 p i))

/-- A host request to a BAR (R463). -/
def Sys.epInbound (s : Sys) (p : Nat) (write : Bool) (a n data : Nat) (ep ro : Bool) (reqId : Nat) : Sys :=
  if !(s.isEp p && s.linkTakes p 0) || n = 0 then s
  else match s.barOf p a with
  | none => if write then s else s.lkSend p 0 .unsupported
  | some (b, o) =>
    let s := s.lkWake p 0
    let no := fun (s : Sys) (c : Nat) => s.inRefuse p 0 c write a reqId
    match s.xlatOf p b o with
    | none => (no s cXlatMiss).bump F.IOP_EP_XCOMMIT_MISS p
    | some i =>
      let w := s.rf F.IOP_EP_XLAT_OFFSET p i * 4096
      let k := s.rf F.IOP_EP_XLAT_KENNEL p i
      let sec := s.on F.IOP_EP_XLAT_WORLD_S p i
      let tgt := s.rf F.IOP_EP_XLAT_TGT_ADDR p i
      let addr := tgt * 4096 + (o - w)
      let r : InReq := ⟨0, if write then .write else .read, addr, n, k, sec, ro, if write then data else 0, ep && write, rangeLines addr n, [], false, some i, reqId⟩
      if (s.link p 0).reset ≠ .none then no s cUrDecode
      else if w + 2 ^ s.rf F.IOP_EP_XLAT_SIZE_LOG2 p i < o + n then (no s cXlatSplit).bump F.IOP_EP_XCOMMIT_MISS p
      else if !(if write then s.on F.IOP_EP_XLAT_WRITE p i else s.on F.IOP_EP_XLAT_READ p i) then (no s cXlatPerm).bump F.IOP_EP_XCOMMIT_MISS p
      else match s.rf F.IOP_EP_XLAT_TYPE p i with
      | 0 => match regionOf addr with
        | .dram _ => s.inPut p 0 r
        | _ => no s cXlatTarget
      | 1 => if write then s.inPut p 0 { r with kind := .doorbell (tgt % 512), todo := [], addr := a } else no s cXlatTarget
      | _ => if write && (n = 4 || n = 8) then s.inPut p 0 { r with kind := .msg k (data % 4096), todo := [] } else no s cXlatTarget

/-- The requests translated under the replaced entry that are still under way (R464). -/
def Sys.oldBusy (s : Sys) (p : Nat) : Bool := (s.ep p).old.any (fun id => (s.link p 0).inq.any (fun r => r.id = id))

/-- A write of IOP_EP_XCOMMIT (R464). -/
def Sys.xcommitWrite (s : Sys) (p : Nat) (v : Word) : Sys :=
  if !s.isEp p then s
  else
    let s := s.when (fget v 61 1 == 1) (fun s => s.put F.IOP_EP_XCOMMIT_CMD_ERR 0 p)
    let s := s.when (fget v 60 1 == 1) (fun s => s.put F.IOP_EP_XCOMMIT_XLAT_ERR 0 p)
    let s := s.put F.IOP_EP_XCOMMIT_INDEX (fget v 0 6) p
    if fget v 63 1 = 0 then s
    else
      let i := fget v 0 6
      let sh := s.rd ⟨.IOP_EP_XSH, p, i⟩
      let sz := fget sh F.IOP_EP_XLAT_SIZE_LOG2.lo 6
      let bad := fget sh 63 1 == 1 &&
        (decide (sz < 12) || decide (38 < sz) || fget sh F.IOP_EP_XLAT_OFFSET.lo 26 * 4096 % 2 ^ sz != 0 || !s.barOn p (fget sh F.IOP_EP_XLAT_BAR.lo 3) ||
          !(s.conf.kennel (fget sh F.IOP_EP_XLAT_KENNEL.lo 4)).enabled)
      if s.on F.IOP_EP_XCOMMIT_OLD_BUSY p || bad then s.put F.IOP_EP_XCOMMIT_CMD_ERR 1 p
      else
        let old := ((s.link p 0).inq.filter (fun r => r.entry = some i)).map (·.id)
        let s := (s.wr ⟨.IOP_EP_XLAT, p, i⟩ sh).wr ⟨.IOP_EP_XLAT_TGT, p, i⟩ (s.rd ⟨.IOP_EP_XSH_TGT, p, i⟩)
        (s.onEp p (fun e => { e with old := old })).put F.IOP_EP_XCOMMIT_OLD_BUSY (b2n (!old.isEmpty)) p

/-- The last request of the replaced entry has completed (R464). -/
def Sys.xlatDrained (s : Sys) (p : Nat) : Sys :=
  if s.on F.IOP_EP_XCOMMIT_OLD_BUSY p && !s.oldBusy p then (s.onEp p (fun e => { e with old := [] })).put F.IOP_EP_XCOMMIT_OLD_BUSY 0 p else s

/-- A direct write of an active entry (R464). -/
def Sys.xlatWrite (s : Sys) (k : RK) (v : Word) : Sys :=
  if !s.isEp k.i then s
  else if s.on F.IOP_EP_XLAT_ENABLE k.i k.j then s.put F.IOP_EP_XCOMMIT_XLAT_ERR 1 k.i
  else s.wr k (accWrite k.reg.rows s.isSealed (s.rd k) v)

/-- The host writes the function's configuration space (R454, R460 to R462). -/
def Sys.hostWrite (s : Sys) (p : Nat) (w : HostWrite) : Sys :=
  if !(s.isEp p && s.linkTakes p 0) then s
  else
  let s := s.lkWake p 0
  match w with
  | .command mem bme dis =>
    let s := ((s.put F.IOP_EP_STATUS_MEM_EN (b2n mem) p).put F.IOP_EP_STATUS_BME (b2n bme) p).put F.IOP_EP_STATUS_INTX_DIS (b2n dis) p
    ((s.put F.IOP_LINK_STATUS_BME (b2n bme) p 0).epIntx p).epMsi p
  | .msi en n a d =>
    let s := (s.put F.IOP_EP_STATUS_MSI_EN (b2n en) p).put F.IOP_EP_STATUS_MSI_VECTORS n.val p
    (s.onEp p (fun e => { e with msiAddr := a.toNat, msiData := d.toNat })).epMsi p
  | .mask m => (s.onEp p (fun e => { e with masks := m.toNat })).epMsi p
  | .bar b a => s.onEp p (fun e => { e with bars := Bank.set e.bars b.val (a.toNat - a.toNat % 2 ^ s.rf F.IOP_EP_BAR_SIZE_LOG2 p b) })

/-- The host clears Bus Master Enable (R454). -/
def Sys.hostBmeClear (s : Sys) (p : Nat) : Sys :=
  s.hostWrite p (.command (s.on F.IOP_EP_STATUS_MEM_EN p) false (s.on F.IOP_EP_STATUS_INTX_DIS p))

/-! ## Kennel reset, ownership, heel, time (R446, R469 to R471) -/

/-- A kennel reset of a link's owner begins on the link (R469). -/
def Sys.linkKreset (s : Sys) (p j : Nat) : Sys :=
  let s := (s.onLink p j (fun l => { l with reset := .waiting })).intxTo p j 0
  let s := if s.isEp p then s.resetSome .kennel (fun k => k.i == p && (k.reg == .IOP_EP_MSI || k.reg == .IOP_EP_INTX)) else s
  s.inPump p j

/-- The links of a kennel whose part of a kennel reset has not ended. -/
def Sys.linksResetting (s : Sys) (k : Nat) : Bool := s.links.any (fun q => q.2.reset != .none && s.linkKennel q.1.1 q.1.2 == k)

/-- A kennel reset reaches the kennel's links. -/
def Sys.linksKreset (s : Sys) (k : Nat) : Sys :=
  s.each ((below 8).flatMap (fun p => (below 4).map (fun j => (p, j)))) (fun s q =>
    if s.hasLink q.1 q.2 && ((s.conf.port q.1).kennels[q.2]?).getD 0xFF == k then s.linkKreset q.1 q.2 else s)

/-- A link's owner or world changes at a commit (R471). -/
def Sys.linkOwner (s : Sys) (p j : Nat) : Sys :=
  ((s.put F.IOP_LINK_CTL_P2P_EN 0 p j).put F.IOP_LINK_CTL_INTX_EN 0 p j).intxTo p j 0

/-- Every link enters HEEL (R467, R470). -/
def Sys.linksHeel (s : Sys) : Sys :=
  s.each ((below 8).flatMap (fun p => (below 4).map (fun j => (p, j)))) (fun s q => if s.hasLink q.1 q.2 then s.lkTo q.1 q.2 lkHeel else s)

/-- A port's registers show its image record (R467, R472). -/
def Sys.portApply (s : Sys) (p : Nat) : Sys :=
  let c := s.conf.port p
  let s := (((s.put F.IOP_CFG_ROLE c.role p).put F.IOP_CFG_BIFURC c.bifurc p).put F.IOP_CFG_MAX_GEN c.maxGen p).put F.IOP_CFG_LINKS
    (if c.role = 0 then 0 else linksOf c.bifurc) p
  s.each (below 4) (fun s j =>
    let s := (s.put F.IOP_LINK_STATUS_KENNEL (((c.kennels[j]?).getD 0xFF) % 16) p j).put F.IOP_LINK_STATUS_WORLD_S (b2n (bit c.world j)) p j
    if c.role = 0 then s.lkTo p j lkOff else s)

/-- A link answers a PTM request with the socket's time in ns (R446). -/
def Sys.ptm (s : Sys) (p j : Nat) : Sys :=
  if s.isRoot p && s.linkTakes p j then s.lkSend p j (.ptm (s.span.now * 25 / 32)) else s

/-- An answer on its way to a port reaches it (R308). -/
def Sys.portCompletion (s : Sys) (p j l : Nat) : Sys :=
  match takeMsg (Msg.isReply (.port p j) l) s.msgs with
  | some (.reply _ _ d q err, rest) => ({ s with msgs := rest } : Sys).inReply p j l d q err
  | _ => s

/-! ## Commands -/

/-- The port of this socket that an address of a window or of configuration space names. -/
def Sys.portOfPa (s : Sys) (pa : Nat) : Option Nat :=
  match regionOf pa with
  | .window z => if z = s.socket then some ((pa - portWindow z 0) / 0x100000000000) else none
  | .ecam z => if z = s.socket then some ((pa - portSegment z 0) / 0x10000000) else none
  | _ => none

/-- A new request of a port, which waits while a reflow holds a moving link of it (R104). -/
def Sys.atPort (s : Sys) (p : Option Nat) (f : Sys → Sys) : Sys := if p.any s.portHeld then s else f s

def execOutboundRead (who : ReqSrc) (pa : PAddr) (n : Fin 65) (peer : Option (BitVec 512)) (s : State) : Host.Outcome State Fault Refusal :=
  onSys (fun s => s.atPort (s.portOfPa pa.toNat) (fun s => s.outRead who pa.toNat n peer)) s
def execOutboundWrite (who : ReqSrc) (pa : PAddr) (n : Fin 65) (data : BitVec 512) (s : State) : Host.Outcome State Fault Refusal :=
  onSys (fun s => s.atPort (s.portOfPa pa.toNat) (fun s => s.outWrite who pa.toNat n (data.toNat % 2 ^ (8 * n.val)))) s
def execConfigRead (who : ReqSrc) (pa : PAddr) (size : Size) (peer : Option (BitVec 512)) (s : State) : Host.Outcome State Fault Refusal :=
  onSys (fun s => s.atPort (s.portOfPa pa.toNat) (fun s => s.cfgRead who pa.toNat size.bytes peer)) s
def execConfigWrite (who : ReqSrc) (pa : PAddr) (size : Size) (data : Word) (s : State) : Host.Outcome State Fault Refusal :=
  onSys (fun s => s.atPort (s.portOfPa pa.toNat) (fun s => s.cfgWrite who pa.toNat size.bytes data.toNat)) s
def execPcieCompletion (p : Fin 8) (j : Fin 4) (place : Nat) (result : CplResult) (s : State) : Host.Outcome State Fault Refusal :=
  onSys (fun s => s.pcieCpl p j place result) s
def execCplTimeout (p : Fin 8) (j : Fin 4) (place : Nat) (s : State) : Host.Outcome State Fault Refusal := onSys (fun s => s.cplTimeout p j place) s
def execInboundMemRead (p : Fin 8) (j : Fin 4) (addr : Word) (n : Fin 4097) (ro bad : Bool) (reqId : BitVec 16) (s : State) :
    Host.Outcome State Fault Refusal := onSys (fun s => s.atPort (some p.val) (fun s => s.inbound p j false addr.toNat n 0 false ro bad reqId.toNat)) s
def execInboundMemWrite (p : Fin 8) (j : Fin 4) (addr : Word) (n : Fin 4097) (data : Nat) (ep ro bad : Bool) (reqId : BitVec 16) (s : State) :
    Host.Outcome State Fault Refusal := onSys (fun s => s.atPort (some p.val) (fun s => s.inbound p j true addr.toNat n data ep ro bad reqId.toNat)) s
def execMsiWrite (p : Fin 8) (j : Fin 4) (offset : BitVec 12) (n : Fin 4097) (data : Nat) (reqId : BitVec 16) (s : State) :
    Host.Outcome State Fault Refusal := onSys (fun s => s.atPort (some p.val) (fun s => s.inbound p j true (0xFE00000000000 + offset.toNat) n data false false false reqId.toNat)) s
def execAssertIntx (p : Fin 8) (j : Fin 4) (wire : Fin 4) (s : State) : Host.Outcome State Fault Refusal := onSys (fun s => s.intxMessage p j wire true) s
def execDeassertIntx (p : Fin 8) (j : Fin 4) (wire : Fin 4) (s : State) : Host.Outcome State Fault Refusal := onSys (fun s => s.intxMessage p j wire false) s
def execBmeClear (who : ReqSrc) (p : Fin 8) (j : Fin 4) (s : State) : Host.Outcome State Fault Refusal := onSys (fun s => s.bmeClear who p j) s
def execHostBmeClear (p : Fin 8) (s : State) : Host.Outcome State Fault Refusal := onSys (fun s => s.hostBmeClear p) s
def execEpInbound (p : Fin 8) (write : Bool) (addr : Word) (n : Fin 4097) (data : Nat) (ep ro : Bool) (reqId : BitVec 16) (s : State) :
    Host.Outcome State Fault Refusal := onSys (fun s => s.atPort (some p.val) (fun s => s.epInbound p write addr.toNat n data ep ro reqId.toNat)) s
def execXlatOldDrainDone (p : Fin 8) (s : State) : Host.Outcome State Fault Refusal := onSys (fun s => s.xlatDrained p) s
def execLinkUp (p : Fin 8) (j : Fin 4) (speed : Fin 7) (width : Fin 17) (cxl : Bool) (s : State) : Host.Outcome State Fault Refusal :=
  onSys (fun s => s.linkUpEvent p j speed width cxl) s
def execLinkLost (p : Fin 8) (j : Fin 4) (ev : LinkEvent) (dpc : Bool) (s : State) : Host.Outcome State Fault Refusal :=
  onSys (fun s => s.linkEvent p j ev dpc) s
def execL1Entry (p : Fin 8) (j : Fin 4) (s : State) : Host.Outcome State Fault Refusal := onSys (fun s => s.l1Entry p j) s
def execL1Exit (p : Fin 8) (j : Fin 4) (s : State) : Host.Outcome State Fault Refusal := onSys (fun s => s.l1Exit p j) s
def execHotResetEnd (p : Fin 8) (j : Fin 4) (s : State) : Host.Outcome State Fault Refusal := onSys (fun s => s.hotResetEnd p j) s
def execPerstInput (p : Fin 8) (level : Bool) (s : State) : Host.Outcome State Fault Refusal := onSys (fun s => s.perstInput p level) s
def execHostCommandWrite (p : Fin 8) (what : HostWrite) (s : State) : Host.Outcome State Fault Refusal := onSys (fun s => s.hostWrite p what) s
def execPtmRequest (p : Fin 8) (j : Fin 4) (s : State) : Host.Outcome State Fault Refusal := onSys (fun s => s.ptm p j) s
def execGrainChunkGrant (stop : Fin 80) (kennel : Fin 16) (s : State) : Host.Outcome State Fault Refusal :=
  onSys (fun s => (s.chunkGrant stop kennel).inPumpAll) s

end Sys2Proof.Machine
end

