-- ==== Sys2Proof/Machine/Own.lean ====
section
/-!
DEFINITION. Kennel stop and reset, secure hold counts and deferred requests, and the OWN block (ch. 10).
-/
namespace Sys2Proof.Machine

/-! ## Stop and reset of a kennel (R377, R378) -/

/-- A uop of a hart that has begun an I/O access, an AMO, LR or SC, which completes before the hart halts (R203, R378). -/
def Uop.underWay (u : Uop) : Bool := (u.issued && u.isIo) || (u.isAmo && (u.done || u.issued))

/-- A hart takes no further instruction: its unretired instructions are squashed but for what it has issued (R378 step 1, R567). -/
def Sys.hartHalt (s : Sys) (h : Nat) : Sys :=
  if [psStopped, psResetHeld, psOffline, psHalted].contains (s.coreState h) then s
  else
    let rob := (s.hart h).rob
    let keep := (((List.range rob.length).reverse.find? (fun i => (rob[i]?).any Uop.underWay)).map (· + 1)).getD 0
    ((s.squash h keep).coreTo h psHalted).packCheck (h / 4)

def Sys.kennelHalt (s : Sys) (k : Nat) : Sys := s.each (s.kennelHarts k) Sys.hartHalt

/-- A kennel is told to stop (R377), by a write (cause 1), C4 (3) or an empty live mask (4). -/
def Sys.kennelStop (s : Sys) (k cause : Nat) : Sys :=
  let st := s.kState k
  if st = kDisabled || st = kResetting then s.when (cause == 1) (fun s => s.put F.SYS_KCTL_CMD_ERR 1 k)
  else if st = kRunning || st = kHeld then
    (((s.kTo k kStopping).put F.SYS_KCTL_CAUSE cause k).put F.SYS_KCTL_STOP 1 k).kennelHalt k
  else s

/-- A kennel reset begins with its halt (R378). -/
def Sys.kresetStart (s : Sys) (k cause : Nat) : Sys :=
  let s := (((s.kTo k kResetting).put F.SYS_KCTL_CAUSE cause k).put F.SYS_KCTL_RESET 1 k).put F.SYS_KCTL_STOP 0 k
  let s := (s.releaseCancel k).kennelHalt k
  { s with kresets := Bank.set s.kresets k .halting }

/-- A kennel is told to reset, by a write (cause 1) or by itself (2); one that a reflow concerns waits (R104, R377). -/
def Sys.kennelReset (s : Sys) (k cause : Nat) : Sys :=
  let st := s.kState k
  if st = kDisabled || st = kResetting || (Bank.get? s.kresets k).isSome then s.when (cause == 1) (fun s => s.put F.SYS_KCTL_CMD_ERR 1 k)
  else if s.kennelConcerned k then { s.put F.SYS_KCTL_RESET 1 k with kresets := Bank.set s.kresets k (.held cause) }
  else s.kresetStart k cause

/-- The kennel resets that a commit window held begin at its end (R104); one whose kennel is DISABLED now is refused. -/
def Sys.kresetsHeld (s : Sys) : Sys :=
  s.each s.kresets (fun s (p : Nat × KReset) => match p.2 with
    | .held cause =>
      let s := { s with kresets := Bank.erase s.kresets p.1 }
      if s.kState p.1 = kDisabled then (s.put F.SYS_KCTL_RESET 0 p.1).put F.SYS_KCTL_CMD_ERR 1 p.1 else s.kresetStart p.1 cause
    | _ => s)

/-- Steps 3 and 4 of R378 for a core of the kennel, and the K values of its tile's registers; an OFFLINE core stays OFFLINE. -/
def Sys.coreKReset (s : Sys) (h : Nat) : Sys :=
  let n := h / 4
  let c := h % 4
  let offline := s.coreState h == psOffline
  let went := s.on F.TILE_CORE_START_GO n c
  let s := if offline then s else (s.hartKReset h).onCpwr h (fun _ => CorePwr.idle)
  let s := (s.resetReg .kennel ⟨.TILE_CORE_PWR, n, c⟩).resetReg .kennel ⟨.TILE_CORE_START, n, c⟩
  let s := s.when went (fun s => s.put F.TILE_CORE_START_ERR 1 n c)
  s.when offline (fun s => s.coreTo h psOffline)

/-- The K values of a tile's pack and hold count (R402, R570). -/
def Sys.tileKReset (s : Sys) (n : Nat) : Sys :=
  let s := (s.resetReg .kennel ⟨.TILE_PACK_FREQ, n, 0⟩).resetReg .kennel ⟨.PWR_SHOLD, n, 0⟩
  let s := s.onPwr (fun p => { p with reqMhz := Bank.erase p.reqMhz n, deferred := p.deferred.filter (fun d => d.station ≠ n) })
  s.packCheck n

/-- Steps 3 to 5 of R378. -/
def Sys.kresetUnits (s : Sys) (k : Nat) : Sys :=
  let s := (s.dropHeld k).each (s.kennelHarts k) Sys.coreKReset
  let s := s.each (s.kennelTiles k) Sys.tileKReset
  let s := { s with icn := { s.icn with inReset := k :: s.icn.inReset.erase k }, kresets := Bank.set s.kresets k .units }
  (s.rtvKennelReset k).linksKreset k

/-- KENNEL_RESET_DONE (R377, R378): every step has ended and the kennel is HELD. -/
def Sys.kresetDone (s : Sys) (k : Nat) : Sys :=
  if Bank.get? s.kresets k = some .units && !s.linksResetting k && s.rtvResetDone k then
    let s := ({ s with kresets := Bank.erase s.kresets k }).icnDomainReset k
    (s.put F.SYS_KCTL_RESET 0 k).kTo k kHeld
  else s

/-! ## Requested states and hold counts (R402, R403) -/

/-- The station of a register with a requested-state field. -/
def RK.holdStation (k : RK) : Option Nat :=
  match k.reg with
  | .TILE_CORE_PWR | .TILE_PACK_FREQ | .TILE_CORE_START | .TILE_CORE_TEST => some k.i
  | .MC_CTL => some (64 + k.i)
  | .IOP_LINK_CTL => some (80 + k.i)
  | .RTV_ENG_CTL => some (91 + k.i)
  | _ => none

/-- The requested-state fields of a register (R403). -/
def Reg.reqFields : Reg → List Fld
  | .TILE_CORE_PWR => [F.TILE_CORE_PWR_UNIT_RESET, F.TILE_CORE_PWR_REQ]
  | .TILE_PACK_FREQ => [F.TILE_PACK_FREQ_REQ_MHZ]
  | .TILE_CORE_START => [F.TILE_CORE_START_GO]
  | .TILE_CORE_TEST => [F.TILE_CORE_TEST_OFFLINE]
  | .MC_CTL => [F.MC_CTL_SR, F.MC_CTL_PWR_OFF]
  | .IOP_LINK_CTL => [F.IOP_LINK_CTL_PWR_REQ]
  | .RTV_ENG_CTL => [F.RTV_ENG_CTL_RESET, F.RTV_ENG_CTL_PWR_REQ]
  | _ => []

/-- A write changes a requested-state field: a stored one, or a command bit that it sets. -/
def Sys.reqChanges (s : Sys) (k : RK) (v : Word) : Bool :=
  k.reg.reqFields.any (fun f => fget v f.lo f.wd != fget (s.rd k) f.lo f.wd &&
    (fget v f.lo f.wd != 0 || [F.TILE_CORE_PWR_REQ, F.TILE_PACK_FREQ_REQ_MHZ, F.MC_CTL_PWR_OFF, F.IOP_LINK_CTL_PWR_REQ, F.RTV_ENG_CTL_PWR_REQ].contains f))

/-- The requested-state fields of a register take the values of a write. -/
def Sys.reqShow (s : Sys) (k : RK) (v : Word) : Sys :=
  s.wr k (k.reg.reqFields.foldl (fun w f => fput w f.lo f.wd (fget v f.lo f.wd)) (s.rd k))

/-- The requested state of a write is applied (R403, R565, R569, R570, R371, R467, R490), but for OFFLINE of a core. -/
def Sys.reqDo (s : Sys) (k : RK) (v : Word) (secure : Bool) : Sys :=
  let h := 4 * k.i + k.j
  match k.reg with
  | .TILE_CORE_PWR =>
    let s := (s.put F.TILE_CORE_PWR_UNIT_RESET 0 k.i k.j).put F.TILE_CORE_PWR_REQ (fget v 0 3) k.i k.j
    let s := s.when (fget v 63 1 == 1) (fun s => s.unitReset h)
    if (s.cpwr h).req = (if [2, 3, 4, 7].contains (fget v 0 3) then fget v 0 3 else 0) then s else s.reqForce h (fget v 0 3)
  | .TILE_PACK_FREQ => (s.put F.TILE_PACK_FREQ_REQ_MHZ (fget v 0 12) k.i).freqRequest k.i (fget v 0 12)
  | .TILE_CORE_START => if fget v 63 1 = 1 then (s.put F.TILE_CORE_START_GO 0 k.i k.j).coreStart h secure else s
  | .MC_CTL =>
    let s := s.when (fget v F.MC_CTL_SR.lo 1 == 1) (fun s => (s.put F.MC_CTL_SR 0 k.i).mcSr k.i)
    s.mcPwrOff k.i (fget v F.MC_CTL_PWR_OFF.lo 1)
  | .IOP_LINK_CTL => (s.put F.IOP_LINK_CTL_PWR_REQ (fget v F.IOP_LINK_CTL_PWR_REQ.lo 1) k.i k.j).linkPower k.i k.j (fget v F.IOP_LINK_CTL_PWR_REQ.lo 1 == 1)
  | .RTV_ENG_CTL =>
    let s := s.when (fget v F.RTV_ENG_CTL_RESET.lo 1 == 1) (fun s => (s.put F.RTV_ENG_CTL_RESET 0 k.i).engReset k.i)
    (s.put F.RTV_ENG_CTL_PWR_REQ (fget v F.RTV_ENG_CTL_PWR_REQ.lo 1) k.i).engPower k.i (fget v F.RTV_ENG_CTL_PWR_REQ.lo 1 == 1)
  | _ => s

/-- The requested state of a write is applied (R403, R536). -/
def M.reqApply (x : M) (k : RK) (v : Word) (secure : Bool) : M :=
  if k.reg = .TILE_CORE_TEST then
    (if fget v 63 1 = 1 then (x.on (fun s => s.put F.TILE_CORE_TEST_OFFLINE (b2n (s.rf F.TILE_CORE_TEST_STATE k.i k.j == 1)) k.i k.j)).coreOffline (4 * k.i + k.j) else x)
  else x.on (fun s => s.reqDo k v secure)

/-- A world-N write of a requested state meets a nonzero hold count (R403): it shows, is recorded and waits. -/
def Sys.reqDefer (s : Sys) (st : Nat) (k : RK) (v : Word) (kennel : Nat) : Sys :=
  let s := s.reqShow k v
  let s := s.onPwr (fun p => { p with deferred := p.deferred.filter (fun d => d.key ≠ k) ++ [⟨st, k, v, kennel⟩] })
  (((s.put F.PWR_SHOLD_PENDING 1 st).put F.PWR_SHOLD_DEFERRED 1 st).put F.PWR_SHOLD_LAST_N_KENNEL kennel st).raise (srcGlobal 12)

/-- A world-S write discards a deferred value (R403). -/
def Sys.reqDrop (s : Sys) (st : Nat) (k : RK) : Sys :=
  let s := s.onPwr (fun p => { p with deferred := p.deferred.filter (fun d => d.key ≠ k) })
  s.put F.PWR_SHOLD_PENDING (b2n (s.pwr.deferred.any (fun d => d.station = st))) st

/-- The requested state of a write of a register (R403). -/
def M.reqWrite (x : M) (k : RK) (v : Word) (secure : Bool) (kennel : Nat) : M :=
  match k.holdStation with
  | none => x
  | some st =>
    if !secure && x.sys.holdCount st != 0 then (if x.sys.reqChanges k v then x.on (fun s => s.reqDefer st k v kennel) else x)
    else (x.on (fun s => s.reqDrop st k)).reqApply k v secure

/-- The count of a station has reached zero: what was deferred is applied (R403). A field that shows its value already is applied as
a change. -/
def M.holdZero (x : M) (st : Nat) : M :=
  let mine := x.sys.pwr.deferred.filter (fun d => d.station = st)
  let x := x.on (fun s => s.onPwr (fun p => { p with deferred := p.deferred.filter (fun d => d.station ≠ st) }))
  (mine.foldl (fun (x : M) d =>
    let x := if d.key.reg = .MC_CTL then x.on (fun s => s.put F.MC_CTL_PWR_OFF (1 - fget d.value F.MC_CTL_PWR_OFF.lo 1) d.key.i) else x
    x.reqApply d.key d.value false) x).on (fun s => s.put F.PWR_SHOLD_PENDING 0 st)

/-- A write of PWR_SHOLD (R402): W1C fields, then OP. -/
def M.sholdWrite (x : M) (st : Nat) (v : Word) (secure : Bool) : M :=
  if 109 ≤ st then x
  else
    let x := x.on (fun s => s.wr ⟨.PWR_SHOLD, st, 0⟩ (accWrite rows_PWR_SHOLD s.isSealed (s.rd ⟨.PWR_SHOLD, st, 0⟩) v))
    let op := fget v 32 2
    let n := x.sys.holdCount st
    if op = 0 then x
    else if !secure then x.on (fun s => s.put F.PWR_SHOLD_N_OP 1 st)
    else if op = 1 then x.on (fun s => if n = 255 then s.put F.PWR_SHOLD_SAT 1 st else s.put F.PWR_SHOLD_COUNT (n + 1) st)
    else if op = 2 then
      if n = 0 then x.on (fun s => s.put F.PWR_SHOLD_SAT 1 st)
      else
        let x := x.on (fun s => s.put F.PWR_SHOLD_COUNT (n - 1) st)
        if n = 1 then x.holdZero st else x
    else x

/-! ## The owner table (R382, R387, R389) -/

/-- A page's entry leaves every owner-table cache (R389); `none` for every entry. -/
def Sys.ocInvalidate (s : Sys) (page : Option Nat) : Sys :=
  let line := page.map (fun p => s.ownAddr (4096 * p) / 64)
  { s with slices := s.slices.map (fun (q : Nat × Slice) =>
      (q.1, { q.2 with oc := match line with | some l => q.2.oc.filter (fun e => e.line ≠ l) | none => [] })) }

/-- Every copy of a line is removed, dirty or not; the line's data is what is sent to memory. -/
def M.replaceLine (x : M) (l : Nat) (data : BitVec 512) (poison : Bool) : M :=
  let s := x.sys
  let n := ((s.slices.find? (fun (q : Nat × Slice) => (s.sfGet q.1 l).isSome || (s.sector q.1 l).isSome)).map (fun (q : Nat × Slice) => q.1)).getD 0
  let x := x.on (fun (s : Sys) =>
    let s := s.each (s.harts.map (fun (q : Nat × Hart) => q.1)) (fun s h => s.dropCopies h l)
    let s := { s with staging := s.staging.map (fun (q : Nat × List Stage) => (q.1, q.2.filter (fun g => g.line ≠ l))) }
    s.each (s.slices.map (fun (q : Nat × Slice) => q.1)) (fun s n =>
      if (s.sfGet n l).isSome || (s.sector n l).isSome then ((s.llcClear n l).sfDel n l).epochUp n l else s))
  x.sendWrite n l data poison

/-- The byte of the owner table for a page; none when it reads as poison or its channel does not answer with data (R395). -/
def M.tableByte (x : M) (page : Nat) : Option Nat :=
  let a := x.sys.ownAddr (4096 * page)
  let l := a / 64
  let s := x.sys
  let held := s.harts.any (fun (q : Nat × Hart) => (q.2.dirtyCopy l).isSome) || s.staging.any (fun q => q.2.any (fun g => g.line = l && g.dst)) ||
    s.slices.any (fun (q : Nat × Slice) => (s.llcLine q.1 l).isSome)
  let serves := match s.conf.locate (64 * l) with
    | some (m, ca, mir) => s.mcServes (s.readChan m ca mir) && s.mcState (s.readChan m ca mir) != mcOffline
    | none => false
  let (d, p) := x.peek l
  if p || !(held || serves) then none else some (lineByte d (a % 64))

/-- A byte of the owner table is written, and its owner-table cache entries are invalidated (R392). -/
def M.tablePut (x : M) (page b : Nat) : M :=
  let a := x.sys.ownAddr (4096 * page)
  let (d, p) := x.peek (a / 64)
  (x.replaceLine (a / 64) (linePut d (a % 64) 8 b) p).on (fun s => s.ocInvalidate (some page))

/-! ## Commands of the OWN block (R392 to R395) -/

def opSet : Nat := 1
def opRelease : Nat := 2

/-- The pages of the command in the registers: first page and count. -/
def Sys.ownFirst (s : Sys) : Nat := s.rf F.OWN_CMD_BASE_BASE
def Sys.ownPages (s : Sys) : Nat := s.rf F.OWN_CMD_PAGES
def Sys.ownNew (s : Sys) : Nat := s.rf F.OWN_CMD_NEW

/-- A region register, applied or pending, forbids the command (R395 code 4). -/
def Sys.regionBars (s : Sys) (first n new : Nat) : Bool :=
  let bad := fun (cfg lim : Word) =>
    fget cfg 63 1 == 1 && decide (fget cfg 12 40 < first + n) && decide (first < fget lim 12 40) && decide (fget cfg 12 40 < fget lim 12 40) &&
      (!bit new 0 || nget new 3 4 != fget cfg 56 4 || b2n (bit new 7) != fget cfg 62 1)
  (below 16).any (fun m => (below 32).any (fun i =>
    let now := Bank.getD s.regionNow (m, i) (0, 0)
    bad now.1 now.2 || bad (s.rd ⟨.MC_REGION_CFG, m, i⟩) (s.rd ⟨.MC_REGION_LIMIT, m, i⟩)))

/-- The code under which a command is refused (R395): 5 apart, which its writer meets first. -/
def M.ownRefusal (x : M) : Option Nat :=
  let s := x.sys
  let op := s.rf F.OWN_CMD_OP
  let n := s.ownPages
  let first := s.ownFirst
  let new := s.ownNew
  let base := s.socket * dramWindow / 4096
  if op = 0 || op = 3 then some 7
  else if n = 0 || first < base || base + s.rf F.OWN_TABLE_PAGES_PAGES < first + n then some 1
  else if bit new 2 || (bit new 0 && !(s.conf.kennel (nget new 3 4)).enabled) then some 2
  else if op = opSet && (below n).any (fun i => (x.tableByte (first + i)).any (fun b => bit b 0)) then some 3
  else if s.regionBars first n new then some 4
  else none

/-- The command ends: refused or stopped with a code, or, with code 0, in full. -/
def Sys.ownEnd (s : Sys) (code : Nat) : Sys :=
  let s := { s with own := { s.own with op := 0, purge := none, engine := none } }
  let s := ((s.put F.OWN_CMD_GO 0).put F.OWN_STATUS_BUSY 0).put F.OWN_STATUS_ERR code
  if code = 0 then s.put F.OWN_STATUS_DONE 1 else s.put F.OWN_STATUS_CMD_ERR 1

def Sys.pageDone (s : Sys) : Sys := s.put F.OWN_STATUS_DONE_PAGES (s.rf F.OWN_STATUS_DONE_PAGES + 1)

/-- SET writes the byte to each page in turn (R392). -/
def M.ownSet (x : M) : Nat → M
  | 0 => x.on (fun s => s.ownEnd 0)
  | k + 1 =>
    let page := x.sys.ownFirst + x.sys.rf F.OWN_STATUS_DONE_PAGES
    match x.tableByte page with
    | none => x.on (fun s => s.ownEnd 6)
    | some _ => ((x.tablePut page x.sys.ownNew).on Sys.pageDone).ownSet k

/-- The release queue of an engine in service takes a page to scrub, round robin (R394); with none in service the page waits. -/
def Sys.scrubAssign (s : Sys) (page : Nat) : Sys :=
  match s.engsUp with
  | [] => s
  | e :: es =>
    let i := ((e :: es).find? (fun i => decide (s.own.last < i))).getD e
    ({ s with own := { s.own with engine := some i, last := i } }).onEng i (fun t => { t with relq := t.relq ++ [page] })

/-- RELEASE comes to its next page (R392): a page not owned is done at once; the purge of another begins with steps 2 and 3. -/
def M.ownNext (x : M) : Nat → M
  | 0 => x.on (fun s => s.ownEnd 0)
  | k + 1 =>
    let page := x.sys.ownFirst + x.sys.rf F.OWN_STATUS_DONE_PAGES
    match x.tableByte page with
    | none => x.on (fun s => s.ownEnd 6)
    | some b =>
      if !bit b 0 then ((x.tablePut page x.sys.ownNew).on Sys.pageDone).ownNext k
      else
        let scrub := x.sys.on F.OWN_CMD_SCRUB || bit b 1
        let x := x.tablePut page 0
        x.on (fun s => ({ s with own := { s.own with page := page, purge := some b, engine := none } }).when scrub (fun s => s.scrubAssign page))

/-- A write of OWN_CMD (R392, R395, R406). -/
def M.ownCmd (x : M) (v : Word) : M :=
  let s := x.sys
  let k : RK := ⟨.OWN_CMD, 0, 0⟩
  if s.on F.OWN_CMD_GO then
    x.on (fun s => s.when (fget v 63 1 == 1) (fun s => (s.put F.OWN_STATUS_CMD_ERR 1).put F.OWN_STATUS_ERR 5))
  else
    let x := x.on (fun s => s.wr k (fput (accWrite rows_OWN_CMD s.isSealed (s.rd k) v) 63 1 0))
    if fget v 63 1 = 0 then x
    else
      let x := x.on (fun s => ((s.put F.OWN_STATUS_DONE_PAGES 0).put F.OWN_STATUS_DONE 0).put F.OWN_STATUS_ERR 0)
      match x.ownRefusal with
      | some code => x.on (fun s => s.ownEnd code)
      | none =>
        let op := x.sys.rf F.OWN_CMD_OP
        let x := x.on (fun s => { (s.put F.OWN_CMD_GO 1).put F.OWN_STATUS_BUSY 1 with own := { s.own with op := op } })
        if op = opSet then x.ownSet x.sys.ownPages else x.ownNext x.sys.ownPages

/-- Nothing of a page is under way: no active transaction, and no fill or grant on its way to a core (R393). -/
def Sys.pageQuiet (s : Sys) (page : Nat) : Bool :=
  !(s.slices.any (fun (q : Nat × Slice) => q.2.txns.any (fun t => t.req.line / 64 = page ∧ t.st ≠ .waitLine))) &&
  !(s.msgs.any (fun m => match m with
    | .fill f => f.line / 64 == page
    | .grant _ l _ _ => l / 64 == page
    | .reply _ l _ _ _ => l / 64 == page
    | _ => false))

/-- Dirty data of a line that a core has offered and the home agent has not taken yet (R304). -/
def Sys.offersOf (s : Sys) (l : Nat) : List Req :=
  let mine := fun (r : Req) => r.kind == .offer && r.line == l
  (s.msgs.filterMap (fun m => match m with | .req _ r => some r | .retry _ r => some r | .retryDest _ r => some r | _ => none) ++
    s.stops.flatMap (fun (q : Nat × Stop) => q.2.held ++ q.2.retried.map (fun (p : Nat × Req) => p.2))).filter mine

def Sys.dropOffers (s : Sys) (l : Nat) : Sys :=
  let mine := fun (r : Req) => r.kind == .offer && r.line == l
  { s with
    msgs := s.msgs.filter (fun m => match m with | .req _ r | .retry _ r | .retryDest _ r => !mine r | _ => true)
    stops := s.stops.map (fun (q : Nat × Stop) =>
      (q.1, { q.2 with held := q.2.held.filter (fun r => !mine r), retried := q.2.retried.filter (fun (p : Nat × Req) => !mine p.2) })) }

/-- The purge of a line (R392, R393): a zero write, or a flush. -/
def M.purgeLine (x : M) (scrub : Bool) (l : Nat) : M :=
  let offer := (x.sys.offersOf l).find? (fun r => r.dirty || r.poison)
  let x := x.on (fun s => s.dropOffers l)
  if scrub then x.replaceLine l 0 false
  else match offer with
    | some r => x.replaceLine l r.data r.poison
    | none => x.flushLine l

/-- RELEASE_PAGE_DONE (R392): the purge of the page has ended; step 5, and the next page begins. -/
def M.releasePageDone (x : M) : M :=
  let o := x.sys.own
  match o.purge with
  | none => x
  | some b =>
    let scrub := x.sys.on F.OWN_CMD_SCRUB || bit b 1
    -- a page whose engine has left service goes to another
    let x := if scrub && o.engine.isNone then x.on (fun s => s.scrubAssign o.page) else x
    if (scrub && x.sys.own.engine.isNone) || !x.sys.pageQuiet o.page then x
    else
      let x := (below 64).foldl (fun x i => x.purgeLine scrub (64 * o.page + i)) x
      let x := x.on (fun s => match s.own.engine with
        | some e => (s.onEng e (fun t => { t with relq := t.relq.erase o.page })).engPick e
        | none => s)
      let x := (x.tablePut o.page x.sys.ownNew).on (fun s => { s.pageDone with own := { s.own with purge := none, engine := none } })
      x.ownNext (x.sys.ownPages - x.sys.rf F.OWN_STATUS_DONE_PAGES)

/-- A write of OWN_INV (R389): with GO, the entries it covers are invalid from now on. -/
def Sys.ownInvWrite (s : Sys) (v : Word) : Sys :=
  let k : RK := ⟨.OWN_INV, 0, 0⟩
  let s := s.wr k (accWrite rows_OWN_INV s.isSealed (s.rd k) v)
  s.when (fget v 63 1 == 1) (fun s => s.ocInvalidate (if fget v 62 1 = 1 then none else some (fget v 12 40)))

/-- OWN_INV_DONE (R389). -/
def Sys.ownInvDone (s : Sys) : Sys := s.put F.OWN_INV_GO 0

/-- A write of OWN_DENY (R406). -/
def Sys.denyWrite (s : Sys) (v : Word) : Sys :=
  if fget v 63 1 = 1 then ((s.put F.OWN_DENY_VALID 0).put F.OWN_DENY_MORE 0).put F.OWN_DENY_COUNT 0 else s

/-- A write of a region register (R398, R399): the shadow changes and waits for the tick. -/
def Sys.regionWrite (s : Sys) (k : RK) (v : Word) : Sys :=
  (s.wr k (accWrite k.reg.rows s.isSealed (s.rd k) v)).put F.MC_REGION_CFG_PENDING 1 k.i k.j

/-- At the span tick every home agent loads the pending region registers (R398). -/
def Sys.regionTick (s : Sys) : Sys :=
  s.each (s.regs.filterMap (fun (q : RK × Word) => if q.1.reg = .MC_REGION_CFG ∧ fget q.2 F.MC_REGION_CFG_PENDING.lo 1 = 1 then some q.1 else none))
    (fun s (k : RK) =>
      let s := s.put F.MC_REGION_CFG_PENDING 0 k.i k.j
      { s with regionNow := Bank.set s.regionNow (k.i, k.j) (s.rd ⟨.MC_REGION_CFG, k.i, k.j⟩, s.rd ⟨.MC_REGION_LIMIT, k.i, k.j⟩) })

/-! ## Commands -/

def execKennelResetDone (k : Fin 16) (s : State) : Host.Outcome State Fault Refusal := onSys (fun s => s.kresetDone k) s
def execOwnInvDone (s : State) : Host.Outcome State Fault Refusal := onSys Sys.ownInvDone s
def execReleasePageDone (s : State) : Host.Outcome State Fault Refusal := onM M.releasePageDone s

end Sys2Proof.Machine
end

