-- ==== Sys2Proof/Machine/Faults.lean ====
section
/-!
DEFINITION. The fault collector: events, reactions, containment, the heel state, injection and core self-test (ch. 15).
-/
namespace Sys2Proof.Machine

/-! ## Sources -/

/-- The class of a source as FCR_CLASS holds it (R518, R525). -/
def Sys.srcClass (s : Sys) (src : Nat) : Nat :=
  match srcInfo src with
  | none => 0
  | some i => if i.fixed then 5 else fget (s.rd ⟨.FCR_CLASS, src / 16, 0⟩) (4 * (src % 16)) 3

/-- The owner of an event now (R524): the tile's kennel, the link's owner, the platform. -/
def Sys.eventOwner (s : Sys) (e : Event) : Nat :=
  if e.src < 768 then s.tileKennel (e.src / 12)
  else if 1024 ≤ e.src ∧ e.src < 1088 then s.linkKennel ((e.src - 1024) / 8) e.sub
  else 15

/-- The station of the unit that a source belongs to (R25, R518). -/
def eventStation (src : Nat) : Nat :=
  if src < 768 then src / 12
  else if src < 1024 then 64 + (src - 768) / 16
  else if src < 1088 then 80 + (src - 1024) / 8
  else if src < 1112 then 88 + (src - 1088) / 8
  else if src < 1120 then 91 + (src - 1112)
  else 104

/-! ## The heel state (R541 to R547) -/

/-- A running core stops: TILE_CORE_HALT is captured and its unretired instructions are squashed (R542 step 1). A core that was not running
keeps no capture of an earlier entry as VALID (R557). -/
def Sys.heelCore (s : Sys) (h : Nat) : Sys :=
  if s.coreState h ≠ psCs0 then (if s.on F.TILE_CORE_HALT_VALID (h / 4) (h % 4) then s.put F.TILE_CORE_HALT_VALID 0 (h / 4) (h % 4) else s)
  else
    let t := s.hart h
    let w : Word := fput (fput (fput (fput (fput 0 63 1 1) 62 1 (b2n (s.worldS h))) 60 2 t.priv) 59 1 (b2n t.virt)) 0 57 t.pc.toNat
    (s.wr ⟨.TILE_CORE_HALT, h / 4, h % 4⟩ w).squash h 0

/-- FAULT is pending in a domain (R525, R530). -/
def Sys.kpend (s : Sys) (d : Nat) : Sys := (s.put F.FCR_KPEND_PEND (s.rf F.FCR_KPEND_PEND ||| 2 ^ d)).icnSync d

/-- The socket enters the heel state (R541, R542); only the first cause counts. -/
def Sys.heel (s : Sys) (cause source : Nat) : Sys :=
  if s.heeled then s
  else
    let s := (((s.put F.FCR_HEEL_HEELED 1).put F.FCR_HEEL_COUNT (s.rf F.FCR_HEEL_COUNT + 1)).put F.FCR_HEEL_CAUSE cause).put F.FCR_HEEL_SOURCE source
    let s := s.put F.FCR_HEEL_SPAN_SPAN s.spanNo
    let s := s.each (below 256) Sys.heelCore
    let s := s.linksHeel
    let s := { s with fcr := { s.fcr with reactions := [], noticeSent := true } }
    let s := s.onPwr (fun p => { p with fatal := true })
    (s.icnSyncAll).kpend 15

/-- The collector's own storage fails a check (R538, R539): array 1 to 4. `sticky` says that the COLLECTOR bit can be set. -/
def Sys.collectorBad (s : Sys) (array : Nat) (sticky : Bool) : Sys :=
  let s := s.put F.FCR_HEEL_COLLECTOR_ARRAY array
  let s := { s with fcr := { s.fcr with injected := none } }
  let s := s.when sticky (fun s => s.wr ⟨.FCR_STICKY, 19, 0⟩ (fput (s.rd ⟨.FCR_STICKY, 19, 0⟩) 63 1 1))
  s.heel 2 0x7FF

/-- A check of one sticky register, when it is read or updated (R538). -/
def Sys.stickyCheck (s : Sys) (i : Nat) : Sys := if s.fcr.injected = some i then s.collectorBad 1 (i != 19) else s

/-! ## Events (R523, R526, R527) -/

/-- An event arrives at the collector: its sticky bit is set, and a reaction waits when its class asks for one. -/
def Sys.faultArrive (s : Sys) (src sub : Nat) : Sys :=
  match srcInfo src with
  | none => s
  | some _ =>
    let s := s.stickyCheck (src / 64)
    let k : RK := ⟨.FCR_STICKY, src / 64, 0⟩
    let was := fget (s.rd k) (src % 64) 1
    let s := s.wr k (fput (s.rd k) (src % 64) 1 1)
    let c := s.srcClass src
    if s.heeled || c = 0 || (c ≤ 2 && was = 1) then s
    else { s with fcr := { s.fcr with reactions := s.fcr.reactions ++ [(⟨src, sub⟩, s.eventOwner ⟨src, sub⟩)] } }

/-- FAULT_EVENT: an event that a unit has reported reaches the collector; where none is on its way, the unit detects it now. -/
def Sys.faultEvent (s : Sys) (src sub : Nat) : Sys :=
  ({ s with fcr := { s.fcr with events := s.fcr.events.erase ⟨src, sub⟩ } }).faultArrive src sub

/-! ## Reactions (R525, R531, R532) -/

/-- A link is contained (R532): it goes DOWN at once. -/
def Sys.linkContain (s : Sys) (p j : Nat) : Sys :=
  if s.linkUp p j || s.lkState p j == lkTraining then (s.linkEnd p j).lkTo p j lkDown else s

/-- The unit of a source leaves service (R519 to R521, R532). -/
def M.contain (x : M) (e : Event) : M :=
  match (srcInfo e.src).map (fun (i : SrcInfo) => i.unit) with
  | some .core => x.coreOffline (4 * (e.src / 12) + e.sub % 4)
  | some .slice => x.on (fun s => s.retireSlice (e.src / 12) 1)
  | some .channel => x.on (fun s => s.chanFault ((e.src - 768) / 16))
  | some .link => x.on (fun s => s.linkContain ((e.src - 1024) / 8) (e.sub % 4))
  | some .brace => x.on (fun s => s.braceDown ((e.src - 1088) / 8))
  | some .engine => x.on (fun s => s.engLost (e.src - 1112))
  | _ => x

/-- A containment that touches what a reflow concerns, between its vote and its tick, aborts the reflow (R104, R531). -/
def Sys.reactAbort (s : Sys) (e : Event) (owner : Nat) : Sys :=
  if [rfVoting, rfCommit].contains s.reflowState && (s.znx.concerned.contains (eventStation e.src) || s.kennelConcerned owner) then
    s.reflowAbort 4 0xFF
  else s

/-- The reaction of an event's class (R525). -/
def M.react (x : M) (e : Event) (owner : Nat) : M :=
  let c := x.sys.srcClass e.src
  let hasUnit := (srcInfo e.src).any (fun i => i.unit != .none)
  let note := fun (x : M) => x.on (fun s => (if owner = 15 then s else s.kpend owner).kpend 15)
  if c = 1 then x.on (fun s => s.kpend owner)
  else if c = 2 then x.on (fun s => s.kpend 15)
  else if c = 3 || c = 4 then
    let x := if hasUnit || (c = 4 && owner != 15) then x.on (fun s => s.reactAbort e owner) else x
    let x := note (if hasUnit then x.contain e else x)
    if c = 4 && owner != 15 then x.on (fun s => s.kennelStop owner 3) else x
  else if c = 5 then x.on (fun s => s.heel 1 e.src)
  else x

/-- FAULT_REACTION: the oldest waiting reaction is taken (R527); none in the heel state (R544). -/
def M.reaction (x : M) : M :=
  match x.sys.fcr.reactions with
  | [] => x
  | (e, owner) :: rest =>
    let x := x.on (fun s => { s with fcr := { s.fcr with reactions := rest } })
    if x.sys.heeled then x else x.react e owner

/-! ## The collector's walk, injection, the fallback, the heel notice -/

/-- COLLECTOR_WALK (R538): an injected fault is found, or an array that fails now. Whether the COLLECTOR bit's own storage passes is
open where the sticky bits fail. -/
def Sys.collectorWalk (s : Sys) (bad : Option Nat) : Sys :=
  match s.fcr.injected, bad with
  | some i, _ => s.stickyCheck i
  | none, some 0 => (s.usedFree).collectorBad 1 (s.freeVal 1 == 1)
  | none, some a => s.collectorBad (a + 1) true
  | none, none => s

/-- A write of FCR_INJECT (R540). -/
def Sys.injectWrite (s : Sys) (v : Word) : Sys :=
  if !s.on F.ZNX_FUSE_FACTORY_MODE then s
  else
    let s := s.put F.FCR_INJECT_SOURCE (fget v 0 11)
    let s := s.when (fget v 62 1 == 1 && decide (fget v 0 11 < 1280)) (fun s => { s with fcr := { s.fcr with injected := some (fget v 0 11 / 64) } })
    s.when (fget v 63 1 == 1) (fun s => s.faultArrive (fget v 0 11) 0)

/-- A write of FCR_HEEL (R541, R556): CMD by the Tether alone; DUMP_DONE. -/
def Sys.fcrHeelWrite (s : Sys) (v : Word) (tether : Bool) : Sys :=
  let s := s.when (fget v 47 1 == 1) (fun s => s.put F.FCR_HEEL_DUMP_DONE 1)
  if tether && fget v 56 8 == 0xA5 then s.heel 3 0x7FF else s

/-- A write of FCR_STICKY (R523). -/
def Sys.stickyWrite (s : Sys) (i : Nat) (v : Word) : Sys :=
  let s := s.stickyCheck i
  s.wr ⟨.FCR_STICKY, i, 0⟩ (s.rd ⟨.FCR_STICKY, i, 0⟩ &&& ~~~ v)

/-- A write of FCR_KPEND (R530): the levels of the domains follow. -/
def Sys.kpendWrite (s : Sys) (v : Word) : Sys :=
  (s.wr ⟨.FCR_KPEND, 0, 0⟩ (accWrite rows_FCR_KPEND s.isSealed (s.rd ⟨.FCR_KPEND, 0, 0⟩) v)).icnSyncAll

/-- A write of FCR_CLASS (R556): per field, refused values leave it. -/
def Sys.classWrite (s : Sys) (i : Nat) (v : Word) : Sys :=
  if s.isSealed then s
  else s.each (below 16) (fun s j =>
    let src := 16 * i + j
    let c := fget v (4 * j) 3
    match srcInfo src with
    | some info =>
      if info.fixed || !classOk src c then s
      else { (s.wr ⟨.FCR_CLASS, i, 0⟩ (fput (s.rd ⟨.FCR_CLASS, i, 0⟩) (4 * j) 3 c)) with
          conf := { s.conf with reaction := Bank.set s.conf.reaction src c } }
    | none => s)

/-- HW_SR_FALLBACK (R545). -/
def Sys.hwSr (s : Sys) : Sys :=
  if s.heeled && !s.on F.FCR_HEEL_DUMP_DONE then
    let up := (below 16).filter (fun m => [mcActive, mcResilvering, mcEvacuated].contains (s.mcState m))
    (s.each up Sys.mcSr).put F.FCR_HEEL_HW_SR 1
  else s

/-- HEEL_NOTICE (R546): the peer has entered the heel state. -/
def Sys.heelNotice (s : Sys) (b : Nat) : Sys :=
  if s.rf F.BRC_STATUS_STATE b = brcUp && !s.heeled then s.raise (srcGlobal 6) else s

/-! ## Core self-test (R537) -/

/-- A write of LBIST. -/
def Sys.lbist (s : Sys) (h : Nat) : Sys :=
  let n := h / 4
  let c := h % 4
  if s.rf F.TILE_CORE_TEST_STATE n c = 2 then ((s.put F.TILE_CORE_TEST_STATE 3 n c).put F.TILE_CORE_TEST_RESULT 1 n c).put F.TILE_CORE_TEST_LBIST 1 n c
  else (s.put F.TILE_CORE_TEST_RESULT 4 n c).put F.TILE_CORE_TEST_LBIST 0 n c

/-- LBIST_DONE. -/
def Sys.lbistDone (s : Sys) (h : Nat) (pass : Bool) : Sys :=
  let n := h / 4
  let c := h % 4
  if s.rf F.TILE_CORE_TEST_STATE n c = 3 then
    ((s.put F.TILE_CORE_TEST_STATE 2 n c).put F.TILE_CORE_TEST_RESULT (if pass then 2 else 3) n c).put F.TILE_CORE_TEST_LBIST 0 n c
  else s

/-! ## Commands -/

def execFaultEvent (src : Fin 1280) (sub : Fin 4) (s : State) : Host.Outcome State Fault Refusal := onSys (fun s => s.faultEvent src sub) s
def execFaultReaction (s : State) : Host.Outcome State Fault Refusal := onM M.reaction s
def execHwSrFallback (s : State) : Host.Outcome State Fault Refusal := onSys Sys.hwSr s
def execHeelNotice (b : Fin 3) (s : State) : Host.Outcome State Fault Refusal := onSys (fun s => s.heelNotice b) s
def execCollectorWalk (bad : Option (Fin 4)) (s : State) : Host.Outcome State Fault Refusal :=
  onSys (fun s => s.collectorWalk (bad.map (·.val))) s
def execLbistDone (h : Fin 256) (pass : Bool) (s : State) : Host.Outcome State Fault Refusal := onSys (fun s => s.lbistDone h pass) s

end Sys2Proof.Machine
end

