-- ==== Sys2Proof/Machine/Reset.lean ====
section
/-!
DEFINITION. Resets of the socket, straps, JTAG and the debug module, and the service cores' reset state (ch. 14, 16, 17).
-/
namespace Sys2Proof.Machine

/-! ## Service cores at reset (R500, R505) -/

/-- The address of flash offset 0, where a service core starts (R493, R500). -/
def flashBase : Nat := 0x000FD10000000000

/-- A service core when it starts: M-mode at flash offset 0. -/
def DrmCore.cold : DrmCore where
  x := []
  pc := BitVec.ofNat 64 flashBase
  priv := 3
  csr := []
  resv := none
  tlb := []
  slots := []
  btb := []
  late := []
  halted := false

def Sys.dcore (s : Sys) (d : Nat) : DrmCore := Bank.getD s.drm.cores d .cold
def Sys.dcoreTo (s : Sys) (d : Nat) (c : DrmCore) : Sys := { s with drm := { s.drm with cores := Bank.set s.drm.cores d c } }
def Sys.onDcore (s : Sys) (d : Nat) (f : DrmCore → DrmCore) : Sys := s.dcoreTo d (f (s.dcore d))

/-! ## Cold and warm reset (R576, R577) -/

/-- The state that both resets of the socket leave, but for what they keep. -/
def Sys.socketReset (s : Sys) (hold : Held2) (regs : Bank RK Word) : Sys :=
  { Sys.reset with
    regs := regs
    freeCount := s.freeCount
    znx := { Sys.reset.znx with keyHash := s.znx.keyHash }
    icn := { Sys.reset.icn with pins := s.icn.pins }
    eps := s.eps.map (fun (e : Nat × EpSt) => (e.1, { EpSt.idle with perstIn := e.2.perstIn }))
    drm := { Sys.reset.drm with ir := s.drm.ir }
    pwr := { Sys.reset.pwr with hold := hold, warmPin := s.pwr.warmPin } }

/-- A cold reset keeps the fuses only (R576). -/
def M.coldReset (x : M) : M :=
  (x.on (fun s => (s.socketReset .cold []).wr ⟨.ZNX_FUSE, 0, 0⟩ (s.rd ⟨.ZNX_FUSE, 0, 0⟩))).write [.lose]

/-- A warm reset by a cause (R576, R577): it keeps the fields whose Reset column lists C only, DRAM, the SRAM and its uncorrectable
words, pair states and THERMTRIP_N. While the socket is held in reset already only the cause of a warm reset is noted. -/
def Sys.warmReset (s : Sys) (cause : Nat) : Sys :=
  if s.pwr.hold = .cold then s
  else
    let t := s.each (below 16) (fun t m => t.mcReset m false)
    let u := t.socketReset .warm (t.resetRegs .warm).regs
    let u := { u with
      ticks := t.ticks
      span := t.spnReset.span
      chans := t.chans
      drm := { u.drm with badWords := t.drm.badWords }
      pwr := { u.pwr with tripPin := t.pwr.tripPin } }
    let u := u.each (below 16) (fun u m => u.put F.MC_STATUS_PAIR (t.rf F.MC_STATUS_PAIR m) m)
    u.put F.PWR_RST_CTL_LAST_CAUSE cause

/-- PWR_RST_CTL is written (R582): CMD 0x5A by the Tether starts a warm reset; the mesh's CMD is ignored. -/
def Sys.rstCtlWrite (s : Sys) (v : Word) (tether : Bool) : Sys :=
  s.when (tether && fget v 56 8 == 0x5A) (fun s => s.warmReset 3)

/-- PWR_OK rises (R588, R591): with the supply order met the straps are sampled and the socket leaves cold reset. -/
def Sys.powerOn (s : Sys) (straps : Nat) (orderOk : Bool) : Sys :=
  if s.pwr.hold ≠ .cold || !orderOk then s
  else
    let s := s.put F.SYS_STRAP_LEASH_MASTER (nget straps 0 1)
    let s := s.put F.SPN_STATUS_MASTER (nget straps 0 1)
    let s := s.put F.SYS_STRAP_SB_MODE (nget straps 1 1)
    let s := s.put F.DRM_SB_CTL_MODE (nget straps 1 1)
    let s := s.put F.SYS_STRAP_SB_ADDR (nget straps 2 3)
    let s := s.put F.SYS_STRAP_SOCKET (nget straps 5 1)
    let s := s.put F.SYS_ID_SOCKET (nget straps 5 1)
    s.onPwr (fun p => { p with hold := if p.warmPin then .warm else .none })

/-- WARM_RST_N has been low for 1 µs (R590). -/
def Sys.warmPinLow (s : Sys) : Sys :=
  (s.warmReset 1).onPwr (fun p => { p with warmPin := true })

/-- The warm reset is released: 100 µs have passed and WARM_RST_N is high (R577). -/
def Sys.warmRelease (s : Sys) : Sys :=
  s.when (s.pwr.hold == .warm) (fun s => s.onPwr (fun p => { p with hold := .none, warmPin := false }))

/-- A rail falls below 90 % of nominal (R587): rails in the order VIN_MAIN, VDD_SOC, VDDQ_PHY, VDD_IO, VDD_AON, VDD_AUX; the monitors
of the last two act in every state. -/
def M.undervoltage (x : M) (rail : Nat) : M :=
  if x.sys.pwr.hold ≠ .cold || 4 ≤ rail then x.coldReset else x

/-! ## JTAG and the debug module (R604, R605) -/

/-- The number of a TAP instruction. -/
def JtagIr.code : JtagIr → Nat
  | .bypass => 0 | .idcode => 1 | .sample => 2 | .extest => 3
  | .clamp => 4 | .highz => 5 | .dtmcs => 6 | .dmi => 7

/-- The TAP instruction that acts: while the image is sealed EXTEST, CLAMP and HIGHZ act as BYPASS (R604). -/
def Sys.jtagActs (s : Sys) : Nat := if s.isSealed && [3, 4, 5].contains s.drm.ir then 0 else s.drm.ir

/-- dmstatus.authenticated (R605). -/
def Sys.authenticated (s : Sys) : Bool := s.on F.ZNX_FUSE_FACTORY_MODE || !s.isSealed || s.drm.auth

/-- An authdata exchange (R605): carried to Derrum firmware after the seal, outside factory mode; firmware alone grants or withdraws. -/
def Sys.debugAuth (s : Sys) (data : Nat) (grant : Option Bool) : Sys :=
  if s.on F.ZNX_FUSE_FACTORY_MODE || !s.isSealed then s
  else { s with drm := { s.drm with authdata := data, auth := grant.getD s.drm.auth } }

/-- The debug module asks a hart (0 to 255) or a service core (256 to 259) to halt or resume (R605); a halt wakes a core and ends a
WFS wait (R124, R566). -/
def Sys.debugHalt (s : Sys) (h : Nat) (halt : Bool) : Sys :=
  if !s.authenticated then s
  else if 256 ≤ h then s.onDcore (h - 256) (fun c => { c with halted := halt })
  else
    let rob := (s.hart h).rob
    let keep := (((List.range rob.length).reverse.find? (fun i => (rob[i]?).any Uop.underWay)).map (· + 1)).getD 0
    let s := s.onHart h (fun t => { t with halted := halt })
    if halt then ((s.squash h keep).wfsWake h).coreWake h else s

def execColdReset (s : State) : Host.Outcome State Fault Refusal := onMAny M.coldReset s
def execWarmReset (s : State) : Host.Outcome State Fault Refusal := onSysAny Sys.warmPinLow s
def execWarmResetRelease (s : State) : Host.Outcome State Fault Refusal := onSysAny Sys.warmRelease s
def execPowerOn (straps : BitVec 6) (orderOk : Bool) (s : State) : Host.Outcome State Fault Refusal :=
  onSysAny (fun s => s.powerOn straps.toNat orderOk) s
def execRailUndervoltage (rail : Fin 6) (s : State) : Host.Outcome State Fault Refusal := onMAny (fun x => x.undervoltage rail.val) s
def execJtagInstruction (ir : JtagIr) (s : State) : Host.Outcome State Fault Refusal :=
  onSysAny (fun s => { s with drm := { s.drm with ir := ir.code } }) s
def execDebugAuth (data : BitVec 32) (grant : Option Bool) (s : State) : Host.Outcome State Fault Refusal :=
  onSys (fun s => s.debugAuth data.toNat grant) s
def execDebugHaltRequest (h : Fin 260) (halt : Bool) (s : State) : Host.Outcome State Fault Refusal :=
  onSys (fun s => s.debugHalt h.val halt) s

end Sys2Proof.Machine
end

