-- ==== Sys2Proof/Machine/Reflow.lean ====
section
/-!
DEFINITION. What an image writes into the stations at APPLY, the commands of the ZNX block, the vote, commit and sweep of a reflow
(ch. 3), and the rebuilding of the maps at a slice retirement (ch. 7).
-/
namespace Sys2Proof.Machine

/-! ## Loading records into stations (R80 to R94, R97, R105) -/

/-- A region register takes its record: at APPLY at once, at a commit as a pending shadow (R94, R398, R105). -/
def Sys.loadRegion (s : Sys) (r : RegionRec) (pending : Bool) : Sys :=
  let ms := if r.ch = 0xFF then below 16 else [r.ch]
  s.each ms (fun s m =>
    let s := (s.put F.MC_REGION_CFG_VALID (nget r.flags 0 1) m r.index).put F.MC_REGION_CFG_WORLD_S (nget r.flags 1 1) m r.index
    let s := (s.put F.MC_REGION_CFG_READ (nget r.flags 2 1) m r.index).put F.MC_REGION_CFG_WRITE (nget r.flags 3 1) m r.index
    let s := (s.put F.MC_REGION_CFG_KENNEL r.kennel m r.index).put F.MC_REGION_CFG_BASE (r.base / 4096) m r.index
    let s := s.put F.MC_REGION_LIMIT_LIMIT (r.limit / 4096) m r.index
    if pending then s.put F.MC_REGION_CFG_PENDING 1 m r.index
    else
      let now := (s.rd ⟨.MC_REGION_CFG, m, r.index⟩, s.rd ⟨.MC_REGION_LIMIT, m, r.index⟩)
      { s with regionNow := Bank.set s.regionNow (m, r.index) now })

/-- FCR_CLASS shows the classes in force (R80, R518). -/
def Sys.loadClasses (s : Sys) : Sys :=
  s.each (below 80) (fun s i =>
    s.wr ⟨.FCR_CLASS, i, 0⟩ ((below 16).foldl (fun w j => fput w (4 * j) 3 (s.conf.classOf (16 * i + j))) 0))

/-- PWR_CFG shows the POWER record (R92, R582). -/
def Sys.loadPower (s : Sys) : Sys :=
  let p := s.conf.powerOf
  (((s.put F.PWR_CFG_PACK_FMAX p.fmax).put F.PWR_CFG_TDP_W p.tdp).put F.PWR_CFG_THROTTLE_C p.throttle).put F.PWR_CFG_VIN_IMAX p.imax

/-- A memory channel takes its CHANNEL record (R84, R348, R371): MODE 0 powers it off; a mirrored pair is NORMAL unless it was degraded
before a warm reset (R370). -/
def Sys.loadChan (s : Sys) (m : Nat) : Sys :=
  let c := s.conf.chan m
  let s := (((s.put F.MC_CFG_MODE c.mode m).put F.MC_CFG_DPC c.dpc m).put F.MC_CFG_RATE c.rate m).put F.MC_CFG_PATROL_H c.patrolH m
  let s := ((s.put F.MC_WQ_WM_HI c.wqHi m).put F.MC_WQ_WM_LO c.wqLo m).put F.MC_WQ_WM_AGE_CAP c.ageCap m
  let s := s.onChan m (fun h => { h with wm := (c.ageCap, c.wqHi, c.wqLo) })
  let mirrored := s.conf.ilv.any (fun v => v.mirrored && bit v.mask m)
  let s := s.put F.MC_STATUS_PAIR (if !mirrored then 0 else if s.pair m = 2 then 2 else 1) m
  if c.mode = 0 then s.mcTo m mcOff else s

/-- The SPAN section is held in SPN_CFG and governs from the first tick after it (R43, R90). -/
def Sys.loadSpan (s : Sys) : Sys :=
  match s.conf.span with
  | some (k, w, pos, _) =>
    { ((s.put F.SPN_CFG_K k).put F.SPN_CFG_WINDOW w).put F.SPN_CFG_POSITION pos with span := { s.span with ringMap := s.conf.ring } }
  | none => s

/-- Every station takes the records of a full image (R97). -/
def Sys.loadImage (s : Sys) (c : Conf) : Sys :=
  let s := { s with conf := c }
  let s := s.loadSpan.icnWindows
  let s := s.each (below 16) (fun s k =>
    (s.kTo k (if (c.kennel k).enabled then kHeld else kDisabled)).put F.SYS_KCTL_SELF_RESET (b2n (c.irqOf k).selfReset) k)
  let s := s.each (below 64) (fun s n =>
    s.when (!(c.tile n).svc && s.slState n == slReset) (fun s => (s.slTo n slRetired).put F.TILE_SLICE_STATUS_CAUSE 4 n))
  let s := s.each (below 16) Sys.loadChan
  let s := s.each (below 8) Sys.portApply
  let s := s.each (below 3) (fun s b => s.put F.BRC_STATUS_STATE (if (c.braceOf b).mode = 1 then brcTraining else 0) b)
  let s := (s.loadClasses.loadPower.put F.OWN_TABLE_BASE (c.tableBase / 2 ^ 21)).put F.OWN_TABLE_PAGES_PAGES (c.tablePages s.socket)
  let s := s.put F.OWN_DUMP_BASE (c.dumpBase / 2 ^ 26)
  (s.each c.regions (fun s r => s.loadRegion r false)).setQuotas

/-! ## The commands of the ZNX block (R75, R76, R97, R101, R109) -/

/-- APPLY (R96, R97): capacity is checked, then the records go to the stations. -/
def Sys.znxApply (s : Sys) : Sys :=
  match s.znx.full with
  | some h =>
    if s.imageState ≠ imgVerified then s.znxCmdErr
    else match s.capacityBad h.conf with
    | some i => s.znxErr 0x22 (sectIndex h.bytes 3) i
    | none => ({ (s.imageTo imgApplying).znxBusy true with znx := { s.znx with op := 0x11 } }).loadImage h.conf
  | none => s.znxCmdErr

/-- APPLY_DONE: every station has acknowledged. -/
def Sys.applyDone (s : Sys) : Sys :=
  if s.znx.op = 0x11 then { (s.imageTo imgApplied).znxBusy false with znx := { s.znx with op := 0 } } else s

/-- APPLY_STATION_TIMEOUT: the stations keep what they received; which record had been sent the spec does not state. -/
def Sys.applyTimeout (s : Sys) : Sys :=
  if s.znx.op = 0x11 then
    let s := { (s.imageTo imgFailed).znxBusy false with znx := { s.znx with op := 0 } }
    (s.putFree F.ZNX_STATUS_ERR_SECTION).putFree F.ZNX_STATUS_ERR_RECORD
  else s

/-- The stations that a staged image concerns (R101, R102): tile stations of tiles moved or resized, with the ICN; every tile station
and edge stop for slice masks, hash modes and budgets; ports, collector, power, span and page stations by their records. -/
def Sys.concerned (s : Sys) : List Nat :=
  let c := s.stagedRecs
  let kens := c.kennels.map (fun (p : Nat × KennelRec) => (p.1, p.2, s.conf.kennel p.1))
  let wide := kens.any (fun p => p.2.1.sliceMask ≠ p.2.2.sliceMask || p.2.1.hashMode ≠ p.2.2.hashMode) || !c.qos.isEmpty ||
    c.regions.any (fun _ => true)
  let all : List Nat := if wide then below 80 else []
  let tiles : List Nat := c.tiles.map (·.1)
  let moved : List Nat := if c.tiles.any (fun p => p.2.kennel ≠ (s.conf.tile p.1).kennel) || kens.any (fun p =>
    p.2.1.spanLocked != p.2.2.spanLocked || p.2.1.sentinel != p.2.2.sentinel || p.2.1.enabled != p.2.2.enabled) then [106] else []
  let flags : List Nat := kens.flatMap (fun p => (below 64).filter (fun n => (s.conf.tile n).kennel = p.1))
  let off : List Nat := if kens.any (fun p => !p.2.1.enabled && p.2.2.enabled) then
      (below 8).map (80 + ·) ++ ([99, 100, 107] : List Nat) else []
  let other : List Nat := c.ports.map (fun p => 80 + p.1) ++ (if c.span.isSome then [102] else []) ++ (if c.reaction.isEmpty then [] else [104]) ++
    (if c.power.isSome then [105] else []) ++ c.pages.map (fun r => stationAt (4096 * r.page))
  let set : List Nat := all ++ tiles ++ moved ++ flags ++ off ++ other
  (below 109).filter (fun i => set.contains i)

/-- A command written to ZNX_CMD by a service core (R75, R76, R97, R101). -/
def M.znxOp (x : M) (core op : Nat) : M :=
  let s := x.sys
  let held := s.on F.ZNX_OWNER_HELD
  if op = 1 then x.on (fun s => s.znxClaim core)
  else if !held || s.rf F.ZNX_OWNER_HART ≠ 0x1000 + core then x.on (fun s => s.put F.ZNX_STATUS_OWNER_ERR 1)
  else if s.on F.ZNX_STATUS_BUSY || (s.imageState = imgFailed && op ≠ 2) then x.on Sys.znxCmdErr
  else match op with
  | 2 => x.on Sys.znxRelease
  | 0x10 => x.znxVerify
  | 0x11 => x.on Sys.znxApply
  | 0x12 => x.on Sys.znxSeal
  | 0x21 => x.on (fun s => s.znxArm (fun _ => s.concerned))
  | 0x22 => x.on Sys.znxCancel
  | _ => x.on Sys.znxCmdErr

/-! ## The vote (R100 to R104) -/

/-- VOTE_START: phase S − 2 µs of span TARGET − 1 is reached. -/
def Sys.voteStart (s : Sys) : Sys :=
  if s.spanNo + 1 ≠ s.rf F.ZNX_REFLOW_TARGET_TARGET || s.spanS - 2560 < s.phase then s
  else if s.reflowState = rfReady then
    { (s.toPhase (s.spanS - 2560)).reflowTo rfVoting with znx := { s.znx with ready := [] } }
  else if s.reflowState = rfDistributing then (s.toPhase (s.spanS - 2560)).reflowAbort 1 0xFF
  else s

/-- A granted page of the kennel lies in the owner table (R100, R382). -/
def M.ownsPages (x : M) (k : Nat) : Bool :=
  let s := x.sys
  let base := s.rf F.OWN_TABLE_BASE * 2 ^ 21
  let n := s.rf F.OWN_TABLE_PAGES_PAGES
  let first := dramWindow * s.socket / 4096
  let inT := fun (a : Nat) => decide (base ≤ a) && decide (a < base + n)
  let lines : List Nat := (x.mem.dram.filter (fun c => inT c.1)).map (fun c => c.1 / 64) ++
    s.slices.flatMap (fun (q : Nat × Slice) => q.2.sectors.flatMap (fun e => (below 4).map (fun i => 4 * e.q + i)))
  lines.eraseDups.any (fun l => (below 64).any (fun i =>
    let a := 64 * l + i
    inT a && (match x.tableByte (first + (a - base)) with
      | some b => bit b 0 && nget b 3 4 == k
      | none => false)))

/-- A station's conditions for a staged image (R100). -/
def M.voteReady (x : M) (st : Nat) : Bool :=
  let s := x.sys
  let c := s.stagedRecs
  let new := s.stagedConf
  let gone := (c.kennels.filter (fun (p : Nat × KennelRec) => !p.2.enabled && (s.conf.kennel p.1).enabled)).map (fun (p : Nat × KennelRec) => p.1)
  if st < 64 then
    let cores := (below 4).map (4 * st + ·)
    let move := !s.tileMoves st || (cores.all (fun h => s.countsCs4 h && (s.cpwr h).start.isNone) &&
      (below 16).all (fun k => k = (new.tile st).kennel || (new.kennel k).sentinel / 4 ≠ st))
    let svc := !((new.tile st).svc && !(s.conf.tile st).svc) || s.on F.TILE_SLICE_STATUS_READMIT_OK st
    let k := (s.conf.tile st).kennel
    let flags := c.kennels.all (fun (p : Nat × KennelRec) =>
      let o := s.conf.kennel p.1
      p.1 ≠ k || (p.2.ztso == o.ztso && p.2.svadu == o.svadu && p.2.sumLock == o.sumLock) || cores.all s.countsCs4)
    move && svc && flags && !gone.contains (new.tile st).kennel
  else if 80 ≤ st && st < 88 then
    let p := st - 80
    let o := s.conf.port p
    let w := new.port p
    (below 4).all (fun j =>
      let moves := w.kennels[j]? != o.kennels[j]? || bit w.world j != bit o.world j
      let quiet := (s.link p j).out.isEmpty && (s.link p j).inq.isEmpty && !(s.lkState p j == lkUp || s.lkState p j == lkTraining)
      (!moves || quiet) && !(s.hasLink p j && gone.contains ((w.kennels[j]?).getD 0xFF)))
  else if st = 99 || st = 100 then
    (below 256).all (fun i =>
      let c := i + 256 * (st - 99)
      !(s.on F.RTV_CH_BIND_VALID c && gone.contains (s.chKennel c)))
  else if st = 107 then gone.all (fun k => !x.ownsPages k)
  else true

/-- A concerned station votes (R103): a busy vote aborts; the last ready vote commits. -/
def M.stationVote (x : M) (st : Nat) : M :=
  let s := x.sys
  if s.reflowState ≠ rfVoting || !s.znx.concerned.contains st || s.znx.ready.contains st then x
  else if x.voteReady st then
    x.on (fun s =>
      let r := s.znx.ready ++ [st]
      { s.when (s.znx.concerned.all r.contains) (fun s => s.reflowTo rfCommit) with znx := { s.znx with ready := r } })
  else x.on (fun s => s.reflowAbort 2 st)

/-- VOTE_TIMEOUT: 1 µs after the vote instant, the lowest station that has not voted is named (R103). -/
def Sys.voteTimeout (s : Sys) : Sys :=
  if s.reflowState = rfVoting then
    s.reflowAbort 3 ((s.znx.concerned.find? (fun i => !s.znx.ready.contains i)).getD 0xFF)
  else s

/-! ## The commit (R104 to R107, R433, R471, R567) -/

/-- A core of a tile that moves, or whose CORE_EN changes (R567); a START that waits for the end of the commit window stays pending
(R104, R569). -/
def Sys.coreMoved (s : Sys) (h : Nat) : Sys :=
  if s.coreState h = psOffline then s
  else
    let k : RK := ⟨.TILE_CORE_START, h / 4, h % 4⟩
    let w := s.rd k
    let p := s.cpwr h
    let s := s.coreKReset h
    let s := s.when (fget w 63 1 == 1) (fun s => (s.wr k w).onCpwr h (fun c => { c with start := p.start, toff := p.toff }))
    s.when (s.coreEn h && s.kState (s.hartKennel h) == kRunning) (fun s => s.coreTo h psStopped)

/-- A slice re-enters service by reflow (R282): ON, with a new session. -/
def Sys.sliceReadmit (s : Sys) (n : Nat) : Sys :=
  if s.slState n = slTested then
    s.sliceOn n
  else s

/-- The stations swap their shadow values in, but for SPN_CFG (R105). -/
def Sys.commitLoad (s : Sys) (c new : Conf) : Sys :=
  let old := s.conf
  let moves := s.tileMoves
  let moved := (below 64).filter moves
  let s := s.each moved (fun s n =>
    if (old.tile n).kennel = (new.tile n).kennel then s
    else s.each ((below 4).map (4 * n + ·)) (fun s h => s.hartLeaves (s.tileKennel n) h))
  let s := { s with conf := new }
  let s := s.each c.kennels (fun s (p : Nat × KennelRec) =>
    let s := (s.put F.ICN_DOM_CFG_ENABLED (b2n p.2.enabled) p.1).put F.ICN_DOM_CFG_FENCE_ON (b2n p.2.spanLocked) p.1
    if (old.kennel p.1).enabled && !p.2.enabled then s.kTo p.1 kDisabled else s)
  let s := s.each moved (fun s n => s.each ((below 4).map (4 * n + ·)) Sys.coreMoved)
  let s := s.each c.tiles (fun s (p : Nat × TileRec) =>
    if (old.tile p.1).svc && !p.2.svc then s.retireSlice p.1 3
    else if !(old.tile p.1).svc && p.2.svc then s.sliceReadmit p.1
    else s)
  let s := s.each c.ports (fun s (q : Nat × PortRec) =>
    let s := s.portApply q.1
    s.each (below 4) (fun s j =>
      let o := old.port q.1
      if q.2.kennels[j]? != o.kennels[j]? || bit q.2.world j != bit o.world j then s.linkOwner q.1 j else s))
  let s := s.when (!c.reaction.isEmpty) Sys.loadClasses
  let s := s.when c.power.isSome Sys.loadPower
  let s := s.each c.regions (fun s r => s.loadRegion r true)
  let s := { s with znx := { s.znx with ready := moved } }
  s.setQuotas.icnSyncAll

/-- REFLOW_COMMIT (R105 to R107): the part of the tick of TARGET in which the stations swap their shadows, before the tick's other work;
`fails` are the stations that do not. -/
def Sys.commit (s : Sys) (fails : List Nat) : Sys :=
  match s.znx.staged with
  | some h =>
    if s.reflowState ≠ rfCommit || s.spanNo + 1 ≠ s.rf F.ZNX_REFLOW_TARGET_TARGET then s
    else
      let c := s.stagedRecs
      let new := s.stagedConf
      let old := s.conf
      let sweep := c.kennels.any (fun (p : Nat × KennelRec) =>
        p.2.sliceMask ≠ (old.kennel p.1).sliceMask || p.2.hashMode ≠ (old.kennel p.1).hashMode)
      let d := sha384 (natBe 48 s.digestNat ++ natBe 48 h.digest)
      let s := s.commitLoad c new
      let s := (s.showDigest d).put F.ZNX_REFLOW_COUNT_COUNT (s.rf F.ZNX_REFLOW_COUNT_COUNT + 1)
      let low := (fails.foldl min 0xFF)
      let s := s.reflowResult 1 0 (if fails.isEmpty then 0xFF else low)
      let s := (s.reflowTo (if sweep then rfDraining else rfIdle)).when (!fails.isEmpty) (fun s => s.raise (srcGlobal 4))
      { s with
        shadow := some c
        znx := { s.znx with staged := none, concerned := [], commitWindow := true, sweepOld := some old, sweepSets := 0, sweepTick := s.ticks + 1 } }
  | none => s

/-- After the tick of TARGET SPN_CFG holds the new WINDOW, which governs from the next tick (R43, R105). -/
def Sys.commitSpan (s : Sys) : Sys :=
  match s.znx.commitWindow, s.shadow with
  | true, some c =>
    match c.span with
    | some (_, w, _, _) => s.put F.SPN_CFG_WINDOW w
    | none => s
  | _, _ => s

/-- The commit window ends: what it held is carried out (R104). -/
def Sys.commitEnd (s : Sys) : Sys :=
  if s.znx.commitWindow && s.spanNo + 1 != s.rf F.ZNX_REFLOW_RESULT_TARGET then
    let s := { s with shadow := none, znx := { s.znx with
      commitWindow := false, ready := [], sweepOld := if s.reflowState = rfDraining then s.znx.sweepOld else none } }
    let s := s.kresetsHeld.bindHeld
    let k := s.rf F.PWR_KREL_KENNEL
    let s := s.when (s.on F.PWR_KREL_HELD) (fun s => if s.kState k = kHeld then s.releaseRun else s.releaseCancel k)
    s.each ((s.pwr.cores.filter (fun (q : Nat × CorePwr) => q.2.start.isSome)).map (fun (q : Nat × CorePwr) => q.1)) (fun s h =>
      if s.coreState h ≠ psStopped then
        ((s.put F.TILE_CORE_START_GO 0 (h / 4) (h % 4)).put F.TILE_CORE_START_ERR 1 (h / 4) (h % 4)).onCpwr h (fun c => { c with start := none })
      else if s.spanLocked (s.hartKennel h) then s
      else s.startRun h)
  else s

/-- One window of a rehash sweep (R106): every slice passes on, of 16 sets, each line whose home has changed. -/
def M.sweepStep (x : M) : M :=
  let s := x.sys
  if s.reflowState ≠ rfDraining || !s.inWindow || s.ticks ≤ s.znx.sweepTick then x
  else
    let lo := s.znx.sweepSets
    let flo := 8 * lo
    let work : List (Nat × Nat) := s.slices.flatMap (fun (q : Nat × Slice) =>
      let away := fun (k l : Nat) => match s.conf.homeOf k (64 * l) with
        | some m => if m = q.1 then none else some (m, l)
        | none => none
      (q.2.sectors.filter (fun e => lo ≤ llcSet e.q ∧ llcSet e.q < lo + 16)).flatMap (fun e =>
          (below 4).filterMap (fun i => if bit e.v i then away e.kennel (4 * e.q + i) else none)) ++
        (q.2.sf.filter (fun e => flo ≤ sfSet e.line ∧ sfSet e.line < flo + 128)).filterMap (fun e => away e.kennel e.line))
    let x := work.eraseDups.foldl (fun (x : M) (w : Nat × Nat) => x.pullLine w.1 w.2) x
    x.on (fun s =>
      let fin := decide (1536 ≤ lo + 16)
      { s.when fin (fun s => s.reflowTo rfIdle) with znx := { s.znx with
        sweepSets := if fin then 0 else lo + 16, sweepTick := s.ticks, sweepOld := if fin && !s.znx.commitWindow then none else s.znx.sweepOld } })

/-- SLICE_REHASH (R277): at the tick after HOLD the maps are rebuilt without the slice; a kennel left with no slice stops, and kennel 15
left with none takes the socket to the heel state. -/
def Sys.rehash (s : Sys) (n : Nat) : Sys :=
  if s.slState n = slHold && decide ((s.slice n).since < s.ticks) then
    let (empty, s) := s.sliceRehash n
    s.each empty (fun s k => if k = 15 then s.heel 4 0x7FF else s.kennelStop k 4)
  else s

/-! ## Commands -/

def execApplyDone (s : State) : Host.Outcome State Fault Refusal := onSys Sys.applyDone s
def execApplyStationTimeout (_station : Fin 109) (s : State) : Host.Outcome State Fault Refusal := onSys Sys.applyTimeout s
def execVoteStart (s : State) : Host.Outcome State Fault Refusal := onSys Sys.voteStart s
def execStationVote (station : Fin 109) (s : State) : Host.Outcome State Fault Refusal := onM (fun x => x.stationVote station.val) s
def execVoteTimeout (s : State) : Host.Outcome State Fault Refusal := onSys Sys.voteTimeout s
def execReflowCommit (fails : List (Fin 109)) (s : State) : Host.Outcome State Fault Refusal := onSys (fun s => s.commit (fails.map (·.val))) s
def execRehashSweepStep (s : State) : Host.Outcome State Fault Refusal := onM M.sweepStep s
def execSliceRehash (n : Fin 64) (s : State) : Host.Outcome State Fault Refusal := onSys (fun s => s.rehash n) s

end Sys2Proof.Machine
end

