-- ==== Sys2Proof/Machine/Access.lean ====
section
/-!
DEFINITION. An access to register space by address: who may reach which register, what a read returns and what a write does (ch. 1, 18
and the register tables of every chapter); the commands that are such an access; and the posting and clock of a domain (ch. 11).
-/
namespace Sys2Proof.Machine

/-! ## The requester (R21, R28 to R30) -/

/-- A requester of a register: its path, for the Tether the service core, whether it is a hart, its kennel and its world (R21, R380). -/
structure Who where
  tether : Bool
  core : Nat
  isHart : Bool
  kennel : Nat
  secure : Bool
  deriving DecidableEq, Repr

/-- What a requester's access carries; a service core's world on the mesh may still be the one before its last write of dmctl (R506). -/
def Sys.whoIs (s : Sys) (r : Requester) : Who × Sys :=
  match r with
  | .tether c => (⟨true, c.val, false, 15, true⟩, s)
  | .derrum d => let (w, t) := s.drmWorld d.val
                 (⟨false, d.val, false, 15, w⟩, t)
  | .hart h => (⟨false, 0, true, s.hartKennel h.val, s.worldS h.val⟩, s)
  | .remote k w isHart => (⟨false, 0, isHart, k.val, w⟩, s)

/-- The answer to an access that is not performed (R11, R29, R37). -/
def Who.refusal (w : Who) (write : Bool) : Resp := if w.isHart then .accessFault write else .error

/-- The access answers. -/
def Sys.answer (s : Sys) (r : Resp) : Sys := { s with resp := r }

/-! ## Units that are unavailable (R26) -/

/-- The unit of a tile's, controller's or port's station answers no access of a register that it holds (R26, R466). -/
def Sys.unitOff (s : Sys) (st : Nat) : Bool :=
  if st < 64 then [slReset, slRetired, slTesting, slTested].contains (s.slState st)
  else if st < 80 then [mcOff, mcOffline].contains (s.mcState (st - 64)) || s.on F.MC_CTL_PWR_OFF (st - 64)
  else if st < 88 then s.role (st - 80) == 0
  else if st < 91 then s.rf F.BRC_STATUS_STATE (st - 88) == 0
  else if st < 99 then s.rf F.RTV_ENG_STATUS_STATE (st - 91) != egIn
  else false

/-- The interrupt domain of a register of the ICN. -/
def Sys.domOf (s : Sys) (k : RK) : Option Nat :=
  match k.reg with
  | .ICN_DOM_CFG | .ICN_DOM_MSG | .ICN_DOM_PTAB | .ICN_DOM_STATUS | .ICN_DOM_LOST | .ICN_DRM_CLAIM | .ICN_DRM_THRESH | .ICN_GRP | .ICN_SRC => some k.i
  | .ICN_CTX_CLAIM | .ICN_CTX_THRESH | .ICN_GCTX | .ICN_MCTX_CLAIM | .ICN_MCTX_THRESH => some (s.hartKennel k.i)
  | _ => none

/-- The context or source that a register belongs to exists: else it reads zero and ignores writes (R410, R412). -/
def Sys.icnPresent (s : Sys) (k : RK) : Bool :=
  match k.reg with
  | .ICN_DRM_CLAIM | .ICN_DRM_THRESH => k.i == 15
  | .ICN_CTX_CLAIM | .ICN_CTX_THRESH => decide (k.j ≤ s.rf F.ICN_DOM_CFG_GUEST_CTX (s.hartKennel k.i))
  | .ICN_GCTX => k.j != 0 && decide (k.j ≤ s.rf F.ICN_DOM_CFG_GUEST_CTX (s.hartKennel k.i))
  | .ICN_SRC => s.srcPresent k.i k.j
  | _ => true

/-- The register exists in the part as configured: an endpoint register on a port with no endpoint, an absent context or source, and
SYS_CS_STATUS of no station read zero and ignore writes (R25, R412, R472). -/
def Sys.present (s : Sys) (k : RK) : Bool :=
  match k.reg with
  | .IOP_EP_CTL | .IOP_EP_ID | .IOP_EP_BAR | .IOP_EP_STATUS | .IOP_EP_INTX | .IOP_EP_MSI | .IOP_EP_XCOMMIT | .IOP_EP_XLAT | .IOP_EP_XLAT_TGT
  | .IOP_EP_XSH | .IOP_EP_XSH_TGT => s.isEp k.i
  | .SYS_CS_STATUS => decide (k.i < 109)
  | _ => s.icnPresent k

/-- The threshold register of a claim register: it names the context. -/
def RK.thresh (k : RK) : RK :=
  match k.reg with
  | .ICN_CTX_CLAIM => { k with reg := .ICN_CTX_THRESH }
  | .ICN_MCTX_CLAIM => { k with reg := .ICN_MCTX_THRESH }
  | .ICN_DRM_CLAIM => { k with reg := .ICN_DRM_THRESH }
  | _ => k

/-! ## Reads -/

/-- ICN_GRP with its live fields (R422, R423, R438). -/
def Sys.grpSeen (s : Sys) (d g : Nat) : Word :=
  let left := Bank.getD s.icn.holdoff (d, g) 0 - s.span.now
  let waits := s.grpFenced d g && (s.srcIds d).any (fun id =>
    s.srcPending d id && s.rf F.ICN_SRC_GROUP d id == g && !s.icn.admitted.contains (d, id))
  fput (fput (s.rd ⟨.ICN_GRP, d, g⟩) 32 24 left) 9 1 (b2n waits)

/-- ICN_SRC with its live fields: PENDING of a level source, TYPE of an internal one, HART of CORE_LOST (R409, R413, R438). -/
def Sys.srcSeen (s : Sys) (d id : Nat) : Word :=
  fput (fput (fput (s.rd ⟨.ICN_SRC, d, id⟩) 63 1 (b2n (s.srcPending d id))) 58 1 (b2n (s.srcLevel d id))) 32 8 (s.srcHart d id)

/-- FCR_SUMMARY (R556): bit i is 1 while FCR_STICKY[i] is not zero. -/
def Sys.stickySummary (s : Sys) : Word :=
  (below 20).foldl (fun w i => if s.rd ⟨.FCR_STICKY, i, 0⟩ = 0 then w else fput w i 1 1) 0

/-- SPN_FALLEN[i]: the map of the last valid TIME frame with the node's own bit replaced by its own state (R69). -/
def Sys.fallenSeen (s : Sys) (i : Nat) : Word :=
  if s.ringPos / 64 = i then fput (s.rd ⟨.SPN_FALLEN, i, 0⟩) (s.ringPos % 64) 1 (b2n s.heeled) else s.rd ⟨.SPN_FALLEN, i, 0⟩

/-- A read of a register: its value, and what the read itself does (R7, R8). -/
def Sys.regRead (s : Sys) (k : RK) : Word × Sys :=
  if !s.present k then (0, s)
  else match k.reg with
  | .SPN_SPAN => (fput (BitVec.ofNat 64 s.spanNo) 63 1 (b2n s.inWindow), s)
  | .SPN_FALLEN => (s.fallenSeen k.i, s)
  | .SPN_RACKTIME => (BitVec.ofNat 64 s.span.rackTime, s)
  | .SYS_CS_STATUS => (fput (s.rd k) 0 1 (b2n (!s.unitOff k.i)), s)
  | .FCR_SUMMARY => (s.stickySummary, s)
  | .FCR_STICKY => let t := s.stickyCheck k.i
                   (t.rd k, t)
  | .ICN_GRP => (s.grpSeen k.i k.j, s)
  | .ICN_SRC => (s.srcSeen k.i k.j, s)
  | .ICN_CTX_CLAIM | .ICN_MCTX_CLAIM | .ICN_DRM_CLAIM =>
    let (id, t) := s.icnClaim ((s.domOf k).getD 0) k.thresh
    (BitVec.ofNat 64 id, t)
  | .TILE_CACHE_CTL => (s.rd k, s.cacheCtlSeen (4 * k.i + k.j))
  | .TILE_SLICE_CTL => (s.rd k, s.sliceCtlSeen k.i)
  | _ => (s.rd k, s.wr k (accClear k.reg.rows (s.rd k)))

/-- A read of ICN_GCTX waits for the postings of its domain (R427). -/
def Sys.readWaits (s : Sys) (k : RK) : Bool :=
  k.reg == .ICN_GCTX && s.icn.postings.any (fun p => p.dom = s.hartKennel k.i)

/-! ## Writes -/

/-- A write of SYS_KCTL (R377, R378, R407): CMD_ERR, then STOP, then RESET. -/
def Sys.kctlWrite (s : Sys) (k : Nat) (v : Word) : Sys :=
  let s := s.when (fget v 3 1 == 1) (fun s => s.put F.SYS_KCTL_CMD_ERR 0 k)
  let s := s.when (fget v 2 1 == 1) (fun s => s.kennelStop k 1)
  s.when (fget v 1 1 == 1) (fun s => s.kennelReset k 1)

/-- A write of PWR_KREL (R568, R582). -/
def Sys.krelWrite (s : Sys) (v : Word) : Sys :=
  let s := s.when (fget v 62 1 == 1) (fun s => s.put F.PWR_KREL_CMD_ERR 0)
  let s := (s.put F.PWR_KREL_KENNEL (fget v 52 4)).put F.PWR_KREL_ENTRY (fget v 2 50)
  s.when (fget v 63 1 == 1) Sys.kennelRelease

/-- A write of TILE_CORE_PWR (R583): depth and error at once; the requested state by the hold count (R403). -/
def M.corePwrWrite (x : M) (w : Who) (k : RK) (v : Word) : M :=
  let depth := fget v 8 3
  let req := fget v 0 3
  let v := fput v 0 3 (if [2, 3, 4, 7].contains req then req else 0)
  let x := x.on (fun s => s.put F.TILE_CORE_PWR_MAX_DEPTH (if 4 < depth then 4 else depth) k.i k.j)
  let x := x.on (fun s => s.when (fget v 62 1 == 1) (fun s => s.put F.TILE_CORE_PWR_CMD_ERR 0 k.i k.j))
  x.reqWrite k v w.secure w.kennel

/-- A write of TILE_CORE_TEST (R536, R537). -/
def M.coreTestWrite (x : M) (w : Who) (k : RK) (v : Word) : M :=
  let x := if fget v 63 1 = 1 then x.reqWrite k v w.secure w.kennel else x
  x.on (fun s => s.when (fget v 62 1 == 1) (fun s => s.lbist (4 * k.i + k.j)))

/-- A write of IOP_CFG before the seal (R472): the port takes it. -/
def Sys.iopCfgWrite (s : Sys) (p : Nat) (v : Word) : Sys :=
  if s.isSealed then s
  else
    let c := s.conf.port p
    let c := { c with role := fget v 0 2, bifurc := fget v 4 2, maxGen := fget v 8 4 }
    ({ s with conf := { s.conf with ports := Bank.set s.conf.ports p c } } : Sys).portApply p

/-- A write of ICN_DOM_PTAB (R437): VCPUS above 1,024 is taken as 1,024. -/
def Sys.ptabWrite (s : Sys) (k : RK) (v : Word) : Sys :=
  s.wr k (fput (accWrite rows_ICN_DOM_PTAB s.isSealed (s.rd k) v) 52 11 (min 1024 (fget v 52 11)))

/-- A write of a mailbox doorbell (R511). -/
def Sys.doorbell (s : Sys) (page : Nat) (v : Word) : Sys :=
  let s := s.put F.DRM_MB_DOORBELL_ACK (fget v 32 16) page
  if fget v 63 1 = 1 then
    let s := s.put F.DRM_MB_DOORBELL_SEQ (fget v 0 16) page
    let k : RK := ⟨.DRM_MB_PENDING, 0, 0⟩
    (s.wr k (fput (s.rd k) page 1 1)).srcEvent 15 3
  else s

/-- A Tether write of DRM_MB_STATUS or DRM_MB_NOTICE (R511). -/
def Sys.mailboxWrite (s : Sys) (k : RK) (v : Word) : Sys :=
  let s := s.wr k (accWrite k.reg.rows s.isSealed (s.rd k) v)
  let d := k.i / 2
  s.when (d != 15 && (s.conf.kennel d).enabled) (fun s => s.srcEvent d 3)

/-- A write of a log's VALID (R206, R261). -/
def Sys.logWrite (s : Sys) (k : RK) (v : Word) : Sys :=
  if fget v 63 1 = 0 then s
  else match k.reg with
  | .TILE_CORE_MCLOG =>
    ((s.put F.TILE_CORE_MCLOG_VALID 0 k.i k.j).put F.TILE_CORE_MCLOG_OVERFLOW 0 k.i k.j).put F.TILE_CORE_MCLOG_CE_COUNT 0 k.i k.j
  | _ =>
    (((s.put F.TILE_SLICE_ERRLOG_VALID 0 k.i).put F.TILE_SLICE_ERRLOG_OVERFLOW 0 k.i).put F.TILE_SLICE_ERRLOG_CE_COUNT 0 k.i).wr
      ⟨.TILE_SLICE_ERRADDR, k.i, 0⟩ 0

/-- A write of TILE_MS_LINKERR: a 1 in a count zeroes it (R331). -/
def Sys.linkerrWrite (s : Sys) (n : Nat) (v : Word) : Sys :=
  s.each [F.TILE_MS_LINKERR_NORTH, F.TILE_MS_LINKERR_EAST, F.TILE_MS_LINKERR_SOUTH, F.TILE_MS_LINKERR_WEST]
    (fun s f => if fget v f.lo f.wd = 0 then s else s.put f 0 n)

/-- A write under the access codes alone (R7). -/
def Sys.plainWrite (s : Sys) (k : RK) (v : Word) : Sys := s.wr k (accWrite k.reg.rows s.isSealed (s.rd k) v)

/-- A write of SPN_CTL (R64, R73): FWD as it is measured when RECAL is written; what the command does not carry is a free value. -/
def Sys.spnCtlSet (s : Sys) (v : Word) (fwd : Option Nat) : Sys :=
  match fwd with
  | some f => s.spnCtlWrite v f
  | none => if fget v 1 1 = 1 then s.usedFree.spnCtlWrite v (s.freeVal 24) else s.spnCtlWrite v 0

/-- What a write of a register of the global blocks does. -/
def M.globalWrite (x : M) (w : Who) (k : RK) (v : Word) (fwd : Option Nat) : M :=
  match k.reg with
  | .SYS_CS_STATUS => x.on (fun s => s.csStatusWrite k.i v)
  | .SYS_QOS_HOLDCNT => x.on (fun s => s.when (fget v 63 1 == 1) (fun s => s.put F.SYS_QOS_HOLDCNT_SPANS_HELD 0 k.i))
  | .SYS_KCTL => x.on (fun s => s.kctlWrite k.i v)
  | .SPN_CTL => x.on (fun s => s.spnCtlSet v fwd)
  | .SPN_CFG => x.on (fun s => s.spnCfgWrite v)
  | .SPN_TIME_LOAD => x.on (fun s => s.timeLoad v)
  | .SPN_SCHED_TX0 => x.on (fun s => s.schedTxWrite v true)
  | .SPN_SCHED_TX1 => x.on (fun s => s.schedTxWrite v false)
  | .SPN_SCHED_RX0 => x.on (fun s => s.when (fget v 63 1 == 1) Sys.schedPop)
  | .SPN_OVERRUN => x.on (fun s => s.overrunWrite v)
  | .ZNX_CMD => x.znxOp w.core (fget v 0 8)
  | .ZNX_REFLOW_TARGET => x.on (fun s => s.targetWrite v)
  | .FCR_STICKY => x.on (fun s => s.stickyWrite k.i v)
  | .FCR_CLASS => x.on (fun s => s.classWrite k.i v)
  | .FCR_KPEND => x.on (fun s => s.kpendWrite v)
  | .FCR_HEEL => x.on (fun s => s.fcrHeelWrite v w.tether)
  | .FCR_INJECT => x.on (fun s => s.injectWrite v)
  | .PWR_KREL => x.on (fun s => s.krelWrite v)
  | .PWR_RST_CTL => x.on (fun s => s.rstCtlWrite v w.tether)
  | .PWR_SHOLD => x.sholdWrite k.i v w.secure
  | .OWN_INV => x.on (fun s => s.ownInvWrite v)
  | .OWN_CMD => x.ownCmd v
  | .OWN_DENY => x.on (fun s => s.denyWrite v)
  | _ => x.on (fun s => s.plainWrite k v)

/-- What a write of a register of the interrupt concentrator does (ch. 11). -/
def Sys.icnWrite (s : Sys) (w : Who) (k : RK) (v : Word) : Sys :=
  let d := (s.domOf k).getD 0
  match k.reg with
  | .ICN_WIRE => ((s.plainWrite k v).wireCheck k.i).icnSyncAll
  | .ICN_DOM_MSG => s.icnMessage k.i (fget v 0 12) w.secure
  | .ICN_DOM_PTAB => s.ptabWrite k v
  | .ICN_DOM_LOST => (s.plainWrite k v).icnSync k.i
  | .ICN_CTX_CLAIM | .ICN_MCTX_CLAIM | .ICN_DRM_CLAIM => s.icnComplete d (fget v 0 12)
  | .ICN_CTX_THRESH | .ICN_MCTX_THRESH | .ICN_DRM_THRESH => s.threshWrite d k v
  | .ICN_GRP => (s.plainWrite k v).icnSync k.i
  | .ICN_GCTX => s.gctxWrite k.i k.j v
  | .ICN_SRC => s.srcWrite k.i k.j v w.secure
  | _ => s.plainWrite k v

/-- What a write of a register of a tile or memory controller does (ch. 7, 8, 9, 10, 16); TILE_SHOLD of a tile is its PWR_SHOLD (R402). -/
def M.tileWrite (x : M) (w : Who) (k : RK) (v : Word) : M :=
  match k.reg with
  | .PWR_SHOLD => x.sholdWrite k.i v w.secure
  | .TILE_CORE_MCLOG | .TILE_SLICE_ERRLOG => x.on (fun s => s.logWrite k v)
  | .TILE_CORE_TEST => x.coreTestWrite w k v
  | .TILE_CACHE_CTL => x.on (fun s => s.cacheCtlWrite (4 * k.i + k.j) v)
  | .TILE_SLICE_CTL => x.on (fun s => s.sliceCtlWrite k.i v)
  | .TILE_MS_LINKERR => x.on (fun s => s.linkerrWrite k.i v)
  | .TILE_CORE_PWR => x.corePwrWrite w k v
  | .TILE_PACK_FREQ => x.reqWrite k (fput v 0 12 (fget v 0 12 / 25 * 25)) w.secure w.kennel
  | .TILE_CORE_START => (x.on (fun s =>
      (s.put F.TILE_CORE_START_ENTRY (fget v 2 50) k.i k.j).when (fget v 62 1 == 1) (fun s => s.put F.TILE_CORE_START_ERR 0 k.i k.j))).reqWrite k v w.secure w.kennel
  | .MC_CTL =>
    (x.on (fun s => s.mcCtlWrite k.i (fput (fput v F.MC_CTL_SR.lo 1 0) F.MC_CTL_PWR_OFF.lo 1 (s.rf F.MC_CTL_PWR_OFF k.i)))).reqWrite k v w.secure w.kennel
  | .MC_WQ_WM => x.on (fun s => s.wqWrite k.i v)
  | .MC_SPD => x.on (fun s => s.spdWrite k.i v)
  | .MC_RETRAIN_CFG => x.on (fun s => s.retrainCfgWrite k.i v)
  | .MC_ERR_LOG => x.on (fun s => s.when (fget v 63 1 == 1) (fun s => s.mcLogClear k.i))
  | .MC_DEV_MARK => x.on (fun s => s.devMarkWrite k.i k.j v)
  | .MC_CE_THRESH => x.on (fun s => s.ceThreshWrite k.i v)
  | .MC_PPR_CTL => x.on (fun s => s.pprCtlWrite k.i v)
  | .MC_REGION_CFG | .MC_REGION_LIMIT => x.on (fun s => s.regionWrite k v)
  | _ => x.on (fun s => s.plainWrite k v)

/-- What a write of a register of a port, Brace link, the Retriever or the mailbox does (ch. 8, 12, 13, 14). -/
def M.deviceWrite (x : M) (w : Who) (k : RK) (v : Word) : M :=
  match k.reg with
  | .IOP_CFG => x.on (fun s => s.iopCfgWrite k.i v)
  | .IOP_LINK_CTL => (x.reqWrite k v w.secure w.kennel).on (fun s => s.linkCtlWrite k.i k.j v)
  | .IOP_LINK_INTX => x.on (fun s => (s.plainWrite k v).intxSync k.i k.j)
  | .IOP_LINK_ERR => x.on (fun s => s.linkErrWrite k.i k.j v)
  | .IOP_LINK_CXL => x.on (fun s => s.linkCxlWrite k.i k.j v)
  | .IOP_EP_CTL => x.on (fun s => s.epCtlWrite k.i v)
  | .IOP_EP_ID | .IOP_EP_BAR => x.on (fun s => s.epIdWrite k v)
  | .IOP_EP_INTX => x.on (fun s => s.epIntxWrite k.i v)
  | .IOP_EP_MSI => x.on (fun s => s.epMsiWrite k.i (fget v 0 5))
  | .IOP_EP_XCOMMIT => x.on (fun s => s.xcommitWrite k.i v)
  | .IOP_EP_XLAT | .IOP_EP_XLAT_TGT => x.on (fun s => s.xlatWrite k v)
  | .BRC_CTL => x.on (fun s => s.when (fget v 1 1 == 1) (fun s => s.put F.BRC_STATUS_REPLAYS 0 k.i))
  | .RTV_ENG_CTL => (x.on (fun s => s.engCtlWrite k.i (fput v 1 1 0))).reqWrite k v w.secure w.kennel
  | .RTV_CH_BIND => x.on (fun s => s.bindWrite k.i v)
  | .RTV_CH_RING => x.on (fun s => s.ringWrite k.i v)
  | .RTV_CH_TAIL => x.on (fun s => s.tailWrite k.i (fget v 0 16))
  | .RTV_CH_CTL => x.on (fun s => s.chCtlWrite k.i v)
  | .DRM_MB_DOORBELL => x.on (fun s => s.doorbell k.i v)
  | .DRM_MB_STATUS | .DRM_MB_NOTICE => x.on (fun s => s.mailboxWrite k v)
  | _ => x.on (fun s => s.plainWrite k v)

/-- What a write of a register does, once it is applied. -/
def M.regWrite (x : M) (w : Who) (k : RK) (off : Nat) (v : Word) (fwd : Option Nat) : M :=
  if !x.sys.present k then x
  else if off < 0x100000 ∨ (0x200000 ≤ off ∧ off < 0x1000000) then x.globalWrite w k v fwd
  else if off < 0x200000 then x.on (fun s => s.icnWrite w k v)
  else if off < 0x3000000 then x.tileWrite w k v
  else x.deviceWrite w k v

/-! ## The access (R7, R11, R23 to R33, R37, R611 to R615) -/

/-- The register permits a 32-bit access (R614). -/
def Reg.half (r : Reg) : Bool :=
  match r with
  | .ICN_CTX_CLAIM | .ICN_MCTX_CLAIM | .ICN_DRM_CLAIM | .ICN_DOM_MSG | .RTV_CH_TAIL => true
  | _ => false

/-- The requester's path reaches the register for this access (R28, R615). -/
def Who.reaches (w : Who) (p : Path) (write : Bool) : Bool :=
  match p with
  | .b | .bc => true
  | .m => !w.tether
  | .tw => w.tether || !write
  | .b15 => w.tether || !write || w.kennel == 15
  | .l => false

/-- A register takes its access: reads return its value, writes meet the precedence of the paths (R31 to R33). -/
def M.regPerform (x : M) (w : Who) (k : RK) (off size : Nat) (write : Option Word) (fwd : Option Nat) : M :=
  let cut := fun (v : Word) => if size = 4 then v &&& 0xFFFFFFFF else v
  let x := x.on (fun s => match s.domOf k with | some d => s.clockRestart d false | none => s)
  match write with
  | none =>
    if x.sys.readWaits k then x.on (fun s => s.answer .waiting)
    else
      let (v, t) := x.sys.regRead k.canon
      { x with sys := t.answer (.done (cut v)) }
  | some v =>
    let v := cut v
    let k := k.canon
    if w.tether then ((x.on (fun s => s.tetherApply k off)).regWrite w k off v fwd).on (fun s => s.answer (.done 0))
    else match x.sys.meshApply k off w.kennel w.secure with
      | (false, t) => { x with sys := t.answer (.done 0) }
      | (true, t) => ({ x with sys := t }.regWrite w k off v fwd).on (fun s => s.answer (.done 0))

/-- The Tether root latches a failure (R508): 1 ERROR, 2 TIMEOUT, 3 REFUSED. -/
def Sys.tetherLatch (s : Sys) (core status : Nat) (write : Bool) (off : Nat) : Sys :=
  (((s.put F.DRM_TETHER_ERR_VALID 1 core).put F.DRM_TETHER_ERR_STATUS status core).put F.DRM_TETHER_ERR_WRITE (b2n write) core).put
    F.DRM_TETHER_ERR_OFFSET off core

/-- An access is not performed: its answer, and for the Tether the root's latch with a status. -/
def Sys.refuseAs (s : Sys) (w : Who) (status : Nat) (write : Bool) (off : Nat) : Sys :=
  (s.when w.tether (fun s => s.tetherLatch w.core status write off)).answer (w.refusal write)

/-- An access by an identified requester: by its size and alignment at the Tether's root (R508), its offset (R37, R611), the station's chain
(R24), its size at the station (R11, R614), its page (R29), its path (R615) and its unit (R26). -/
def M.accessAs (x : M) (w : Who) (off size : Nat) (write : Option Word) (fwd : Option Nat) : M :=
  let s := x.sys
  let st := stationAt off
  let wr := write.isSome
  let no := x.on (fun s => s.refuseAs w 1 wr off)
  if w.tether && !((size = 8 || size = 4) && off % size = 0) then x.on (fun s => s.refuseAs w 3 wr off)
  else match s.regAt off with
  | none => no
  | some k =>
    if w.tether && s.stations.chainFailed.contains st then
      x.on (fun s => { s with resp := .waiting, stations := { s.stations with waits := s.stations.waits ++ [⟨w.core, off, wr, none⟩] } })
    else if !(off = s.offsetOf k && (size = 8 || (size = 4 && k.reg.half))) then
      (if w.tether then no.on (fun s => s.put F.SYS_CS_STATUS_TETHER_ERR 1 st) else no)
    -- any requester may read SYS_ID (R15)
    else if !w.tether && !(k.reg == .SYS_ID && !wr) && !s.pageAdmits (off / 4096) w.kennel w.secure then no
    else if !w.reaches k.reg.path wr then no
    else if k.reg.heldInUnit && s.unitOff st then
      x.on (fun s => (s.put F.SYS_CS_STATUS_OFF_ACCESS 1 st).answer (.done 0))
    else x.regPerform w k off size write fwd

/-- An access of register space: the answer stands in `resp`. -/
def M.regAccess (x : M) (req : Requester) (off size : Nat) (write : Option Word) : M :=
  let (w, t) := x.sys.whoIs req
  { x with sys := t }.accessAs w off size write none

/-- An access of 8 bytes at the offset of a named register. A source that no window holds has no offset: its access is of an unnamed one
(R412, R611). -/
def M.rowAccess (x : M) (req : Requester) (k : RK) (write : Option Word) (fwd : Option Nat) : M :=
  let (w, t) := x.sys.whoIs req
  let x := { x with sys := t }
  if t.regAt (t.offsetOf k) = some k then x.accessAs w (t.offsetOf k) 8 write fwd
  else x.on (fun s => s.answer (w.refusal write.isSome))

/-- A write of a named register of 8 bytes. -/
def M.rowWrite (x : M) (req : Requester) (k : RK) (v : Word) (fwd : Option Nat := none) : M := x.rowAccess req k (some v) fwd

/-- A read of a named register of 8 bytes. -/
def M.rowRead (x : M) (req : Requester) (k : RK) : M := x.rowAccess req k none none

/-! ## Postings and clocks of domains (R426 to R428, R431) -/

/-- The region registers admit a posting's write of a byte (R397, R426). -/
def Sys.postAdmits (s : Sys) (d pa : Nat) : Bool := s.regionOk pa d false true

/-- One byte 0x01 is written to memory, coherently. -/
def M.putOne (x : M) (pa : Nat) : M :=
  let (d, p) := x.peek (pa / 64)
  x.replaceLine (pa / 64) (linePut d (pa % 64) 8 1) p

/-- POSTING_DONE (R426, R428). -/
def M.postingDone (x : M) (d id : Nat) : M :=
  match x.sys.icn.postings.find? (fun p => p.dom = d ∧ p.id = id) with
  | none => x
  | some q =>
    let x := x.on (fun s => { s with icn := { s.icn with postings := s.icn.postings.filter (fun p => !(p.dom = d && p.id = id)) } })
    let b := x.sys.rf F.ICN_DOM_PTAB_BASE d * 4096
    let a1 := b + 0x1000 * (1 + q.vcpu) + id
    let a2 := b + q.vcpu
    if x.sys.postAdmits d a1 && x.sys.postAdmits d a2 then
      ((x.putOne a1).putOne a2).on (fun s => ((s.put F.ICN_SRC_PENDING 0 d id).unadmit d id).srcEvent d 4)
    else
      let x := if x.sys.postAdmits d a1 then x.putOne a1 else x
      x.on (fun s => ((s.put F.ICN_DOM_STATUS_POST_DENY 1 d).put F.ICN_SRC_ROUTE_OFF 1 d id).icnSync d)

/-- The contexts of a domain show no request line. -/
def Sys.linesQuiet (s : Sys) (d : Nat) : Bool :=
  !(s.regs.any (fun (q : RK × Word) =>
    (q.1.reg = .ICN_CTX_THRESH || q.1.reg = .ICN_MCTX_THRESH || q.1.reg = .ICN_DRM_THRESH) && s.domOf q.1 = some d && fget q.2 63 1 = 1))

/-- DOMAIN_CLOCK_STOP (R431). -/
def Sys.clockStop (s : Sys) (d : Nat) : Sys :=
  let asleep :=
    (s.kennelHarts d).all (fun h => s.coreState h == psCs3 || s.countsCs4 h) ||
      (d == 15 && (below 4).all (fun e => s.rf F.DRM_CORE_CTL_STATE e != 1))
  let event := s.icn.waiting.any (fun m => m.dom = d) || s.icn.latched.any (fun p => p.1 = d)
  if asleep && s.linesQuiet d && (below 64).all (fun g => !s.grpHeld d g) && !event then s.put F.ICN_DOM_CFG_CLK_STOPPED 1 d else s

/-- DOMAIN_CLOCK_RESTART (R431): by a latch event or a waiting message. -/
def Sys.clockWake (s : Sys) (d : Nat) : Sys :=
  if s.icn.waiting.any (fun m => m.dom = d) || s.icn.latched.any (fun p => p.1 = d) || (s.srcIds d).any (fun id => s.srcLevel d id && s.srcPending d id)
  then s.clockRestart d true else s

end Sys2Proof.Machine
end

