-- ==== Sys2Proof/Machine/Rows.lean ====
section
/-!
DEFINITION. The commands that are one access of a register: each sets the field that the command is about and leaves the rest of the value
as the command carries it.
-/
namespace Sys2Proof.Machine

/-- The claim register of a context. -/
def ClaimCtx.claim (c : ClaimCtx) : RK :=
  match c with
  | .m h => ⟨.ICN_MCTX_CLAIM, h.val, 0⟩
  | .s h g => ⟨.ICN_CTX_CLAIM, h.val, g.val⟩
  | .drm d => ⟨.ICN_DRM_CLAIM, 15, d.val⟩

/-- The bits of one level of TILE_CACHE_CTL: EN, INV and FLUSH from its base (R263). -/
def lvSet (lv off v : Nat) (w : Word) : Word := fput w (lvBase lv + off) 1 v

/-- The register of a core in its tile. -/
def coreReg (r : Reg) (h : Fin 256) : RK := ⟨r, h.val / 4, h.val % 4⟩

/-! ## Any register (R7, R8, R24) -/

def execRegisterWrite (req : Requester) (offset : BitVec 43) (size : Size) (value : Word) (s : State) : Host.Outcome State Fault Refusal :=
  onM (fun x => x.regAccess req offset.toNat size.bytes (some value)) s
def execClearingRead (req : Requester) (offset : BitVec 43) (size : Size) (s : State) : Host.Outcome State Fault Refusal :=
  onM (fun x => x.regAccess req offset.toNat size.bytes none) s


/-! ## Span and Leash (ch. 2) -/

def execSpnCfgWrite (req : Requester) (value : Word) (s : State) : Host.Outcome State Fault Refusal :=
  onM (fun x => x.rowWrite req ⟨.SPN_CFG, 0, 0⟩ value) s
def execLeashEnable (req : Requester) (value : Word) (s : State) : Host.Outcome State Fault Refusal :=
  onM (fun x => x.rowWrite req ⟨.SPN_CTL, 0, 0⟩ (fput value 0 1 1)) s
def execLeashDisable (req : Requester) (value : Word) (s : State) : Host.Outcome State Fault Refusal :=
  onM (fun x => x.rowWrite req ⟨.SPN_CTL, 0, 0⟩ (fput value 0 1 0)) s
def execLeashRecal (req : Requester) (value : Word) (fwd : BitVec 24) (s : State) : Host.Outcome State Fault Refusal :=
  onM (fun x => x.rowWrite req ⟨.SPN_CTL, 0, 0⟩ (fput value 1 1 1) (some fwd.toNat)) s
def execSchedSend (req : Requester) (value : Word) (s : State) : Host.Outcome State Fault Refusal :=
  onM (fun x => x.rowWrite req ⟨.SPN_SCHED_TX0, 0, 0⟩ (fput value 63 1 1)) s
def execSchedRxPop (req : Requester) (s : State) : Host.Outcome State Fault Refusal :=
  onM (fun x => x.rowWrite req ⟨.SPN_SCHED_RX0, 0, 0⟩ (fput 0 63 1 1)) s
def execTimeLoad (req : Requester) (value : Word) (s : State) : Host.Outcome State Fault Refusal :=
  onM (fun x => x.rowWrite req ⟨.SPN_TIME_LOAD, 0, 0⟩ value) s
def execOverrunClr (req : Requester) (s : State) : Host.Outcome State Fault Refusal :=
  onM (fun x => x.rowWrite req ⟨.SPN_OVERRUN, 0, 0⟩ (fput 0 31 1 1)) s

/-! ## The ZNX block (R75, R109): Tether writes of ZNX_CMD -/

def execClaim (core : Fin 4) (s : State) : Host.Outcome State Fault Refusal :=
  onM (fun x => x.rowWrite (.tether core) ⟨.ZNX_CMD, 0, 0⟩ 0x1) s
def execRelease (core : Fin 4) (s : State) : Host.Outcome State Fault Refusal :=
  onM (fun x => x.rowWrite (.tether core) ⟨.ZNX_CMD, 0, 0⟩ 0x2) s
def execVerify (core : Fin 4) (s : State) : Host.Outcome State Fault Refusal :=
  onM (fun x => x.rowWrite (.tether core) ⟨.ZNX_CMD, 0, 0⟩ 0x10) s
def execApply (core : Fin 4) (s : State) : Host.Outcome State Fault Refusal :=
  onM (fun x => x.rowWrite (.tether core) ⟨.ZNX_CMD, 0, 0⟩ 0x11) s
def execSeal (core : Fin 4) (s : State) : Host.Outcome State Fault Refusal :=
  onM (fun x => x.rowWrite (.tether core) ⟨.ZNX_CMD, 0, 0⟩ 0x12) s
def execArm (core : Fin 4) (s : State) : Host.Outcome State Fault Refusal :=
  onM (fun x => x.rowWrite (.tether core) ⟨.ZNX_CMD, 0, 0⟩ 0x21) s
def execCancel (core : Fin 4) (s : State) : Host.Outcome State Fault Refusal :=
  onM (fun x => x.rowWrite (.tether core) ⟨.ZNX_CMD, 0, 0⟩ 0x22) s
/-- ZNX_INVALID_OP: an OP that the table of R109 does not name. -/
def execZnxInvalidOp (core : Fin 4) (op : Byte) (s : State) : Host.Outcome State Fault Refusal :=
  onM (fun x => x.rowWrite (.tether core) ⟨.ZNX_CMD, 0, 0⟩ (if [1, 2, 0x10, 0x11, 0x12, 0x21, 0x22].contains op.toNat then 0 else op.setWidth 64)) s

/-! ## Caches and slices (ch. 7) -/

def execCacheInv (req : Requester) (h : Fin 256) (level : Fin 3) (value : Word) (s : State) : Host.Outcome State Fault Refusal :=
  onM (fun x => x.rowWrite req (coreReg .TILE_CACHE_CTL h) (lvSet level 1 1 value)) s
def execCacheEnable (req : Requester) (h : Fin 256) (level : Fin 3) (value : Word) (s : State) : Host.Outcome State Fault Refusal :=
  onM (fun x => x.rowWrite req (coreReg .TILE_CACHE_CTL h) (lvSet level 0 1 value)) s
def execCacheDisable (req : Requester) (h : Fin 256) (level : Fin 3) (value : Word) (s : State) : Host.Outcome State Fault Refusal :=
  onM (fun x => x.rowWrite req (coreReg .TILE_CACHE_CTL h) (lvSet level 0 0 value)) s
/-- CACHE_FLUSH: of the L1D (0) or the L2 (1). -/
def execCacheFlush (req : Requester) (h : Fin 256) (level : Fin 2) (value : Word) (s : State) : Host.Outcome State Fault Refusal :=
  onM (fun x => x.rowWrite req (coreReg .TILE_CACHE_CTL h) (lvSet (level + 1) 2 1 value)) s
def execInvDoneObserve (req : Requester) (n : Fin 64) (core : Option (Fin 4)) (s : State) : Host.Outcome State Fault Refusal :=
  onM (fun x => x.rowRead req (match core with | some c => ⟨.TILE_CACHE_CTL, n, c⟩ | none => ⟨.TILE_SLICE_CTL, n, 0⟩)) s
def execSliceEnable (req : Requester) (n : Fin 64) (value : Word) (s : State) : Host.Outcome State Fault Refusal :=
  onM (fun x => x.rowWrite req ⟨.TILE_SLICE_CTL, n, 0⟩ (fput value 0 1 1)) s
def execSliceDisable (req : Requester) (n : Fin 64) (value : Word) (s : State) : Host.Outcome State Fault Refusal :=
  onM (fun x => x.rowWrite req ⟨.TILE_SLICE_CTL, n, 0⟩ (fput value 0 1 0)) s
def execSliceRetire (req : Requester) (n : Fin 64) (value : Word) (s : State) : Host.Outcome State Fault Refusal :=
  onM (fun x => x.rowWrite req ⟨.TILE_SLICE_CTL, n, 0⟩ (fput value 4 1 1)) s
def execSliceBist (req : Requester) (n : Fin 64) (value : Word) (s : State) : Host.Outcome State Fault Refusal :=
  onM (fun x => x.rowWrite req ⟨.TILE_SLICE_CTL, n, 0⟩ (fput value 5 1 1)) s

/-! ## Mesh, Brace and grains (ch. 8) -/

def execBrcClrReplays (req : Requester) (b : Fin 3) (s : State) : Host.Outcome State Fault Refusal :=
  onM (fun x => x.rowWrite req ⟨.BRC_CTL, b, 0⟩ (fput 0 1 1 1)) s
def execQosHoldcntClr (req : Requester) (kennel : Fin 16) (s : State) : Host.Outcome State Fault Refusal :=
  onM (fun x => x.rowWrite req ⟨.SYS_QOS_HOLDCNT, kennel, 0⟩ (fput 0 63 1 1)) s

/-! ## Memory channels (ch. 9) -/

def execTrain (req : Requester) (m : Fin 16) (value : Word) (s : State) : Host.Outcome State Fault Refusal :=
  onM (fun x => x.rowWrite req ⟨.MC_CTL, m, 0⟩ (fput value F.MC_CTL_TRAIN.lo 1 1)) s
def execRetrain (req : Requester) (m : Fin 16) (value : Word) (s : State) : Host.Outcome State Fault Refusal :=
  onM (fun x => x.rowWrite req ⟨.MC_CTL, m, 0⟩ (fput value F.MC_CTL_RETRAIN.lo 1 1)) s
def execMcEn (req : Requester) (m : Fin 16) (value : Word) (s : State) : Host.Outcome State Fault Refusal :=
  onM (fun x => x.rowWrite req ⟨.MC_CTL, m, 0⟩ (fput value F.MC_CTL_EN.lo 1 1)) s
def execEvacuate (req : Requester) (m : Fin 16) (value : Word) (s : State) : Host.Outcome State Fault Refusal :=
  onM (fun x => x.rowWrite req ⟨.MC_CTL, m, 0⟩ (fput value F.MC_CTL_EVACUATE.lo 1 1)) s
def execResilver (req : Requester) (m : Fin 16) (value : Word) (s : State) : Host.Outcome State Fault Refusal :=
  onM (fun x => x.rowWrite req ⟨.MC_CTL, m, 0⟩ (fput value F.MC_CTL_RESILVER.lo 1 1)) s
def execSr (req : Requester) (m : Fin 16) (value : Word) (s : State) : Host.Outcome State Fault Refusal :=
  onM (fun x => x.rowWrite req ⟨.MC_CTL, m, 0⟩ (fput value F.MC_CTL_SR.lo 1 1)) s
def execPwrOff (req : Requester) (m : Fin 16) (value : Word) (s : State) : Host.Outcome State Fault Refusal :=
  onM (fun x => x.rowWrite req ⟨.MC_CTL, m, 0⟩ (fput value F.MC_CTL_PWR_OFF.lo 1 1)) s
def execPprStart (req : Requester) (m : Fin 16) (value : Word) (s : State) : Host.Outcome State Fault Refusal :=
  onM (fun x => x.rowWrite req ⟨.MC_PPR_CTL, m, 0⟩ (fput value 63 1 1)) s
def execSpdRead (req : Requester) (m : Fin 16) (value : Word) (s : State) : Host.Outcome State Fault Refusal :=
  onM (fun x => x.rowWrite req ⟨.MC_SPD, m, 0⟩ (fput value 63 1 1)) s

/-! ## Kennels, ownership and hold counts (ch. 10) -/

def execKennelStop (req : Requester) (k : Fin 16) (value : Word) (s : State) : Host.Outcome State Fault Refusal :=
  onM (fun x => x.rowWrite req ⟨.SYS_KCTL, k, 0⟩ (fput value 2 1 1)) s
def execKennelReset (req : Requester) (k : Fin 16) (value : Word) (s : State) : Host.Outcome State Fault Refusal :=
  onM (fun x => x.rowWrite req ⟨.SYS_KCTL, k, 0⟩ (fput value 1 1 1)) s
def execOwnInv (req : Requester) (value : Word) (s : State) : Host.Outcome State Fault Refusal :=
  onM (fun x => x.rowWrite req ⟨.OWN_INV, 0, 0⟩ (fput value 63 1 1)) s
def execSet (req : Requester) (value : Word) (s : State) : Host.Outcome State Fault Refusal :=
  onM (fun x => x.rowWrite req ⟨.OWN_CMD, 0, 0⟩ (fput (fput value 63 1 1) 56 2 1)) s
def execReleaseOwnership (req : Requester) (value : Word) (s : State) : Host.Outcome State Fault Refusal :=
  onM (fun x => x.rowWrite req ⟨.OWN_CMD, 0, 0⟩ (fput (fput value 63 1 1) 56 2 2)) s
/-- PWR_SHOLD of a station, at its own address or at its tile's (R402). -/
def sholdKey (station : Fin 109) (viaTile : Bool) : RK := if viaTile && decide (station.val < 64) then ⟨.TILE_SHOLD, station, 0⟩ else ⟨.PWR_SHOLD, station, 0⟩
def execSholdIncrement (req : Requester) (station : Fin 109) (viaTile : Bool) (value : Word) (s : State) : Host.Outcome State Fault Refusal :=
  onM (fun x => x.rowWrite req (sholdKey station viaTile) (fput value 32 2 1)) s
def execSholdDecrement (req : Requester) (station : Fin 109) (viaTile : Bool) (value : Word) (s : State) : Host.Outcome State Fault Refusal :=
  onM (fun x => x.rowWrite req (sholdKey station viaTile) (fput value 32 2 2)) s

/-! ## Interrupts (ch. 11) -/

def execIcnClaim (req : Requester) (ctx : ClaimCtx) (s : State) : Host.Outcome State Fault Refusal := onM (fun x => x.rowRead req ctx.claim) s
def execIcnComplete (req : Requester) (ctx : ClaimCtx) (id : BitVec 12) (s : State) : Host.Outcome State Fault Refusal :=
  onM (fun x => x.rowWrite req ctx.claim (id.setWidth 64)) s
def execIcnMessage (req : Requester) (dom : Fin 16) (value : Word) (s : State) : Host.Outcome State Fault Refusal :=
  onM (fun x => x.rowWrite req ⟨.ICN_DOM_MSG, dom, 0⟩ value) s
def execSourceSet (req : Requester) (dom : Fin 16) (id : Fin 4095) (value : Word) (s : State) : Host.Outcome State Fault Refusal :=
  onM (fun x => x.rowWrite req ⟨.ICN_SRC, dom, id⟩ (fput value 61 1 1)) s
def execSourceClr (req : Requester) (dom : Fin 16) (id : Fin 4095) (value : Word) (s : State) : Host.Outcome State Fault Refusal :=
  onM (fun x => x.rowWrite req ⟨.ICN_SRC, dom, id⟩ (fput value 60 1 1)) s
def execSourceRouteWrite (req : Requester) (dom : Fin 16) (id : Fin 4095) (value : Word) (s : State) : Host.Outcome State Fault Refusal :=
  onM (fun x => x.rowWrite req ⟨.ICN_SRC, dom, id⟩ value) s
def execThresholdWrite (req : Requester) (ctx : ClaimCtx) (value : Word) (s : State) : Host.Outcome State Fault Refusal :=
  onM (fun x => x.rowWrite req ctx.claim.thresh value) s
def execIcnGctxWrite (req : Requester) (h : Fin 256) (g : Fin 8) (value : Word) (s : State) : Host.Outcome State Fault Refusal :=
  onM (fun x => x.rowWrite req ⟨.ICN_GCTX, h, g⟩ value) s
def execIcnGctxRead (req : Requester) (h : Fin 256) (g : Fin 8) (s : State) : Host.Outcome State Fault Refusal :=
  onM (fun x => x.rowRead req ⟨.ICN_GCTX, h, g⟩) s
def execPostVcpu (dom : Fin 16) (id : Fin 4095) (s : State) : Host.Outcome State Fault Refusal := onSys (fun s => s.postStart dom id) s
def execPostingDone (dom : Fin 16) (id : Fin 4095) (s : State) : Host.Outcome State Fault Refusal := onM (fun x => x.postingDone dom id) s
def execDomainClockStop (dom : Fin 16) (s : State) : Host.Outcome State Fault Refusal := onSys (fun s => s.clockStop dom) s
def execDomainClockRestart (dom : Fin 16) (s : State) : Host.Outcome State Fault Refusal := onSys (fun s => s.clockWake dom) s
def execHoldoffExpiry (dom : Fin 16) (g : Fin 64) (s : State) : Host.Outcome State Fault Refusal := onSys (fun s => s.holdoffEnd dom g) s
def execWiredEdge (w : Fin 16) (s : State) : Host.Outcome State Fault Refusal := onSys (fun s => s.wireEdge w) s
def execWiredLevel (w : Fin 16) (level : Bool) (s : State) : Host.Outcome State Fault Refusal := onSys (fun s => s.wireLevel w level) s

/-! ## Ports (ch. 12) -/

def execXlatCommit (req : Requester) (p : Fin 8) (value : Word) (s : State) : Host.Outcome State Fault Refusal :=
  onM (fun x => x.rowWrite req ⟨.IOP_EP_XCOMMIT, p, 0⟩ (fput value 63 1 1)) s
def execEpMsiRequest (req : Requester) (p : Fin 8) (value : Word) (s : State) : Host.Outcome State Fault Refusal :=
  onM (fun x => x.rowWrite req ⟨.IOP_EP_MSI, p, 0⟩ value) s
def execEpIntxWrite (req : Requester) (p : Fin 8) (value : Word) (s : State) : Host.Outcome State Fault Refusal :=
  onM (fun x => x.rowWrite req ⟨.IOP_EP_INTX, p, 0⟩ value) s
def execLinkEn (req : Requester) (p : Fin 8) (value : Word) (s : State) : Host.Outcome State Fault Refusal :=
  onM (fun x => x.rowWrite req ⟨.IOP_EP_CTL, p, 0⟩ (fput value 0 1 1)) s
def execPerstRel (req : Requester) (p : Fin 8) (j : Fin 4) (value : Word) (s : State) : Host.Outcome State Fault Refusal :=
  onM (fun x => x.rowWrite req ⟨.IOP_LINK_CTL, p, j⟩ (fput value 61 1 1)) s
def execLinkRetrain (req : Requester) (p : Fin 8) (j : Fin 4) (value : Word) (s : State) : Host.Outcome State Fault Refusal :=
  onM (fun x => x.rowWrite req ⟨.IOP_LINK_CTL, p, j⟩ (fput value 63 1 1)) s
def execDpcRelease (req : Requester) (p : Fin 8) (j : Fin 4) (value : Word) (s : State) : Host.Outcome State Fault Refusal :=
  onM (fun x => x.rowWrite req ⟨.IOP_LINK_CTL, p, j⟩ (fput value 62 1 1)) s
def execLinkPwrReq (req : Requester) (p : Fin 8) (j : Fin 4) (value : Word) (s : State) : Host.Outcome State Fault Refusal :=
  onM (fun x => x.rowWrite req ⟨.IOP_LINK_CTL, p, j⟩ value) s

/-! ## Retriever (ch. 13) -/

def execChTailWrite (req : Requester) (c : Fin 512) (value : Word) (s : State) : Host.Outcome State Fault Refusal :=
  onM (fun x => x.rowWrite req ⟨.RTV_CH_TAIL, c, 0⟩ value) s
def execChAbort (req : Requester) (c : Fin 512) (value : Word) (s : State) : Host.Outcome State Fault Refusal :=
  onM (fun x => x.rowWrite req ⟨.RTV_CH_CTL, c, 0⟩ (fput value 62 1 1)) s
def execChEnable (req : Requester) (c : Fin 512) (value : Word) (s : State) : Host.Outcome State Fault Refusal :=
  onM (fun x => x.rowWrite req ⟨.RTV_CH_CTL, c, 0⟩ (fput value 63 1 1)) s
/-- CH_DISABLE: a write of ENABLE 0 that asks for no abort. -/
def execChDisable (req : Requester) (c : Fin 512) (value : Word) (s : State) : Host.Outcome State Fault Refusal :=
  onM (fun x => x.rowWrite req ⟨.RTV_CH_CTL, c, 0⟩ (fput (fput value 63 1 0) 62 1 0)) s
def execChBind (req : Requester) (c : Fin 512) (value : Word) (s : State) : Host.Outcome State Fault Refusal :=
  onM (fun x => x.rowWrite req ⟨.RTV_CH_BIND, c, 0⟩ (fput value 63 1 1)) s
def execChUnbind (req : Requester) (c : Fin 512) (value : Word) (s : State) : Host.Outcome State Fault Refusal :=
  onM (fun x => x.rowWrite req ⟨.RTV_CH_BIND, c, 0⟩ (fput value 63 1 0)) s
def execEngineReset (req : Requester) (e : Fin 8) (value : Word) (s : State) : Host.Outcome State Fault Refusal :=
  onM (fun x => x.rowWrite req ⟨.RTV_ENG_CTL, e, 0⟩ (fput value 1 1 1)) s
def execEnginePwrReq (req : Requester) (e : Fin 8) (value : Word) (s : State) : Host.Outcome State Fault Refusal :=
  onM (fun x => x.rowWrite req ⟨.RTV_ENG_CTL, e, 0⟩ value) s

/-! ## The mailbox (R511) -/

def execMbDoorbell (req : Requester) (page : Fin 32) (value : Word) (s : State) : Host.Outcome State Fault Refusal :=
  onM (fun x => x.rowWrite req ⟨.DRM_MB_DOORBELL, page, 0⟩ (fput value 63 1 1)) s
def execMbStatusWrite (core : Fin 4) (page : Fin 32) (value : Word) (s : State) : Host.Outcome State Fault Refusal :=
  onM (fun x => x.rowWrite (.tether core) ⟨.DRM_MB_STATUS, page, 0⟩ value) s
def execMbNoticeWrite (core : Fin 4) (page : Fin 32) (value : Word) (s : State) : Host.Outcome State Fault Refusal :=
  onM (fun x => x.rowWrite (.tether core) ⟨.DRM_MB_NOTICE, page, 0⟩ value) s

/-! ## Faults (ch. 15) -/

def execHeelCmd (req : Requester) (value : Word) (s : State) : Host.Outcome State Fault Refusal :=
  onM (fun x => x.rowWrite req ⟨.FCR_HEEL, 0, 0⟩ (fput value 56 8 0xA5)) s
def execDumpDone (req : Requester) (value : Word) (s : State) : Host.Outcome State Fault Refusal :=
  onM (fun x => x.rowWrite req ⟨.FCR_HEEL, 0, 0⟩ (fput value 47 1 1)) s
def execInjectEvent (req : Requester) (value : Word) (s : State) : Host.Outcome State Fault Refusal :=
  onM (fun x => x.rowWrite req ⟨.FCR_INJECT, 0, 0⟩ (fput value 63 1 1)) s
def execInjectCollector (req : Requester) (value : Word) (s : State) : Host.Outcome State Fault Refusal :=
  onM (fun x => x.rowWrite req ⟨.FCR_INJECT, 0, 0⟩ (fput value 62 1 1)) s
def execCoreOffline (req : Requester) (h : Fin 256) (value : Word) (s : State) : Host.Outcome State Fault Refusal :=
  onM (fun x => x.rowWrite req (coreReg .TILE_CORE_TEST h) (fput value 63 1 1)) s
def execCoreLbist (req : Requester) (h : Fin 256) (value : Word) (s : State) : Host.Outcome State Fault Refusal :=
  onM (fun x => x.rowWrite req (coreReg .TILE_CORE_TEST h) (fput value 62 1 1)) s

/-! ## Power and reset (ch. 16) -/

/-- CORE_FORCE_STATE: REQ 2, 3 or 4; another REQ in the value is taken as 2. -/
def execCoreForceState (req : Requester) (h : Fin 256) (value : Word) (s : State) : Host.Outcome State Fault Refusal :=
  onM (fun x => x.rowWrite req (coreReg .TILE_CORE_PWR h) (fput value 0 3 (if [2, 3, 4].contains (fget value 0 3) then fget value 0 3 else 2))) s
def execCoreForceRelease (req : Requester) (h : Fin 256) (value : Word) (s : State) : Host.Outcome State Fault Refusal :=
  onM (fun x => x.rowWrite req (coreReg .TILE_CORE_PWR h) (fput value 0 3 0)) s
def execCoreStopRequest (req : Requester) (h : Fin 256) (value : Word) (s : State) : Host.Outcome State Fault Refusal :=
  onM (fun x => x.rowWrite req (coreReg .TILE_CORE_PWR h) (fput value 0 3 7)) s
def execCoreUnitReset (req : Requester) (h : Fin 256) (value : Word) (s : State) : Host.Outcome State Fault Refusal :=
  onM (fun x => x.rowWrite req (coreReg .TILE_CORE_PWR h) (fput value 63 1 1)) s
def execKennelRelease (req : Requester) (value : Word) (s : State) : Host.Outcome State Fault Refusal :=
  onM (fun x => x.rowWrite req ⟨.PWR_KREL, 0, 0⟩ (fput value 63 1 1)) s
def execCoreStart (req : Requester) (h : Fin 256) (value : Word) (s : State) : Host.Outcome State Fault Refusal :=
  onM (fun x => x.rowWrite req (coreReg .TILE_CORE_START h) (fput value 63 1 1)) s
def execPackFreqRequest (req : Requester) (n : Fin 64) (value : Word) (s : State) : Host.Outcome State Fault Refusal :=
  onM (fun x => x.rowWrite req ⟨.TILE_PACK_FREQ, n, 0⟩ value) s
def execWarmResetCmd (req : Requester) (value : Word) (s : State) : Host.Outcome State Fault Refusal :=
  onM (fun x => x.rowWrite req ⟨.PWR_RST_CTL, 0, 0⟩ (fput value 56 8 0x5A)) s

end Sys2Proof.Machine
end

