-- ==== Sys2Proof/Machine/Derrum.lean ====
section
/-!
DEFINITION. The Derrum complex (ch. 14): a service core's accesses and traps, translation and locked slots, the fetch buffer and flash
interface, the local SRAM, the sideband port, and the services of Derrum firmware. A service core's other instructions are no
commands; what they have left arrives with the access that follows them (`DrmCtx`).
-/
namespace Sys2Proof.Machine

/-! ## Service cores (R491, R505, R506, R517) -/

/-- A service core executes: it is RUNNING, not halted for debug, and waits for no Tether access. -/
def Sys.drmRuns (s : Sys) (d : Nat) : Bool :=
  s.rf F.DRM_CORE_CTL_STATE d == 1 && !(s.dcore d).halted && !s.stations.waits.any (fun w => w.core = d ∧ w.va.isSome)

def DrmCore.get (c : DrmCore) (n : Nat) : Word := Bank.getD c.csr n 0
def DrmCore.cf (c : DrmCore) (n lo wd : Nat) : Nat := fget (c.get n) lo wd
def DrmCore.cput (c : DrmCore) (n lo wd v : Nat) : DrmCore := { c with csr := Bank.set c.csr n (fput (c.get n) lo wd v) }

/-- A CSR that an earlier instruction wrote: satp takes Bare and Sv39 only (R491). -/
def DrmCore.write (c : DrmCore) (n : Nat) (v : Word) : DrmCore :=
  if n = 0x180 ∧ !([0, 8].contains (fget v 60 4)) then c else { c with csr := Bank.set c.csr n v }

/-- sfence.vma (R503): unlocked entries go, all or those of an address, and global ones too unless it names an ASID. -/
def DrmCore.fence (c : DrmCore) (va : Option Word) (keepGlobal : Bool) : DrmCore :=
  { c with tlb := c.tlb.filter (fun e =>
      !((va.all (fun (a : Word) => a.toNat % 2 ^ 39 / 2 ^ e.s = e.vpn)) && !(keepGlobal && bit e.flags 5))) }

/-- What the instructions before an access have left (`DrmCtx`); there is no privilege 2. -/
def Sys.drmCtx (s : Sys) (d : Nat) (ctx : DrmCtx) : Sys :=
  s.onDcore d (fun c =>
    let c := { c with pc := ctx.pc, priv := if ctx.priv.val = 2 then 3 else ctx.priv.val }
    let c := ctx.csrs.foldl (fun (c : DrmCore) (q : BitVec 12 × Word) => c.write q.1.toNat q.2) c
    ctx.fences.foldl (fun (c : DrmCore) (q : Option Word × Bool) => c.fence q.1 q.2) c)

/-- An exception of a service core, as the RISC-V Privileged Architecture takes it (R491); it applies every CSR write at once (R506). -/
def DrmCore.trap (c : DrmCore) (cause : Nat) (tval : Word) : DrmCore :=
  let c := { c with late := [] }
  if c.priv ≤ 1 && bit (c.get 0x302).toNat cause then
    let c := { c with csr := Bank.set (Bank.set (Bank.set c.csr 0x141 c.pc) 0x142 (BitVec.ofNat 64 cause)) 0x143 tval }
    let c := ((c.cput 0x300 5 1 (c.cf 0x300 1 1)).cput 0x300 1 1 0).cput 0x300 8 1 c.priv
    { c with priv := 1, pc := c.get 0x105 &&& ~~~3 }
  else
    let c := { c with csr := Bank.set (Bank.set (Bank.set c.csr 0x341 c.pc) 0x342 (BitVec.ofNat 64 cause)) 0x343 tval }
    let c := ((c.cput 0x300 7 1 (c.cf 0x300 3 1)).cput 0x300 3 1 0).cput 0x300 11 2 c.priv
    { c with priv := 3, pc := c.get 0x305 &&& ~~~3 }

def Sys.drmTrap (s : Sys) (d cause : Nat) (tval : Word) : Sys := s.onDcore d (fun c => c.trap cause tval)

/-- An illegal-instruction exception: what mtval holds the spec leaves to the architecture (a free value). -/
def Sys.drmIllegal (s : Sys) (d : Nat) : Sys := (s.drmTrap d 2 (BitVec.ofNat 64 (s.freeVal 64))).usedFree

/-- DRM_CORE_CTL.RUN written 1: a HELD core starts at flash offset 0; in any other state nothing happens (R505, R509). -/
def Sys.coreRun (s : Sys) (t : Nat) : Sys :=
  if s.rf F.DRM_CORE_CTL_STATE t = 0 then
    let s := (((s.put F.DRM_CORE_CTL_STATE 1 t).put F.DRM_CORE_CTL_RUN 1 t).dcoreTo t .cold).clockRestart 15 false
    s.each [Reg.dmctl, Reg.dmlock, Reg.dmlkva] (fun s r => s.wr ⟨r, t, 0⟩ r.coldWord)
  else s

/-- DRM_CORE_LOST (R517): the core stops and its state is lost; with none left the outcome is fatal. -/
def Sys.drmLost (s : Sys) (d : Nat) : Sys :=
  if [1, 2].contains (s.rf F.DRM_CORE_CTL_STATE d) then
    let s := ((s.put F.DRM_CORE_CTL_STATE 3 d).dcoreTo d .cold).raise (srcGlobal 17)
    if (below 4).any (fun e => [1, 2].contains (s.rf F.DRM_CORE_CTL_STATE e)) then s else s.heel 5 0x7FF
  else s

/-! ## Local SRAM (R502) -/

def sramBase : Nat := 0x000FD00000000000
def sramSize : Nat := 0x80000

/-- DRM_SRAM_ERR latches an event, and its FCR source is raised (R502, R509). -/
def Sys.sramLog (s : Sys) (word : Nat) (ue : Bool) : Sys :=
  let s := s.latch F.DRM_SRAM_ERR_VALID F.DRM_SRAM_ERR_OVERFLOW F.DRM_SRAM_ERR_CE_COUNT 0 (s.on F.DRM_SRAM_ERR_UE) ue (!ue) (fun s =>
    (s.put F.DRM_SRAM_ERR_UE (b2n ue)).put F.DRM_SRAM_ERR_WORD word)
  s.raise (srcGlobal (if ue then 16 else 15))

/-- A word of the SRAM is uncorrectable. -/
def Sys.sramBad (s : Sys) (word : Nat) : Bool := s.drm.badWords.contains word

/-- A read of an SRAM word finds it uncorrectable. -/
def Sys.sramUe (s : Sys) (word : Nat) : Sys :=
  { s with drm := { s.drm with badWords := if s.sramBad word then s.drm.badWords else s.drm.badWords ++ [word] } }.sramLog word true

/-- Bytes are stored into the SRAM: a whole word clears its error, every reservation of a word ends, and VERIFY may read old or new
(R74, R491, R502). -/
def M.sramStore (x : M) (off : Nat) (bs : List Byte) : M :=
  let x := x.write (sramOps off bs)
  x.on (fun s =>
    let whole := fun (w : Nat) => decide (off ≤ 8 * w) && decide (8 * w + 8 ≤ off + bs.length)
    let hit := fun (w : Nat) => decide (8 * w < off + bs.length) && decide (off < 8 * w + 8)
    let s := { s with drm := { s.drm with
      badWords := s.drm.badWords.filter (fun w => !whole w)
      cores := s.drm.cores.map (fun (q : Nat × DrmCore) => (q.1, if q.2.resv.any hit then { q.2 with resv := none } else q.2)) } }
    s.each (bs.mapIdx (fun i b => (off + i, b))) (fun s (q : Nat × Byte) => s.znxRace q.1 q.2))

/-- SRAM_SCRUB: the scrubber reads the next word. -/
def Sys.sramScrub (s : Sys) (r : SramResult) : Sys :=
  let w := s.drm.scrub
  let s := { s with drm := { s.drm with scrub := (w + 1) % 65536 } }
  if s.sramBad w then s.sramUe w
  else match r with
  | .clean => s
  | .corrected => s.sramLog w false
  | .bad => s.sramUe w

/-- SRAM_ERROR: a service core's load or fetch meets an error (R502). -/
def Sys.sramError (s : Sys) (d : Nat) (pc : Word) (word : Nat) (fetch corrected : Bool) : Sys :=
  if !s.drmRuns d then s
  else if corrected && !s.sramBad word then s.sramLog word false
  else (s.onDcore d (fun c => { c with pc := pc })).sramUe word |>.drmTrap d 19 (if fetch then 0 else BitVec.ofNat 64 (sramBase + 8 * word))

/-! ## Translation (R503, R504) -/

/-- The privilege an access of a kind takes (mstatus.MPRV). -/
def DrmCore.effPriv (c : DrmCore) (ty : AccTy) : Nat := if ty != .fetch && c.cf 0x300 17 1 == 1 then c.cf 0x300 11 2 else c.priv

/-- The PMP of a service core admits an access. -/
def DrmCore.pmp (c : DrmCore) (pa n : Nat) (ty : AccTy) (priv : Nat) : Bool := ({ Hart.cold with csr := c.csr } : Hart).pmpOk pa n ty priv

/-- How a walk ends. -/
inductive DrmWalk where
  | exc (cause : Nat)
  /-- an uncorrectable PTE of an SRAM word -/
  | bad (word : Nat)
  | leaf (e : DrmTlb)
  deriving DecidableEq, Repr

/-- The Sv39 walk from a table: PTEs from the SRAM only (R503). -/
def M.drmWalk (x : M) (c : DrmCore) (va : Nat) (ty : AccTy) (base : Nat) : List Nat → DrmWalk
  | [] => .exc ty.pageFault
  | lv :: rest =>
    let s := 12 + 9 * lv
    let a := base + va / 2 ^ s % 512 * 8
    let w := (a - sramBase) / 8
    if a < sramBase ∨ sramBase + sramSize < a + 8 ∨ c.pmp a 8 .load 1 = false then .exc ty.accessFault
    else if x.sys.sramBad w then .bad w
    else
      let v := leNat (x.mem.sramBytes (a - sramBase) 8)
      let ppn := v / 2 ^ 10 % 2 ^ 44
      if v / 2 ^ 54 ≠ 0 || !bit v 0 || (bit v 2 && !bit v 1) then .exc ty.pageFault
      else if bit v 1 || bit v 3 then
        (if ppn % 2 ^ (9 * lv) ≠ 0 then .exc ty.pageFault else .leaf ⟨va % 2 ^ 39 / 2 ^ s, s, ppn * 4096, v % 256⟩)
      else if bit v 4 || bit v 6 || bit v 7 then .exc ty.pageFault
      else M.drmWalk x c va ty (ppn * 4096) rest

/-- A service core's address is canonical for Sv39. -/
def sv39Ok (va : Nat) : Bool := va / 2 ^ 38 == 0 || va / 2 ^ 38 == 2 ^ 26 - 1

/-- The entry that translates an address: from the locked slots, the TLB, or a walk; permissions, A and D are checked (R503). -/
def M.drmEntry (x : M) (c : DrmCore) (va : Nat) (ty : AccTy) (tlb : Bool) : DrmWalk :=
  let priv := c.effPriv ty
  let ok := fun (e : DrmTlb) => permOk e.flags ty priv (c.cf 0x300 18 1 == 1) (c.cf 0x300 19 1 == 1) false && adNeed e.flags ty == 0
  if !sv39Ok va then .exc ty.pageFault
  else
    let held := if tlb then (c.slots.map (·.2) ++ c.tlb).find? (fun e => va % 2 ^ 39 / 2 ^ e.s = e.vpn) else none
    match held with
    | some e => if ok e then .leaf e else .exc ty.pageFault
    | none =>
      match x.drmWalk c va ty (c.cf 0x180 0 44 * 4096) [2, 1, 0] with
      | .leaf e => if ok e then .leaf e else .exc ty.pageFault
      | r => r

/-- The TLB holds at most 32 entries, locked ones among them; which unlocked one gives way the spec does not say. -/
def Sys.drmFit (s : Sys) (d : Nat) : Sys :=
  let c := s.dcore d
  if c.tlb.length + c.slots.length ≤ 32 then s
  else
    let i := s.freeVal 8 % max 1 (c.tlb.length - 1)
    (s.dcoreTo d { c with tlb := c.tlb.eraseIdx (i + 1) }).usedFree

/-- The TLB takes an entry. -/
def Sys.drmInstall (s : Sys) (d : Nat) (e : DrmTlb) : Sys :=
  if ((s.dcore d).slots.any (fun q => q.2 = e)) || (s.dcore d).tlb.contains e then s
  else (s.onDcore d (fun c => { c with tlb := e :: c.tlb })).drmFit d

/-- The physical address of an access, or its exception; the TLB takes the entry. -/
def M.drmTranslate (x : M) (d va n : Nat) (ty : AccTy) : Option Nat × M :=
  let c := x.sys.dcore d
  let priv := c.effPriv ty
  let tval := BitVec.ofNat 64 va
  let final := fun (x : M) (pa : Nat) =>
    if decide (pa + n ≤ 2 ^ 52) && c.pmp pa n ty priv then (some pa, x) else (none, x.on (fun s => s.drmTrap d ty.accessFault tval))
  if priv = 3 || c.cf 0x180 60 4 = 0 then final x va
  else match x.drmEntry c va ty true with
  | .exc cause => (none, x.on (fun s => s.drmTrap d cause tval))
  | .bad w => (none, x.on (fun s => (s.sramUe w).drmTrap d 19 tval))
  | .leaf e => final (x.on (fun s => s.drmInstall d e)) (e.pa + va % 2 ^ e.s)

/-- An address that a service core may reach by an access of a kind (R493). -/
def drmReach (pa : Nat) (ty : AccTy) : Bool :=
  if decide (sramBase ≤ pa) && decide (pa < sramBase + sramSize) then true
  else if decide (flashBase ≤ pa) && decide (pa < flashBase + 0x10000000) then ty != .store
  else ty != .fetch && (decide (pa < sramBase) || (decide (0xFD20000000000 ≤ pa) && decide (pa < 0xFD20006000000)) ||
    (decide (0xFD30000000000 ≤ pa) && decide (pa < 0xFD30000001000)) || decide (0xFD40000000000 ≤ pa))

/-- DM_LOCK (R504): the walk of dmlkva; no exception is raised. -/
def M.dmLock (x : M) (d : Nat) (va value : Word) : M :=
  let k : RK := ⟨.dmlock, d, 0⟩
  let x := x.on (fun s => (s.wr ⟨.dmlkva, d, 0⟩ va).wr k (fput (fput (s.rd k) 0 3 (fget value 0 3)) 4 2 (fget value 4 2)))
  let slot := fget value 0 3
  let kind := fget value 4 2
  let c := x.sys.dcore d
  let ty := if kind = 0 then AccTy.load else if kind = 1 then .store else .fetch
  let res := fun (x : M) (r cause : Nat) => x.on (fun s => s.wr k (fput (fput (s.rd k) 32 4 r) 16 16 cause))
  if c.slots.any (fun q => q.1 = slot) then res x 1 0
  else if kind = 3 then res x 3 2
  else if c.effPriv ty = 3 || c.cf 0x180 60 4 = 0 then res x 2 0
  else match x.drmEntry c va.toNat ty false with
  | .exc cause => res x 3 cause
  | .bad w => res (x.on (fun s => s.sramUe w)) 3 19
  | .leaf e =>
    let pa := e.pa + va.toNat % 2 ^ e.s
    if c.pmp pa 1 ty (c.effPriv ty) && drmReach pa ty && !(decide (pa < sramBase) && x.sys.noSuchRange pa) then
      let x := x.on (fun s => (s.onDcore d (fun c => { c with slots := c.slots ++ [(slot, e)] })).drmFit d)
      res (x.on (fun s => s.wr k (fput (s.rd k) (40 + slot) 1 1))) 0 0
    else res x 3 ty.accessFault

/-- DM_UNLOCK (R504). -/
def Sys.dmUnlock (s : Sys) (d : Nat) (value : Word) : Sys :=
  let k : RK := ⟨.dmlock, d, 0⟩
  let slot := fget value 0 3
  let s := s.wr k (fput (fput (s.rd k) 0 3 slot) 4 2 (fget value 4 2))
  let res := fun (s : Sys) (r : Nat) => s.wr k (fput (fput (s.rd k) 32 4 r) 16 16 0)
  if (s.dcore d).slots.any (fun q => q.1 = slot) then
    let s := s.onDcore d (fun c => { c with slots := c.slots.filter (fun q => q.1 ≠ slot) })
    res (s.wr k (fput (s.rd k) (40 + slot) 1 0)) 0
  else res s 4

/-- A write of dmctl (R499, R505, R506): read back at once; in the two issue groups after it either value may govern. -/
def Sys.dmctlWrite (s : Sys) (d : Nat) (v : Word) : Sys :=
  let k : RK := ⟨.dmctl, d, 0⟩
  let old := s.rd k
  let s := s.wr k (accWrite rows_dmctl s.isSealed old v)
  s.onDcore d (fun c => { c with
    late := c.late.filter (fun l => l.reg ≠ .dmctl) ++ [⟨.dmctl, old, 2⟩]
    btb := if fget v 7 1 = 1 then [] else c.btb })

/-- A Derrum CSR is reached in M-mode only (R505). -/
def M.drmCsr (x : M) (d : Nat) (f : M → M) : M :=
  if !x.sys.drmRuns d then x
  else if (x.sys.dcore d).priv = 3 then f x else x.on (fun s => s.drmIllegal d)

/-! ## Fetch buffer and flash (R498, R500, R501) -/

/-- A line of flash in the fetch buffer. -/
def Sys.fbLine (s : Sys) (line : Nat) : Option (BitVec 512) := s.drm.fb.lookup line

/-- A line becomes the most recently used of the fetch buffer. -/
def Sys.fbTouch (s : Sys) (line : Nat) : Sys :=
  match s.fbLine line with
  | some d => { s with drm := { s.drm with fb := (line, d) :: s.drm.fb.filter (fun (q : Nat × BitVec 512) => q.1 ≠ line) } }
  | none => s

/-- FLASH_FILL (R498, R499): a hit, or a fill queued behind the demand misses before it; prefetches follow every demand miss. -/
def Sys.flashFill (s : Sys) (d line : Nat) (demand : Bool) : Sys :=
  let q := s.drm.fills
  let set := fun (s : Sys) (l : List FlashReq) => { s with drm := { s.drm with fills := l } }
  if !s.drmRuns d then s
  else if (s.fbLine line).isSome then s.when demand (fun s => s.fbTouch line)
  else if !demand && (!s.on F.dmctl_PF_EN d || 2 ≤ (q.filter (fun r => r.core = d ∧ !r.demand)).length) then s
  else if q.any (fun r => r.line = line) then (if demand then set s (q.map (fun r => if r.line = line then { r with demand := true } else r)) else s)
  else if 8 ≤ q.length then s
  else if demand then
    -- the head is in flight
    let rest := q.drop 1
    set s (q.take 1 ++ rest.filter (·.demand) ++ [⟨line, true, d⟩] ++ rest.filter (fun r => !r.demand))
  else set s (q ++ [⟨line, false, d⟩])

/-- With no flash transfer in progress the settings of DRM_FLASH_CFG are in force (R500). -/
def Sys.flashCfgNow (s : Sys) : Sys := { s with drm := { s.drm with cfgNow := s.rd ⟨.DRM_FLASH_CFG, 0, 0⟩ } }

/-- FLASH_FILL_DONE: the oldest fill ends; the least recently used of 8 lines of its set gives way. Fills wait while a command runs. -/
def Sys.flashFillDone (s : Sys) (data : BitVec 512) : Sys :=
  match s.drm.fills, s.drm.cmd with
  | r :: rest, .none =>
    let fb := s.drm.fb
    let mine := fb.filter (fun (q : Nat × BitVec 512) => q.1 % 64 = r.line % 64)
    let old := if 8 ≤ mine.length then (mine.getLast?).map (fun (q : Nat × BitVec 512) => q.1) else none
    let fb := fb.filter (fun (q : Nat × BitVec 512) => old ≠ some q.1)
    ({ s with drm := { s.drm with fills := rest, drop := false, fb := if s.drm.drop then s.drm.fb else (r.line, data) :: fb } } : Sys).flashCfgNow
  | _, _ => s

/-- A write of DRM_FLASH_CMD (R501, R509): ignored while GO is 1. -/
def Sys.flashCmdWrite (s : Sys) (v : Word) : Sys :=
  let k : RK := ⟨.DRM_FLASH_CMD, 0, 0⟩
  if s.on F.DRM_FLASH_CMD_GO then s
  else
    let v := fput (fput v 46 2 (min 2 (fget v 46 2))) 32 9 (min 256 (fget v 32 9))
    let s := s.wr k (accWrite rows_DRM_FLASH_CMD s.isSealed (s.rd k) v)
    s.when (fget v 63 1 == 1) (fun s => { s with drm := { s.drm with cmd := .running } })

/-- The flash command has ended. -/
def Sys.flashCmdEnd (s : Sys) : Sys := ({ s.put F.DRM_FLASH_CMD_GO 0 with drm := { s.drm with cmd := .none } } : Sys)

/-- The bytes of a list as the little-endian word `i`. -/
def wordOf (bs : List Byte) (i : Nat) : Word := BitVec.ofNat 64 (leNat ((bs.drop (8 * i)).take 8))

/-- FLASH_CMD_DONE: data read goes to DRM_FLASH_DATA; with WAIT the status is polled. -/
def Sys.flashCmdDone (s : Sys) (data : List Byte) : Sys :=
  if s.drm.cmd ≠ .running then s
  else
    let n := s.rf F.DRM_FLASH_CMD_LEN
    let s := if s.on F.DRM_FLASH_CMD_WRITE then s
      else s.each (below 32) (fun s i =>
        let have_ := min (n - 8 * i) (data.length - 8 * i)
        let m := min 8 have_
        s.wr ⟨.DRM_FLASH_DATA, i, 0⟩ (fput (s.rd ⟨.DRM_FLASH_DATA, i, 0⟩) 0 (8 * m) (wordOf data i).toNat))
    if s.on F.DRM_FLASH_CMD_WAIT then { s with drm := { s.drm with cmd := .polling } } else s.flashCmdEnd

/-- FLASH_WIP_TIMEOUT. -/
def Sys.wipTimeout (s : Sys) : Sys :=
  if s.drm.cmd = .polling then ((s.put F.DRM_FLASH_CMD_ERR 1).flashCmdEnd).raise (srcGlobal 18) else s

/-- WRITE_IN_PROGRESS_CLEAR. -/
def Sys.wipClear (s : Sys) : Sys := if s.drm.cmd = .polling then s.flashCmdEnd else s

/-- A write of DRM_FLASH_CFG (R500, R501, R509): FB_INV empties the fetch buffer and discards a fill in flight. -/
def Sys.flashCfgWrite (s : Sys) (v : Word) : Sys :=
  let k : RK := ⟨.DRM_FLASH_CFG, 0, 0⟩
  let v' := fput (fput v 24 2 (if fget v 24 2 = 3 then 0 else fget v 24 2)) 0 8 (max 1 (fget v 0 8))
  let s := s.wr k (fput (accWrite rows_DRM_FLASH_CFG s.isSealed (s.rd k) v') 63 1 0)
  let s := s.when (fget v 63 1 == 1) (fun s => { s with drm := { s.drm with fb := [], drop := !s.drm.fills.isEmpty } })
  if s.drm.fills.isEmpty && s.drm.cmd == .none then s.flashCfgNow else s

/-! ## The sideband port (R512 to R515) -/

def sbNotReady : Nat := 0
def sbIdle : Nat := 1
def sbFilling : Nat := 2
def sbCommitted : Nat := 3
def sbResponding : Nat := 4

def Sys.sbState (s : Sys) : Nat := s.rf F.DRM_SB_CTL_STATE
def Sys.onSb (s : Sys) (f : SbSt → SbSt) : Sys := { s with drm := { s.drm with sb := f s.drm.sb } }

/-- The port leaves a state: local interrupt 16 and the alert follow the state. -/
def Sys.sbTo (s : Sys) (st : Nat) : Sys :=
  let s := (s.put F.DRM_SB_CTL_STATE st).onSb (fun b => { b with alert := decide (st = sbResponding) })
  let s := { s with drm := { s.drm with local16 := if st = sbCommitted then [s.rf F.DRM_SB_CTL_CORE] else [] } }
  if st = sbResponding then s else s.put F.DRM_SB_CTL_RSP_GO 0

/-- Both buffers are emptied. -/
def Sys.sbEmpty (s : Sys) : Sys := (s.onSb (fun b => { b with req := [], rsp := [] })).put F.DRM_SB_CTL_REQ_LEN 0

/-- The request is rejected with a code. -/
def Sys.sbReject (s : Sys) (code : Nat) : Sys := s.put F.DRM_SB_CTL_REJECT_CODE code

/-- The controller reads bytes, or its transfer is refused. -/
def Sys.sbOut (s : Sys) (bs : List Byte) (nack : Bool) : Sys := s.onSb (fun b => { b with out := bs, nack := nack })

/-- SB_STATUS (R513). -/
def Sys.sbStatus (s : Sys) : Sys :=
  let st := s.sbState
  let b := s.drm.sb
  let code := s.rf F.DRM_SB_CTL_REJECT_CODE
  let b0 := s.rf F.DRM_SB_CTL_READY + 2 * b2n (st == sbCommitted) + 4 * b2n (st == sbResponding) + 8 * b2n (code != 0)
  s.sbOut ([BitVec.ofNat 8 b0, BitVec.ofNat 8 code, BitVec.ofNat 8 b.seq, BitVec.ofNat 8 b.rspSeq] ++ natLe 2 b.req.length ++ natLe 2 b.rsp.length) false

/-- SB_APPEND (R514): 1 to 32 bytes. -/
def Sys.sbAppend (s : Sys) (bs : List Byte) : Sys :=
  let st := s.sbState
  let s := s.sbOut [] false
  if bs.isEmpty || 32 < bs.length then s
  else if st = sbNotReady then s.sbReject 6
  else if st = sbCommitted then s.sbReject 5
  else if st = sbResponding then s
  else if 256 < s.drm.sb.req.length + bs.length then ((s.onSb (fun b => { b with req := [] })).sbTo sbIdle).sbReject 4
  else (s.onSb (fun b => { b with req := b.req ++ bs })).sbTo sbFilling

/-- The code of the check that a frame fails: 1 LEN, 2 CRC, 3 SEQ (R513, R514). -/
def sbCheck (f : List Byte) (seq : Byte) : Option Nat :=
  let n := f.length
  if n < 6 || leNat ((f.drop 2).take 2) + 6 ≠ n then some 1
  else if (crc16 (f.take (n - 2))).toNat ≠ leNat (f.drop (n - 2)) then some 2
  else if f.head? ≠ some seq then some 3
  else none

/-- SB_COMMIT (R514). -/
def Sys.sbCommit (s : Sys) (seq : Byte) : Sys :=
  let st := s.sbState
  let s := s.sbOut [] false
  if st = sbNotReady then s.sbReject 6
  else if st = sbCommitted then s.sbReject 5
  else if st ≠ sbFilling then s
  else
    let f := s.drm.sb.req
    match sbCheck f seq with
    | some code => ((s.onSb (fun b => { b with req := [] })).sbTo sbIdle).sbReject code
    | none =>
      let s := s.each (below 32) (fun s i => s.wr ⟨.DRM_SB_REQ, i, 0⟩ (wordOf f i))
      ((s.put F.DRM_SB_CTL_REQ_LEN f.length).onSb (fun b => { b with seq := seq.toNat })).sbTo sbCommitted

/-- SB_READ_RESPONSE (R513, R514): 1 to 32 bytes; past the end 0xFF. -/
def Sys.sbRead (s : Sys) (n : Nat) : Sys :=
  let n := min 32 n
  let b := s.drm.sb
  let got := if s.sbState = sbResponding then b.rsp.take n else []
  let s := s.sbOut (got ++ List.replicate (n - got.length) 0xFF) false
  if s.sbState = sbResponding && n != 0 then
    let s := s.onSb (fun b => { b with rsp := b.rsp.drop n })
    if s.drm.sb.rsp.isEmpty then s.sbEmpty.sbTo sbIdle else s
  else s

/-- SB_ABANDON (R514). -/
def Sys.sbAbandon (s : Sys) : Sys :=
  let s := s.sbOut [] false
  if s.sbState = sbNotReady then s else s.sbEmpty.sbTo sbIdle

/-- SB_INVALID_CODE: a code that R513 does not give is refused. -/
def Sys.sbInvalid (s : Sys) (code : Nat) : Sys := if 1 ≤ code && code ≤ 5 then s else s.sbOut [] true

/-- A write of DRM_SB_CTL (R514, R515). -/
def Sys.sbCtlWrite (s : Sys) (v : Word) : Sys :=
  let s := ((s.put F.DRM_SB_CTL_RSP_LEN (fget v 48 9)).put F.DRM_SB_CTL_CORE (fget v 4 2)).put F.DRM_SB_CTL_READY (fget v 0 1)
  if fget v 0 1 = 0 then s.sbEmpty.sbTo sbNotReady
  else
    let s := s.when (s.sbState == sbNotReady) (fun s => s.sbTo sbIdle)
    if fget v 63 1 = 1 && s.sbState = sbCommitted then
      let frame := ((below 32).flatMap (fun i => natLe 8 (s.rd ⟨.DRM_SB_RSP, i, 0⟩).toNat)).take (fget v 48 9)
      let s := s.onSb (fun b => { b with rsp := frame, rspSeq := ((frame.head?).getD 0).toNat })
      (s.put F.DRM_SB_CTL_RSP_GO 1).sbTo sbResponding
    else s

/-! ## Accesses of a service core (R493, R494, R507 to R509) -/

/-- The local register at an offset of the local range (R509, R515). -/
def localAt (o : Nat) : Option RK :=
  let i := fun (b : Nat) => (o - b) / 8
  if o % 8 ≠ 0 then none
  else if o < 0x20 then some ⟨.DRM_CORE_CTL, i 0, 0⟩
  else if o = 0x40 then some ⟨.DRM_TIME, 0, 0⟩
  else if 0x48 ≤ o ∧ o < 0x68 then some ⟨.DRM_TIMECMP, i 0x48, 0⟩
  else if 0x68 ≤ o ∧ o < 0x88 then some ⟨.DRM_MSIP, i 0x68, 0⟩
  else if 0x88 ≤ o ∧ o < 0xA8 then some ⟨.DRM_TETHER_ERR, i 0x88, 0⟩
  else if o = 0x100 then some ⟨.DRM_FLASH_CFG, 0, 0⟩
  else if o = 0x108 then some ⟨.DRM_FLASH_CMD, 0, 0⟩
  else if o = 0x120 then some ⟨.DRM_SRAM_ERR, 0, 0⟩
  else if o = 0x200 then some ⟨.DRM_SB_CTL, 0, 0⟩
  else if 0x300 ≤ o ∧ o < 0x400 then some ⟨.DRM_SB_REQ, i 0x300, 0⟩
  else if 0x400 ≤ o ∧ o < 0x500 then some ⟨.DRM_SB_RSP, i 0x400, 0⟩
  else if 0x500 ≤ o ∧ o < 0x600 then some ⟨.DRM_FLASH_DATA, i 0x500, 0⟩
  else none

/-- A write of a local register. -/
def Sys.localWrite (s : Sys) (k : RK) (v : Word) : Sys :=
  match k.reg with
  | .DRM_CORE_CTL => s.when (fget v 0 1 == 1) (fun s => s.coreRun k.i)
  | .DRM_FLASH_CFG => s.flashCfgWrite v
  | .DRM_FLASH_CMD => s.flashCmdWrite v
  | .DRM_SRAM_ERR =>
    s.when (fget v 63 1 == 1) (fun s => ((s.put F.DRM_SRAM_ERR_VALID 0).put F.DRM_SRAM_ERR_OVERFLOW 0).put F.DRM_SRAM_ERR_CE_COUNT 0)
  | .DRM_SB_CTL => s.sbCtlWrite v
  | _ => s.plainWrite k v

/-- A read of a local register: DRM_TIME is the timebase. -/
def Sys.localRead (s : Sys) (k : RK) : Word := if k.reg = .DRM_TIME then BitVec.ofNat 64 s.span.now else s.rd k

/-- The register a load fills. -/
def DrmCore.load (c : DrmCore) (rd : Nat) (signed : Bool) (n : Nat) (v : Nat) : DrmCore :=
  if rd = 0 then c else { c with x := Bank.set c.x rd (BitVec.ofNat 64 (if signed then sext (8 * n) v else v % 2 ^ (8 * n))) }

/-- A load or store of a service core. -/
def DrmAccess.write : DrmAccess → Option Word
  | .load _ _ => none
  | .store v => some v

/-- An access that the register path has answered ends in the core. -/
def M.drmAnswered (x : M) (d n : Nat) (va : Word) (what : DrmAccess) : M :=
  let ty := match what with | .load _ _ => AccTy.load | .store _ => .store
  match x.sys.resp with
  | .done v =>
    match what with
    | .load rd sg => x.on (fun s => s.onDcore d (fun c => c.load rd.val sg n v.toNat))
    | .store _ => x
  | .waiting => x
  | _ => x.on (fun s => s.drmTrap d ty.accessFault va)

/-- An access at a physical address (R493). Memory and device windows are reached by the rows of their requests. -/
def M.drmAt (x : M) (d : Nat) (va : Word) (pa n : Nat) (what : DrmAccess) : M :=
  let ty := match what with | .load _ _ => AccTy.load | .store _ => .store
  let fault := x.on (fun s => s.drmTrap d ty.accessFault va)
  let fill := fun (x : M) (v : Nat) => match what with
    | .load rd sg => x.on (fun s => s.onDcore d (fun c => c.load rd.val sg n v))
    | .store _ => x
  if sramBase ≤ pa ∧ pa < sramBase + sramSize then
    let off := pa - sramBase
    match what with
    | .load _ _ =>
      if x.sys.sramBad (off / 8) then x.on (fun s => (s.sramUe (off / 8)).drmTrap d 19 va) else fill x (leNat (x.mem.sramBytes off n))
    | .store v => x.sramStore off (natLe n v.toNat)
  else if flashBase ≤ pa ∧ pa < flashBase + 0x10000000 then
    let o := pa - flashBase
    match what with
    | .load _ _ =>
      match x.sys.fbLine (o / 64) with
      | some l => fill (x.on (fun s => s.fbTouch (o / 64))) (l.toNat / 2 ^ (8 * (o % 64)))
      | none => x.on (fun s => (s.flashFill d (o / 64) true).answer .waiting)
    | .store _ => fault
  else if 0xFD20000000000 ≤ pa ∧ pa < 0xFD20006000000 then
    let x := x.regAccess (.tether (Fin.ofNat 4 d)) (pa - 0xFD20000000000) n what.write
    let x := if x.sys.resp = .waiting then x.on (fun s => { s with stations := { s.stations with
        waits := s.stations.waits.map (fun w => if w.core = d ∧ w.va = none ∧ w.offset = pa - 0xFD20000000000 then { w with va := some va } else w) } }) else x
    x.drmAnswered d n va what
  else if 0xFD30000000000 ≤ pa ∧ pa < 0xFD30000001000 then
    if n ≠ 8 then fault
    else match localAt (pa - 0xFD30000000000), what with
    | some k, .load _ _ => fill x (x.sys.localRead k).toNat
    | some k, .store v => x.on (fun s => s.localWrite k v)
    | none, .load _ _ => (fill x (x.sys.freeVal 64)).on Sys.usedFree
    | none, .store _ => x
  else if 0xFD00000000000 ≤ pa ∧ pa < 0xFD40000000000 then fault
  else match regionOf pa with
  | .regs k =>
    if k = x.sys.socket then (x.regAccess (.derrum (Fin.ofNat 4 d)) (pa % 0x80000000000) n what.write).drmAnswered d n va what
    else if x.sys.noSuchRange pa then fault else x
  | _ => if x.sys.noSuchRange pa then fault else x

/-- TETHER_ACCESS and every other access of a service core: alignment (R491), translation, PMP, then the map of R493. -/
def M.drmAccess (x : M) (d : Nat) (ctx : DrmCtx) (va : Word) (size : Size) (what : DrmAccess) : M :=
  if !x.sys.drmRuns d then x
  else
    let n := size.bytes
    let ty := match what with | .load _ _ => AccTy.load | .store _ => .store
    let x := x.on (fun s => s.drmCtx d ctx)
    if va.toNat % n ≠ 0 then x.on (fun s => s.drmTrap d ty.misaligned va)
    else match x.drmTranslate d va.toNat n ty with
    | (none, x) => x
    | (some pa, x) => x.drmAt d va pa n what

/-- The 2 µs of a Tether access to a failed chain have passed (R24, R508): the root latches the failure and the access faults. -/
def Sys.tetherTimeout (s : Sys) (core : Nat) : Sys :=
  match s.stations.waits.find? (fun w => w.core = core) with
  | none => s
  | some w =>
    let s := { s with resp := .timeout, stations := { s.stations with waits := s.stations.waits.erase w } }
    let s := s.tetherLatch core 2 w.write w.offset
    match w.va with
    | some va => s.drmTrap core (if w.write then 7 else 5) va
    | none => s

/-! ## Services of Derrum firmware (R516) -/

/-- The mailbox page of a kennel and world. -/
def mbPage (k : Nat) (w : Bool) : Nat := 2 * k + b2n w

/-- The request of a page has an opcode, and firmware runs to serve it. -/
def Sys.mbAsked (s : Sys) (d page op : Nat) : Bool := s.drmRuns d && fget (s.rd ⟨.DRM_MB_REQ, page, 0⟩) 0 16 == op

/-- A result is written to DRM_MB_STATUS by the Tether (R511): 0 OK, 1 REFUSED, 3 BUSY. -/
def M.mbStatus (x : M) (d page result len : Nat) : M :=
  x.rowWrite (.tether (Fin.ofNat 4 d)) ⟨.DRM_MB_STATUS, page, 0⟩
    (fput (fput (BitVec.ofNat 64 (x.sys.rf F.DRM_MB_DOORBELL_SEQ page)) 32 9 len) 48 8 result)

/-- A response whose content the spec does not give: free bytes, in DRM_MB_RSP. -/
def M.mbAnswer (x : M) (d page : Nat) : M :=
  let len := x.sys.freeVal 9 % 257
  let x := x.on Sys.usedFree
  let data := x.sys.freeVal 2048
  let x := x.on Sys.usedFree
  let x := (below 32).foldl (fun (x : M) i =>
    x.rowWrite (.tether (Fin.ofNat 4 d)) ⟨.DRM_MB_RSP, page, i⟩ (BitVec.ofNat 64 (data / 2 ^ (64 * i)))) x
  x.mbStatus d page 0 len

/-- KENNEL_RESET of a kennel's mailbox (R379, R516). -/
def M.mbReset (x : M) (d k : Nat) (w : Bool) : M :=
  if !x.sys.mbAsked d (mbPage k w) 1 then x
  else if x.sys.on F.SYS_KCTL_SELF_RESET k then (x.mbStatus d (mbPage k w) 0 0).on (fun s => s.kennelReset k 2)
  else x.mbStatus d (mbPage k w) 1 0

/-- RELEASE_PAGES (R392, R516): of the kennel's own pages that the request's world may release; which byte the platform takes them with the
spec does not say. -/
def M.mbRelease (x : M) (d k : Nat) (w : Bool) (base pages : Nat) : M :=
  let page := mbPage k w
  if !x.sys.mbAsked d page 2 then x
  else if x.sys.on F.OWN_CMD_GO then x.mbStatus d page 3 0
  else
    let own := (below pages).all (fun i => (x.tableByte (base + i)).any (fun b => bit b 0 && nget b 3 4 == k && (w || !bit b 7)))
    if !own then x.mbStatus d page 1 0
    else
      let new := (([0x00, 0x79, 0x7B, 0xF9, 0xFB] : List Nat)[x.sys.freeVal 8 % 5]?).getD 0
      let x := x.on Sys.usedFree
      let t : Requester := .tether (Fin.ofNat 4 d)
      let x := x.rowWrite t ⟨.OWN_CMD_BASE, 0, 0⟩ (fput 0 12 40 base)
      let x := x.rowWrite t ⟨.OWN_CMD, 0, 0⟩ (fput (fput (fput (fput (fput 0 63 1 1) 56 2 opRelease) 48 1 1) 32 8 new) 0 32 pages)
      x.mbStatus d page 0 0

/-- FAULT_RECORDS (R516, R530): bit k of FCR_KPEND is cleared before the answer. -/
def M.mbFaults (x : M) (d k : Nat) (w : Bool) : M :=
  if !x.sys.mbAsked d (mbPage k w) 3 then x
  else (x.rowWrite (.tether (Fin.ofNat 4 d)) ⟨.FCR_KPEND, 0, 0⟩ (fput 0 k 1 1)).mbAnswer d (mbPage k w)

/-- SENSORS (R516). -/
def M.mbSensors (x : M) (d k : Nat) (w : Bool) : M := if x.sys.mbAsked d (mbPage k w) 4 then x.mbAnswer d (mbPage k w) else x

/-- A notice (R511, R516): NSEQ is one more than the last. -/
def M.notice (x : M) (d k : Nat) (w : Bool) (code arg : Nat) : M :=
  let p := mbPage k w
  let nseq := (x.sys.rf F.DRM_MB_NOTICE_NSEQ p + 1) % 65536
  x.rowWrite (.tether (Fin.ofNat 4 d)) ⟨.DRM_MB_NOTICE, p, 0⟩ (fput (fput (BitVec.ofNat 64 nseq) 16 16 code) 32 32 arg)

def M.noticePages (x : M) (d k : Nat) (w : Bool) (seq : Nat) : M :=
  if x.sys.drmRuns d && x.sys.on F.OWN_STATUS_DONE then x.notice d k w 1 seq else x
def M.noticeReflow (x : M) (d k : Nat) (w : Bool) : M :=
  if x.sys.drmRuns d && x.sys.reflowState != rfIdle && x.sys.kennelConcerned k then x.notice d k w 2 (x.sys.rf F.ZNX_REFLOW_TARGET_TARGET) else x
def M.noticeFault (x : M) (d k : Nat) (w : Bool) : M :=
  if x.sys.drmRuns d && fget (x.sys.rd ⟨.FCR_KPEND, 0, 0⟩) k 1 == 1 then (x.on Sys.usedFree).notice d k w 3 (x.sys.freeVal 32) else x

/-- A committed frame asks for a sideband service, and firmware runs to serve it. -/
def Sys.sbAsked (s : Sys) (d op : Nat) : Bool := s.drmRuns d && s.sbState == sbCommitted && (s.drm.sb.req[1]?).map (·.toNat) == some op

/-- Firmware answers a frame: SEQ, a status code the spec does not number, LEN, a payload and the CRC (R513, R515). -/
def Sys.sbReply (s : Sys) (payload : List Byte) : Sys :=
  let p := payload.take 250
  let f := ([BitVec.ofNat 8 s.drm.sb.seq, BitVec.ofNat 8 (s.freeVal 8)] ++ natLe 2 p.length ++ p : List Byte)
  let f := f ++ natLe 2 (crc16 f).toNat
  let s := s.usedFree.each (below 32) (fun s i => s.wr ⟨.DRM_SB_RSP, i, 0⟩ (wordOf f i))
  s.sbCtlWrite (fput (fput (s.rd ⟨.DRM_SB_CTL, 0, 0⟩) 48 9 f.length) 63 1 1)

/-- An answer whose content the spec does not give. -/
def Sys.sbReplyFree (s : Sys) : Sys :=
  let n := s.freeVal 8 % 251
  let s := s.usedFree
  s.usedFree.sbReply (natLe n (s.freeVal (8 * n)))

/-- A sideband service. -/
def M.sbServe (x : M) (d op : Nat) (f : M → M) : M := if x.sys.sbAsked d op then f x else x

/-- READ_DUMP (R516, R547): bytes of the SRAM summary or of the dump region. -/
def M.readDump (x : M) (sram : Bool) (off n : Nat) : M :=
  let n := min 240 n
  let bs := if sram then x.mem.sramBytes (0x70000 + off) n
    else (below n).map (fun i =>
      let a := x.sys.rf F.OWN_DUMP_BASE * 2 ^ 26 + off + i
      BitVec.ofNat 8 (lineByte (x.peek (a / 64)).1 (a % 64)))
  x.on (fun s => s.sbReply bs)

/-- IMAGE_CHUNK (R74, R516): bytes of an image into the SRAM. -/
def M.imageChunk (x : M) (off : Nat) (data : List Byte) : M :=
  (x.sramStore off ((data.take 250).take (sramSize - off))).on Sys.sbReplyFree

/-- KENNEL_CTL (R377, R516). -/
def M.kennelCtl (x : M) (d k : Nat) (reset : Bool) : M :=
  (x.rowWrite (.tether (Fin.ofNat 4 d)) ⟨.SYS_KCTL, k, 0⟩ (if reset then fput 0 1 1 1 else fput 0 2 1 1)).on Sys.sbReplyFree

/-- RING_EVENT (R72, R73, R516). -/
def M.ringEvent (x : M) (d : Nat) (target : Nat) (arg : Word) : M :=
  let t : Requester := .tether (Fin.ofNat 4 d)
  ((x.rowWrite t ⟨.SPN_SCHED_TX1, 0, 0⟩ arg).rowWrite t ⟨.SPN_SCHED_TX0, 0, 0⟩
    (fput (fput (fput 0 63 1 1) 48 8 1) 0 48 target)).on Sys.sbReplyFree

/-! ## Commands -/

def execTetherTimeout (core : Fin 4) (s : State) : Host.Outcome State Fault Refusal := onSys (fun s => s.tetherTimeout core) s
def execDmLock (d : Fin 4) (ctx : DrmCtx) (va value : Word) (s : State) : Host.Outcome State Fault Refusal :=
  onM (fun x => if x.sys.drmRuns d then (x.on (fun s => s.drmCtx d ctx)).drmCsr d (fun x => x.dmLock d va value) else x) s
def execDmUnlock (d : Fin 4) (value : Word) (s : State) : Host.Outcome State Fault Refusal :=
  onM (fun x => x.drmCsr d (fun x => x.on (fun s => s.dmUnlock d value))) s
def execBtbFlush (d : Fin 4) (value : Word) (s : State) : Host.Outcome State Fault Refusal :=
  onM (fun x => x.drmCsr d (fun x => x.on (fun s => s.dmctlWrite d (fput value 7 1 1)))) s
def execDmctlWrite (d : Fin 4) (value : Word) (s : State) : Host.Outcome State Fault Refusal :=
  onM (fun x => x.drmCsr d (fun x => x.on (fun s => s.dmctlWrite d value))) s
def execTetherAccess (d : Fin 4) (ctx : DrmCtx) (va : Word) (size : Size) (what : DrmAccess) (s : State) : Host.Outcome State Fault Refusal :=
  onM (fun x => x.drmAccess d ctx va size what) s
def execFlashFill (d : Fin 4) (offset : BitVec 28) (demand : Bool) (s : State) : Host.Outcome State Fault Refusal :=
  onSys (fun s => s.flashFill d (offset.toNat / 64) demand) s
def execFlashFillDone (data : BitVec 512) (s : State) : Host.Outcome State Fault Refusal := onSys (fun s => s.flashFillDone data) s
def execFlashCmd (d : Fin 4) (value : Word) (s : State) : Host.Outcome State Fault Refusal :=
  onSys (fun s => s.when (s.drmRuns d) (fun s => s.flashCmdWrite (fput value 63 1 1))) s
def execFlashCmdDone (data : List Byte) (s : State) : Host.Outcome State Fault Refusal := onSys (fun s => s.flashCmdDone data) s
def execFlashWipTimeout (s : State) : Host.Outcome State Fault Refusal := onSys Sys.wipTimeout s
def execWriteInProgressClear (s : State) : Host.Outcome State Fault Refusal := onSys Sys.wipClear s
def execFbInv (d : Fin 4) (value : Word) (s : State) : Host.Outcome State Fault Refusal :=
  onSys (fun s => s.when (s.drmRuns d) (fun s => s.flashCfgWrite (fput value 63 1 1))) s
def execFlashCfgWrite (d : Fin 4) (value : Word) (s : State) : Host.Outcome State Fault Refusal :=
  onSys (fun s => s.when (s.drmRuns d) (fun s => s.flashCfgWrite value)) s
def execSramScrub (result : SramResult) (s : State) : Host.Outcome State Fault Refusal := onSys (fun s => s.sramScrub result) s
def execSramError (d : Fin 4) (pc : Word) (word : Fin 65536) (fetch corrected : Bool) (s : State) : Host.Outcome State Fault Refusal :=
  onSys (fun s => s.sramError d pc word fetch corrected) s
def execDrmCoreRun (d target : Fin 4) (value : Word) (s : State) : Host.Outcome State Fault Refusal :=
  onSys (fun s => s.when (s.drmRuns d) (fun s => s.localWrite ⟨.DRM_CORE_CTL, target, 0⟩ (fput value 0 1 1))) s
def execDrmCoreLost (d : Fin 4) (s : State) : Host.Outcome State Fault Refusal := onSys (fun s => s.drmLost d) s
def execSbStatus (s : State) : Host.Outcome State Fault Refusal := onSys Sys.sbStatus s
def execSbAppend (bytes : List Byte) (s : State) : Host.Outcome State Fault Refusal := onSys (fun s => s.sbAppend bytes) s
def execSbCommit (seq : Byte) (s : State) : Host.Outcome State Fault Refusal := onSys (fun s => s.sbCommit seq) s
def execSbReadResponse (n : Fin 33) (s : State) : Host.Outcome State Fault Refusal := onSys (fun s => s.sbRead n) s
def execSbAbandon (s : State) : Host.Outcome State Fault Refusal := onSys Sys.sbAbandon s
def execSbInvalidCode (code : Byte) (s : State) : Host.Outcome State Fault Refusal := onSys (fun s => s.sbInvalid code.toNat) s
def execSbReady (d : Fin 4) (value : Word) (s : State) : Host.Outcome State Fault Refusal :=
  onSys (fun s => s.when (s.drmRuns d) (fun s => s.sbCtlWrite value)) s
def execSbRspGo (d : Fin 4) (value : Word) (s : State) : Host.Outcome State Fault Refusal :=
  onSys (fun s => s.when (s.drmRuns d) (fun s => s.sbCtlWrite (fput value 63 1 1))) s
def execKennelResetRequest (d : Fin 4) (k : Fin 15) (w : Bool) (s : State) : Host.Outcome State Fault Refusal :=
  onM (fun x => x.mbReset d k w) s
def execReleasePages (d : Fin 4) (k : Fin 15) (w : Bool) (base : BitVec 40) (pages : BitVec 32) (s : State) : Host.Outcome State Fault Refusal :=
  onM (fun x => x.mbRelease d k w base.toNat pages.toNat) s
def execFaultRecords (d : Fin 4) (k : Fin 15) (w : Bool) (s : State) : Host.Outcome State Fault Refusal := onM (fun x => x.mbFaults d k w) s
def execSensors (d : Fin 4) (k : Fin 15) (w : Bool) (s : State) : Host.Outcome State Fault Refusal := onM (fun x => x.mbSensors d k w) s
def execPagesDone (d : Fin 4) (k : Fin 15) (w : Bool) (seq : BitVec 16) (s : State) : Host.Outcome State Fault Refusal :=
  onM (fun x => x.noticePages d k w seq.toNat) s
def execReflowPlanned (d : Fin 4) (k : Fin 15) (w : Bool) (s : State) : Host.Outcome State Fault Refusal := onM (fun x => x.noticeReflow d k w) s
def execFault (d : Fin 4) (k : Fin 15) (w : Bool) (s : State) : Host.Outcome State Fault Refusal := onM (fun x => x.noticeFault d k w) s
def execGetStatus (d : Fin 4) (s : State) : Host.Outcome State Fault Refusal := onM (fun x => x.sbServe d 1 (fun x => x.on Sys.sbReplyFree)) s
def execGetSensors (d : Fin 4) (s : State) : Host.Outcome State Fault Refusal := onM (fun x => x.sbServe d 2 (fun x => x.on Sys.sbReplyFree)) s
def execGetFaults (d : Fin 4) (s : State) : Host.Outcome State Fault Refusal := onM (fun x => x.sbServe d 3 (fun x => x.on Sys.sbReplyFree)) s
def execReadDump (d : Fin 4) (sram : Bool) (offset : BitVec 26) (n : Fin 241) (s : State) : Host.Outcome State Fault Refusal :=
  onM (fun x => x.sbServe d 4 (fun x => x.readDump sram offset.toNat n)) s
def execImageChunk (d : Fin 4) (offset : Fin 524288) (data : List Byte) (s : State) : Host.Outcome State Fault Refusal :=
  onM (fun x => x.sbServe d 5 (fun x => x.imageChunk offset data)) s
def execImageEnd (d : Fin 4) (s : State) : Host.Outcome State Fault Refusal := onM (fun x => x.sbServe d 6 (fun x => x.on Sys.sbReplyFree)) s
/-- POWER_CAP: the cap itself is applied by a reflow (R516). -/
def execPowerCap (d : Fin 4) (_tdp : BitVec 16) (s : State) : Host.Outcome State Fault Refusal :=
  onM (fun x => x.sbServe d 7 (fun x => x.on Sys.sbReplyFree)) s
def execKennelCtl (d : Fin 4) (k : Fin 16) (reset : Bool) (s : State) : Host.Outcome State Fault Refusal :=
  onM (fun x => x.sbServe d 8 (fun x => x.kennelCtl d k reset)) s
def execSocketReset (d : Fin 4) (s : State) : Host.Outcome State Fault Refusal :=
  onM (fun x => x.sbServe d 9 (fun x => x.on (fun s => s.warmReset 2))) s
def execRingEvent (d : Fin 4) (target : BitVec 48) (arg : Word) (s : State) : Host.Outcome State Fault Refusal :=
  onM (fun x => x.sbServe d 10 (fun x => x.ringEvent d target.toNat arg)) s

end Sys2Proof.Machine
end

