-- ==== Sys2Proof/Machine/Dump.lean ====
section
/-!
DEFINITION. The fatal dump (R542 step 5, R548 to R555): Derrum firmware writes the SRAM summary and then the dump, in one step.
-/
namespace Sys2Proof.Machine

/-- A record of a dump (R551): its type, FLAGS, INSTANCE and payload. -/
structure DumpRec where
  type : Nat
  flags : Nat
  inst : Nat
  data : List Byte
  deriving DecidableEq, Repr

/-- The bytes of a record. -/
def DumpRec.bytes (r : DumpRec) : List Byte :=
  natLe 2 r.type ++ natLe 2 r.flags ++ natLe 4 r.data.length ++ natLe 2 r.inst ++ natLe 6 0 ++ r.data

/-- The END record. -/
def DumpRec.last : DumpRec := ⟨0xFFFF, 0, 0, []⟩

/-- A register as firmware reads it for the dump: by the Tether, or a local register; none for ERROR or TIMEOUT (R549). -/
def M.dumpReg (x : M) (d : Nat) (k : RK) : Option Word × M :=
  if k.reg.path = .l then (some (x.sys.localRead k), x)
  else
    let x := x.rowRead (.tether (Fin.ofNat 4 d)) k
    match x.sys.resp with
    | .done v => (some v, x)
    | .waiting => (none, x.on (fun s => s.tetherTimeout d))
    | _ => (none, x)

/-- The registers of a record, read in order (R549). -/
def M.dumpRead (x : M) (d : Nat) (ks : List RK) : List (Option Word) × M :=
  ks.foldl (fun (a : List (Option Word) × M) k =>
    let (v, x) := a.2.dumpReg d k
    (a.1 ++ [v], x)) ([], x)

/-- A record of registers: an unreadable one reads as zero and marks the record. -/
def recordOf (type inst : Nat) (vs : List (Option Word)) : DumpRec :=
  ⟨type, if vs.all (·.isSome) then 0 else 2, inst, vs.flatMap (fun v => natLe 8 (v.getD 0).toNat)⟩

/-- A record is one instance's registers and the values for which a short dump carries it. -/
structure DumpItem where
  type : Nat
  inst : Nat
  regs : List RK
  /-- the dump of KIND FULL carries it -/
  full : Bool
  /-- the dump of KIND SHORT carries it when this holds of the values read -/
  short : List Word → Bool

/-- A field of value `i` of those read. -/
def valOf (vs : List Word) (i : Nat) (f : Fld) : Nat := fget ((vs[i]?).getD 0) f.lo f.wd

/-- Registers of one name by element. -/
def regs1 (r : Reg) (n : Nat) (i0 : Nat := 0) : List RK := (below n).map (fun i => ⟨r, i0 + i, 0⟩)

/-- The items of R552 that precede the SRAM copy, in order. -/
def Sys.dumpItems (s : Sys) : List DumpItem :=
  let one := fun (t : Nat) (l : List RK) => ([⟨t, 0, l, true, fun _ => true⟩] : List DumpItem)
  let g := fun (r : Reg) => (⟨r, 0, 0⟩ : RK)
  one 0x0001 (regs1 .FCR_STICKY 20) ++ one 0x0002 (regs1 .FCR_CLASS 80) ++
  one 0x0003 [g .FCR_SUMMARY, g .FCR_KPEND, g .FCR_HEEL, g .FCR_HEEL_SPAN] ++
  one 0x0004 (regs1 .SYS_KCTL 16) ++ one 0x0005 (regs1 .SYS_CS_STATUS 109) ++
  (below 256).map (fun h => ⟨0x0010, h, [⟨.TILE_CORE_MCLOG, h / 4, h % 4⟩, ⟨.TILE_CORE_HALT, h / 4, h % 4⟩, ⟨.TILE_CORE_TEST, h / 4, h % 4⟩],
    true, fun v => valOf v 0 F.TILE_CORE_MCLOG_VALID == 1 || valOf v 2 F.TILE_CORE_TEST_STATE != 0⟩) ++
  (below 64).map (fun n => ⟨0x0011, n, [⟨.TILE_SLICE_STATUS, n, 0⟩, ⟨.TILE_SLICE_ERRLOG, n, 0⟩, ⟨.TILE_SLICE_ERRADDR, n, 0⟩, ⟨.TILE_HA_STATUS, n, 0⟩],
    true, fun v => valOf v 1 F.TILE_SLICE_ERRLOG_VALID == 1 || valOf v 0 F.TILE_SLICE_STATUS_STATE != slOn⟩) ++
  (below 64).map (fun n => ⟨0x0012, n, [⟨.TILE_MS_LINKERR, n, 0⟩, ⟨.TILE_MS_RETRY, n, 0⟩, ⟨.TILE_MS_GRAIN, n, 0⟩], true, fun _ => false⟩) ++
  (below 16).map (fun m => ⟨0x0020, m, [⟨.MC_STATUS, m, 0⟩, ⟨.MC_ERR_LOG, m, 0⟩, ⟨.MC_ERR_ADDR, m, 0⟩, ⟨.MC_ERR_CNT, m, 0⟩, ⟨.MC_DEV_MARK, m, 0⟩,
    ⟨.MC_DEV_MARK, m, 1⟩, ⟨.MC_PPR_STATUS, m, 0⟩], true, fun v => valOf v 1 F.MC_ERR_LOG_VALID == 1 || valOf v 0 F.MC_STATUS_STATE != mcActive⟩) ++
  (below 32).flatMap (fun q =>
    if s.role (q / 4) != 0 && s.hasLink (q / 4) (q % 4) then
      [⟨0x0030, q, [⟨.IOP_LINK_STATUS, q / 4, q % 4⟩, ⟨.IOP_LINK_ERR, q / 4, q % 4⟩, ⟨.IOP_LINK_ERRADDR, q / 4, q % 4⟩], true,
        fun v => valOf v 1 F.IOP_LINK_ERR_VALID == 1⟩]
    else []) ++
  (below 3).flatMap (fun b => if s.on F.BRC_STATUS_IN_MAP b then [⟨0x0031, b, [⟨.BRC_STATUS, b, 0⟩], true, fun _ => true⟩] else []) ++
  (below 8).map (fun e => ⟨0x0040, e, [⟨.RTV_ENG_STATUS, e, 0⟩], true, fun v => valOf v 0 F.RTV_ENG_STATUS_STATE != egIn⟩) ++
  (below 512).flatMap (fun c =>
    if [0, 1].contains (s.rf F.RTV_CH_STATUS_STATE c) then []
    else [⟨0x0041, c, [⟨.RTV_CH_STATUS, c, 0⟩, ⟨.RTV_CH_PROGRESS, c, 0⟩, ⟨.RTV_CH_HEAD, c, 0⟩, ⟨.RTV_CH_TAIL, c, 0⟩], true, fun _ => false⟩]) ++
  one 0x0050 ([g .SPN_STATUS, g .SPN_SPAN, g .SPN_OVERRUN] ++ regs1 .SPN_FALLEN 4) ++
  one 0x0051 [g .ZNX_STATUS, g .ZNX_REFLOW_RESULT, g .ZNX_REFLOW_COUNT] ++
  one 0x0052 [g .OWN_STATUS, g .OWN_DENY] ++
  one 0x0053 (regs1 .DRM_CORE_CTL 4 ++ regs1 .DRM_TETHER_ERR 4 ++ [g .DRM_SRAM_ERR])

/-- The records of a dump of one KIND, before the END record. A record that a short dump may carry is chosen by its own registers. -/
def M.dumpRecs (x : M) (d : Nat) (full : Bool) : List DumpRec × M :=
  let (l, x) := x.sys.dumpItems.foldl (fun (a : List DumpRec × M) (i : DumpItem) =>
    -- nothing is read for a record that this kind never carries
    if !full && (i.type = 0x0012 || i.type = 0x0041) then a
    else
      let (vs, x) := a.2.dumpRead d i.regs
      if full || i.short (vs.map (·.getD 0)) then (a.1 ++ [recordOf i.type i.inst vs], x) else (a.1, x)) ([], x)
  (if full then l ++ [⟨0x0060, 0, 0, x.mem.sramBytes 0 0x70000⟩] else l, x)

/-- The collector's records are marked UNTRUSTED when the collector has failed (R539, R553). -/
def markTrust (bad : Bool) (l : List DumpRec) : List DumpRec :=
  l.map (fun r => if bad && r.type ≤ 3 then { r with flags := r.flags ||| 1 } else r)

/-- The collector has failed: cause COLLECTOR, or an array recorded after entry (R539). -/
def Sys.untrusted (s : Sys) : Bool := s.rf F.FCR_HEEL_CAUSE == 2 || s.rf F.FCR_HEEL_COLLECTOR_ARRAY != 0

/-- A dump's whole bytes: header (R550), records and END. `regs` are the header's register values; `fw` and `us` are FW_VERSION and
WRITE_US. -/
def dumpBytes (kind flags : Nat) (heel span rack id build pair : Word) (digest : List Word) (fw us : Nat) (recs : List DumpRec) : List Byte :=
  let body := recs.flatMap DumpRec.bytes
  let head := fun (crc : Nat) =>
    natLe 4 0x504D445A ++ natLe 1 1 ++ natLe 1 0 ++ natLe 2 256 ++ natLe 4 (256 + body.length) ++ natLe 4 recs.length ++ natLe 1 kind ++
    natLe 1 (fget heel F.FCR_HEEL_CAUSE.lo 3) ++ natLe 2 (fget heel F.FCR_HEEL_SOURCE.lo 11) ++ natLe 2 flags ++
    natLe 2 (fget heel F.FCR_HEEL_COUNT.lo 8) ++ natLe 8 (fget span 0 48) ++ natLe 8 rack.toNat ++ natLe 8 id.toNat ++ natLe 8 build.toNat ++
    natLe 8 pair.toNat ++ digest.flatMap (fun w => natLe 8 w.toNat) ++ natLe 4 fw ++ natLe 4 us ++ natLe 4 crc ++ List.replicate 132 0
  let t := head 0 ++ body
  head (crc32c 0 t) ++ body

/-- A line of the dump region takes a write of Derrum firmware: its page is the platform's and its channel answers (R372, R373, R383). -/
def M.dumpTakes (x : M) (d l : Nat) : Bool :=
  let s := x.sys
  let w := s.on F.dmctl_WORLD d
  match s.conf.locate (64 * l) with
  | some (m, _, mir) =>
    let c := s.writeChan m mir
    (s.mcServes c || s.mcState c == mcOffline) &&
      (match x.ownByte ((s.conf.homeOf 15 (64 * l)).getD 0) (64 * l) false with
       | (some b, _) => (match checkByte b 15 w with | .ok _ => true | .deny _ => false)
       | (none, _) => false)
  | none => false

/-- A line of the dump is written and accepted (NC_WR): `n` bytes from its start; the others stay. -/
def M.dumpPut (x : M) (l : Nat) (bs : List Byte) : M :=
  let old := (x.peek l).1
  let x := x.replaceLine l (linePut old 0 (8 * bs.length) (leNat bs)) false
  (below 16).foldl (fun (x : M) m => ((x.sys.chan m).mwr.filter (fun w => w.line = l)).foldl (fun (x : M) w => x.acceptWrite m w) x) x

/-- Bytes from a line boundary on, line by line. -/
def M.dumpWrite (x : M) (l : Nat) (bs : List Byte) : M :=
  (below ((bs.length + 63) / 64)).foldl (fun (x : M) i => x.dumpPut (l + i) ((bs.drop (64 * i)).take 64)) x

/-- The records that fit before a byte position with an END record after them; the one cut short is PARTIAL (R551, R555). -/
def cutRecs : Nat → List DumpRec → List DumpRec
  | _, [] => []
  | room, r :: rest =>
    if r.bytes.length + 16 ≤ room then r :: cutRecs (room - r.bytes.length) rest
    else if 32 ≤ room then [{ r with flags := r.flags ||| 4, data := r.data.take ((room - 32) / 8 * 8) }] else []

/-- FATAL_DUMP: in the heel state, before DUMP_DONE, by a service core that runs. -/
def M.fatalDump (x : M) (d : Nat) : M :=
  if !x.sys.drmRuns d || !x.sys.heeled || x.sys.on F.FCR_HEEL_DUMP_DONE then x
  else
    let g := fun (r : Reg) => (⟨r, 0, 0⟩ : RK)
    let (rack, x) := x.dumpRead d [g .SPN_RACKTIME]
    let (v, x) := x.dumpRead d ([g .FCR_HEEL, g .FCR_HEEL_SPAN, g .SYS_ID, g .ZNX_BUILD, g .ZNX_PAIR] ++ regs1 .ZNX_DIGEST 6)
    let val := fun (i : Nat) => ((v[i]?).getD none).getD 0
    let full := x.sys.rf F.FCR_HEEL_CAUSE != 2
    let fw := x.sys.freeVal 32
    let x := x.on Sys.usedFree
    let us := x.sys.freeVal 32
    let x := x.on Sys.usedFree
    let make := fun (s : Sys) (kind flags : Nat) (recs : List DumpRec) =>
      dumpBytes kind (flags ||| 4 * b2n s.untrusted ||| 8 * b2n (s.on F.FCR_HEEL_HW_SR)) (val 0) (val 1) (((rack[0]?).getD none).getD 0) (val 2) (val 3) (val 4)
        ((below 6).map (fun i => val (5 + i))) fw us (markTrust s.untrusted recs ++ [.last])
    -- the SRAM summary (R554)
    let (short, x) := x.dumpRecs d false
    let x := x.sramStore 0x70000 (make x.sys 2 2 short)
    -- the dump of the slot that COUNT names (R548)
    let (recs, x) := if full then x.dumpRecs d true else (short, x)
    let slot := (x.sys.rf F.OWN_DUMP_BASE * 2 ^ 26 + 0x2000000 * (fget (val 0) F.FCR_HEEL_COUNT.lo 8 % 2)) / 64
    let kind := if full then 1 else 2
    let body := make x.sys kind 0 recs
    let lines := (body.length + 63) / 64
    let stop := ((below lines).drop 4).find? (fun i => !x.dumpTakes d (slot + i))
    let head := (below 4).all (fun i => x.dumpTakes d (slot + i))
    match stop with
    | none =>
      let x := x.dumpWrite (slot + 4) (body.drop 256)
      if head then x.dumpWrite slot (body.take 256) else x
    | some i =>
      let cut := make x.sys kind 1 (cutRecs (64 * i - 256) recs)
      if i = 4 then x
      else
        let x := x.dumpWrite (slot + 4) (cut.drop 256)
        if head then x.dumpWrite slot (cut.take 256) else x

/-! ## Commands -/

def execFatalDump (core : Fin 4) (s : State) : Host.Outcome State Fault Refusal := onM (fun x => x.fatalDump core) s

end Sys2Proof.Machine
end

