-- ==== Sys2Proof/Machine/Pipe.lean ====
section
/-!
DEFINITION. A hart's unretired instructions: how they enter, read, wait, are performed and retire, and the messages that reach
the hart (ch. 5, 7).
-/
namespace Sys2Proof.Machine

/-! ## Views of the reorder buffer -/

def Uop.npc (u : Uop) : Word :=
  match u.kind with
  | .branch _ taken target _ => if taken then target else u.pc + BitVec.ofNat 64 u.len
  | _ => u.pc + BitVec.ofNat 64 u.len

/-- The access is a store of some kind. -/
def Uop.writes (u : Uop) : Bool := match u.kind with | .store | .amo _ | .sc | .cbo .zero => true | _ => false
/-- The access type an instruction is translated and faults as. -/
def Uop.ty (u : Uop) : AccTy :=
  match u.kind with
  | .load | .lr => .load
  | .hint 0 => .fetch
  | .hint 1 => .load
  | _ => .store

/-- The first address. -/
def Uop.va0 (u : Uop) : Nat := match u.pieces with | p :: _ => p.va | [] => 0
/-- The first physical address. -/
def Uop.pa0 (u : Uop) : Nat := ((u.pieces.head?.bind (·.pa))).getD 0
/-- A page whose PBMT is NC. -/
def Uop.isNc (u : Uop) : Bool := u.pieces.any (fun p => p.pbmt == 1)

/-- An older instruction that no longer can cause a squash (R190). -/
def settled (ztso : Bool) (older : List Uop) (o : Uop) : Bool :=
  o.exc.isNone && o.gaps == 0 && o.done &&
  (match o.kind with
    | .branch _ _ _ r => r
    | .fenceI | .tlbFence .. => false
    | .load | .lr => !monitored ztso older o
    | _ => true)

/-- Every entry before a place is settled, and they follow each other from the hart's pc with no instruction between. -/
def boundGo (ztso : Bool) : Nat → Word → List Uop → List Uop → Bool
  | _, _, _, [] => false
  | 0, pc, _, u :: _ => u.pc == pc && u.gaps == 0
  | i + 1, pc, older, u :: l => u.pc == pc && settled ztso older u && boundGo ztso i u.npc (older ++ [u]) l

/-- The instruction at a place is bound (R190). -/
def Sys.bound (s : Sys) (h i : Nat) : Bool :=
  let t := s.hart h
  boundGo (s.ztso h) i t.pc [] t.rob &&
  !t.sq.any (fun q => match q with | .fenceI | .tlbFence .. => true | _ => false)

def Sys.uopTo (s : Sys) (h i : Nat) (u : Uop) : Sys := s.onHart h (fun t => { t with rob := t.rob.set i u })

/-- The parts of byte ranges that lie in one line each: line, byte in it, length, and offset in the access. -/
def segsOf (spans : List (Nat × Nat)) : List (Nat × Nat × Nat × Nat) :=
  (spans.foldl (fun (acc : List (Nat × Nat × Nat × Nat) × Nat) p =>
    let room := 64 - p.1 % 64
    if p.2 ≤ room then (acc.1 ++ [(p.1 / 64, p.1 % 64, p.2, acc.2)], acc.2 + p.2)
    else (acc.1 ++ [(p.1 / 64, p.1 % 64, room, acc.2), (p.1 / 64 + 1, 0, p.2 - room, acc.2 + room)], acc.2 + p.2)) ([], 0)).1

/-- The chunks a part needs. -/
def chunksOf (byte n : Nat) : Nat := (below 4).foldl (fun m c => if byte / 16 ≤ c && c ≤ (byte + n - 1) / 16 then m + 2 ^ c else m) 0

/-- Byte `a` of a store's data, if the store writes it. -/
def spanByte (spans : List (Nat × Nat)) (data a : Nat) : Option Nat :=
  ((spans.foldl (fun (acc : Option Nat × Nat) p =>
    (if acc.1.isNone && p.1 ≤ a && a < p.1 + p.2 then some (nget data (8 * (acc.2 + (a - p.1))) 8) else acc.1, acc.2 + p.2)) (none, 0))).1

/-- Two lists of byte ranges overlap. -/
def spansMeet (a b : List (Nat × Nat)) : Bool := a.any (fun p => b.any (fun q => overlap p.1 p.2 q.1 q.2))

/-- What the store queue holds against a load (R175, R176, R178). -/
inductive Fwd where
  | free
  | wait
  /-- the data, and the store that gave it -/
  | data (v : Nat) (id : Nat)
  deriving DecidableEq, Repr

/-- The stores that wait to be performed, youngest first: byte ranges, data, number, and whether they may forward. -/
def Hart.storesBefore (t : Hart) (i : Nat) : List (List (Nat × Nat) × Nat × Nat × Bool) :=
  ((t.rob.take i).filter Uop.writes).reverse.map (fun o => (match o.kind with
    | .cbo .zero => o.spans.map (fun p => (p.1 / 64 * 64, 64))
    | _ => o.spans, o.data, o.id, o.kind == .store)) ++
  t.sq.reverse.filterMap (fun q => match q with
    | .store sp d _ _ => some (sp, d, 0, true)
    | .cbo .zero pa _ _ => some ([(pa / 64 * 64, 64)], 0, 0, false)
    | _ => none)

/-- The youngest older store that writes a byte of the load decides. -/
def forward (spans : List (Nat × Nat)) (noFwd : Bool) : List (List (Nat × Nat) × Nat × Nat × Bool) → Fwd
  | [] => .free
  | (sp, d, id, ok) :: l =>
    if spansMeet sp spans then
      let bytes := spans.flatMap (fun p => (List.range p.2).map (fun j => spanByte sp d (p.1 + j)))
      if ok && !noFwd && bytes.all Option.isSome then .data (bytes.foldr (fun b v => b.getD 0 + 256 * v) 0) id else .wait
    else forward spans noFwd l

/-! ## Translation and checks of an access -/

/-- An instruction takes its exception: its dependents receive zero (R199). -/
def Uop.fault (u : Uop) (cause tval gpa : Nat) : Uop := { u with exc := some (cause, tval, gpa), value := 0, done := false }

/-- The pieces are translated in order until one waits; a failed check is recorded with the instruction. A maintenance instruction
is admitted by read or write permission and faults as a store (R270). -/
def Sys.uopTranslate (s : Sys) (h : Nat) (u : Uop) : Uop :=
  let cmo := match u.kind with | .cbo .zero => false | .cbo _ => true | _ => false
  let tr := fun (ty : AccTy) (p : Piece) => s.translate h ty u.hyp u.hlvx p
  let store := fun (c : Nat) => if c = 13 then 15 else if c = 5 then 7 else if c = 21 then 23 else c
  (List.range u.pieces.length).foldl (fun u j =>
    match u.exc, u.pieces[j]? with
    | none, some p =>
      if p.pa.isSome then u
      else match tr (if cmo then .load else u.ty) p with
      | .wait => u
      | .ok q => { u with pieces := u.pieces.set j q }
      | .exc c g =>
        if cmo then
          match tr .store p with
          | .ok q => { u with pieces := u.pieces.set j q }
          | .wait => u
          | .exc .. => u.fault (store c) p.va g
        else u.fault c p.va g
    | _, _ => u) u

/-- The alignment rules of R115 for an access whose address is known. -/
def Sys.alignFault (s : Sys) (h : Nat) (u : Uop) : Option Nat :=
  let va := u.va0
  let bad := u.bytes ≠ 0 && va % u.bytes ≠ 0
  match u.kind with
  | .lr => if bad then some 4 else none
  | .sc => if bad then some 6 else none
  | .amo _ => if bad && va % 16 + u.bytes > 16 then some 6 else none
  | .load | .store =>
    if !bad then none
    else if s.cf h F.tlctl_MISALIGN_TRAP = 1 then some u.ty.misaligned
    else if u.translated then
      match regionOf u.pa0 with
      | .window _ | .ecam _ => some u.ty.misaligned
      | .regs _ => some u.ty.accessFault
      | _ => none
    else none
  | _ => none

/-- A tag check of the lines of an access that the hart holds (R243, R386). -/
def Sys.tagsOk (s : Sys) (h : Nat) (lines : List Nat) : Bool :=
  let t := s.hart h
  lines.all (fun l =>
    match t.anyCopy l, t.sfb.find? (fun e => e.line = l ∧ !e.dead ∧ e.chunks = 15) with
    | some c, _ => tagAdmits c.owner (s.hartKennel h) (s.worldS h)
    | none, some e => tagAdmits e.owner (s.hartKennel h) (s.worldS h)
    | none, none => true)

/-! ## Loads (R175 to R177, R192 to R198) -/

/-- A line's data for a load: from L1D, or from the fill buffer once the needed chunks are there. -/
def Hart.lineFor (t : Hart) (line chunks : Nat) : Option (BitVec 512 × Bool × Bool) :=
  match lineIn t.l1d line with
  | some c => some (c.data, c.poison, false)
  | none => (t.sfb.find? (fun e => e.line = line ∧ !e.instr ∧ !e.dead ∧ e.chunks &&& chunks = chunks)).map (fun e => (e.data, e.poison, true))

/-- A load asks for a line it cannot read yet: a copy from L2 or the side buffer, else RD_SPEC, or RD_SHARED once bound (R193). An
entry is kept for the oldest load (R192). -/
def Sys.missLine (s : Sys) (h i line first : Nat) : Sys :=
  let t := s.hart h
  if (lineIn t.l1d line).isSome || t.sfb.any (fun e => e.line = line ∧ !e.instr) then s
  else
    let oldest := (t.rob.take i).all (fun o => !o.reads)
    if !oldest && 31 ≤ t.sfb.length then s
    else
      let entry : SfbEnt := ⟨line, .bound, false, 15, 0, false, 0, 1, ⟨0, 0, 0⟩, false, false, false, false, false⟩
      let place := fun (s : Sys) (e : SfbEnt) => (s.onHart h (fun t => { t with sfb := t.sfb ++ [e] })).hpm h 0x41
      match lineIn t.l2 line with
      | some c => place s { entry with data := c.data, poison := c.poison, owner := c.owner, grant := c.st, fromL2 := true }
      | none =>
        match t.side.find? (fun e => e.line = line ∧ e.valid) with
        | some e => place s { entry with data := e.data, poison := e.poison, owner := e.owner, grant := e.st, fromSide := true }
        | none =>
          let b := s.bound h i
          let s := (place s { entry with st := if b then .bound else .spec, chunks := 0, grant := 0 }).hpm h 0x12
          s.send { s.coreReq h (if b then .rdShared else .rdSpec) line with first := first }

/-- A load reads, forwards, waits or misses. -/
def M.tryLoad (x : M) (h i : Nat) (u : Uop) : M :=
  let s := x.sys
  let t := s.hart h
  let put := fun (x : M) (u : Uop) => x.on (fun s => s.uopTo h i u)
  let ctag := s.ctxTag h
  let mustWait := t.pred.any (fun e => e.table == .storeWait && e.idx == (u.pc.toNat / 2) % 4096 && e.ctx == ctag && e.value == 1)
  if !u.translated || u.issued then x
  else if u.gaps ≠ 0 && mustWait then x
  else if u.isIo then
    -- I/O and register space: only as the oldest, bound (R39, R185)
    if i = 0 && s.bound h 0 then
      match (if (regionOf u.pa0).isMemory then some s else s.injIo h) with
      | none => x
      | some s' =>
      let x := { x with sys := s' }
      let x := x.on (fun s => s.wcFlush h)
      match regionOf u.pa0 with
      | .regs k =>
        if k = s.socket then
          let x := x.regAccess (.hart (Fin.ofNat 256 h)) (u.pa0 % 0x80000000000) u.bytes none
          match x.sys.resp with
          | .done d => put x { u with value := d.toNat, done := true }
          | .waiting => x
          | _ => put x (u.fault 5 u.va0 0)
        else put (x.post (.io (.core h) (x.sys.hartKennel h) (x.sys.worldS h) false u.pa0 u.bytes 0 false)) { u with issued := true, sfb := [u.pa0 / 64] }
      | .ecam _ =>
        -- an 8-byte configuration access faults (R443)
        if 4 < u.bytes then put x (u.fault 5 u.va0 0)
        else put (x.post (.io (.core h) (x.sys.hartKennel h) (x.sys.worldS h) false u.pa0 u.bytes 0 false)) { u with issued := true, sfb := [u.pa0 / 64] }
      | .window _ => put (x.post (.io (.core h) (x.sys.hartKennel h) (x.sys.worldS h) false u.pa0 u.bytes 0 false)) { u with issued := true, sfb := [u.pa0 / 64] }
      | _ =>
        let ls := spanLines u.spans
        put (x.on (fun s => s.each ls (fun s l => s.send (s.coreReq h .ncRd l)))) { u with issued := true, sfb := ls }
    else x
  else match forward u.spans u.noFwd (t.storesBefore i) with
  | .wait => if u.waited then x else put (x.on (fun s => s.hpm h 0x33)) { u with waited := true }
  | .data v id => put x { u with value := v, done := true, fwd := some id }
  | .free =>
    let ls := spanLines u.spans
    if t.wcb.any (fun b => ls.contains b.line && u.spans.any (fun p => (below p.2).any (fun j => b.line == (p.1 + j) / 64 && bit b.mask.toNat ((p.1 + j) % 64)))) then
      -- waits until the combining buffer is written out (R186)
      x
    else if u.isNc || !s.l1dOn h then
      let x := x.on (fun s => (s.hpm h 0x40).each ls (fun s l => s.send (s.coreReq h .ncRd l)))
      put x { u with issued := true, sfb := ls }
    else if !s.tagsOk h ls then put x (u.fault 5 u.va0 0)
    else
      let segs := segsOf u.spans
      let got := segs.map (fun g => t.lineFor g.1 (chunksOf g.2.1 g.2.2.1))
      if got.all Option.isSome then
        let pairs := segs.zip (got.map (fun o => o.getD (0, false, false)))
        let poison := pairs.any (fun p => p.2.2.1)
        let v := pairs.foldl (fun v p => v + lineField p.2.1 p.1.2.1 (8 * p.1.2.2.1) * 2 ^ (8 * p.1.2.2.2)) 0
        let lines := ((pairs.filter (fun p => p.2.2.2)).map (fun p => p.1.1)).eraseDups
        let x := if u.missed then x else x.on (fun s => s.hpm h 0x40)
        put x { u with value := if poison then 0 else v, poison := poison, done := true, sfb := lines, missed := u.missed || !lines.isEmpty }
      else
        let x := if u.missed then x else x.on (fun s => (s.hpm h 0x40).hpm h 0x11)
        let x := put x { u with missed := true, sfb := ls.filter (fun l => (lineIn t.l1d l).isNone) }
        x.on (fun s => s.each segs (fun s g => s.missLine h i g.1 (g.2.1 / 16)))

/-- A done load's SPEC lines are bound once it is bound and the data is there: BIND is sent (R194). The same holds for the lines of
its walks. -/
def Sys.bindLines (s : Sys) (h i : Nat) (u : Uop) : Sys :=
  let t := s.hart h
  let es := t.sfb.filter (fun e => !e.instr && e.st == .spec && e.chunks == 15 && !e.bindSent && !e.dead && (u.sfb.contains e.line || u.walkLines.contains e.line))
  if es.isEmpty || !s.bound h i then s
  else s.each es (fun s e =>
    (s.onHart h (fun t => { t with sfb := t.sfb.map (fun d => if d.line = e.line ∧ !d.instr then { d with bindSent := true } else d) })).send
      { s.coreReq h .bind e.line with tok := e.tok, noBind := e.noBind })

/-! ## Stores, AMOs, fences, maintenance -/

/-- A store's address became known (R177): the oldest younger load that has read overlapping bytes, and did not forward from this
store or a younger one, is squashed with everything after it. -/
def Sys.storeKnown (s : Sys) (h i : Nat) (u : Uop) : Sys :=
  let t := s.hart h
  let bad := (List.range t.rob.length).find? (fun j =>
    match t.rob[j]? with
    | some l => i < j && l.isLoad && l.done && spansMeet l.spans u.spans &&
        (match l.fwd with
          | some id => !(t.rob.drop i).any (fun o => o.id == id)
          | none => true)
    | none => false)
  match bad with
  | some j =>
    let pc := ((t.rob[j]?).map (·.pc)).getD 0
    ((s.onHart h (fun t => { t with replay := pc :: t.replay })).hpm h 0x34).squash h j
  | none => s

/-- A store is translated and checked; its ownership is asked for once it is bound; it may retire once the owner check of its lines
has passed: the hart holds them, or the home agent has answered (R172, R384). -/
def M.tryStore (x : M) (h i : Nat) (u : Uop) : M :=
  let s := x.sys
  let put := fun (x : M) (u : Uop) => x.on (fun s => s.uopTo h i u)
  let ls := spanLines u.spans
  if !u.translated || u.issued then x
  else if u.isIo then put x { u with done := true }
  else if u.isNc || !s.l1dOn h then
    if s.bound h i then put (x.on (fun s => s.each ls (fun s l => s.send (s.coreReq h .cmoCheck l)))) { u with issued := true, sfb := ls } else x
  else if !s.tagsOk h ls then put x (u.fault 7 u.va0 0)
  else
    let held := fun (s : Sys) => ls.all (fun l => decide (1 ≤ (s.hart h).lineSt l))
    let x := if s.bound h i then x.on (fun s => s.each ls (fun s l => if 2 ≤ (s.hart h).lineSt l then s else (s.wantM h l).2)) else x
    if held x.sys then put x { u with done := true } else x

/-- The old value and the new one of an AMO on `n` bytes. -/
def amoNew (op : AmoOp) (n old v : Nat) : Nat := amoApply op (8 * n) old v

/-- An AMO, LR or SC is performed in L1D with its line in M, after every older senior store (R184), or at the home agent while L1D is
not ON (R266, R305). -/
def M.tryAmo (x : M) (h i : Nat) (u : Uop) : M :=
  let s := x.sys
  let t := s.hart h
  let put := fun (x : M) (u : Uop) => x.on (fun s => s.uopTo h i u)
  let line := u.pa0 / 64
  let byte := u.pa0 % 64
  let va := u.va0
  if !u.translated || u.issued then x
  else if !(regionOf u.pa0).isMemory then put x (u.fault u.ty.accessFault va 0)
  else if !s.bound h i || !t.sq.isEmpty || (t.rob.take i).any Uop.writes then x
  else if u.rl && u.kind != .lr && !(t.rob.take i).all (fun o => !o.reads || o.done) then x
  else
    -- an SC outside the reserved block fails and clears the reservation (R184)
    if u.kind == .sc && s.l1dOn h && !u.isNc && t.resv != some line then
      put (x.on (fun s => s.onHart h (fun t => { t with resv := none }))) { u with value := 1, done := true }
    else if u.isNc || !s.l1dOn h then
      let m : BitVec 64 := BitVec.ofNat 64 ((2 ^ u.bytes - 1) * 2 ^ byte)
      let d := linePut 0 byte (8 * u.bytes) u.data
      let base := s.coreReq h .ncLr line
      let r : Req := match u.kind with
        | .amo op => { base with kind := .ncAmo, data := d, mask := m, amo := op, dword := u.bytes == 8 }
        | .sc => { base with kind := .ncSc, data := d, mask := m }
        | _ => base
      put (x.on (fun s => s.send r)) { u with issued := true, sfb := [line] }
    else if !s.tagsOk h [line] then put x (u.fault u.ty.accessFault va 0)
    else
      let (ok, s) := s.wantM h line
      let x := { x with sys := s }
      if !ok then x
      else match lineIn (x.sys.hart h).l1d line with
      | none => x
      | some c =>
        let old := lineField c.data byte (8 * u.bytes)
        if c.poison then put x (u.fault exHardware va 0)
        else match u.kind with
        | .lr => put (x.on (fun s => s.onHart h (fun t => { t with resv := some line }))) { u with value := old, done := true }
        | .sc => put (x.on (fun s => (s.l1dWrite h line byte u.bytes u.data).onHart h (fun t => { t with resv := none }))) { u with value := 0, done := true }
        | .amo op => put (x.on (fun s => s.l1dWrite h line byte u.bytes (amoNew op u.bytes old u.data))) { u with value := old, done := true }
        | _ => x

/-- A fence completes (R183). -/
def M.tryFence (x : M) (h i : Nat) (u : Uop) : M :=
  let t := x.sys.hart h
  let older := t.rob.take i
  let loadsRead := older.all (fun o => !o.reads || o.done)
  let storesDone := t.sq.isEmpty && !older.any Uop.writes
  let ioDone := older.all (fun o => !o.isIo) && (older.all (fun o => o.translated || o.pieces.isEmpty))
  let fin := fun (x : M) => x.on (fun s => s.uopTo h i { u with done := true })
  match u.kind with
  | .fenceTso => if loadsRead then fin x else x
  | .fence pr pw pi po sr _ si so =>
    let waitW := pw && (sr || si || so || pi || po)
    if (!waitW || storesDone) && (!pr || loadsRead) && (!(pi || po) || (ioDone && (!po || storesDone))) then
      fin (if pw || po then x.on (fun s => s.wcFlush h) else x)
    else x
  | _ => x

/-- A maintenance instruction's permission (menvcfg, senvcfg, henvcfg): the exception, or what cbo.inval does (R269). -/
def Sys.cboMode (s : Sys) (h : Nat) (k : CboKind) : Except Nat CboKind :=
  let t := s.hart h
  let envs := (if t.priv < 3 then [(0x30A, false)] else []) ++ (if t.virt then [(0x60A, true)] else []) ++
    (if t.priv = 0 then [(0x10A, t.virt)] else [])
  let fld := fun (n : Nat) => match k with | .inval => t.cf n 4 2 | .zero => t.cf n 7 1 | _ => t.cf n 6 1
  match envs.find? (fun e => fld e.1 = 0) with
  | some e => .error (if e.2 then exVirtual else exIllegal)
  | none =>
    match k with
    | .inval => .ok (if envs.any (fun e => t.cf e.1 4 2 = 1) then .flush else .inval)
    | k => .ok k

/-- A maintenance instruction is checked: translation, region, and once bound the owner check CMO_CHECK (R270). -/
def M.tryCbo (x : M) (h i : Nat) (u : Uop) : M :=
  let va := u.va0
  if !u.translated || u.issued then x
  else if !(regionOf u.pa0).isMemory then x.on (fun s => s.uopTo h i (u.fault 7 va 0))
  else if x.sys.bound h i then
    (x.on (fun s => s.send (s.coreReq h .cmoCheck (u.pa0 / 64)))).on (fun s => s.uopTo h i { u with issued := true, sfb := [u.pa0 / 64] })
  else x

/-- One entry goes as far as it can. -/
def M.tryAt (x : M) (h i : Nat) : M :=
  match (x.sys.hart h).rob[i]? with
  | none => x
  | some u =>
    if u.exc.isSome then x
    else if u.done then x.on (fun s => s.bindLines h i u)
    else
      let was := u.translated
      let pre := match x.sys.alignFault h u with
        | some c => u.fault c u.va0 0
        | none => x.sys.uopTranslate h u
      let v := match pre.exc, x.sys.alignFault h pre with
        | none, some c => pre.fault c u.va0 0
        | _, _ => pre
      -- a hint whose translation faults is dropped (R254)
      let v := match v.kind with
        | .hint _ => if v.exc.isSome then { v with exc := none, pieces := [], done := true } else { v with done := v.translated }
        | .fenceI | .tlbFence .. => { v with done := true }
        | .branch _ _ _ r => { v with done := r }
        | _ => v
      let x := x.on (fun s => s.uopTo h i v)
      let x := if v.writes && !was && v.translated && v.exc.isNone then x.on (fun s => s.storeKnown h i v) else x
      if v.exc.isSome then x.on (fun s => s.bindLines h i v)
      else
        let x := match v.kind with
          | .load => x.tryLoad h i v
          | .store => x.tryStore h i v
          | .amo _ | .lr | .sc => x.tryAmo h i v
          | .fence .. | .fenceTso => x.tryFence h i v
          | .cbo _ => x.tryCbo h i v
          | _ => x
        match (x.sys.hart h).rob[i]? with
        | some u => x.on (fun s => s.bindLines h i u)
        | none => x

/-- Every unretired instruction of a hart goes as far as it can, oldest first. -/
def M.advance (x : M) (h : Nat) : M := (List.range (x.sys.hart h).rob.length).foldl (fun x i => x.tryAt h i) x

/-! ## Entering the reorder buffer (R152, R153, R156, R158, R160, R166, R187) -/

/-- The histories after a predicted or resolved transfer (R158, R160). -/
def Hist.after (g : Hist) (pc : Word) (len : Nat) (k : BranchKind) (taken : Bool) : Hist :=
  let g := if k = .cond then { g with glob := (g.glob <<< 1) ||| BitVec.ofNat 300 (b2n taken) } else g
  let g := if taken then { g with path := (g.path <<< 2) ^^^ BitVec.ofNat 32 (nget pc.toNat 1 9) } else g
  match k with
  | .call | .indirectCall => { g with ras := ((pc + BitVec.ofNat 64 len) :: g.ras).take 48 }
  | .ret => { g with ras := g.ras.drop 1 }
  | _ => g

def Uop.blank (id : Nat) (kind : UopKind) (pc : Word) (len : Nat) : Uop where
  id := id
  kind := kind
  pc := pc
  len := len
  fetch := []
  pieces := []
  bytes := 0
  dest := .none
  sign := false
  aq := false
  rl := false
  hyp := false
  hlvx := false
  data := 0
  noFwd := false
  gaps := 0
  done := false
  value := 0
  poison := false
  exc := none
  sfb := []
  fwd := none
  waited := false
  missed := false
  issued := false
  wrong := false
  ckpt := none

/-- A predicted transfer takes a checkpoint and a place (R160, R166). -/
def Hart.ahead (t : Hart) (a : Ahead) (at_ : Nat) : Hart :=
  let len := if a.compressed then 2 else 4
  let u := { Uop.blank t.nextId (.branch a.kind a.taken a.target false) a.pc len with ckpt := some t.hist }
  { t with rob := t.rob.take at_ ++ u :: t.rob.drop at_, nextId := t.nextId + 1, hist := t.hist.after a.pc len a.kind a.taken }

/-- The fetch of an instruction: its pieces translated, or nothing while a walk is due or the fetch faults. -/
def Sys.fetchPieces (s : Sys) (h : Nat) (pc : Word) (len : Nat) : Option (List Piece) :=
  (piecesOf pc.toNat len).mapM (fun (p : Piece) =>
    let p := match List.find? (fun (w : Nat × WalkRes) => w.1 == Piece.va p / 4096) (s.hart h).fwalk with
      | some w => { p with walk := some w.2 }
      | none => p
    match s.translate h .fetch false false p with
    | .ok q => if (regionOf (q.pa.getD 0)).isMemory then some q else none
    | _ => none)

/-- The lines of a fetch are read into instruction entries of the fill buffer where L1I misses (R156, R193). -/
def M.fetchLines (x : M) (h : Nat) : List Nat → Option M
  | [] => some x
  | l :: ls =>
    match x.specRead h l true with
    | (.ok _ false, x) => x.fetchLines h ls
    | _ => none

/-- The queues have room for one more instruction (R152, R153, R166). -/
def Hart.roomToEnter (t : Hart) (i : Ins) (u : Uop) : Bool :=
  let cnt := fun (p : Uop → Bool) => (t.rob.filter p).length
  decide (t.rob.length + i.ahead.length < 512) &&
  (!u.reads || decide (cnt Uop.reads < 192)) &&
  (!(u.writes || !u.reads) || decide (cnt (fun o => !o.reads && !(o.kind matches .branch ..)) + t.sq.length < 128)) &&
  decide (cnt (fun o => o.ckpt.isSome && !o.done) + i.ahead.length ≤ 64)

/-- An instruction enters the reorder buffer behind all but the `younger` youngest entries, and everything goes on. While the
fetch, the code-line table or a queue holds it back, nothing changes. -/
def M.enter (x : M) (i : Ins) (younger : Nat) (mk : Uop → Uop) : M :=
  let h := i.h.val
  let s := x.sys
  let len := if i.compressed then 2 else 4
  if !s.runs h then x
  else match s.fetchPieces h i.pc len with
  | none => x
  | some ps =>
    let t := s.hart h
    let u := mk { Uop.blank (t.nextId + i.ahead.length) .load i.pc len with fetch := ps }
    let ls := spanLines (ps.filterMap (fun p => p.pa.map (fun a => (a, p.n))))
    if !t.roomToEnter i u || 64 < (t.codeLines ++ ls).eraseDups.length then x
    else match x.fetchLines h ls with
    | none => x
    | some x =>
      let place := t.rob.length - younger
      let x := x.on (fun s => s.onHart h (fun t =>
        let t := (i.ahead.mapIdx (fun j a => (j, a))).foldl (fun t a => t.ahead a.2 (place + a.1)) t
        let p := place + i.ahead.length
        let late := (t.rob.drop p).map (fun o => { o with gaps := o.gaps - 1 })
        { t with rob := t.rob.take p ++ u :: (if u.writes then late else t.rob.drop p), nextId := t.nextId + 1 }))
      x.advance h

/-! ## Prefetch (R252 to R256) -/

/-- L2 misses of a core outstanding (R152). -/
def Hart.misses (t : Hart) : Nat :=
  t.own.length + (t.sfb.filter (fun e => e.chunks ≠ 15)).length + (t.side.filter (fun e => !e.valid)).length

/-- One prefetch target is issued, when it may be. -/
def Sys.prefetch (s : Sys) (h line : Nat) (kind : ReqKind) : Sys :=
  let t := s.hart h
  let held := (lineIn t.l1d line).isSome || (lineIn t.l2 line).isSome || t.side.any (fun e => e.line = line) ||
    t.sfb.any (fun e => e.line = line) || t.own.contains line
  if held || 32 ≤ t.misses || s.l2State h ≠ lvOn then s
  else
    let r := s.coreReq h kind line
    if (s.homeFor r).isNone || (s.holdWhy (h / 4) r).isSome || (s.stop (h / 4)).behind r then s
    else
      let go := fun (s : Sys) => ((s.onHart h (fun t => { t with side := t.side ++ [⟨line, false, 0, false, 0, 0, false⟩] })).hpm h 0x13).send r
      if t.side.length < 64 then go s
      else match t.side.find? (fun e => e.valid) with
      | some v =>
        go (((s.onHart h (fun t => { t with side := t.side.filter (fun e => e.line ≠ v.line) })).hpm h 0x15).send (s.coreReq h .cleanDrop v.line))
      | none => s

/-- The targets of issue_prefetches (R253). -/
def pfTargets (a : Nat) (s : Int) (degree : Nat) : List Nat :=
  let ts := (List.range (degree + 1)).map (fun (j : Nat) =>
    let n : Int := j + 1
    if 64 ≤ s ∨ s ≤ -64 then (a : Int) + n * s else ((a / 64 * 64 : Nat) : Int) + n * 64 * (if 0 < s then 1 else -1))
  (ts.takeWhile (fun t => decide (0 ≤ t) && decide (t.toNat / 4096 = a / 4096))).map (fun t => t.toNat / 64)

/-- A load that missed L1D trains the stream table (R252). -/
def Sys.trainStream (s : Sys) (h : Nat) (pc : Word) (a : Nat) : Sys :=
  let tag := nget pc.toNat 1 20
  let c := s.ctxTag h
  let t := s.hart h
  match t.streams.find? (fun e => e.pc = tag ∧ e.ctx = c) with
  | none => s.onHart h (fun t => { t with streams := (⟨tag, c, a, 0, 0⟩ :: t.streams).take 32 })
  | some e =>
    let d : Int := (a : Int) - e.last
    let e' : Stream := if d = e.stride ∧ d ≠ 0 then { e with last := a, count := min 15 (e.count + 1) }
      else { e with last := a, stride := d, count := if d ≠ 0 then 1 else 0 }
    let s := s.onHart h (fun t => { t with streams := e' :: t.streams.filter (fun f => ¬ (f.pc = tag ∧ f.ctx = c)) })
    if s.cf h F.tlpf_EN = 1 ∧ s.cf h F.tlpf_CONFIRM ≤ e'.count then
      s.each (pfTargets a e'.stride (s.cf h F.tlpf_DEGREE)) (fun s l => s.prefetch h l .pfRd)
    else s

/-! ## Predictor training (R157 to R160) -/

/-- An entry is written; one of the same table and index is replaced. -/
def Sys.predSet (s : Sys) (h : Nat) (e : PredEnt) : Sys :=
  s.onHart h (fun t => { t with pred := e :: t.pred.filter (fun f => ¬ (f.table = e.table ∧ f.idx = e.idx)) })

/-- A retired transfer trains the tables. Where the spec gives a table's organisation and not its index, the index and tag are free
values (log 1). -/
def Sys.trainBranch (s : Sys) (h : Nat) (pc : Word) (k : BranchKind) (taken : Bool) (target : Word) (path : BitVec 32) (wrong : Bool) : Sys :=
  let c := s.ctxTag h
  let p := pc.toNat
  let s := if k = .cond then
      let i := nget p 1 14
      let old := (s.hart h).pred.find? (fun e => e.table = .base ∧ e.idx = i ∧ e.ctx = c)
      let v := match old with
        | some e => if taken then min 3 (e.value + 1) else e.value - 1
        | none => if taken then 2 else 1
      let s := s.predSet h ⟨.base, i, 0, c, v⟩
      if wrong then
        let f := s.freeVal 26
        (s.usedFree).predSet h ⟨.tagged (1 + f % 8), nget f 3 11, nget f 14 12, c, if taken then 4 else 3⟩
      else s
    else s
  let s := if k = .indirect || k = .indirectCall then
      let set := nget p 1 9 ^^^ nget path.toNat 0 9 ^^^ nget path.toNat 9 9 ^^^ nget path.toNat 18 9
      let tag := nget p 10 12 ^^^ nget path.toNat 27 5
      let way := s.freeVal 2
      let old := (s.hart h).pred.find? (fun e => e.table = .indirect ∧ e.idx / 4 = set ∧ e.tag = tag ∧ e.ctx = c)
      s.usedFree.predSet h ⟨.indirect, match old with | some e => e.idx | none => 4 * set + way, tag, c, target.toNat⟩
    else s
  if taken then
    let f := s.freeVal 24
    (s.usedFree.predSet h ⟨.btb1, f % 1024, p, c, target.toNat⟩).predSet h ⟨.btb2, (f / 1024) % 12288, p, c, target.toNat⟩
  else s

/-- The counters of a retired transfer. -/
def Sys.countBranch (s : Sys) (h : Nat) (k : BranchKind) (wrong : Bool) : Sys :=
  match k with
  | .cond => (s.hpm h 0x03).when wrong (fun s => s.hpm h 0x04)
  | .indirect | .indirectCall | .ret => s.when wrong (fun s => s.hpm h 0x05)
  | _ => s

/-! ## Retirement (R165, R191, R195, R196, R215) -/

/-- A value goes to its register. -/
def Hart.destSet (t : Hart) (d : Dest) (v : BitVec 256) (bytes : Nat) : Hart :=
  match d with
  | .none => t
  | .x n => t.xSet n (v.setWidth 64)
  | .f n =>
    let w : Word := v.setWidth 64
    { t with f := Bank.set t.f n (if bytes = 4 then w ||| 0xFFFFFFFF00000000 else if bytes = 2 then w ||| 0xFFFFFFFFFFFF0000 else w) }
  | .v n =>
    let old := Bank.getD t.v n 0
    { t with v := Bank.set t.v n ((old &&& ~~~ ((BitVec.allOnes (8 * bytes)).setWidth 256)) ||| (v &&& ((BitVec.allOnes (8 * bytes)).setWidth 256))) }

/-- A fill-buffer line that a retiring instruction used is installed (R196), or a STALE one is dropped. `l1` says that L1 takes it
too: a walk's lines go to L2 only (R215). -/
def Sys.installLine (s : Sys) (h line : Nat) (instr l1 : Bool) : Sys :=
  match (s.hart h).sfb.find? (fun e => e.line = line ∧ e.instr = instr ∧ !e.dead) with
  | none => s
  | some e =>
    if e.st == .spec || e.chunks ≠ 15 then s
    else
      let s := s.onHart h (fun t => { t with sfb := t.sfb.filter (fun d => ¬ (d.line = line ∧ d.instr = instr)) })
      if e.st == .stale then s
      else
        let s := s.hpm h 0x43
        let c : CLine := ⟨line, 0, if e.grant = 0 then 1 else e.grant, e.poison, e.owner, e.data⟩
        let s := if e.fromSide then
            ((s.onHart h (fun t => { t with side := t.side.filter (fun d => d.line ≠ line) })).hpm h 0x14).putL2 h c
          else if e.fromL2 then
            s.onHart h (fun t => match lineIn t.l2 line with | some d => t.touch 2 (l2Set line) d.way | none => t)
          else s.putL2 h c
        if !l1 then s
        else if instr then s.putL1i h c
        else
          -- a line that L2 holds dirty stays dirty there; L1D holds it writable and clean
          s.putL1d h { c with st := min 2 (max 1 c.st) }

/-- The first instruction of a SPEC instruction line retires: BIND is sent (R195). -/
def Sys.bindInstr (s : Sys) (h line : Nat) : Sys :=
  match (s.hart h).sfb.find? (fun e => e.line = line ∧ e.instr ∧ !e.dead) with
  | some e =>
    if e.st == .spec && !e.bindSent then
      (s.onHart h (fun t => { t with sfb := t.sfb.map (fun d => if d.line = line ∧ d.instr then { d with bindSent := true } else d) })).send
        { s.coreReq h .bind line with tok := e.tok, noBind := e.noBind }
    else s.installLine h line true true
  | none =>
    s.onHart h (fun t => match lineIn t.l1i line with | some c => t.touch 0 (l1Set line) c.way | none => t)

/-- The translation counters of a retired access (R150). -/
def Sys.countTrans (s : Sys) (h : Nat) (fetch : Bool) (ps : List Piece) : Sys :=
  let s := s.when (ps.any (fun p => p.l1miss)) (fun s => s.hpm h (if fetch then 0x21 else 0x20))
  let s := s.when (ps.any (fun p => p.walk.isSome)) (fun s => s.hpm h 0x22)
  s.when (ps.any (fun p => p.slot)) (fun s => s.hpm h 0x24)

/-- What the retirement of an instruction installs for its fetch. -/
def Sys.retireFetch (s : Sys) (h : Nat) (ps : List Piece) : Sys :=
  let s := s.onHart h (fun t => { ps.foldl (fun t p => t.putTrans true p) t with
    fwalk := t.fwalk.filter (fun w => !ps.any (fun p => p.va / 4096 == w.1)) })
  let s := s.countTrans h true ps
  s.each (spanLines (ps.filterMap (fun p => p.pa.map (fun a => (a, p.n))))) (fun s l => s.bindInstr h l)

/-- The oldest instruction takes its exception (R165, R199, R202). A consumed poison is recorded as CORE_POISON (R204, R225). -/
def Sys.takeExc (s : Sys) (h : Nat) (u : Uop) (c tval gpa : Nat) : Sys :=
  let walkPoison := c == exHardware && !u.poison
  let s := s.when (c == exHardware) (fun s => (s.coreLog h (if walkPoison then 0x13 else 0x0A) 0 0 true false).raise (srcTile (h / 4) 1) (h % 4))
  s.trap h c false u.pc tval gpa (s.ctx h u.ty u.hyp u.hlvx).virt

/-- The register value of a completed load, AMO, LR or SC. -/
def Uop.result (u : Uop) : BitVec 256 :=
  if u.sign then BitVec.ofNat 256 (sext (8 * u.bytes) u.value) else BitVec.ofNat 256 u.value

/-- A retiring I/O store is performed: by the register's station, or posted to the port (R185). The answer says that it was refused. -/
def M.ioStore (x : M) (h : Nat) (u : Uop) : Bool × M :=
  let x := x.on (fun s => s.wcFlush h)
  match regionOf u.pa0 with
  | .regs k =>
    if k = x.sys.socket then
      let x := x.regAccess (.hart (Fin.ofNat 256 h)) (u.pa0 % 0x80000000000) u.bytes (some (BitVec.ofNat 64 u.data))
      (match x.sys.resp with | .done _ | .waiting => false | _ => true, x)
    else (false, x.post (.io (.core h) (x.sys.hartKennel h) (x.sys.worldS h) true u.pa0 u.bytes u.data false))
  | .ecam _ => if 4 < u.bytes then (true, x) else (false, x.post (.io (.core h) (x.sys.hartKennel h) (x.sys.worldS h) true u.pa0 u.bytes u.data false))
  | .window _ => (false, x.post (.io (.core h) (x.sys.hartKennel h) (x.sys.worldS h) true u.pa0 u.bytes u.data false))
  | _ =>
    (false, x.on (fun s => s.each (segsOf u.spans) (fun s g =>
      s.send { s.coreReq h .ncWr g.1 with
        data := linePut 0 g.2.1 (8 * g.2.2.1) (u.data / 2 ^ (8 * g.2.2.2))
        mask := BitVec.ofNat 64 ((2 ^ g.2.2.1 - 1) * 2 ^ g.2.1) })))

/-- The oldest entry of the reorder buffer retires, or takes its exception; while it is not complete nothing changes. -/
def M.retireHead (x : M) (h : Nat) : M :=
  let s := x.sys
  let t := s.hart h
  match t.rob with
  | [] => x
  | u :: _ =>
    if u.pc ≠ t.pc || u.gaps ≠ 0 then x
    else match u.exc with
    | some (c, tval, gpa) => x.on (fun s => s.takeExc h u c tval gpa)
    | none =>
      let ls := u.sfb ++ u.walkLines
      let isMem := match u.kind with | .load => true | _ => false
      if !u.done then x
      else if t.sfb.any (fun e => !e.instr && !e.dead && ls.contains e.line && (e.st == .spec || (e.chunks ≠ 15))) then
        -- a load retires only when its entry is BOUND (R194)
        x.on (fun s => s.bindLines h 0 u)
      else if isMem && u.poison then x.on (fun s => s.takeExc h u exHardware u.va0 0)
      else
        let io := u.kind == .store && u.isIo && !(regionOf u.pa0).isMemory
        match (if io then x.sys.injIo h else some x.sys) with
        | none => x
        | some s' =>
        let x := { x with sys := s' }
        let (refused, x) := if u.kind == .store && u.isIo then x.ioStore h u else (false, x)
        if refused then x.on (fun s => s.takeExc h u 7 u.va0 0)
        else
          let codeHit := (match u.kind with | .amo _ | .sc => true | _ => false) &&
            (spanLines u.spans).any (fun l => ((x.sys.hart h).rob.tail.any (fun o =>
              (spanLines (o.fetch.filterMap (fun p => p.pa.map (fun a => (a, p.n))))).contains l)))
          let x := x.on (fun s => s.retireFetch h u.fetch)
          let x := x.on (fun s => (s.onHart h (fun t => u.pieces.foldl (fun t p => t.putTrans false p) t)).countTrans h false u.pieces)
          let x := x.on (fun s => s.each u.walkLines (fun s l => s.installLine h l false false))
          let x := x.on (fun s => s.each u.sfb (fun s l => s.installLine h l false true))
          let x := x.on (fun s => s.onHart h (fun t =>
            (spanLines u.spans).foldl (fun t l => match lineIn t.l1d l with | some c => t.touch 1 (l1Set l) c.way | none => t) t))
          let x := x.on (fun s => s.onHart h (fun t => { (t.destSet u.dest u.result u.bytes) with rob := t.rob.tail, pc := u.npc }))
          let x := x.on (fun s => s.retired h)
          let x := x.on (fun s =>
            match u.kind with
            | .load =>
              let s := s.hpm h 0x06
              let s := s.onHart h (fun t => { t with loads := t.loads + 1 })
              let s := if (s.hart h).replay.contains u.pc then
                  (s.onHart h (fun t => { t with replay := t.replay.erase u.pc })).predSet h ⟨.storeWait, (u.pc.toNat / 2) % 4096, 0, s.ctxTag h, 1⟩
                else s
              let s := if (s.hart h).loads = 1048576 then
                  s.onHart h (fun t => { t with loads := 0, pred := t.pred.filter (fun e => e.table ≠ .storeWait) })
                else s
              if u.missed then s.trainStream h u.pc u.pa0 else s
            | .amo _ => s.hpm h 0x06
            | .lr => s.hpm h 0x06
            | .sc => s.hpm h 0x07
            | .store =>
              let s := s.hpm h 0x07
              if u.isIo then s else s.onHart h (fun t => { t with sq := t.sq ++ [.store u.spans u.data (if u.isNc then 1 else 0) false] })
            | .cbo k => s.onHart h (fun t => { t with sq := t.sq ++ [.cbo k u.pa0 (if u.isNc then 1 else 0) false] })
            | .fenceI => s.onHart h (fun t => { t with sq := t.sq ++ [.fenceI] })
            | .tlbFence k a b => s.onHart h (fun t => { t with sq := t.sq ++ [.tlbFence k a b] })
            | .hint k =>
              if u.translated && !u.pieces.isEmpty && s.cf h F.tlpf_HINTS = 1 && (regionOf u.pa0).isMemory && u.pieces.all (fun p => p.pbmt == 0) then
                s.prefetch h (u.pa0 / 64) (if k = 2 then .pfWr else .pfRd)
              else s
            | .branch k taken target _ =>
              (s.countBranch h k u.wrong).trainBranch h u.pc k taken target ((u.ckpt.map (·.path)).getD 0) u.wrong
            | _ => s)
          -- an AMO or SC that wrote over fetched instructions discards them (R116)
          let x := if codeHit then x.on (fun s => (s.hpm h 0x35).squash h 0) else x
          x.advance h

/-- An instruction that holds no place of the reorder buffer retires at the hart's pc (R165). -/
def M.retirePlain (x : M) (h : Nat) (compressed : Bool) (d : Dest) (v : BitVec 256) (flow : Option (BranchKind × Bool × Word))
    (wrong : Bool) (fp : Nat) : M :=
  let s := x.sys
  if !s.ready h then x
  else
    let t := s.hart h
    let len := if compressed then 2 else 4
    match s.fetchPieces h t.pc len with
    | none => x
    | some ps =>
      match x.fetchLines h (spanLines (ps.filterMap (fun p => p.pa.map (fun a => (a, p.n))))) with
      | none => x
      | some x =>
        let pc := t.pc
        let x := x.on (fun s => s.retireFetch h ps)
        let x := x.on (fun s => s.onHart h (fun t => { t.destSet d v 32 with
          pc := match flow with | some (_, true, tgt) => tgt | _ => t.pc + BitVec.ofNat 64 len }))
        let x := x.on (fun s => s.retired h)
        let x := match flow with
          | some (k, taken, tgt) => x.on (fun s =>
              let path := (s.hart h).hist.path
              let s := (s.countBranch h k wrong).trainBranch h pc k taken tgt path wrong
              let s := s.onHart h (fun t => { t with hist := t.hist.after pc len k taken })
              -- a misprediction discards what was fetched behind it
              s.when wrong (fun s => s.squash h 0))
          | none => x
        let x := (List.range fp).foldl (fun x _ => x.on (fun s => s.hpm h 0x08)) x
        x.advance h

/-- sret of the RISC-V Privileged Architecture; the world does not change (R130). -/
def Sys.sret (s : Sys) (h : Nat) : Sys :=
  if !s.ready h then s
  else
    let t := s.hart h
    if t.priv = 0 then s.raiseAt h (if t.virt then exVirtual else exIllegal)
    else if t.virt && t.cf hstatus 22 1 = 1 then s.raiseAt h exVirtual
    else if !t.virt && t.priv = 1 && t.cf mstatus 22 1 = 1 then s.raiseAt h exIllegal
    else
      let r := if t.virt then vsstatus else mstatus
      let p := t.cf r 8 1
      let v := if t.virt then true else t.cf hstatus 7 1 == 1
      let t := ((t.cput r 1 1 (t.cf r 5 1)).cput r 5 1 1).cput r 8 1 0
      let t := if t.virt then t else (t.cput hstatus 7 1 0).cput mstatus 17 1 0
      let pc := (t.csrGet (if t.virt then 0x241 else 0x141) >>> 1) <<< 1
      (((s.squash h 0).hartTo h { t with pc := pc, rob := [] }).modeTo h p v (s.worldS h)).retired h

/-- INSTRUCTION_RETIRE. -/
def M.retire (x : M) (h : Nat) (what : Retire) : M :=
  match what with
  | .oldest => if x.sys.runs h then x.retireHead h else x
  | .plain c d v flow wrong fp => x.retirePlain h c d v flow wrong fp
  | .csr n rd w => (x.on (fun s => s.csrOp h n.toNat rd w)).advance h
  | .sret => (x.on (fun s => s.sret h)).advance h

/-! ## Senior stores (R173, R174, R180, R186, R187, R271) -/

/-- The oldest senior entry is done. -/
def Sys.sqPop (s : Sys) (h : Nat) : Sys := s.onHart h (fun t => { t with sq := t.sq.tail })
def Sys.sqHead (s : Sys) (h : Nat) (q : Senior) : Sys := s.onHart h (fun t => { t with sq := q :: t.sq.tail })

/-- A store to a line that holds fetched instructions discards them and the line's instruction copies (R116, R187). -/
def Sys.codeCheck (s : Sys) (h : Nat) (lines : List Nat) : Sys :=
  let hit := lines.any (fun l => (s.hart h).codeLines.contains l)
  let s := if hit then (s.hpm h 0x35).squash h 0 else s
  s.each lines (fun s l =>
    (s.onHart h (fun t => { t with l1i := lineOut t.l1i l })).each
      ((s.hart h).sfb.filter (fun e => e.instr && e.line == l && !e.dead)) (fun s e => s.sfbDrop h e))

/-- Bytes of a store go into a combining buffer (R186); a buffer is written out when all four are in use, and under Ztso when the
line changes. -/
def Sys.wcStore (s : Sys) (h : Nat) (g : Nat × Nat × Nat × Nat) (data : Nat) : Sys :=
  let put := fun (b : WcBuf) => { b with
    mask := b.mask ||| BitVec.ofNat 64 ((2 ^ g.2.2.1 - 1) * 2 ^ g.2.1)
    data := linePut b.data g.2.1 (8 * g.2.2.1) (data / 2 ^ (8 * g.2.2.2)) }
  let t := s.hart h
  if t.wcb.any (fun b => b.line = g.1) then s.onHart h (fun t => { t with wcb := t.wcb.map (fun b => if b.line = g.1 then put b else b) })
  else
    let s := if s.ztso h then s.wcFlush h
      else match t.wcb with
        | b :: _ => if 4 ≤ t.wcb.length then s.wcOut h b else s
        | [] => s
    s.onHart h (fun t => { t with wcb := t.wcb ++ [put ⟨g.1, 0, 0⟩] })

/-- A maintenance operation begins as the oldest senior entry (R271). -/
def Sys.cboStart (s : Sys) (h : Nat) (k : CboKind) (pa pbmt : Nat) : Sys :=
  let l := pa / 64
  let t := s.hart h
  if s.fillDue h l || t.own.contains l then s
  else
    let s := s.when (pbmt == 1) (fun s => s.each ((s.hart h).wcb.filter (fun b => b.line = l)) (fun s b => s.wcOut h b))
    -- side buffer and fill buffer
    let user := (List.range t.rob.length).find? (fun i => (t.rob[i]?).any (fun u => u.sfb.contains l))
    let s := s.onHart h (fun t => { t with side := (t.side.filter (fun e => ¬ (e.line = l ∧ e.valid))).map (fun e => if e.line = l then { e with discard := true } else e) })
    let s := s.each (t.sfb.filter (fun e => e.line = l ∧ !e.dead)) (fun s e => s.sfbDrop h e)
    let s := match user with | some i => (s.hpm h 0x34).squash h i | none => s
    let c := (s.hart h).dirtyCopy l
    let drop := fun (s : Sys) => s.onHart h (fun t => { t with l1d := lineOut t.l1d l, l2 := lineOut t.l2 l, l1i := lineOut t.l1i l })
    let req := fun (s : Sys) (kind : ReqKind) =>
      let r := s.coreReq h kind l
      match kind, c with
      | .cmoClean, some c | .cmoFlush, some c => { r with data := c.data, dirty := true, poison := c.poison }
      | _, _ => r
    let s := s.sqHead h (.cbo k pa pbmt true)
    match k with
    | .clean =>
      let low := fun (c' : CLine) => if c'.st = 3 then { c' with st := 2 } else c'
      let s' := s.onHart h (fun t => { t with l1d := lineMap t.l1d l low, l2 := lineMap t.l2 l (fun d => match c with | some c => { low d with data := c.data, poison := c.poison } | none => d) })
      s'.send (req s' .cmoClean)
    | .flush => let s' := (drop s).lineGone h l; s'.send (req s' .cmoFlush)
    | .inval => let s' := (drop s).lineGone h l; s'.send (s'.coreReq h .cmoInval l)
    | .zero =>
      if s.l1dOn h then s.send (s.coreReq h .ownZero l)
      else s.send { s.coreReq h .ncWr l with mask := BitVec.allOnes 64 }

/-- The oldest senior entry is performed, as far as it can be (R173). -/
def Sys.storePerform (s : Sys) (h : Nat) : Sys :=
  let t := s.hart h
  match t.sq with
  | [] => s
  | .store spans data pbmt sent :: _ =>
    let segs := segsOf spans
    if pbmt = 1 then ((segs.foldl (fun s g => s.wcStore h g data) s).sqPop h).codeCheck h (spanLines spans)
    else if !s.l1dOn h then
      if sent then s
      else (s.sqHead h (.store spans data pbmt true)).each segs (fun s g =>
        s.send { s.coreReq h .ncWr g.1 with
          data := linePut 0 g.2.1 (8 * g.2.2.1) (data / 2 ^ (8 * g.2.2.2))
          mask := BitVec.ofNat 64 ((2 ^ g.2.2.1 - 1) * 2 ^ g.2.1) })
    else
      -- one part per line: a store that crosses a line is performed as one access per line (R179)
      match segs with
      | [] => s.sqPop h
      | g :: rest =>
        let held := decide (2 ≤ t.lineSt g.1)
        let s := s.when (!held && (lineIn t.l1d g.1).isNone) (fun s => s.hpm h 0x11)
        let (ok, s) := s.wantM h g.1
        if !ok then s
        else
          let s := s.l1dWrite h g.1 g.2.1 g.2.2.1 (data / 2 ^ (8 * g.2.2.2))
          let s := s.codeCheck h [g.1]
          match rest with
          | [] => s.sqPop h
          | _ => s.sqHead h (.store (rest.map (fun r => (r.1 * 64 + r.2.1, r.2.2.1))) (data / 2 ^ (8 * g.2.2.1)) pbmt false)
  | .cbo k pa pbmt sent :: _ => if sent then s else (s.cboStart h k pa pbmt).codeCheck h (if k = .zero then [pa / 64] else [])
  | .fenceI :: _ =>
    let s := (s.sqPop h).onHart h (fun t => { t with l1i := [] })
    (s.sfbFlush h true).squash h 0
  | .tlbFence k a b :: _ =>
    ((s.sqPop h).tlbFenceDo h k a b).squash h 0

/-! ## What reaches the hart -/

/-- A request of the hart that returns no line, or an access at the home agent or a port, is answered (R173, R266, R270, R275). -/
def Sys.ncDone (s : Sys) (h line : Nat) (d : BitVec 512) (poison err : Bool) (result : Nat) (data : Bool) : Sys :=
  let t := s.hart h
  let fin := match t.sq with
    | .store spans _ _ true :: _ => !data && (spanLines spans).contains line
    | .cbo _ pa _ true :: _ => !data && pa / 64 == line
    | _ => false
  if fin then
    match t.sq with
    | .store spans dt p true :: _ =>
      let rest := (segsOf spans).filter (fun g => g.1 ≠ line)
      if rest.isEmpty then s.sqPop h
      else
        let off := ((rest.head?).map (fun g => g.2.2.2)).getD 0
        s.sqHead h (.store (rest.map (fun r => (r.1 * 64 + r.2.1, r.2.2.1))) (dt / 2 ^ (8 * off)) p true)
    | _ => s.sqPop h
  else
    match (List.range t.rob.length).find? (fun i => (t.rob[i]?).any (fun u => u.issued && !u.done && u.sfb.contains line)) with
    | none => s
    | some i =>
      match t.rob[i]? with
      | none => s
      | some u =>
        let va := u.va0
        if err then s.uopTo h i { u.fault u.ty.accessFault va 0 with issued := false, sfb := [] }
        else
          let v := match u.kind with
            | .load | .lr =>
              (segsOf u.spans).foldl (fun v g => if g.1 = line then v + lineField d g.2.1 (8 * g.2.2.1) * 2 ^ (8 * g.2.2.2) else v) u.value
            | _ => result
          let rest := u.sfb.filter (· ≠ line)
          s.uopTo h i { u with value := v, poison := u.poison || poison, sfb := rest, done := rest.isEmpty }

/-- BIND_DATA arrives (R194): the entry takes the new line; loads that read other bytes, and walks of its PTEs, are made again. -/
def Sys.bindData (s : Sys) (h : Nat) (f : Fill) : Sys :=
  let t := s.hart h
  match t.sfb.find? (fun e => e.line = f.line ∧ e.bindSent ∧ e.st = .spec) with
  | none => s
  | some e =>
    let s := s.onHart h (fun t => { t with sfb := t.sfb.map (fun d => if d.line = f.line ∧ d.instr = e.instr then
      { d with st := .bound, data := f.data, poison := f.poison, owner := f.owner, grant := f.grant, chunks := 15 } else d) })
    if e.instr then s.installLine h f.line true true
    else if e.dead then
      (s.onHart h (fun t => { t with sfb := t.sfb.filter (fun d => ¬ (d.line = f.line ∧ !d.instr)) })).send (s.coreReq h .cleanDrop f.line)
    else
      let differs := fun (u : Uop) => (u.reads && u.done && u.sfb.contains f.line &&
          (segsOf u.spans).any (fun g => g.1 == f.line && lineField f.data g.2.1 (8 * g.2.2.1) != lineField e.data g.2.1 (8 * g.2.2.1))) ||
        ((u.pieces ++ u.fetch).any (fun p => (p.walk.map (fun w => w.ptes.any (fun q => q.1 / 64 == f.line && lineField f.data (q.1 % 64) 64 != q.2))).getD false))
      match (List.range t.rob.length).find? (fun i => (t.rob[i]?).any differs) with
      | some i => (s.hpm h 0x34).squash h i
      | none => s

/-- A whole fill has arrived. -/
def Sys.fillDone (s : Sys) (h : Nat) (f : Fill) : Sys :=
  let c : CLine := ⟨f.line, 0, f.grant, f.poison, f.owner, f.data⟩
  match f.kind with
  | .nc => s.ncDone h f.line f.data f.poison f.err f.result true
  | .bindData =>
    if f.err then s.onHart h (fun t => { t with
      sfb := t.sfb.filter (fun e => ¬ (e.line = f.line ∧ e.bindSent))
      rob := t.rob.map (fun u => if u.sfb.contains f.line then u.fault u.ty.accessFault u.va0 0 else u) })
    else s.bindData h f
  | .own =>
    let s := s.onHart h (fun t => { t with own := t.own.filter (· ≠ f.line) })
    if f.err then
      s.onHart h (fun t => { t with rob := t.rob.map (fun u =>
        if u.writes && (spanLines u.spans).contains f.line then u.fault 7 u.va0 0 else u) })
    else
      let s := s.onHart h (fun t => { t with side := t.side.filter (fun e => e.line ≠ f.line) })
      (s.putL2 h { c with st := 2 }).putL1d h { c with st := 3 }
  | .pf =>
    match (s.hart h).side.find? (fun e => e.line = f.line ∧ !e.valid) with
    | none => s
    | some e =>
      if f.err || e.discard then s.onHart h (fun t => { t with side := t.side.filter (fun d => d.line ≠ f.line) })
      else s.onHart h (fun t => { t with side := t.side.map (fun d =>
        if d.line = f.line then ⟨f.line, true, f.grant, f.poison, f.owner, f.data, false⟩ else d) })
  | .shared | .spec =>
    let instr := false
    match (s.hart h).sfb.find? (fun e => e.line = f.line ∧ e.instr = instr ∧ e.chunks ≠ 15) with
    | none => s
    | some e =>
      let gone := fun (s : Sys) => s.onHart h (fun t => { t with sfb := t.sfb.filter (fun d => ¬ (d.line = f.line ∧ d.instr = instr)) })
      if f.err then
        (gone s).onHart h (fun t => { t with rob := t.rob.map (fun u =>
          if u.reads && !u.done && u.sfb.contains f.line then u.fault u.ty.accessFault u.va0 0 else u) })
      else if e.dead then
        (gone s).when (f.kind == .shared) (fun s => s.send (s.coreReq h .cleanDrop f.line))
      else s.onHart h (fun t => { t with sfb := t.sfb.map (fun d => if d.line = f.line ∧ d.instr = instr then
        { d with data := f.data, poison := f.poison, owner := f.owner, grant := f.grant, tok := f.tok, noBind := f.noBind, chunks := 15 } else d) })

/-- The next chunk of a fill arrives (R251): the one that holds the requested address first, then in ascending order. -/
def M.fillArrive (x : M) (h line : Nat) : M :=
  match takeMsg (fun m => match m with | .fill f => f.h == h && f.line == line && f.got < 4 | _ => false) x.sys.msgs with
  | some (.fill f, rest) =>
    if !x.sys.alive h then { x with sys := { x.sys with msgs := rest } }
    else if f.err then (({ x with sys := { x.sys with msgs := rest } } : M).on (fun s => s.fillDone h f)).advance h
    else
      let chunk := (f.first + f.got) % 4
      let f' := { f with got := f.got + 1 }
      let bits := fun (d : BitVec 512) => linePut d (16 * chunk) 128 (lineField f.data (16 * chunk) 128)
      let early := f.kind == .shared || f.kind == .spec
      let last := f'.got == 4
      let x := x.on (fun s => { s with msgs := if last then rest else s.msgs.map (fun m => if m = .fill f then .fill f' else m) })
      let x := if early then x.on (fun s => s.onHart h (fun t => { t with sfb := t.sfb.map (fun d =>
          if d.line = line ∧ !d.instr ∧ d.chunks ≠ 15 ∧ !last then { d with chunks := d.chunks ||| 2 ^ chunk, data := bits d.data, poison := f.poison, owner := f.owner } else d) }))
        else x
      (if last then x.on (fun s => s.fillDone h f') else x).advance h
  | _ => x

/-- BIND_OK arrives (R194, R195). -/
def M.bindOk (x : M) (h line : Nat) : M :=
  match takeMsg (fun m => m == .bindOk h line) x.sys.msgs with
  | some (_, rest) =>
    let x := { x with sys := { x.sys with msgs := rest } }
    match (x.sys.hart h).sfb.find? (fun e => e.line = line ∧ e.bindSent ∧ e.st = .spec) with
    | none => x
    | some e =>
      if e.dead then
        x.on (fun s => (s.onHart h (fun t => { t with sfb := t.sfb.filter (fun d => ¬ (d.line = line ∧ d.instr = e.instr)) })).send (s.coreReq h .cleanDrop line))
      else
        let x := x.on (fun s => s.onHart h (fun t => { t with sfb := t.sfb.map (fun d =>
          if d.line = line ∧ d.instr = e.instr then { d with st := .bound, grant := 1 } else d) }))
        (if e.instr then x.on (fun s => s.installLine h line true true) else x).advance h
  | none => x

/-- A grant without data, a completion or an error completion reaches its requester (R308). -/
def M.completion (x : M) (w : ReqSrc) (line : Nat) : M :=
  let src := (x.sys.srcOf w).1
  match src with
  | .core h =>
    match takeMsg (fun m => match m with
        | .fill f => f.h == h && f.line == line && (f.got == 4 || f.err)
        | .grant h' l _ _ => h' == h && l == line
        | _ => false) x.sys.msgs with
    | some (.fill f, rest) =>
      let x := { x with sys := { x.sys with msgs := rest } }
      if !x.sys.alive h then x else
      (x.on (fun s => if f.kind = .nc then s.ncDone h line f.data f.poison f.err f.result false else s.fillDone h f)).advance h
    | some (.grant _ l tag zero, rest) =>
      let x := { x with sys := { x.sys with msgs := rest } }
      if !x.sys.alive h then x else
      let x := x.on (fun s => s.grantNoData h l tag zero)
      (if zero then x.on (fun s => s.ncDone h l 0 false false 0 false) else x).advance h
    | _ => x
  | .engine e => x.on (fun s => s.engCompletion e line)
  | .port p j => x.on (fun s => s.portCompletion p j line)
  | w =>
    match takeMsg (Msg.isReply w line) x.sys.msgs with
    | some (_, rest) => { x with sys := { x.sys with msgs := rest } }
    | none => x

/-! ## Branches, interrupts, walks -/

/-- A branch resolves (R160, R163). -/
def M.branchResolve (x : M) (h i : Nat) (taken : Bool) (target : Word) : M :=
  match (x.sys.hart h).rob[i]? with
  | some u =>
    match u.kind with
    | .branch k pt ptgt false =>
      let wrong := pt != taken || (taken && ptgt != target)
      let x := x.on (fun s => s.uopTo h i { u with kind := .branch k taken target true, done := true, wrong := wrong })
      let x := if wrong then
          x.on (fun s => (s.squash h (i + 1)).onHart h (fun t => { t with hist := ((u.ckpt).getD t.hist).after u.pc u.len k taken }))
        else x
      x.advance h
    | _ => x
  | none => x

/-- An interrupt is taken (R203): an I/O access already issued, or an AMO, LR or SC already performed, first completes and retires
with everything older. A waiting WFI completes. -/
def M.interrupt (x : M) (h : Nat) : M :=
  let s := x.sys
  let t := s.hart h
  if s.coreState h ≠ psCs0 || t.halted || s.heeled then x
  else match s.intrNow h, t.wait with
  | some _, .wfs .. => x
  | some _, w =>
    let x := match w with
      | .wfi => x.on (fun s => (s.onHart h (fun t => { t with wait := .run })).next h 4)
      | _ => x
    let rob := (x.sys.hart h).rob
    let last := (List.range rob.length).reverse.find? (fun i => (rob[i]?).any (fun u => (u.issued && u.isIo) || (u.isAmo && (u.done || u.issued))))
    let x := match last with
      | some i => (List.range (i + 1)).foldl (fun x _ => x.retireHead h) x
      | none => x
    let held := (x.sys.hart h).rob.any (fun u => (u.issued && u.isIo) || (u.isAmo && (u.done || u.issued)))
    if held then x
    else match x.sys.intrNow h with
    | some code => x.on (fun s => s.trap h code true (s.hart h).pc 0 0 false)
    | none => x
  | none, _ => x

/-- A TLB miss walks the page tables (R221). -/
def M.pageWalk (x : M) (h : Nat) (of : WalkOf) : M :=
  match of with
  | .piece i j =>
    match (x.sys.hart h).rob[i]? with
    | none => x
    | some u =>
      match u.pieces[j]? with
      | none => x
      | some p =>
        if p.pa.isSome || p.walk.isSome || u.exc.isSome then x
        else
          let c := x.sys.ctx h u.ty u.hyp u.hlvx
          if x.sys.bare h c || x.sys.translate h u.ty u.hyp u.hlvx p ≠ .wait then x.advance h
          else
            let w := x.walk h u.ty c p.va
            if w.wait then w.x
            else (w.x.on (fun s => s.uopTo h i { u with pieces := u.pieces.set j { p with walk := some w.acc } })).advance h
  | .fetch va =>
    let c := x.sys.ctx h .fetch false false
    let page := va.toNat / 4096
    if !x.sys.runs h || x.sys.bare h c || (x.sys.hart h).fwalk.any (fun w => w.1 = page) then x
    else
      let w := x.walk h .fetch c va.toNat
      if w.wait then w.x
      else w.x.on (fun s => s.onHart h (fun t => { t with fwalk := t.fwalk ++ [(page, w.acc)] }))

/-- The A and D update of a walk, once bound and after every older senior store (R227). -/
def M.adUpdate (x : M) (h : Nat) (of : WalkOf) : M :=
  match of with
  | .piece i j =>
    match (x.sys.hart h).rob[i]? with
    | none => x
    | some u =>
      match u.pieces[j]? with
      | none => x
      | some p =>
        match p.walk with
        | some w =>
          if w.upd.isEmpty || !x.sys.bound h i || !(x.sys.hart h).sq.isEmpty then x
          else
            match x.adRun h w with
            | (some r, x) => (x.on (fun s => s.uopTo h i { u with pieces := u.pieces.set j { p with walk := r } })).advance h
            | (none, x) => x
        | none => x
  | .fetch va =>
    let page := va.toNat / 4096
    match (x.sys.hart h).fwalk.find? (fun w => w.1 = page) with
    | some (_, w) =>
      if w.upd.isEmpty || (x.sys.hart h).pc.toNat / 4096 ≠ page || !(x.sys.hart h).rob.isEmpty || !(x.sys.hart h).sq.isEmpty then x
      else
        match x.adRun h w with
        | (some (some w), x) => x.on (fun s => s.onHart h (fun t => { t with fwalk := t.fwalk.map (fun q => if q.1 = page then (page, w) else q) }))
        | (some none, x) => x.on (fun s => s.onHart h (fun t => { t with fwalk := t.fwalk.filter (fun q => q.1 ≠ page) }))
        | (none, x) => x
    | none => x

/-- A combining buffer with no store for 64 core cycles is written out (R186). -/
def Sys.wcTimeout (s : Sys) (h line : Nat) : Sys :=
  s.each ((s.hart h).wcb.filter (fun b => b.line = line)) (fun s b => s.wcOut h b)

/-! ## Commands -/

def execLoad (i : Ins) (va : Word) (bytes : Nat) (dest : Dest) (signed noFwd hyp hlvx : Bool) (gaps : Nat) (s : State) :
    Host.Outcome State Fault Refusal :=
  onM (fun x => x.enter i 0 (fun u => { u with
    kind := .load
    pieces := piecesOf (x.sys.masked i.h .load (x.sys.ctx i.h .load hyp hlvx) va.toNat) bytes
    bytes := bytes
    dest := dest
    sign := signed
    noFwd := noFwd
    hyp := hyp
    hlvx := hlvx
    gaps := gaps })) s

def execStore (i : Ins) (va : Word) (bytes : Nat) (data : BitVec 512) (hyp : Bool) (younger : Nat) (s : State) :
    Host.Outcome State Fault Refusal :=
  onM (fun x => x.enter i younger (fun u => { u with
    kind := .store
    pieces := piecesOf (x.sys.masked i.h .store (x.sys.ctx i.h .store hyp false) va.toNat) bytes
    bytes := bytes
    data := data.toNat
    hyp := hyp })) s

def execStorePerform (h : Fin 256) (s : State) : Host.Outcome State Fault Refusal := onM (fun x => (x.on (fun s => s.storePerform h)).advance h) s

def execAmo (i : Ins) (kind : AmoKind) (va : Word) (dword : Bool) (rd : Fin 32) (rs2 : Word) (aq rl : Bool) (s : State) :
    Host.Outcome State Fault Refusal :=
  onM (fun x => x.enter i 0 (fun u => { u with
    kind := match kind with | .op o => .amo o | .lr => .lr | .sc => .sc
    pieces := piecesOf (x.sys.masked i.h .store (x.sys.ctx i.h .store false false) va.toNat) (if dword then 8 else 4)
    bytes := if dword then 8 else 4
    data := rs2.toNat % 2 ^ (if dword then 64 else 32)
    dest := .x rd
    sign := true
    aq := aq
    rl := rl })) s

def execFence (i : Ins) (pred succ : BitVec 4) (tso : Bool) (s : State) : Host.Outcome State Fault Refusal :=
  onM (fun x => x.enter i 0 (fun u => { u with
    kind := if tso then .fenceTso else .fence pred[1] pred[0] pred[3] pred[2] succ[1] succ[0] succ[3] succ[2] })) s

def execFenceI (i : Ins) (s : State) : Host.Outcome State Fault Refusal := onM (fun x => x.enter i 0 (fun u => { u with kind := .fenceI })) s

/-- The exception a translation fence raises in the hart's mode: TVM and VTVM, U and VU, guests for the hypervisor fences. -/
def Sys.fenceFault (s : Sys) (h : Nat) (guest : Bool) (gvma : Bool) : Option (Nat × Nat × Nat) :=
  let t := s.hart h
  if t.priv = 3 then none
  else if t.virt then
    if guest || t.priv = 0 || t.cf hstatus 20 1 = 1 then some (exVirtual, 0, 0) else none
  else if t.priv = 0 then some (exIllegal, 0, 0)
  else if (!guest || gvma) && t.cf mstatus 20 1 = 1 then some (exIllegal, 0, 0)
  else none

def execSfenceVma (i : Ins) (rs1 rs2 : Option Word) (s : State) : Host.Outcome State Fault Refusal :=
  onM (fun x => x.enter i 0 (fun u => { u with
    kind := .tlbFence .sfence (rs1.map BitVec.toNat) (rs2.map BitVec.toNat)
    exc := x.sys.fenceFault i.h false false })) s
def execHfenceVvma (i : Ins) (rs1 rs2 : Option Word) (s : State) : Host.Outcome State Fault Refusal :=
  onM (fun x => x.enter i 0 (fun u => { u with
    kind := .tlbFence .vvma (rs1.map BitVec.toNat) (rs2.map BitVec.toNat)
    exc := x.sys.fenceFault i.h true false })) s
def execHfenceGvma (i : Ins) (rs1 rs2 : Option Word) (s : State) : Host.Outcome State Fault Refusal :=
  onM (fun x => x.enter i 0 (fun u => { u with
    kind := .tlbFence .gvma (rs1.map BitVec.toNat) (rs2.map BitVec.toNat)
    exc := x.sys.fenceFault i.h true true })) s

/-- A maintenance instruction enters with the exception its permission raises, if any. -/
def M.enterCbo (x : M) (i : Ins) (k : CboKind) (va : Word) : M :=
  x.enter i 0 (fun u =>
    let a := x.sys.masked i.h .store (x.sys.ctx i.h .store false false) va.toNat
    let u := { u with pieces := piecesOf a 1, bytes := 1 }
    match x.sys.cboMode i.h k with
    | .ok k => { u with kind := .cbo k }
    | .error c => { u with kind := .cbo k, exc := some (c, 0, 0) })

def execCboClean (i : Ins) (va : Word) (s : State) : Host.Outcome State Fault Refusal := onM (fun x => x.enterCbo i .clean va) s
def execCboFlush (i : Ins) (va : Word) (s : State) : Host.Outcome State Fault Refusal := onM (fun x => x.enterCbo i .flush va) s
def execCboInval (i : Ins) (va : Word) (s : State) : Host.Outcome State Fault Refusal := onM (fun x => x.enterCbo i .inval va) s
def execCboZero (i : Ins) (va : Word) (s : State) : Host.Outcome State Fault Refusal := onM (fun x => x.enterCbo i .zero va) s

/-- Zicbop: 0 prefetch.i, 1 prefetch.r, 2 prefetch.w. -/
def execPrefetchHint (i : Ins) (kind : Fin 3) (va : Word) (s : State) : Host.Outcome State Fault Refusal :=
  onM (fun x => x.enter i 0 (fun u => { u with kind := .hint kind, pieces := piecesOf va.toNat 1, bytes := 1 })) s

def execBranchResolve (h : Fin 256) (place : Nat) (taken : Bool) (target : Word) (s : State) : Host.Outcome State Fault Refusal :=
  onM (fun x => x.branchResolve h place taken target) s
def execInstructionRetire (h : Fin 256) (what : Retire) (s : State) : Host.Outcome State Fault Refusal := onM (fun x => x.retire h what) s
def execFillArrive (h : Fin 256) (line : Line) (s : State) : Host.Outcome State Fault Refusal := onM (fun x => x.fillArrive h line.toNat) s
def execWcBufferTimeout (h : Fin 256) (line : Line) (s : State) : Host.Outcome State Fault Refusal :=
  onM (fun x => (x.on (fun s => s.wcTimeout h line.toNat)).advance h) s
def execPageWalk (h : Fin 256) (of : WalkOf) (s : State) : Host.Outcome State Fault Refusal := onM (fun x => x.pageWalk h of) s
def execAdUpdate (h : Fin 256) (of : WalkOf) (s : State) : Host.Outcome State Fault Refusal := onM (fun x => x.adUpdate h of) s
def execInterruptTaken (h : Fin 256) (s : State) : Host.Outcome State Fault Refusal := onM (fun x => x.interrupt h) s
def execBindOk (h : Fin 256) (line : Line) (s : State) : Host.Outcome State Fault Refusal := onM (fun x => x.bindOk h line.toNat) s
def execCompletion (who : ReqSrc) (line : Line) (s : State) : Host.Outcome State Fault Refusal := onM (fun x => x.completion who line.toNat) s

end Sys2Proof.Machine
end

