-- ==== Sys2Proof/Machine/Sleep.lean ====
section
/-!
DEFINITION. The end of a core's save for CS2 to CS4 or STOPPED (ch. 16), and the end of a kennel's halt (ch. 10).
-/
namespace Sys2Proof.Machine

/-- The accesses that a hart has issued complete and retire, oldest first (R203, R378). -/
def M.finishIssued (x : M) (h : Nat) : M := (List.range (x.sys.hart h).rob.length).foldl (fun (x : M) _ => x.retireHead h) x

/-- A core's L1D and L2 are written back and invalidated, clean lines dropped, and its L1I is invalidated (R559 step 1). -/
def Sys.sleepFlush (s : Sys) (h : Nat) : Sys :=
  let l1 := (s.hart h).l1d
  let s := s.onHart h (fun t => { t with l1d := [], l1i := [] })
  let s := s.each l1 (fun s c => s.evictL1d h c)
  let l2 := (s.hart h).l2
  let s := s.onHart h (fun t => { t with l2 := [] })
  s.each l2 (fun s c => if c.st = 3 then s.offerLine h c else s.send { s.coreReq h .cleanDrop c.line with kennel := c.owner % 16 })

/-- CORE_SAVE_DONE (R559, R565): with no access issued and every senior store performed, the entry reaches the end of its save. A forced
core stops at an instruction boundary first, as it would take an interrupt. -/
def M.saveDone (x : M) (h : Nat) : M :=
  let c := x.sys.cpwr h
  if x.sys.coreState h ≠ psEntering || c.saved then x
  else
    let x := x.finishIssued h
    let t := x.sys.hart h
    if t.rob.any Uop.underWay || !t.sq.isEmpty then x
    else
      let x := x.on (fun s => (s.squash h 0).wcFlush h)
      let x := if 3 ≤ c.target then x.on (fun s => s.sleepFlush h) else x
      x.on (fun s => s.onCpwr h (fun c => { c with saved := true }))

/-- KENNEL_STOP_DONE (R377, R378): steps 1 to 3 are complete. A kennel that stops is STOPPED; one that resets goes on to its hart state
and its domain units. -/
def M.stopDone (x : M) (k : Nat) : M :=
  let st := x.sys.kState k
  let resets := decide (st = kResetting ∧ Bank.get? x.sys.kresets k = some .halting)
  if !(st = kStopping || resets) then x
  else
    let x := (x.sys.kennelHarts k).foldl (fun (x : M) h => x.finishIssued h) x
    let harts := x.sys.kennelHarts k
    if harts.any (fun h => let t := x.sys.hart h
                           t.rob.any Uop.underWay || !t.sq.isEmpty) then x
    else
      let x := harts.foldl (fun (x : M) h => x.on (fun s => (s.squash h 0).wcFlush h)) x
      if resets then x.on (fun s => s.kresetUnits k)
      else x.on (fun s => ((s.dropHeld k).kTo k kStopped).put F.SYS_KCTL_STOP 0 k)

def execCoreSaveDone (h : Fin 256) (s : State) : Host.Outcome State Fault Refusal := onM (fun x => x.saveDone h) s
def execKennelStopDone (k : Fin 16) (s : State) : Host.Outcome State Fault Refusal := onM (fun x => x.stopDone k) s

end Sys2Proof.Machine
end

