-- ==== Sys2Proof/Machine/Tick.lean ====
section
/-!
DEFINITION. The span tick and the end of the window (ch. 2): the actions of every unit at a tick, in one step.
-/
namespace Sys2Proof.Machine

/-- SPAN_TICK (R41, R43): a reflow planned for this tick commits first (R104, R105); then the span number goes on and every station
delivers the tick to its unit. `watts` is the input power of the span that ends, `temps` the sensors' readings. -/
def Sys.spanTick (s : Sys) (watts : Nat) (temps : List (Nat × Int)) : Sys :=
  let s := s.commitEnd
  let s := s.commit []
  let s := { s with ticks := s.ticks + 1 }
  let s := s.spnTick.commitSpan
  let s := s.regionTick.icnTick
  let s := s.each (below 16) Sys.mcTick
  let s := s.qosTick.setQuotas.braceTick
  let s := (s.pwrTick watts temps).rtvTick
  s.inPumpAll.marksTick

/-! ## Commands -/

def execSpanTick (power : BitVec 16) (temps : List (Fin 68 × Int)) (s : State) : Host.Outcome State Fault Refusal :=
  onSys (fun s => s.spanTick power.toNat (temps.map (fun (p : Fin 68 × Int) => (p.1.val, p.2)))) s
/-- WINDOW_END (R42, R104): the window of a reflow's commit ends with it. -/
def execWindowEnd (s : State) : Host.Outcome State Fault Refusal := onSys (fun s => s.windowEnd.commitEnd) s

end Sys2Proof.Machine
end

