-- ==== Sys2Proof/Machine/Dispatch.lean ====
section
/-!
DEFINITION. The dispatch: one arm per command, each one direct call of its meaning.
-/
namespace Sys2Proof.Machine
/-- The command's effect on everything but the queue. -/
def exec (i : Instr) (s : State) : Host.Outcome State Fault Refusal :=
  match i with
  | .registerWrite x0 x1 x2 x3 => Sys2Proof.Machine.execRegisterWrite x0 x1 x2 x3 s
  | .clearingRead x0 x1 x2 => Sys2Proof.Machine.execClearingRead x0 x1 x2 s
  | .tetherTimeout x0 => Sys2Proof.Machine.execTetherTimeout x0 s
  | .spanTick x0 x1 => Sys2Proof.Machine.execSpanTick x0 x1 s
  | .windowEnd => Sys2Proof.Machine.execWindowEnd s
  | .spnCfgWrite x0 x1 => Sys2Proof.Machine.execSpnCfgWrite x0 x1 s
  | .overrunRefresh x0 x1 => Sys2Proof.Machine.execOverrunRefresh x0 x1 s
  | .leashEnable x0 x1 => Sys2Proof.Machine.execLeashEnable x0 x1 s
  | .leashDisable x0 x1 => Sys2Proof.Machine.execLeashDisable x0 x1 s
  | .txPllLock => Sys2Proof.Machine.execTxPllLock s
  | .symbolLock x0 => Sys2Proof.Machine.execSymbolLock x0 s
  | .symbolLockLost => Sys2Proof.Machine.execSymbolLockLost s
  | .timeFrame x0 x1 x2 => Sys2Proof.Machine.execTimeFrame x0 x1 x2 s
  | .timeFrameReturn x0 x1 => Sys2Proof.Machine.execTimeFrameReturn x0 x1 s
  | .markerTimeout => Sys2Proof.Machine.execMarkerTimeout s
  | .rideExpiry => Sys2Proof.Machine.execRideExpiry s
  | .holdoverExpiry => Sys2Proof.Machine.execHoldoverExpiry s
  | .leashRecal x0 x1 x2 => Sys2Proof.Machine.execLeashRecal x0 x1 x2 s
  | .schedSend x0 x1 => Sys2Proof.Machine.execSchedSend x0 x1 s
  | .schedInsert x0 => Sys2Proof.Machine.execSchedInsert x0 s
  | .schedFrame x0 => Sys2Proof.Machine.execSchedFrame x0 s
  | .schedTargetReached x0 => Sys2Proof.Machine.execSchedTargetReached x0 s
  | .schedRxPop x0 => Sys2Proof.Machine.execSchedRxPop x0 s
  | .timeLoad x0 x1 => Sys2Proof.Machine.execTimeLoad x0 x1 s
  | .overrunClr x0 => Sys2Proof.Machine.execOverrunClr x0 s
  | .claim x0 => Sys2Proof.Machine.execClaim x0 s
  | .release x0 => Sys2Proof.Machine.execRelease x0 s
  | .verify x0 => Sys2Proof.Machine.execVerify x0 s
  | .verifyDone => Sys2Proof.Machine.execVerifyDone s
  | .apply x0 => Sys2Proof.Machine.execApply x0 s
  | .applyDone => Sys2Proof.Machine.execApplyDone s
  | .applyStationTimeout x0 => Sys2Proof.Machine.execApplyStationTimeout x0 s
  | .seal x0 => Sys2Proof.Machine.execSeal x0 s
  | .arm x0 => Sys2Proof.Machine.execArm x0 s
  | .cancel x0 => Sys2Proof.Machine.execCancel x0 s
  | .znxInvalidOp x0 x1 => Sys2Proof.Machine.execZnxInvalidOp x0 x1 s
  | .distributionDone => Sys2Proof.Machine.execDistributionDone s
  | .voteStart => Sys2Proof.Machine.execVoteStart s
  | .stationVote x0 => Sys2Proof.Machine.execStationVote x0 s
  | .voteTimeout => Sys2Proof.Machine.execVoteTimeout s
  | .reflowCommit x0 => Sys2Proof.Machine.execReflowCommit x0 s
  | .rehashSweepStep => Sys2Proof.Machine.execRehashSweepStep s
  | .tlsync x0 => Sys2Proof.Machine.execTlsync x0 s
  | .wfs x0 x1 x2 => Sys2Proof.Machine.execWfs x0 x1 x2 s
  | .wfsWake x0 => Sys2Proof.Machine.execWfsWake x0 s
  | .wcall x0 => Sys2Proof.Machine.execWcall x0 s
  | .wret x0 => Sys2Proof.Machine.execWret x0 s
  | .tlbLock x0 x1 x2 x3 => Sys2Proof.Machine.execTlbLock x0 x1 x2 x3 s
  | .tlbUnlock x0 x1 x2 => Sys2Proof.Machine.execTlbUnlock x0 x1 x2 s
  | .unlockAll x0 => Sys2Proof.Machine.execUnlockAll x0 s
  | .skohalCsrWrite x0 x1 x2 x3 => Sys2Proof.Machine.execSkohalCsrWrite x0 x1 x2 x3 s
  | .predFlush x0 => Sys2Proof.Machine.execPredFlush x0 s
  | .trapEntry x0 x1 x2 x3 => Sys2Proof.Machine.execTrapEntry x0 x1 x2 x3 s
  | .mret x0 => Sys2Proof.Machine.execMret x0 s
  | .interruptTaken x0 => Sys2Proof.Machine.execInterruptTaken x0 s
  | .load x0 x1 x2 x3 x4 x5 x6 x7 x8 => Sys2Proof.Machine.execLoad x0 x1 x2 x3 x4 x5 x6 x7 x8 s
  | .store x0 x1 x2 x3 x4 x5 => Sys2Proof.Machine.execStore x0 x1 x2 x3 x4 x5 s
  | .storePerform x0 => Sys2Proof.Machine.execStorePerform x0 s
  | .amo x0 x1 x2 x3 x4 x5 x6 x7 => Sys2Proof.Machine.execAmo x0 x1 x2 x3 x4 x5 x6 x7 s
  | .fence x0 x1 x2 x3 => Sys2Proof.Machine.execFence x0 x1 x2 x3 s
  | .fenceI x0 => Sys2Proof.Machine.execFenceI x0 s
  | .sfenceVma x0 x1 x2 => Sys2Proof.Machine.execSfenceVma x0 x1 x2 s
  | .hfenceVvma x0 x1 x2 => Sys2Proof.Machine.execHfenceVvma x0 x1 x2 s
  | .hfenceGvma x0 x1 x2 => Sys2Proof.Machine.execHfenceGvma x0 x1 x2 s
  | .satpWrite x0 x1 x2 => Sys2Proof.Machine.execSatpWrite x0 x1 x2 s
  | .cboClean x0 x1 => Sys2Proof.Machine.execCboClean x0 x1 s
  | .cboFlush x0 x1 => Sys2Proof.Machine.execCboFlush x0 x1 s
  | .cboInval x0 x1 => Sys2Proof.Machine.execCboInval x0 x1 s
  | .cboZero x0 x1 => Sys2Proof.Machine.execCboZero x0 x1 s
  | .prefetchHint x0 x1 x2 => Sys2Proof.Machine.execPrefetchHint x0 x1 x2 s
  | .wfi x0 => Sys2Proof.Machine.execWfi x0 s
  | .branchResolve x0 x1 x2 x3 => Sys2Proof.Machine.execBranchResolve x0 x1 x2 x3 s
  | .instructionRetire x0 x1 => Sys2Proof.Machine.execInstructionRetire x0 x1 s
  | .fillArrive x0 x1 => Sys2Proof.Machine.execFillArrive x0 x1 s
  | .wcBufferTimeout x0 x1 => Sys2Proof.Machine.execWcBufferTimeout x0 x1 s
  | .coreArrayError x0 x1 => Sys2Proof.Machine.execCoreArrayError x0 x1 s
  | .lostCoreFlushStep x0 x1 => Sys2Proof.Machine.execLostCoreFlushStep x0 x1 s
  | .lostCorePowerOff x0 => Sys2Proof.Machine.execLostCorePowerOff x0 s
  | .pageWalk x0 x1 => Sys2Proof.Machine.execPageWalk x0 x1 s
  | .adUpdate x0 x1 => Sys2Proof.Machine.execAdUpdate x0 x1 s
  | .cacheInv x0 x1 x2 x3 => Sys2Proof.Machine.execCacheInv x0 x1 x2 x3 s
  | .cacheInvDone x0 x1 => Sys2Proof.Machine.execCacheInvDone x0 x1 s
  | .invDoneObserve x0 x1 x2 => Sys2Proof.Machine.execInvDoneObserve x0 x1 x2 s
  | .cacheEnable x0 x1 x2 x3 => Sys2Proof.Machine.execCacheEnable x0 x1 x2 x3 s
  | .cacheDisable x0 x1 x2 x3 => Sys2Proof.Machine.execCacheDisable x0 x1 x2 x3 s
  | .cacheFlush x0 x1 x2 x3 => Sys2Proof.Machine.execCacheFlush x0 x1 x2 x3 s
  | .cacheWalkDone x0 x1 => Sys2Proof.Machine.execCacheWalkDone x0 x1 s
  | .sliceEnable x0 x1 x2 => Sys2Proof.Machine.execSliceEnable x0 x1 x2 s
  | .sliceDisable x0 x1 x2 => Sys2Proof.Machine.execSliceDisable x0 x1 x2 s
  | .sliceClearDone x0 => Sys2Proof.Machine.execSliceClearDone x0 s
  | .sliceRetire x0 x1 x2 => Sys2Proof.Machine.execSliceRetire x0 x1 x2 s
  | .sliceRehash x0 => Sys2Proof.Machine.execSliceRehash x0 s
  | .sliceDrainStep x0 => Sys2Proof.Machine.execSliceDrainStep x0 s
  | .slicePowerOff x0 => Sys2Proof.Machine.execSlicePowerOff x0 s
  | .sliceBist x0 x1 x2 => Sys2Proof.Machine.execSliceBist x0 x1 x2 s
  | .sliceBistDone x0 x1 x2 => Sys2Proof.Machine.execSliceBistDone x0 x1 x2 s
  | .llcArrayError x0 x1 => Sys2Proof.Machine.execLlcArrayError x0 x1 s
  | .meshReplay x0 x1 x2 => Sys2Proof.Machine.execMeshReplay x0 x1 x2 s
  | .rdShared x0 x1 x2 x3 => Sys2Proof.Machine.execRdShared x0 x1 x2 x3 s
  | .rdOwn x0 x1 x2 x3 => Sys2Proof.Machine.execRdOwn x0 x1 x2 x3 s
  | .upgrade x0 x1 x2 => Sys2Proof.Machine.execUpgrade x0 x1 x2 s
  | .ownZero x0 x1 x2 => Sys2Proof.Machine.execOwnZero x0 x1 x2 s
  | .rdSpec x0 x1 x2 x3 => Sys2Proof.Machine.execRdSpec x0 x1 x2 x3 s
  | .bind x0 x1 x2 x3 => Sys2Proof.Machine.execBind x0 x1 x2 x3 s
  | .pfRd x0 x1 x2 => Sys2Proof.Machine.execPfRd x0 x1 x2 s
  | .pfWr x0 x1 x2 => Sys2Proof.Machine.execPfWr x0 x1 x2 s
  | .offer x0 x1 x2 x3 x4 x5 => Sys2Proof.Machine.execOffer x0 x1 x2 x3 x4 x5 s
  | .cleanDrop x0 x1 x2 => Sys2Proof.Machine.execCleanDrop x0 x1 x2 s
  | .cmoClean x0 x1 x2 x3 => Sys2Proof.Machine.execCmoClean x0 x1 x2 x3 s
  | .cmoFlush x0 x1 x2 x3 => Sys2Proof.Machine.execCmoFlush x0 x1 x2 x3 s
  | .cmoInval x0 x1 x2 => Sys2Proof.Machine.execCmoInval x0 x1 x2 s
  | .cmoCheck x0 x1 x2 => Sys2Proof.Machine.execCmoCheck x0 x1 x2 s
  | .ncRd x0 x1 x2 => Sys2Proof.Machine.execNcRd x0 x1 x2 s
  | .ncWr x0 x1 x2 x3 x4 => Sys2Proof.Machine.execNcWr x0 x1 x2 x3 x4 s
  | .ncAmo x0 x1 x2 x3 x4 x5 x6 => Sys2Proof.Machine.execNcAmo x0 x1 x2 x3 x4 x5 x6 s
  | .ncLr x0 x1 x2 => Sys2Proof.Machine.execNcLr x0 x1 x2 s
  | .ncSc x0 x1 x2 x3 x4 => Sys2Proof.Machine.execNcSc x0 x1 x2 x3 x4 s
  | .devRd x0 x1 x2 => Sys2Proof.Machine.execDevRd x0 x1 x2 s
  | .devWr x0 x1 x2 x3 x4 => Sys2Proof.Machine.execDevWr x0 x1 x2 x3 x4 s
  | .snpShare x0 x1 => Sys2Proof.Machine.execSnpShare x0 x1 s
  | .snpInv x0 x1 => Sys2Proof.Machine.execSnpInv x0 x1 s
  | .snpPeek x0 x1 => Sys2Proof.Machine.execSnpPeek x0 x1 s
  | .snpClean x0 x1 => Sys2Proof.Machine.execSnpClean x0 x1 s
  | .ackData x0 x1 x2 x3 => Sys2Proof.Machine.execAckData x0 x1 x2 x3 s
  | .ack x0 x1 x2 => Sys2Proof.Machine.execAck x0 x1 x2 s
  | .ackNone x0 x1 x2 => Sys2Proof.Machine.execAckNone x0 x1 x2 s
  | .ackPoison x0 x1 x2 => Sys2Proof.Machine.execAckPoison x0 x1 x2 s
  | .ackOffered x0 x1 x2 => Sys2Proof.Machine.execAckOffered x0 x1 x2 s
  | .memDone x0 x1 x2 => Sys2Proof.Machine.execMemDone x0 x1 x2 s
  | .retry x0 x1 => Sys2Proof.Machine.execRetry x0 x1 s
  | .go x0 x1 => Sys2Proof.Machine.execGo x0 x1 s
  | .goHoldExpiry x0 x1 => Sys2Proof.Machine.execGoHoldExpiry x0 x1 s
  | .retryDest x0 x1 => Sys2Proof.Machine.execRetryDest x0 x1 s
  | .holdNotice x0 x1 => Sys2Proof.Machine.execHoldNotice x0 x1 s
  | .snoopTimeout x0 x1 => Sys2Proof.Machine.execSnoopTimeout x0 x1 s
  | .grainChunkRequest x0 x1 => Sys2Proof.Machine.execGrainChunkRequest x0 x1 s
  | .grainChunkGrant x0 x1 => Sys2Proof.Machine.execGrainChunkGrant x0 x1 s
  | .lendInstant => Sys2Proof.Machine.execLendInstant s
  | .braceLinkDown x0 => Sys2Proof.Machine.execBraceLinkDown x0 s
  | .braceAck x0 x1 => Sys2Proof.Machine.execBraceAck x0 x1 s
  | .braceTraining x0 x1 x2 x3 x4 => Sys2Proof.Machine.execBraceTraining x0 x1 x2 x3 x4 s
  | .brcClrReplays x0 x1 => Sys2Proof.Machine.execBrcClrReplays x0 x1 s
  | .qosHoldcntClr x0 x1 => Sys2Proof.Machine.execQosHoldcntClr x0 x1 s
  | .mcRead x0 => Sys2Proof.Machine.execMcRead x0 s
  | .mcWrite x0 => Sys2Proof.Machine.execMcWrite x0 s
  | .dramReadResult x0 x1 => Sys2Proof.Machine.execDramReadResult x0 x1 s
  | .sameBankRefresh x0 => Sys2Proof.Machine.execSameBankRefresh x0 s
  | .tempPoll x0 x1 x2 x3 => Sys2Proof.Machine.execTempPoll x0 x1 x2 x3 s
  | .retrainStep x0 x1 => Sys2Proof.Machine.execRetrainStep x0 x1 s
  | .retrainStarved x0 => Sys2Proof.Machine.execRetrainStarved x0 s
  | .rewriteLine x0 => Sys2Proof.Machine.execRewriteLine x0 s
  | .pprStep x0 x1 x2 => Sys2Proof.Machine.execPprStep x0 x1 x2 s
  | .resilverStep x0 => Sys2Proof.Machine.execResilverStep x0 s
  | .scrubBatch x0 x1 => Sys2Proof.Machine.execScrubBatch x0 x1 s
  | .mcLinkRetry x0 x1 => Sys2Proof.Machine.execMcLinkRetry x0 x1 s
  | .train x0 x1 x2 => Sys2Proof.Machine.execTrain x0 x1 x2 s
  | .trainDone x0 x1 x2 x3 x4 x5 => Sys2Proof.Machine.execTrainDone x0 x1 x2 x3 x4 x5 s
  | .retrain x0 x1 x2 => Sys2Proof.Machine.execRetrain x0 x1 x2 s
  | .mcEn x0 x1 x2 => Sys2Proof.Machine.execMcEn x0 x1 x2 s
  | .evacuate x0 x1 x2 => Sys2Proof.Machine.execEvacuate x0 x1 x2 s
  | .resilver x0 x1 x2 => Sys2Proof.Machine.execResilver x0 x1 x2 s
  | .sr x0 x1 x2 => Sys2Proof.Machine.execSr x0 x1 x2 s
  | .pwrOff x0 x1 x2 => Sys2Proof.Machine.execPwrOff x0 x1 x2 s
  | .failoverTick x0 => Sys2Proof.Machine.execFailoverTick x0 s
  | .evacuateTick x0 => Sys2Proof.Machine.execEvacuateTick x0 s
  | .resilverComplete x0 => Sys2Proof.Machine.execResilverComplete x0 s
  | .pprStart x0 x1 x2 => Sys2Proof.Machine.execPprStart x0 x1 x2 s
  | .spdRead x0 x1 x2 => Sys2Proof.Machine.execSpdRead x0 x1 x2 s
  | .spdReadDone x0 x1 => Sys2Proof.Machine.execSpdReadDone x0 x1 s
  | .kennelStop x0 x1 x2 => Sys2Proof.Machine.execKennelStop x0 x1 x2 s
  | .kennelReset x0 x1 x2 => Sys2Proof.Machine.execKennelReset x0 x1 x2 s
  | .kennelStopDone x0 => Sys2Proof.Machine.execKennelStopDone x0 s
  | .kennelResetDone x0 => Sys2Proof.Machine.execKennelResetDone x0 s
  | .ownInv x0 x1 => Sys2Proof.Machine.execOwnInv x0 x1 s
  | .ownInvDone => Sys2Proof.Machine.execOwnInvDone s
  | .set x0 x1 => Sys2Proof.Machine.execSet x0 x1 s
  | .releaseOwnership x0 x1 => Sys2Proof.Machine.execReleaseOwnership x0 x1 s
  | .releasePageDone => Sys2Proof.Machine.execReleasePageDone s
  | .sholdIncrement x0 x1 x2 x3 => Sys2Proof.Machine.execSholdIncrement x0 x1 x2 x3 s
  | .sholdDecrement x0 x1 x2 x3 => Sys2Proof.Machine.execSholdDecrement x0 x1 x2 x3 s
  | .icnClaim x0 x1 => Sys2Proof.Machine.execIcnClaim x0 x1 s
  | .icnComplete x0 x1 x2 => Sys2Proof.Machine.execIcnComplete x0 x1 x2 s
  | .icnMessage x0 x1 x2 => Sys2Proof.Machine.execIcnMessage x0 x1 x2 s
  | .sourceSet x0 x1 x2 x3 => Sys2Proof.Machine.execSourceSet x0 x1 x2 x3 s
  | .sourceClr x0 x1 x2 x3 => Sys2Proof.Machine.execSourceClr x0 x1 x2 x3 s
  | .sourceRouteWrite x0 x1 x2 x3 => Sys2Proof.Machine.execSourceRouteWrite x0 x1 x2 x3 s
  | .thresholdWrite x0 x1 x2 => Sys2Proof.Machine.execThresholdWrite x0 x1 x2 s
  | .wiredEdge x0 => Sys2Proof.Machine.execWiredEdge x0 s
  | .wiredLevel x0 x1 => Sys2Proof.Machine.execWiredLevel x0 x1 s
  | .holdoffExpiry x0 x1 => Sys2Proof.Machine.execHoldoffExpiry x0 x1 s
  | .postVcpu x0 x1 => Sys2Proof.Machine.execPostVcpu x0 x1 s
  | .postingDone x0 x1 => Sys2Proof.Machine.execPostingDone x0 x1 s
  | .icnGctxWrite x0 x1 x2 x3 => Sys2Proof.Machine.execIcnGctxWrite x0 x1 x2 x3 s
  | .icnGctxRead x0 x1 x2 => Sys2Proof.Machine.execIcnGctxRead x0 x1 x2 s
  | .domainClockStop x0 => Sys2Proof.Machine.execDomainClockStop x0 s
  | .domainClockRestart x0 => Sys2Proof.Machine.execDomainClockRestart x0 s
  | .outboundRead x0 x1 x2 x3 => Sys2Proof.Machine.execOutboundRead x0 x1 x2 x3 s
  | .outboundWrite x0 x1 x2 x3 => Sys2Proof.Machine.execOutboundWrite x0 x1 x2 x3 s
  | .configRead x0 x1 x2 x3 => Sys2Proof.Machine.execConfigRead x0 x1 x2 x3 s
  | .configWrite x0 x1 x2 x3 => Sys2Proof.Machine.execConfigWrite x0 x1 x2 x3 s
  | .pcieCompletion x0 x1 x2 x3 => Sys2Proof.Machine.execPcieCompletion x0 x1 x2 x3 s
  | .cplTimeout x0 x1 x2 => Sys2Proof.Machine.execCplTimeout x0 x1 x2 s
  | .inboundMemRead x0 x1 x2 x3 x4 x5 x6 => Sys2Proof.Machine.execInboundMemRead x0 x1 x2 x3 x4 x5 x6 s
  | .inboundMemWrite x0 x1 x2 x3 x4 x5 x6 x7 x8 => Sys2Proof.Machine.execInboundMemWrite x0 x1 x2 x3 x4 x5 x6 x7 x8 s
  | .msiWrite x0 x1 x2 x3 x4 x5 => Sys2Proof.Machine.execMsiWrite x0 x1 x2 x3 x4 x5 s
  | .assertIntx x0 x1 x2 => Sys2Proof.Machine.execAssertIntx x0 x1 x2 s
  | .deassertIntx x0 x1 x2 => Sys2Proof.Machine.execDeassertIntx x0 x1 x2 s
  | .bmeClear x0 x1 x2 => Sys2Proof.Machine.execBmeClear x0 x1 x2 s
  | .hostBmeClear x0 => Sys2Proof.Machine.execHostBmeClear x0 s
  | .epInbound x0 x1 x2 x3 x4 x5 x6 x7 => Sys2Proof.Machine.execEpInbound x0 x1 x2 x3 x4 x5 x6 x7 s
  | .xlatCommit x0 x1 x2 => Sys2Proof.Machine.execXlatCommit x0 x1 x2 s
  | .xlatOldDrainDone x0 => Sys2Proof.Machine.execXlatOldDrainDone x0 s
  | .epMsiRequest x0 x1 x2 => Sys2Proof.Machine.execEpMsiRequest x0 x1 x2 s
  | .epIntxWrite x0 x1 x2 => Sys2Proof.Machine.execEpIntxWrite x0 x1 x2 s
  | .linkEn x0 x1 x2 => Sys2Proof.Machine.execLinkEn x0 x1 x2 s
  | .perstRel x0 x1 x2 x3 => Sys2Proof.Machine.execPerstRel x0 x1 x2 x3 s
  | .linkRetrain x0 x1 x2 x3 => Sys2Proof.Machine.execLinkRetrain x0 x1 x2 x3 s
  | .dpcRelease x0 x1 x2 x3 => Sys2Proof.Machine.execDpcRelease x0 x1 x2 x3 s
  | .linkPwrReq x0 x1 x2 x3 => Sys2Proof.Machine.execLinkPwrReq x0 x1 x2 x3 s
  | .linkUp x0 x1 x2 x3 x4 => Sys2Proof.Machine.execLinkUp x0 x1 x2 x3 x4 s
  | .linkLost x0 x1 x2 x3 => Sys2Proof.Machine.execLinkLost x0 x1 x2 x3 s
  | .l1Entry x0 x1 => Sys2Proof.Machine.execL1Entry x0 x1 s
  | .l1Exit x0 x1 => Sys2Proof.Machine.execL1Exit x0 x1 s
  | .hotResetEnd x0 x1 => Sys2Proof.Machine.execHotResetEnd x0 x1 s
  | .perstInput x0 x1 => Sys2Proof.Machine.execPerstInput x0 x1 s
  | .copy x0 => Sys2Proof.Machine.execCopy x0 s
  | .fill x0 => Sys2Proof.Machine.execFill x0 s
  | .compare x0 => Sys2Proof.Machine.execCompare x0 s
  | .crc32c x0 => Sys2Proof.Machine.execCrc32c x0 s
  | .zero x0 => Sys2Proof.Machine.execZero x0 s
  | .nop x0 => Sys2Proof.Machine.execNop x0 s
  | .chunkCheckpoint x0 => Sys2Proof.Machine.execChunkCheckpoint x0 s
  | .engineSliceBoundary x0 => Sys2Proof.Machine.execEngineSliceBoundary x0 s
  | .completionRecord x0 => Sys2Proof.Machine.execCompletionRecord x0 s
  | .chTailWrite x0 x1 x2 => Sys2Proof.Machine.execChTailWrite x0 x1 x2 s
  | .chAbort x0 x1 x2 => Sys2Proof.Machine.execChAbort x0 x1 x2 s
  | .chEnable x0 x1 x2 => Sys2Proof.Machine.execChEnable x0 x1 x2 s
  | .chDisable x0 x1 x2 => Sys2Proof.Machine.execChDisable x0 x1 x2 s
  | .chBind x0 x1 x2 => Sys2Proof.Machine.execChBind x0 x1 x2 s
  | .chUnbind x0 x1 x2 => Sys2Proof.Machine.execChUnbind x0 x1 x2 s
  | .engineReset x0 x1 x2 => Sys2Proof.Machine.execEngineReset x0 x1 x2 s
  | .engineTestDone x0 x1 => Sys2Proof.Machine.execEngineTestDone x0 x1 s
  | .enginePwrReq x0 x1 x2 => Sys2Proof.Machine.execEnginePwrReq x0 x1 x2 s
  | .dmLock x0 x1 x2 x3 => Sys2Proof.Machine.execDmLock x0 x1 x2 x3 s
  | .dmUnlock x0 x1 => Sys2Proof.Machine.execDmUnlock x0 x1 s
  | .btbFlush x0 x1 => Sys2Proof.Machine.execBtbFlush x0 x1 s
  | .dmctlWrite x0 x1 => Sys2Proof.Machine.execDmctlWrite x0 x1 s
  | .tetherAccess x0 x1 x2 x3 x4 => Sys2Proof.Machine.execTetherAccess x0 x1 x2 x3 x4 s
  | .flashFill x0 x1 x2 => Sys2Proof.Machine.execFlashFill x0 x1 x2 s
  | .flashFillDone x0 => Sys2Proof.Machine.execFlashFillDone x0 s
  | .flashCmd x0 x1 => Sys2Proof.Machine.execFlashCmd x0 x1 s
  | .flashCmdDone x0 => Sys2Proof.Machine.execFlashCmdDone x0 s
  | .flashWipTimeout => Sys2Proof.Machine.execFlashWipTimeout s
  | .fbInv x0 x1 => Sys2Proof.Machine.execFbInv x0 x1 s
  | .flashCfgWrite x0 x1 => Sys2Proof.Machine.execFlashCfgWrite x0 x1 s
  | .sramScrub x0 => Sys2Proof.Machine.execSramScrub x0 s
  | .sramError x0 x1 x2 x3 x4 => Sys2Proof.Machine.execSramError x0 x1 x2 x3 x4 s
  | .drmCoreRun x0 x1 x2 => Sys2Proof.Machine.execDrmCoreRun x0 x1 x2 s
  | .drmCoreLost x0 => Sys2Proof.Machine.execDrmCoreLost x0 s
  | .mbDoorbell x0 x1 x2 => Sys2Proof.Machine.execMbDoorbell x0 x1 x2 s
  | .mbStatusWrite x0 x1 x2 => Sys2Proof.Machine.execMbStatusWrite x0 x1 x2 s
  | .mbNoticeWrite x0 x1 x2 => Sys2Proof.Machine.execMbNoticeWrite x0 x1 x2 s
  | .sbStatus => Sys2Proof.Machine.execSbStatus s
  | .sbAppend x0 => Sys2Proof.Machine.execSbAppend x0 s
  | .sbCommit x0 => Sys2Proof.Machine.execSbCommit x0 s
  | .sbReadResponse x0 => Sys2Proof.Machine.execSbReadResponse x0 s
  | .sbAbandon => Sys2Proof.Machine.execSbAbandon s
  | .sbInvalidCode x0 => Sys2Proof.Machine.execSbInvalidCode x0 s
  | .sbReady x0 x1 => Sys2Proof.Machine.execSbReady x0 x1 s
  | .sbRspGo x0 x1 => Sys2Proof.Machine.execSbRspGo x0 x1 s
  | .kennelResetRequest x0 x1 x2 => Sys2Proof.Machine.execKennelResetRequest x0 x1 x2 s
  | .releasePages x0 x1 x2 x3 x4 => Sys2Proof.Machine.execReleasePages x0 x1 x2 x3 x4 s
  | .faultRecords x0 x1 x2 => Sys2Proof.Machine.execFaultRecords x0 x1 x2 s
  | .sensors x0 x1 x2 => Sys2Proof.Machine.execSensors x0 x1 x2 s
  | .pagesDone x0 x1 x2 x3 => Sys2Proof.Machine.execPagesDone x0 x1 x2 x3 s
  | .reflowPlanned x0 x1 x2 => Sys2Proof.Machine.execReflowPlanned x0 x1 x2 s
  | .fault x0 x1 x2 => Sys2Proof.Machine.execFault x0 x1 x2 s
  | .getStatus x0 => Sys2Proof.Machine.execGetStatus x0 s
  | .getSensors x0 => Sys2Proof.Machine.execGetSensors x0 s
  | .getFaults x0 => Sys2Proof.Machine.execGetFaults x0 s
  | .readDump x0 x1 x2 x3 => Sys2Proof.Machine.execReadDump x0 x1 x2 x3 s
  | .imageChunk x0 x1 x2 => Sys2Proof.Machine.execImageChunk x0 x1 x2 s
  | .imageEnd x0 => Sys2Proof.Machine.execImageEnd x0 s
  | .powerCap x0 x1 => Sys2Proof.Machine.execPowerCap x0 x1 s
  | .kennelCtl x0 x1 x2 => Sys2Proof.Machine.execKennelCtl x0 x1 x2 s
  | .socketReset x0 => Sys2Proof.Machine.execSocketReset x0 s
  | .ringEvent x0 x1 x2 => Sys2Proof.Machine.execRingEvent x0 x1 x2 s
  | .faultEvent x0 x1 => Sys2Proof.Machine.execFaultEvent x0 x1 s
  | .faultReaction => Sys2Proof.Machine.execFaultReaction s
  | .heelCmd x0 x1 => Sys2Proof.Machine.execHeelCmd x0 x1 s
  | .fatalDump x0 => Sys2Proof.Machine.execFatalDump x0 s
  | .dumpDone x0 x1 => Sys2Proof.Machine.execDumpDone x0 x1 s
  | .hwSrFallback => Sys2Proof.Machine.execHwSrFallback s
  | .heelNotice x0 => Sys2Proof.Machine.execHeelNotice x0 s
  | .collectorWalk x0 => Sys2Proof.Machine.execCollectorWalk x0 s
  | .injectEvent x0 x1 => Sys2Proof.Machine.execInjectEvent x0 x1 s
  | .injectCollector x0 x1 => Sys2Proof.Machine.execInjectCollector x0 x1 s
  | .coreOffline x0 x1 x2 => Sys2Proof.Machine.execCoreOffline x0 x1 x2 s
  | .coreLbist x0 x1 x2 => Sys2Proof.Machine.execCoreLbist x0 x1 x2 s
  | .lbistDone x0 x1 => Sys2Proof.Machine.execLbistDone x0 x1 s
  | .corePowerSwitch x0 => Sys2Proof.Machine.execCorePowerSwitch x0 s
  | .coreSaveDone x0 => Sys2Proof.Machine.execCoreSaveDone x0 s
  | .coreWake x0 => Sys2Proof.Machine.execCoreWake x0 s
  | .coreExitStart x0 => Sys2Proof.Machine.execCoreExitStart x0 s
  | .coreRestoreDone x0 => Sys2Proof.Machine.execCoreRestoreDone x0 s
  | .coreForceState x0 x1 x2 => Sys2Proof.Machine.execCoreForceState x0 x1 x2 s
  | .coreForceRelease x0 x1 x2 => Sys2Proof.Machine.execCoreForceRelease x0 x1 x2 s
  | .coreStopRequest x0 x1 x2 => Sys2Proof.Machine.execCoreStopRequest x0 x1 x2 s
  | .coreUnitReset x0 x1 x2 => Sys2Proof.Machine.execCoreUnitReset x0 x1 x2 s
  | .kennelRelease x0 x1 => Sys2Proof.Machine.execKennelRelease x0 x1 s
  | .coreStart x0 x1 x2 => Sys2Proof.Machine.execCoreStart x0 x1 x2 s
  | .packFreqRequest x0 x1 x2 => Sys2Proof.Machine.execPackFreqRequest x0 x1 x2 s
  | .packFreqChange x0 => Sys2Proof.Machine.execPackFreqChange x0 s
  | .vinLimit => Sys2Proof.Machine.execVinLimit s
  | .vinRecover => Sys2Proof.Machine.execVinRecover s
  | .thermalEmergency x0 x1 => Sys2Proof.Machine.execThermalEmergency x0 x1 s
  | .emergencyForceCs4 x0 => Sys2Proof.Machine.execEmergencyForceCs4 x0 s
  | .emergencyEnd x0 => Sys2Proof.Machine.execEmergencyEnd x0 s
  | .thermalTrip x0 x1 => Sys2Proof.Machine.execThermalTrip x0 x1 s
  | .coldReset => Sys2Proof.Machine.execColdReset s
  | .warmReset => Sys2Proof.Machine.execWarmReset s
  | .warmResetCmd x0 x1 => Sys2Proof.Machine.execWarmResetCmd x0 x1 s
  | .warmResetRelease => Sys2Proof.Machine.execWarmResetRelease s
  | .powerOn x0 x1 => Sys2Proof.Machine.execPowerOn x0 x1 s
  | .railUndervoltage x0 => Sys2Proof.Machine.execRailUndervoltage x0 s
  | .jtagInstruction x0 => Sys2Proof.Machine.execJtagInstruction x0 s
  | .debugAuth x0 x1 => Sys2Proof.Machine.execDebugAuth x0 x1 s
  | .bindOk x0 x1 => Sys2Proof.Machine.execBindOk x0 x1 s
  | .completion x0 x1 => Sys2Proof.Machine.execCompletion x0 x1 s
  | .sliceDisablingDone x0 => Sys2Proof.Machine.execSliceDisablingDone x0 s
  | .commandSlot x0 x1 x2 x3 => Sys2Proof.Machine.execCommandSlot x0 x1 x2 x3 s
  | .hostCommandWrite x0 x1 => Sys2Proof.Machine.execHostCommandWrite x0 x1 s
  | .braceFlitReplay x0 => Sys2Proof.Machine.execBraceFlitReplay x0 s
  | .ptmRequest x0 x1 => Sys2Proof.Machine.execPtmRequest x0 x1 s
  | .writeInProgressClear => Sys2Proof.Machine.execWriteInProgressClear s
  | .debugHaltRequest x0 x1 => Sys2Proof.Machine.execDebugHaltRequest x0 x1 s
  | .emergencyCoreResume x0 x1 => Sys2Proof.Machine.execEmergencyCoreResume x0 x1 s
end Sys2Proof.Machine
end

