-- ==== Sys2Proof/Safety.lean ====
section
/-!
DEFINITION. The terms in which claims are stated: the state a command works on and leaves, the invariant of memory, the commands that are one
access of a register, and those that act while the socket is held in reset.
-/
namespace Sys2Proof.Machine

/-- The socket is not held in reset: commands act (R577). -/
abbrev State.Live (s : State) : Prop := s.sys.pwr.hold = .none

/-- The context a command works on. -/
def State.ctx (s : State) : M := ⟨s.mem, s.sys, []⟩

/-- The state that a command leaves: memory with the writes it made, the rest as it left it, the queue as it was. -/
def State.after (s : State) (x : M) : State := { s with mem := s.mem.apply x.ops, sys := x.sys }

/-- The state that a command leaves which writes no memory. -/
def State.withSys (s : State) (y : Sys) : State := { s with sys := y }

/-- The invariant: memory is in canonical form. -/
abbrev State.Inv (s : State) : Prop := s.mem.wf = true

/-- The command answers a next state that has a property. -/
def Completes (c : Instr) (s : State) (p : State → Prop) : Prop := ∃ t, exec c s = .next t ∧ p t

/-- Memory and the queue are as they were. -/
def State.KeepsMem (s t : State) : Prop := t.mem = s.mem ∧ t.pending = s.pending

/-- Every register but those that a test picks holds what it held. -/
def Sys.KeepsRegs (s t : Sys) (but : RK → Bool) : Prop := ∀ k, but k = false → t.rd k = s.rd k

/-- The parts of the block's state beside its registers. -/
inductive Part where
  | freeCount | resp | stations | span | znx | conf | shadow | fcr | icn | ticks | chans | slices | stops
  | msgs | staging | brace | regionNow | harts | qosHeld | pwr | links | eps | engs | rtv | rtvClock | own | kresets | drm
  deriving DecidableEq, Repr

/-- A part is as it was. -/
def Part.Same (q : Part) (s t : Sys) : Prop :=
  match q with
  | .freeCount => t.freeCount = s.freeCount
  | .resp => t.resp = s.resp
  | .stations => t.stations = s.stations
  | .span => t.span = s.span
  | .znx => t.znx = s.znx
  | .conf => t.conf = s.conf
  | .shadow => t.shadow = s.shadow
  | .fcr => t.fcr = s.fcr
  | .icn => t.icn = s.icn
  | .ticks => t.ticks = s.ticks
  | .chans => t.chans = s.chans
  | .slices => t.slices = s.slices
  | .stops => t.stops = s.stops
  | .msgs => t.msgs = s.msgs
  | .staging => t.staging = s.staging
  | .brace => t.brace = s.brace
  | .regionNow => t.regionNow = s.regionNow
  | .harts => t.harts = s.harts
  | .qosHeld => t.qosHeld = s.qosHeld
  | .pwr => t.pwr = s.pwr
  | .links => t.links = s.links
  | .eps => t.eps = s.eps
  | .engs => t.engs = s.engs
  | .rtv => t.rtv = s.rtv
  | .rtvClock => t.rtvClock = s.rtvClock
  | .own => t.own = s.own
  | .kresets => t.kresets = s.kresets
  | .drm => t.drm = s.drm

/-- Every register but those that a test picks, and every part but those listed, are as they were. -/
def Sys.Frame (s t : Sys) (but : RK → Bool) (parts : List Part) : Prop := s.KeepsRegs t but ∧ ∀ q, parts.contains q = false → q.Same s t

/-- Memory, the queue, every register but those that a test picks, and every part but those listed are as they were. -/
def State.Only (s t : State) (but : RK → Bool) (parts : List Part) : Prop := s.KeepsMem t ∧ s.sys.Frame t.sys but parts

/-- The parts of a hart beside its standard CSRs: the predictors with their histories and streams, and the TLBs with the walk caches, are one
part each. -/
inductive HPart where
  | x | f | v | pc | mode | resv | rob | sq | wcb | sfb | side | own | l1i | l1d | l2 | plru | pred | loads | tlb | slots | fwalk | replay
  | nextId | halted | wait | late | seen | lost
  deriving DecidableEq, Repr

/-- A part of a hart is as it was. -/
def HPart.Same (q : HPart) (s t : Hart) : Prop :=
  match q with
  | .x => t.x = s.x
  | .f => t.f = s.f
  | .v => t.v = s.v
  | .pc => t.pc = s.pc
  | .mode => t.priv = s.priv ∧ t.virt = s.virt
  | .resv => t.resv = s.resv
  | .rob => t.rob = s.rob
  | .sq => t.sq = s.sq
  | .wcb => t.wcb = s.wcb
  | .sfb => t.sfb = s.sfb
  | .side => t.side = s.side
  | .own => t.own = s.own
  | .l1i => t.l1i = s.l1i
  | .l1d => t.l1d = s.l1d
  | .l2 => t.l2 = s.l2
  | .plru => t.plru = s.plru
  | .pred => t.streams = s.streams ∧ t.pred = s.pred ∧ t.hist = s.hist
  | .loads => t.loads = s.loads
  | .tlb => t.tlbD = s.tlbD ∧ t.tlbI = s.tlbI ∧ t.tlbL2 = s.tlbL2 ∧ t.tlbG = s.tlbG ∧ t.wc1 = s.wc1 ∧ t.wcU = s.wcU
  | .slots => t.slots = s.slots
  | .fwalk => t.fwalk = s.fwalk
  | .replay => t.replay = s.replay
  | .nextId => t.nextId = s.nextId
  | .halted => t.halted = s.halted
  | .wait => t.wait = s.wait
  | .late => t.late = s.late
  | .seen => t.seen = s.seen
  | .lost => t.lost = s.lost

/-- The bits of a standard CSR that no counting changes: counters count, and an overflow sets OF of mhpmevent and bit 13 of mip (R149). -/
def csrKept (n : Nat) : Word :=
  if 0xB00 ≤ n ∧ n ≤ 0xB1F then 0
  else if 0x323 ≤ n ∧ n ≤ 0x33F then 0x7FFFFFFFFFFFFFFF
  else if n = 0x344 then 0xFFFFFFFFFFFFDFFF
  else 0xFFFFFFFFFFFFFFFF

/-- Of the standard CSRs of a hart, those not listed keep what no counting changes. -/
def Hart.KeepsCsrs (s t : Hart) (but : List Nat) : Prop := ∀ n, but.contains n = false → t.csrGet n &&& csrKept n = s.csrGet n &&& csrKept n

/-- Every part of a hart but those listed is as it was, and so are its CSRs but those listed and the counters. -/
def Hart.Keeps (s t : Hart) (parts : List HPart) (csrs : List Nat) : Prop :=
  (∀ q, parts.contains q = false → q.Same s t) ∧ s.KeepsCsrs t csrs

/-- Every hart but those that a test picks is as it was. -/
def Sys.KeepsHarts (s t : Sys) (but : Nat → Bool) : Prop := ∀ h, but h = false → t.hart h = s.hart h

/-- Beside the parts listed only one hart changes, and of it only what is listed. -/
def State.OnlyHart (s t : State) (h : Nat) (but : RK → Bool) (parts : List Part) (hparts : List HPart) (csrs : List Nat) : Prop :=
  s.Only t but (.harts :: parts) ∧ (∀ g, g ≠ h → t.sys.hart g = s.sys.hart g) ∧ (s.sys.hart h).Keeps (t.sys.hart h) hparts csrs

/-- The instruction is at hand: its hart runs it with nothing else in flight, its fetch is translated to the pieces given, and the hart's own
L1 caches hold its lines, unpoisoned, under its tag (R156, R187, R243). -/
abbrev State.AtHand (s : State) (i : Ins) (ps : List Piece) : Prop :=
  let h := i.h.val
  let t := s.sys.hart h
  s.sys.runs h = true ∧ i.ahead = [] ∧ t.rob = [] ∧ t.sq = [] ∧ t.wcb = [] ∧ t.sfb = [] ∧
  s.sys.fetchPieces h i.pc (if i.compressed then 2 else 4) = some ps ∧
  (spanLines (ps.filterMap (fun p => p.pa.map (fun a => (a, p.n))))).all (fun l => match (lineIn t.l1i l).or (lineIn t.l1d l) with
    | some c => tagAdmits c.owner (s.sys.hartKennel h) (s.sys.worldS h) && !c.poison
    | none => false) = true

/-- Bytes of main memory lie in one line that the hart's L1D cache holds, ON, unpoisoned and under its tag (R240, R243). -/
abbrev State.InL1d (s : State) (h a n : Nat) (c : CLine) : Prop :=
  (regionOf a).isMemory = true ∧ 0 < n ∧ a % 64 + n ≤ 64 ∧ s.sys.l1dOn h = true ∧ lineIn (s.sys.hart h).l1d (a / 64) = some c ∧
  c.poison = false ∧ s.sys.tagsOk h [a / 64] = true

/-- The leaf that the walk of TLB.LOCK for a data load finds, where nothing it reads keeps it waiting, it ends in no exception, and A is set
(R135, R136). -/
def M.lockWalk (x : M) (h : Nat) (va : Word) : Option TlbEnt :=
  let c := x.sys.ctx h .load false false
  let w := x.walk h .load c (x.sys.masked h .load c va.toNat)
  if w.wait || w.acc.exc.isSome || !w.acc.upd.isEmpty then none else w.acc.leaf

/-- Of physical memory only the bytes from an address on may change, with the poison marks of their lines; the SRAM and the queue are as they
were. -/
def State.MemOnly (s t : State) (lo n : Nat) : Prop :=
  t.pending = s.pending ∧ t.mem.sram = s.mem.sram ∧ (∀ a, a < lo ∨ lo + n ≤ a → t.mem.byte a = s.mem.byte a) ∧
  ∀ l, 64 * l + 64 ≤ lo ∨ lo + n ≤ 64 * l → t.mem.poisoned l = s.mem.poisoned l

/-- Of memory only bytes of the SRAM from an offset on may change; the queue is as it was. -/
def State.SramOnly (s t : State) (lo n : Nat) : Prop :=
  t.pending = s.pending ∧ t.mem.dram = s.mem.dram ∧ t.mem.poison = s.mem.poison ∧
  ∀ o, o < lo ∨ lo + n ≤ o → cellGet t.mem.sram o = cellGet s.mem.sram o

/-- Of the slices only one changes. -/
def State.OnlySlice (s t : State) (n : Nat) (but : RK → Bool) (parts : List Part) : Prop :=
  s.Only t but (.slices :: parts) ∧ ∀ m, m ≠ n → t.sys.slice m = s.sys.slice m

/-- Of the memory channels only one changes. -/
def State.OnlyChan (s t : State) (n : Nat) (but : RK → Bool) (parts : List Part) : Prop :=
  s.Only t but (.chans :: parts) ∧ ∀ m, m ≠ n → t.sys.chan m = s.sys.chan m

/-- Of the engines only one changes. -/
def State.OnlyEng (s t : State) (e : Nat) (but : RK → Bool) (parts : List Part) : Prop :=
  s.Only t but (.engs :: parts) ∧ ∀ m, m ≠ e → t.sys.eng m = s.sys.eng m

/-- Of the links only one changes. -/
def State.OnlyLink (s t : State) (p j : Nat) (but : RK → Bool) (parts : List Part) : Prop :=
  s.Only t but (.links :: parts) ∧ ∀ q i, (q, i) ≠ (p, j) → t.sys.link q i = s.sys.link q i

/-- A write of MC_CTL holds no other command than that of one bit, leaves PWR_OFF, and meets no hold count of the channel's (R374, R403). -/
abbrev State.McAlone (s : State) (m : Nat) (f : Fld) (v : Word) : Prop :=
  [F.MC_CTL_TRAIN, F.MC_CTL_RETRAIN, F.MC_CTL_EN, F.MC_CTL_EVACUATE, F.MC_CTL_RESILVER, F.MC_CTL_SR, F.MC_CTL_CMD_ERR].all
    (fun g => g == f || fget v g.lo 1 == 0) = true ∧
  (f = F.MC_CTL_PWR_OFF ∨ fget v F.MC_CTL_PWR_OFF.lo 1 = s.sys.rf F.MC_CTL_PWR_OFF m) ∧
  (((⟨.MC_CTL, m, 0⟩ : RK).holdStation.map s.sys.holdCount).getD 0) = 0

/-- Of one instance, one of the registers listed. -/
def oneReg (n : Nat) (l : List Reg) (k : RK) : Bool := l.contains k.reg && k.i == n

/-- The registers that a write of one may change with those listed: the access's own status, and a hold count's (R31, R403). -/
def writeReg (n : Nat) (l : List Reg) (k : RK) : Bool := oneReg n l k || k.reg == .PWR_SHOLD || k.reg == .SYS_CS_STATUS

/-- The registers whose write does no more than their access codes say (R7). -/
def Reg.plain (r : Reg) : Bool :=
  [.SYS_ID, .SYS_STRAP, .SYS_QOS_LEDGER, .SYS_QOS_LEND, .SYS_QOS_POOL, .SYS_QOS_STATUS, .SPN_STATUS, .SPN_SPAN, .SPN_RACKTIME, .SPN_DELAY,
    .SPN_RING_DELAY, .SPN_SCHED_RX1, .SPN_FALLEN, .ZNX_OWNER, .ZNX_SRC, .ZNX_STATUS, .ZNX_REFLOW_RESULT, .ZNX_REFLOW_COUNT, .ZNX_FUSE, .ZNX_DIGEST,
    .ZNX_BUILD, .ZNX_PAIR, .FCR_SUMMARY, .FCR_HEEL_SPAN, .PWR_KSTART_N, .PWR_CFG, .PWR_STATUS, .OWN_TABLE, .OWN_TABLE_PAGES, .OWN_DUMP,
    .OWN_CMD_BASE, .OWN_STATUS, .TILE_CORE_HALT, .TILE_SLICE_STATUS, .TILE_SLICE_ERRADDR, .TILE_HA_STATUS, .TILE_HA_EPOCH, .TILE_SLICE_OCC,
    .TILE_MS_GRAIN, .TILE_MS_RETRY, .MC_CFG, .MC_STATUS, .MC_DIMM_CFG, .MC_TRAIN_STATUS, .MC_REFRESH, .MC_SCRUB, .MC_ERR_ADDR, .MC_ERR_CNT,
    .MC_PPR_STATUS, .MC_RESILVER, .MC_PPR_LOG, .IOP_LINK_STATUS, .IOP_LINK_ERRADDR, .IOP_EP_STATUS, .IOP_EP_XSH, .IOP_EP_XSH_TGT, .BRC_STATUS,
    .RTV_ENG_STATUS, .RTV_CH_HEAD, .RTV_CH_STATUS, .RTV_CH_PROGRESS, .DRM_MB_REQ, .DRM_MB_RSP, .DRM_MB_PENDING].contains r

/-- The registers outside the interrupt concentrator that read as they are stored, a read doing no more than its access codes say (R7). -/
def Reg.still (r : Reg) : Bool :=
  r.plain && !([.SPN_SPAN, .SPN_FALLEN, .SPN_RACKTIME, .FCR_SUMMARY].contains r) ||
  [.SYS_KCTL, .SPN_CFG, .FCR_CLASS, .FCR_HEEL, .PWR_SHOLD, .OWN_DENY, .TILE_CORE_MCLOG, .TILE_CORE_PWR, .TILE_PACK_FREQ, .TILE_MS_LINKERR, .MC_CTL,
    .MC_ERR_LOG, .MC_DEV_MARK, .MC_REGION_CFG, .IOP_LINK_CTL, .IOP_LINK_ERR, .RTV_CH_CTL].contains r

/-- The registers that show a slice's control and its home agent. -/
def sliceRegs : List Reg := [.TILE_SLICE_CTL, .TILE_SLICE_STATUS, .TILE_HA_STATUS, .TILE_HA_EPOCH, .TILE_SLICE_OCC]

/-- Those of one slice. -/
def sliceReg (n : Nat) (k : RK) : Bool := sliceRegs.contains k.reg && k.i == n

/-- The request that a command brings to a home agent, and the context it is accepted in. -/
def State.asked (s : State) (c : Instr) : Req × M :=
  let f := s.ctx.arriving
  match c with
  | .rdShared n w line first => f n w (fun r => { r with first := first }) .rdShared line
  | .rdOwn n w line first => f n w (fun r => { r with first := first }) .rdOwn line
  | .upgrade n w line => f n w id .upgrade line
  | .ownZero n w line => f n w id .ownZero line
  | .rdSpec n w line first => f n w (fun r => { r with first := first }) .rdSpec line
  | .bind n w line token => f n w (fun r => { r with tok := token }) .bind line
  | .pfRd n w line => f n w id .pfRd line
  | .pfWr n w line => f n w id .pfWr line
  | .offer n w line data dirty poison => f n w (fun r => { r with data := data, dirty := dirty, poison := poison }) .offer line
  | .cleanDrop n w line => f n w id .cleanDrop line
  | .cmoClean n w line data => f n w (fun r => { r with data := data.getD 0, dirty := data.isSome }) .cmoClean line
  | .cmoFlush n w line data => f n w (fun r => { r with data := data.getD 0, dirty := data.isSome }) .cmoFlush line
  | .cmoInval n w line => f n w id .cmoInval line
  | .cmoCheck n w line => f n w id .cmoCheck line
  | .ncRd n w line => f n w id .ncRd line
  | .ncWr n w line data mask => f n w (fun r => { r with data := data, mask := mask }) .ncWr line
  | .ncAmo n w line op dword data mask => f n w (fun r => { r with data := data, mask := mask, amo := op, dword := dword }) .ncAmo line
  | .ncLr n w line => f n w id .ncLr line
  | .ncSc n w line data mask => f n w (fun r => { r with data := data, mask := mask }) .ncSc line
  | .devRd n w line => f n w id .devRd line
  | .devWr n w line data mask => f n w (fun r => { r with data := data, mask := mask }) .devWr line
  | _ => (⟨.cmoCheck, 0, .peer false, 0, false, 0, 0, 0, false, false, ⟨0, 0, 0⟩, false, .swap, false⟩, s.ctx)

/-- Slice `n` is ON with no transaction under way, the command's request passes its check with byte `b`, the slice is the line's home under the
owner kennel's hash (of a device's request it is not asked), and no other slice holds the line (R262, R292, R306, R308, R383). -/
abbrev State.Serves (s : State) (c : Instr) (n b : Nat) : Prop :=
  let r := (s.asked c).1
  let x := (s.asked c).2
  s.Live ∧ x.sys.slState n = slOn ∧ x.sys.heeled = false ∧ (x.sys.slice n).txns = [] ∧ (x.sys.slice n).sf.length < 16 ∧
  x.sys.roomFor n r = true ∧ (x.check n r).1 = .ok b ∧ (r.who.device = true ∨ (x.sys.conf.homeOf (nget b 3 4) (64 * r.line)).all (· == n) = true) ∧
  x.sys.slices.all (fun p => p.1 == n || (x.sys.sfGet p.1 r.line).isNone && (x.sys.llcLine p.1 r.line).isNone) = true

/-- The snoop-filter entry of a line at a slice names one core or engine in E or M, another than the requester of a request (R298). -/
abbrev State.HeldBy (s : State) (n : Nat) (r : Req) (e : SfEnt) : Prop :=
  s.sys.sfGet n r.line = some e ∧ e.st = 1 ∧ e.holders.filter (fun h => some h ≠ r.who.holder) = e.holders

/-- The parts that serving a request may change. -/
def serveParts : List Part := [.msgs, .stops, .freeCount, .drm]

/-- The registers that serving a request may change: those of its slice and a ledger that a grain goes back to (R321). -/
def serveReg (n : Nat) (k : RK) : Bool := sliceRegs.contains k.reg && k.i == n || k.reg == .SYS_QOS_LEDGER

/-- The registers in which a mesh stop shows what it holds and its grains (R322). -/
def grainReg (k : RK) : Bool := k.reg == .SYS_QOS_STATUS || k.reg == .TILE_MS_GRAIN

/-- The registers in which the contexts show their request lines (R417). -/
def lineReg (k : RK) : Bool := k.reg == .ICN_CTX_THRESH || k.reg == .ICN_MCTX_THRESH || k.reg == .ICN_DRM_THRESH

/-- The request at a port that an outbound command stands for: who, kennel, world, bytes, data and poison (R308, R443). -/
def State.ioOf (s : State) (w : ReqSrc) (write : Bool) (pa n data : Nat) : Source × Nat × Bool × Nat × Nat × Bool := (s.sys.takeIo w write pa n data).1

/-- A requester's stop holds nothing, knows of no slice in HOLD, and has memory grains of a kennel for that many requests (R320, R322, R327). -/
abbrev Sys.StopClear (s : Sys) (w : Source) (k n : Nat) : Prop :=
  (s.stop w.stop).held = [] ∧ (s.stop w.stop).notices = [] ∧ n ≤ Bank.getD (s.stop w.stop).mem k 0

/-- An engine in service runs a channel's descriptor (R480). -/
abbrev Sys.Runs (s : Sys) (e : Nat) (j : EngJob) (d : Desc) : Prop :=
  s.engUp e = true ∧ s.heeled = false ∧ (s.eng e).job = some j ∧ j.phase = .run ∧ (s.chn j.chan).desc = some d

/-- Of one engine's channel: the registers in which serving it shows. -/
def engReg (e c : Nat) (k : RK) : Bool :=
  oneReg e [.RTV_ENG_STATUS] k || oneReg c [.RTV_CH_STATUS, .RTV_CH_PROGRESS] k || grainReg k

/-- The registers that a write of IOP_LINK_CTL may change: the link's own, the request lines its wires lead to, and the access's. -/
def linkReg (p j : Nat) (k : RK) : Bool :=
  ([Reg.IOP_LINK_CTL, .IOP_LINK_STATUS, .IOP_LINK_INTX].contains k.reg && k.i == p && k.j == j) || lineReg k || k.reg == .PWR_SHOLD || k.reg == .SYS_CS_STATUS

/-- The parts that a request on its way to its home slice may change, with the free values used (log 1). -/
def sentParts : List Part := [.stops, .msgs, .qosHeld, .freeCount]

/-- The parts that an access itself may change: its answer, the paths' marks, and by a service core's request the free values used and the
writes of dmctl that are not in force yet (R31 to R33, R506). -/
def accessParts : List Part := [.resp, .stations, .freeCount, .drm]

/-- One access of a register of 8 bytes: who makes it, the register, and what a write writes. -/
structure Access where
  req : Requester
  key : RK
  write : Option Word
  fwd : Option Nat
  deriving DecidableEq, Repr

/-- The station performs the access: its register stands at an aligned named offset (R11, R37), for the Tether its chain has not failed
(R24), for the mesh its page admits the requester (R29; any requester reads SYS_ID, R15), its path reaches it (R28, R615), and where the
unit holds it, the unit is available (R26). -/
abbrev Sys.Admits (s : Sys) (a : Access) : Prop :=
  let w := (s.whoIs a.req).1
  let s := (s.whoIs a.req).2
  let off := s.offsetOf a.key
  s.regAt off = some a.key ∧ off % 8 = 0 ∧
  (w.tether = true → s.stations.chainFailed.contains (stationAt off) = false) ∧
  (w.tether = false → (a.key.reg = .SYS_ID ∧ a.write = none) ∨ s.pageAdmits (off / 4096) w.kennel w.secure = true) ∧
  w.reaches a.key.reg.path a.write.isSome = true ∧
  (a.key.reg.heldInUnit = true → s.unitOff (stationAt off) = false)

/-- What an admitted access leaves its command to work with: the part once the requester is known, and its domain's clock running (R431). -/
def Sys.opened (s : Sys) (a : Access) : Sys :=
  let s := (s.whoIs a.req).2
  match s.domOf a.key with
  | some d => s.clockRestart d false
  | none => s

/-- An admitted access takes effect: a read does not wait for postings (R427), a write finds its register there, and one by the mesh finds no
mark of the Tether (R33). -/
abbrev Sys.Takes (s : Sys) (a : Access) : Prop :=
  s.Admits a ∧ (s.opened a).present a.key.canon = true ∧
  (a.write = none → (s.opened a).readWaits a.key = false) ∧
  (a.write ≠ none → (s.whoIs a.req).1.tether = false → (s.opened a).stations.tetherMark.contains a.key.canon = false)

/-- The access that a command is, where it is one. -/
def Instr.access (i : Instr) : Option Access :=
  match i with
  | .registerWrite .. => none
  | .clearingRead .. => none
  | .tetherTimeout .. => none
  | .spanTick .. => none
  | .windowEnd => none
  | .spnCfgWrite req value => some ⟨req, ⟨.SPN_CFG, 0, 0⟩, (some value), none⟩
  | .overrunRefresh .. => none
  | .leashEnable req value => some ⟨req, ⟨.SPN_CTL, 0, 0⟩, (some (fput value 0 1 1)), none⟩
  | .leashDisable req value => some ⟨req, ⟨.SPN_CTL, 0, 0⟩, (some (fput value 0 1 0)), none⟩
  | .txPllLock => none
  | .symbolLock .. => none
  | .symbolLockLost => none
  | .timeFrame .. => none
  | .timeFrameReturn .. => none
  | .markerTimeout => none
  | .rideExpiry => none
  | .holdoverExpiry => none
  | .leashRecal req value fwd => some ⟨req, ⟨.SPN_CTL, 0, 0⟩, (some (fput value 1 1 1)), (some fwd.toNat)⟩
  | .schedSend req value => some ⟨req, ⟨.SPN_SCHED_TX0, 0, 0⟩, (some (fput value 63 1 1)), none⟩
  | .schedInsert .. => none
  | .schedFrame .. => none
  | .schedTargetReached .. => none
  | .schedRxPop req => some ⟨req, ⟨.SPN_SCHED_RX0, 0, 0⟩, (some (fput 0 63 1 1)), none⟩
  | .timeLoad req value => some ⟨req, ⟨.SPN_TIME_LOAD, 0, 0⟩, (some value), none⟩
  | .overrunClr req => some ⟨req, ⟨.SPN_OVERRUN, 0, 0⟩, (some (fput 0 31 1 1)), none⟩
  | .claim core => some ⟨(.tether core), ⟨.ZNX_CMD, 0, 0⟩, (some 0x1), none⟩
  | .release core => some ⟨(.tether core), ⟨.ZNX_CMD, 0, 0⟩, (some 0x2), none⟩
  | .verify core => some ⟨(.tether core), ⟨.ZNX_CMD, 0, 0⟩, (some 0x10), none⟩
  | .verifyDone => none
  | .apply core => some ⟨(.tether core), ⟨.ZNX_CMD, 0, 0⟩, (some 0x11), none⟩
  | .applyDone => none
  | .applyStationTimeout .. => none
  | .seal core => some ⟨(.tether core), ⟨.ZNX_CMD, 0, 0⟩, (some 0x12), none⟩
  | .arm core => some ⟨(.tether core), ⟨.ZNX_CMD, 0, 0⟩, (some 0x21), none⟩
  | .cancel core => some ⟨(.tether core), ⟨.ZNX_CMD, 0, 0⟩, (some 0x22), none⟩
  | .znxInvalidOp core op => some ⟨(.tether core), ⟨.ZNX_CMD, 0, 0⟩, (some (if [1, 2, 0x10, 0x11, 0x12, 0x21, 0x22].contains op.toNat then 0 else op.setWidth 64)), none⟩
  | .distributionDone => none
  | .voteStart => none
  | .stationVote .. => none
  | .voteTimeout => none
  | .reflowCommit .. => none
  | .rehashSweepStep => none
  | .tlsync .. => none
  | .wfs .. => none
  | .wfsWake .. => none
  | .wcall .. => none
  | .wret .. => none
  | .tlbLock .. => none
  | .tlbUnlock .. => none
  | .unlockAll .. => none
  | .skohalCsrWrite .. => none
  | .predFlush .. => none
  | .trapEntry .. => none
  | .mret .. => none
  | .interruptTaken .. => none
  | .load .. => none
  | .store .. => none
  | .storePerform .. => none
  | .amo .. => none
  | .fence .. => none
  | .fenceI .. => none
  | .sfenceVma .. => none
  | .hfenceVvma .. => none
  | .hfenceGvma .. => none
  | .satpWrite .. => none
  | .cboClean .. => none
  | .cboFlush .. => none
  | .cboInval .. => none
  | .cboZero .. => none
  | .prefetchHint .. => none
  | .wfi .. => none
  | .branchResolve .. => none
  | .instructionRetire .. => none
  | .fillArrive .. => none
  | .wcBufferTimeout .. => none
  | .coreArrayError .. => none
  | .lostCoreFlushStep .. => none
  | .lostCorePowerOff .. => none
  | .pageWalk .. => none
  | .adUpdate .. => none
  | .cacheInv req h level value => some ⟨req, (coreReg .TILE_CACHE_CTL h), (some (lvSet level 1 1 value)), none⟩
  | .cacheInvDone .. => none
  | .invDoneObserve req n core => some ⟨req, (match core with | some c => ⟨.TILE_CACHE_CTL, n, c⟩ | none => ⟨.TILE_SLICE_CTL, n, 0⟩), none, none⟩
  | .cacheEnable req h level value => some ⟨req, (coreReg .TILE_CACHE_CTL h), (some (lvSet level 0 1 value)), none⟩
  | .cacheDisable req h level value => some ⟨req, (coreReg .TILE_CACHE_CTL h), (some (lvSet level 0 0 value)), none⟩
  | .cacheFlush req h level value => some ⟨req, (coreReg .TILE_CACHE_CTL h), (some (lvSet (level + 1) 2 1 value)), none⟩
  | .cacheWalkDone .. => none
  | .sliceEnable req n value => some ⟨req, ⟨.TILE_SLICE_CTL, n, 0⟩, (some (fput value 0 1 1)), none⟩
  | .sliceDisable req n value => some ⟨req, ⟨.TILE_SLICE_CTL, n, 0⟩, (some (fput value 0 1 0)), none⟩
  | .sliceClearDone .. => none
  | .sliceRetire req n value => some ⟨req, ⟨.TILE_SLICE_CTL, n, 0⟩, (some (fput value 4 1 1)), none⟩
  | .sliceRehash .. => none
  | .sliceDrainStep .. => none
  | .slicePowerOff .. => none
  | .sliceBist req n value => some ⟨req, ⟨.TILE_SLICE_CTL, n, 0⟩, (some (fput value 5 1 1)), none⟩
  | .sliceBistDone .. => none
  | .llcArrayError .. => none
  | .meshReplay .. => none
  | .rdShared .. => none
  | .rdOwn .. => none
  | .upgrade .. => none
  | .ownZero .. => none
  | .rdSpec .. => none
  | .bind .. => none
  | .pfRd .. => none
  | .pfWr .. => none
  | .offer .. => none
  | .cleanDrop .. => none
  | .cmoClean .. => none
  | .cmoFlush .. => none
  | .cmoInval .. => none
  | .cmoCheck .. => none
  | .ncRd .. => none
  | .ncWr .. => none
  | .ncAmo .. => none
  | .ncLr .. => none
  | .ncSc .. => none
  | .devRd .. => none
  | .devWr .. => none
  | .snpShare .. => none
  | .snpInv .. => none
  | .snpPeek .. => none
  | .snpClean .. => none
  | .ackData .. => none
  | .ack .. => none
  | .ackNone .. => none
  | .ackPoison .. => none
  | .ackOffered .. => none
  | .memDone .. => none
  | .retry .. => none
  | .go .. => none
  | .goHoldExpiry .. => none
  | .retryDest .. => none
  | .holdNotice .. => none
  | .snoopTimeout .. => none
  | .grainChunkRequest .. => none
  | .grainChunkGrant .. => none
  | .lendInstant => none
  | .braceLinkDown .. => none
  | .braceAck .. => none
  | .braceTraining .. => none
  | .brcClrReplays req b => some ⟨req, ⟨.BRC_CTL, b, 0⟩, (some (fput 0 1 1 1)), none⟩
  | .qosHoldcntClr req kennel => some ⟨req, ⟨.SYS_QOS_HOLDCNT, kennel, 0⟩, (some (fput 0 63 1 1)), none⟩
  | .mcRead .. => none
  | .mcWrite .. => none
  | .dramReadResult .. => none
  | .sameBankRefresh .. => none
  | .tempPoll .. => none
  | .retrainStep .. => none
  | .retrainStarved .. => none
  | .rewriteLine .. => none
  | .pprStep .. => none
  | .resilverStep .. => none
  | .scrubBatch .. => none
  | .mcLinkRetry .. => none
  | .train req m value => some ⟨req, ⟨.MC_CTL, m, 0⟩, (some (fput value F.MC_CTL_TRAIN.lo 1 1)), none⟩
  | .trainDone .. => none
  | .retrain req m value => some ⟨req, ⟨.MC_CTL, m, 0⟩, (some (fput value F.MC_CTL_RETRAIN.lo 1 1)), none⟩
  | .mcEn req m value => some ⟨req, ⟨.MC_CTL, m, 0⟩, (some (fput value F.MC_CTL_EN.lo 1 1)), none⟩
  | .evacuate req m value => some ⟨req, ⟨.MC_CTL, m, 0⟩, (some (fput value F.MC_CTL_EVACUATE.lo 1 1)), none⟩
  | .resilver req m value => some ⟨req, ⟨.MC_CTL, m, 0⟩, (some (fput value F.MC_CTL_RESILVER.lo 1 1)), none⟩
  | .sr req m value => some ⟨req, ⟨.MC_CTL, m, 0⟩, (some (fput value F.MC_CTL_SR.lo 1 1)), none⟩
  | .pwrOff req m value => some ⟨req, ⟨.MC_CTL, m, 0⟩, (some (fput value F.MC_CTL_PWR_OFF.lo 1 1)), none⟩
  | .failoverTick .. => none
  | .evacuateTick .. => none
  | .resilverComplete .. => none
  | .pprStart req m value => some ⟨req, ⟨.MC_PPR_CTL, m, 0⟩, (some (fput value 63 1 1)), none⟩
  | .spdRead req m value => some ⟨req, ⟨.MC_SPD, m, 0⟩, (some (fput value 63 1 1)), none⟩
  | .spdReadDone .. => none
  | .kennelStop req k value => some ⟨req, ⟨.SYS_KCTL, k, 0⟩, (some (fput value 2 1 1)), none⟩
  | .kennelReset req k value => some ⟨req, ⟨.SYS_KCTL, k, 0⟩, (some (fput value 1 1 1)), none⟩
  | .kennelStopDone .. => none
  | .kennelResetDone .. => none
  | .ownInv req value => some ⟨req, ⟨.OWN_INV, 0, 0⟩, (some (fput value 63 1 1)), none⟩
  | .ownInvDone => none
  | .set req value => some ⟨req, ⟨.OWN_CMD, 0, 0⟩, (some (fput (fput value 63 1 1) 56 2 1)), none⟩
  | .releaseOwnership req value => some ⟨req, ⟨.OWN_CMD, 0, 0⟩, (some (fput (fput value 63 1 1) 56 2 2)), none⟩
  | .releasePageDone => none
  | .sholdIncrement req station viaTile value => some ⟨req, (sholdKey station viaTile), (some (fput value 32 2 1)), none⟩
  | .sholdDecrement req station viaTile value => some ⟨req, (sholdKey station viaTile), (some (fput value 32 2 2)), none⟩
  | .icnClaim req ctx => some ⟨req, ctx.claim, none, none⟩
  | .icnComplete req ctx id => some ⟨req, ctx.claim, (some (id.setWidth 64)), none⟩
  | .icnMessage req dom value => some ⟨req, ⟨.ICN_DOM_MSG, dom, 0⟩, (some value), none⟩
  | .sourceSet req dom id value => some ⟨req, ⟨.ICN_SRC, dom, id⟩, (some (fput value 61 1 1)), none⟩
  | .sourceClr req dom id value => some ⟨req, ⟨.ICN_SRC, dom, id⟩, (some (fput value 60 1 1)), none⟩
  | .sourceRouteWrite req dom id value => some ⟨req, ⟨.ICN_SRC, dom, id⟩, (some value), none⟩
  | .thresholdWrite req ctx value => some ⟨req, ctx.claim.thresh, (some value), none⟩
  | .wiredEdge .. => none
  | .wiredLevel .. => none
  | .holdoffExpiry .. => none
  | .postVcpu .. => none
  | .postingDone .. => none
  | .icnGctxWrite req h g value => some ⟨req, ⟨.ICN_GCTX, h, g⟩, (some value), none⟩
  | .icnGctxRead req h g => some ⟨req, ⟨.ICN_GCTX, h, g⟩, none, none⟩
  | .domainClockStop .. => none
  | .domainClockRestart .. => none
  | .outboundRead .. => none
  | .outboundWrite .. => none
  | .configRead .. => none
  | .configWrite .. => none
  | .pcieCompletion .. => none
  | .cplTimeout .. => none
  | .inboundMemRead .. => none
  | .inboundMemWrite .. => none
  | .msiWrite .. => none
  | .assertIntx .. => none
  | .deassertIntx .. => none
  | .bmeClear .. => none
  | .hostBmeClear .. => none
  | .epInbound .. => none
  | .xlatCommit req p value => some ⟨req, ⟨.IOP_EP_XCOMMIT, p, 0⟩, (some (fput value 63 1 1)), none⟩
  | .xlatOldDrainDone .. => none
  | .epMsiRequest req p value => some ⟨req, ⟨.IOP_EP_MSI, p, 0⟩, (some value), none⟩
  | .epIntxWrite req p value => some ⟨req, ⟨.IOP_EP_INTX, p, 0⟩, (some value), none⟩
  | .linkEn req p value => some ⟨req, ⟨.IOP_EP_CTL, p, 0⟩, (some (fput value 0 1 1)), none⟩
  | .perstRel req p j value => some ⟨req, ⟨.IOP_LINK_CTL, p, j⟩, (some (fput value 61 1 1)), none⟩
  | .linkRetrain req p j value => some ⟨req, ⟨.IOP_LINK_CTL, p, j⟩, (some (fput value 63 1 1)), none⟩
  | .dpcRelease req p j value => some ⟨req, ⟨.IOP_LINK_CTL, p, j⟩, (some (fput value 62 1 1)), none⟩
  | .linkPwrReq req p j value => some ⟨req, ⟨.IOP_LINK_CTL, p, j⟩, (some value), none⟩
  | .linkUp .. => none
  | .linkLost .. => none
  | .l1Entry .. => none
  | .l1Exit .. => none
  | .hotResetEnd .. => none
  | .perstInput .. => none
  | .copy .. => none
  | .fill .. => none
  | .compare .. => none
  | .crc32c .. => none
  | .zero .. => none
  | .nop .. => none
  | .chunkCheckpoint .. => none
  | .engineSliceBoundary .. => none
  | .completionRecord .. => none
  | .chTailWrite req c value => some ⟨req, ⟨.RTV_CH_TAIL, c, 0⟩, (some value), none⟩
  | .chAbort req c value => some ⟨req, ⟨.RTV_CH_CTL, c, 0⟩, (some (fput value 62 1 1)), none⟩
  | .chEnable req c value => some ⟨req, ⟨.RTV_CH_CTL, c, 0⟩, (some (fput value 63 1 1)), none⟩
  | .chDisable req c value => some ⟨req, ⟨.RTV_CH_CTL, c, 0⟩, (some (fput (fput value 63 1 0) 62 1 0)), none⟩
  | .chBind req c value => some ⟨req, ⟨.RTV_CH_BIND, c, 0⟩, (some (fput value 63 1 1)), none⟩
  | .chUnbind req c value => some ⟨req, ⟨.RTV_CH_BIND, c, 0⟩, (some (fput value 63 1 0)), none⟩
  | .engineReset req e value => some ⟨req, ⟨.RTV_ENG_CTL, e, 0⟩, (some (fput value 1 1 1)), none⟩
  | .engineTestDone .. => none
  | .enginePwrReq req e value => some ⟨req, ⟨.RTV_ENG_CTL, e, 0⟩, (some value), none⟩
  | .dmLock .. => none
  | .dmUnlock .. => none
  | .btbFlush .. => none
  | .dmctlWrite .. => none
  | .tetherAccess .. => none
  | .flashFill .. => none
  | .flashFillDone .. => none
  | .flashCmd .. => none
  | .flashCmdDone .. => none
  | .flashWipTimeout => none
  | .fbInv .. => none
  | .flashCfgWrite .. => none
  | .sramScrub .. => none
  | .sramError .. => none
  | .drmCoreRun .. => none
  | .drmCoreLost .. => none
  | .mbDoorbell req page value => some ⟨req, ⟨.DRM_MB_DOORBELL, page, 0⟩, (some (fput value 63 1 1)), none⟩
  | .mbStatusWrite core page value => some ⟨(.tether core), ⟨.DRM_MB_STATUS, page, 0⟩, (some value), none⟩
  | .mbNoticeWrite core page value => some ⟨(.tether core), ⟨.DRM_MB_NOTICE, page, 0⟩, (some value), none⟩
  | .sbStatus => none
  | .sbAppend .. => none
  | .sbCommit .. => none
  | .sbReadResponse .. => none
  | .sbAbandon => none
  | .sbInvalidCode .. => none
  | .sbReady .. => none
  | .sbRspGo .. => none
  | .kennelResetRequest .. => none
  | .releasePages .. => none
  | .faultRecords .. => none
  | .sensors .. => none
  | .pagesDone .. => none
  | .reflowPlanned .. => none
  | .fault .. => none
  | .getStatus .. => none
  | .getSensors .. => none
  | .getFaults .. => none
  | .readDump .. => none
  | .imageChunk .. => none
  | .imageEnd .. => none
  | .powerCap .. => none
  | .kennelCtl .. => none
  | .socketReset .. => none
  | .ringEvent .. => none
  | .faultEvent .. => none
  | .faultReaction => none
  | .heelCmd req value => some ⟨req, ⟨.FCR_HEEL, 0, 0⟩, (some (fput value 56 8 0xA5)), none⟩
  | .fatalDump .. => none
  | .dumpDone req value => some ⟨req, ⟨.FCR_HEEL, 0, 0⟩, (some (fput value 47 1 1)), none⟩
  | .hwSrFallback => none
  | .heelNotice .. => none
  | .collectorWalk .. => none
  | .injectEvent req value => some ⟨req, ⟨.FCR_INJECT, 0, 0⟩, (some (fput value 63 1 1)), none⟩
  | .injectCollector req value => some ⟨req, ⟨.FCR_INJECT, 0, 0⟩, (some (fput value 62 1 1)), none⟩
  | .coreOffline req h value => some ⟨req, (coreReg .TILE_CORE_TEST h), (some (fput value 63 1 1)), none⟩
  | .coreLbist req h value => some ⟨req, (coreReg .TILE_CORE_TEST h), (some (fput value 62 1 1)), none⟩
  | .lbistDone .. => none
  | .corePowerSwitch .. => none
  | .coreSaveDone .. => none
  | .coreWake .. => none
  | .coreExitStart .. => none
  | .coreRestoreDone .. => none
  | .coreForceState req h value => some ⟨req, (coreReg .TILE_CORE_PWR h), (some (fput value 0 3 (if [2, 3, 4].contains (fget value 0 3) then fget value 0 3 else 2))), none⟩
  | .coreForceRelease req h value => some ⟨req, (coreReg .TILE_CORE_PWR h), (some (fput value 0 3 0)), none⟩
  | .coreStopRequest req h value => some ⟨req, (coreReg .TILE_CORE_PWR h), (some (fput value 0 3 7)), none⟩
  | .coreUnitReset req h value => some ⟨req, (coreReg .TILE_CORE_PWR h), (some (fput value 63 1 1)), none⟩
  | .kennelRelease req value => some ⟨req, ⟨.PWR_KREL, 0, 0⟩, (some (fput value 63 1 1)), none⟩
  | .coreStart req h value => some ⟨req, (coreReg .TILE_CORE_START h), (some (fput value 63 1 1)), none⟩
  | .packFreqRequest req n value => some ⟨req, ⟨.TILE_PACK_FREQ, n, 0⟩, (some value), none⟩
  | .packFreqChange .. => none
  | .vinLimit => none
  | .vinRecover => none
  | .thermalEmergency .. => none
  | .emergencyForceCs4 .. => none
  | .emergencyEnd .. => none
  | .thermalTrip .. => none
  | .coldReset => none
  | .warmReset => none
  | .warmResetCmd req value => some ⟨req, ⟨.PWR_RST_CTL, 0, 0⟩, (some (fput value 56 8 0x5A)), none⟩
  | .warmResetRelease => none
  | .powerOn .. => none
  | .railUndervoltage .. => none
  | .jtagInstruction .. => none
  | .debugAuth .. => none
  | .bindOk .. => none
  | .completion .. => none
  | .sliceDisablingDone .. => none
  | .commandSlot .. => none
  | .hostCommandWrite .. => none
  | .braceFlitReplay .. => none
  | .ptmRequest .. => none
  | .writeInProgressClear => none
  | .debugHaltRequest .. => none
  | .emergencyCoreResume .. => none

/-- The command is an access that takes effect now. -/
abbrev State.Takes (s : State) (c : Instr) : Prop := s.Live ∧ ∃ a, a ∈ Instr.access c ∧ s.sys.Takes a

/-- The command acts while the socket is held in reset too (R577): the pins, the supply and the JTAG port. -/
def Instr.inReset (i : Instr) : Bool :=
  match i with
  | .coldReset | .warmReset | .warmResetRelease | .powerOn .. | .railUndervoltage .. | .jtagInstruction .. => true
  | _ => false

end Sys2Proof.Machine
end

