-- ==== Sys2Proof/Certificates/Slice0/Obligations.lean ====
section
/-!
DEFINITION. The statements for the provers: what the rules of the spec say of the commands and of the block. A conclusion `Completes c s p` says
that `exec c s` answers a next state with property `p`; `State.Only`, `State.OnlyHart` and their like say what it leaves as it was.
-/
open Sys2Proof Sys2Proof.Machine

/-! ## Chapter 01 -/

/-- A command takes effect when it reaches the front of the queue: the step is `exec` of it on the state with the queue's rest (R31; log 6). -/
def Obligations.StepRunsFront : Prop :=
  ∀ (s : State) (c : Instr) (rest : List Instr), s.pending = c :: rest → step s = exec c { s with pending := rest }

/-- The model's own choice (log 6): with an empty queue the block idles. -/
def Obligations.StepIdles : Prop :=
  ∀ (s : State), s.pending = [] → step s = .next s

/-- R4 gives every command an outcome within the block: `exec` answers a next state for each, and touches no waiting command. -/
def Obligations.EveryCommandAnswers : Prop :=
  ∀ (c : Instr) (s : State), ∃ t, exec c s = .next t ∧ t.pending = s.pending

/-- R577 step 4: while every unit, station and service core is held in reset, a command of any of them changes nothing. -/
def Obligations.HeldInReset : Prop :=
  ∀ (c : Instr) (s : State), s.sys.pwr.hold ≠ .none → Instr.inReset c = false → exec c s = .next s

/-- The invariant of memory that every step keeps, from every state that has it. The canonical form is the model's own (log 3). -/
def Obligations.MemoryInvariant : Prop :=
  ∀ (s t : State), s.Inv → step s = .next t → t.Inv

/-- The state after reset has the invariant that every step keeps (log 3 for unlisted bytes). -/
def Obligations.ResetInvariant : Prop :=
  State.reset.Inv ∧ State.reset.pending = [] ∧ State.reset.Live

/-- R609 to R611, R616: the address of a register and the register at an address agree for every element of the index. -/
def Obligations.RegisterAddresses : Prop :=
  ∀ (s : State) (k : RK) (p : Place), k.reg ∈ Reg.placed → k.reg.place = some p → k.i < p.n1 → k.j < p.n2 →
    s.sys.offsetOf k < 0x4001000 ∧ s.sys.offsetOf k % 8 = 0 ∧ s.sys.regAt (s.sys.offsetOf k) = some k

/-- R7, R9: the access codes, for the registers whose write or read does no more. -/
def Obligations.AccessCodes : Prop :=
  (∀ (s : State) (req : Requester) (k : RK) (off : BitVec 43) (v : Word), s.Live → s.sys.Takes ⟨req, k, some v, none⟩ → k.reg.plain = true → off.toNat = s.sys.offsetOf k → Completes (.registerWrite req off .b8 v) s (fun t => t.sys.resp = .done 0 ∧
      k.reg.rows.all (fun x => fget (t.sys.rd k) x.lo x.wd == (match x.acc with
      | .rw => fget v x.lo x.wd
      | .rwl => if s.sys.isSealed then fget (s.sys.rd k) x.lo x.wd else fget v x.lo x.wd
      | .w1c => fget (s.sys.rd k &&& ~~~v) x.lo x.wd
      | .w1s => fget (s.sys.rd k ||| v) x.lo x.wd
      | .ro => fget (s.sys.rd k) x.lo x.wd
      | .wo => fget (s.sys.rd k) x.lo x.wd
      | .rc => fget (s.sys.rd k) x.lo x.wd)) = true ∧
      (below 64).all (fun b => k.reg.rows.any (fun x => decide (x.lo ≤ b) && decide (b < x.lo + x.wd)) || fget (t.sys.rd k) b 1 == fget (s.sys.rd k) b 1) = true ∧
      s.Only t (fun q => q == k || q.reg == .SYS_CS_STATUS) accessParts)) ∧
  (∀ (s : State) (req : Requester) (k : RK) (off : BitVec 43), s.Live → s.sys.Takes ⟨req, k, none, none⟩ → k.reg.still = true → off.toNat = s.sys.offsetOf k → Completes (.clearingRead req off .b8) s (fun t => t.sys.resp = .done (s.sys.rd k) ∧
      k.reg.rows.all (fun x => fget (t.sys.rd k) x.lo x.wd == if x.acc = .rc then 0 else fget (s.sys.rd k) x.lo x.wd) = true ∧
      s.Only t (fun q => q == k) accessParts)) ∧
  (∀ (s : State) (off : BitVec 43) (req : Requester), s.Live → s.sys.Takes ⟨req, ⟨.SPN_SPAN, 0, 0⟩, none, none⟩ → off = 0x10010 → Completes (.clearingRead req off .b8) s (fun t =>
      t.sys.resp = .done (fput (BitVec.ofNat 64 s.sys.spanNo) 63 1 (b2n s.sys.inWindow)) ∧ s.Only t (fun _ => false) accessParts))

/-- R31 to R33: the precedence between the paths at a station's apply point. -/
def Obligations.PathPrecedence : Prop :=
  (∀ (s : State) (core : Fin 4) (k : RK) (off : BitVec 43) (v : Word) (w : Nat × Bool), s.Live → s.sys.Takes ⟨.tether core, k, some v, none⟩ → k.reg.plain = true → off.toNat = s.sys.offsetOf k → Completes (.registerWrite (.tether core) off .b8 v) s (fun t => t.sys.stations.tetherMark.contains k = true ∧
      t.sys.stations.meshMark = s.sys.stations.meshMark.filter (fun m => m.1 ≠ k) ∧
      (s.sys.stations.meshMark.filter (fun m => m.1 = k) = [(k, w)] →
      t.sys.rf F.SYS_CS_STATUS_MESH_SUPERSEDED (stationAt off.toNat) = 1 ∧
      t.sys.rf F.SYS_CS_STATUS_DROP_OFFSET (stationAt off.toNat) = off.toNat - windowBase off.toNat ∧
      t.sys.rf F.SYS_CS_STATUS_DROP_KENNEL (stationAt off.toNat) = w.1 % 16 ∧
      t.sys.rf F.SYS_CS_STATUS_DROP_WORLD (stationAt off.toNat) = b2n w.2) ∧
      (s.sys.stations.meshMark.filter (fun m => m.1 = k) = [] →
      t.sys.rd ⟨.SYS_CS_STATUS, stationAt off.toNat, 0⟩ = s.sys.rd ⟨.SYS_CS_STATUS, stationAt off.toNat, 0⟩))) ∧
  (∀ (s : State) (k : RK) (kn : Fin 16) (sec isHart : Bool) (off : BitVec 43) (v : Word), s.Live → s.sys.Takes ⟨.remote kn sec isHart, k, some v, none⟩ → k.reg.plain = true → off.toNat = s.sys.offsetOf k → Completes (.registerWrite (.remote kn sec isHart) off .b8 v) s (fun t => t.sys.stations.meshMark.contains (k, kn.val, sec) = true ∧
      t.sys.stations.tetherMark = s.sys.stations.tetherMark ∧
      t.sys.rd ⟨.SYS_CS_STATUS, stationAt off.toNat, 0⟩ = s.sys.rd ⟨.SYS_CS_STATUS, stationAt off.toNat, 0⟩)) ∧
  (∀ (s : State) (k : RK) (kn : Fin 16) (sec isHart : Bool) (off : BitVec 43) (v : Word), s.Live → s.sys.Admits ⟨.remote kn sec isHart, k, some v, none⟩ → s.sys.domOf k = none → s.sys.stations.tetherMark.contains k.canon = true → off.toNat = s.sys.offsetOf k → Completes (.registerWrite (.remote kn sec isHart) off .b8 v) s (fun t => t.sys.resp = .done 0 ∧
      t.sys.rf F.SYS_CS_STATUS_MESH_DROP (stationAt off.toNat) = 1 ∧
      t.sys.rf F.SYS_CS_STATUS_DROP_OFFSET (stationAt off.toNat) = off.toNat - windowBase off.toNat ∧
      t.sys.rf F.SYS_CS_STATUS_DROP_KENNEL (stationAt off.toNat) = kn.val ∧
      t.sys.rf F.SYS_CS_STATUS_DROP_WORLD (stationAt off.toNat) = b2n sec ∧
      t.sys.rf F.SYS_CS_STATUS_DROP_COUNT (stationAt off.toNat) = min 255 (s.sys.rf F.SYS_CS_STATUS_DROP_COUNT (stationAt off.toNat) + 1) ∧
      s.Only t (oneReg (stationAt off.toNat) [.SYS_CS_STATUS]) [.resp])) ∧
  (∀ (s : State) (core : Fin 4) (i : Fin 109) (off : BitVec 43) (v : Word), s.Live → s.sys.Takes ⟨.tether core, ⟨.SYS_CS_STATUS, i, 0⟩, some v, none⟩ → off.toNat = 0x1000 + 8 * i.val → fget (s.sys.rd ⟨.SYS_CS_STATUS, i, 0⟩ &&& ~~~v) 1 2 = 0 → s.sys.stations.meshMark = [] → Completes (.registerWrite (.tether core) off .b8 v) s (fun t => fget (t.sys.rd ⟨.SYS_CS_STATUS, i, 0⟩) 1 2 = 0 ∧
      t.sys.rf F.SYS_CS_STATUS_DROP_COUNT i = 0 ∧ s.Only t (oneReg i [.SYS_CS_STATUS]) accessParts))

/-- R24, R26, R28, R29, R37, R508: accesses that a station does not perform. -/
def Obligations.RefusedAccesses : Prop :=
  (∀ (s : State) (h : Fin 256) (off : BitVec 43) (z : Size) (v : Word), s.Live → s.sys.regAt off.toNat = none → Completes (.registerWrite (.hart h) off z v) s (fun t => t.sys.resp = .accessFault true ∧ s.Only t (fun _ => false) [.resp])) ∧
  (∀ (s : State) (h : Fin 256) (off : BitVec 43) (z : Size), s.Live → s.sys.regAt off.toNat = none → Completes (.clearingRead (.hart h) off z) s (fun t => t.sys.resp = .accessFault false ∧ s.Only t (fun _ => false) [.resp])) ∧
  (∀ (s : State) (kn : Fin 16) (sec : Bool) (off : BitVec 43) (z : Size), s.Live → s.sys.regAt off.toNat = none → Completes (.clearingRead (.remote kn sec false) off z) s (fun t => t.sys.resp = .error ∧ s.Only t (fun _ => false) [.resp])) ∧
  (∀ (s : State) (core : Fin 4) (off : BitVec 43) (v : Word), s.Live → s.sys.regAt off.toNat = none → off.toNat % 8 = 0 → Completes (.registerWrite (.tether core) off .b8 v) s (fun t => t.sys.resp = .error ∧ t.sys.rf F.DRM_TETHER_ERR_VALID core = 1 ∧
      t.sys.rf F.DRM_TETHER_ERR_STATUS core = 1 ∧ t.sys.rf F.DRM_TETHER_ERR_WRITE core = 1 ∧ s.Only t (oneReg core [.DRM_TETHER_ERR]) [.resp])) ∧
  (∀ (s : State) (h : Fin 256) (k : RK) (off : BitVec 43) (v : Word), s.Live → s.sys.regAt off.toNat = some k → s.sys.pageAdmits (off.toNat / 4096) (s.sys.hartKennel h) (s.sys.worldS h) = false → Completes (.registerWrite (.hart h) off .b8 v) s (fun t => t.sys.resp = .accessFault true ∧ s.Only t (fun _ => false) [.resp])) ∧
  (∀ (s : State) (h : Fin 256) (k : RK) (off : BitVec 43), s.Live → s.sys.regAt off.toNat = some k → k.reg ≠ .SYS_ID → s.sys.pageAdmits (off.toNat / 4096) (s.sys.hartKennel h) (s.sys.worldS h) = false → Completes (.clearingRead (.hart h) off .b8) s (fun t => t.sys.resp = .accessFault false ∧ s.Only t (fun _ => false) [.resp])) ∧
  (∀ (s : State) (kn : Fin 16) (sec isHart : Bool) (k : RK) (off : BitVec 43) (v : Word), s.Live → s.sys.regAt off.toNat = some k → k.reg.path = .tw ∨ (k.reg.path = .b15 ∧ kn.val ≠ 15) → Completes (.registerWrite (.remote kn sec isHart) off .b8 v) s (fun t => t.sys.resp = (if isHart then .accessFault true else .error) ∧
      s.Only t (fun _ => false) [.resp])) ∧
  (∀ (s : State) (core : Fin 4) (k : RK) (off : BitVec 43), s.Live → s.sys.regAt off.toNat = some k → off.toNat = s.sys.offsetOf k → off.toNat % 8 = 0 → s.sys.stations.chainFailed.contains (stationAt off.toNat) = false → k.reg.heldInUnit = true → k.reg.path ≠ .m → k.reg.path ≠ .l → s.sys.unitOff (stationAt off.toNat) = true → Completes (.clearingRead (.tether core) off .b8) s (fun t => t.sys.resp = .done 0 ∧ t.sys.rf F.SYS_CS_STATUS_OFF_ACCESS (stationAt off.toNat) = 1 ∧
      s.Only t (oneReg (stationAt off.toNat) [.SYS_CS_STATUS]) [.resp])) ∧
  (∀ (s : State) (core : Fin 4) (k : RK) (off : BitVec 43) (v : Word), s.Live → s.sys.regAt off.toNat = some k → off.toNat = s.sys.offsetOf k → off.toNat % 8 = 0 → s.sys.stations.chainFailed.contains (stationAt off.toNat) = false → k.reg.heldInUnit = true → k.reg.path ≠ .m → k.reg.path ≠ .l → s.sys.unitOff (stationAt off.toNat) = true → Completes (.registerWrite (.tether core) off .b8 v) s (fun t => t.sys.resp = .done 0 ∧ t.sys.rf F.SYS_CS_STATUS_OFF_ACCESS (stationAt off.toNat) = 1 ∧
      s.Only t (oneReg (stationAt off.toNat) [.SYS_CS_STATUS]) [.resp])) ∧
  (∀ (s : State) (core : Fin 4) (k : RK) (off : BitVec 43) (v : Word), s.Live → s.sys.regAt off.toNat = some k → off.toNat % 8 = 0 → s.sys.stations.chainFailed.contains (stationAt off.toNat) = true → Completes (.registerWrite (.tether core) off .b8 v) s (fun t => t.sys.resp = .waiting ∧
      t.sys.stations.waits.map (fun w => (w.core, w.offset, w.write)) = s.sys.stations.waits.map (fun w => (w.core, w.offset, w.write)) ++ [(core.val, off.toNat, true)] ∧
      s.Only t (fun _ => false) [.resp, .stations])) ∧
  (∀ (s : State) (core : Fin 4) (w : TetherWait), s.Live → s.sys.stations.waits = [w] → w.core = core.val → w.va = none → Completes (.tetherTimeout core) s (fun t => t.sys.resp = .timeout ∧ t.sys.stations.waits = [] ∧
      t.sys.rf F.DRM_TETHER_ERR_VALID core = 1 ∧ t.sys.rf F.DRM_TETHER_ERR_STATUS core = 2 ∧
      t.sys.rf F.DRM_TETHER_ERR_WRITE core = b2n w.write ∧ t.sys.stations.chainFailed = s.sys.stations.chainFailed ∧
      s.Only t (oneReg core [.DRM_TETHER_ERR]) [.resp, .stations]))

/-- R614: the registers that permit a 32-bit access, and what such an access covers. -/
def Obligations.AccessSizes : Prop :=
  (∀ (k : RK), k.reg.half = [Reg.ICN_CTX_CLAIM, .ICN_MCTX_CLAIM, .ICN_DRM_CLAIM, .ICN_DOM_MSG, .RTV_CH_TAIL].contains k.reg) ∧
  (∀ (s : State) (req : Requester) (k : RK) (off : BitVec 43) (v : Word), s.sys.regAt off.toNat = some k → off.toNat = s.sys.offsetOf k → off.toNat % 8 = 0 → k.reg.half = true → exec (.registerWrite req off .b4 v) s = exec (.registerWrite req off .b8 (v &&& 0xFFFFFFFF)) s) ∧
  (∀ (s : State) (req : Requester) (k : RK) (off : BitVec 43), s.Live → s.sys.regAt off.toNat = some k → off.toNat = s.sys.offsetOf k → off.toNat % 8 = 0 → k.reg.half = true → Completes (.clearingRead req off .b8) s (fun t => Completes (.clearingRead req off .b4) s (fun u =>
      u = { t with sys := { t.sys with resp := match t.sys.resp with | .done v => .done (v &&& 0xFFFFFFFF) | r => r } }))) ∧
  (∀ (s : State) (h : Fin 256) (k : RK) (off : BitVec 43) (z : Size) (v : Word), s.Live → s.sys.regAt off.toNat = some k → z = .b1 ∨ z = .b2 ∨ (z = .b4 ∧ (k.reg.half = false ∨ off.toNat ≠ s.sys.offsetOf k)) → Completes (.registerWrite (.hart h) off z v) s (fun t => t.sys.resp = .accessFault true ∧ s.Only t (fun _ => false) [.resp])) ∧
  (∀ (s : State) (h : Fin 256) (k : RK) (off : BitVec 43) (z : Size), s.Live → s.sys.regAt off.toNat = some k → z = .b1 ∨ z = .b2 ∨ (z = .b4 ∧ (k.reg.half = false ∨ off.toNat ≠ s.sys.offsetOf k)) → Completes (.clearingRead (.hart h) off z) s (fun t => t.sys.resp = .accessFault false ∧ s.Only t (fun _ => false) [.resp])) ∧
  (∀ (s : State) (kn : Fin 16) (sec : Bool) (k : RK) (off : BitVec 43) (z : Size), s.Live → s.sys.regAt off.toNat = some k → z = .b1 ∨ z = .b2 ∨ (z = .b4 ∧ (k.reg.half = false ∨ off.toNat ≠ s.sys.offsetOf k)) → Completes (.clearingRead (.remote kn sec false) off z) s (fun t => t.sys.resp = .error ∧ s.Only t (fun _ => false) [.resp])) ∧
  (∀ (s : State) (core : Fin 4) (off : BitVec 43) (z : Size) (v : Word), s.Live → z = .b1 ∨ z = .b2 ∨ (z = .b4 ∧ off.toNat % 4 ≠ 0) → Completes (.registerWrite (.tether core) off z v) s (fun t => t.sys.resp = .error ∧ t.sys.rf F.DRM_TETHER_ERR_VALID core = 1 ∧
      t.sys.rf F.DRM_TETHER_ERR_STATUS core = 3 ∧ s.Only t (oneReg core [.DRM_TETHER_ERR]) [.resp])) ∧
  (∀ (s : State) (core : Fin 4) (off : BitVec 43) (z : Size), s.Live → z = .b1 ∨ z = .b2 ∨ (z = .b4 ∧ off.toNat % 4 ≠ 0) → Completes (.clearingRead (.tether core) off z) s (fun t => t.sys.resp = .error ∧ t.sys.rf F.DRM_TETHER_ERR_VALID core = 1 ∧
      t.sys.rf F.DRM_TETHER_ERR_STATUS core = 3 ∧ s.Only t (oneReg core [.DRM_TETHER_ERR]) [.resp])) ∧
  (∀ (s : State) (core : Fin 4) (k : RK) (off : BitVec 43) (v : Word), s.Live → s.sys.regAt off.toNat = some k → off.toNat % 4 = 0 → s.sys.stations.chainFailed.contains (stationAt off.toNat) = false → k.reg.half = false ∨ off.toNat ≠ s.sys.offsetOf k → Completes (.registerWrite (.tether core) off .b4 v) s (fun t => t.sys.resp = .error ∧ t.sys.rf F.DRM_TETHER_ERR_STATUS core = 1 ∧
      t.sys.rf F.SYS_CS_STATUS_TETHER_ERR (stationAt off.toNat) = 1 ∧
      s.Only t (fun q => oneReg core [.DRM_TETHER_ERR] q || oneReg (stationAt off.toNat) [.SYS_CS_STATUS] q) [.resp])) ∧
  (∀ (s : State) (core : Fin 4) (k : RK) (off : BitVec 43), s.Live → s.sys.regAt off.toNat = some k → off.toNat % 4 = 0 → s.sys.stations.chainFailed.contains (stationAt off.toNat) = false → k.reg.half = false ∨ off.toNat ≠ s.sys.offsetOf k → Completes (.clearingRead (.tether core) off .b4) s (fun t => t.sys.resp = .error ∧ t.sys.rf F.DRM_TETHER_ERR_STATUS core = 1 ∧
      t.sys.rf F.SYS_CS_STATUS_TETHER_ERR (stationAt off.toNat) = 1 ∧
      s.Only t (fun q => oneReg core [.DRM_TETHER_ERR] q || oneReg (stationAt off.toNat) [.SYS_CS_STATUS] q) [.resp]))

/-- R362: the channels that may run a soft or a hard repair. -/
def Obligations.RepairRequests : Prop :=
  (∀ (s : State) (req : Requester) (m : Fin 16) (v : Word), s.Takes (.pprStart req m v) → (s.sys.chan m).repair = none → Completes (.pprStart req m v) s (fun t =>
      ((t.sys.rf F.MC_PPR_CTL_HARD m = 0 ∧ (s.sys.mcState m = mcActive ∨ s.sys.mcState m = mcResilvering ∨ s.sys.mcState m = mcEvacuated)) ∨
      (t.sys.rf F.MC_PPR_CTL_HARD m = 1 ∧ (s.sys.mcState m = mcEvacuated ∨ s.sys.mcState m = mcReady ∨ s.sys.mcState m = mcUntrained)) →
      t.sys.rf F.MC_PPR_STATUS_RESULT m = 1 ∧ (t.sys.chan m).repair.isSome = true) ∧
      (¬ ((t.sys.rf F.MC_PPR_CTL_HARD m = 0 ∧ (s.sys.mcState m = mcActive ∨ s.sys.mcState m = mcResilvering ∨ s.sys.mcState m = mcEvacuated)) ∨
      (t.sys.rf F.MC_PPR_CTL_HARD m = 1 ∧ (s.sys.mcState m = mcEvacuated ∨ s.sys.mcState m = mcReady ∨ s.sys.mcState m = mcUntrained))) →
      t.sys.rf F.MC_PPR_STATUS_RESULT m = 5 ∧ (t.sys.chan m).repair = none)))

/-! ## Chapter 02 -/

/-- R64, R65: the port leaves TX_LOCK, SEEK, ACQUIRE, LOCKED and RIDE by the events of the ring, each with its action; nothing else changes. -/
def Obligations.LeashLocks : Prop :=
  (∀ (s : State), s.Live → s.sys.portState = portTxLock → Completes .txPllLock s (fun t => t.sys.portState = portLocked ∧ t.sys.rf F.SPN_STATUS_TIMEBASE = 1 ∧ t.sys.span.holdNext = some true ∧
      s.Only t (fun k => k.reg == .SPN_STATUS) [.span])) ∧
  (∀ (s : State) (fwd : BitVec 24), s.Live → s.sys.portState = portSeek → s.sys.rf F.SPN_CTL_RECAL = 0 → Completes (.symbolLock fwd) s (fun t => t.sys.portState = portAcquire ∧ t.sys.span.symbolLock = true ∧
      t.sys.rf F.SPN_DELAY_FWD = fwd.toNat ∧ t.sys.span.fwdUsed = fwd.toNat ∧ t.sys.span.fwdNext = s.sys.span.fwdNext ∧
      s.Only t (fun k => k.reg == .SPN_STATUS || k.reg == .SPN_DELAY) [.span])) ∧
  (∀ (s : State), s.Live → s.sys.portState = portAcquire → Completes .symbolLockLost s (fun t => t.sys.portState = portSeek ∧ t.sys.span.symbolLock = false ∧
      t.sys.span.holdNext = s.sys.span.holdNext ∧ s.Only t (fun k => k.reg == .SPN_STATUS) [.span])) ∧
  (∀ (s : State), s.Live → s.sys.portState = portLocked → s.sys.leashMaster = false → Completes .symbolLockLost s (fun t => t.sys.portState = portRide ∧ t.sys.span.tx = .idle ∧
      t.sys.span.holdNext = s.sys.span.holdNext ∧ s.Only t (fun k => k.reg == .SPN_STATUS) [.span])) ∧
  (∀ (s : State), s.Live → s.sys.portState = portLocked → s.sys.leashMaster = false → Completes .markerTimeout s (fun t => t.sys.portState = portRide ∧ t.sys.span.rideSpans = 0 ∧
      t.sys.span.holdNext = s.sys.span.holdNext ∧ s.Only t (fun k => k.reg == .SPN_STATUS) [.span])) ∧
  (∀ (s : State), s.Live → s.sys.portState = portRide → 2 ≤ s.sys.span.rideSpans → Completes .rideExpiry s (fun t => t.sys.portState = portSeek ∧ t.sys.span.holdNext = some false ∧
      t.sys.fcr.events = s.sys.fcr.events ++ [⟨srcGlobal 1, 0⟩] ∧ s.Only t (fun k => k.reg == .SPN_STATUS) [.span, .fcr])) ∧
  (∀ (s : State), s.Live → s.sys.portState ≠ portLocked → Completes .holdoverExpiry s (fun t => t.sys.rf F.SPN_STATUS_TIMEBASE = 0 ∧ t.sys.portState = s.sys.portState ∧
      s.Only t (fun k => k.reg == .SPN_STATUS) [.span]))

/-- R59 to R66, R69, R72: what a node does with the frames of the ring. -/
def Obligations.LeashFrames : Prop :=
  (∀ (s : State) (f : TimeFrame) (mark : Int) (now : Nat), s.Live → s.sys.leashMaster = false → s.sys.span.symbolLock = true → s.sys.portState = portLocked → f.crcOk = false → Completes (.timeFrame f mark now) s (fun t => t.sys.rf F.SPN_STATUS_CRC_ERR = 1 ∧ t.sys.portState = portRide ∧
      t.sys.span.tx = .time { f with crc := ~~~ f.crc } ∧ s.Only t (fun k => k.reg == .SPN_STATUS) [.span])) ∧
  (∀ (s : State) (f : TimeFrame) (mark : Int) (now : Nat), s.Live → s.sys.leashMaster = false → s.sys.span.symbolLock = true → s.sys.portState = portLocked → f.crcOk = true → f.flags.toNat % 8 ≠ s.sys.rf F.SPN_CFG_K → Completes (.timeFrame f mark now) s (fun t => t.sys.rf F.SPN_STATUS_K_MISMATCH = 1 ∧ t.sys.portState = portRide ∧
      t.sys.span.tx = .time f ∧ s.Only t (fun k => k.reg == .SPN_STATUS) [.span])) ∧
  (∀ (s : State) (f : TimeFrame) (mark : Int) (now : Nat), s.Live → s.sys.leashMaster = false → s.sys.span.symbolLock = true → s.sys.portState = portRide → f.crcOk = true → f.flags.toNat % 8 = s.sys.rf F.SPN_CFG_K → Completes (.timeFrame f mark now) s (fun t => t.sys.portState = portLocked ∧ t.sys.rf F.SPN_STATUS_TIMEBASE = 1 ∧
      t.sys.rf F.SPN_DELAY_ACC_IN = s.sys.accIn f % 2 ^ 24 ∧ t.sys.span.adjust = some (s.sys.nextTick f mark now) ∧
      t.sys.span.tx = .time (TimeFrame.fresh { f with
      acc := BitVec.ofNat 24 (s.sys.accIn f + s.sys.span.fwdUsed + (s.sys.hop s.sys.ringPos).txOut)
      last := BitVec.ofNat 8 s.sys.ringPos, fallen := mapBit f.fallen s.sys.ringPos s.sys.heeled }) ∧
      s.Only t (fun k => k.reg == .SPN_STATUS || k.reg == .SPN_DELAY || k.reg == .SPN_FALLEN) [.span, .fcr])) ∧
  (∀ (s : State) (f : TimeFrame) (measured : BitVec 24), s.Live → s.sys.leashMaster = true → s.sys.portState = portLocked → f.crcOk = true → f.flags.toNat % 8 = s.sys.rf F.SPN_CFG_K → Completes (.timeFrameReturn f measured) s (fun t => t.sys.rf F.SPN_RING_DELAY_MEASURED = measured.toNat ∧
      t.sys.rf F.SPN_RING_DELAY_EXPECTED =
      (f.acc.toNat + s.sys.bypassSum (f.last.toNat + 1) s.sys.span.ringMap.length + (s.sys.hop 0).cable + (s.sys.hop 0).rxIn) % 2 ^ 24 ∧
      s.Only t (fun k => k.reg == .SPN_STATUS || k.reg == .SPN_RING_DELAY || k.reg == .SPN_FALLEN) [])) ∧
  (∀ (s : State) (idle : Nat), s.Live → s.sys.rf F.SPN_SCHED_TX0_GO = 1 → 8 ≤ idle → 1280 < s.sys.spanS - s.sys.phase → s.sys.span.symbolLock = true → Completes (.schedInsert idle) s (fun t => t.sys.rf F.SPN_SCHED_TX0_GO = 0 ∧
      t.sys.span.tx = .sched (SchedFrame.fresh ⟨BitVec.ofNat 8 (s.sys.rf F.SPN_SCHED_TX0_ACTION),
      BitVec.ofNat 48 (s.sys.rf F.SPN_SCHED_TX0_TARGET), BitVec.ofNat 64 (s.sys.rf F.SPN_SCHED_TX1_ARG), BitVec.ofNat 8 s.sys.ringPos, 0⟩) ∧
      s.Only t (fun k => k.reg == .SPN_SCHED_TX0 || k.reg == .SPN_STATUS) [.span])) ∧
  (∀ (s : State) (f : SchedFrame), s.Live → s.sys.portState ≠ portOff → s.sys.span.symbolLock = true → f.crcOk = true → f.origin.toNat ≠ s.sys.ringPos → f.action = 1 ∨ f.action = 2 → Completes (.schedFrame f) s (fun t => t.sys.span.tx = .sched f ∧
      (s.sys.spanNo < f.target.toNat → s.sys.span.waiting.length < 8 → t.sys.span.waiting = s.sys.span.waiting ++ [f] ∧ t.sys.regs = s.sys.regs) ∧
      (f.target.toNat ≤ s.sys.spanNo → t.sys.span.waiting = s.sys.span.waiting ∧ t.sys.rf F.SPN_STATUS_SCHED_LATE = 1) ∧
      (s.sys.spanNo < f.target.toNat → 8 ≤ s.sys.span.waiting.length → t.sys.span.waiting = s.sys.span.waiting ∧
      t.sys.rf F.SPN_STATUS_SCHED_OVF = 1) ∧
      s.Only t (fun k => k.reg == .SPN_STATUS) [.span])) ∧
  (∀ (s : State) (f : SchedFrame) (fwd : BitVec 24), s.Live → s.sys.span.waiting = [f] → f.target.toNat ≤ s.sys.spanNo → f.action = 1 → s.sys.span.events = [] → s.sys.rf F.SPN_CTL_SCHED_IRQ_EN = 0 → Completes (.schedTargetReached fwd) s (fun t => t.sys.span.waiting = [] ∧ t.sys.span.events = [f] ∧ t.sys.rf F.SPN_SCHED_RX0_VALID = 1 ∧
      t.sys.rf F.SPN_SCHED_RX0_ORIGIN = f.origin.toNat ∧ t.sys.rf F.SPN_SCHED_RX0_TARGET = f.target.toNat ∧
      t.sys.rf F.SPN_SCHED_RX1_ARG = f.arg.toNat ∧ s.Only t (fun k => k.reg == .SPN_SCHED_RX0 || k.reg == .SPN_SCHED_RX1) [.span]))

/-- R42, R64, R65, R73: the commands that write the SPN block. -/
def Obligations.SpanRegisters : Prop :=
  (∀ (s : State) (req : Requester) (v : Word), s.Takes (.spnCfgWrite req v) → s.sys.isSealed = false → Completes (.spnCfgWrite req v) s (fun t =>
      (windowOk (fget v 0 3) (fget v 4 7) = true → t.sys.rf F.SPN_CFG_K = fget v 0 3 ∧ t.sys.rf F.SPN_CFG_WINDOW = fget v 4 7 ∧
      t.sys.rf F.SPN_CFG_POSITION = fget v 16 8 ∧ s.Only t (fun k => k.reg == .SPN_CFG || k.reg == .SYS_CS_STATUS) accessParts) ∧
      (windowOk (fget v 0 3) (fget v 4 7) = false → t.sys.rf F.SPN_STATUS_CFG_ERR = 1 ∧
      s.Only t (fun k => k.reg == .SPN_STATUS || k.reg == .SYS_CS_STATUS) accessParts))) ∧
  (∀ (s : State) (req : Requester) (v : Word), s.Takes (.spnCfgWrite req v) → s.sys.isSealed = true → Completes (.spnCfgWrite req v) s (fun t => s.Only t (fun k => k.reg == .SYS_CS_STATUS) accessParts)) ∧
  (∀ (s : State) (req : Requester) (v : Word), s.Takes (.leashEnable req v) → s.sys.portState = portOff → s.sys.rf F.SPN_CTL_ENABLE = 0 → Completes (.leashEnable req v) s (fun t => t.sys.rf F.SPN_CTL_ENABLE = 1 ∧ t.sys.rf F.SPN_CTL_SCHED_IRQ_EN = fget v 2 1 ∧
      t.sys.portState = (if s.sys.leashMaster then portTxLock else portSeek) ∧
      s.Only t (fun k => k.reg == .SPN_CTL || k.reg == .SPN_STATUS || k.reg == .SPN_DELAY || k.reg == .SYS_CS_STATUS) (.span :: accessParts))) ∧
  (∀ (s : State) (req : Requester) (v : Word), s.Takes (.leashDisable req v) → s.sys.portState ≠ portOff → s.sys.rf F.SPN_CTL_ENABLE = 1 → Completes (.leashDisable req v) s (fun t => t.sys.rf F.SPN_CTL_ENABLE = 0 ∧ t.sys.portState = portOff ∧
      t.sys.span.holdNext = some false ∧ t.sys.span.tx = .idle ∧
      s.Only t (fun k => k.reg == .SPN_CTL || k.reg == .SPN_STATUS || k.reg == .SPN_DELAY || k.reg == .SYS_CS_STATUS) (.span :: accessParts))) ∧
  (∀ (s : State) (req : Requester) (v : Word) (fwd : BitVec 24), s.Takes (.leashRecal req v fwd) → s.sys.span.symbolLock = true → Completes (.leashRecal req v fwd) s (fun t => t.sys.rf F.SPN_CTL_RECAL = 1 ∧ t.sys.rf F.SPN_DELAY_FWD = fwd.toNat ∧
      t.sys.span.fwdNext = some fwd.toNat ∧ t.sys.span.fwdUsed = s.sys.span.fwdUsed ∧
      s.Only t (fun k => k.reg == .SPN_CTL || k.reg == .SPN_STATUS || k.reg == .SPN_DELAY || k.reg == .SYS_CS_STATUS) (.span :: accessParts))) ∧
  (∀ (s : State) (req : Requester) (v : Word), s.Takes (.schedSend req v) → Completes (.schedSend req v) s (fun t =>
      (s.sys.rf F.SPN_SCHED_TX0_GO = 0 → t.sys.rf F.SPN_SCHED_TX0_GO = 1 ∧ t.sys.rf F.SPN_SCHED_TX0_ACTION = fget v 48 8 ∧
      t.sys.rf F.SPN_SCHED_TX0_TARGET = fget v 0 48) ∧
      (s.sys.rf F.SPN_SCHED_TX0_GO = 1 → t.sys.rd ⟨.SPN_SCHED_TX0, 0, 0⟩ = s.sys.rd ⟨.SPN_SCHED_TX0, 0, 0⟩) ∧
      s.Only t (fun k => k.reg == .SPN_SCHED_TX0 || k.reg == .SYS_CS_STATUS) accessParts)) ∧
  (∀ (s : State) (req : Requester), s.Takes (.schedRxPop req) → Completes (.schedRxPop req) s (fun t => t.sys.span.events = s.sys.span.events.drop 1 ∧
      t.sys.rf F.SPN_SCHED_RX0_VALID = b2n (!(s.sys.span.events.drop 1).isEmpty) ∧
      t.sys.rf F.SPN_SCHED_RX1_ARG = (((s.sys.span.events.drop 1).head?).map (fun e => e.arg.toNat)).getD 0 ∧
      s.Only t (fun k => k.reg == .SPN_SCHED_RX0 || k.reg == .SPN_SCHED_RX1 || k.reg == .SYS_CS_STATUS) (.span :: accessParts))) ∧
  (∀ (s : State) (req : Requester) (v : Word), s.Takes (.timeLoad req v) → Completes (.timeLoad req v) s (fun t =>
      (s.sys.leashMaster = true → s.sys.rf F.SPN_CTL_ENABLE = 0 →
      t.sys.span.load = some (v.toNat - v.toNat % spanLen (s.sys.rf F.SPN_CFG_K)) ∧
      s.Only t (fun k => k.reg == .SYS_CS_STATUS) (.span :: accessParts)) ∧
      (s.sys.leashMaster = false ∨ s.sys.rf F.SPN_CTL_ENABLE = 1 → t.sys.rf F.SPN_STATUS_TIME_LOAD_ERR = 1 ∧
      s.Only t (fun k => k.reg == .SPN_STATUS || k.reg == .SYS_CS_STATUS) accessParts))) ∧
  (∀ (s : State) (req : Requester), s.Takes (.overrunClr req) → Completes (.overrunClr req) s (fun t => t.sys.rf F.SPN_OVERRUN_COUNT = 0 ∧ t.sys.rf F.SPN_OVERRUN_REFRESH = s.sys.rf F.SPN_OVERRUN_REFRESH ∧
      t.sys.rf F.SPN_OVERRUN_OTHER = s.sys.rf F.SPN_OVERRUN_OTHER ∧
      s.Only t (fun k => k.reg == .SPN_OVERRUN || k.reg == .SYS_CS_STATUS) accessParts))

/-- R32, R41 to R43, R46, R51: the events by which time passes. The tick count is the model's own (log 6). -/
def Obligations.SpanTimes : Prop :=
  (∀ (s : State), s.Live → s.sys.inWindow = true → s.sys.znx.commitWindow = false → Completes .windowEnd s (fun t => t.sys.span.rackTime = s.sys.span.rackTime + (s.sys.windowLen - s.sys.phase) ∧
      s.Only t (fun _ => false) [.span])) ∧
  (∀ (s : State) (m : Fin 16) (i : Nat), s.Live → s.sys.mcSteps m = true → 1 ≤ i → i ≤ (s.sys.chan m).remain → s.sys.span.overrunSeen = false → Completes (.overrunRefresh m i) s (fun t => t.sys.rf F.SPN_OVERRUN_REFRESH = 1 ∧
      t.sys.rf F.SPN_OVERRUN_COUNT = min (2 ^ 32 - 1) (s.sys.rf F.SPN_OVERRUN_COUNT + 1) ∧
      t.sys.span.rackTime = s.sys.span.rackTime +
      (s.sys.windowLen + i * (s.sys.spanS - s.sys.windowLen) / ((s.sys.chan m).remain + 1) - s.sys.phase) ∧
      t.sys.span.overrunSeen = true ∧ t.sys.fcr.events = s.sys.fcr.events ++ [⟨srcGlobal 0, 0⟩] ∧
      s.Only t (fun k => k.reg == .SPN_OVERRUN) [.span, .fcr, .chans])) ∧
  (∀ (s : State) (power : BitVec 16) (temps : List (Fin 68 × Int)), s.Live → s.sys.znx.commitWindow = false → s.sys.reflowState ≠ rfCommit → s.sys.span.adjust = none → s.sys.span.load = none → Completes (.spanTick power temps) s (fun t => t.sys.ticks = s.sys.ticks + 1 ∧
      t.sys.span.rackTime = (s.sys.span.rackTime + (s.sys.spanS - s.sys.phase)) % 2 ^ 64 ∧ t.sys.span.k = s.sys.rf F.SPN_CFG_K ∧
      t.sys.span.window = s.sys.rf F.SPN_CFG_WINDOW ∧ t.sys.stations.tetherMark = [] ∧ t.sys.stations.meshMark = [] ∧ s.KeepsMem t))

/-! ## Chapter 03 -/

/-- R75, R97, R109: ownership of the ZNX block. -/
def Obligations.ZnxOwner : Prop :=
  (∀ (s : State) (core : Fin 4), s.Takes (.claim core) → Completes (.claim core) s (fun t =>
      (s.sys.rf F.ZNX_OWNER_HELD = 0 → s.sys.imageState ≠ imgFailed → t.sys.rf F.ZNX_OWNER_HELD = 1 ∧
      t.sys.rf F.ZNX_OWNER_HART = 0x1000 + core.val ∧ s.Only t (fun k => k.reg == .ZNX_OWNER || k.reg == .SYS_CS_STATUS) accessParts) ∧
      (s.sys.rf F.ZNX_OWNER_HELD = 1 → t.sys.rf F.ZNX_STATUS_OWNER_ERR = 1 ∧
      s.Only t (fun k => k.reg == .ZNX_STATUS || k.reg == .SYS_CS_STATUS) accessParts) ∧
      (s.sys.rf F.ZNX_OWNER_HELD = 0 → s.sys.imageState = imgFailed → t.sys.rf F.ZNX_STATUS_CMD_ERR = 1 ∧
      s.Only t (fun k => k.reg == .ZNX_STATUS || k.reg == .SYS_CS_STATUS) accessParts))) ∧
  (∀ (s : State) (core : Fin 4), s.Takes (.release core) → s.sys.rf F.ZNX_OWNER_HELD = 1 → s.sys.rf F.ZNX_OWNER_HART = 0x1000 + core.val → s.sys.rf F.ZNX_STATUS_BUSY = 0 → Completes (.release core) s (fun t => t.sys.rf F.ZNX_OWNER_HELD = 0 ∧ t.sys.rf F.ZNX_OWNER_HART = 0 ∧
      s.Only t (fun k => k.reg == .ZNX_OWNER || k.reg == .SYS_CS_STATUS) accessParts)) ∧
  (∀ (s : State) (core : Fin 4) (c : Instr), s.Takes c → c ∈ [Instr.release core, .verify core, .apply core, .seal core, .arm core, .cancel core] → s.sys.rf F.ZNX_OWNER_HELD = 0 ∨ s.sys.rf F.ZNX_OWNER_HART ≠ 0x1000 + core.val → Completes c s (fun t => t.sys.rf F.ZNX_STATUS_OWNER_ERR = 1 ∧
      s.Only t (fun k => k.reg == .ZNX_STATUS || k.reg == .SYS_CS_STATUS) accessParts)) ∧
  (∀ (s : State) (core : Fin 4) (op : Byte), s.Takes (.znxInvalidOp core op) → s.sys.rf F.ZNX_OWNER_HELD = 1 → s.sys.rf F.ZNX_OWNER_HART = 0x1000 + core.val → Completes (.znxInvalidOp core op) s (fun t => t.sys.rf F.ZNX_STATUS_CMD_ERR = 1 ∧
      s.Only t (fun k => k.reg == .ZNX_STATUS || k.reg == .SYS_CS_STATUS) accessParts))

/-- R74 to R76, R96 to R98: from a copy in the SRAM to the sealed configuration. -/
def Obligations.ZnxImage : Prop :=
  (∀ (s : State) (core : Fin 4), s.Takes (.verify core) → s.sys.rf F.ZNX_OWNER_HELD = 1 → s.sys.rf F.ZNX_OWNER_HART = 0x1000 + core.val → s.sys.rf F.ZNX_STATUS_BUSY = 0 → s.sys.imageState = imgEmpty ∨ s.sys.imageState = imgVerified → Completes (.verify core) s (fun t => t.sys.rf F.ZNX_STATUS_BUSY = 1 ∧ t.sys.imageState = s.sys.imageState ∧ t.sys.znx.op = 0x10 ∧
      t.sys.znx.len = s.sys.rf F.ZNX_SRC_LEN ∧
      (s.sys.rf F.ZNX_SRC_LEN ≤ 65536 → s.sys.rf F.ZNX_SRC_OFFSET + s.sys.rf F.ZNX_SRC_LEN ≤ 524288 →
      t.sys.znx.copy = s.mem.sramBytes (s.sys.rf F.ZNX_SRC_OFFSET) (s.sys.rf F.ZNX_SRC_LEN)) ∧
      s.Only t (fun k => k.reg == .ZNX_STATUS || k.reg == .SYS_CS_STATUS) (.znx :: accessParts))) ∧
  (∀ (s : State), s.Live → s.sys.znx.op = 0x10 → s.sys.imageState ≠ imgSealed → Completes .verifyDone s (fun t => t.sys.rf F.ZNX_STATUS_BUSY = 0 ∧ t.sys.znx.op = 0 ∧
      t.sys.imageState = (match s.sys.imgCtx.verify with | .pass _ => imgVerified | .fail .. => imgEmpty) ∧
      t.sys.rf F.ZNX_STATUS_ERR_CODE = (match s.sys.imgCtx.verify with | .pass _ => 0 | .fail e _ _ => e % 256) ∧
      t.sys.rf F.ZNX_STATUS_ERR_SECTION = (match s.sys.imgCtx.verify with | .pass _ => 0 | .fail _ a _ => a % 256) ∧
      t.sys.rf F.ZNX_STATUS_ERR_RECORD = (match s.sys.imgCtx.verify with | .pass _ => 0 | .fail _ _ b => b % 65536) ∧
      t.sys.znx.full = (match s.sys.imgCtx.verify with | .pass c => some ⟨s.sys.znx.copy, c, sha384 s.sys.znx.copy⟩ | .fail .. => none) ∧
      s.Only t (fun k => k.reg == .ZNX_STATUS) [.znx])) ∧
  (∀ (s : State) (core : Fin 4) (h : Held), s.Takes (.apply core) → s.sys.rf F.ZNX_OWNER_HELD = 1 → s.sys.rf F.ZNX_OWNER_HART = 0x1000 + core.val → s.sys.rf F.ZNX_STATUS_BUSY = 0 → s.sys.imageState = imgVerified → s.sys.znx.full = some h → Completes (.apply core) s (fun t =>
      (s.sys.capacityBad h.conf = none → t.sys.imageState = imgApplying ∧ t.sys.rf F.ZNX_STATUS_BUSY = 1 ∧ t.sys.znx.op = 0x11 ∧
      t.sys.conf = h.conf ∧ t.sys.rf F.OWN_DUMP_BASE = h.conf.dumpBase / 2 ^ 26 % 2 ^ 38 ∧
      (∀ k : Fin 15, t.sys.kState k.val = if (h.conf.kennel k.val).enabled then kHeld else kDisabled) ∧ s.KeepsMem t) ∧
      (s.sys.capacityBad h.conf ≠ none → t.sys.imageState = imgVerified ∧ t.sys.rf F.ZNX_STATUS_ERR_CODE = 0x22 ∧
      s.Only t (fun k => k.reg == .ZNX_STATUS || k.reg == .SYS_CS_STATUS) accessParts))) ∧
  (∀ (s : State), s.Live → s.sys.znx.op = 0x11 → Completes .applyDone s (fun t => t.sys.imageState = imgApplied ∧ t.sys.rf F.ZNX_STATUS_BUSY = 0 ∧
      s.Only t (fun k => k.reg == .ZNX_STATUS) [.znx])) ∧
  (∀ (s : State) (st : Fin 109), s.Live → s.sys.znx.op = 0x11 → Completes (.applyStationTimeout st) s (fun t => t.sys.imageState = imgFailed ∧ t.sys.rf F.ZNX_STATUS_BUSY = 0 ∧
      s.Only t (fun k => k.reg == .ZNX_STATUS) [.znx, .freeCount])) ∧
  (∀ (s : State) (core : Fin 4) (h : Held), s.Takes (.seal core) → s.sys.rf F.ZNX_OWNER_HELD = 1 → s.sys.rf F.ZNX_OWNER_HART = 0x1000 + core.val → s.sys.rf F.ZNX_STATUS_BUSY = 0 → s.sys.imageState = imgApplied → s.sys.znx.full = some h → Completes (.seal core) s (fun t => t.sys.isSealed = true ∧ t.sys.imageState = imgSealed ∧
      (∀ i : Fin 6, t.sys.rf F.ZNX_DIGEST_DIGEST i.val = u (natBe 48 h.digest) (8 * i.val) 8) ∧
      t.sys.rf F.ZNX_BUILD_VALUE = u h.bytes 32 8 ∧ t.sys.rf F.ZNX_PAIR_VALUE = u h.bytes 40 8 ∧ t.sys.rf F.ZNX_REFLOW_COUNT_COUNT = 0 ∧
      s.Only t (fun k => [Reg.ZNX_STATUS, .ZNX_DIGEST, .ZNX_BUILD, .ZNX_PAIR, .ZNX_REFLOW_COUNT, .SYS_CS_STATUS].contains k.reg)
      (.znx :: accessParts))) ∧
  (∀ (s : State) (core : Fin 4), s.sys.rf F.ZNX_OWNER_HELD = 1 → s.sys.rf F.ZNX_OWNER_HART = 0x1000 + core.val → (s.Takes (.verify core) → s.sys.imageState ∈ [imgApplying, imgApplied, imgFailed] →
      Completes (.verify core) s (fun t => t.sys.rf F.ZNX_STATUS_CMD_ERR = 1 ∧
      s.Only t (fun k => k.reg == .ZNX_STATUS || k.reg == .SYS_CS_STATUS) accessParts)) ∧
      (s.Takes (.apply core) → s.sys.imageState ≠ imgVerified →
      Completes (.apply core) s (fun t => t.sys.rf F.ZNX_STATUS_CMD_ERR = 1 ∧
      s.Only t (fun k => k.reg == .ZNX_STATUS || k.reg == .SYS_CS_STATUS) accessParts)) ∧
      (s.Takes (.seal core) → s.sys.imageState ≠ imgApplied →
      Completes (.seal core) s (fun t => t.sys.rf F.ZNX_STATUS_CMD_ERR = 1 ∧
      s.Only t (fun k => k.reg == .ZNX_STATUS || k.reg == .SYS_CS_STATUS) accessParts)))

/-- R100 to R103, R107: a reflow up to its decision. -/
def Obligations.ReflowSteps : Prop :=
  (∀ (s : State), s.Live → s.sys.znx.op = 0x10 → s.sys.imageState = imgSealed → Completes .verifyDone s (fun t => t.sys.rf F.ZNX_STATUS_BUSY = 0 ∧ t.sys.imageState = imgSealed ∧
      t.sys.reflowState = (match s.sys.imgCtx.verify with | .pass _ => rfStaged | .fail .. => rfIdle) ∧
      t.sys.znx.staged = (match s.sys.imgCtx.verify with | .pass c => some ⟨s.sys.znx.copy, c, sha384 s.sys.znx.copy⟩ | .fail .. => none) ∧
      t.sys.znx.full = s.sys.znx.full ∧ s.Only t (fun k => k.reg == .ZNX_STATUS) [.znx])) ∧
  (∀ (s : State) (core : Fin 4) (h : Held), s.Takes (.arm core) → s.sys.rf F.ZNX_OWNER_HELD = 1 → s.sys.rf F.ZNX_OWNER_HART = 0x1000 + core.val → s.sys.rf F.ZNX_STATUS_BUSY = 0 → s.sys.imageState = imgSealed → s.sys.reflowState = rfStaged → s.sys.znx.staged = some h → Completes (.arm core) s (fun t =>
      (s.sys.spanNo < s.sys.rf F.ZNX_REFLOW_TARGET_TARGET → 2560 < s.sys.toVote (s.sys.rf F.ZNX_REFLOW_TARGET_TARGET) →
      t.sys.reflowState = rfDistributing ∧ t.sys.shadow = some h.conf ∧ t.sys.znx.concerned = s.sys.concerned ∧
      s.Only t (fun k => k.reg == .ZNX_STATUS || k.reg == .SYS_CS_STATUS) (.znx :: .shadow :: accessParts)) ∧
      (s.sys.rf F.ZNX_REFLOW_TARGET_TARGET ≤ s.sys.spanNo ∨ s.sys.toVote (s.sys.rf F.ZNX_REFLOW_TARGET_TARGET) ≤ 2560 →
      t.sys.rf F.ZNX_STATUS_CMD_ERR = 1 ∧ t.sys.reflowState = rfStaged ∧
      s.Only t (fun k => k.reg == .ZNX_STATUS || k.reg == .SYS_CS_STATUS) accessParts))) ∧
  (∀ (s : State) (core : Fin 4), s.Takes (.cancel core) → s.sys.rf F.ZNX_OWNER_HELD = 1 → s.sys.rf F.ZNX_OWNER_HART = 0x1000 + core.val → s.sys.rf F.ZNX_STATUS_BUSY = 0 → s.sys.imageState = imgSealed → s.sys.reflowState ∈ [rfStaged, rfDistributing, rfReady] → Completes (.cancel core) s (fun t => t.sys.reflowState = rfIdle ∧ t.sys.shadow = none ∧ t.sys.znx.staged = none ∧
      t.sys.rf F.ZNX_REFLOW_RESULT_OUTCOME = 2 ∧ t.sys.rf F.ZNX_REFLOW_RESULT_CAUSE = 5 ∧ t.sys.rf F.ZNX_REFLOW_RESULT_STATION = 0xFF ∧
      t.sys.fcr.events = s.sys.fcr.events ++ [⟨srcGlobal 3, 0⟩] ∧
      s.Only t (fun k => k.reg == .ZNX_STATUS || k.reg == .ZNX_REFLOW_RESULT || k.reg == .SYS_CS_STATUS) (.znx :: .shadow :: .fcr :: accessParts))) ∧
  (∀ (s : State), s.Live → s.sys.reflowState = rfDistributing → Completes .distributionDone s (fun t => t.sys.reflowState = rfReady ∧ s.Only t (fun k => k.reg == .ZNX_STATUS) [])) ∧
  (∀ (s : State), s.Live → s.sys.spanNo + 1 = s.sys.rf F.ZNX_REFLOW_TARGET_TARGET → s.sys.phase ≤ s.sys.spanS - 2560 → Completes .voteStart s (fun t =>
      (s.sys.reflowState = rfReady → t.sys.reflowState = rfVoting ∧
      t.sys.span.rackTime = s.sys.span.rackTime + (s.sys.spanS - 2560 - s.sys.phase) ∧ t.sys.znx.ready = [] ∧
      s.Only t (fun k => k.reg == .ZNX_STATUS) [.znx, .span]) ∧
      (s.sys.reflowState = rfDistributing → t.sys.reflowState = rfIdle ∧ t.sys.rf F.ZNX_REFLOW_RESULT_OUTCOME = 2 ∧
      t.sys.rf F.ZNX_REFLOW_RESULT_CAUSE = 1 ∧ t.sys.znx.staged = none ∧ t.sys.shadow = none ∧
      t.sys.fcr.events = s.sys.fcr.events ++ [⟨srcGlobal 3, 0⟩] ∧
      s.Only t (fun k => k.reg == .ZNX_STATUS || k.reg == .ZNX_REFLOW_RESULT) [.znx, .span, .shadow, .fcr]))) ∧
  (∀ (s : State) (st : Fin 109), s.Live → s.sys.reflowState = rfVoting → s.sys.znx.concerned.contains st.val = true → s.sys.znx.ready.contains st.val = false → Completes (.stationVote st) s (fun t =>
      (s.ctx.voteReady st.val = true → t.sys.znx.ready = s.sys.znx.ready ++ [st.val] ∧
      t.sys.reflowState = (if s.sys.znx.concerned.all (s.sys.znx.ready ++ [st.val]).contains then rfCommit else rfVoting) ∧
      s.Only t (fun k => k.reg == .ZNX_STATUS) [.znx]) ∧
      (s.ctx.voteReady st.val = false → t.sys.reflowState = rfIdle ∧ t.sys.rf F.ZNX_REFLOW_RESULT_OUTCOME = 2 ∧
      t.sys.rf F.ZNX_REFLOW_RESULT_CAUSE = 2 ∧ t.sys.rf F.ZNX_REFLOW_RESULT_STATION = st.val ∧ t.sys.znx.staged = none ∧ t.sys.shadow = none ∧
      t.sys.fcr.events = s.sys.fcr.events ++ [⟨srcGlobal 3, 0⟩] ∧
      s.Only t (fun k => k.reg == .ZNX_STATUS || k.reg == .ZNX_REFLOW_RESULT) [.znx, .shadow, .fcr]))) ∧
  (∀ (s : State), s.Live → s.sys.reflowState = rfVoting → Completes .voteTimeout s (fun t => t.sys.reflowState = rfIdle ∧ t.sys.rf F.ZNX_REFLOW_RESULT_OUTCOME = 2 ∧
      t.sys.rf F.ZNX_REFLOW_RESULT_CAUSE = 3 ∧
      (∀ i : Fin 109, s.sys.znx.concerned.find? (fun j => !s.sys.znx.ready.contains j) = some i.val → t.sys.rf F.ZNX_REFLOW_RESULT_STATION = i.val) ∧
      t.sys.znx.staged = none ∧ t.sys.shadow = none ∧ t.sys.fcr.events = s.sys.fcr.events ++ [⟨srcGlobal 3, 0⟩] ∧
      s.Only t (fun k => k.reg == .ZNX_STATUS || k.reg == .ZNX_REFLOW_RESULT) [.znx, .shadow, .fcr]))

/-- R105 to R107: the commit and the rehash sweep. -/
def Obligations.ReflowCommit : Prop :=
  (∀ (s : State) (fails : List (Fin 109)) (h : Held), s.Live → s.sys.znx.staged = some h → s.sys.reflowState = rfCommit → s.sys.spanNo + 1 = s.sys.rf F.ZNX_REFLOW_TARGET_TARGET → Completes (.reflowCommit fails) s (fun t => t.sys.conf = s.sys.stagedConf ∧
      t.sys.reflowState = (if s.sys.stagedRecs.kennels.any (fun p =>
      p.2.sliceMask ≠ (s.sys.conf.kennel p.1).sliceMask || p.2.hashMode ≠ (s.sys.conf.kennel p.1).hashMode) then rfDraining else rfIdle) ∧
      (∀ i : Fin 6, t.sys.rf F.ZNX_DIGEST_DIGEST i.val =
      u (natBe 48 (sha384 (natBe 48 s.sys.digestNat ++ natBe 48 h.digest))) (8 * i.val) 8) ∧
      t.sys.rf F.ZNX_REFLOW_COUNT_COUNT = (s.sys.rf F.ZNX_REFLOW_COUNT_COUNT + 1) % 2 ^ 32 ∧
      t.sys.rf F.ZNX_REFLOW_RESULT_OUTCOME = 1 ∧ t.sys.rf F.ZNX_REFLOW_RESULT_CAUSE = 0 ∧
      t.sys.rf F.ZNX_REFLOW_RESULT_TARGET = s.sys.rf F.ZNX_REFLOW_TARGET_TARGET ∧
      t.sys.rf F.ZNX_REFLOW_RESULT_STATION = (if fails.isEmpty then 0xFF else (fails.map (·.val)).foldl min 0xFF) ∧
      (fails.isEmpty = false → t.sys.fcr.events.contains ⟨srcGlobal 4, 0⟩ = true) ∧ t.sys.znx.commitWindow = true ∧ t.sys.znx.staged = none ∧
      s.KeepsMem t)) ∧
  (∀ (s : State) (h : Held), s.Live → s.sys.znx.staged = some h → s.sys.reflowState = rfCommit → s.sys.spanNo + 1 = s.sys.rf F.ZNX_REFLOW_TARGET_TARGET → s.sys.stagedRecs.kennels = [] → s.sys.stagedRecs.tiles = [] → s.sys.stagedRecs.ports = [] → s.sys.stagedRecs.reaction = [] → s.sys.stagedRecs.power = none → s.sys.stagedRecs.regions = [] → Completes (.reflowCommit []) s (fun t => s.Only t (fun k => [Reg.ZNX_STATUS, .ZNX_DIGEST, .ZNX_REFLOW_COUNT, .ZNX_REFLOW_RESULT,
      .TILE_SLICE_OCC, .ICN_SRC].contains k.reg) [.znx, .conf, .shadow, .icn])) ∧
  (∀ (s : State), s.Live → s.sys.reflowState = rfDraining → s.sys.inWindow = true → s.sys.znx.sweepTick < s.sys.ticks → s.sys.slices = [] → Completes .rehashSweepStep s (fun t => t.sys.znx.sweepTick = s.sys.ticks ∧
      (s.sys.znx.sweepSets + 16 < 1536 → t.sys.znx.sweepSets = s.sys.znx.sweepSets + 16 ∧ t.sys.reflowState = rfDraining) ∧
      (1536 ≤ s.sys.znx.sweepSets + 16 → t.sys.reflowState = rfIdle) ∧ s.Only t (fun k => k.reg == .ZNX_STATUS) [.znx]))

/-! ## Chapter 04 -/

/-- R126 to R129, R148: the two instructions that wait. -/
def Obligations.SkohalWaits : Prop :=
  (∀ (s : State) (h : Fin 256), s.Live → s.sys.ready h = true → Completes (.tlsync h) s (fun t => (t.sys.hart h).pc = (s.sys.hart h).pc + 4 ∧ (t.sys.hart h).late = [] ∧ (t.sys.hart h).rob = [] ∧
      s.OnlyHart t h (grainReg) sentParts [.pc, .late, .rob, .pred, .sfb] [])) ∧
  (∀ (s : State) (h : Fin 256) (rd : Fin 32) (v : Word), s.Live → s.sys.ready h = true → (s.sys.hart h).priv = 3 ∨ s.sys.cf h F.tlctl_WFS_LOW = 1 → (s.sys.hart h).virt = false ∨ (s.sys.hart h).cf hstatus 21 1 = 0 → Completes (.wfs h rd v) s (fun t => (t.sys.hart h).wait =
      .wfs rd.val (fget v 0 1 = 1) (if fget v 0 1 = 1 ∧ s.sys.inWindow = true then s.sys.ticks else s.sys.ticks + 1) ∧
      (t.sys.hart h).pc = (s.sys.hart h).pc ∧ (t.sys.hart h).rob = [] ∧
      s.OnlyHart t h (fun k => grainReg k || k.reg == .TILE_CORE_PWR) (.pwr :: .icn :: sentParts) [.wait, .rob, .pred, .sfb] [])) ∧
  (∀ (s : State) (h : Fin 256) (rd : Fin 32) (v : Word), s.Live → s.sys.ready h = true → (s.sys.hart h).priv ≠ 3 → s.sys.cf h F.tlctl_WFS_LOW = 0 → exec (.wfs h rd v) s = exec (.trapEntry h 2 0 0) s) ∧
  (∀ (s : State) (h : Fin 256) (rd : Fin 32) (v : Word), s.Live → s.sys.ready h = true → s.sys.cf h F.tlctl_WFS_LOW = 1 → (s.sys.hart h).virt = true → (s.sys.hart h).cf hstatus 21 1 = 1 → exec (.wfs h rd v) s = exec (.trapEntry h 22 0 0) s) ∧
  (∀ (s : State) (h : Fin 256) (rd : Nat) (w : Bool) (tick : Nat), s.Live → (s.sys.hart h).wait = .wfs rd w tick → s.sys.coreState h = psCs0 → s.sys.wfsReached w tick = true ∨ s.sys.wakePending h = true → Completes (.wfsWake h) s (fun t => (t.sys.hart h).wait = .run ∧ (t.sys.hart h).pc = (s.sys.hart h).pc + 4 ∧
      (t.sys.hart h).xGet rd = (if rd = 0 then 0 else
      fput (fput (BitVec.ofNat 64 s.sys.spanNo) 62 1 (b2n s.sys.inWindow)) 63 1 (b2n !(s.sys.wfsReached w tick))) ∧
      (∀ i : Fin 32, i.val ≠ rd → (t.sys.hart h).xGet i = (s.sys.hart h).xGet i) ∧
      s.OnlyHart t h (fun _ => false) [.freeCount] [.wait, .pc, .x, .late] []))

/-- R130 to R133, R202, R203: ways into and out of M-mode, and taking a trap. -/
def Obligations.Monitor : Prop :=
  (∀ (s : State) (h : Fin 256), s.Live → s.sys.ready h = true → s.sys.on F.tlworld_NOSEC h = false → s.sys.on F.tlworld_PATH h = true → (s.sys.hart h).virt = false → (s.sys.hart h).priv ≠ 0 → Completes (.wcall h) s (fun t => (t.sys.hart h).pc = s.sys.rd ⟨.tlwvec, h, 0⟩ ∧ (t.sys.hart h).priv = 3 ∧ (t.sys.hart h).virt = false ∧
      (t.sys.hart h).csrGet 0x341 = (s.sys.hart h).pc ∧ (t.sys.hart h).csrGet 0x342 = 24 ∧ (t.sys.hart h).csrGet 0x343 = 0 ∧
      (t.sys.hart h).csrGet 0x34B = 0 ∧ (t.sys.hart h).csrGet 0x34A = 0 ∧
      (t.sys.hart h).cf mstatus 11 2 = (s.sys.hart h).priv % 4 ∧ (t.sys.hart h).cf mstatus 39 1 = 0 ∧
      (t.sys.hart h).cf mstatus 7 1 = (s.sys.hart h).cf mstatus 3 1 ∧ (t.sys.hart h).cf mstatus 3 1 = 0 ∧
      t.sys.rf F.tlworld_PWORLD h = b2n (s.sys.worldS h) ∧ t.sys.worldS h = true ∧
      s.OnlyHart t h (fun k => grainReg k || (k.reg == .tlworld && k.i == h.val)) sentParts
      [.pc, .mode, .late, .rob, .pred, .sfb] [0x300, 0x341, 0x342, 0x343, 0x34A, 0x34B])) ∧
  (∀ (s : State) (h : Fin 256), s.Live → s.sys.ready h = true → s.sys.on F.tlworld_NOSEC h = true ∨ s.sys.on F.tlworld_PATH h = false → exec (.wcall h) s = exec (.trapEntry h 2 0 0) s ∧ exec (.wret h) s = exec (.trapEntry h 2 0 0) s) ∧
  (∀ (s : State) (h : Fin 256), s.Live → s.sys.ready h = true → s.sys.on F.tlworld_NOSEC h = false → s.sys.on F.tlworld_PATH h = true → (s.sys.hart h).virt = true → exec (.wcall h) s = exec (.trapEntry h 22 0 0) s) ∧
  (∀ (s : State) (h : Fin 256), s.Live → s.sys.ready h = true → (s.sys.hart h).priv = 3 → s.sys.on F.tlworld_NOSEC h = false → s.sys.on F.tlworld_PATH h = true → s.sys.on F.tlworld_SCRUB h = true → Completes (.wret h) s (fun t =>
      (∀ i : Fin 32, (t.sys.hart h).xGet i = (if 10 ≤ i.val ∧ i.val ≤ 15 then (s.sys.hart h).xGet i else 0)) ∧ (t.sys.hart h).v = [] ∧
      (t.sys.hart h).f = (s.sys.hart h).f ∧
      (t.sys.hart h).csrGet 0x008 = 0 ∧ (t.sys.hart h).pc = ((s.sys.hart h).csrGet 0x341 >>> 1) <<< 1 ∧
      (t.sys.hart h).priv = (s.sys.hart h).cf mstatus 11 2 ∧
      ((s.sys.hart h).cf mstatus 11 2 ≠ 3 → t.sys.worldS h = s.sys.on F.tlworld_RWORLD h) ∧
      (t.sys.hart h).cf mstatus 3 1 = (s.sys.hart h).cf mstatus 7 1 ∧
      (t.sys.hart h).cf mstatus 9 2 = (if (s.sys.hart h).cf mstatus 9 2 = 0 then 0 else 3) ∧
      s.OnlyHart t h (fun k => grainReg k || (k.reg == .tlworld && k.i == h.val)) sentParts
      [.x, .v, .pc, .mode, .late, .rob, .pred, .sfb] [0x008, 0x300])) ∧
  (∀ (s : State) (h : Fin 256), s.Live → s.sys.ready h = true → (s.sys.hart h).priv = 3 → Completes (.mret h) s (fun t => (t.sys.hart h).pc = ((s.sys.hart h).csrGet 0x341 >>> 1) <<< 1 ∧
      (t.sys.hart h).priv = (s.sys.hart h).cf mstatus 11 2 ∧
      (t.sys.hart h).virt = ((s.sys.hart h).cf mstatus 39 1 == 1 && (s.sys.hart h).cf mstatus 11 2 != 3) ∧
      ((s.sys.hart h).cf mstatus 11 2 ≠ 3 → t.sys.worldS h = (s.sys.on F.tlworld_RWORLD h && !s.sys.on F.tlworld_NOSEC h)) ∧
      (t.sys.hart h).cf mstatus 3 1 = (s.sys.hart h).cf mstatus 7 1 ∧ (t.sys.hart h).cf mstatus 7 1 = 1 ∧
      (t.sys.hart h).cf mstatus 11 2 = 0 ∧ (t.sys.hart h).cf mstatus 39 1 = 0 ∧
      s.OnlyHart t h (fun k => grainReg k || (k.reg == .tlworld && k.i == h.val)) sentParts
      [.pc, .mode, .late, .rob, .pred, .sfb] [0x300])) ∧
  (∀ (s : State) (h : Fin 256), s.Live → s.sys.ready h = true → (s.sys.hart h).priv ≠ 3 → exec (.mret h) s = exec (.trapEntry h 2 0 0) s) ∧
  (∀ (s : State) (h : Fin 256) (cause : Fin 64) (tval tval2 : Word), s.Live → s.sys.ready h = true → (s.sys.hart h).priv = 3 ∨ fget ((s.sys.hart h).csrGet 0x302) cause.val 1 = 0 → Completes (.trapEntry h cause tval tval2) s (fun t => (t.sys.hart h).priv = 3 ∧ (t.sys.hart h).virt = false ∧
      t.sys.worldS h = !(s.sys.on F.tlworld_NOSEC h) ∧ t.sys.rf F.tlworld_PWORLD h = b2n (s.sys.worldS h) ∧
      (t.sys.hart h).csrGet 0x341 = (s.sys.hart h).pc ∧ (t.sys.hart h).csrGet 0x342 = BitVec.ofNat 64 cause.val ∧
      (t.sys.hart h).csrGet 0x343 = tval ∧ (t.sys.hart h).csrGet 0x34B = tval2 >>> 2 ∧
      (t.sys.hart h).cf mstatus 11 2 = (s.sys.hart h).priv % 4 ∧ (t.sys.hart h).cf mstatus 39 1 = b2n (s.sys.hart h).virt ∧
      (t.sys.hart h).cf mstatus 7 1 = (s.sys.hart h).cf mstatus 3 1 ∧ (t.sys.hart h).cf mstatus 3 1 = 0 ∧
      (t.sys.hart h).pc = ((s.sys.hart h).csrGet 0x305 >>> 2) <<< 2 ∧ (t.sys.hart h).resv = none ∧ (t.sys.hart h).rob = [] ∧
      s.OnlyHart t h (fun k => grainReg k || (k.reg == .tlworld && k.i == h.val)) sentParts
      [.pc, .mode, .late, .rob, .pred, .sfb, .resv, .wait, .fwalk] [0x300, 0x341, 0x342, 0x343, 0x34A, 0x34B])) ∧
  (∀ (s : State) (h : Fin 256) (cause : Fin 64) (tval tval2 : Word), s.Live → s.sys.ready h = true → (s.sys.hart h).priv < 3 → fget ((s.sys.hart h).csrGet 0x302) cause.val 1 = 1 → (s.sys.hart h).virt = false ∨ fget ((s.sys.hart h).csrGet 0x602) cause.val 1 = 0 → Completes (.trapEntry h cause tval tval2) s (fun t => (t.sys.hart h).priv = 1 ∧ (t.sys.hart h).virt = false ∧
      t.sys.worldS h = (s.sys.worldS h && !s.sys.on F.tlworld_NOSEC h) ∧
      (t.sys.hart h).csrGet 0x141 = (s.sys.hart h).pc ∧ (t.sys.hart h).csrGet 0x142 = BitVec.ofNat 64 cause.val ∧
      (t.sys.hart h).csrGet 0x143 = tval ∧ (t.sys.hart h).cf mstatus 8 1 = min 1 (s.sys.hart h).priv ∧
      (t.sys.hart h).cf hstatus 7 1 = b2n (s.sys.hart h).virt ∧
      (t.sys.hart h).cf mstatus 5 1 = (s.sys.hart h).cf mstatus 1 1 ∧ (t.sys.hart h).cf mstatus 1 1 = 0 ∧
      (t.sys.hart h).pc = ((s.sys.hart h).csrGet 0x105 >>> 2) <<< 2 ∧
      s.OnlyHart t h (fun k => grainReg k || (k.reg == .tlworld && k.i == h.val)) sentParts
      [.pc, .mode, .late, .rob, .pred, .sfb, .resv, .wait, .fwalk] [0x300, 0x600, 0x141, 0x142, 0x143, 0x643, 0x64A])) ∧
  (∀ (s : State) (h : Fin 256) (cause : Fin 64) (tval tval2 : Word), s.Live → s.sys.ready h = true → (s.sys.hart h).priv < 3 → (s.sys.hart h).virt = true → fget ((s.sys.hart h).csrGet 0x302) cause.val 1 = 1 → fget ((s.sys.hart h).csrGet 0x602) cause.val 1 = 1 → Completes (.trapEntry h cause tval tval2) s (fun t => (t.sys.hart h).priv = 1 ∧ (t.sys.hart h).virt = true ∧
      (t.sys.hart h).csrGet 0x241 = (s.sys.hart h).pc ∧ (t.sys.hart h).csrGet 0x242 = BitVec.ofNat 64 cause.val ∧
      (t.sys.hart h).csrGet 0x243 = tval ∧ (t.sys.hart h).cf vsstatus 8 1 = (s.sys.hart h).priv % 2 ∧
      (t.sys.hart h).cf vsstatus 5 1 = (s.sys.hart h).cf vsstatus 1 1 ∧ (t.sys.hart h).cf vsstatus 1 1 = 0 ∧
      (t.sys.hart h).pc = ((s.sys.hart h).csrGet 0x205 >>> 2) <<< 2 ∧
      s.OnlyHart t h (fun k => grainReg k || (k.reg == .tlworld && k.i == h.val)) sentParts
      [.pc, .mode, .late, .rob, .pred, .sfb, .resv, .wait, .fwalk] [0x200, 0x241, 0x242, 0x243])) ∧
  (∀ (s : State) (h : Fin 256) (code : Nat), s.Live → s.sys.runs h = true → (s.sys.hart h).rob = [] → s.sys.intrNow h = some code → (s.sys.hart h).priv = 3 ∨ fget ((s.sys.hart h).csrGet 0x303) code 1 = 0 → Completes (.interruptTaken h) s (fun t => (t.sys.hart h).priv = 3 ∧ (t.sys.hart h).virt = false ∧
      (t.sys.hart h).csrGet 0x341 = (s.sys.hart h).pc ∧ (t.sys.hart h).csrGet 0x342 = BitVec.ofNat 64 (code + 2 ^ 63) ∧
      (t.sys.hart h).cf mstatus 7 1 = (s.sys.hart h).cf mstatus 3 1 ∧ (t.sys.hart h).cf mstatus 3 1 = 0 ∧
      (t.sys.hart h).pc = tvecPc ((s.sys.hart h).csrGet 0x305) true code ∧
      s.OnlyHart t h (fun k => grainReg k || (k.reg == .tlworld && k.i == h.val)) sentParts
      [.pc, .mode, .late, .rob, .pred, .sfb, .resv, .wait, .fwalk] [0x300, 0x341, 0x342, 0x343, 0x34A, 0x34B]))

/-- R134 to R148: locked translations and the Skohal CSRs. -/
def Obligations.SkohalCsrs : Prop :=
  (∀ (s : State) (h : Fin 256) (rd : Fin 32) (v w : Word), s.Live → s.sys.ready h = true → s.sys.lockFault h = none → Completes (.tlbLock h rd v w) s (fun t =>
      (fget w 4 2 = 3 → (t.sys.hart h).xGet rd = if rd = 0 then 0 else 5) ∧
      (fget w 4 2 ≠ 3 → s.sys.slotReserved h (fget w 0 4) = true → (t.sys.hart h).xGet rd = if rd = 0 then 0 else 2) ∧
      (fget w 4 2 ≠ 3 → s.sys.slotReserved h (fget w 0 4) = false → bit (s.sys.rf F.tllock_LOCKED h) (fget w 0 4) = true →
      (t.sys.hart h).xGet rd = if rd = 0 then 0 else 1) ∧
      (fget w 4 2 ≠ 3 → s.sys.slotReserved h (fget w 0 4) = false → bit (s.sys.rf F.tllock_LOCKED h) (fget w 0 4) = false →
      s.sys.bare h (s.sys.ctx h (if fget w 4 2 = 0 then .load else if fget w 4 2 = 1 then .store else .fetch) false false) = true →
      (t.sys.hart h).xGet rd = if rd = 0 then 0 else 3) ∧
      ((fget w 4 2 = 3 ∨ s.sys.slotReserved h (fget w 0 4) = true ∨ bit (s.sys.rf F.tllock_LOCKED h) (fget w 0 4) = true) →
      (t.sys.hart h).pc = (s.sys.hart h).pc + 4 ∧ s.OnlyHart t h (fun _ => false) [.freeCount] [.x, .pc, .late] []))) ∧
  (∀ (s : State) (h : Fin 256) (rd : Fin 32) (v w : Word) (e : TlbEnt), s.Live → s.sys.ready h = true → s.sys.lockFault h = none → fget w 4 2 = 0 → s.sys.slotReserved h (fget w 0 4) = false → bit (s.sys.rf F.tllock_LOCKED h) (fget w 0 4) = false → s.sys.bare h (s.sys.ctx h .load false false) = false → s.ctx.lockWalk h v = some e → TlbLock.overlap (s.sys.hart h) false (s.sys.ctx h .load false false).world e.glob (s.sys.ctx h .load false false).asid e.s e.vpn = false → Completes (.tlbLock h rd v w) s (fun t => (t.sys.hart h).xGet rd = 0 ∧
      t.sys.rf F.tllock_LOCKED h = s.sys.rf F.tllock_LOCKED h ||| 2 ^ fget w 0 4 ∧ t.sys.rf F.tllock_FETCH h = s.sys.rf F.tllock_FETCH h ∧
      (t.sys.hart h).slots = (s.sys.hart h).slots ++ [(fget w 0 4, ⟨false, s.sys.worldS h, (s.sys.ctx h .load false false).asid, e.glob, e.s, e.vpn, e.pa, e.flags, e.pbmt⟩)] ∧
      (t.sys.hart h).pc = (s.sys.hart h).pc + 4 ∧ s.KeepsMem t)) ∧
  (∀ (s : State) (h : Fin 256) (rd : Fin 32) (v w : Word), s.Live → s.sys.ready h = true → (s.sys.hart h).virt = false → (s.sys.hart h).priv = 0 ∨ ((s.sys.hart h).priv = 1 ∧ s.sys.cf h F.tlctl_TLBLOCK_S = 0) → exec (.tlbLock h rd v w) s = exec (.trapEntry h 2 0 0) s ∧ exec (.tlbUnlock h rd v) s = exec (.trapEntry h 2 0 0) s) ∧
  (∀ (s : State) (h : Fin 256) (rd : Fin 32) (v : Word), s.Live → s.sys.ready h = true → s.sys.lockFault h = none → Completes (.tlbUnlock h rd v) s (fun t => (t.sys.hart h).pc = (s.sys.hart h).pc + 4 ∧
      (s.sys.slotReserved h (fget v 0 4) = true → (t.sys.hart h).xGet rd = (if rd = 0 then 0 else 2) ∧
      s.OnlyHart t h (fun _ => false) [.freeCount] [.x, .pc, .late] []) ∧
      (s.sys.slotReserved h (fget v 0 4) = false → bit (s.sys.rf F.tllock_LOCKED h) (fget v 0 4) = false →
      (t.sys.hart h).xGet rd = (if rd = 0 then 0 else 6) ∧ s.OnlyHart t h (fun _ => false) [.freeCount] [.x, .pc, .late] []) ∧
      (s.sys.slotReserved h (fget v 0 4) = false → bit (s.sys.rf F.tllock_LOCKED h) (fget v 0 4) = true →
      (t.sys.hart h).xGet rd = 0 ∧ bit (t.sys.rf F.tllock_LOCKED h) (fget v 0 4) = false ∧
      (t.sys.hart h).slots = (s.sys.hart h).slots.filter (fun p => p.1 ≠ fget v 0 4) ∧
      s.OnlyHart t h (fun k => k.reg == .tllock && k.i == h.val) [.freeCount] [.x, .pc, .late, .slots] []))) ∧
  (∀ (s : State) (h : Fin 256), s.Live → s.sys.ready h = true → (s.sys.hart h).priv = 3 → (s.sys.hart h).virt = false → Completes (.unlockAll h) s (fun t => (t.sys.hart h).slots = [] ∧ (t.sys.hart h).pc = (s.sys.hart h).pc + 4 ∧
      (∀ p : Fin 16, (s.sys.hart h).slots.any (fun q => q.1 == p.val) = true → bit (t.sys.rf F.tllock_LOCKED h) p.val = false) ∧
      s.OnlyHart t h (fun k => grainReg k || (k.reg == .tllock && k.i == h.val)) sentParts [.pc, .late, .slots, .rob, .pred, .sfb] [])) ∧
  (∀ (s : State) (h : Fin 256) (csr : BitVec 12) (rd : Fin 32) (v : Word), s.Live → s.sys.ready h = true → (s.sys.hart h).priv = 3 → (s.sys.hart h).virt = false → csr = 0x7C0 ∨ csr = 0x7C3 → Completes (.skohalCsrWrite h csr rd v) s (fun t => (t.sys.hart h).pc = (s.sys.hart h).pc + 4 ∧
      (csr = 0x7C0 → (rd ≠ 0 → (t.sys.hart h).xGet rd = s.sys.skohal h .tlctl) ∧ t.sys.rf F.tlctl_LOCK_M h = fget v 16 16 ∧
      t.sys.rf F.tlctl_MISALIGN_TRAP h = fget v 2 1 ∧ t.sys.rf F.tlctl_TLBLOCK_S h = fget v 1 1 ∧ t.sys.rf F.tlctl_WFS_LOW h = fget v 0 1 ∧
      ((t.sys.hart h).late.any (fun l => l.reg == .tlctl && l.old == s.sys.rd ⟨.tlctl, h, 0⟩ && l.left == 31)) = true) ∧
      (csr = 0x7C3 → (rd ≠ 0 → (t.sys.hart h).xGet rd = s.sys.rd ⟨.tlwvec, h, 0⟩) ∧ t.sys.rd ⟨.tlwvec, h, 0⟩ = (v >>> 2) <<< 2) ∧
      s.OnlyHart t h (fun k => grainReg k || ((k.reg == .tlctl || k.reg == .tlwvec) && k.i == h.val)) sentParts [.pc, .x, .late, .rob, .pred, .sfb] [])) ∧
  (∀ (s : State) (h : Fin 256) (csr : BitVec 12) (rd : Fin 32) (v : Word), s.Live → s.sys.ready h = true → csr = 0xCC0 ∨ csr = 0xCC1 ∨ ((s.sys.hart h).priv ≠ 3 ∧ (csr = 0x7C0 ∨ csr = 0x7C1 ∨ csr = 0x7C2 ∨ csr = 0x7C3)) → exec (.skohalCsrWrite h csr rd v) s = exec (.trapEntry h 2 0 0) s) ∧
  (∀ (s : State) (h : Fin 256), s.Live → s.sys.ready h = true → (s.sys.hart h).priv = 3 → (s.sys.hart h).virt = false → Completes (.predFlush h) s (fun t => (t.sys.hart h).pred = [] ∧ (t.sys.hart h).streams = [] ∧ (t.sys.hart h).hist = ⟨0, 0, []⟩ ∧
      (t.sys.hart h).pc = (s.sys.hart h).pc + 4 ∧
      s.OnlyHart t h (fun k => grainReg k || (k.reg == .tlpred && k.i == h.val)) sentParts [.pc, .late, .rob, .pred, .sfb] []))

/-! ## Chapter 05 -/

/-- R115, R165, R172, R175, R184: memory accesses that find their line in L1D. -/
def Obligations.CoreAccesses : Prop :=
  (∀ (s : State) (i : Ins) (ps : List Piece) (va : Word) (n : Nat) (dest : Dest) (sg nf hyp hx : Bool) (p q : Piece) (a : Nat) (c : CLine), s.Live → s.AtHand i ps → piecesOf (s.sys.masked i.h .load (s.sys.ctx i.h .load hyp hx) va.toNat) n = [p] → p.va % n = 0 → s.sys.translate i.h .load hyp hx p = .ok q → q.pa = some a → q.pbmt = 0 → s.InL1d i.h a n c → Completes (.load i va n dest sg nf hyp hx 0) s (fun t =>
      (t.sys.hart i.h).rob.map (fun u => (u.kind, u.pc, u.dest, u.sign, u.bytes)) = [(.load, i.pc, dest, sg, n)] ∧
      (t.sys.hart i.h).rob.map (fun u => (u.done, u.value, u.poison, u.exc)) = [(true, lineField c.data (a % 64) (8 * n), false, none)] ∧
      s.OnlyHart t i.h (fun _ => false) [] [.rob, .nextId] [])) ∧
  (∀ (s : State) (i : Ins) (ps : List Piece) (va : Word) (n : Nat) (data : BitVec 512) (hyp : Bool) (p q : Piece) (a : Nat) (c : CLine), s.Live → s.AtHand i ps → piecesOf (s.sys.masked i.h .store (s.sys.ctx i.h .store hyp false) va.toNat) n = [p] → p.va % n = 0 → s.sys.translate i.h .store hyp false p = .ok q → q.pa = some a → q.pbmt = 0 → s.InL1d i.h a n c → 2 ≤ c.st → Completes (.store i va n data hyp 0) s (fun t =>
      (t.sys.hart i.h).rob.map (fun u => (u.kind, u.pc, u.spans, u.data, u.bytes, u.done, u.exc)) = [(.store, i.pc, [(a, q.n)], data.toNat, n, true, none)] ∧
      s.OnlyHart t i.h (fun _ => false) [] [.rob, .nextId] [])) ∧
  (∀ (s : State) (i : Ins) (ps : List Piece) (op : AmoOp) (va : Word) (dw : Bool) (rd : Fin 32) (v : Word) (aq rl : Bool) (p q : Piece) (a : Nat) (c : CLine), s.Live → s.AtHand i ps → piecesOf (s.sys.masked i.h .store (s.sys.ctx i.h .store false false) va.toNat) (if dw then 8 else 4) = [p] → p.va % (if dw then 8 else 4) = 0 → s.sys.translate i.h .store false false p = .ok q → q.pa = some a → q.pbmt = 0 → s.InL1d i.h a (if dw then 8 else 4) c → 2 ≤ c.st → Completes (.amo i (.op op) va dw rd v aq rl) s (fun t =>
      (t.sys.hart i.h).rob.map (fun u => (u.kind, u.pc, u.dest, u.done, u.value, u.exc)) =
      [(.amo op, i.pc, .x rd, true, lineField c.data (a % 64) (if dw then 64 else 32), none)] ∧
      (t.sys.hart i.h).l1d = lineMap (s.sys.hart i.h).l1d (a / 64) (fun d => { d with
      st := 3
      data := linePut d.data (a % 64) (if dw then 64 else 32) (amoApply op (if dw then 64 else 32)
      (lineField c.data (a % 64) (if dw then 64 else 32)) (v.toNat % 2 ^ (if dw then 64 else 32))) }) ∧
      s.OnlyHart t i.h (fun _ => false) [] [.rob, .nextId, .l1d] [])) ∧
  (∀ (s : State) (i : Ins) (ps : List Piece) (va : Word) (dw : Bool) (rd : Fin 32) (v : Word) (aq rl : Bool) (p q : Piece) (a : Nat) (c : CLine), s.Live → s.AtHand i ps → piecesOf (s.sys.masked i.h .store (s.sys.ctx i.h .store false false) va.toNat) (if dw then 8 else 4) = [p] → p.va % (if dw then 8 else 4) = 0 → s.sys.translate i.h .load false false p = .ok q → s.sys.translate i.h .store false false p = .ok q → q.pa = some a → q.pbmt = 0 → s.InL1d i.h a (if dw then 8 else 4) c → 2 ≤ c.st → Completes (.amo i .lr va dw rd v aq rl) s (fun t =>
      (t.sys.hart i.h).rob.map (fun u => (u.kind, u.pc, u.dest, u.done, u.value, u.exc)) =
      [(.lr, i.pc, .x rd, true, lineField c.data (a % 64) (if dw then 64 else 32), none)] ∧ (t.sys.hart i.h).resv = some (a / 64) ∧
      s.OnlyHart t i.h (fun _ => false) [] [.rob, .nextId, .l1d, .resv] []) ∧
      ((s.sys.hart i.h).resv = some (a / 64) → Completes (.amo i .sc va dw rd v aq rl) s (fun t =>
      (t.sys.hart i.h).rob.map (fun u => (u.kind, u.pc, u.done, u.value, u.exc)) = [(.sc, i.pc, true, 0, none)] ∧ (t.sys.hart i.h).resv = none ∧
      (t.sys.hart i.h).l1d = lineMap (s.sys.hart i.h).l1d (a / 64) (fun d => { d with
      st := 3
      data := linePut d.data (a % 64) (if dw then 64 else 32) (v.toNat % 2 ^ (if dw then 64 else 32)) }) ∧
      s.OnlyHart t i.h (fun _ => false) [] [.rob, .nextId, .l1d, .resv] [])) ∧
      ((s.sys.hart i.h).resv ≠ some (a / 64) → Completes (.amo i .sc va dw rd v aq rl) s (fun t =>
      (t.sys.hart i.h).rob.map (fun u => (u.kind, u.pc, u.done, u.value, u.exc)) = [(.sc, i.pc, true, 1, none)] ∧ (t.sys.hart i.h).resv = none ∧
      s.OnlyHart t i.h (fun _ => false) [] [.rob, .nextId, .resv] []))) ∧
  (∀ (s : State) (i : Ins) (ps : List Piece) (va : Word) (n : Nat) (dest : Dest) (sg nf hyp hx : Bool) (data : BitVec 512), s.Live → s.AtHand i ps → 1 < n → s.sys.cf i.h F.tlctl_MISALIGN_TRAP = 1 → va.toNat % n ≠ 0 → s.sys.masked i.h .load (s.sys.ctx i.h .load hyp hx) va.toNat = va.toNat → s.sys.masked i.h .store (s.sys.ctx i.h .store hyp false) va.toNat = va.toNat → Completes (.load i va n dest sg nf hyp hx 0) s (fun t => (t.sys.hart i.h).rob.map (fun u => (u.pc, u.done, u.exc)) = [(i.pc, false, some (4, va.toNat, 0))] ∧
      s.OnlyHart t i.h (fun _ => false) [] [.rob, .nextId] []) ∧
      Completes (.store i va n data hyp 0) s (fun t => (t.sys.hart i.h).rob.map (fun u => (u.pc, u.done, u.exc)) = [(i.pc, false, some (6, va.toNat, 0))] ∧
      s.OnlyHart t i.h (fun _ => false) [] [.rob, .nextId] []))

/-- R112, R124, R174, R183, R188, R230 to R233, R254, R269, R270: ordering and maintenance. -/
def Obligations.CoreOrdering : Prop :=
  (∀ (s : State) (i : Ins) (ps : List Piece) (pr su : BitVec 4) (tso : Bool), s.Live → s.AtHand i ps → Completes (.fence i pr su tso) s (fun t => (t.sys.hart i.h).rob.map (fun u => (u.pc, u.done, u.exc)) = [(i.pc, true, none)] ∧
      s.OnlyHart t i.h (fun _ => false) [] [.rob, .nextId] []) ∧
      Completes (.fenceI i) s (fun t => (t.sys.hart i.h).rob.map (fun u => (u.kind, u.pc, u.done, u.exc)) = [(.fenceI, i.pc, true, none)] ∧
      s.OnlyHart t i.h (fun _ => false) [] [.rob, .nextId] [])) ∧
  (∀ (s : State) (i : Ins) (ps : List Piece) (a b : Option Word), s.Live → s.AtHand i ps → Completes (.sfenceVma i a b) s (fun t => (t.sys.hart i.h).rob.map (fun u => (u.kind, u.pc, u.done, u.exc)) =
      [(.tlbFence .sfence (a.map BitVec.toNat) (b.map BitVec.toNat), i.pc, (s.sys.fenceFault i.h false false).isNone, s.sys.fenceFault i.h false false)] ∧
      s.OnlyHart t i.h (fun _ => false) [] [.rob, .nextId] []) ∧
      Completes (.hfenceVvma i a b) s (fun t => (t.sys.hart i.h).rob.map (fun u => (u.kind, u.pc, u.done, u.exc)) =
      [(.tlbFence .vvma (a.map BitVec.toNat) (b.map BitVec.toNat), i.pc, (s.sys.fenceFault i.h true false).isNone, s.sys.fenceFault i.h true false)] ∧
      s.OnlyHart t i.h (fun _ => false) [] [.rob, .nextId] []) ∧
      Completes (.hfenceGvma i a b) s (fun t => (t.sys.hart i.h).rob.map (fun u => (u.kind, u.pc, u.done, u.exc)) =
      [(.tlbFence .gvma (a.map BitVec.toNat) (b.map BitVec.toNat), i.pc, (s.sys.fenceFault i.h true true).isNone, s.sys.fenceFault i.h true true)] ∧
      s.OnlyHart t i.h (fun _ => false) [] [.rob, .nextId] [])) ∧
  (∀ (s : State) (i : Ins) (ps : List Piece) (va : Word) (p q : Piece) (a : Nat), s.Live → s.AtHand i ps → (s.sys.hart i.h).priv = 3 → piecesOf (s.sys.masked i.h .store (s.sys.ctx i.h .store false false) va.toNat) 1 = [p] → s.sys.translate i.h .load false false p = .ok q → q.pa = some a → (regionOf a).isMemory = true → Completes (.cboClean i va) s (fun t => (t.sys.hart i.h).rob.map (fun u => (u.kind, u.pc, u.issued, u.sfb, u.exc)) = [(.cbo .clean, i.pc, true, [a / 64], none)] ∧
      (t.sys.msgs ≠ s.sys.msgs ∨ (t.sys.stop (i.h / 4)).held ≠ (s.sys.stop (i.h / 4)).held) ∧ s.OnlyHart t i.h grainReg sentParts [.rob, .nextId] []) ∧
      Completes (.cboFlush i va) s (fun t => (t.sys.hart i.h).rob.map (fun u => (u.kind, u.pc, u.issued, u.sfb, u.exc)) = [(.cbo .flush, i.pc, true, [a / 64], none)] ∧
      (t.sys.msgs ≠ s.sys.msgs ∨ (t.sys.stop (i.h / 4)).held ≠ (s.sys.stop (i.h / 4)).held) ∧ s.OnlyHart t i.h grainReg sentParts [.rob, .nextId] []) ∧
      Completes (.cboInval i va) s (fun t => (t.sys.hart i.h).rob.map (fun u => (u.kind, u.pc, u.issued, u.sfb, u.exc)) = [(.cbo .inval, i.pc, true, [a / 64], none)] ∧
      (t.sys.msgs ≠ s.sys.msgs ∨ (t.sys.stop (i.h / 4)).held ≠ (s.sys.stop (i.h / 4)).held) ∧ s.OnlyHart t i.h grainReg sentParts [.rob, .nextId] [])) ∧
  (∀ (s : State) (i : Ins) (ps : List Piece) (va : Word) (p q : Piece) (a : Nat), s.Live → s.AtHand i ps → (s.sys.hart i.h).priv = 3 → piecesOf (s.sys.masked i.h .store (s.sys.ctx i.h .store false false) va.toNat) 1 = [p] → s.sys.translate i.h .store false false p = .ok q → q.pa = some a → (regionOf a).isMemory = true → Completes (.cboZero i va) s (fun t => (t.sys.hart i.h).rob.map (fun u => (u.kind, u.pc, u.issued, u.sfb, u.exc)) = [(.cbo .zero, i.pc, true, [a / 64], none)] ∧
      s.OnlyHart t i.h grainReg sentParts [.rob, .nextId] [])) ∧
  (∀ (s : State) (i : Ins) (ps : List Piece) (k : Fin 3) (va : Word), s.Live → s.AtHand i ps → s.sys.bare i.h (s.sys.ctx i.h .load false false) = true → s.sys.bare i.h (s.sys.ctx i.h .fetch false false) = true → Completes (.prefetchHint i k va) s (fun t => (t.sys.hart i.h).rob.map (fun u => (u.kind, u.pc, u.done, u.exc)) = [(.hint k, i.pc, true, none)] ∧
      s.OnlyHart t i.h (fun _ => false) [] [.rob, .nextId] [])) ∧
  (∀ (s : State) (h : Fin 256), s.Live → s.sys.ready h = true → (s.sys.hart h).priv = 3 → (s.sys.hart h).virt = false → (s.sys.cpwr h).req = 0 → Completes (.wfi h) s (fun t => (t.sys.hart h).rob = [] ∧
      (s.sys.wakePending h = true → (t.sys.hart h).wait = .run ∧ (t.sys.hart h).pc = (s.sys.hart h).pc + 4) ∧
      (s.sys.wakePending h = false → (t.sys.hart h).wait = .wfi ∧ (t.sys.hart h).pc = (s.sys.hart h).pc) ∧
      s.OnlyHart t h (fun k => grainReg k || (k.reg == .TILE_CORE_PWR)) (.pwr :: .icn :: sentParts) [.wait, .pc, .late, .rob, .pred, .sfb] [])) ∧
  (∀ (s : State) (h : Fin 256) (which : Fin 3) (v : Word), s.Live → s.sys.ready h = true → (s.sys.hart h).priv = 3 → (s.sys.hart h).virt = false → Completes (.satpWrite h which v) s (fun t => (t.sys.hart h).pc = (s.sys.hart h).pc + 4 ∧
      (t.sys.hart h).csrGet (if which = 0 then 0x180 else if which = 1 then 0x280 else 0x680) =
      (if fget v 60 4 = 0 ∨ fget v 60 4 = 8 ∨ fget v 60 4 = 9 ∨ fget v 60 4 = 10 then (if which = 2 then fput (fput v 58 2 0) 0 2 0 else v)
      else (s.sys.hart h).csrGet (if which = 0 then 0x180 else if which = 1 then 0x280 else 0x680)) ∧
      s.OnlyHart t h grainReg sentParts [.pc, .late, .rob, .pred, .sfb] [if which = 0 then 0x180 else if which = 1 then 0x280 else 0x680]))

/-- R160, R163, R165, R173, R186, R188, R199: what retirement does. -/
def Obligations.CoreRetirement : Prop :=
  (∀ (s : State) (h : Fin 256) (u : Uop), s.Live → s.sys.runs h = true → (s.sys.hart h).rob = [u] → u.pc = (s.sys.hart h).pc → u.gaps = 0 → u.exc = none → u.done = true → u.poison = false → u.kind = .load → u.sfb = [] → u.walkLines = [] → Completes (.instructionRetire h .oldest) s (fun t => (t.sys.hart h).rob = [] ∧ (t.sys.hart h).pc = u.pc + BitVec.ofNat 64 u.len ∧
      (∀ r : Fin 32, (t.sys.hart h).xGet r = if r ≠ 0 ∧ u.dest = .x r then u.result.setWidth 64 else (s.sys.hart h).xGet r) ∧
      s.OnlyHart t h grainReg sentParts [.x, .f, .v, .pc, .rob, .late, .plru, .pred, .loads, .replay, .tlb, .fwalk, .sfb, .side, .l1i, .l1d, .l2] [])) ∧
  (∀ (s : State) (h : Fin 256) (u : Uop) (cause : Fin 64) (tval tval2 : Word), s.Live → s.sys.runs h = true → (s.sys.hart h).rob = [u] → u.pc = (s.sys.hart h).pc → u.gaps = 0 → u.exc = some (cause.val, tval.toNat, tval2.toNat) → cause.val ≠ 19 → (s.sys.hart h).priv = 3 → Completes (.instructionRetire h .oldest) s (fun t => (t.sys.hart h).rob = [] ∧ (t.sys.hart h).csrGet 0x341 = u.pc ∧
      (t.sys.hart h).csrGet 0x342 = BitVec.ofNat 64 cause.val ∧ (t.sys.hart h).csrGet 0x343 = tval ∧
      (t.sys.hart h).pc = ((s.sys.hart h).csrGet 0x305 >>> 2) <<< 2 ∧ (t.sys.hart h).x = (s.sys.hart h).x ∧
      s.OnlyHart t h (fun k => grainReg k || (k.reg == .tlworld && k.i == h.val)) sentParts
      [.pc, .mode, .late, .rob, .pred, .sfb, .resv, .wait, .fwalk] [0x300, 0x341, 0x342, 0x343, 0x34A, 0x34B])) ∧
  (∀ (s : State) (h : Fin 256) (cmp : Bool) (d : Fin 32) (v : BitVec 256) (ps : List Piece) (tgt : Word), s.Live → s.AtHand ⟨h, (s.sys.hart h).pc, cmp, []⟩ ps → (s.sys.hart h).wait = .run → Completes (.instructionRetire h (.plain cmp (.x d) v none false 0)) s (fun t =>
      (t.sys.hart h).pc = (s.sys.hart h).pc + (if cmp then 2 else 4) ∧
      (∀ r : Fin 32, (t.sys.hart h).xGet r = if r ≠ 0 ∧ r = d then v.setWidth 64 else (s.sys.hart h).xGet r) ∧
      s.OnlyHart t h grainReg sentParts [.x, .pc, .late, .plru, .tlb, .fwalk, .sfb, .side, .l1i, .l1d, .l2] []) ∧
      Completes (.instructionRetire h (.plain cmp .none v (some (.jump, true, tgt)) false 0)) s (fun t => (t.sys.hart h).pc = tgt ∧
      s.OnlyHart t h grainReg sentParts [.pc, .late, .plru, .pred, .tlb, .fwalk, .sfb, .side, .l1i, .l1d, .l2] [])) ∧
  (∀ (s : State) (h : Fin 256) (a n data : Nat) (sent : Bool) (c : CLine) (l : List Senior), s.Live → (s.sys.hart h).sq = .store [(a, n)] data 0 sent :: l → s.InL1d h a n c → 2 ≤ c.st → (s.sys.hart h).rob = [] → (s.sys.hart h).sfb = [] → Completes (.storePerform h) s (fun t => (t.sys.hart h).sq = l ∧
      (t.sys.hart h).l1d = lineMap (s.sys.hart h).l1d (a / 64) (fun d => { d with
      st := 3, data := linePut d.data (a % 64) (8 * n) data, poison := d.poison && n ≠ 64 }) ∧
      (t.sys.hart h).l1i = lineOut (s.sys.hart h).l1i (a / 64) ∧ s.OnlyHart t h (fun _ => false) [] [.sq, .l1d, .l1i] [])) ∧
  (∀ (s : State) (h : Fin 256) (l : List Senior), s.Live → (s.sys.hart h).sq = .fenceI :: l → Completes (.storePerform h) s (fun t => (t.sys.hart h).sq = l ∧ (t.sys.hart h).l1i = [] ∧ (t.sys.hart h).rob = [] ∧
      s.OnlyHart t h grainReg sentParts [.sq, .l1i, .rob, .sfb, .pred] [])) ∧
  (∀ (s : State) (h : Fin 256) (u : Uop) (k : BranchKind) (pt : Bool) (ptgt : Word) (taken : Bool) (tgt : Word) (l : List Uop), s.Live → (s.sys.hart h).rob = u :: l → u.kind = .branch k pt ptgt false → u.exc = none → l = [] → Completes (.branchResolve h 0 taken tgt) s (fun t =>
      (t.sys.hart h).rob.map (fun u => (u.kind, u.done, u.wrong)) = [(.branch k taken tgt true, true, pt != taken || (taken && ptgt != tgt))] ∧
      s.OnlyHart t h grainReg sentParts [.rob, .sfb, .pred] [])) ∧
  (∀ (s : State) (h : Fin 256) (line : Line) (b : WcBuf), s.Live → (s.sys.hart h).wcb = [b] → b.line = line.toNat → (s.sys.hart h).rob = [] → Completes (.wcBufferTimeout h line) s (fun t => (t.sys.hart h).wcb = [] ∧
      t.sys = s.sys.wcOut h b ∧ s.OnlyHart t h grainReg sentParts [.wcb] []))

/-- R194, R195, R201, R221, R227, R244, R251, R300: messages and walks of a hart. -/
def Obligations.CoreFills : Prop :=
  (∀ (s : State) (f : Fill) (h : Fin 256) (line : Line), s.Live → s.sys.msgs = [.fill f] → f.h = h.val → f.line = line.toNat → f.kind = .own → f.err = false → f.got < 3 → s.sys.alive h = true → (s.sys.hart h).rob = [] → Completes (.fillArrive h line) s (fun t => t.sys.msgs = [.fill { f with got := f.got + 1 }] ∧ s.Only t (fun _ => false) [.msgs])) ∧
  (∀ (s : State) (f : Fill) (h : Fin 256) (line : Line), s.Live → s.sys.msgs = [.fill f] → f.h = h.val → f.line = line.toNat → f.kind = .own → f.err = false → f.got = 3 → s.sys.alive h = true → s.sys.l1dOn h = true → (s.sys.hart h).rob = [] → (s.sys.hart h).own = [f.line] → Completes (.fillArrive h line) s (fun t => (lineIn (t.sys.hart h).l1d f.line).map (fun c => (c.st, c.data, c.owner, c.poison)) = some (3, f.data, f.owner, f.poison) ∧
      (t.sys.hart h).own = [] ∧ s.OnlyHart t h grainReg sentParts [.l1d, .l2, .own, .side, .plru] [])) ∧
  (∀ (s : State) (h : Fin 256) (line : Line) (tag : Nat) (c : CLine), s.Live → s.sys.msgs = [.grant h.val line.toNat tag false] → s.sys.alive h = true → (s.sys.hart h).rob = [] → lineIn (s.sys.hart h).l1d line.toNat = some c → (s.sys.hart h).side = [] → Completes (.completion (.core h) line) s (fun t => lineIn (t.sys.hart h).l1d line.toNat = some { c with st := 3 } ∧ t.sys.msgs = [] ∧
      s.OnlyHart t h (fun _ => false) [.msgs] [.l1d, .l2, .own] [])) ∧
  (∀ (s : State) (h : Fin 256) (line : Line) (e : SfbEnt), s.Live → s.sys.msgs = [.bindOk h.val line.toNat] → (s.sys.hart h).rob = [] → (s.sys.hart h).sfb = [e] → e.line = line.toNat → e.bindSent = true → e.st = .spec → e.dead = false → e.instr = false → Completes (.bindOk h line) s (fun t => t.sys.msgs = [] ∧ (t.sys.hart h).sfb = [{ e with st := .bound, grant := 1 }] ∧
      s.OnlyHart t h (fun _ => false) [.msgs] [.sfb] [])) ∧
  (∀ (s : State) (h : Fin 256) (va : Word), s.Live → s.sys.runs h = true → s.sys.bare h (s.sys.ctx h .fetch false false) = false → (s.sys.hart h).fwalk = [] → (s.ctx.walk h .fetch (s.sys.ctx h .fetch false false) va.toNat).wait = false → Completes (.pageWalk h (.fetch va)) s (fun t =>
      (t.sys.hart h).fwalk = [(va.toNat / 4096, (s.ctx.walk h .fetch (s.sys.ctx h .fetch false false) va.toNat).acc)] ∧ s.KeepsMem t)) ∧
  (∀ (s : State) (h : Fin 256) (va : Word) (w : WalkRes) (u : Nat × Nat × Nat) (l : List (Nat × Nat × Nat)) (c : CLine), s.Live → (s.sys.hart h).fwalk = [(va.toNat / 4096, w)] → w.upd = u :: l → (s.sys.hart h).pc.toNat / 4096 = va.toNat / 4096 → (s.sys.hart h).rob = [] → (s.sys.hart h).sq = [] → s.sys.l1dOn h = true → lineIn (s.sys.hart h).l1d (u.1 / 64) = some c → 2 ≤ c.st → lineField c.data (u.1 % 64) 64 = u.2.1 → Completes (.adUpdate h (.fetch va)) s (fun t => (t.sys.hart h).fwalk = [(va.toNat / 4096, { w with upd := l })] ∧
      (t.sys.hart h).l1d = lineMap (s.sys.hart h).l1d (u.1 / 64) (fun d => { d with st := 3, data := linePut d.data (u.1 % 64) 64 (u.2.1 ||| u.2.2) }) ∧
      s.OnlyHart t h (fun _ => false) [] [.fwalk, .l1d] []))

/-- R204, R205: errors of a core's arrays. -/
def Obligations.CoreErrors : Prop :=
  (∀ (s : State) (h : Fin 256) (line : Line) (syn : Byte) (c : CLine), s.Live → lineIn (s.sys.hart h).l1d line.toNat = some c → Completes (.coreArrayError h (.data false line true syn)) s (fun t => t.sys.fcr.events = s.sys.fcr.events ++ [⟨srcTile (h / 4) 0, h % 4⟩] ∧
      s.Only t (fun k => k == ⟨.TILE_CORE_MCLOG, h / 4, h % 4⟩) [.fcr]) ∧
      (c.st = 3 → Completes (.coreArrayError h (.data false line false syn)) s (fun t =>
      (t.sys.hart h).l1d = lineMap (s.sys.hart h).l1d c.line (fun d => { d with poison := true }) ∧
      s.OnlyHart t h (fun k => k == ⟨.TILE_CORE_MCLOG, h / 4, h % 4⟩) [.fcr] [.l1d] [])) ∧
      (c.st ≠ 3 → Completes (.coreArrayError h (.data false line false syn)) s (fun t =>
      (t.sys.hart h).l1d = lineOut (s.sys.hart h).l1d c.line ∧ t.sys.fcr.events = s.sys.fcr.events ++ [⟨srcTile (h / 4) 0, h % 4⟩] ∧
      s.OnlyHart t h (fun k => k == ⟨.TILE_CORE_MCLOG, h / 4, h % 4⟩) [.fcr] [.l1d] []))) ∧
  (∀ (s : State) (h : Fin 256) (struct : Byte) (e : BitVec 16) (syn : Byte), s.Live → s.sys.coreState h = psCs0 → (s.sys.hart h).sq = [] → Completes (.coreArrayError h (.lost struct e syn [])) s (fun t => t.sys.coreState h = psOffline ∧
      t.sys.rf F.TILE_CORE_TEST_STATE (h / 4) (h % 4) = 1 ∧ (t.sys.hart h).x = [] ∧ (t.sys.hart h).rob = [] ∧ (t.sys.hart h).l1d = (s.sys.hart h).l1d ∧
      (t.sys.hart h).l2 = (s.sys.hart h).l2 ∧ (t.sys.hart h).lost = some ⟨0, s.sys.ticks, s.sys.hartKennel h⟩ ∧
      t.sys.fcr.events = s.sys.fcr.events ++ [⟨srcTile (h / 4) 2, h % 4⟩] ∧
      (∀ g : Fin 256, g ≠ h → t.sys.hart g = s.sys.hart g) ∧
      s.Only t (fun k => k == ⟨.TILE_CORE_MCLOG, h / 4, h % 4⟩ || k == ⟨.TILE_CORE_PWR, h / 4, h % 4⟩ || k == ⟨.TILE_CORE_TEST, h / 4, h % 4⟩) [.fcr, .harts])) ∧
  (∀ (s : State) (h : Fin 256) (bad : List Line) (st : LostSt), s.Live → (s.sys.hart h).lost = some st → s.sys.inWindow = true → st.last < s.sys.ticks → st.pos < 33792 → (s.sys.hart h).l1d = [] → (s.sys.hart h).l2 = [] → Completes (.lostCoreFlushStep h bad) s (fun t => (t.sys.hart h).lost = some { st with pos := st.pos + 512, last := s.sys.ticks } ∧
      s.OnlyHart t h (fun _ => false) [] [.lost] [])) ∧
  (∀ (s : State) (h : Fin 256) (st : LostSt), s.Live → (s.sys.hart h).lost = some st → 33792 ≤ st.pos → st.last < s.sys.ticks → 15 ≤ st.kennel → Completes (.lostCorePowerOff h) s (fun t => (t.sys.hart h).lost = none ∧ t.sys.rf F.TILE_CORE_TEST_STATE (h / 4) (h % 4) = 2 ∧
      t.sys.rf F.TILE_CORE_TEST_OFFLINE (h / 4) (h % 4) = 0 ∧ (∀ g : Fin 256, g ≠ h → t.sys.hart g = s.sys.hart g)))

/-! ## Chapter 07 -/

/-- R262 to R267: the states of a core's cache levels. -/
def Obligations.CacheLevels : Prop :=
  (∀ (s : State) (req : Requester) (h : Fin 256) (lv : Fin 3) (v : Word), s.Takes (.cacheInv req h lv v) → s.sys.lvState h lv = lvOff → Completes (.cacheInv req h lv v) s (fun t => t.sys.lvState h lv = lvInvalidating ∧ fget (t.sys.cacheCtl h) (lvBase lv + 1) 1 = 1 ∧
      s.OnlyHart t h (fun k => k == ⟨.TILE_CACHE_CTL, h / 4, h % 4⟩ || k.reg == .SYS_CS_STATUS) accessParts [.l1i, .seen] [])) ∧
  (∀ (s : State) (h : Fin 256) (lv : Fin 3), s.Live → s.sys.lvState h lv = lvInvalidating → Completes (.cacheInvDone h lv) s (fun t => t.sys.lvState h lv = lvOff ∧ fget (t.sys.cacheCtl h) (lvBase lv + 1) 1 = 0 ∧
      fget (t.sys.cacheCtl h) (lvBase lv + 3) 1 = 1 ∧ (lv = 0 → (t.sys.hart h).l1i = []) ∧ (lv = 1 → (t.sys.hart h).l1d = []) ∧
      (lv = 2 → (t.sys.hart h).l2 = [] ∧ (t.sys.hart h).side = []) ∧
      s.OnlyHart t h (fun k => k == ⟨.TILE_CACHE_CTL, h / 4, h % 4⟩) []
      (if lv = 0 then [.l1i] else if lv = 1 then [.l1d] else [.l2, .side]) [])) ∧
  (∀ (s : State) (req : Requester) (n : Fin 64) (c : Fin 4), s.Takes (.invDoneObserve req n (some c)) → Completes (.invDoneObserve req n (some c)) s (fun t => (∀ lv : Fin 3, fget (s.sys.cacheCtl (4 * n + c)) (lvBase lv + 3) 1 = 1 →
      t.sys.lvSeen (4 * n + c) lv = true) ∧ t.sys.cacheCtl (4 * n + c) = s.sys.cacheCtl (4 * n + c) ∧
      s.OnlyHart t (4 * n + c) (fun k => k.reg == .SYS_CS_STATUS) accessParts [.seen] [])) ∧
  (∀ (s : State) (req : Requester) (n : Fin 64), s.Takes (.invDoneObserve req n none) → Completes (.invDoneObserve req n none) s (fun t => (s.sys.on F.TILE_SLICE_CTL_INV_DONE n = true → (t.sys.slice n).observed = true) ∧
      s.OnlySlice t n (fun k => k.reg == .SYS_CS_STATUS) accessParts)) ∧
  (∀ (s : State) (req : Requester) (h : Fin 256) (lv : Fin 3) (v : Word), s.Takes (.cacheEnable req h lv v) → s.sys.lvState h lv = lvOff → fget v (lvBase lv + 1) 1 = 0 → Completes (.cacheEnable req h lv v) s (fun t =>
      (fget (s.sys.cacheCtl h) (lvBase lv + 3) 1 = 1 → s.sys.lvSeen h lv = true →
      t.sys.lvState h lv = lvOn ∧ fget (t.sys.cacheCtl h) (lvBase lv) 1 = 1) ∧
      (fget (s.sys.cacheCtl h) (lvBase lv + 3) 1 = 0 ∨ s.sys.lvSeen h lv = false →
      t.sys.lvState h lv = lvOff ∧ fget (t.sys.cacheCtl h) (lvBase lv + 7) 1 = 1) ∧
      s.OnlyHart t h (fun k => k == ⟨.TILE_CACHE_CTL, h / 4, h % 4⟩ || k.reg == .SYS_CS_STATUS) accessParts [.l1i, .seen] [])) ∧
  (∀ (s : State) (req : Requester) (h : Fin 256) (lv : Fin 3) (v : Word), s.Takes (.cacheDisable req h lv v) → s.sys.lvState h lv = lvOn → Completes (.cacheDisable req h lv v) s (fun t => fget (t.sys.cacheCtl h) (lvBase lv) 1 = 0 ∧ fget (t.sys.cacheCtl h) (lvBase lv + 3) 1 = 0 ∧
      t.sys.lvSeen h lv = false ∧ t.sys.lvState h lv = (if lv = 0 then lvOff else lvDraining) ∧ (lv = 0 → (t.sys.hart h).l1i = []) ∧
      s.OnlyHart t h (fun k => k == ⟨.TILE_CACHE_CTL, h / 4, h % 4⟩ || k.reg == .SYS_CS_STATUS) accessParts [.l1i, .seen] [])) ∧
  (∀ (s : State) (req : Requester) (h : Fin 256) (lv : Fin 2) (v : Word), s.Takes (.cacheFlush req h lv v) → s.sys.lvState h (lv + 1) = lvOn → fget v (lvBase (lv + 1)) 1 = 1 → Completes (.cacheFlush req h lv v) s (fun t => fget (t.sys.cacheCtl h) (lvBase (lv + 1) + 2) 1 = 1 ∧ t.sys.lvState h (lv + 1) = lvOn ∧
      s.OnlyHart t h (fun k => k == ⟨.TILE_CACHE_CTL, h / 4, h % 4⟩ || k.reg == .SYS_CS_STATUS) accessParts [.l1i, .seen] [])) ∧
  (∀ (s : State) (h : Fin 256) (c d : CLine), s.Live → s.sys.lvState h 1 = lvDraining ∨ fget (s.sys.cacheCtl h) 10 1 = 1 → (s.sys.hart h).l1d = [c] → c.st = 3 → lineIn (s.sys.hart h).l2 c.line = some d → Completes (.cacheWalkDone h 1) s (fun t => (t.sys.hart h).l1d = [] ∧
      (lineIn (t.sys.hart h).l2 c.line).map (fun e => (e.st, e.data, e.poison)) = some (3, c.data, c.poison) ∧ fget (t.sys.cacheCtl h) 10 1 = 0 ∧
      t.sys.lvState h 1 = (if s.sys.lvState h 1 = lvDraining then lvOff else s.sys.lvState h 1) ∧
      s.OnlyHart t h (fun k => k == ⟨.TILE_CACHE_CTL, h / 4, h % 4⟩ || grainReg k) sentParts [.l1d, .l2, .rob, .sfb, .pred] []))

/-- R263, R264, R268, R276 to R282: the states of a slice. -/
def Obligations.SliceControl : Prop :=
  (∀ (s : State) (req : Requester) (n : Fin 64) (v : Word), s.Takes (.sliceEnable req n v) → fget v 1 1 = 0 → fget v 4 2 = 0 → Completes (.sliceEnable req n v) s (fun t =>
      (s.sys.slState n = slReady → s.sys.on F.TILE_SLICE_CTL_INV_DONE n = true → (s.sys.slice n).observed = true →
      t.sys.slState n = slOn ∧ t.sys.rf F.TILE_SLICE_CTL_EN n = 1 ∧ (t.sys.slice n).session = ((s.sys.slice n).session + 1) % 256) ∧
      (s.sys.slState n ≠ slReady → s.sys.slState n ≠ slOn → t.sys.rf F.TILE_SLICE_CTL_EN_REFUSED n = 1 ∧ t.sys.slState n = s.sys.slState n) ∧
      s.OnlySlice t n (fun k => sliceReg n k || k.reg == .SYS_CS_STATUS) accessParts)) ∧
  (∀ (s : State) (req : Requester) (n : Fin 64) (v : Word), s.Takes (.sliceDisable req n v) → s.sys.slState n = slOn → fget v 1 1 = 0 → fget v 4 2 = 0 → Completes (.sliceDisable req n v) s (fun t => t.sys.slState n = slDisabling ∧ t.sys.rf F.TILE_SLICE_CTL_EN n = 0 ∧
      t.sys.rf F.TILE_SLICE_CTL_INV_DONE n = 0 ∧ (t.sys.slice n).sectors = (s.sys.slice n).sectors ∧
      s.OnlySlice t n (fun k => sliceReg n k || k.reg == .SYS_CS_STATUS) accessParts)) ∧
  (∀ (s : State) (n : Fin 64), s.Live → s.sys.slState n = slClearing ∨ s.sys.slState n = slClearingData ∨ s.sys.slState n = slClearingT → Completes (.sliceClearDone n) s (fun t => t.sys.slState n = (if s.sys.slState n = slClearingT then slTested else slReady) ∧
      t.sys.rf F.TILE_SLICE_CTL_INV n = 0 ∧ t.sys.rf F.TILE_SLICE_CTL_INV_DONE n = 1 ∧ (t.sys.slice n).sectors = [] ∧
      (t.sys.slice n).sf = (if s.sys.slState n = slClearingData then (s.sys.slice n).sf else []) ∧
      (s.sys.slState n = slClearingT → t.sys.rf F.TILE_SLICE_STATUS_READMIT_OK n = 1) ∧ s.OnlySlice t n (sliceReg n) [])) ∧
  (∀ (s : State) (req : Requester) (n : Fin 64) (v : Word), s.Takes (.sliceRetire req n v) → s.sys.slState n = slReady ∨ s.sys.slState n = slOn ∨ s.sys.slState n = slDisabling → fget v 1 1 = 0 → fget v 5 1 = 0 → Completes (.sliceRetire req n v) s (fun t => t.sys.slState n = slHold ∧ t.sys.rf F.TILE_SLICE_STATUS_CAUSE n = 2 ∧
      t.sys.rf F.TILE_SLICE_CTL_RETIRE n = 1 ∧ t.sys.rf F.TILE_SLICE_STATUS_READMIT_OK n = 0 ∧ (t.sys.slice n).since = s.sys.ticks ∧
      t.sys.msgs = s.sys.msgs ++ (List.range 80).map (fun i => Msg.holdNotice n i) ∧
      s.OnlySlice t n (fun k => sliceReg n k || k.reg == .SYS_CS_STATUS) (.msgs :: accessParts))) ∧
  (∀ (s : State) (n : Fin 64), s.Live → s.sys.slState n = slHold → (s.sys.slice n).since < s.sys.ticks → s.sys.enabledKennels.all (fun k => !(s.sys.conf.liveMask k).contains n.val || !((s.sys.conf.retire n).liveMask k).isEmpty) = true → Completes (.sliceRehash n) s (fun t => t.sys.slState n = slDraining ∧ t.sys.conf = s.sys.conf.retire n ∧
      t.sys.rf F.TILE_SLICE_STATUS_DRAIN_SETS n = 1536 ∧ t.sys.rf F.TILE_SLICE_STATUS_DRAIN_SF n = 196608 ∧
      (t.sys.slice n).sectors = (s.sys.slice n).sectors ∧ (t.sys.slice n).session = ((s.sys.slice n).session + 1) % 256 ∧
      (t.sys.slice n).since = s.sys.ticks ∧
      s.OnlySlice t n (fun k => sliceReg n k || k.reg == .TILE_SLICE_OCC || grainReg k || k.reg == .RTV_CH_STATUS) (.conf :: sentParts))) ∧
  (∀ (s : State) (n : Fin 64), s.Live → s.sys.slState n = slDraining → s.sys.inWindow = true → (s.sys.slice n).since < s.sys.ticks → 16 ≤ s.sys.rf F.TILE_SLICE_STATUS_DRAIN_SETS n → 2048 ≤ s.sys.rf F.TILE_SLICE_STATUS_DRAIN_SF n → (s.sys.slice n).sectors = [] → (s.sys.slice n).sf = [] → Completes (.sliceDrainStep n) s (fun t =>
      t.sys.rf F.TILE_SLICE_STATUS_DRAIN_SETS n = s.sys.rf F.TILE_SLICE_STATUS_DRAIN_SETS n - 16 ∧
      t.sys.rf F.TILE_SLICE_STATUS_DRAIN_SF n = s.sys.rf F.TILE_SLICE_STATUS_DRAIN_SF n - 2048 ∧ (t.sys.slice n).since = s.sys.ticks ∧
      t.sys.slState n = slDraining ∧ s.OnlySlice t n (sliceReg n) [])) ∧
  (∀ (s : State) (n : Fin 64), s.Live → s.sys.slState n = slDraining → s.sys.rf F.TILE_SLICE_STATUS_DRAIN_SETS n = 0 → s.sys.rf F.TILE_SLICE_STATUS_DRAIN_SF n = 0 → (s.sys.slice n).since < s.sys.ticks → Completes (.slicePowerOff n) s (fun t => t.sys.slState n = slRetired ∧ t.sys.rf F.TILE_SLICE_CTL_RETIRE n = 0 ∧
      t.sys.rf F.TILE_SLICE_CTL_EN n = 0 ∧ t.sys.rf F.TILE_SLICE_CTL_INV_DONE n = 0 ∧
      t.sys.fcr.events = s.sys.fcr.events ++ [⟨srcTile n 6, 0⟩] ∧ s.Only t (sliceReg n) [.fcr])) ∧
  (∀ (s : State) (req : Requester) (n : Fin 64) (v : Word), s.Takes (.sliceBist req n v) → s.sys.slState n = slRetired → Completes (.sliceBist req n v) s (fun t => t.sys.slState n = slTesting ∧ t.sys.rf F.TILE_SLICE_CTL_BIST n = 1 ∧
      s.OnlySlice t n (fun k => sliceReg n k || k.reg == .SYS_CS_STATUS) accessParts)) ∧
  (∀ (s : State) (n : Fin 64) (r : BitVec 6) (bad : Bool), s.Live → s.sys.slState n = slTesting → Completes (.sliceBistDone n r bad) s (fun t => t.sys.rf F.TILE_SLICE_CTL_BIST n = 0 ∧ t.sys.rf F.TILE_SLICE_STATUS_READMIT_OK n = 0 ∧
      (bad = true ∨ 32 < s.sys.rf F.TILE_SLICE_STATUS_SPARES_USED n + r.toNat → t.sys.slState n = slRetired ∧
      t.sys.rf F.TILE_SLICE_STATUS_BIST_RESULT n = 3) ∧
      (bad = false → s.sys.rf F.TILE_SLICE_STATUS_SPARES_USED n + r.toNat ≤ 32 → t.sys.slState n = slTested ∧
      t.sys.rf F.TILE_SLICE_STATUS_BIST_RESULT n = (if r = 0 then 1 else 2) ∧
      t.sys.rf F.TILE_SLICE_STATUS_SPARES_USED n = s.sys.rf F.TILE_SLICE_STATUS_SPARES_USED n + r.toNat ∧ (t.sys.slice n).sectors = []) ∧
      s.OnlySlice t n (sliceReg n) [])) ∧
  (∀ (s : State) (n : Fin 64), s.Live → s.sys.slState n = slDisabling → (s.sys.slice n).sectors = [] → Completes (.sliceDisablingDone n) s (fun t => t.sys.slState n = slReady ∧ s.OnlySlice t n (sliceReg n) [])) ∧
  (∀ (s : State) (n : Fin 64) (line : Line) (e : Sector), s.Live → s.sys.sector n line.toNat = some e → Completes (.llcArrayError n (.data line)) s (fun t =>
      (bit e.d (line.toNat % 4) = true → (t.sys.sector n line.toNat).map (fun f => (bit f.p (line.toNat % 4), bit f.d (line.toNat % 4))) = some (true, true) ∧
      t.sys.fcr.events = s.sys.fcr.events ++ [⟨srcTile n 5, 0⟩]) ∧
      (bit e.d (line.toNat % 4) = false → bit e.v (line.toNat % 4) = true →
      (t.sys.sector n line.toNat).all (fun f => !bit f.v (line.toNat % 4)) = true ∧ t.sys.fcr.events = s.sys.fcr.events ++ [⟨srcTile n 4, 0⟩]) ∧
      s.OnlySlice t n (fun k => (k.reg == .TILE_SLICE_ERRLOG || k.reg == .TILE_SLICE_ERRADDR || k.reg == .TILE_SLICE_OCC) && k.i == n.val) [.fcr]))

/-! ## Chapter 08 -/

/-- R193, R255, R292, R300, R305, R310, R311: the reads of R299 as the home slice serves them. -/
def Obligations.HomeReads : Prop :=
  (∀ (s : State) (n : Fin 64) (h : Fin 256) (line : Line) (first : Fin 4) (b : Nat) (d : BitVec 512) (p : Bool), s.Serves (.rdShared n (.core h) line first) n b → s.sys.sfGet n line.toNat = none → s.sys.llcLine n line.toNat = some (d, p) → Completes (.rdShared n (.core h) line first) s (fun t =>
      t.sys.msgs = (s.asked (.rdShared n (.core h) line first)).2.sys.msgs ++ [.fill ⟨h, line.toNat, .shared, d, p, b / 8, 2,
      ⟨n, (s.sys.slice n).session, (s.sys.slice n).epoch⟩, false, (s.asked (.rdShared n (.core h) line first)).1.first, 0, false, 0⟩] ∧
      t.sys.sfGet n line.toNat = some (sfEx line.toNat (nget b 3 4) (s.sys.foreign line.toNat) (.core h)) ∧ (t.sys.slice n).txns = [] ∧
      (t.sys.slice n).epoch = ((s.sys.slice n).epoch + 1) % 2 ^ 48 ∧ (t.sys.slice n).sectors = (s.sys.slice n).sectors ∧
      s.OnlySlice t n (serveReg n) serveParts)) ∧
  (∀ (s : State) (n : Fin 64) (h : Fin 256) (line : Line) (first : Fin 4) (b : Nat) (d : BitVec 512) (p : Bool), s.Serves (.rdOwn n (.core h) line first) n b → s.sys.sfGet n line.toNat = none → s.sys.llcLine n line.toNat = some (d, p) → Completes (.rdOwn n (.core h) line first) s (fun t =>
      t.sys.msgs = (s.asked (.rdOwn n (.core h) line first)).2.sys.msgs ++ [.fill ⟨h, line.toNat, .own, d, p, b / 8, 3,
      ⟨n, (s.sys.slice n).session, (s.sys.slice n).epoch⟩, false, (s.asked (.rdOwn n (.core h) line first)).1.first, 0, false, 0⟩] ∧
      t.sys.sfGet n line.toNat = some (sfEx line.toNat (nget b 3 4) (s.sys.foreign line.toNat) (.core h)) ∧ (t.sys.slice n).txns = [] ∧
      (t.sys.slice n).epoch = ((s.sys.slice n).epoch + 1) % 2 ^ 48 ∧ Bank.getD (t.sys.slice n).buckets (bucketOf line.toNat) 0 = (t.sys.slice n).epoch ∧
      (t.sys.slice n).resv = (s.sys.slice n).resv.filter (fun q => q.2 ≠ line.toNat) ∧ s.OnlySlice t n (serveReg n) serveParts)) ∧
  (∀ (s : State) (n : Fin 64) (h : Fin 256) (line : Line) (first : Fin 4) (b : Nat) (d : BitVec 512) (p : Bool), s.Serves (.rdSpec n (.core h) line first) n b → (s.sys.sfGet n line.toNat).all (fun e => e.st == 2) = true → s.sys.llcLine n line.toNat = some (d, p) → Completes (.rdSpec n (.core h) line first) s (fun t =>
      t.sys.msgs = (s.asked (.rdSpec n (.core h) line first)).2.sys.msgs ++ [.fill ⟨h, line.toNat, .spec, d, p, b / 8, 0,
      ⟨n, (s.sys.slice n).session, (s.sys.slice n).epoch⟩, false, (s.asked (.rdSpec n (.core h) line first)).1.first, 0, false, 0⟩] ∧
      (t.sys.slice n).sf = (s.sys.slice n).sf ∧ (t.sys.slice n).epoch = (s.sys.slice n).epoch ∧ (t.sys.slice n).buckets = (s.sys.slice n).buckets ∧
      (t.sys.slice n).oc = (s.sys.slice n).oc ∧ (t.sys.slice n).txns = [] ∧ s.OnlySlice t n (serveReg n) serveParts)) ∧
  (∀ (s : State) (n : Fin 64) (h : Fin 256) (line : Line) (b : Nat) (d : BitVec 512) (p : Bool), s.Serves (.pfRd n (.core h) line) n b → s.sys.sfGet n line.toNat = none → s.sys.llcLine n line.toNat = some (d, p) → Completes (.pfRd n (.core h) line) s (fun t =>
      t.sys.msgs = (s.asked (.pfRd n (.core h) line)).2.sys.msgs ++ [.fill ⟨h, line.toNat, .pf, d, p, b / 8, 2,
      ⟨n, (s.sys.slice n).session, (s.sys.slice n).epoch⟩, false, (s.asked (.pfRd n (.core h) line)).1.first, 0, false, 0⟩] ∧
      t.sys.sfGet n line.toNat = some (sfEx line.toNat (nget b 3 4) (s.sys.foreign line.toNat) (.core h)) ∧
      (t.sys.slice n).sectors = (s.sys.slice n).sectors ∧ s.OnlySlice t n (serveReg n) serveParts)) ∧
  (∀ (s : State) (n : Fin 64) (h : Fin 256) (line : Line) (b : Nat) (d : BitVec 512) (p : Bool), s.Serves (.pfWr n (.core h) line) n b → s.sys.sfGet n line.toNat = none → s.sys.llcLine n line.toNat = some (d, p) → Completes (.pfWr n (.core h) line) s (fun t =>
      t.sys.msgs = (s.asked (.pfWr n (.core h) line)).2.sys.msgs ++ [.fill ⟨h, line.toNat, .pf, d, p, b / 8, 2,
      ⟨n, (s.sys.slice n).session, (s.sys.slice n).epoch⟩, false, (s.asked (.pfWr n (.core h) line)).1.first, 0, false, 0⟩] ∧
      t.sys.sfGet n line.toNat = some (sfEx line.toNat (nget b 3 4) (s.sys.foreign line.toNat) (.core h)) ∧
      (t.sys.slice n).sectors = (s.sys.slice n).sectors ∧ s.OnlySlice t n (serveReg n) serveParts)) ∧
  (∀ (s : State) (n : Fin 64) (h : Fin 256) (line : Line) (b : Nat) (e : SfEnt), s.Serves (.pfRd n (.core h) line) n b → s.HeldBy n (s.asked (.pfRd n (.core h) line)).1 e → Completes (.pfRd n (.core h) line) s (fun t =>
      t.sys.msgs = (s.asked (.pfRd n (.core h) line)).2.sys.msgs ++ [.fill ⟨h, line.toNat, .pf, 0, false, 0, 0, ⟨0, 0, 0⟩, false, 0, 0, true, 0⟩] ∧
      (t.sys.slice n).sf = (s.sys.slice n).sf ∧ s.OnlySlice t n (serveReg n) serveParts)) ∧
  (∀ (s : State) (n : Fin 64) (w : ReqSrc) (line : Line) (b : Nat) (d : BitVec 512) (p : Bool), s.Serves (.ncRd n w line) n b → (s.sys.sfGet n line.toNat).all (fun e => e.st == 2) = true → s.sys.llcLine n line.toNat = some (d, p) → Completes (.ncRd n w line) s (fun t =>
      t.sys.msgs = (s.asked (.ncRd n w line)).2.sys.msgs ++ [match w with
      | .core h => .fill ⟨h, line.toNat, .nc, d, p, b / 8, 0, ⟨n, (s.sys.slice n).session, (s.sys.slice n).epoch⟩, false,
      (s.asked (.ncRd n w line)).1.first, 0, false, 0⟩
      | _ => .reply (s.asked (.ncRd n w line)).1.who line.toNat d p false] ∧
      (t.sys.slice n).sf = (s.sys.slice n).sf ∧ (t.sys.slice n).epoch = (s.sys.slice n).epoch ∧ s.OnlySlice t n (serveReg n) serveParts)) ∧
  (∀ (s : State) (n : Fin 64) (w : ReqSrc) (line : Line) (b : Nat) (d : BitVec 512) (p : Bool), s.Serves (.devRd n w line) n b → (s.sys.sfGet n line.toNat).all (fun e => e.st == 2) = true → s.sys.llcLine n line.toNat = some (d, p) → Completes (.devRd n w line) s (fun t =>
      t.sys.msgs = (s.asked (.devRd n w line)).2.sys.msgs ++ [.reply (s.asked (.devRd n w line)).1.who line.toNat d p false] ∧
      (t.sys.slice n).sf = (s.sys.slice n).sf ∧ (t.sys.slice n).epoch = (s.sys.slice n).epoch ∧ s.OnlySlice t n (serveReg n) serveParts)) ∧
  (∀ (s : State) (n : Fin 64) (h : Fin 256) (line : Line) (b : Nat) (d : BitVec 512) (p : Bool), s.Serves (.ncLr n (.core h) line) n b → (s.sys.sfGet n line.toNat).all (fun e => e.st == 2) = true → s.sys.llcLine n line.toNat = some (d, p) → Completes (.ncLr n (.core h) line) s (fun t =>
      t.sys.msgs = (s.asked (.ncLr n (.core h) line)).2.sys.msgs ++ [.fill ⟨h, line.toNat, .nc, d, p, b / 8, 0,
      ⟨n, (s.sys.slice n).session, (s.sys.slice n).epoch⟩, false, (s.asked (.ncLr n (.core h) line)).1.first, 0, false, 0⟩] ∧
      (t.sys.slice n).resv.getLast? = some (h.val, line.toNat) ∧ (t.sys.slice n).resv.all (fun q => q.1 ≠ h ∨ q.2 = line.toNat) = true ∧
      ((s.sys.slice n).resv.length ≤ 64 → (t.sys.slice n).resv.length ≤ 64) ∧ s.OnlySlice t n (serveReg n) serveParts)) ∧
  (∀ (s : State) (n : Fin 64) (h : Fin 256) (line : Line) (first : Fin 4) (b : Nat) (e : SfEnt), s.Serves (.rdShared n (.core h) line first) n b → s.HeldBy n (s.asked (.rdShared n (.core h) line first)).1 e → Completes (.rdShared n (.core h) line first) s (fun t =>
      t.sys.msgs = (s.asked (.rdShared n (.core h) line first)).2.sys.msgs ++ e.holders.map (fun g => Msg.snoop n .share line.toNat g) ∧
      (t.sys.slice n).txns = [⟨(s.asked (.rdShared n (.core h) line first)).1, .snoop, .general, e.holders, none, none, b, true⟩] ∧
      (t.sys.slice n).sf = (s.sys.slice n).sf ∧ s.OnlySlice t n (serveReg n) serveParts)) ∧
  (∀ (s : State) (n : Fin 64) (h : Fin 256) (line : Line) (first : Fin 4) (b : Nat) (e : SfEnt), s.Serves (.rdOwn n (.core h) line first) n b → s.HeldBy n (s.asked (.rdOwn n (.core h) line first)).1 e → Completes (.rdOwn n (.core h) line first) s (fun t =>
      t.sys.msgs = (s.asked (.rdOwn n (.core h) line first)).2.sys.msgs ++ e.holders.map (fun g => Msg.snoop n .inv line.toNat g) ∧
      (t.sys.slice n).txns = [⟨(s.asked (.rdOwn n (.core h) line first)).1, .snoop, .general, e.holders, none, none, b, true⟩] ∧
      s.OnlySlice t n (serveReg n) serveParts)) ∧
  (∀ (s : State) (n : Fin 64) (w : ReqSrc) (line : Line) (b : Nat) (e : SfEnt), s.Serves (.ncRd n w line) n b → s.HeldBy n (s.asked (.ncRd n w line)).1 e → Completes (.ncRd n w line) s (fun t =>
      t.sys.msgs = (s.asked (.ncRd n w line)).2.sys.msgs ++ e.holders.map (fun g => Msg.snoop n .peek line.toNat g) ∧
      (t.sys.slice n).txns.map (fun x => (x.req, x.st, x.waits)) = [((s.asked (.ncRd n w line)).1, .snoop, e.holders)] ∧
      s.OnlySlice t n (serveReg n) serveParts)) ∧
  (∀ (s : State) (n : Fin 64) (h : Fin 256) (line : Line) (first : Fin 4) (b m ca : Nat), s.Serves (.rdShared n (.core h) line first) n b → s.sys.sfGet n line.toNat = none → s.sys.llcLine n line.toNat = none → s.sys.foreign line.toNat = false → s.sys.conf.locate (64 * line.toNat) = some (m, ca, false) → (below 16).all (fun c => s.sys.readsAt n c == 0) = true → Completes (.rdShared n (.core h) line first) s (fun t =>
      t.sys.msgs = (s.asked (.rdShared n (.core h) line first)).2.sys.msgs ∧ (t.sys.chan m).fwd = (s.sys.chan m).fwd ++ [⟨line.toNat, ca, n, 0⟩] ∧
      (t.sys.slice n).txns.map (fun x => (x.req, x.st)) = [((s.asked (.rdShared n (.core h) line first)).1, .memory)] ∧
      (∀ c, c ≠ m → t.sys.chan c = s.sys.chan c) ∧ s.OnlySlice t n (serveReg n) (.chans :: serveParts)))

/-- R194, R247, R271, R300, R303, R310, R311: the requests of R299 that bring or move no data to the requester, and BIND. -/
def Obligations.HomeGrants : Prop :=
  (∀ (s : State) (n : Fin 64) (h : Fin 256) (line : Line) (b : Nat) (e : SfEnt), s.Serves (.upgrade n (.core h) line) n b → s.sys.sfGet n line.toNat = some e → e.st = 2 → bit e.tiles.toNat (h / 4) = true → Completes (.upgrade n (.core h) line) s (fun t =>
      t.sys.msgs = (s.asked (.upgrade n (.core h) line)).2.sys.msgs ++ (e.holders.filter (fun g => g ≠ .core h)).map (fun g => Msg.snoop n .inv line.toNat g) ∧
      (t.sys.slice n).txns.map (fun x => (x.req, x.st, x.waits)) =
      [((s.asked (.upgrade n (.core h) line)).1, .snoop, e.holders.filter (fun g => g ≠ .core h))] ∧
      s.OnlySlice t n (serveReg n) serveParts)) ∧
  (∀ (s : State) (n : Fin 64) (h : Fin 256) (line : Line) (b : Nat) (d : BitVec 512) (p : Bool), s.Serves (.upgrade n (.core h) line) n b → s.sys.sfGet n line.toNat = none → s.sys.llcLine n line.toNat = some (d, p) → Completes (.upgrade n (.core h) line) s (fun t =>
      t.sys.msgs = (s.asked (.upgrade n (.core h) line)).2.sys.msgs ++ [.fill ⟨h, line.toNat, .own, d, p, b / 8, 3,
      ⟨n, (s.sys.slice n).session, (s.sys.slice n).epoch⟩, false, (s.asked (.upgrade n (.core h) line)).1.first, 0, false, 0⟩] ∧
      t.sys.sfGet n line.toNat = some (sfEx line.toNat (nget b 3 4) (s.sys.foreign line.toNat) (.core h)) ∧ s.OnlySlice t n (serveReg n) serveParts)) ∧
  (∀ (s : State) (n : Fin 64) (h : Fin 256) (line : Line) (b : Nat), s.Serves (.ownZero n (.core h) line) n b → (s.sys.sfGet n line.toNat).all (fun e => e.st == 1 && e.holders == [.core h]) = true → Completes (.ownZero n (.core h) line) s (fun t =>
      t.sys.msgs = (s.asked (.ownZero n (.core h) line)).2.sys.msgs ++ [.grant h line.toNat (b / 8) true] ∧
      t.sys.sfGet n line.toNat = some (sfEx line.toNat (nget b 3 4) (s.sys.foreign line.toNat) (.core h)) ∧ t.sys.llcLine n line.toNat = none ∧
      (t.sys.slice n).epoch = ((s.sys.slice n).epoch + 1) % 2 ^ 48 ∧ (t.sys.slice n).resv = (s.sys.slice n).resv.filter (fun q => q.2 ≠ line.toNat) ∧
      s.OnlySlice t n (serveReg n) serveParts)) ∧
  (∀ (s : State) (n : Fin 64) (h : Fin 256) (line : Line) (token : Token) (b : Nat), s.Serves (.bind n (.core h) line token) n b → (s.sys.sfGet n line.toNat).all (fun e => e.st == 2) = true → s.sys.tokenOk n (s.asked (.bind n (.core h) line token)).1 = true → Completes (.bind n (.core h) line token) s (fun t =>
      t.sys.msgs = (s.asked (.bind n (.core h) line token)).2.sys.msgs ++ [.bindOk h line.toNat] ∧
      (t.sys.sfGet n line.toNat).map (fun e => (e.st, bit e.tiles.toNat (h / 4))) = some (2, true) ∧
      (t.sys.slice n).epoch = (s.sys.slice n).epoch ∧ s.OnlySlice t n (serveReg n) serveParts)) ∧
  (∀ (s : State) (n : Fin 64) (h : Fin 256) (line : Line) (token : Token) (b : Nat) (d : BitVec 512) (p : Bool), s.Serves (.bind n (.core h) line token) n b → s.sys.sfGet n line.toNat = none → s.sys.tokenOk n (s.asked (.bind n (.core h) line token)).1 = false → s.sys.llcLine n line.toNat = some (d, p) → Completes (.bind n (.core h) line token) s (fun t =>
      t.sys.msgs = (s.asked (.bind n (.core h) line token)).2.sys.msgs ++ [.fill ⟨h, line.toNat, .bindData, d, p, b / 8, 2,
      ⟨n, (s.sys.slice n).session, (s.sys.slice n).epoch⟩, false, (s.asked (.bind n (.core h) line token)).1.first, 0, false, 0⟩] ∧
      t.sys.sfGet n line.toNat = some (sfEx line.toNat (nget b 3 4) (s.sys.foreign line.toNat) (.core h)) ∧ s.OnlySlice t n (serveReg n) serveParts)) ∧
  (∀ (s : State) (n : Fin 64) (h : Fin 256) (line : Line) (data : BitVec 512) (dirty poison : Bool) (b : Nat), s.Serves (.offer n (.core h) line data dirty poison) n b → (s.sys.sector n line.toNat).map (fun e => (e.data.length, bit e.v (line.toNat % 4))) = some (4, false) → (s.sys.sfGet n line.toNat).all (fun e => e.st == 1 && e.owner == h.val) = true → Completes (.offer n (.core h) line data dirty poison) s (fun t => t.sys.sfGet n line.toNat = none ∧
      t.sys.llcLine n line.toNat = some ((s.asked (.offer n (.core h) line data dirty poison)).1.data, (s.asked (.offer n (.core h) line data dirty poison)).1.poison) ∧
      (t.sys.sector n line.toNat).map (fun e => bit e.d (line.toNat % 4)) =
      some ((s.asked (.offer n (.core h) line data dirty poison)).1.dirty || (s.asked (.offer n (.core h) line data dirty poison)).1.poison) ∧
      t.sys.msgs = (s.asked (.offer n (.core h) line data dirty poison)).2.sys.msgs ∧ (t.sys.slice n).txns = [] ∧
      (t.sys.slice n).epoch = (if (s.asked (.offer n (.core h) line data dirty poison)).1.dirty || (s.asked (.offer n (.core h) line data dirty poison)).1.poison
      then ((s.sys.slice n).epoch + 1) % 2 ^ 48 else (s.sys.slice n).epoch) ∧ s.OnlySlice t n (serveReg n) serveParts)) ∧
  (∀ (s : State) (n : Fin 64) (h : Fin 256) (line : Line) (b : Nat), s.Serves (.cleanDrop n (.core h) line) n b → Completes (.cleanDrop n (.core h) line) s (fun t => (t.sys.slice n).sf = (match s.sys.sfGet n line.toNat with
      | some e => if e.st = 1 ∧ e.owner = h then (s.sys.slice n).sf.filter (fun f => f.line ≠ line.toNat) else (s.sys.slice n).sf
      | none => (s.sys.slice n).sf) ∧ (t.sys.slice n).txns = [] ∧ (t.sys.slice n).epoch = (s.sys.slice n).epoch ∧
      t.sys.msgs = (s.asked (.cleanDrop n (.core h) line)).2.sys.msgs ∧ s.OnlySlice t n (serveReg n) serveParts))

/-- R249, R270, R272, R300, R305, R310: the maintenance requests and the writes of R299. -/
def Obligations.HomeWrites : Prop :=
  (∀ (s : State) (n : Fin 64) (w : ReqSrc) (line : Line) (b : Nat), s.Serves (.cmoCheck n w line) n b → Completes (.cmoCheck n w line) s (fun t => t.sys.msgs = (s.asked (.cmoCheck n w line)).2.sys.msgs ++ [(s.asked (.cmoCheck n w line)).1.doneMsg false 0] ∧
      (t.sys.slice n).sf = (s.sys.slice n).sf ∧ (t.sys.slice n).sectors = (s.sys.slice n).sectors ∧ (t.sys.slice n).epoch = (s.sys.slice n).epoch ∧
      s.OnlySlice t n (serveReg n) serveParts)) ∧
  (∀ (s : State) (n : Fin 64) (w : ReqSrc) (line : Line) (b : Nat), s.Serves (.cmoInval n w line) n b → s.sys.sfGet n line.toNat = none → Completes (.cmoInval n w line) s (fun t => t.sys.msgs = (s.asked (.cmoInval n w line)).2.sys.msgs ++ [(s.asked (.cmoInval n w line)).1.doneMsg false 0] ∧
      t.sys.llcLine n line.toNat = none ∧ (t.sys.slice n).epoch = ((s.sys.slice n).epoch + 1) % 2 ^ 48 ∧
      (t.sys.slice n).resv = (s.sys.slice n).resv.filter (fun q => q.2 ≠ line.toNat) ∧ s.OnlySlice t n (serveReg n) serveParts)) ∧
  (∀ (s : State) (n : Fin 64) (w : ReqSrc) (line : Line) (data : Option (BitVec 512)) (b m ca : Nat) (e : Sector), s.Serves (.cmoFlush n w line data) n b → s.sys.sfGet n line.toNat = none → (s.asked (.cmoFlush n w line data)).1.dirty = false → s.sys.sector n line.toNat = some e → bit e.d (line.toNat % 4) = true → s.sys.conf.locate (64 * line.toNat) = some (m, ca, false) → Completes (.cmoFlush n w line data) s (fun t => t.sys.msgs = (s.asked (.cmoFlush n w line data)).2.sys.msgs ∧
      (t.sys.chan m).mwr = (s.sys.chan m).mwr ++ [⟨line.toNat, n, (e.data[line.toNat % 4]?).getD 0, bit e.p (line.toNat % 4)⟩] ∧
      t.sys.llcLine n line.toNat = none ∧ (t.sys.slice n).txns.map (fun x => (x.req, x.st)) = [((s.asked (.cmoFlush n w line data)).1, .writing)] ∧
      (t.sys.slice n).epoch = ((s.sys.slice n).epoch + 1) % 2 ^ 48 ∧ (∀ c, c ≠ m → t.sys.chan c = s.sys.chan c) ∧
      s.OnlySlice t n (serveReg n) (.chans :: serveParts))) ∧
  (∀ (s : State) (n : Fin 64) (w : ReqSrc) (line : Line) (data : Option (BitVec 512)) (b : Nat), s.Serves (.cmoFlush n w line data) n b → s.sys.sfGet n line.toNat = none → (s.asked (.cmoFlush n w line data)).1.dirty = false → (s.sys.sector n line.toNat).all (fun e => !bit e.d (line.toNat % 4)) = true → Completes (.cmoFlush n w line data) s (fun t => t.sys.msgs = (s.asked (.cmoFlush n w line data)).2.sys.msgs ++
      [(s.asked (.cmoFlush n w line data)).1.doneMsg false 0] ∧ t.sys.llcLine n line.toNat = none ∧ (t.sys.slice n).txns = [] ∧
      s.OnlySlice t n (serveReg n) serveParts)) ∧
  (∀ (s : State) (n : Fin 64) (w : ReqSrc) (line : Line) (data : Option (BitVec 512)) (b m ca : Nat) (e : Sector), s.Serves (.cmoClean n w line data) n b → s.sys.sfGet n line.toNat = none → (s.asked (.cmoClean n w line data)).1.dirty = false → s.sys.sector n line.toNat = some e → bit e.d (line.toNat % 4) = true → bit e.v (line.toNat % 4) = true → e.data.length = 4 → s.sys.conf.locate (64 * line.toNat) = some (m, ca, false) → Completes (.cmoClean n w line data) s (fun t => t.sys.msgs = (s.asked (.cmoClean n w line data)).2.sys.msgs ∧
      (t.sys.chan m).mwr = (s.sys.chan m).mwr ++ [⟨line.toNat, n, (e.data[line.toNat % 4]?).getD 0, bit e.p (line.toNat % 4)⟩] ∧
      t.sys.llcLine n line.toNat = some ((e.data[line.toNat % 4]?).getD 0, false) ∧
      (t.sys.sector n line.toNat).map (fun f => bit f.d (line.toNat % 4)) = some false ∧ (t.sys.slice n).sf = (s.sys.slice n).sf ∧
      s.OnlySlice t n (serveReg n) (.chans :: serveParts))) ∧
  (∀ (s : State) (n : Fin 64) (h : Fin 256) (line : Line) (data : BitVec 512) (mask : BitVec 64) (b : Nat) (d : BitVec 512) (p : Bool), s.Serves (.ncWr n (.core h) line data mask) n b → s.sys.sfGet n line.toNat = none → s.sys.llcLine n line.toNat = some (d, p) → (s.asked (.ncWr n (.core h) line data mask)).1.mask ≠ BitVec.allOnes 64 → (s.sys.sector n line.toNat).all (fun e => e.data.length == 4) = true → Completes (.ncWr n (.core h) line data mask) s (fun t =>
      (t.sys.llcLine n line.toNat).map (·.1) = some (mergeLine d (s.asked (.ncWr n (.core h) line data mask)).1.data (s.asked (.ncWr n (.core h) line data mask)).1.mask) ∧
      (t.sys.sector n line.toNat).map (fun f => bit f.d (line.toNat % 4)) = some true ∧
      t.sys.msgs = (s.asked (.ncWr n (.core h) line data mask)).2.sys.msgs ++ [(s.asked (.ncWr n (.core h) line data mask)).1.doneMsg false 0] ∧
      (t.sys.slice n).epoch = ((s.sys.slice n).epoch + 1) % 2 ^ 48 ∧ s.OnlySlice t n (serveReg n) serveParts)) ∧
  (∀ (s : State) (n : Fin 64) (h : Fin 256) (line : Line) (data : BitVec 512) (mask : BitVec 64) (b m ca : Nat), s.Serves (.ncWr n (.core h) line data mask) n b → s.sys.sfGet n line.toNat = none → (s.asked (.ncWr n (.core h) line data mask)).1.mask = BitVec.allOnes 64 → s.sys.conf.locate (64 * line.toNat) = some (m, ca, false) → Completes (.ncWr n (.core h) line data mask) s (fun t => t.sys.llcLine n line.toNat = none ∧
      (t.sys.chan m).mwr.map (fun w => (w.line, w.slice, w.data)) = (s.sys.chan m).mwr.map (fun w => (w.line, w.slice, w.data)) ++
      [(line.toNat, n.val, mergeLine 0 (s.asked (.ncWr n (.core h) line data mask)).1.data (BitVec.allOnes 64))] ∧
      t.sys.msgs = (s.asked (.ncWr n (.core h) line data mask)).2.sys.msgs ∧
      (t.sys.slice n).txns.map (fun x => (x.req, x.st)) = [((s.asked (.ncWr n (.core h) line data mask)).1, .writing)] ∧
      (∀ c, c ≠ m → t.sys.chan c = s.sys.chan c) ∧ s.OnlySlice t n (serveReg n) (.chans :: serveParts))) ∧
  (∀ (s : State) (n : Fin 64) (w : ReqSrc) (line : Line) (data : BitVec 512) (mask : BitVec 64) (b : Nat) (d : BitVec 512) (p : Bool), s.Serves (.devWr n w line data mask) n b → s.sys.sfGet n line.toNat = none → s.sys.llcLine n line.toNat = some (d, p) → (s.asked (.devWr n w line data mask)).1.mask ≠ BitVec.allOnes 64 → (s.sys.sector n line.toNat).all (fun e => e.data.length == 4) = true → Completes (.devWr n w line data mask) s (fun t =>
      (t.sys.llcLine n line.toNat).map (·.1) = some (mergeLine d (s.asked (.devWr n w line data mask)).1.data (s.asked (.devWr n w line data mask)).1.mask) ∧
      t.sys.msgs = (s.asked (.devWr n w line data mask)).2.sys.msgs ++ [(s.asked (.devWr n w line data mask)).1.doneMsg false 0] ∧
      (t.sys.slice n).epoch = ((s.sys.slice n).epoch + 1) % 2 ^ 48 ∧ s.OnlySlice t n (serveReg n) serveParts)) ∧
  (∀ (s : State) (n : Fin 64) (h : Fin 256) (line : Line) (op : AmoOp) (dword : Bool) (data : BitVec 512) (mask : BitVec 64) (b : Nat) (d : BitVec 512) (p : Bool), s.Serves (.ncAmo n (.core h) line op dword data mask) n b → s.sys.sfGet n line.toNat = none → s.sys.llcLine n line.toNat = some (d, p) → (s.asked (.ncAmo n (.core h) line op dword data mask)).1.mask ≠ BitVec.allOnes 64 → (s.sys.sector n line.toNat).all (fun e => e.data.length == 4) = true → Completes (.ncAmo n (.core h) line op dword data mask) s (fun t =>
      t.sys.llcLine n line.toNat = some (((s.asked (.ncAmo n (.core h) line op dword data mask)).1.written d p).1, p) ∧
      t.sys.msgs = (s.asked (.ncAmo n (.core h) line op dword data mask)).2.sys.msgs ++
      [(s.asked (.ncAmo n (.core h) line op dword data mask)).1.doneMsg false ((s.asked (.ncAmo n (.core h) line op dword data mask)).1.written d p).2.2] ∧
      (t.sys.slice n).epoch = ((s.sys.slice n).epoch + 1) % 2 ^ 48 ∧ s.OnlySlice t n (serveReg n) serveParts)) ∧
  (∀ (s : State) (n : Fin 64) (h : Fin 256) (line : Line) (data : BitVec 512) (mask : BitVec 64) (b : Nat) (d : BitVec 512) (p : Bool), s.Serves (.ncSc n (.core h) line data mask) n b → s.sys.sfGet n line.toNat = none → s.sys.llcLine n line.toNat = some (d, p) → (s.sys.slice n).resv.contains (h.val, line.toNat) = true → (s.asked (.ncSc n (.core h) line data mask)).1.mask ≠ BitVec.allOnes 64 → (s.sys.sector n line.toNat).all (fun e => e.data.length == 4) = true → Completes (.ncSc n (.core h) line data mask) s (fun t =>
      (t.sys.llcLine n line.toNat).map (·.1) = some (mergeLine d (s.asked (.ncSc n (.core h) line data mask)).1.data (s.asked (.ncSc n (.core h) line data mask)).1.mask) ∧
      t.sys.msgs = (s.asked (.ncSc n (.core h) line data mask)).2.sys.msgs ++ [(s.asked (.ncSc n (.core h) line data mask)).1.doneMsg false 0] ∧
      (t.sys.slice n).resv = (s.sys.slice n).resv.filter (fun q => q.2 ≠ line.toNat) ∧ s.OnlySlice t n (serveReg n) serveParts)) ∧
  (∀ (s : State) (n : Fin 64) (h : Fin 256) (line : Line) (data : BitVec 512) (mask : BitVec 64) (b : Nat), s.Serves (.ncSc n (.core h) line data mask) n b → (s.sys.slice n).resv.contains (h.val, line.toNat) = false → Completes (.ncSc n (.core h) line data mask) s (fun t => (t.sys.slice n).sectors = (s.sys.slice n).sectors ∧ (t.sys.slice n).sf = (s.sys.slice n).sf ∧
      t.sys.msgs = (s.asked (.ncSc n (.core h) line data mask)).2.sys.msgs ++ [(s.asked (.ncSc n (.core h) line data mask)).1.doneMsg false 1] ∧
      (t.sys.slice n).resv = (s.sys.slice n).resv.filter (fun q => q.1 ≠ h.val) ∧ s.OnlySlice t n (serveReg n) serveParts))

/-- R301, R302, R304, R205, R297: a holder's answer and what it keeps. -/
def Obligations.HolderSnoops : Prop :=
  (∀ (s : State) (h : Fin 256) (line : Line) (n : Nat) (rest : List Msg) (c : CLine), s.Live → takeMsg (Msg.isSnoop .share (.core h) line.toNat) s.sys.msgs = some (.snoop n .share line.toNat (.core h), rest) → s.sys.fillDue h line.toNat = false → s.sys.offerHeld h line.toNat = none → (s.sys.hart h).anyCopy line.toNat = some c → c.poison = false → 1 ≤ (s.sys.hart h).lineSt line.toNat → Completes (.snpShare (.core h) line) s (fun t =>
      t.sys.msgs = rest ++ [.ack n line.toNat (.core h) (if (s.sys.hart h).lineSt line.toNat = 3 then .data c.data else .clean)] ∧
      (t.sys.hart h).lineSt line.toNat = 1 ∧ s.OnlyHart t h (fun _ => false) [.msgs] [.l1d, .l2, .side] [])) ∧
  (∀ (s : State) (h : Fin 256) (line : Line) (n : Nat) (rest : List Msg) (c : CLine), s.Live → takeMsg (Msg.isSnoop .inv (.core h) line.toNat) s.sys.msgs = some (.snoop n .inv line.toNat (.core h), rest) → s.sys.fillDue h line.toNat = false → s.sys.offerHeld h line.toNat = none → (s.sys.hart h).anyCopy line.toNat = some c → 1 ≤ (s.sys.hart h).lineSt line.toNat → (s.sys.hart h).rob = [] → Completes (.snpInv (.core h) line) s (fun t =>
      t.sys.msgs = rest ++ [.ack n line.toNat (.core h) (if (s.sys.hart h).lineSt line.toNat = 3 ∨ c.poison = true then
      (if c.poison then .poison else .data c.data) else .clean)] ∧
      (t.sys.hart h).lineSt line.toNat = 0 ∧ (t.sys.hart h).resv = (if (s.sys.hart h).resv = some line.toNat then none else (s.sys.hart h).resv) ∧
      s.OnlyHart t h (fun _ => false) [.msgs] [.l1d, .l2, .side, .sfb, .resv] [])) ∧
  (∀ (s : State) (h : Fin 256) (line : Line) (n : Nat) (rest : List Msg), s.Live → takeMsg (Msg.isSnoop .inv (.core h) line.toNat) s.sys.msgs = some (.snoop n .inv line.toNat (.core h), rest) → s.sys.fillDue h line.toNat = false → s.sys.offerHeld h line.toNat = none → (s.sys.hart h).lineSt line.toNat = 0 → Completes (.snpInv (.core h) line) s (fun t =>
      t.sys.msgs = rest ++ [.ack n line.toNat (.core h) (if ({ s.sys with msgs := rest } : Sys).offerDue h line.toNat then .offered else .none)] ∧
      (t.sys.hart h).resv = (if (s.sys.hart h).resv = some line.toNat then none else (s.sys.hart h).resv) ∧
      s.OnlyHart t h (fun _ => false) [.msgs] [.resv] [])) ∧
  (∀ (s : State) (e : Fin 8) (line : Line) (n : Nat) (rest : List Msg), s.Live → takeMsg (Msg.isSnoop .inv (.engine e) line.toNat) s.sys.msgs = some (.snoop n .inv line.toNat (.engine e), rest) → Completes (.snpInv (.engine e) line) s (fun t =>
      t.sys.msgs = rest ++ [.ack n line.toNat (.engine e) (match (Bank.getD s.sys.staging e.val []).find? (fun g => g.line = line.toNat) with
      | some g => if g.dst then (if g.poison then .poison else .data g.data) else .clean
      | none => .none)] ∧
      Bank.getD t.sys.staging e.val [] = (Bank.getD s.sys.staging e.val []).filter (fun g => g.line ≠ line.toNat) ∧
      s.Only t (fun _ => false) [.msgs, .staging])) ∧
  (∀ (s : State) (h : Fin 256) (line : Line) (n : Nat) (rest : List Msg) (c : CLine), s.Live → takeMsg (Msg.isSnoop .peek (.core h) line.toNat) s.sys.msgs = some (.snoop n .peek line.toNat (.core h), rest) → s.sys.fillDue h line.toNat = false → s.sys.offerHeld h line.toNat = none → (s.sys.hart h).anyCopy line.toNat = some c → 1 ≤ (s.sys.hart h).lineSt line.toNat → Completes (.snpPeek (.core h) line) s (fun t =>
      t.sys.msgs = rest ++ [.ack n line.toNat (.core h) (if 2 ≤ (s.sys.hart h).lineSt line.toNat then (if c.poison then .poison else .data c.data) else .none)] ∧
      s.Only t (fun _ => false) [.msgs])) ∧
  (∀ (s : State) (h : Fin 256) (line : Line) (n : Nat) (rest : List Msg) (c : CLine), s.Live → takeMsg (Msg.isSnoop .clean (.core h) line.toNat) s.sys.msgs = some (.snoop n .clean line.toNat (.core h), rest) → s.sys.fillDue h line.toNat = false → s.sys.offerHeld h line.toNat = none → (s.sys.hart h).anyCopy line.toNat = some c → 1 ≤ (s.sys.hart h).lineSt line.toNat → (s.sys.hart h).side = [] → Completes (.snpClean (.core h) line) s (fun t =>
      t.sys.msgs = rest ++ [.ack n line.toNat (.core h) (if (s.sys.hart h).lineSt line.toNat = 3 ∨ c.poison = true then
      (if c.poison then .poison else .data c.data) else .clean)] ∧
      (t.sys.hart h).lineSt line.toNat = min 2 ((s.sys.hart h).lineSt line.toNat) ∧ s.OnlyHart t h (fun _ => false) [.msgs] [.l1d, .l2] []))

/-- R300, R302, R304, R308, R309: the answers of R301 and R302 at a home agent. -/
def Obligations.SnoopAnswers : Prop :=
  (∀ (s : State) (n : Fin 64) (h g : Fin 256) (line : Line) (rest : List Msg) (t0 : Txn) (e : Sector) (d : BitVec 512), s.Live → takeMsg (Msg.isAck n (.core h) line.toNat Answer.isData) s.sys.msgs = some (.ack n line.toNat (.core h) (.data d), rest) → (s.sys.slice n).txns = [t0] → t0.req.kind = .rdShared → t0.req.line = line.toNat → t0.req.who = .core g → t0.st = .snoop → t0.waits = [.core h] → t0.offerOf = none → h ≠ g → s.sys.sfGet n line.toNat = some (sfEx line.toNat t0.req.kennel false (.core h)) → s.sys.sector n line.toNat = some e → (s.sys.slice n).sf.length ≤ 16 → e.data.length = 4 → e.p = 0 → Completes (.ackData n (.core h) line none) s (fun t => t.sys.llcLine n line.toNat = some (d, false) ∧
      (t.sys.sector n line.toNat).map (fun f => bit f.d (line.toNat % 4)) = some true ∧
      t.sys.msgs = rest ++ [.fill ⟨g, line.toNat, .shared, d, false, t0.byte / 8, 1, ⟨n, (s.sys.slice n).session, (s.sys.slice n).epoch⟩, t0.wasEx,
      t0.req.first, 0, false, 0⟩] ∧ (t.sys.slice n).txns = [] ∧
      (t.sys.sfGet n line.toNat).map (fun f => (f.st, bit f.tiles.toNat (h / 4), bit f.tiles.toNat (g / 4))) = some (2, true, true) ∧
      s.OnlySlice t n (serveReg n) serveParts)) ∧
  (∀ (s : State) (n : Fin 64) (h g : Fin 256) (line : Line) (rest : List Msg) (t0 : Txn) (e : SfEnt) (d : BitVec 512) (p : Bool), s.Live → takeMsg (Msg.isAck n (.core h) line.toNat (· == .clean)) s.sys.msgs = some (.ack n line.toNat (.core h) .clean, rest) → (s.sys.slice n).txns = [t0] → t0.req.kind = .rdShared → t0.req.line = line.toNat → t0.req.who = .core g → t0.st = .snoop → t0.waits = [.core h] → t0.offerOf = none → t0.got = none → s.sys.sfGet n line.toNat = some e → e.st = 2 → (s.sys.slice n).sf.length ≤ 16 → s.sys.llcLine n line.toNat = some (d, p) → Completes (.ack n (.core h) line) s (fun t =>
      t.sys.msgs = rest ++ [.fill ⟨g, line.toNat, .shared, d, p, t0.byte / 8, 1, ⟨n, (s.sys.slice n).session, (s.sys.slice n).epoch⟩, t0.wasEx,
      t0.req.first, 0, false, 0⟩] ∧ (t.sys.slice n).txns = [] ∧ s.OnlySlice t n (serveReg n) serveParts)) ∧
  (∀ (s : State) (n : Fin 64) (h g : Fin 256) (line : Line) (rest : List Msg) (t0 : Txn) (d : BitVec 512) (p : Bool), s.Live → takeMsg (Msg.isAck n (.core h) line.toNat (· == .none)) s.sys.msgs = some (.ack n line.toNat (.core h) .none, rest) → (s.sys.slice n).txns = [t0] → t0.req.kind = .rdOwn → t0.req.line = line.toNat → t0.req.who = .core g → t0.st = .snoop → t0.waits = [.core h] → t0.offerOf = none → t0.got = none → (s.sys.sfGet n line.toNat).isSome = true → (s.sys.slice n).sf.length ≤ 16 → s.sys.llcLine n line.toNat = some (d, p) → Completes (.ackNone n (.core h) line) s (fun t =>
      t.sys.msgs = rest ++ [.fill ⟨g, line.toNat, .own, d, p, t0.byte / 8, 3, ⟨n, (s.sys.slice n).session, (s.sys.slice n).epoch⟩, t0.wasEx,
      t0.req.first, 0, false, 0⟩] ∧ (t.sys.slice n).txns = [] ∧
      t.sys.sfGet n line.toNat = some (sfEx line.toNat (nget t0.byte 3 4) (s.sys.foreign line.toNat) (.core g)) ∧
      s.OnlySlice t n (serveReg n) serveParts)) ∧
  (∀ (s : State) (n : Fin 64) (h : Fin 256) (line : Line) (rest : List Msg) (t0 : Txn) (u : Holder) (us : List Holder), s.Live → takeMsg (Msg.isAck n (.core h) line.toNat (· == .none)) s.sys.msgs = some (.ack n line.toNat (.core h) .none, rest) → (s.sys.slice n).txns = [t0] → t0.req.line = line.toNat → t0.st = .snoop → t0.waits = .core h :: u :: us → Completes (.ackNone n (.core h) line) s (fun t => t.sys.msgs = rest ∧ (t.sys.slice n).txns = [{ t0 with waits := u :: us }] ∧
      s.OnlySlice t n (serveReg n) [.msgs])) ∧
  (∀ (s : State) (n : Fin 64) (h g : Fin 256) (line : Line) (rest : List Msg) (t0 : Txn), s.Live → takeMsg (Msg.isAck n (.core h) line.toNat (· == .poison)) s.sys.msgs = some (.ack n line.toNat (.core h) .poison, rest) → (s.sys.slice n).txns = [t0] → t0.req.kind = .ncRd → t0.req.line = line.toNat → t0.req.who = .core g → t0.st = .snoop → t0.waits = [.core h] → t0.offerOf = none → (s.sys.sector n line.toNat).isSome = true → Completes (.ackPoison n (.core h) line) s (fun t =>
      t.sys.msgs.map (fun m => match m with | .fill f => some (f.h, f.line, f.poison) | _ => none) =
      rest.map (fun m => match m with | .fill f => some (f.h, f.line, f.poison) | _ => none) ++ [some (g.val, line.toNat, true)] ∧
      (t.sys.slice n).txns = [] ∧ (t.sys.llcLine n line.toNat).map (·.2) = some true ∧ s.OnlySlice t n (serveReg n) serveParts)) ∧
  (∀ (s : State) (n : Fin 64) (h : Fin 256) (line : Line) (rest : List Msg) (t0 : Txn), s.Live → takeMsg (Msg.isAck n (.core h) line.toNat (· == .offered)) s.sys.msgs = some (.ack n line.toNat (.core h) .offered, rest) → (s.sys.slice n).txns = [t0] → t0.req.line = line.toNat → t0.st = .snoop → t0.waits = [.core h] → Completes (.ackOffered n (.core h) line) s (fun t => t.sys.msgs = rest ∧ (t.sys.slice n).txns = [{ t0 with waits := [], offerOf := some h.val }] ∧
      s.OnlySlice t n (serveReg n) [.msgs])) ∧
  (∀ (s : State) (n : Fin 64) (h : Fin 256) (line : Line) (m : Fin 16) (t0 : Txn) (d : MDone), s.Live → (s.sys.slice n).txns = [t0] → t0.req.kind = .rdOwn → t0.req.line = line.toNat → t0.req.who = .core h → t0.st = .memory → s.sys.sfGet n line.toNat = none → (s.sys.slice n).sf.length < 16 → (below 16).find? (fun m => (s.sys.chan m).done.any (fun d => d.slice = n.val ∧ d.line = line.toNat)) = some m.val → (s.sys.chan m).done = [d] → d.slice = n.val → d.line = line.toNat → d.err = false → Completes (.memDone n line none) s (fun t => (t.sys.chan m).done = [] ∧ (t.sys.slice n).txns = [] ∧
      t.sys.msgs = s.sys.msgs ++ [.fill ⟨h, line.toNat, .own, d.data, d.poison, t0.byte / 8, 3, ⟨n, (s.sys.slice n).session, (s.sys.slice n).epoch⟩,
      t0.wasEx, t0.req.first, 0, false, 0⟩] ∧ s.OnlyHart t h (serveReg n) (.slices :: .chans :: serveParts) [] [])) ∧
  (∀ (s : State) (n : Fin 64) (line : Line), s.Live → (s.sys.slice n).txns.any (fun t => t.req.line = line.toNat ∧ t.st = .snoop ∧ !t.waits.isEmpty) = true → Completes (.snoopTimeout n line) s (fun t => t.sys.fcr.events = s.sys.fcr.events ++ [⟨srcTile n 10, 0⟩] ∧ s.Only t (fun _ => false) [.fcr]))

/-- R289, R307, R327, R331: retried and held requests and mesh link errors. -/
def Obligations.MeshRetries : Prop :=
  (∀ (s : State) (n : Fin 64) (i : Fin 80) (r : Req) (rest : List Msg), s.Live → takeMsg (Msg.isRetry n i) s.sys.msgs = some (.retry n r, rest) → Completes (.retry n i) s (fun t => t.sys.msgs = rest ∧ (t.sys.stop i).retried = (s.sys.stop i).retried ++ [(n.val, r)] ∧
      (i < 64 → t.sys.rf F.TILE_MS_RETRY_RETRIES i = min (2 ^ F.TILE_MS_RETRY_RETRIES.wd - 1) (s.sys.rf F.TILE_MS_RETRY_RETRIES i + 1)) ∧
      (∀ j : Fin 80, j ≠ i → t.sys.stop j = s.sys.stop j) ∧
      s.Only t (fun k => k == ⟨.TILE_MS_RETRY, i, 0⟩ && decide (i < 64)) [.msgs, .stops])) ∧
  (∀ (s : State) (n : Fin 64) (k : Fin 16) (i : Fin 80) (rest : List Nat) (r : Req), s.Live → Bank.getD (s.sys.slice n).wake k.val [] = i.val :: rest → 64 ≤ i.val ∨ s.sys.roomFor n ⟨.rdShared, 0, .core (4 * i), k, false, 0, 0, 0, false, false, ⟨0, 0, 0⟩, false, .swap, false⟩ = true → (s.sys.stop i).retried.find? (fun p => p.1 = n.val ∧ p.2.kennel = k.val) = some (n.val, r) → Completes (.go n k) s (fun t => Bank.getD (t.sys.slice n).wake k.val [] = rest ∧ (t.sys.slice n).goHeld = (s.sys.slice n).goHeld ++ [(i.val, k.val)] ∧
      t.sys.msgs = s.sys.msgs ++ [.req n r] ∧ (t.sys.stop i).retried = (s.sys.stop i).retried.erase (n.val, r) ∧
      (∀ j : Fin 80, j ≠ i → t.sys.stop j = s.sys.stop j) ∧ s.OnlySlice t n (fun _ => false) [.msgs, .stops])) ∧
  (∀ (s : State) (n : Fin 64) (k : Fin 16) (i : Nat), s.Live → (s.sys.slice n).goHeld.find? (fun g => g.2 = k.val) = some (i, k.val) → s.sys.msgs = [] → Completes (.goHoldExpiry n k) s (fun t => (t.sys.slice n).goHeld = (s.sys.slice n).goHeld.erase (i, k.val) ∧
      Bank.getD (t.sys.slice n).wake k.val [] = Bank.getD (s.sys.slice n).wake k.val [] ++ [i] ∧ s.OnlySlice t n (fun _ => false) [])) ∧
  (∀ (s : State) (n : Fin 64) (i : Fin 80) (r : Req) (rest : List Msg), s.Live → takeMsg (Msg.isRetryDest n i) s.sys.msgs = some (.retryDest n r, rest) → Completes (.retryDest n i) s (fun t => t.sys.msgs = rest ∧ (t.sys.stop i).held = (s.sys.stop i).held ++ [r] ∧
      Bank.getD (t.sys.stop i).mem r.kennel 0 = Bank.getD (s.sys.stop i).mem r.kennel 0 + r.charge.1 ∧
      (i < 64 → (t.sys.stop i).inj = (s.sys.stop i).inj + r.charge.2) ∧
      (i < 64 → t.sys.rf F.TILE_MS_RETRY_DEST_RETRIES i = min (2 ^ F.TILE_MS_RETRY_DEST_RETRIES.wd - 1) (s.sys.rf F.TILE_MS_RETRY_DEST_RETRIES i + 1)) ∧
      (∀ j : Fin 80, j ≠ i → t.sys.stop j = s.sys.stop j) ∧
      s.Only t (fun k => k == ⟨.TILE_MS_RETRY, i, 0⟩ || grainReg k) [.msgs, .stops, .qosHeld])) ∧
  (∀ (s : State) (n : Fin 64) (i : Fin 80) (m : Msg) (rest : List Msg), s.Live → takeMsg (Msg.isNotice n i) s.sys.msgs = some (m, rest) → Completes (.holdNotice n i) s (fun t => t.sys.msgs = rest ∧ (t.sys.stop i).notices = n.val :: (s.sys.stop i).notices.erase n.val ∧
      (∀ j : Fin 80, j ≠ i → t.sys.stop j = s.sys.stop j) ∧ s.Only t grainReg [.msgs, .stops, .qosHeld])) ∧
  (∀ (s : State) (n : Fin 64) (dir : Fin 4) (run : Nat), s.Live → Completes (.meshReplay n dir run) s (fun t => t.sys.rf (if dir = 0 then F.TILE_MS_LINKERR_NORTH else if dir = 1 then F.TILE_MS_LINKERR_EAST else if dir = 2 then F.TILE_MS_LINKERR_SOUTH else F.TILE_MS_LINKERR_WEST) n = min 65535 (s.sys.rf (if dir = 0 then F.TILE_MS_LINKERR_NORTH else if dir = 1 then F.TILE_MS_LINKERR_EAST else if dir = 2 then F.TILE_MS_LINKERR_SOUTH else F.TILE_MS_LINKERR_WEST) n + 1) ∧
      t.sys.fcr.events = s.sys.fcr.events ++ [⟨srcTile n 8, 0⟩] ++ (if 16 ≤ run then [⟨srcTile n 9, 0⟩] else []) ∧
      s.Only t (fun k => k == ⟨.TILE_MS_LINKERR, n, 0⟩) [.fcr]))

/-- R321, R324, R330: the ledgers, chunks and pool of the memory grains. -/
def Obligations.GrainLedgers : Prop :=
  (∀ (s : State) (i : Fin 80) (k : Fin 16), s.Live → (s.sys.stop i).asked.contains k.val = true → 0 < s.sys.rf F.SYS_QOS_LEDGER_BALANCE k → s.sys.rf F.SYS_QOS_LEDGER_GRANTED k + 128 < 2 ^ F.SYS_QOS_LEDGER_GRANTED.wd → Completes (.grainChunkRequest i k) s (fun t =>
      t.sys.rf F.SYS_QOS_LEDGER_BALANCE k = s.sys.rf F.SYS_QOS_LEDGER_BALANCE k - min 128 (s.sys.rf F.SYS_QOS_LEDGER_BALANCE k) ∧
      t.sys.rf F.SYS_QOS_LEDGER_GRANTED k = s.sys.rf F.SYS_QOS_LEDGER_GRANTED k + min 128 (s.sys.rf F.SYS_QOS_LEDGER_BALANCE k) ∧
      t.sys.msgs = s.sys.msgs ++ [.chunk i k (min 128 (s.sys.rf F.SYS_QOS_LEDGER_BALANCE k)) s.sys.ticks] ∧
      (t.sys.stop i).asked = (s.sys.stop i).asked.erase k.val ∧ (∀ j : Fin 80, j ≠ i → t.sys.stop j = s.sys.stop j) ∧
      s.Only t (fun r => r == ⟨.SYS_QOS_LEDGER, k, 0⟩) [.msgs, .stops])) ∧
  (∀ (s : State) (i : Fin 80) (k : Fin 16), s.Live → (s.sys.stop i).asked.contains k.val = true → s.sys.rf F.SYS_QOS_LEDGER_BALANCE k = 0 → (s.sys.conf.kennel k).lend = true → (s.sys.conf.kennel k).enabled = true → 0 < s.sys.rf F.SYS_QOS_POOL_POOL → s.sys.rf F.SYS_QOS_LEND_BORROWED k + 128 < 2 ^ F.SYS_QOS_LEND_BORROWED.wd → Completes (.grainChunkRequest i k) s (fun t =>
      t.sys.rf F.SYS_QOS_POOL_POOL = s.sys.rf F.SYS_QOS_POOL_POOL - min 128 (s.sys.rf F.SYS_QOS_POOL_POOL) ∧
      t.sys.rf F.SYS_QOS_LEND_BORROWED k = s.sys.rf F.SYS_QOS_LEND_BORROWED k + min 128 (s.sys.rf F.SYS_QOS_POOL_POOL) ∧
      t.sys.msgs = s.sys.msgs ++ [.chunk i k (min 128 (s.sys.rf F.SYS_QOS_POOL_POOL)) s.sys.ticks] ∧
      s.Only t (fun r => r == ⟨.SYS_QOS_LEND, k, 0⟩ || r == ⟨.SYS_QOS_POOL, 0, 0⟩) [.msgs, .stops])) ∧
  (∀ (s : State) (i : Fin 80) (k : Fin 16) (g : Nat) (rest : List Msg), s.Live → takeMsg (Msg.isChunk i k) s.sys.msgs = some (.chunk i k g s.sys.ticks, rest) → (s.sys.stop i).held = [] → Bank.getD (s.sys.stop i).mem k.val 0 + g ≤ 255 → s.sys.links.all (fun p => p.2.inq.isEmpty && p.2.reset == .none) = true → Completes (.grainChunkGrant i k) s (fun t => t.sys.msgs = rest ∧ Bank.getD (t.sys.stop i).mem k.val 0 = Bank.getD (s.sys.stop i).mem k.val 0 + g ∧
      (∀ j : Fin 80, j ≠ i → t.sys.stop j = s.sys.stop j) ∧
      s.Only t (fun r => grainReg r || r.reg == .IOP_LINK_STATUS) [.msgs, .stops, .qosHeld])) ∧
  (∀ (s : State) (i : Fin 80) (k : Fin 16) (g tk : Nat) (rest : List Msg), s.Live → takeMsg (Msg.isChunk i k) s.sys.msgs = some (.chunk i k g tk, rest) → tk < s.sys.ticks → Completes (.grainChunkGrant i k) s (fun t => t.sys.msgs = rest ∧ (t.sys.stop i).asked.contains k.val = true ∧
      (t.sys.stop i).mem = (s.sys.stop i).mem ∧ (∀ j : Fin 80, j ≠ i → t.sys.stop j = s.sys.stop j) ∧ s.Only t (fun _ => false) [.msgs, .stops])) ∧
  (∀ (s : State), s.Live → s.sys.phase ≤ s.sys.spanS / 2 → s.sys.enabledKennels.filter (fun k => (s.sys.conf.kennel k).lend) = [3] → s.sys.rf F.SYS_QOS_POOL_POOL + s.sys.rf F.SYS_QOS_LEDGER_BALANCE 3 < 2 ^ F.SYS_QOS_POOL_POOL.wd → Completes .lendInstant s (fun t =>
      t.sys.rf F.SYS_QOS_LEDGER_BALANCE 3 = s.sys.rf F.SYS_QOS_LEDGER_BALANCE 3 - (s.sys.rf F.SYS_QOS_LEDGER_BALANCE 3 - s.sys.rf F.SYS_QOS_LEDGER_GRANTED 3) ∧
      t.sys.rf F.SYS_QOS_LEND_LENT 3 = s.sys.rf F.SYS_QOS_LEDGER_BALANCE 3 - s.sys.rf F.SYS_QOS_LEDGER_GRANTED 3 ∧
      t.sys.rf F.SYS_QOS_POOL_POOL = s.sys.rf F.SYS_QOS_POOL_POOL + (s.sys.rf F.SYS_QOS_LEDGER_BALANCE 3 - s.sys.rf F.SYS_QOS_LEDGER_GRANTED 3) ∧
      s.Only t (fun r => r == ⟨.SYS_QOS_LEDGER, 3, 0⟩ || r == ⟨.SYS_QOS_LEND, 3, 0⟩ || r == ⟨.SYS_QOS_POOL, 0, 0⟩) [.span])) ∧
  (∀ (s : State) (req : Requester) (k : Fin 16), s.Takes (.qosHoldcntClr req k) → Completes (.qosHoldcntClr req k) s (fun t => t.sys.rf F.SYS_QOS_HOLDCNT_SPANS_HELD k = 0 ∧
      t.sys.rf F.SYS_QOS_HOLDCNT_FIRST_PHASE k = s.sys.rf F.SYS_QOS_HOLDCNT_FIRST_PHASE k ∧
      s.Only t (fun r => r == ⟨.SYS_QOS_HOLDCNT, k, 0⟩ || r.reg == .SYS_CS_STATUS) accessParts))

/-- R88, R315, R318, R319, R332, R592: the links of the Brace. -/
def Obligations.BraceLinks : Prop :=
  (∀ (s : State) (b : Fin 3) (full : Bool) (id : Word) (sock : Bool) (pl : Byte), s.Live → s.sys.rf F.BRC_STATUS_STATE b = brcTraining → Completes (.braceTraining b full id sock pl) s (fun t => t.sys.rf F.BRC_STATUS_PEER_LINK b = pl.toNat % 2 ^ F.BRC_STATUS_PEER_LINK.wd ∧
      t.sys.rf F.BRC_STATUS_STATE b = (if full = false then brcDown else if s.sys.pairId ≠ id ∨ s.sys.socket = b2n sock then brcMismatch else brcUp) ∧
      (full = true → s.sys.pairId = id → s.sys.socket ≠ b2n sock → t.sys.rf F.BRC_STATUS_IN_MAP b = 1) ∧
      t.sys.fcr.events = s.sys.fcr.events ++ (if full = true ∧ (s.sys.pairId ≠ id ∨ s.sys.socket = b2n sock) then [⟨srcBrace b 2, 0⟩] else []) ∧
      s.Only t (fun k => k == ⟨.BRC_STATUS, b, 0⟩) [.fcr])) ∧
  (∀ (s : State) (b : Fin 3), s.Live → s.sys.rf F.BRC_STATUS_STATE b = brcUp → Completes (.braceLinkDown b) s (fun t => t.sys.rf F.BRC_STATUS_STATE b = brcDown ∧ (t.sys.braceSt b).downAt = some s.sys.ticks ∧
      (t.sys.braceSt b).sent = (s.sys.braceSt b).sent ∧ t.sys.fcr.events = s.sys.fcr.events ++ [⟨srcBrace b 1, 0⟩] ++
      (if (below 3).any (fun i => i != b.val && s.sys.rf F.BRC_STATUS_STATE i == brcUp) then [] else [⟨srcGlobal 5, 0⟩]) ∧
      (∀ c : Fin 3, c ≠ b → t.sys.braceSt c = s.sys.braceSt c) ∧ s.Only t (fun k => k == ⟨.BRC_STATUS, b, 0⟩) [.fcr, .brace])) ∧
  (∀ (s : State) (b : Fin 3) (seq : Nat), s.Live → Completes (.braceAck b seq) s (fun t => (t.sys.braceSt b).sent = (s.sys.braceSt b).sent.filter (fun m => m.seq ≠ seq) ∧
      (t.sys.braceSt b).seq = (s.sys.braceSt b).seq ∧ (∀ c : Fin 3, c ≠ b → t.sys.braceSt c = s.sys.braceSt c) ∧ s.Only t (fun _ => false) [.brace])) ∧
  (∀ (s : State) (b : Fin 3), s.Live → s.sys.rf F.BRC_STATUS_STATE b = brcUp → Completes (.braceFlitReplay b) s (fun t => t.sys.rf F.BRC_STATUS_REPLAYS b = min (2 ^ F.BRC_STATUS_REPLAYS.wd - 1) (s.sys.rf F.BRC_STATUS_REPLAYS b + 1) ∧
      t.sys.fcr.events = s.sys.fcr.events ++ [⟨srcBrace b 0, 0⟩] ∧ s.Only t (fun k => k == ⟨.BRC_STATUS, b, 0⟩) [.fcr])) ∧
  (∀ (s : State) (req : Requester) (b : Fin 3), s.Takes (.brcClrReplays req b) → Completes (.brcClrReplays req b) s (fun t => t.sys.rf F.BRC_STATUS_REPLAYS b = 0 ∧ t.sys.rf F.BRC_STATUS_STATE b = s.sys.rf F.BRC_STATUS_STATE b ∧
      s.Only t (fun r => r == ⟨.BRC_STATUS, b, 0⟩ || r == ⟨.BRC_CTL, b, 0⟩ || r.reg == .SYS_CS_STATUS) accessParts))

/-! ## Chapter 09 -/

/-- R338 to R342, R355, R358, R359, R372, R374: the queues of a channel. -/
def Obligations.McQueues : Prop :=
  (∀ (s : State) (m : Fin 16) (r : MRead) (rest : List MRead), s.Live → (s.sys.chan m).fwd = r :: rest → (s.sys.chan m).mwr = [] → s.sys.mcServes m = true → s.sys.mcState m ≠ mcFailing → Completes (.mcRead m) s (fun t => (t.sys.chan m).fwd = rest ∧
      ((s.sys.chan m).writeQ.any (fun e => e.1 = r.line) = false → (t.sys.chan m).readQ = (s.sys.chan m).readQ ++ [r] ∧ (t.sys.chan m).done = (s.sys.chan m).done) ∧
      ((s.sys.chan m).writeQ.any (fun e => e.1 = r.line) = true → (t.sys.chan m).readQ = (s.sys.chan m).readQ ∧
      (t.sys.chan m).done = (s.sys.chan m).done ++ [⟨r.line, r.slice, s.mem.line r.line, s.mem.poisoned r.line, false, false⟩]) ∧
      s.OnlyChan t m (fun _ => false) [])) ∧
  (∀ (s : State) (m : Fin 16) (r : MRead) (rest : List MRead), s.Live → (s.sys.chan m).fwd = r :: rest → (s.sys.chan m).mwr = [] → s.sys.mcServes m = false → Completes (.mcRead m) s (fun t => (t.sys.chan m).fwd = rest ∧
      (t.sys.chan m).done = (s.sys.chan m).done ++ [⟨r.line, r.slice, 0, s.sys.mcState m == mcOffline, s.sys.mcState m != mcOffline, false⟩] ∧
      s.OnlyChan t m (fun _ => false) [])) ∧
  (∀ (s : State) (m : Fin 16) (w : MWr) (rest : List MWr), s.Live → s.Inv → (s.sys.chan m).mwr = w :: rest → rest.contains w = false → s.sys.mcServes m = true → s.sys.mcState m ≠ mcFailing → s.sys.pair m ≠ 1 → (s.sys.chan m).writeQ.length < 192 → (s.sys.slice w.slice).txns = [] → Completes (.mcWrite m) s (fun t => (t.sys.chan m).mwr = rest ∧ (t.sys.chan m).writeQ.any (fun e => e.1 = w.line) = true ∧
      (t.sys.chan m).rewriteQ.any (fun e => e.1 = w.line) = false ∧ t.mem.line w.line = w.data ∧ t.mem.poisoned w.line = w.poison ∧
      (t.sys.chan m).readQ = (s.sys.chan m).readQ ∧ s.MemOnly t (64 * w.line) 64 ∧ (∀ c, c ≠ m → t.sys.chan c = s.sys.chan c) ∧
      s.sys.Frame t.sys (fun _ => false) [.chans])) ∧
  (∀ (s : State) (m : Fin 16) (q : MRead) (rest : List MRead), s.Live → (s.sys.chan m).issued = q :: rest → s.mem.poisoned q.line = false → Completes (.dramReadResult m .clean) s (fun t => (t.sys.chan m).issued = rest ∧
      (t.sys.chan m).done = (s.sys.chan m).done ++ [⟨q.line, q.slice, s.mem.line q.line, false, false, true⟩] ∧ s.OnlyChan t m (fun _ => false) [])) ∧
  (∀ (s : State) (m : Fin 16) (q : MRead) (rest : List MRead) (pb : Bool) (sy : Byte), s.Live → (s.sys.chan m).issued = q :: rest → s.mem.poisoned q.line = false → s.sys.pair m ≠ 1 ∨ pb = true → (s.sys.chan m).mark (s.sys.dramLoc m q.ca).sub (s.sys.dramLoc m q.ca).rank = 15 → (s.sys.chan m).rewriteQ.length < 16 → s.sys.on F.MC_ERR_LOG_VALID m = false → Completes (.dramReadResult m (.bad pb sy)) s (fun t => (t.sys.chan m).issued = rest ∧
      (t.sys.chan m).done.map (fun d => (d.line, d.slice, d.poison, d.err)) = (s.sys.chan m).done.map (fun d => (d.line, d.slice, d.poison, d.err)) ++ [(q.line, q.slice, true, false)] ∧
      (t.sys.chan m).rewriteQ.any (fun e => e.1 = q.line) = true ∧
      t.sys.rf F.MC_ERR_CNT_UE m = min (2 ^ F.MC_ERR_CNT_UE.wd - 1) (s.sys.rf F.MC_ERR_CNT_UE m + 1) ∧
      t.sys.rf F.MC_ERR_LOG_VALID m = 1 ∧ t.sys.rf F.MC_ERR_LOG_UE m = 1 ∧ t.sys.rf F.MC_ERR_LOG_MIRRORED m = 0 ∧ t.sys.rf F.MC_ERR_LOG_SOURCE m = srcDemand ∧
      t.sys.fcr.events.getLast? = some ⟨srcChan m 1, 0⟩ ∧
      s.OnlyChan t m (oneReg m [.MC_ERR_LOG, .MC_ERR_ADDR, .MC_ERR_CNT, .MC_PPR_STATUS]) [.fcr])) ∧
  (∀ (s : State) (m : Fin 16) (sub : Fin 2) (k : Nat) (ready : List (Fin 64 × Fin 8 × Fin 4)) (q : MRead) (o : OpenRow) (b : Fin 64 × Fin 8 × Fin 4), s.Live → s.sys.mcServes m = true → s.sys.inWindow = false → (s.sys.chan m).readQ = [q] → (s.sys.chan m).writeQ = [] → (s.sys.chan m).batch = false → (s.sys.chan m).rowsOpen = [o] → o.loc = s.sys.dramLoc m q.ca → o.loc.sub = sub.val → o.loc.bankOf = (b.1.val, b.2.1.val, b.2.2.val) → ready.contains b = true → Completes (.commandSlot m sub k ready) s (fun t => (t.sys.chan m).readQ = [] ∧
      (t.sys.chan m).issued = (s.sys.chan m).issued ++ [{ q with age := q.age + k }] ∧ (t.sys.chan m).rowsOpen = [⟨o.loc, 0, 0⟩] ∧
      s.OnlyChan t m (fun _ => false) [])) ∧
  (∀ (s : State) (m : Fin 16) (n : Nat), s.Live → Completes (.mcLinkRetry m n) s (fun t => t.sys.fcr.events = s.sys.fcr.events ++ (if 8 < n then [⟨srcChan m 5, 0⟩] else []) ∧
      (8 < n → t.sys.rf F.MC_ERR_LOG_VALID m = 1) ∧ s.Only t (fun k => decide (8 < n) && oneReg m [.MC_ERR_LOG, .MC_ERR_ADDR] k) [.fcr])) ∧
  (∀ (s : State) (req : Requester) (m : Fin 16) (v : Word), s.Takes (.spdRead req m v) → s.sys.on F.MC_SPD_GO m = false → Completes (.spdRead req m v) s (fun t => t.sys.rf F.MC_SPD_GO m = 1 ∧
      s.Only t (writeReg m [.MC_SPD]) accessParts)) ∧
  (∀ (s : State) (m : Fin 16) (d : Option (BitVec 32)), s.Live → s.sys.on F.MC_SPD_GO m = true → Completes (.spdReadDone m d) s (fun t => t.sys.rf F.MC_SPD_GO m = 0 ∧ (d.all (fun x => t.sys.rf F.MC_SPD_DATA m == x.toNat % 2 ^ F.MC_SPD_DATA.wd) = true) ∧
      (d = none → t.sys.rf F.MC_SPD_ERR m = 1) ∧ s.Only t (oneReg m [.MC_SPD]) []))

/-- R343 to R346, R351 to R353, R358, R360, R363, R369: the window's steps. -/
def Obligations.McWindow : Prop :=
  (∀ (s : State) (m : Fin 16), s.Live → s.sys.mcSteps m = true → s.sys.inWindow = true → (s.sys.chan m).stage ≤ 3 → (s.sys.chan m).used + s.sys.trfcsb m + 20 ≤ s.sys.span.window * 25 → (s.sys.chan m).debts.any (fun d => decide (624 ≤ d)) = true → Completes (.sameBankRefresh m) s (fun t => (t.sys.chan m).debts = (s.sys.chan m).debts.map (fun d => if 624 ≤ d then d - 624 else d) ∧
      (t.sys.chan m).sbBank = ((s.sys.chan m).sbBank + 1) % 4 ∧ (t.sys.chan m).used = (s.sys.chan m).used + s.sys.trfcsb m ∧ (t.sys.chan m).stage = 4 ∧
      t.sys.rf F.MC_REFRESH_SB_ISSUED m = min (2 ^ F.MC_REFRESH_SB_ISSUED.wd - 1) (s.sys.rf F.MC_REFRESH_SB_ISSUED m + 1) ∧
      s.OnlyChan t m (oneReg m [.MC_REFRESH]) [])) ∧
  (∀ (s : State) (m : Fin 16) (code : BitVec 3) (dbl hot : Bool), s.Live → s.sys.mcSteps m = true → s.sys.inWindow = true → (s.sys.chan m).stage ≤ 4 → (s.sys.chan m).used + 50 ≤ s.sys.span.window * 25 → s.sys.spanNo % 256 = 0 → Completes (.tempPoll m code dbl hot) s (fun t => t.sys.rf F.MC_STATUS_TEMP_CODE m = code.toNat ∧ (t.sys.chan m).stage = 5 ∧
      (dbl = true → (t.sys.chan m).dblNext = true) ∧ (dbl = false → 1 ≤ (s.sys.chan m).normPolls → (t.sys.chan m).dblNext = false) ∧
      t.sys.fcr.events = s.sys.fcr.events ++ (if hot then [⟨srcChan m 8, 0⟩] else []) ∧ s.OnlyChan t m (oneReg m [.MC_STATUS]) [.fcr])) ∧
  (∀ (s : State) (m : Fin 16) (d : RtDue), s.Live → s.sys.mcSteps m = true → s.sys.mcTrains m = true → s.sys.inWindow = true → (s.sys.chan m).stage ≤ 5 → (s.sys.chan m).used + d.kind.ns + 20 ≤ s.sys.span.window * 25 → (s.sys.chan m).nextDue = some d → Completes (.retrainStep m false) s (fun t => (t.sys.chan m).due = (s.sys.chan m).due.erase d ++ (match d.kind with
      | .oscStart => [⟨.oscRead, d.rank, s.sys.ticks + 1, d.pass⟩] | .zqStart => [⟨.zqLatch, d.rank, s.sys.ticks + 1, d.pass⟩] | _ => []) ∧
      (t.sys.chan m).stage = 6 ∧ (t.sys.chan m).used = (s.sys.chan m).used + d.kind.ns ∧ s.OnlyChan t m (fun _ => false) [])) ∧
  (∀ (s : State) (m : Fin 16), s.Live → (s.sys.chan m).due.any (fun d => decide (d.since + 1024 ≤ s.sys.ticks)) = true → s.sys.on F.MC_STATUS_RETRAIN_STARVED m = false → Completes (.retrainStarved m) s (fun t => t.sys.rf F.MC_STATUS_RETRAIN_STARVED m = 1 ∧ t.sys.fcr.events = s.sys.fcr.events ++ [⟨srcChan m 7, 0⟩] ∧
      s.Only t (oneReg m [.MC_STATUS]) [.fcr])) ∧
  (∀ (s : State) (m : Fin 16) (l : Nat) (p : Bool) (rest : List (Nat × Bool)), s.Live → s.sys.mcSteps m = true → s.sys.inWindow = true → (s.sys.chan m).stage ≤ 6 → (s.sys.chan m).used + 65 ≤ s.sys.span.window * 25 → (s.sys.chan m).rewriteQ = (l, p) :: rest → Completes (.rewriteLine m) s (fun t => (t.sys.chan m).rewriteQ = rest ∧ (t.sys.chan m).stage = 6 ∧
      (p = true → t.mem.poisoned l = true) ∧ (p = false → t.mem = s.mem) ∧ t.mem.dram = s.mem.dram ∧ t.mem.sram = s.mem.sram ∧ t.pending = s.pending ∧
      (∀ c, c ≠ m → t.sys.chan c = s.sys.chan c) ∧ s.sys.Frame t.sys (fun _ => false) [.chans])) ∧
  (∀ (s : State) (m : Fin 16) (ns : Bool) (r : Repair), s.Live → s.sys.mcSteps m = true → s.sys.mcInService m = true → s.sys.inWindow = true → (s.sys.chan m).stage ≤ 7 → (s.sys.chan m).used + 160 ≤ s.sys.span.window * 25 → (s.sys.chan m).repair = some r → s.sys.rf F.MC_PPR_STATUS_STEP m < 16 → Completes (.pprStep m [] ns) s (fun t => t.sys.rf F.MC_PPR_STATUS_STEP m = s.sys.rf F.MC_PPR_STATUS_STEP m + 1 ∧ (t.sys.chan m).stage = 8 ∧
      (t.sys.chan m).repair = some (if s.sys.rf F.MC_PPR_STATUS_STEP m = 8 ∧ ns = true then { r with noSpare := true } else r) ∧
      s.OnlyChan t m (oneReg m [.MC_PPR_STATUS]) [])) ∧
  (∀ (s : State) (m : Fin 16) (r : Repair), s.Live → s.sys.mcSteps m = true → s.sys.mcInService m = true → s.sys.inWindow = true → (s.sys.chan m).stage ≤ 7 → (s.sys.chan m).used + 160 ≤ s.sys.span.window * 25 → (s.sys.chan m).repair = some r → (s.sys.chan m).autoNext = none → r.noSpare = false → s.sys.rf F.MC_PPR_STATUS_STEP m = 16 → s.sys.on F.MC_PPR_LOG_VALID m 0 = false → Completes (.pprStep m [] false) s (fun t => t.sys.rf F.MC_PPR_STATUS_RESULT m = 2 ∧ t.sys.rf F.MC_PPR_CTL_GO m = 0 ∧ (t.sys.chan m).repair = none ∧
      t.sys.rf F.MC_PPR_LOG_VALID m 0 = 1 ∧ t.sys.rf F.MC_PPR_LOG_HARD m 0 = b2n r.hard ∧ t.sys.rf F.MC_PPR_LOG_ROW m 0 = r.loc.row % 2 ^ F.MC_PPR_LOG_ROW.wd ∧
      s.OnlyChan t m (oneReg m [.MC_PPR_STATUS, .MC_PPR_LOG, .MC_PPR_CTL]) [])) ∧
  (∀ (s : State) (m : Fin 16), s.Live → s.sys.mcSteps m = true → s.sys.mcState m = mcResilvering → (s.sys.chan m).pend = .none → s.sys.inWindow = true → (s.sys.chan m).stage ≤ 8 → (s.sys.chan m).used + 120 ≤ s.sys.span.window * 25 → s.sys.rf F.MC_RESILVER_POINTER m + 1 < 2 ^ F.MC_RESILVER_POINTER.wd → Completes (.resilverStep m) s (fun t => t.sys.rf F.MC_RESILVER_POINTER m = s.sys.rf F.MC_RESILVER_POINTER m + 1 ∧ (t.sys.chan m).stage = 8 ∧
      (t.sys.chan m).used = (s.sys.chan m).used + 100 ∧
      (t.sys.chan m).pend = (if s.sys.conf.pairEnd m ≤ (s.sys.rf F.MC_RESILVER_POINTER m + 1) * 1024 then .resilvered else .none) ∧
      s.OnlyChan t m (oneReg m [.MC_RESILVER]) [])) ∧
  (∀ (s : State) (m : Fin 16) (l : List DramResult), s.Live → s.sys.mcSteps m = true → s.sys.inWindow = true → (s.sys.chan m).stage ≤ 9 → (s.sys.chan m).used + 60 ≤ s.sys.span.window * 25 → 0 < s.sys.scrubCost m → 8 * s.sys.scrubCost m ≤ (s.sys.chan m).allowance → s.sys.rf F.MC_SCRUB_POINTER m + 8 < s.sys.chanLines m → s.sys.rf F.MC_SCRUB_POINTER m + 8 < 2 ^ F.MC_SCRUB_POINTER.wd → l.all (fun r => r == .clean) = true → s.mem.poison = [] → Completes (.scrubBatch m l) s (fun t => t.sys.rf F.MC_SCRUB_POINTER m = s.sys.rf F.MC_SCRUB_POINTER m + 8 ∧
      (t.sys.chan m).allowance = (s.sys.chan m).allowance - 8 * s.sys.scrubCost m ∧ (t.sys.chan m).stage = 9 ∧ s.OnlyChan t m (oneReg m [.MC_SCRUB]) []))

/-- R347, R353, R354, R362, R366, R368, R369, R371, R373, R374: commands of MC_CTL and MC_PPR_CTL. -/
def Obligations.McCommands : Prop :=
  (∀ (s : State) (req : Requester) (m : Fin 16) (v : Word), s.Takes (.train req m v) → s.McAlone m F.MC_CTL_TRAIN v → Completes (.train req m v) s (fun t =>
      (s.sys.mcState m = mcUntrained → t.sys.mcState m = mcTraining ∧ t.sys.rf F.MC_TRAIN_STATUS_PHASE m = 1) ∧
      (s.sys.mcState m = mcEvacuated → t.sys.mcState m = mcTrainingE) ∧
      (s.sys.mcState m ≠ mcUntrained → s.sys.mcState m ≠ mcEvacuated → t.sys.mcState m = s.sys.mcState m ∧ t.sys.rf F.MC_CTL_CMD_ERR m = 1) ∧
      s.Only t (writeReg m [.MC_CTL, .MC_STATUS, .MC_TRAIN_STATUS]) (.pwr :: accessParts))) ∧
  (∀ (s : State) (m : Fin 16) (fail : Option TrainFail) (rate ms : BitVec 16) (code : BitVec 3) (dbl : Bool), s.Live → s.sys.mcState m = mcTraining ∨ s.sys.mcState m = mcTrainingE → Completes (.trainDone m fail rate ms code dbl) s (fun t =>
      (fail = none → t.sys.mcState m = (if s.sys.mcState m = mcTraining then mcReady else mcEvacuated) ∧ t.sys.rf F.MC_STATUS_TRAINED m = 1 ∧
      t.sys.rf F.MC_TRAIN_STATUS_PHASE m = 15 ∧ t.sys.rf F.MC_STATUS_RATE_ACT m = min rate.toNat (s.sys.rf F.MC_CFG_RATE m) % 2 ^ F.MC_STATUS_RATE_ACT.wd) ∧
      (∀ f ∈ fail, t.sys.mcState m = (if s.sys.mcState m = mcTraining then mcUntrained else mcEvacuated) ∧ t.sys.rf F.MC_STATUS_TRAINED m = 0 ∧
      t.sys.rf F.MC_TRAIN_STATUS_PHASE m = 0 ∧ t.sys.rf F.MC_TRAIN_STATUS_FAIL_CODE m = f.code.toNat % 2 ^ F.MC_TRAIN_STATUS_FAIL_CODE.wd ∧
      t.sys.fcr.events = s.sys.fcr.events ++ [⟨srcChan m 6, 0⟩]) ∧
      s.OnlyChan t m (oneReg m [.MC_STATUS, .MC_TRAIN_STATUS]) [.fcr])) ∧
  (∀ (s : State) (req : Requester) (m : Fin 16) (v : Word), s.Takes (.retrain req m v) → s.McAlone m F.MC_CTL_RETRAIN v → (s.sys.chan m).due.any (fun d => d.pass) = false → Completes (.retrain req m v) s (fun t => (t.sys.chan m).due = (below (s.sys.chanRanks m)).flatMap (fun r =>
      [⟨.oscStart, r, s.sys.ticks, true⟩, ⟨.zqStart, r, s.sys.ticks, true⟩, ⟨.center, r, s.sys.ticks, true⟩]) ++ (s.sys.chan m).due ∧
      s.OnlyChan t m (writeReg m [.MC_CTL]) (.pwr :: accessParts))) ∧
  (∀ (s : State) (req : Requester) (m : Fin 16) (v : Word), s.Takes (.mcEn req m v) → s.McAlone m F.MC_CTL_EN v → Completes (.mcEn req m v) s (fun t =>
      (s.sys.mcState m = mcReady → t.sys.mcState m = (if s.sys.conf.inSet m && !(s.sys.chan m).evac then mcActive else mcEvacuated)) ∧
      (s.sys.mcState m ≠ mcReady → t.sys.mcState m = s.sys.mcState m ∧ t.sys.rf F.MC_CTL_CMD_ERR m = 1) ∧
      s.Only t (writeReg m [.MC_CTL, .MC_STATUS]) (.pwr :: accessParts))) ∧
  (∀ (s : State) (req : Requester) (m : Fin 16) (v : Word), s.Takes (.evacuate req m v) → s.McAlone m F.MC_CTL_EVACUATE v → Completes (.evacuate req m v) s (fun t =>
      (s.sys.pair m = 1 → s.sys.mcState m = mcActive → (t.sys.chan m).pend = .evacuate ∧ (t.sys.chan m).since = s.sys.ticks) ∧
      (s.sys.pair m ≠ 1 ∨ s.sys.mcState m ≠ mcActive → t.sys.chan m = s.sys.chan m ∧ t.sys.rf F.MC_CTL_CMD_ERR m = 1) ∧ t.sys.mcState m = s.sys.mcState m ∧
      s.OnlyChan t m (writeReg m [.MC_CTL]) (.pwr :: accessParts))) ∧
  (∀ (s : State) (req : Requester) (m : Fin 16) (v : Word), s.Takes (.resilver req m v) → s.McAlone m F.MC_CTL_RESILVER v → s.sys.mcState m = mcEvacuated → s.sys.on F.MC_STATUS_TRAINED m = true → s.sys.pair m = 2 → s.sys.mcState (partner m) = mcActive → Completes (.resilver req m v) s (fun t => t.sys.mcState m = mcResilvering ∧ t.sys.pair m = 3 ∧ t.sys.pair (partner m) = 3 ∧
      t.sys.rf F.MC_RESILVER_POINTER m = 0 ∧
      s.Only t (fun k => writeReg m [.MC_CTL, .MC_STATUS, .MC_RESILVER] k || oneReg (partner m) [.MC_STATUS] k) (.pwr :: accessParts))) ∧
  (∀ (s : State) (req : Requester) (m : Fin 16) (v : Word), s.Takes (.sr req m v) → s.McAlone m F.MC_CTL_SR v → s.sys.mcState m = mcActive ∨ s.sys.mcState m = mcResilvering ∨ s.sys.mcState m = mcEvacuated → Completes (.sr req m v) s (fun t => t.sys.mcState m = mcSelfRefresh ∧ (t.sys.chan m).writeQ = [] ∧ (t.sys.chan m).readQ = (s.sys.chan m).readQ ∧
      s.OnlyChan t m (writeReg m [.MC_CTL, .MC_STATUS]) (.pwr :: accessParts))) ∧
  (∀ (s : State) (req : Requester) (m : Fin 16) (v : Word), s.Takes (.pwrOff req m v) → s.McAlone m F.MC_CTL_PWR_OFF v → s.sys.rf F.MC_CTL_PWR_OFF m = 0 → Completes (.pwrOff req m v) s (fun t =>
      (s.sys.mcState m = mcEvacuated ∨ s.sys.mcState m = mcOff → t.sys.rf F.MC_CTL_PWR_OFF m = 1) ∧
      (s.sys.mcState m ≠ mcEvacuated → s.sys.mcState m ≠ mcOff → t.sys.rf F.MC_CTL_PWR_OFF m = 0 ∧ t.sys.rf F.MC_CTL_CMD_ERR m = 1) ∧
      s.Only t (writeReg m [.MC_CTL]) (.pwr :: accessParts))) ∧
  (∀ (s : State) (m : Fin 16), s.Live → s.sys.mcState m = mcFailing → (s.sys.chan m).since < s.sys.ticks → s.sys.mcState (partner m) = mcActive → Completes (.failoverTick m) s (fun t => t.sys.mcState m = mcEvacuated ∧ t.sys.rf F.MC_STATUS_FAILED m = 1 ∧ t.sys.pair m = 2 ∧ t.sys.pair (partner m) = 2 ∧
      (t.sys.chan m).evac = true ∧ (t.sys.chan m).writeQ = [] ∧ t.sys.fcr.events = s.sys.fcr.events ++ [⟨srcChan m 11, 0⟩] ∧
      s.OnlyChan t m (fun k => oneReg m [.MC_STATUS] k || oneReg (partner m) [.MC_STATUS] k) [.fcr])) ∧
  (∀ (s : State) (m : Fin 16), s.Live → (s.sys.chan m).pend = .evacuate → (s.sys.chan m).since < s.sys.ticks → s.sys.mcState m = mcActive → s.sys.pair m = 1 → (s.sys.chan m).repair = none → Completes (.evacuateTick m) s (fun t => t.sys.mcState m = mcEvacuated ∧ t.sys.pair m = 2 ∧ (t.sys.chan m).readQ = [] ∧ (t.sys.chan m).issued = [] ∧
      (t.sys.chan (partner m)).readQ = (s.sys.chan (partner m)).readQ ++ (s.sys.chan m).issued ++ (s.sys.chan m).readQ ∧ (t.sys.chan m).evac = true ∧
      s.Only t (fun k => oneReg m [.MC_STATUS] k || oneReg (partner m) [.MC_STATUS] k) [.chans])) ∧
  (∀ (s : State) (m : Fin 16), s.Live → (s.sys.chan m).pend = .resilvered → (s.sys.chan m).since < s.sys.ticks → s.sys.mcState m = mcResilvering → Completes (.resilverComplete m) s (fun t => t.sys.mcState m = mcActive ∧ t.sys.pair m = 1 ∧ t.sys.pair (partner m) = 1 ∧ (t.sys.chan m).evac = false ∧
      s.OnlyChan t m (fun k => oneReg m [.MC_STATUS] k || oneReg (partner m) [.MC_STATUS] k) [])) ∧
  (∀ (s : State) (req : Requester) (m : Fin 16) (v : Word), s.Takes (.pprStart req m v) → (s.sys.chan m).repair = none → Completes (.pprStart req m v) s (fun t =>
      ((if t.sys.on F.MC_PPR_CTL_HARD m then [mcEvacuated, mcReady, mcUntrained].contains (s.sys.mcState m)
      else [mcActive, mcResilvering, mcEvacuated].contains (s.sys.mcState m)) = true →
      t.sys.rf F.MC_PPR_CTL_GO m = 1 ∧ t.sys.rf F.MC_PPR_STATUS_STEP m = 0 ∧ t.sys.rf F.MC_PPR_STATUS_RESULT m = 1 ∧
      (t.sys.chan m).repair.map (fun r => (r.loc.row, r.hard)) = some (t.sys.rf F.MC_PPR_CTL_ROW m, t.sys.on F.MC_PPR_CTL_HARD m)) ∧
      ((if t.sys.on F.MC_PPR_CTL_HARD m then [mcEvacuated, mcReady, mcUntrained].contains (s.sys.mcState m)
      else [mcActive, mcResilvering, mcEvacuated].contains (s.sys.mcState m)) = false →
      t.sys.rf F.MC_PPR_STATUS_RESULT m = 5 ∧ t.sys.chan m = s.sys.chan m) ∧
      s.OnlyChan t m (writeReg m [.MC_PPR_CTL, .MC_PPR_STATUS]) accessParts))

/-! ## Chapter 10 -/

/-- R377 to R379: the states of a kennel and the steps of its reset. -/
def Obligations.KennelControl : Prop :=
  (∀ (s : State) (req : Requester) (k : Fin 16) (v : Word), s.Takes (.kennelStop req k v) → s.sys.kState k = kRunning ∨ s.sys.kState k = kHeld → fget v 1 1 = 0 → Completes (.kennelStop req k v) s (fun t => t.sys.kState k = kStopping ∧ t.sys.rf F.SYS_KCTL_STOP k = 1 ∧ t.sys.rf F.SYS_KCTL_CAUSE k = 1 ∧
      (s.sys.kennelHarts k).all (fun h => [psHalted, psStopped, psResetHeld, psOffline].contains (t.sys.coreState h)) = true ∧
      s.sys.KeepsHarts t.sys (fun h => (s.sys.kennelHarts k).contains h) ∧
      (s.sys.kennelHarts k).all (fun h => (t.sys.hart h).pc == (s.sys.hart h).pc && (t.sys.hart h).x == (s.sys.hart h).x && (t.sys.hart h).l1d == (s.sys.hart h).l1d) = true ∧
      s.Only t (fun q => oneReg k [.SYS_KCTL] q || (s.sys.kennelTiles k).contains q.i && [Reg.TILE_CORE_PWR, .TILE_PACK_FREQ].contains q.reg || [Reg.SYS_CS_STATUS, .ICN_DOM_CFG, .ICN_DOM_STATUS, .ICN_SRC, .ICN_CTX_THRESH,
      .ICN_MCTX_THRESH, .ICN_DRM_THRESH].contains q.reg) (.harts :: .icn :: .fcr :: accessParts))) ∧
  (∀ (s : State) (req : Requester) (k : Fin 16) (v : Word), s.Takes (.kennelStop req k v) → s.sys.kState k = kDisabled ∨ s.sys.kState k = kResetting → fget v 1 1 = 0 → fget v 3 1 = 0 → Completes (.kennelStop req k v) s (fun t => t.sys.rf F.SYS_KCTL_CMD_ERR k = 1 ∧ t.sys.kState k = s.sys.kState k ∧
      t.sys.rf F.SYS_KCTL_STOP k = s.sys.rf F.SYS_KCTL_STOP k ∧ s.Only t (fun q => oneReg k [.SYS_KCTL] q || q.reg == .SYS_CS_STATUS) accessParts)) ∧
  (∀ (s : State) (req : Requester) (k : Fin 16) (v : Word), s.Takes (.kennelReset req k v) → s.sys.kState k = kRunning ∨ s.sys.kState k = kHeld ∨ s.sys.kState k = kStopped → (Bank.get? s.sys.kresets k).isNone = true → s.sys.kennelConcerned k = false → fget v 2 1 = 0 → Completes (.kennelReset req k v) s (fun t => t.sys.kState k = kResetting ∧ t.sys.rf F.SYS_KCTL_RESET k = 1 ∧ t.sys.rf F.SYS_KCTL_CAUSE k = 1 ∧
      Bank.get? t.sys.kresets k = some .halting ∧
      (s.sys.kennelHarts k).all (fun h => [psHalted, psStopped, psResetHeld, psOffline].contains (t.sys.coreState h)) = true ∧
      s.sys.KeepsHarts t.sys (fun h => (s.sys.kennelHarts k).contains h) ∧
      s.Only t (fun q => oneReg k [.SYS_KCTL] q || (s.sys.kennelTiles k).contains q.i && [Reg.TILE_CORE_PWR, .TILE_PACK_FREQ].contains q.reg || [Reg.SYS_CS_STATUS, .PWR_KREL, .ICN_DOM_CFG, .ICN_DOM_STATUS, .ICN_SRC, .ICN_CTX_THRESH,
      .ICN_MCTX_THRESH, .ICN_DRM_THRESH].contains q.reg) (.harts :: .icn :: .fcr :: .kresets :: accessParts))) ∧
  (∀ (s : State) (req : Requester) (k : Fin 16) (v : Word), s.Takes (.kennelReset req k v) → s.sys.kState k = kDisabled ∨ s.sys.kState k = kResetting → fget v 2 1 = 0 → fget v 3 1 = 0 → Completes (.kennelReset req k v) s (fun t => t.sys.rf F.SYS_KCTL_CMD_ERR k = 1 ∧ t.sys.kState k = s.sys.kState k ∧
      t.sys.rf F.SYS_KCTL_RESET k = s.sys.rf F.SYS_KCTL_RESET k ∧ s.Only t (fun q => oneReg k [.SYS_KCTL] q || q.reg == .SYS_CS_STATUS) accessParts)) ∧
  (∀ (s : State) (k : Fin 16), s.Live → s.sys.kState k = kStopping → (s.sys.kennelHarts k).all (fun h => (s.sys.hart h).rob.isEmpty && (s.sys.hart h).sq.isEmpty && (s.sys.hart h).wcb.isEmpty) = true → Completes (.kennelStopDone k) s (fun t => t.sys.kState k = kStopped ∧ t.sys.rf F.SYS_KCTL_STOP k = 0 ∧
      (s.sys.kennelHarts k).all (fun h => (t.sys.hart h).pc == (s.sys.hart h).pc && (t.sys.hart h).x == (s.sys.hart h).x && (t.sys.hart h).f == (s.sys.hart h).f && (t.sys.hart h).v == (s.sys.hart h).v && (t.sys.hart h).priv == (s.sys.hart h).priv) = true ∧
      s.sys.KeepsHarts t.sys (fun h => (s.sys.kennelHarts k).contains h) ∧
      s.sys.stops.all (fun p => (t.sys.stop p.1).held.all (fun r => r.kennel != k.val)) = true ∧
      s.Only t (fun q => oneReg k [.SYS_KCTL] q || grainReg q) [.harts, .stops, .qosHeld])) ∧
  (∀ (s : State) (k : Fin 16), s.Live → s.sys.kState k = kResetting → Bank.get? s.sys.kresets k = some .halting → s.sys.pwr.cores = [] → (s.sys.kennelHarts k).all (fun h => (s.sys.hart h).rob.isEmpty && (s.sys.hart h).sq.isEmpty && (s.sys.hart h).wcb.isEmpty) = true → Completes (.kennelStopDone k) s (fun t => Bank.get? t.sys.kresets k = some .units ∧ t.sys.icn.inReset.contains k = true ∧
      (s.sys.kennelHarts k).all (fun h => if s.sys.coreState h = psOffline then t.sys.coreState h == psOffline else
      let u := t.sys.hart h
      t.sys.coreState h == psResetHeld && u.priv == 3 && !u.virt && u.sfb == [] && u.side == [] && u.streams == [] && u.pred == [] && u.tlbD == [] && u.tlbI == [] &&
      u.tlbL2 == [] && u.tlbG == [] && u.wc1 == [] && u.wcU == [] && u.slots == [] && u.l1d == (s.sys.hart h).l1d && u.l2 == (s.sys.hart h).l2 &&
      t.sys.rf F.TILE_CORE_START_GO (h / 4) (h % 4) == 0) = true ∧
      (s.sys.kennelTiles k).all (fun n => t.sys.holdCount n == 0) = true ∧
      s.sys.KeepsHarts t.sys (fun h => (s.sys.kennelHarts k).contains h) ∧
      t.sys.conf = s.sys.conf ∧ t.sys.regionNow = s.sys.regionNow ∧ t.mem = s.mem)) ∧
  (∀ (s : State) (k : Fin 16), s.Live → Bank.get? s.sys.kresets k = some .units → s.sys.linksResetting k = false → s.sys.rtvResetDone k = true → Completes (.kennelResetDone k) s (fun t => t.sys.kState k = kHeld ∧ t.sys.rf F.SYS_KCTL_RESET k = 0 ∧ Bank.get? t.sys.kresets k = none ∧
      t.sys.icn.inReset.contains k = false ∧ t.sys.harts = s.sys.harts ∧
      t.sys.rf F.ICN_DOM_STATUS_POST_ERR k = 0 ∧ t.sys.rf F.ICN_DOM_PTAB_VCPUS k = 0 ∧ t.sys.rd ⟨.ICN_DOM_LOST, k, 0⟩ = s.sys.rd ⟨.ICN_DOM_LOST, k, 0⟩))

/-- R389, R392 to R395: the commands of the OWN block. Atomicity of a page's release is the model's (log 52). -/
def Obligations.OwnerTable : Prop :=
  (∀ (s : State) (req : Requester) (v : Word), s.Takes (.ownInv req v) → Completes (.ownInv req v) s (fun t => t.sys.rf F.OWN_INV_GO = 1 ∧
      (fget v 62 1 = 1 → t.sys.slices.all (fun q => q.2.oc.isEmpty) = true) ∧
      (fget v 62 1 = 0 → t.sys.slices.map (fun q => (q.1, q.2.oc)) =
      s.sys.slices.map (fun q => (q.1, q.2.oc.filter (fun e => e.line ≠ s.sys.ownAddr (4096 * fget v 12 40) / 64)))) ∧
      t.sys.slices.map (fun q => (q.1, q.2.sectors, q.2.sf, q.2.txns)) = s.sys.slices.map (fun q => (q.1, q.2.sectors, q.2.sf, q.2.txns)) ∧
      s.Only t (fun q => q.reg == .OWN_INV || q.reg == .SYS_CS_STATUS) (.slices :: accessParts))) ∧
  (∀ (s : State), s.Live → Completes .ownInvDone s (fun t => t.sys.rf F.OWN_INV_GO = 0 ∧ s.Only t (fun q => q.reg == .OWN_INV) [])) ∧
  (∀ (s : State) (req : Requester) (v : Word) (b : Nat), s.Takes (.set req v) → s.sys.rf F.OWN_CMD_GO = 0 → fget v 0 32 = 1 → fget v 34 1 = 0 → fget v 32 1 = 0 ∨ (s.sys.conf.kennel (fget v 35 4)).enabled = true → s.sys.socket * dramWindow / 4096 ≤ s.sys.ownFirst → s.sys.ownFirst < s.sys.socket * dramWindow / 4096 + s.sys.rf F.OWN_TABLE_PAGES_PAGES → s.ctx.tableByte s.sys.ownFirst = some b → bit b 0 = false → s.sys.regionBars s.sys.ownFirst 1 (fget v 32 8) = false → Completes (.set req v) s (fun t => t.ctx.tableByte s.sys.ownFirst = some (fget v 32 8) ∧ t.sys.rf F.OWN_STATUS_DONE = 1 ∧ t.sys.rf F.OWN_STATUS_BUSY = 0 ∧
      t.sys.rf F.OWN_STATUS_DONE_PAGES = 1 ∧ t.sys.rf F.OWN_CMD_GO = 0 ∧ t.sys.own.op = 0 ∧
      t.sys.slices.all (fun q => q.2.oc.all (fun e => e.line != s.sys.ownAddr (4096 * s.sys.ownFirst) / 64)) = true)) ∧
  (∀ (s : State) (req : Requester) (v : Word) (b : Nat), s.Takes (.releaseOwnership req v) → s.sys.rf F.OWN_CMD_GO = 0 → fget v 0 32 = 1 → fget v 32 1 = 0 → fget v 34 1 = 0 → fget v 48 1 = 0 → s.sys.socket * dramWindow / 4096 ≤ s.sys.ownFirst → s.sys.ownFirst < s.sys.socket * dramWindow / 4096 + s.sys.rf F.OWN_TABLE_PAGES_PAGES → s.ctx.tableByte s.sys.ownFirst = some b → bit b 0 = true → bit b 1 = false → s.sys.regionBars s.sys.ownFirst 1 (fget v 32 8) = false → Completes (.releaseOwnership req v) s (fun t => t.ctx.tableByte s.sys.ownFirst = some 0 ∧ t.sys.own.page = s.sys.ownFirst ∧ t.sys.own.purge = some b ∧
      t.sys.own.op = 2 ∧ t.sys.rf F.OWN_CMD_GO = 1 ∧ t.sys.rf F.OWN_STATUS_BUSY = 1 ∧ t.sys.rf F.OWN_STATUS_DONE_PAGES = 0)) ∧
  (∀ (s : State) (req : Requester) (v : Word), s.Takes (.set req v) → s.sys.rf F.OWN_CMD_GO = 0 → fget v 0 32 = 0 ∨ s.sys.ownFirst < s.sys.socket * dramWindow / 4096 ∨ s.sys.socket * dramWindow / 4096 + s.sys.rf F.OWN_TABLE_PAGES_PAGES < s.sys.ownFirst + fget v 0 32 → Completes (.set req v) s (fun t => t.sys.rf F.OWN_STATUS_CMD_ERR = 1 ∧ t.sys.rf F.OWN_STATUS_ERR = 1 ∧ t.sys.rf F.OWN_STATUS_BUSY = 0 ∧ t.sys.rf F.OWN_CMD_GO = 0 ∧
      s.Only t (fun q => q.reg == .OWN_CMD || q.reg == .OWN_STATUS || q.reg == .SYS_CS_STATUS) (.own :: accessParts))) ∧
  (∀ (s : State) (req : Requester) (v : Word), s.Takes (.releaseOwnership req v) → s.sys.rf F.OWN_CMD_GO = 1 → Completes (.releaseOwnership req v) s (fun t => t.sys.rf F.OWN_STATUS_CMD_ERR = 1 ∧ t.sys.rf F.OWN_STATUS_ERR = 5 ∧
      t.sys.rd ⟨.OWN_CMD, 0, 0⟩ = s.sys.rd ⟨.OWN_CMD, 0, 0⟩ ∧ s.Only t (fun q => q.reg == .OWN_STATUS || q.reg == .SYS_CS_STATUS) accessParts)) ∧
  (∀ (s : State) (p b : Nat), s.Live → s.sys.own.purge = some b → s.sys.own.page = p → bit b 1 = false → s.sys.rf F.OWN_CMD_SCRUB = 0 → s.sys.own.engine = none → s.sys.pageQuiet p = true → s.sys.ownPages ≤ s.sys.rf F.OWN_STATUS_DONE_PAGES + 1 → s.sys.rf F.OWN_STATUS_DONE_PAGES < 2 ^ 32 - 1 → (s.ctx.tableByte p).isSome = true → s.sys.ownAddr (4096 * p) / 4096 ≠ p → Completes .releasePageDone s (fun t => t.ctx.tableByte p = some (s.sys.ownNew % 256) ∧
      t.sys.rf F.OWN_STATUS_DONE_PAGES = s.sys.rf F.OWN_STATUS_DONE_PAGES + 1 ∧ t.sys.rf F.OWN_STATUS_DONE = 1 ∧ t.sys.rf F.OWN_STATUS_BUSY = 0 ∧
      t.sys.own.purge = none ∧ t.sys.own.op = 0 ∧
      t.sys.harts.all (fun q => (q.2.l1d ++ q.2.l2).all (fun c => c.line / 64 != p)) = true ∧
      t.sys.slices.all (fun q => q.2.sf.all (fun e => e.line / 64 != p) && (below 64).all (fun i => (t.sys.llcLine q.1 (64 * p + i)).isNone)) = true))

/-- R402: the secure hold count of a station. -/
def Obligations.HoldCounts : Prop :=
  (∀ (s : State) (req : Requester) (st : Fin 109) (via : Bool) (v : Word), s.Takes (.sholdIncrement req st via v) → (s.sys.whoIs req).1.secure = true → Completes (.sholdIncrement req st via v) s (fun t =>
      (s.sys.holdCount st < 255 → t.sys.holdCount st = s.sys.holdCount st + 1) ∧
      (s.sys.holdCount st = 255 → t.sys.holdCount st = 255 ∧ t.sys.rf F.PWR_SHOLD_SAT st = 1) ∧
      s.Only t (fun q => oneReg st [.PWR_SHOLD] q || q.reg == .SYS_CS_STATUS) accessParts)) ∧
  (∀ (s : State) (req : Requester) (st : Fin 109) (via : Bool) (v : Word), s.Takes (.sholdDecrement req st via v) → (s.sys.whoIs req).1.secure = true → s.sys.pwr.deferred.all (fun d => d.station != st.val) = true → Completes (.sholdDecrement req st via v) s (fun t =>
      (0 < s.sys.holdCount st → t.sys.holdCount st = s.sys.holdCount st - 1) ∧
      (s.sys.holdCount st = 1 → t.sys.rf F.PWR_SHOLD_PENDING st = 0) ∧
      (s.sys.holdCount st = 0 → t.sys.holdCount st = 0 ∧ t.sys.rf F.PWR_SHOLD_SAT st = 1) ∧
      s.Only t (fun q => oneReg st [.PWR_SHOLD] q || q.reg == .SYS_CS_STATUS) (.pwr :: accessParts))) ∧
  (∀ (s : State) (req : Requester) (st : Fin 109) (via : Bool) (v : Word), s.Takes (.sholdIncrement req st via v) → (s.sys.whoIs req).1.secure = false → Completes (.sholdIncrement req st via v) s (fun t => t.sys.holdCount st = s.sys.holdCount st ∧ t.sys.rf F.PWR_SHOLD_N_OP st = 1 ∧
      s.Only t (fun q => oneReg st [.PWR_SHOLD] q || q.reg == .SYS_CS_STATUS) accessParts)) ∧
  (∀ (s : State) (req : Requester) (st : Fin 109) (via : Bool) (v : Word), s.Takes (.sholdDecrement req st via v) → (s.sys.whoIs req).1.secure = false → Completes (.sholdDecrement req st via v) s (fun t => t.sys.holdCount st = s.sys.holdCount st ∧ t.sys.rf F.PWR_SHOLD_N_OP st = 1 ∧
      s.Only t (fun q => oneReg st [.PWR_SHOLD] q || q.reg == .SYS_CS_STATUS) accessParts))

/-! ## Chapter 11 -/

/-- R416 to R419, R422, R425, R427, R432: the registers of the contexts. -/
def Obligations.ClaimComplete : Prop :=
  (∀ (s : State) (req : Requester) (ctx : ClaimCtx) (d id : Nat), s.Takes (.icnClaim req ctx) → s.sys.domOf ctx.claim = some d → s.sys.on F.ICN_DOM_CFG_CLK_STOPPED d = false → s.sys.heeled = false ∨ d = 15 → s.sys.srcEligible d id = true → (s.sys.srcCtxs d id).contains ctx.claim.thresh = true → s.sys.rf F.ICN_SRC_PRIORITY d id > fget (s.sys.rd ctx.claim.thresh) 0 4 → (s.sys.srcIds d).all (fun j => !(s.sys.srcEligible d j && (s.sys.srcCtxs d j).contains ctx.claim.thresh) || j == id || s.sys.srcBetter d id j) = true → Completes (.icnClaim req ctx) s (fun t => t.sys.resp = .done (BitVec.ofNat 64 id) ∧ t.sys.rf F.ICN_SRC_ACTIVE d id = 1 ∧
      (s.sys.srcLevel d id = false → t.sys.rf F.ICN_SRC_PENDING d id = 0) ∧ t.sys.icn.admitted.contains (d, id) = false ∧
      t.sys.icn.holdoff = (if s.sys.rf F.ICN_GRP_HOLDOFF d (s.sys.rf F.ICN_SRC_GROUP d id) = 0 then s.sys.icn.holdoff
      else Bank.set s.sys.icn.holdoff (d, s.sys.rf F.ICN_SRC_GROUP d id)
      (s.sys.span.now + (s.sys.rf F.ICN_GRP_HOLDOFF d (s.sys.rf F.ICN_SRC_GROUP d id) * s.sys.spanS + 63) / 64)) ∧
      s.sys.regs.all (fun q => !lineReg q.1 || fget (t.sys.rd q.1) 0 4 == fget (s.sys.rd q.1) 0 4) = true ∧
      s.Only t (fun q => q.reg == .ICN_SRC && q.i == d && q.j == id || lineReg q) (.icn :: accessParts))) ∧
  (∀ (s : State) (req : Requester) (ctx : ClaimCtx) (d : Nat), s.Takes (.icnClaim req ctx) → s.sys.domOf ctx.claim = some d → s.sys.on F.ICN_DOM_CFG_CLK_STOPPED d = false → (s.sys.srcIds d).all (fun j => !(s.sys.srcEligible d j && (s.sys.srcCtxs d j).contains ctx.claim.thresh && decide (s.sys.rf F.ICN_SRC_PRIORITY d j > fget (s.sys.rd ctx.claim.thresh) 0 4))) = true → Completes (.icnClaim req ctx) s (fun t => t.sys.resp = .done (if fget (s.sys.rd ctx.claim.thresh) 62 1 = 1 then 4095 else 0) ∧
      fget (t.sys.rd ctx.claim.thresh) 62 2 = 0 ∧ t.sys.icn.holdoff = s.sys.icn.holdoff ∧
      s.sys.regs.all (fun q => !lineReg q.1 || fget (t.sys.rd q.1) 0 4 == fget (s.sys.rd q.1) 0 4) = true ∧ s.Only t lineReg (.icn :: accessParts))) ∧
  (∀ (s : State) (req : Requester) (ctx : ClaimCtx) (id : BitVec 12) (d : Nat), s.Takes (.icnComplete req ctx id) → s.sys.domOf ctx.claim = some d → s.sys.on F.ICN_DOM_CFG_CLK_STOPPED d = false → s.sys.srcPresent d id.toNat = true → s.sys.rf F.ICN_SRC_ACTIVE d id.toNat = 1 → Completes (.icnComplete req ctx id) s (fun t => t.sys.resp = .done 0 ∧ t.sys.rf F.ICN_SRC_ACTIVE d id.toNat = 0 ∧
      t.sys.rf F.ICN_SRC_PENDING d id.toNat = s.sys.rf F.ICN_SRC_PENDING d id.toNat ∧
      s.sys.regs.all (fun q => !lineReg q.1 || fget (t.sys.rd q.1) 0 4 == fget (s.sys.rd q.1) 0 4) = true ∧
      s.Only t (fun q => q.reg == .ICN_SRC && q.i == d && q.j == id.toNat || lineReg q || q.reg == .SYS_CS_STATUS) (.icn :: accessParts))) ∧
  (∀ (s : State) (req : Requester) (ctx : ClaimCtx) (id : BitVec 12) (d : Nat), s.Takes (.icnComplete req ctx id) → s.sys.domOf ctx.claim = some d → s.sys.on F.ICN_DOM_CFG_CLK_STOPPED d = false → s.sys.srcPresent d id.toNat = false ∨ s.sys.rf F.ICN_SRC_ACTIVE d id.toNat = 0 → Completes (.icnComplete req ctx id) s (fun t => t.sys.resp = .done 0 ∧ t.sys.rf F.ICN_DOM_STATUS_COMPLETE_ERR d = 1 ∧
      t.sys.rd ⟨.ICN_DOM_STATUS, d, 0⟩ = fput (s.sys.rd ⟨.ICN_DOM_STATUS, d, 0⟩) 2 1 1 ∧
      s.Only t (fun q => oneReg d [.ICN_DOM_STATUS] q || q.reg == .SYS_CS_STATUS) accessParts)) ∧
  (∀ (s : State) (req : Requester) (ctx : ClaimCtx) (v : Word) (d : Nat), s.Takes (.thresholdWrite req ctx v) → s.sys.domOf ctx.claim = some d → s.sys.on F.ICN_DOM_CFG_CLK_STOPPED d = false → Completes (.thresholdWrite req ctx v) s (fun t => t.sys.resp = .done 0 ∧ fget (t.sys.rd ctx.claim.thresh) 0 4 = fget v 0 4 ∧
      s.sys.regs.all (fun q => !lineReg q.1 || q.1 == ctx.claim.thresh || fget (t.sys.rd q.1) 0 4 == fget (s.sys.rd q.1) 0 4) = true ∧
      s.Only t (fun q => lineReg q || q.reg == .SYS_CS_STATUS) (.icn :: accessParts))) ∧
  (∀ (s : State) (req : Requester) (h : Fin 256) (g : Fin 8) (v : Word), s.Takes (.icnGctxWrite req h g v) → s.sys.on F.ICN_DOM_CFG_CLK_STOPPED (s.sys.hartKennel h) = false → fget v 63 1 = 1 → (s.sys.residents (s.sys.hartKennel h) (fget v 0 10)).any (fun k => k != ⟨.ICN_CTX_THRESH, h, g⟩) = true → Completes (.icnGctxWrite req h g v) s (fun t => t.sys.resp = .done 0 ∧ t.sys.rf F.ICN_DOM_STATUS_GCTX_ERR (s.sys.hartKennel h) = 1 ∧
      s.Only t (fun q => oneReg (s.sys.hartKennel h) [.ICN_DOM_STATUS] q || q.reg == .SYS_CS_STATUS) accessParts)) ∧
  (∀ (s : State) (req : Requester) (h : Fin 256) (g : Fin 8) (v : Word), s.Takes (.icnGctxWrite req h g v) → s.sys.on F.ICN_DOM_CFG_CLK_STOPPED (s.sys.hartKennel h) = false → fget v 63 1 = 0 ∨ (s.sys.residents (s.sys.hartKennel h) (fget v 0 10)).all (fun k => k == ⟨.ICN_CTX_THRESH, h, g⟩) = true → Completes (.icnGctxWrite req h g v) s (fun t => t.sys.resp = .done 0 ∧ t.sys.rf F.ICN_GCTX_RESIDENT h g = fget v 63 1 ∧ t.sys.rf F.ICN_GCTX_VCPU h g = fget v 0 10 ∧
      s.sys.regs.all (fun q => !lineReg q.1 || fget (t.sys.rd q.1) 0 4 == fget (s.sys.rd q.1) 0 4) = true ∧
      s.Only t (fun q => q == ⟨.ICN_GCTX, h, g⟩ || lineReg q || q.reg == .SYS_CS_STATUS) (.icn :: accessParts))) ∧
  (∀ (s : State) (req : Requester) (h : Fin 256) (g : Fin 8), s.Takes (.icnGctxRead req h g) → s.sys.on F.ICN_DOM_CFG_CLK_STOPPED (s.sys.hartKennel h) = false → Completes (.icnGctxRead req h g) s (fun t => t.sys.resp = .done (s.sys.rd ⟨.ICN_GCTX, h, g⟩) ∧ s.Only t (fun _ => false) accessParts)) ∧
  (∀ (s : State) (req : Requester) (h : Fin 256) (g : Fin 8), s.Live → s.sys.Admits ⟨req, ⟨.ICN_GCTX, h, g⟩, none, none⟩ → s.sys.icn.postings.any (fun p => p.dom == s.sys.hartKennel h) = true → s.sys.on F.ICN_DOM_CFG_CLK_STOPPED (s.sys.hartKennel h) = false → Completes (.icnGctxRead req h g) s (fun t => t.sys.resp = .waiting ∧ s.Only t (fun _ => false) accessParts))

/-- R413 to R415, R422, R426, R428 to R431. That POST_ERR comes with ROUTE_OFF is the register's (R438). -/
def Obligations.SourceEvents : Prop :=
  (∀ (s : State) (req : Requester) (dom : Fin 16) (v : Word), s.Takes (.icnMessage req dom v) → s.sys.on F.ICN_DOM_CFG_CLK_STOPPED dom = false → s.sys.icn.inReset.contains dom.val = false → s.sys.srcPresent dom (fget v 0 12) = true → 16 ≤ fget v 0 12 → s.sys.srcLevel dom (fget v 0 12) = false → (s.sys.whoIs req).1.secure = true ∨ s.sys.on F.ICN_SRC_SEC dom (fget v 0 12) = false → Completes (.icnMessage req dom v) s (fun t => t.sys.resp = .done 0 ∧ t.sys.rd ⟨.ICN_SRC, dom, fget v 0 12⟩ = fput (s.sys.rd ⟨.ICN_SRC, dom, fget v 0 12⟩) 63 1 1 ∧
      s.Only t (fun q => q == ⟨.ICN_SRC, dom, fget v 0 12⟩ || lineReg q || q.reg == .SYS_CS_STATUS) (.icn :: accessParts))) ∧
  (∀ (s : State) (req : Requester) (dom : Fin 16) (v : Word), s.Takes (.icnMessage req dom v) → s.sys.on F.ICN_DOM_CFG_CLK_STOPPED dom = false → s.sys.icn.inReset.contains dom.val = false → s.sys.srcPresent dom (fget v 0 12) = false ∨ fget v 0 12 < 16 ∨ s.sys.srcLevel dom (fget v 0 12) = true ∨ (s.sys.on F.ICN_SRC_SEC dom (fget v 0 12) = true ∧ (s.sys.whoIs req).1.secure = false) → Completes (.icnMessage req dom v) s (fun t => t.sys.resp = .done 0 ∧
      t.sys.rf F.ICN_DOM_STATUS_MSG_DROP dom = min 0xFFFF (s.sys.rf F.ICN_DOM_STATUS_MSG_DROP dom + 1) ∧
      s.Only t (fun q => oneReg dom [.ICN_DOM_STATUS] q || q.reg == .SYS_CS_STATUS) accessParts)) ∧
  (∀ (s : State) (req : Requester) (dom : Fin 16) (v : Word), s.Takes (.icnMessage req dom v) → s.sys.on F.ICN_DOM_CFG_CLK_STOPPED dom = false → s.sys.icn.inReset.contains dom.val = true → Completes (.icnMessage req dom v) s (fun t => t.sys.resp = .done 0 ∧
      t.sys.icn.waiting = s.sys.icn.waiting ++ [⟨dom, fget v 0 12, (s.sys.whoIs req).1.secure⟩] ∧ s.Only t (fun q => q.reg == .SYS_CS_STATUS) (.icn :: accessParts))) ∧
  (∀ (s : State) (req : Requester) (dom : Fin 16) (id : Fin 4095) (v : Word), s.Takes (.sourceSet req dom id v) → s.sys.on F.ICN_DOM_CFG_CLK_STOPPED dom = false → 16 ≤ id.val → fget v 60 1 = 0 → fget v 58 1 = 0 → (s.sys.whoIs req).1.secure = true ∨ (s.sys.on F.ICN_SRC_SEC dom id = false ∧ (fget v 40 4 ≠ 0 ∨ fget v 57 1 = 1)) → Completes (.sourceSet req dom id v) s (fun t => t.sys.resp = .done 0 ∧ t.sys.rf F.ICN_SRC_PENDING dom id = 1 ∧ t.sys.rf F.ICN_SRC_ACTIVE dom id = s.sys.rf F.ICN_SRC_ACTIVE dom id ∧
      t.sys.rf F.ICN_SRC_ENABLE dom id = fget v 56 1 ∧ t.sys.rf F.ICN_SRC_PRIORITY dom id = fget v 52 4 ∧ t.sys.rf F.ICN_SRC_HART dom id = fget v 32 8 ∧
      s.Only t (fun q => q == ⟨.ICN_SRC, dom, id⟩ || lineReg q || q.reg == .SYS_CS_STATUS) (.icn :: accessParts))) ∧
  (∀ (s : State) (req : Requester) (dom : Fin 16) (id : Fin 4095) (v : Word), s.Takes (.sourceClr req dom id v) → s.sys.on F.ICN_DOM_CFG_CLK_STOPPED dom = false → 16 ≤ id.val → fget v 61 1 = 0 → fget v 58 1 = 0 → (s.sys.whoIs req).1.secure = true ∨ (s.sys.on F.ICN_SRC_SEC dom id = false ∧ (fget v 40 4 ≠ 0 ∨ fget v 57 1 = 1)) → Completes (.sourceClr req dom id v) s (fun t => t.sys.resp = .done 0 ∧ t.sys.rf F.ICN_SRC_PENDING dom id = 0 ∧ t.sys.rf F.ICN_SRC_ACTIVE dom id = s.sys.rf F.ICN_SRC_ACTIVE dom id ∧
      t.sys.icn.admitted.contains (dom.val, id.val) = false ∧ t.sys.rf F.ICN_SRC_GROUP dom id = fget v 46 6 ∧
      s.Only t (fun q => q == ⟨.ICN_SRC, dom, id⟩ || lineReg q || q.reg == .SYS_CS_STATUS) (.icn :: accessParts))) ∧
  (∀ (s : State) (req : Requester) (dom : Fin 16) (id : Fin 4095) (v : Word), s.Takes (.sourceRouteWrite req dom id v) → s.sys.on F.ICN_DOM_CFG_CLK_STOPPED dom = false → 16 ≤ id.val → fget v 60 2 = 0 → (s.sys.whoIs req).1.secure = true ∨ (s.sys.on F.ICN_SRC_SEC dom id = false ∧ (fget v 40 4 ≠ 0 ∨ fget v 57 1 = 1)) → Completes (.sourceRouteWrite req dom id v) s (fun t => t.sys.resp = .done 0 ∧ t.sys.rf F.ICN_SRC_POSTED dom id = fget v 57 1 ∧ t.sys.rf F.ICN_SRC_ENABLE dom id = fget v 56 1 ∧
      t.sys.rf F.ICN_SRC_PRIORITY dom id = fget v 52 4 ∧ t.sys.rf F.ICN_SRC_GROUP dom id = fget v 46 6 ∧ t.sys.rf F.ICN_SRC_TYPE dom id = fget v 58 1 ∧
      t.sys.rf F.ICN_SRC_CTX dom id = fget v 40 4 ∧ t.sys.rf F.ICN_SRC_HART dom id = fget v 32 8 ∧ t.sys.rf F.ICN_SRC_VCPU dom id = fget v 0 10 ∧
      t.sys.rf F.ICN_SRC_SEC dom id = (if (s.sys.whoIs req).1.secure = true ∧ fget v 40 4 = 0 ∧ fget v 57 1 = 0 then 1 else 0) ∧
      t.sys.rf F.ICN_SRC_ROUTE_OFF dom id = (if (if fget v 57 1 = 1 then fget v 58 1 == 1 else (s.sys.ctxKey dom (fget v 32 8) (fget v 40 4)).isNone) then 1 else 0) ∧
      t.sys.rf F.ICN_SRC_PENDING dom id = s.sys.rf F.ICN_SRC_PENDING dom id ∧ t.sys.rf F.ICN_SRC_ACTIVE dom id = s.sys.rf F.ICN_SRC_ACTIVE dom id ∧
      s.Only t (fun q => q == ⟨.ICN_SRC, dom, id⟩ || lineReg q || q.reg == .SYS_CS_STATUS) (.icn :: accessParts))) ∧
  (∀ (s : State) (req : Requester) (dom : Fin 16) (id : Fin 4095) (v : Word), s.Takes (.sourceRouteWrite req dom id v) → s.sys.on F.ICN_DOM_CFG_CLK_STOPPED dom = false → (s.sys.whoIs req).1.secure = false → s.sys.on F.ICN_SRC_SEC dom id = true ∨ (fget v 40 4 = 0 ∧ fget v 57 1 = 0) → Completes (.sourceRouteWrite req dom id v) s (fun t => t.sys.resp = .done 0 ∧ t.sys.rf F.ICN_DOM_STATUS_N_WRITE dom = 1 ∧
      s.Only t (fun q => oneReg dom [.ICN_DOM_STATUS] q || q.reg == .SYS_CS_STATUS) accessParts)) ∧
  (∀ (s : State) (w : Fin 16) (d id : Nat), s.Live → s.sys.wireDrives w d id = true → s.sys.srcLevel d id = false → s.sys.on F.ICN_DOM_CFG_CLK_STOPPED d = false → Completes (.wiredEdge w) s (fun t => t.sys.rd ⟨.ICN_SRC, d, id⟩ = fput (s.sys.rd ⟨.ICN_SRC, d, id⟩) 63 1 1 ∧ s.Only t (fun q => q == ⟨.ICN_SRC, d, id⟩ || lineReg q) [.icn])) ∧
  (∀ (s : State) (w : Fin 16) (d id : Nat), s.Live → s.sys.wireDrives w d id = true → s.sys.srcLevel d id = false → s.sys.on F.ICN_DOM_CFG_CLK_STOPPED d = true → Completes (.wiredEdge w) s (fun t => t.sys.icn.latched = s.sys.icn.latched ++ [(d, id)] ∧ s.Only t (fun _ => false) [.icn])) ∧
  (∀ (s : State) (w : Fin 16) (level : Bool), s.Live → s.sys.wireDrives w (s.sys.rf F.ICN_WIRE_DOMAIN w) (s.sys.rf F.ICN_WIRE_SOURCE w) = true → s.sys.srcLevel (s.sys.rf F.ICN_WIRE_DOMAIN w) (s.sys.rf F.ICN_WIRE_SOURCE w) = true → Completes (.wiredLevel w level) s (fun t => t.sys.rf F.ICN_WIRE_PIN w = b2n (level != s.sys.on F.ICN_WIRE_POL w) ∧
      (t.sys.rf F.ICN_WIRE_PIN w = 1 → t.sys.srcPending (s.sys.rf F.ICN_WIRE_DOMAIN w) (s.sys.rf F.ICN_WIRE_SOURCE w) = true) ∧
      bit t.sys.icn.pins w = level ∧ (below 16).all (fun i => i == w.val || bit t.sys.icn.pins i == bit s.sys.icn.pins i) = true ∧
      s.Only t (fun q => oneReg w [.ICN_WIRE] q || lineReg q) [.icn])) ∧
  (∀ (s : State) (dom : Fin 16) (g : Fin 64) (e : Nat), s.Live → Bank.get? s.sys.icn.holdoff (dom.val, g.val) = some e → s.sys.span.now ≤ e → e - s.sys.span.now ≤ s.sys.spanS - s.sys.phase → s.sys.icn.holdoff.all (fun p => p.1 != (dom.val, g.val) || p.2 == e) = true → Completes (.holdoffExpiry dom g) s (fun t => t.sys.span.now = e ∧ t.sys.icn.holdoff = Bank.erase s.sys.icn.holdoff (dom.val, g.val) ∧ t.sys.grpHeld dom g = false ∧
      s.Only t (fun q => lineReg q || q.reg == .SPN_SPAN) [.icn, .span])) ∧
  (∀ (s : State) (dom : Fin 16) (id : Fin 4095), s.Live → s.sys.srcEligible dom id = true → s.sys.on F.ICN_SRC_POSTED dom id = true → s.sys.residents dom (s.sys.rf F.ICN_SRC_VCPU dom id) = [] → s.sys.icn.postings.any (fun p => p.dom == dom.val && p.id == id.val) = false → s.sys.rf F.ICN_SRC_VCPU dom id < s.sys.rf F.ICN_DOM_PTAB_VCPUS dom → Completes (.postVcpu dom id) s (fun t => t.sys.icn.postings = s.sys.icn.postings ++ [⟨dom, id, s.sys.rf F.ICN_SRC_VCPU dom id⟩] ∧ s.Only t (fun _ => false) [.icn])) ∧
  (∀ (s : State) (dom : Fin 16) (id : Fin 4095), s.Live → s.sys.srcEligible dom id = true → s.sys.on F.ICN_SRC_POSTED dom id = true → s.sys.residents dom (s.sys.rf F.ICN_SRC_VCPU dom id) = [] → s.sys.icn.postings.any (fun p => p.dom == dom.val && p.id == id.val) = false → s.sys.rf F.ICN_DOM_PTAB_VCPUS dom ≤ s.sys.rf F.ICN_SRC_VCPU dom id → Completes (.postVcpu dom id) s (fun t => t.sys.rf F.ICN_DOM_STATUS_POST_ERR dom = 1 ∧ t.sys.rf F.ICN_SRC_ROUTE_OFF dom id = 1 ∧
      t.sys.rf F.ICN_SRC_PENDING dom id = s.sys.rf F.ICN_SRC_PENDING dom id ∧ t.sys.srcEligible dom id = false ∧
      s.Only t (fun q => oneReg dom [.ICN_DOM_STATUS] q || q == ⟨.ICN_SRC, dom, id⟩) [])) ∧
  (∀ (s : State) (dom : Fin 16) (id : Fin 4095) (q : Posting), s.Live → s.Inv → s.sys.icn.postings.find? (fun p => p.dom == dom.val && p.id == id.val) = some q → s.sys.postAdmits dom (s.sys.rf F.ICN_DOM_PTAB_BASE dom * 4096 + 0x1000 * (1 + q.vcpu) + id) = true → s.sys.postAdmits dom (s.sys.rf F.ICN_DOM_PTAB_BASE dom * 4096 + q.vcpu) = true → q.vcpu < 0x1000 → s.sys.on F.ICN_DOM_CFG_CLK_STOPPED dom = false → s.sys.srcPresent dom 4 = true → id.val ≠ 4 → Completes (.postingDone dom id) s (fun t => t.sys.rf F.ICN_SRC_PENDING dom id = 0 ∧ t.sys.rf F.ICN_SRC_PENDING dom 4 = 1 ∧
      t.sys.icn.postings = s.sys.icn.postings.filter (fun p => !(p.dom == dom.val && p.id == id.val)) ∧
      lineByte (t.ctx.peek ((s.sys.rf F.ICN_DOM_PTAB_BASE dom * 4096 + q.vcpu) / 64)).1 (q.vcpu % 64) = 1 ∧
      lineByte (t.ctx.peek ((s.sys.rf F.ICN_DOM_PTAB_BASE dom * 4096 + 0x1000 * (1 + q.vcpu) + id) / 64)).1 (id % 64) = 1)) ∧
  (∀ (s : State) (dom : Fin 16) (id : Fin 4095) (q : Posting), s.Live → s.sys.icn.postings.find? (fun p => p.dom == dom.val && p.id == id.val) = some q → s.sys.postAdmits dom (s.sys.rf F.ICN_DOM_PTAB_BASE dom * 4096 + 0x1000 * (1 + q.vcpu) + id) = false → Completes (.postingDone dom id) s (fun t => t.mem = s.mem ∧ t.sys.rf F.ICN_DOM_STATUS_POST_DENY dom = 1 ∧ t.sys.rf F.ICN_SRC_ROUTE_OFF dom id = 1 ∧
      t.sys.rf F.ICN_SRC_PENDING dom id = s.sys.rf F.ICN_SRC_PENDING dom id ∧
      s.Only t (fun r => oneReg dom [.ICN_DOM_STATUS] r || r == ⟨.ICN_SRC, dom, id⟩ || lineReg r) [.icn])) ∧
  (∀ (s : State) (dom : Fin 16), s.Live → (s.sys.kennelHarts dom).all (fun h => s.sys.coreState h == psCs3 || s.sys.coreState h == psCs4) = true ∨ (dom.val = 15 ∧ (below 4).all (fun e => s.sys.rf F.DRM_CORE_CTL_STATE e != 1) = true) → s.sys.regs.all (fun q => !(lineReg q.1 && s.sys.domOf q.1 == some dom.val) || fget q.2 63 1 == 0) = true → (below 64).all (fun g => !s.sys.grpHeld dom g) = true → s.sys.icn.waiting.all (fun m => m.dom != dom.val) = true → s.sys.icn.latched.all (fun p => p.1 != dom.val) = true → Completes (.domainClockStop dom) s (fun t => t.sys.rf F.ICN_DOM_CFG_CLK_STOPPED dom = 1 ∧ s.Only t (fun q => oneReg dom [.ICN_DOM_CFG] q) [])) ∧
  (∀ (s : State) (dom : Fin 16), s.Live → s.sys.on F.ICN_DOM_CFG_CLK_STOPPED dom = true → s.sys.icn.waiting.any (fun m => m.dom == dom.val) = true ∨ s.sys.icn.latched.any (fun p => p.1 == dom.val) = true → Completes (.domainClockRestart dom) s (fun t => t.sys.rf F.ICN_DOM_CFG_CLK_STOPPED dom = 0 ∧ t.sys.rf F.ICN_DOM_STATUS_LATCH_WAKE dom = 1 ∧
      (s.sys.icn.latched.filter (fun p => p.1 == dom.val)).all (fun p => !(s.sys.srcPresent dom p.2 && !s.sys.srcLevel dom p.2) || t.sys.on F.ICN_SRC_PENDING dom p.2) = true ∧
      t.sys.icn.latched = s.sys.icn.latched.filter (fun p => p.1 != dom.val) ∧ t.sys.icn.waiting = s.sys.icn.waiting.filter (fun m => m.dom != dom.val) ∧
      s.Only t (fun q => oneReg dom [.ICN_DOM_CFG, .ICN_DOM_STATUS, .ICN_SRC] q || lineReg q) [.icn]))

/-! ## Chapter 12 -/

/-- R443 to R448, R450, R452, R453. The request of a command is the message under way that it takes, or the one its operands describe (`Sys.takeIo`). -/
def Obligations.PortRequests : Prop :=
  (∀ (s : State) (who : ReqSrc) (pa : PAddr) (n : Fin 65) (peer : Option (BitVec 512)) (p : Fin 8) (j : Fin 4), s.Live → regionOf pa.toNat = .window s.sys.socket → s.sys.portOfPa pa.toNat = some p.val → s.sys.portHeld p = false → s.sys.isRoot p = true → s.sys.linkOfOffset p ((pa.toNat - portWindow s.sys.socket 0) % 0x100000000000) = some j.val → s.sys.linkAdmits p j (s.ioOf who false pa.toNat n 0).2.1 (s.ioOf who false pa.toNat n 0).2.2.1 false = true → s.sys.linkUp p j = true → (s.sys.link p j).reset = .none → Completes (.outboundRead who pa n peer) s (fun t => let q := s.ioOf who false pa.toNat n 0
      (t.sys.link p j).out = (s.sys.link p j).out ++ [⟨.src q.1, .mem, pa.toNat, q.2.2.2.1⟩] ∧
      (t.sys.link p j).tx = .memRead ((pa.toNat - portWindow s.sys.socket 0) % 0x100000000000) q.2.2.2.1 ∧ t.sys.lkState p j = lkUp ∧
      t.sys.rf F.IOP_LINK_STATUS_OB_IDLE p j = 0 ∧ (t.sys.link p j).inq = (s.sys.link p j).inq ∧
      s.OnlyLink t p j (fun k => k == ⟨.IOP_LINK_STATUS, p, j⟩) [.msgs])) ∧
  (∀ (s : State) (who : ReqSrc) (pa : PAddr) (n : Fin 65) (peer : Option (BitVec 512)) (p : Fin 8) (j : Fin 4), s.Live → regionOf pa.toNat = .window s.sys.socket → s.sys.portOfPa pa.toNat = some p.val → s.sys.portHeld p = false → s.sys.isRoot p = true → s.sys.linkOfOffset p ((pa.toNat - portWindow s.sys.socket 0) % 0x100000000000) = some j.val → s.sys.linkAdmits p j (s.ioOf who false pa.toNat n 0).2.1 (s.ioOf who false pa.toNat n 0).2.2.1 false = false → Completes (.outboundRead who pa n peer) s (fun t => let q := s.ioOf who false pa.toNat n 0
      t.sys.msgs = ((s.sys.takeIo who false pa.toNat n 0).2.outAnswer q.1 pa.toNat q.2.2.2.1 0 false true).msgs ∧ t.sys.links = s.sys.links ∧
      t.sys.rf F.IOP_LINK_ERR_VALID p j = 1 ∧ (s.sys.rf F.IOP_LINK_ERR_VALID p j = 0 → t.sys.rf F.IOP_LINK_ERR_CAUSE p j = 16 ∧ t.sys.rf F.IOP_LINK_ERRADDR_ADDR p j = pa.toNat / 4) ∧
      s.Only t (fun k => k == ⟨.IOP_LINK_ERR, p, j⟩ || k == ⟨.IOP_LINK_ERRADDR, p, j⟩) [.msgs])) ∧
  (∀ (s : State) (who : ReqSrc) (pa : PAddr) (n : Fin 65) (data : BitVec 512) (p : Fin 8) (j : Fin 4), s.Live → regionOf pa.toNat = .window s.sys.socket → s.sys.portOfPa pa.toNat = some p.val → s.sys.portHeld p = false → s.sys.isRoot p = true → s.sys.linkOfOffset p ((pa.toNat - portWindow s.sys.socket 0) % 0x100000000000) = some j.val → s.sys.linkAdmits p j (s.ioOf who true pa.toNat n (data.toNat % 2 ^ (8 * n.val))).2.1 (s.ioOf who true pa.toNat n (data.toNat % 2 ^ (8 * n.val))).2.2.1 false = true → s.sys.linkUp p j = true → (s.sys.link p j).reset = .none → Completes (.outboundWrite who pa n data) s (fun t => let q := s.ioOf who true pa.toNat n (data.toNat % 2 ^ (8 * n.val))
      (t.sys.link p j).tx = .memWrite ((pa.toNat - portWindow s.sys.socket 0) % 0x100000000000) q.2.2.2.1 q.2.2.2.2.1 q.2.2.2.2.2 ∧
      (t.sys.link p j).out = (s.sys.link p j).out ∧ (t.sys.link p j).inq = (s.sys.link p j).inq ∧ t.sys.lkState p j = lkUp ∧
      s.OnlyLink t p j (fun k => k == ⟨.IOP_LINK_STATUS, p, j⟩) [.msgs])) ∧
  (∀ (s : State) (who : ReqSrc) (pa : PAddr) (n : Fin 65) (data : BitVec 512) (p : Fin 8), s.Live → regionOf pa.toNat = .window s.sys.socket → s.sys.portOfPa pa.toNat = some p.val → s.sys.portHeld p = false → s.sys.isRoot p = true → s.sys.linkOfOffset p ((pa.toNat - portWindow s.sys.socket 0) % 0x100000000000) = none → Completes (.outboundWrite who pa n data) s (fun t => t.sys.rf F.IOP_LINK_ERR_VALID p 0 = 1 ∧
      (s.sys.rf F.IOP_LINK_ERR_VALID p 0 = 0 → t.sys.rf F.IOP_LINK_ERR_CAUSE p 0 = 1 ∧ t.sys.rf F.IOP_LINK_ERRADDR_ADDR p 0 = pa.toNat / 4 ∧ t.sys.rf F.IOP_LINK_ERRADDR_ADDR_VALID p 0 = 1) ∧
      s.Only t (fun k => k == ⟨.IOP_LINK_ERR, p, 0⟩ || k == ⟨.IOP_LINK_ERRADDR, p, 0⟩) [.msgs])) ∧
  (∀ (s : State) (who : ReqSrc) (pa : PAddr) (size : Size) (peer : Option (BitVec 512)) (p : Fin 8) (j : Fin 4) (dw : Nat), s.Live → regionOf pa.toNat = .ecam s.sys.socket → s.sys.portOfPa pa.toNat = some p.val → s.sys.portHeld p = false → s.sys.isRoot p = true → s.sys.hasLink p j = true → (s.ioOf who false pa.toNat size.bytes 0).2.2.2.1 = size.bytes → size.bytes ≤ 4 → pa.toNat % size.bytes = 0 → pa.toNat % 0x10000000 = j.val * 2 ^ 15 + 4 * dw + pa.toNat % 4 → [6, 8, 9, 10, 11, 15].contains dw = true → s.sys.linkAdmits p j (s.ioOf who false pa.toNat size.bytes 0).2.1 (s.ioOf who false pa.toNat size.bytes 0).2.2.1 true = true → Completes (.configRead who pa size peer) s (fun t =>
      t.sys.msgs = ((s.sys.takeIo who false pa.toNat size.bytes 0).2.outAnswer (s.ioOf who false pa.toNat size.bytes 0).1 pa.toNat size.bytes
      (nget (s.sys.hdr p j dw) (8 * (pa.toNat % 4)) (8 * size.bytes)) false false).msgs ∧ s.Only t (fun _ => false) [.msgs, .freeCount])) ∧
  (∀ (s : State) (who : ReqSrc) (pa : PAddr) (size : Size) (peer : Option (BitVec 512)) (p : Fin 8) (j : Fin 4), s.Live → regionOf pa.toNat = .ecam s.sys.socket → s.sys.portOfPa pa.toNat = some p.val → s.sys.portHeld p = false → s.sys.isRoot p = true → (s.ioOf who false pa.toNat size.bytes 0).2.2.2.1 = size.bytes → size.bytes ≤ 4 → pa.toNat % size.bytes = 0 → nget pa.toNat 20 8 ≠ 0 → s.sys.linkOfBus p (nget pa.toNat 20 8) = some j.val → s.sys.linkAdmits p j (s.ioOf who false pa.toNat size.bytes 0).2.1 (s.ioOf who false pa.toNat size.bytes 0).2.2.1 true = true → s.sys.linkUp p j = true → (s.sys.link p j).reset = .none → Completes (.configRead who pa size peer) s (fun t => (t.sys.link p j).out = (s.sys.link p j).out ++ [⟨.src (s.ioOf who false pa.toNat size.bytes 0).1, .cfgRead, pa.toNat, size.bytes⟩] ∧
      (t.sys.link p j).tx = .cfgRead (nget pa.toNat 20 8 != nget (s.sys.hdr p j 6) 8 8) (pa.toNat % 0x10000000) size.bytes ∧ t.sys.lkState p j = lkUp ∧
      s.OnlyLink t p j (fun k => k == ⟨.IOP_LINK_STATUS, p, j⟩) [.msgs])) ∧
  (∀ (s : State) (who : ReqSrc) (pa : PAddr) (size : Size) (data : Word) (p : Fin 8) (j : Fin 4) (dw m : Nat), s.Live → regionOf pa.toNat = .ecam s.sys.socket → s.sys.portOfPa pa.toNat = some p.val → s.sys.portHeld p = false → s.sys.isRoot p = true → s.sys.hasLink p j = true → s.ioOf who true pa.toNat size.bytes data.toNat = ((s.sys.srcOf who).1, (s.sys.srcOf who).2.1, (s.sys.srcOf who).2.2, size.bytes, data.toNat, false) → size = .b4 → pa.toNat % 0x10000000 = j.val * 2 ^ 15 + 4 * dw → hdrMask dw = some m → s.sys.linkAdmits p j (s.sys.srcOf who).2.1 (s.sys.srcOf who).2.2 true = true → Completes (.configWrite who pa size data) s (fun t => t.sys.hdr p j dw = (data.toNat % 2 ^ 32) &&& m ∧
      (below 16).all (fun d => d == dw || t.sys.hdr p j d == s.sys.hdr p j d) = true ∧ (dw = 1 → t.sys.rf F.IOP_LINK_STATUS_BME p j = fget data 2 1) ∧
      (t.sys.link p j).out = (s.sys.link p j).out ∧ s.OnlyLink t p j (fun k => k == ⟨.IOP_LINK_STATUS, p, j⟩) [.msgs])) ∧
  (∀ (s : State) (who : ReqSrc) (p : Fin 8) (j : Fin 4), s.Live → s.sys.isRoot p = true → s.sys.hasLink p j = true → s.sys.socket < 2 → s.ioOf who true (portSegment s.sys.socket p + j.val * 2 ^ 15 + 4) 2 (setBit (s.sys.hdr p j 1 % 65536) 2 false) = ((s.sys.srcOf who).1, (s.sys.srcOf who).2.1, (s.sys.srcOf who).2.2, 2, setBit (s.sys.hdr p j 1 % 65536) 2 false, false) → s.sys.linkAdmits p j (s.sys.srcOf who).2.1 (s.sys.srcOf who).2.2 true = true → Completes (.bmeClear who p j) s (fun t => t.sys.rootBme p j = false ∧ t.sys.rf F.IOP_LINK_STATUS_BME p j = 0 ∧
      (below 16).all (fun d => d == 1 || t.sys.hdr p j d == s.sys.hdr p j d) = true ∧ bit (t.sys.hdr p j 1) 1 = bit (s.sys.hdr p j 1) 1 ∧
      (t.sys.link p j).inq = (s.sys.link p j).inq ∧ (t.sys.link p j).out = (s.sys.link p j).out ∧ s.OnlyLink t p j (fun k => k == ⟨.IOP_LINK_STATUS, p, j⟩) [.msgs])) ∧
  (∀ (s : State) (p : Fin 8) (j : Fin 4) (place : Nat) (c : CplResult) (o : OutReq) (w : Source), s.Live → (s.sys.link p j).out[place]? = some o → o.by_ = .src w → o.kind = .mem → s.sys.linkUp p j = true → s.sys.heeled = false → s.sys.links.all (fun q => q.2.inq.isEmpty && q.2.reset == .none) = true → c ≠ .retry false → c ≠ .retry true → Completes (.pcieCompletion p j place c) s (fun t => (t.sys.link p j).out = (s.sys.link p j).out.eraseIdx place ∧
      t.sys.msgs = (match c with
      | .ok d => (s.sys.outAnswer w o.pa o.n (lineField d 0 (8 * o.n)) false false).msgs
      | .poisoned => (s.sys.outAnswer w o.pa o.n 0 true false).msgs
      | _ => (s.sys.outAnswer w o.pa o.n 0 false true).msgs) ∧
      s.OnlyLink t p j (fun k => k.reg == .IOP_LINK_STATUS) [.msgs])) ∧
  (∀ (s : State) (p : Fin 8) (j : Fin 4) (place : Nat) (c : CplResult) (o : OutReq) (w : Source), s.Live → (s.sys.link p j).out[place]? = some o → o.by_ = .src w → o.kind = .cfgRead → s.sys.linkUp p j = true → s.sys.heeled = false → s.sys.links.all (fun q => q.2.inq.isEmpty && q.2.reset == .none) = true → c ≠ .retry false → c ≠ .retry true → Completes (.pcieCompletion p j place c) s (fun t => (t.sys.link p j).out = (s.sys.link p j).out.eraseIdx place ∧
      t.sys.msgs = (match c with
      | .ok d => (s.sys.outAnswer w o.pa o.n (lineField d 0 (8 * o.n)) false false).msgs
      | _ => (s.sys.outAnswer w o.pa o.n (2 ^ (8 * o.n) - 1) false false).msgs) ∧
      (c = .poisoned → t.sys.rf F.IOP_LINK_ERR_VALID p j = 1 ∧ (s.sys.rf F.IOP_LINK_ERR_VALID p j = 0 → t.sys.rf F.IOP_LINK_ERR_CAUSE p j = 6)) ∧
      s.OnlyLink t p j (fun k => k.reg == .IOP_LINK_STATUS || k == ⟨.IOP_LINK_ERR, p, j⟩ || k == ⟨.IOP_LINK_ERRADDR, p, j⟩) [.msgs, .freeCount])) ∧
  (∀ (s : State) (p : Fin 8) (j : Fin 4) (place : Nat) (o : OutReq) (w : Source), s.Live → (s.sys.link p j).out[place]? = some o → o.by_ = .src w → o.kind ≠ .cfgWrite → s.sys.heeled = false → s.sys.links.all (fun q => q.2.inq.isEmpty && q.2.reset == .none) = true → Completes (.cplTimeout p j place) s (fun t => (t.sys.link p j).out = (s.sys.link p j).out.eraseIdx place ∧
      t.sys.msgs = (if o.kind = .mem then (s.sys.outAnswer w o.pa o.n 0 false true).msgs else (s.sys.outAnswer w o.pa o.n (2 ^ (8 * o.n) - 1) false false).msgs) ∧
      t.sys.rf F.IOP_LINK_ERR_VALID p j = 1 ∧ (s.sys.rf F.IOP_LINK_ERR_VALID p j = 0 → t.sys.rf F.IOP_LINK_ERR_CAUSE p j = 5) ∧
      s.OnlyLink t p j (fun k => k.reg == .IOP_LINK_STATUS || k == ⟨.IOP_LINK_ERR, p, j⟩ || k == ⟨.IOP_LINK_ERRADDR, p, j⟩) [.msgs])) ∧
  (∀ (s : State) (p : Fin 8) (j : Fin 4) (a : Word) (n : Fin 4097) (ro : Bool) (reqId : BitVec 16) (z : Nat), s.Live → s.sys.portHeld p = false → s.sys.isRoot p = true → s.sys.linkTakes p j = true → n.val ≠ 0 → (s.sys.link p j).reset = .none → s.sys.rootBme p j = true → regionOf a.toNat = .dram z → (s.sys.link p j).inq = [] → Completes (.inboundMemRead p j a n ro false reqId) s (fun t =>
      (t.sys.link p j).inq = [⟨(s.sys.link p j).nextId, .read, a.toNat, n, s.sys.linkKennel p j, s.sys.linkSecure p j, ro, 0, false, [], rangeLines a.toNat n, false, none, reqId.toNat⟩] ∧
      t.sys.lkState p j = lkUp ∧ t.sys.rf F.IOP_LINK_STATUS_INB_IDLE p j = 0 ∧ (t.sys.link p j).out = (s.sys.link p j).out ∧ (t.sys.link p j).tx = (s.sys.link p j).tx ∧
      (rangeLines a.toNat n).all (fun l => t.sys.msgs.any (fun m => match m with
      | .req _ r => r.line == l && r.who == .port p j && r.kind == .devRd | .reply w l' _ _ _ => w == .port p j && l' == l | _ => false) ||
      (t.sys.stop (Source.stop (.port p j))).held.any (fun r => r.line == l && r.who == .port p j && r.kind == .devRd)) = true ∧
      s.OnlyLink t p j (fun k => k == ⟨.IOP_LINK_STATUS, p, j⟩ || grainReg k) sentParts)) ∧
  (∀ (s : State) (p : Fin 8) (j : Fin 4) (a : Word) (n : Fin 4097) (data : Nat) (e ro : Bool) (reqId : BitVec 16) (z : Nat), s.Live → s.sys.portHeld p = false → s.sys.isRoot p = true → s.sys.linkTakes p j = true → n.val ≠ 0 → (s.sys.link p j).reset = .none → s.sys.rootBme p j = true → regionOf a.toNat = .dram z → (s.sys.link p j).inq = [] → Completes (.inboundMemWrite p j a n data e ro false reqId) s (fun t =>
      (t.sys.link p j).inq = [⟨(s.sys.link p j).nextId, .write, a.toNat, n, s.sys.linkKennel p j, s.sys.linkSecure p j, ro, data, e, [], rangeLines a.toNat n, false, none, reqId.toNat⟩] ∧
      t.sys.lkState p j = lkUp ∧ t.sys.rf F.IOP_LINK_STATUS_INB_IDLE p j = 0 ∧ (t.sys.link p j).tx = (s.sys.link p j).tx ∧
      (rangeLines a.toNat n).all (fun l => t.sys.msgs.any (fun m => match m with
      | .req _ r => r.line == l && r.who == .port p j && r.kind == .devWr && r.poison == e | .reply w l' _ _ _ => w == .port p j && l' == l | _ => false) ||
      (t.sys.stop (Source.stop (.port p j))).held.any (fun r => r.line == l && r.who == .port p j && r.kind == .devWr && r.poison == e)) = true ∧
      s.OnlyLink t p j (fun k => k == ⟨.IOP_LINK_STATUS, p, j⟩ || grainReg k) sentParts)) ∧
  (∀ (s : State) (p : Fin 8) (j : Fin 4) (a : Word) (n : Fin 4097) (data : Nat) (e ro bad : Bool) (reqId : BitVec 16), s.Live → s.sys.portHeld p = false → s.sys.isRoot p = true → s.sys.linkTakes p j = true → n.val ≠ 0 → (s.sys.link p j).reset = .none → s.sys.rootBme p j = false → Completes (.inboundMemWrite p j a n data e ro bad reqId) s (fun t => t.sys.links = s.sys.links ∧
      t.sys.rf F.IOP_LINK_STATUS_BME_DROP p j = min 0xFFFF (s.sys.rf F.IOP_LINK_STATUS_BME_DROP p j + 1) ∧
      t.sys.rf F.IOP_LINK_ERR_VALID p j = 1 ∧ (s.sys.rf F.IOP_LINK_ERR_VALID p j = 0 → t.sys.rf F.IOP_LINK_ERR_CAUSE p j = 2) ∧
      s.Only t (fun k => k == ⟨.IOP_LINK_STATUS, p, j⟩ || k == ⟨.IOP_LINK_ERR, p, j⟩ || k == ⟨.IOP_LINK_ERRADDR, p, j⟩) [])) ∧
  (∀ (s : State) (p : Fin 8) (j : Fin 4) (a : Word) (n : Fin 4097) (ro bad : Bool) (reqId : BitVec 16), s.Live → s.sys.portHeld p = false → s.sys.isRoot p = true → s.sys.linkTakes p j = true → n.val ≠ 0 → (s.sys.link p j).reset = .none → s.sys.rootBme p j = false ∨ bad = true ∨ (match regionOf a.toNat with | .dram _ | .cxl _ | .window _ => false | _ => true) = true → Completes (.inboundMemRead p j a n ro bad reqId) s (fun t => (t.sys.link p j).tx = .unsupported ∧ (t.sys.link p j).inq = (s.sys.link p j).inq ∧
      t.sys.rf F.IOP_LINK_ERR_VALID p j = 1 ∧ (s.sys.rf F.IOP_LINK_ERR_VALID p j = 0 → t.sys.rf F.IOP_LINK_ERR_REQ_ID p j = reqId.toNat) ∧
      s.OnlyLink t p j (fun k => k == ⟨.IOP_LINK_STATUS, p, j⟩ || k == ⟨.IOP_LINK_ERR, p, j⟩ || k == ⟨.IOP_LINK_ERRADDR, p, j⟩) [])) ∧
  (∀ (s : State) (p : Fin 8) (j : Fin 4) (off : BitVec 12) (n : Fin 4097) (data : Nat) (reqId : BitVec 16), s.Live → s.sys.portHeld p = false → s.sys.isRoot p = true → s.sys.linkTakes p j = true → n.val = 4 ∨ n.val = 8 → off.toNat % n.val = 0 → (s.sys.link p j).reset = .none → s.sys.rootBme p j = true → (s.sys.link p j).inq = [] → s.sys.on F.ICN_DOM_CFG_CLK_STOPPED (s.sys.linkKennel p j) = false → s.sys.icn.inReset.contains (s.sys.linkKennel p j) = false → Completes (.msiWrite p j off n data reqId) s (fun t => (t.sys.link p j).inq = [] ∧
      (if s.sys.srcPresent (s.sys.linkKennel p j) (data % 4096) = true ∧ 16 ≤ data % 4096 ∧ s.sys.srcLevel (s.sys.linkKennel p j) (data % 4096) = false ∧
      (s.sys.linkSecure p j = true ∨ s.sys.on F.ICN_SRC_SEC (s.sys.linkKennel p j) (data % 4096) = false)
      then t.sys.rf F.ICN_SRC_PENDING (s.sys.linkKennel p j) (data % 4096) = 1
      else t.sys.rf F.ICN_DOM_STATUS_MSG_DROP (s.sys.linkKennel p j) = min 0xFFFF (s.sys.rf F.ICN_DOM_STATUS_MSG_DROP (s.sys.linkKennel p j) + 1)) ∧
      s.OnlyLink t p j (fun k => k == ⟨.IOP_LINK_STATUS, p, j⟩ || lineReg k || k == ⟨.ICN_SRC, s.sys.linkKennel p j, data % 4096⟩ || oneReg (s.sys.linkKennel p j) [.ICN_DOM_STATUS] k) [.icn])) ∧
  (∀ (s : State) (p : Fin 8) (j : Fin 4) (off : BitVec 12) (n : Fin 4097) (data : Nat) (reqId : BitVec 16), s.Live → s.sys.portHeld p = false → s.sys.isRoot p = true → s.sys.linkTakes p j = true → n.val ≠ 0 → (n.val ≠ 4 ∧ n.val ≠ 8) ∨ off.toNat % n.val ≠ 0 → (s.sys.link p j).reset = .none → s.sys.rootBme p j = true → Completes (.msiWrite p j off n data reqId) s (fun t => t.sys.links = s.sys.links ∧ t.sys.rf F.IOP_LINK_ERR_VALID p j = 1 ∧
      (s.sys.rf F.IOP_LINK_ERR_VALID p j = 0 → t.sys.rf F.IOP_LINK_ERR_CAUSE p j = 11) ∧
      s.Only t (fun k => k == ⟨.IOP_LINK_STATUS, p, j⟩ || k == ⟨.IOP_LINK_ERR, p, j⟩ || k == ⟨.IOP_LINK_ERRADDR, p, j⟩) [])) ∧
  (∀ (s : State) (p : Fin 8) (j wire : Fin 4), s.Live → s.sys.isRoot p = true → s.sys.linkTakes p j = true → (s.sys.link p j).reset = .none → Completes (.assertIntx p j wire) s (fun t => bit (t.sys.link p j).wires wire = true ∧ (below 4).all (fun w => w == wire.val || bit (t.sys.link p j).wires w == bit (s.sys.link p j).wires w) = true ∧ bit (t.sys.rf F.IOP_LINK_INTX_WIRES p j) wire = true ∧
      (s.sys.on F.IOP_LINK_CTL_INTX_EN p j = true → s.sys.intxName p j wire ≠ 0 → 16 ≤ s.sys.intxName p j wire →
      s.sys.srcLevel (s.sys.linkKennel p j) (s.sys.intxName p j wire) = true → t.sys.srcPending (s.sys.linkKennel p j) (s.sys.intxName p j wire) = true) ∧
      s.OnlyLink t p j (fun k => k == ⟨.IOP_LINK_STATUS, p, j⟩ || k == ⟨.IOP_LINK_INTX, p, j⟩ || lineReg k) [.icn])) ∧
  (∀ (s : State) (p : Fin 8) (j wire : Fin 4), s.Live → s.sys.isRoot p = true → s.sys.linkTakes p j = true → (s.sys.link p j).reset = .none → Completes (.deassertIntx p j wire) s (fun t => bit (t.sys.link p j).wires wire = false ∧ bit (t.sys.rf F.IOP_LINK_INTX_WIRES p j) wire = false ∧
      (below 4).all (fun w => w == wire.val || bit (t.sys.link p j).wires w == bit (s.sys.link p j).wires w) = true ∧
      s.OnlyLink t p j (fun k => k == ⟨.IOP_LINK_STATUS, p, j⟩ || k == ⟨.IOP_LINK_INTX, p, j⟩ || lineReg k) [.icn])) ∧
  (∀ (s : State) (p : Fin 8) (j : Fin 4), s.Live → s.sys.isRoot p = true → s.sys.linkTakes p j = true → Completes (.ptmRequest p j) s (fun t => (t.sys.link p j).tx = .ptm (s.sys.span.now * 25 / 32) ∧ t.sys.lkState p j = lkUp ∧
      s.OnlyLink t p j (fun k => k == ⟨.IOP_LINK_STATUS, p, j⟩) []))

/-- R454, R459 to R464, R467. -/
def Obligations.EndpointPort : Prop :=
  (∀ (s : State) (p : Fin 8) (write : Bool) (a : Word) (n : Fin 4097) (data : Nat) (e ro : Bool) (reqId : BitVec 16) (b o i z : Nat), s.Live → s.sys.portHeld p = false → s.sys.isEp p = true → s.sys.linkTakes p 0 = true → n.val ≠ 0 → s.sys.barOf p a.toNat = some (b, o) → s.sys.xlatOf p b o = some i → (s.sys.link p 0).reset = .none → (s.sys.link p 0).inq = [] → o + n.val ≤ s.sys.rf F.IOP_EP_XLAT_OFFSET p i * 4096 + 2 ^ s.sys.rf F.IOP_EP_XLAT_SIZE_LOG2 p i → (if write then s.sys.on F.IOP_EP_XLAT_WRITE p i else s.sys.on F.IOP_EP_XLAT_READ p i) = true → s.sys.rf F.IOP_EP_XLAT_TYPE p i = 0 → regionOf (s.sys.rf F.IOP_EP_XLAT_TGT_ADDR p i * 4096 + (o - s.sys.rf F.IOP_EP_XLAT_OFFSET p i * 4096)) = .dram z → Completes (.epInbound p write a n data e ro reqId) s (fun t => let d := s.sys.rf F.IOP_EP_XLAT_TGT_ADDR p i * 4096 + (o - s.sys.rf F.IOP_EP_XLAT_OFFSET p i * 4096)
      (t.sys.link p 0).inq = [⟨(s.sys.link p 0).nextId, if write then .write else .read, d, n, s.sys.rf F.IOP_EP_XLAT_KENNEL p i, s.sys.on F.IOP_EP_XLAT_WORLD_S p i, ro,
      if write then data else 0, e && write, [], rangeLines d n, false, some i, reqId.toNat⟩] ∧ t.sys.lkState p 0 = lkUp ∧
      s.OnlyLink t p 0 (fun k => k == ⟨.IOP_LINK_STATUS, p, 0⟩ || grainReg k) sentParts)) ∧
  (∀ (s : State) (p : Fin 8) (write : Bool) (a : Word) (n : Fin 4097) (data : Nat) (e ro : Bool) (reqId : BitVec 16) (b o : Nat), s.Live → s.sys.portHeld p = false → s.sys.isEp p = true → s.sys.linkTakes p 0 = true → n.val ≠ 0 → s.sys.barOf p a.toNat = some (b, o) → s.sys.xlatOf p b o = none → Completes (.epInbound p write a n data e ro reqId) s (fun t => (t.sys.link p 0).inq = (s.sys.link p 0).inq ∧
      t.sys.rf F.IOP_EP_XCOMMIT_MISS p = min 0xFFFF (s.sys.rf F.IOP_EP_XCOMMIT_MISS p + 1) ∧ (write = false → (t.sys.link p 0).tx = .unsupported) ∧
      t.sys.rf F.IOP_LINK_ERR_VALID p 0 = 1 ∧ (s.sys.rf F.IOP_LINK_ERR_VALID p 0 = 0 → t.sys.rf F.IOP_LINK_ERR_CAUSE p 0 = 12) ∧
      s.OnlyLink t p 0 (fun k => k == ⟨.IOP_LINK_STATUS, p, 0⟩ || k == ⟨.IOP_LINK_ERR, p, 0⟩ || k == ⟨.IOP_LINK_ERRADDR, p, 0⟩ || oneReg p [.IOP_EP_XCOMMIT] k) [])) ∧
  (∀ (s : State) (p : Fin 8) (write : Bool) (a : Word) (n : Fin 4097) (data : Nat) (e ro : Bool) (reqId : BitVec 16) (b o i : Nat), s.Live → s.sys.portHeld p = false → s.sys.isEp p = true → s.sys.linkTakes p 0 = true → n.val ≠ 0 → s.sys.barOf p a.toNat = some (b, o) → s.sys.xlatOf p b o = some i → (s.sys.link p 0).reset = .none → o + n.val ≤ s.sys.rf F.IOP_EP_XLAT_OFFSET p i * 4096 + 2 ^ s.sys.rf F.IOP_EP_XLAT_SIZE_LOG2 p i → (if write then s.sys.on F.IOP_EP_XLAT_WRITE p i else s.sys.on F.IOP_EP_XLAT_READ p i) = false → Completes (.epInbound p write a n data e ro reqId) s (fun t => (t.sys.link p 0).inq = (s.sys.link p 0).inq ∧
      t.sys.rf F.IOP_EP_XCOMMIT_MISS p = min 0xFFFF (s.sys.rf F.IOP_EP_XCOMMIT_MISS p + 1) ∧ (write = false → (t.sys.link p 0).tx = .unsupported) ∧
      (s.sys.rf F.IOP_LINK_ERR_VALID p 0 = 0 → t.sys.rf F.IOP_LINK_ERR_CAUSE p 0 = 14) ∧
      s.OnlyLink t p 0 (fun k => k == ⟨.IOP_LINK_STATUS, p, 0⟩ || k == ⟨.IOP_LINK_ERR, p, 0⟩ || k == ⟨.IOP_LINK_ERRADDR, p, 0⟩ || oneReg p [.IOP_EP_XCOMMIT] k) [])) ∧
  (∀ (s : State) (req : Requester) (p : Fin 8) (v : Word), s.Takes (.xlatCommit req p v) → s.sys.on F.IOP_EP_XCOMMIT_OLD_BUSY p = false → fget (s.sys.rd ⟨.IOP_EP_XSH, p, fget v 0 6⟩) 63 1 = 0 → Completes (.xlatCommit req p v) s (fun t => t.sys.rd ⟨.IOP_EP_XLAT, p, fget v 0 6⟩ = s.sys.rd ⟨.IOP_EP_XSH, p, fget v 0 6⟩ ∧
      t.sys.rd ⟨.IOP_EP_XLAT_TGT, p, fget v 0 6⟩ = s.sys.rd ⟨.IOP_EP_XSH_TGT, p, fget v 0 6⟩ ∧ t.sys.rf F.IOP_EP_XCOMMIT_GO p = s.sys.rf F.IOP_EP_XCOMMIT_GO p ∧
      t.sys.rf F.IOP_EP_XCOMMIT_OLD_BUSY p = b2n ((s.sys.link p 0).inq.any (fun r => r.entry == some (fget v 0 6))) ∧ t.sys.links = s.sys.links ∧
      s.Only t (fun k => writeReg p [.IOP_EP_XCOMMIT] k || k == ⟨.IOP_EP_XLAT, p, fget v 0 6⟩ || k == ⟨.IOP_EP_XLAT_TGT, p, fget v 0 6⟩) (.eps :: accessParts))) ∧
  (∀ (s : State) (req : Requester) (p : Fin 8) (v : Word), s.Takes (.xlatCommit req p v) → fget v 61 1 = 0 → s.sys.on F.IOP_EP_XCOMMIT_OLD_BUSY p = true ∨ (fget (s.sys.rd ⟨.IOP_EP_XSH, p, fget v 0 6⟩) 63 1 = 1 ∧ (fget (s.sys.rd ⟨.IOP_EP_XSH, p, fget v 0 6⟩) 45 6 < 12 ∨ 38 < fget (s.sys.rd ⟨.IOP_EP_XSH, p, fget v 0 6⟩) 45 6 ∨ (s.sys.conf.kennel (fget (s.sys.rd ⟨.IOP_EP_XSH, p, fget v 0 6⟩) 54 4)).enabled = false)) → Completes (.xlatCommit req p v) s (fun t => t.sys.rf F.IOP_EP_XCOMMIT_CMD_ERR p = 1 ∧ s.Only t (writeReg p [.IOP_EP_XCOMMIT]) accessParts)) ∧
  (∀ (s : State) (p : Fin 8), s.Live → s.sys.on F.IOP_EP_XCOMMIT_OLD_BUSY p = true → (s.sys.ep p).old.all (fun id => (s.sys.link p 0).inq.all (fun r => r.id != id)) = true → Completes (.xlatOldDrainDone p) s (fun t => t.sys.rf F.IOP_EP_XCOMMIT_OLD_BUSY p = 0 ∧ t.sys.ep p = { s.sys.ep p with old := [] } ∧ s.Only t (oneReg p [.IOP_EP_XCOMMIT]) [.eps])) ∧
  (∀ (s : State) (req : Requester) (p : Fin 8) (v : Word) (n : Nat), s.Takes (.epMsiRequest req p v) → s.sys.isEp p = true → n = fget v 0 5 % max 1 (s.sys.rf F.IOP_EP_STATUS_MSI_VECTORS p) → s.sys.linkUp p 0 = false ∨ s.sys.on F.IOP_EP_STATUS_BME p = false ∨ s.sys.on F.IOP_EP_STATUS_MSI_EN p = false → Completes (.epMsiRequest req p v) s (fun t => t.sys.rf F.IOP_EP_MSI_PENDING p = setBit (s.sys.rf F.IOP_EP_MSI_PENDING p) n true ∧ t.sys.links = s.sys.links ∧
      s.Only t (writeReg p [.IOP_EP_MSI]) accessParts)) ∧
  (∀ (s : State) (req : Requester) (p : Fin 8) (v : Word) (n : Nat), s.Takes (.epMsiRequest req p v) → s.sys.isEp p = true → n = fget v 0 5 % max 1 (s.sys.rf F.IOP_EP_STATUS_MSI_VECTORS p) → s.sys.linkUp p 0 = true → s.sys.on F.IOP_EP_STATUS_BME p = true → s.sys.on F.IOP_EP_STATUS_MSI_EN p = true → s.sys.heeled = false → bit (s.sys.ep p).masks n = false → s.sys.rf F.IOP_EP_MSI_PENDING p = 0 → Completes (.epMsiRequest req p v) s (fun t => t.sys.rf F.IOP_EP_MSI_PENDING p = 0 ∧ (t.sys.link p 0).tx = .msi (s.sys.ep p).msiAddr ((s.sys.ep p).msiData ||| n) ∧ t.sys.lkState p 0 = lkUp ∧
      s.OnlyLink t p 0 (fun k => writeReg p [.IOP_EP_MSI] k || k == ⟨.IOP_LINK_STATUS, p, 0⟩) accessParts)) ∧
  (∀ (s : State) (req : Requester) (p : Fin 8) (v : Word), s.Takes (.epIntxWrite req p v) → s.sys.isEp p = true → s.sys.linkUp p 0 = true → Completes (.epIntxWrite req p v) s (fun t => let want := fget v 0 1 == 1 && !s.sys.on F.IOP_EP_STATUS_INTX_DIS p
      t.sys.rf F.IOP_EP_INTX_ASSERT p = fget v 0 1 ∧ t.sys.rf F.IOP_EP_INTX_SENT p = b2n want ∧
      (t.sys.link p 0).tx = (if want = s.sys.on F.IOP_EP_INTX_SENT p then (s.sys.link p 0).tx else .intx 0 want) ∧
      s.OnlyLink t p 0 (fun k => writeReg p [.IOP_EP_INTX] k || k == ⟨.IOP_LINK_STATUS, p, 0⟩) accessParts)) ∧
  (∀ (s : State) (p : Fin 8) (mem bme dis : Bool), s.Live → s.sys.isEp p = true → s.sys.linkTakes p 0 = true → Completes (.hostCommandWrite p (.command mem bme dis)) s (fun t => t.sys.rf F.IOP_EP_STATUS_MEM_EN p = b2n mem ∧ t.sys.rf F.IOP_EP_STATUS_BME p = b2n bme ∧
      t.sys.rf F.IOP_EP_STATUS_INTX_DIS p = b2n dis ∧ t.sys.rf F.IOP_LINK_STATUS_BME p 0 = b2n bme ∧ t.sys.rf F.IOP_EP_INTX_SENT p = b2n (s.sys.on F.IOP_EP_INTX_ASSERT p && !dis) ∧
      (bme = false → t.sys.rf F.IOP_EP_MSI_PENDING p = s.sys.rf F.IOP_EP_MSI_PENDING p) ∧
      s.OnlyLink t p 0 (fun k => oneReg p [.IOP_EP_STATUS, .IOP_EP_INTX, .IOP_EP_MSI] k || k == ⟨.IOP_LINK_STATUS, p, 0⟩) [])) ∧
  (∀ (s : State) (p : Fin 8), s.Live → s.sys.isEp p = true → s.sys.linkTakes p 0 = true → Completes (.hostBmeClear p) s (fun t => t.sys.rf F.IOP_EP_STATUS_BME p = 0 ∧ t.sys.rf F.IOP_LINK_STATUS_BME p 0 = 0 ∧
      t.sys.rf F.IOP_EP_STATUS_MEM_EN p = s.sys.rf F.IOP_EP_STATUS_MEM_EN p ∧ t.sys.rf F.IOP_EP_STATUS_INTX_DIS p = s.sys.rf F.IOP_EP_STATUS_INTX_DIS p ∧
      t.sys.rf F.IOP_EP_MSI_PENDING p = s.sys.rf F.IOP_EP_MSI_PENDING p ∧ (t.sys.link p 0).out = (s.sys.link p 0).out ∧ (t.sys.link p 0).inq = (s.sys.link p 0).inq ∧
      s.OnlyLink t p 0 (fun k => oneReg p [.IOP_EP_STATUS, .IOP_EP_INTX] k || k == ⟨.IOP_LINK_STATUS, p, 0⟩) [])) ∧
  (∀ (s : State) (req : Requester) (p : Fin 8) (v : Word), s.Takes (.linkEn req p v) → s.sys.isEp p = true → s.sys.lkState p 0 = lkReset → (s.sys.ep p).perstIn = true → Completes (.linkEn req p v) s (fun t => t.sys.lkState p 0 = lkTraining ∧ t.sys.rf F.IOP_EP_CTL_LINK_EN p = 1 ∧ t.sys.rf F.IOP_EP_CTL_OB_BASE p = fget v 44 20 ∧
      s.Only t (fun k => writeReg p [.IOP_EP_CTL] k || k == ⟨.IOP_LINK_STATUS, p, 0⟩) accessParts)) ∧
  (∀ (s : State) (p : Fin 8), s.Live → s.sys.isEp p = true → s.sys.linkUp p 0 = true → Completes (.perstInput p false) s (fun t => t.sys.lkState p 0 = lkReset ∧ (t.sys.ep p).perstIn = false ∧ (t.sys.link p 0).out = [] ∧
      (t.sys.link p 0).inq = (s.sys.link p 0).inq.filter (fun r => r.kind.posted) ∧ t.sys.rf F.IOP_EP_STATUS_LINK_UP p = 0 ∧ t.sys.rf F.IOP_EP_INTX_SENT p = 0)) ∧
  (∀ (s : State) (p : Fin 8), s.Live → s.sys.isEp p = true → s.sys.lkState p 0 = lkReset → s.sys.on F.IOP_EP_CTL_LINK_EN p = true → Completes (.perstInput p true) s (fun t => t.sys.lkState p 0 = lkTraining ∧ t.sys.ep p = { s.sys.ep p with perstIn := true } ∧ s.Only t (fun k => k == ⟨.IOP_LINK_STATUS, p, 0⟩) [.eps]))

/-- R465 to R469. What DPC disabled does with a fatal error is the spec's table (R467). -/
def Obligations.LinkStates : Prop :=
  (∀ (s : State) (req : Requester) (p : Fin 8) (j : Fin 4) (v : Word), s.Takes (.perstRel req p j v) → fget v 56 1 = 0 → (s.sys.whoIs req).1.secure = true ∨ s.sys.holdCount (80 + p.val) = 0 → s.sys.isRoot p = true → s.sys.hasLink p j = true → s.sys.lkState p j = lkReset → Completes (.perstRel req p j v) s (fun t => t.sys.lkState p j = lkTraining ∧ t.sys.rf F.IOP_LINK_CTL_PERST_REL p j = 1 ∧ (t.sys.link p j).perst = false ∧
      s.OnlyLink t p j (linkReg p j) (.pwr :: .icn :: accessParts))) ∧
  (∀ (s : State) (req : Requester) (p : Fin 8) (j : Fin 4) (v : Word), s.Takes (.linkRetrain req p j v) → fget v 56 1 = 0 → (s.sys.whoIs req).1.secure = true ∨ s.sys.holdCount (80 + p.val) = 0 → s.sys.lkState p j = lkDown → Completes (.linkRetrain req p j v) s (fun t => t.sys.lkState p j = lkTraining ∧ t.sys.rf F.IOP_LINK_CTL_RETRAIN p j = s.sys.rf F.IOP_LINK_CTL_RETRAIN p j ∧ s.OnlyLink t p j (linkReg p j) (.pwr :: .icn :: accessParts))) ∧
  (∀ (s : State) (req : Requester) (p : Fin 8) (j : Fin 4) (v : Word), s.Takes (.dpcRelease req p j v) → fget v 56 1 = 0 → (s.sys.whoIs req).1.secure = true ∨ s.sys.holdCount (80 + p.val) = 0 → s.sys.lkState p j = lkContained → Completes (.dpcRelease req p j v) s (fun t => t.sys.lkState p j = lkTraining ∧ s.OnlyLink t p j (linkReg p j) (.pwr :: .icn :: accessParts))) ∧
  (∀ (s : State) (req : Requester) (p : Fin 8) (j : Fin 4) (v : Word), s.Takes (.linkPwrReq req p j v) → (s.sys.whoIs req).1.secure = true ∨ s.sys.holdCount (80 + p.val) = 0 → fget v 56 1 = 1 → s.sys.lkState p j ≠ lkHeel → s.sys.lkState p j ≠ lkOff → fget v 61 3 = 1 → Completes (.linkPwrReq req p j v) s (fun t => t.sys.lkState p j = lkOff ∧ t.sys.rf F.IOP_LINK_CTL_PWR_REQ p j = 1 ∧ (t.sys.link p j).off = true ∧ (t.sys.link p j).wires = 0 ∧
      t.sys.rf F.IOP_LINK_STATUS_SPEED p j = 0 ∧ t.sys.rf F.IOP_LINK_STATUS_WIDTH p j = 0 ∧
      s.OnlyLink t p j (fun k => linkReg p j k || oneReg p [.IOP_EP_STATUS, .IOP_EP_INTX] k) (.pwr :: .icn :: accessParts))) ∧
  (∀ (s : State) (req : Requester) (p : Fin 8) (j : Fin 4) (v : Word), s.Takes (.linkPwrReq req p j v) → (s.sys.whoIs req).1.secure = true ∨ s.sys.holdCount (80 + p.val) = 0 → fget v 56 1 = 0 → fget v 61 3 = 0 → s.sys.lkState p j = lkOff → s.sys.role p ≠ 0 → Completes (.linkPwrReq req p j v) s (fun t => t.sys.lkState p j = lkReset ∧ t.sys.rf F.IOP_LINK_CTL_PWR_REQ p j = 0 ∧ (t.sys.link p j).off = false ∧
      s.OnlyLink t p j (linkReg p j) (.pwr :: .icn :: accessParts))) ∧
  (∀ (s : State) (p : Fin 8) (j : Fin 4) (speed : Fin 7) (width : Fin 17) (cxl : Bool), s.Live → s.sys.hasLink p j = true → s.sys.lkState p j = lkTraining → s.sys.heeled = false → Completes (.linkUp p j speed width cxl) s (fun t => t.sys.lkState p j = lkUp ∧ t.sys.rf F.IOP_LINK_STATUS_SPEED p j = min speed.val ((s.sys.conf.port p).maxGen) % 8 ∧
      t.sys.rf F.IOP_LINK_STATUS_WIDTH p j = min width.val (laneOf (s.sys.conf.port p).bifurc j).2 ∧ t.sys.rf F.IOP_LINK_STATUS_CXL p j = b2n (cxl && s.sys.role p == 2) ∧
      (s.sys.isEp p = true → t.sys.rf F.IOP_EP_STATUS_LINK_UP p = 1) ∧
      s.OnlyLink t p 0 (fun k => k == ⟨.IOP_LINK_STATUS, p, j⟩ || (s.sys.isEp p && (oneReg p [.IOP_EP_STATUS, .IOP_EP_INTX, .IOP_EP_MSI] k || k == ⟨.IOP_LINK_STATUS, p, 0⟩))) [])) ∧
  (∀ (s : State) (p : Fin 8) (j : Fin 4) (ev : LinkEvent) (dpc : Bool), s.Live → s.sys.hasLink p j = true → s.sys.heeled = false → s.sys.linkUp p j = true → ev = .lost ∨ (dpc = true ∧ (ev = .fatal ∨ ev = .datapath)) → (s.sys.link p j).out.all (fun o => match o.by_ with | .src _ => true | _ => false) = true → Completes (.linkLost p j ev dpc) s (fun t => t.sys.lkState p j = (if dpc then lkContained else lkDown) ∧ (t.sys.link p j).out = [] ∧ (t.sys.link p j).wires = 0 ∧
      (t.sys.link p j).inq = (s.sys.link p j).inq.filter (fun r => r.kind.posted) ∧ t.sys.rf F.IOP_LINK_STATUS_SPEED p j = 0 ∧ t.sys.rf F.IOP_LINK_STATUS_OB_IDLE p j = 1 ∧
      t.sys.rf F.IOP_LINK_ERR_VALID p j = 1 ∧ (s.sys.rf F.IOP_LINK_ERR_VALID p j = 0 → t.sys.rf F.IOP_LINK_ERR_CAUSE p j = (if dpc then 9 else 10)) ∧
      t.sys.fcr.events.contains ⟨srcPort p (if dpc then 4 else 3), j⟩ = true ∧ (∀ q i, (q, i) ≠ (p.val, j.val) → t.sys.link q i = s.sys.link q i))) ∧
  (∀ (s : State) (p : Fin 8) (j : Fin 4), s.Live → s.sys.hasLink p j = true → s.sys.heeled = false → s.sys.linkUp p j = true → Completes (.linkLost p j .fatal false) s (fun t => t.sys.lkState p j = s.sys.lkState p j ∧ t.sys.fcr.events.contains ⟨srcPort p 2, j⟩ = true ∧ s.Only t (fun _ => false) [.fcr])) ∧
  (∀ (s : State) (p : Fin 8) (j : Fin 4), s.Live → s.sys.lkState p j = lkUp → s.sys.rf F.IOP_LINK_CTL_IDLE_L1 p j ≠ 0 → (s.sys.link p j).out = [] → (s.sys.link p j).inq = [] → Completes (.l1Entry p j) s (fun t => t.sys.lkState p j = lkL1 ∧ s.Only t (fun k => k == ⟨.IOP_LINK_STATUS, p, j⟩) [])) ∧
  (∀ (s : State) (p : Fin 8) (j : Fin 4), s.Live → s.sys.lkState p j = lkL1 → Completes (.l1Exit p j) s (fun t => t.sys.lkState p j = lkUp ∧ s.Only t (fun k => k == ⟨.IOP_LINK_STATUS, p, j⟩) [])) ∧
  (∀ (s : State) (p : Fin 8) (j : Fin 4), s.Live → (s.sys.link p j).reset = .hot → Completes (.hotResetEnd p j) s (fun t => t.sys.lkState p j = lkTraining ∧ t.sys.link p j = { s.sys.link p j with reset := .none, perst := false } ∧
      s.OnlyLink t p j (fun k => k == ⟨.IOP_LINK_STATUS, p, j⟩) []))

/-! ## Chapter 13 -/

/-- R477 to R480, R484, R486, R488, R489. -/
def Obligations.Descriptors : Prop :=
  (∀ (s : State) (e : Fin 8) (j : EngJob) (d : Desc) (l k a n : Nat) (g : Stage), s.Live → s.sys.Runs e j d → d.op = 1 → d.dstLines (s.sys.ckpt j.chan) = [l] → d.srcLines (s.sys.ckpt j.chan) = [k] → s.sys.staged e k false = some g → j.sent = [] → inLine (d.dst + s.sys.ckpt j.chan) (chunkLen d (s.sys.ckpt j.chan)) l = (a, n) → n < 64 ∨ (s.sys.staged e l true).isSome = true → s.sys.engTo a = .home → s.sys.StopClear (.engine e) (s.sys.chKennel j.chan) 1 → (s.sys.conf.homeOf (s.sys.chKennel j.chan) (64 * l)).isSome = true → Completes (.copy e) s (fun t => t.sys.msgs.any (fun m => match m with
      | .req _ r => r.kind == .devWr && r.line == l && r.who == .engine e && r.kennel == s.sys.chKennel j.chan && r.secure == s.sys.chSecure j.chan && r.poison == g.poison &&
      r.mask == BitVec.ofNat 64 ((2 ^ n - 1) * 2 ^ (a % 64)) && (below n).all (fun i => lineByte r.data ((a + i) % 64) == lineByte g.data ((d.src + (a + i - d.dst)) % 64))
      | _ => false) = true ∧ (t.sys.eng e).job = some { j with sent := [l], ready := j.fin.contains l } ∧
      (t.sys.chn j.chan).desc = some { d with poison := d.poison || g.poison } ∧ s.OnlyEng t e (engReg e j.chan) (.staging :: .rtv :: sentParts))) ∧
  (∀ (s : State) (e : Fin 8) (j : EngJob) (d : Desc) (l a n : Nat), s.Live → s.sys.Runs e j d → d.op = 2 → d.dstLines (s.sys.ckpt j.chan) = [l] → j.sent = [] → inLine (d.dst + s.sys.ckpt j.chan) (chunkLen d (s.sys.ckpt j.chan)) l = (a, n) → n < 64 → s.sys.engTo a = .home → s.sys.StopClear (.engine e) (s.sys.chKennel j.chan) 1 → (s.sys.conf.homeOf (s.sys.chKennel j.chan) (64 * l)).isSome = true → Completes (.fill e) s (fun t => t.sys.msgs.any (fun m => match m with
      | .req _ r => r.kind == .devWr && r.line == l && r.who == .engine e && !r.poison && r.mask == BitVec.ofNat 64 ((2 ^ n - 1) * 2 ^ (a % 64)) &&
      (below n).all (fun i => lineByte r.data ((a + i) % 64) == d.src / 2 ^ (8 * ((a + i) % 8)) % 256)
      | _ => false) = true ∧ (t.sys.eng e).job = some { j with sent := [l], ready := j.fin.contains l } ∧ s.OnlyEng t e (engReg e j.chan) (.staging :: .rtv :: sentParts))) ∧
  (∀ (s : State) (e : Fin 8) (j : EngJob) (d : Desc) (l : Nat), s.Live → s.sys.Runs e j d → d.op = 5 → d.dstLines (s.sys.ckpt j.chan) = [l] → j.sent = [] → inLine (d.dst + s.sys.ckpt j.chan) (chunkLen d (s.sys.ckpt j.chan)) l = (64 * l, 64) → (s.sys.staged e l true).isSome = true → s.sys.engTo (64 * l) = .home → s.sys.StopClear (.engine e) (s.sys.chKennel j.chan) 1 → (s.sys.conf.homeOf (s.sys.chKennel j.chan) (64 * l)).isSome = true → Completes (.zero e) s (fun t => t.sys.msgs.any (fun m => match m with
      | .req _ r => r.kind == .devWr && r.line == l && r.who == .engine e && !r.poison && r.mask == BitVec.allOnes 64 && r.data == 0
      | _ => false) = true ∧ (t.sys.eng e).job = some { j with sent := [l], ready := j.fin.contains l } ∧ s.OnlyEng t e (engReg e j.chan) (.staging :: .rtv :: sentParts))) ∧
  (∀ (s : State) (e : Fin 8) (j : EngJob) (d : Desc) (l : Nat), s.Live → s.sys.Runs e j d → d.op = 5 → d.dstLines (s.sys.ckpt j.chan) = [l] → j.sent = [] → inLine (d.dst + s.sys.ckpt j.chan) (chunkLen d (s.sys.ckpt j.chan)) l = (64 * l, 64) → (s.sys.staged e l true).isSome = false → (s.sys.engReqs e).all (fun r => r.line != l) = true → (s.sys.engAnswers e).contains l = false → s.sys.engTo (64 * l) = .home → s.sys.StopClear (.engine e) (s.sys.chKennel j.chan) 0 → (s.sys.conf.homeOf (s.sys.chKennel j.chan) (64 * l)).isSome = true → Completes (.zero e) s (fun t => t.sys.msgs.any (fun m => match m with
      | .req _ r => r.kind == .ownZero && r.line == l && r.who == .engine e
      | _ => false) = true ∧ (t.sys.eng e).job = some { j with ready := j.fin.contains l } ∧ s.OnlyEng t e (engReg e j.chan) sentParts)) ∧
  (∀ (s : State) (e : Fin 8) (j : EngJob) (d : Desc) (i : Nat), s.Live → s.sys.Runs e j d → d.op = 3 → (d.srcLines (s.sys.ckpt j.chan)).all (fun l => (s.sys.staged e l false).any (fun g => !g.poison)) = true → s.sys.engHeld e = [] → i < chunkLen d (s.sys.ckpt j.chan) → (below i).all (fun q => (s.sys.srcByte e (d.src + s.sys.ckpt j.chan + q)).1 == (s.sys.srcByte e (d.dst + s.sys.ckpt j.chan + q)).1) = true → (s.sys.srcByte e (d.src + s.sys.ckpt j.chan + i)).1 ≠ (s.sys.srcByte e (d.dst + s.sys.ckpt j.chan + i)).1 → Completes (.compare e) s (fun t => [EngPhase.ended 1 0 (s.sys.ckpt j.chan + i) (s.sys.ckpt j.chan + i) 2, .record 1 (if d.poison then 6 else 2)].any (fun q => (t.sys.eng e).job == some { j with phase := q }) = true ∧
      t.sys.ckpt j.chan = s.sys.ckpt j.chan ∧ t.sys.staging = s.sys.staging ∧ s.OnlyEng t e (engReg e j.chan) (.rtv :: sentParts))) ∧
  (∀ (s : State) (e : Fin 8) (j : EngJob) (d : Desc), s.Live → s.sys.Runs e j d → d.op = 4 → (d.srcLines (s.sys.ckpt j.chan)).all (fun l => (s.sys.staged e l false).any (fun g => !g.poison)) = true → s.sys.engHeld e = [] → Completes (.crc32c e) s (fun t => (t.sys.eng e).job = some { j with ready := true, crc := crc32c d.crc ((below (chunkLen d (s.sys.ckpt j.chan))).map (fun i =>
      BitVec.ofNat 8 (s.sys.srcByte e (d.src + s.sys.ckpt j.chan + i)).1)) } ∧ t.sys.staging = s.sys.staging ∧ s.OnlyEng t e (fun _ => false) [.rtv])) ∧
  (∀ (s : State) (e : Fin 8) (j : EngJob) (w : BitVec 512), s.Live → s.sys.engUp e = true → s.sys.heeled = false → s.sys.engFetched e = some (j, w) → dfield w 0 1 = 0 → Completes (.nop e) s (fun t => (t.sys.chn j.chan).desc = some (Desc.parse w) ∧ t.sys.ckpt j.chan = 0 ∧
      (if descOk w then [EngPhase.ended 1 0 0 0 0, .record 1 0] else [.ended 3 3 0 0 0, .record 3 0]).any (fun q => (t.sys.eng e).job == some { j with phase := q }) = true ∧
      s.OnlyEng t e (engReg e j.chan) (.staging :: .rtv :: sentParts))) ∧
  (∀ (s : State) (e : Fin 8) (j : EngJob) (d : Desc), s.Live → s.sys.Runs e j d → j.ready = true → s.sys.ckpt j.chan + 4096 < d.len → (s.sys.eng e).turn = false → (s.sys.eng e).off = false → (s.sys.eng e).relq = [] → s.sys.rf F.RTV_CH_STATUS_CREDIT j.chan ≠ 0 → d.len ≤ 2 ^ 40 → Completes (.chunkCheckpoint e) s (fun t => t.sys.ckpt j.chan = s.sys.ckpt j.chan + 4096 ∧ (t.sys.eng e).job = some { j with sent := [], fin := [], ready := false } ∧
      (t.sys.chn j.chan).desc = some { d with crc := if d.op = 4 then j.crc else d.crc } ∧ s.OnlyEng t e (oneReg j.chan [.RTV_CH_PROGRESS]) [.staging, .rtv])) ∧
  (∀ (s : State) (e : Fin 8) (j : EngJob) (d : Desc), s.Live → s.sys.Runs e j d → j.ready = true → d.len ≤ s.sys.ckpt j.chan + 4096 → s.sys.ckpt j.chan ≤ d.len → d.len ≤ 2 ^ 40 → Completes (.chunkCheckpoint e) s (fun t => t.sys.ckpt j.chan = d.len ∧
      [EngPhase.ended 1 0 d.len (if d.op = 3 then d.len else if d.op = 4 then j.crc else 0) 0, .record 1 (if d.poison then 4 else 0)].any (fun q =>
      (t.sys.eng e).job == some { j with phase := q, sent := [], fin := [], ready := false }) = true ∧ s.OnlyEng t e (engReg e j.chan) (.staging :: .rtv :: sentParts))) ∧
  (∀ (s : State) (e : Fin 8) (j : EngJob), s.Live → s.sys.engUp e = true → (s.sys.eng e).job = some j → Completes (.engineSliceBoundary e) s (fun t => t.sys.eng e = { s.sys.eng e with turn := true } ∧ s.OnlyEng t e (fun _ => false) [])) ∧
  (∀ (s : State) (e : Fin 8) (c : Nat), s.Live → s.sys.engUp e = true → s.sys.heeled = false → (s.sys.eng e).job = none → (s.sys.eng e).off = false → (s.sys.eng e).relq = [] → (s.sys.engChoices e).contains c = true → (s.sys.engChoices e).all (fun o => o == c || decide (s.sys.rf F.RTV_CH_STATUS_CREDIT o < s.sys.rf F.RTV_CH_STATUS_CREDIT c) || (s.sys.rf F.RTV_CH_STATUS_CREDIT o == s.sys.rf F.RTV_CH_STATUS_CREDIT c && (decide ((s.sys.chn c).served < (s.sys.chn o).served) || ((s.sys.chn c).served == (s.sys.chn o).served && decide (c < o))))) = true → Completes (.engineSliceBoundary e) s (fun t => t.sys.rf F.RTV_ENG_STATUS_CHANNEL e = c ∧ (t.sys.eng e).job.any (fun j => j.chan == c) = true ∧ (t.sys.chn c).served = s.sys.rtvClock + 1 ∧
      t.sys.rtvClock = s.sys.rtvClock + 1 ∧
      s.OnlyEng t e (engReg e c) (.rtv :: .rtvClock :: sentParts))) ∧
  (∀ (s : State) (e : Fin 8) (j : EngJob) (d : Desc), s.Live → s.sys.engUp e = true → s.sys.heeled = false → (s.sys.eng e).job = some j → j.phase = .recorded 1 0 → (s.sys.chn j.chan).desc = some d → d.stop = none → d.irq = false → s.sys.chState j.chan = chActive → s.sys.ringCount j.chan = 1 → Completes (.completionRecord e) s (fun t => t.sys.rf F.RTV_CH_HEAD_HEAD j.chan = (s.sys.rf F.RTV_CH_HEAD_HEAD j.chan + 1) % 65536 ∧ t.sys.chState j.chan = chIdle ∧
      (t.sys.chn j.chan).desc = none ∧ t.sys.ckpt j.chan = 0)) ∧
  (∀ (s : State) (e : Fin 8) (j : EngJob) (d : Desc) (f : Nat), s.Live → s.sys.engUp e = true → s.sys.heeled = false → (s.sys.eng e).job = some j → j.phase = .recorded 3 f → (s.sys.chn j.chan).desc = some d → d.stop = none → s.sys.rf F.RTV_CH_CTL_IRQ_ID j.chan ≠ 0 → s.sys.srcPresent (s.sys.chKennel j.chan) (s.sys.rf F.RTV_CH_CTL_IRQ_ID j.chan) = true → 16 ≤ s.sys.rf F.RTV_CH_CTL_IRQ_ID j.chan → s.sys.srcLevel (s.sys.chKennel j.chan) (s.sys.rf F.RTV_CH_CTL_IRQ_ID j.chan) = false → s.sys.chSecure j.chan = true ∨ s.sys.on F.ICN_SRC_SEC (s.sys.chKennel j.chan) (s.sys.rf F.RTV_CH_CTL_IRQ_ID j.chan) = false → s.sys.on F.ICN_DOM_CFG_CLK_STOPPED (s.sys.chKennel j.chan) = false → s.sys.icn.inReset.contains (s.sys.chKennel j.chan) = false → Completes (.completionRecord e) s (fun t => t.sys.rf F.RTV_CH_HEAD_HEAD j.chan = (s.sys.rf F.RTV_CH_HEAD_HEAD j.chan + 1) % 65536 ∧ t.sys.chState j.chan = chStopped ∧
      t.sys.rf F.RTV_CH_CTL_ENABLE j.chan = 0 ∧ t.sys.rf F.ICN_SRC_PENDING (s.sys.chKennel j.chan) (s.sys.rf F.RTV_CH_CTL_IRQ_ID j.chan) = 1))

/-- R476, R477, R482, R483, R487, R489, R490. -/
def Obligations.ChannelControl : Prop :=
  (∀ (s : State) (req : Requester) (c : Fin 512) (v : Word), s.Takes (.chTailWrite req c v) → s.sys.chState c ≠ chUnbound → (fget v 0 16 + 65536 - s.sys.rf F.RTV_CH_HEAD_HEAD c) % 65536 ≤ 2 ^ s.sys.rf F.RTV_CH_RING_SIZE_LOG2 c → Completes (.chTailWrite req c v) s (fun t => t.sys.rf F.RTV_CH_TAIL_TAIL c = fget v 0 16 ∧
      t.sys.chState c = (if s.sys.chState c = chIdle ∧ fget v 0 16 ≠ s.sys.rf F.RTV_CH_HEAD_HEAD c then chActive else s.sys.chState c) ∧
      s.Only t (writeReg c [.RTV_CH_TAIL, .RTV_CH_STATUS]) accessParts)) ∧
  (∀ (s : State) (req : Requester) (c : Fin 512) (v : Word), s.Takes (.chTailWrite req c v) → s.sys.chState c ≠ chUnbound → 2 ^ s.sys.rf F.RTV_CH_RING_SIZE_LOG2 c < (fget v 0 16 + 65536 - s.sys.rf F.RTV_CH_HEAD_HEAD c) % 65536 → Completes (.chTailWrite req c v) s (fun t => t.sys.rf F.RTV_CH_STATUS_TAIL_ERR c = 1 ∧ t.sys.chState c = s.sys.chState c ∧ s.Only t (writeReg c [.RTV_CH_STATUS]) accessParts)) ∧
  (∀ (s : State) (req : Requester) (c : Fin 512) (v : Word), s.Takes (.chTailWrite req c v) → s.sys.chState c = chUnbound → Completes (.chTailWrite req c v) s (fun t => t.sys.rf F.RTV_CH_CTL_CMD_ERR c = 1 ∧ s.Only t (writeReg c [.RTV_CH_CTL]) accessParts)) ∧
  (∀ (s : State) (req : Requester) (c : Fin 512) (v : Word), s.Takes (.chEnable req c v) → fget v 62 1 = 0 → s.sys.chState c = chDisabled ∨ s.sys.chState c = chStopped → Completes (.chEnable req c v) s (fun t => t.sys.chState c = (if s.sys.ringCount c = 0 then chIdle else chActive) ∧ t.sys.rf F.RTV_CH_CTL_ENABLE c = 1 ∧
      t.sys.rf F.RTV_CH_CTL_GRAINS c = fget v 32 24 ∧ t.sys.rf F.RTV_CH_CTL_IRQ_ID c = fget v 0 12 ∧ s.Only t (writeReg c [.RTV_CH_CTL, .RTV_CH_STATUS]) accessParts)) ∧
  (∀ (s : State) (req : Requester) (c : Fin 512) (v : Word) (d : Desc), s.Takes (.chDisable req c v) → s.sys.chState c = chActive → (s.sys.chn c).desc = some d → Completes (.chDisable req c v) s (fun t => t.sys.chState c = chDraining ∧ t.sys.rf F.RTV_CH_CTL_ENABLE c = 0 ∧ s.Only t (writeReg c [.RTV_CH_CTL, .RTV_CH_STATUS]) accessParts)) ∧
  (∀ (s : State) (req : Requester) (c : Fin 512) (v : Word), s.Takes (.chDisable req c v) → s.sys.chState c = chIdle ∨ s.sys.chState c = chStopped ∨ (s.sys.chState c = chActive ∧ (s.sys.chn c).desc = none) → s.sys.engOf c = none → Completes (.chDisable req c v) s (fun t => t.sys.chState c = chDisabled ∧ t.sys.rf F.RTV_CH_CTL_ENABLE c = 0 ∧ s.Only t (writeReg c [.RTV_CH_CTL, .RTV_CH_STATUS]) accessParts)) ∧
  (∀ (s : State) (req : Requester) (c : Fin 512) (v : Word), s.Takes (.chAbort req c v) → s.sys.chState c = chIdle ∨ s.sys.chState c = chActive → (s.sys.chn c).desc = none → s.sys.engOf c = none → Completes (.chAbort req c v) s (fun t => t.sys.chState c = chStopped ∧ t.sys.rf F.RTV_CH_STATUS_ABORT_NOOP c = 1 ∧ t.sys.rf F.RTV_CH_CTL_ENABLE c = 0 ∧ t.sys.rf F.RTV_CH_CTL_ABORT c = 0 ∧
      s.Only t (writeReg c [.RTV_CH_CTL, .RTV_CH_STATUS]) accessParts)) ∧
  (∀ (s : State) (req : Requester) (c : Fin 512) (v : Word) (d : Desc) (e : Nat) (j : EngJob), s.Takes (.chAbort req c v) → s.sys.chState c = chActive → (s.sys.chn c).desc = some d → s.sys.engOf c = some e → (s.sys.eng e).job = some j → j.phase = .run → Completes (.chAbort req c v) s (fun t => t.sys.chState c = chStopping ∧ t.sys.rf F.RTV_CH_CTL_ABORT c = 1 ∧ (t.sys.chn c).desc = some { d with stop := some 1 } ∧
      [EngPhase.ended 2 1 0 0 0, .record 2 (if d.poison then 4 else 0)].any (fun q => (t.sys.eng e).job == some { j with phase := q }) = true ∧
      (t.sys.engHeld e).all (fun r => r.line == d.rec_ / 64) = true ∧
      s.OnlyEng t e (fun k => writeReg c [.RTV_CH_CTL] k || engReg e c k) (.rtv :: .resp :: .stations :: .drm :: sentParts))) ∧
  (∀ (s : State) (req : Requester) (c : Fin 512) (v : Word), s.Takes (.chBind req c v) → s.sys.on F.RTV_CH_BIND_VALID c = false → (s.sys.conf.kennel (fget v 56 4)).enabled = true → s.sys.kennelConcerned (fget v 56 4) = false → Completes (.chBind req c v) s (fun t => t.sys.chState c = chDisabled ∧ t.sys.rf F.RTV_CH_BIND_VALID c = 1 ∧ t.sys.chKennel c = fget v 56 4 ∧ t.sys.rf F.RTV_CH_BIND_WORLD_S c = fget v 62 1 ∧
      s.Only t (writeReg c [.RTV_CH_BIND, .RTV_CH_STATUS]) accessParts)) ∧
  (∀ (s : State) (req : Requester) (c : Fin 512) (v : Word), s.Takes (.chBind req c v) → (s.sys.on F.RTV_CH_BIND_VALID c = false ∧ (s.sys.conf.kennel (fget v 56 4)).enabled = false) ∨ (s.sys.on F.RTV_CH_BIND_VALID c = true ∧ (fget v 56 4 ≠ s.sys.chKennel c ∨ fget v 62 1 ≠ s.sys.rf F.RTV_CH_BIND_WORLD_S c)) → Completes (.chBind req c v) s (fun t => t.sys.rd ⟨.RTV_CH_BIND, c, 0⟩ = fput (s.sys.rd ⟨.RTV_CH_BIND, c, 0⟩) 61 1 1 ∧ s.Only t (writeReg c [.RTV_CH_BIND]) accessParts)) ∧
  (∀ (s : State) (req : Requester) (c : Fin 512) (v : Word), s.Takes (.chUnbind req c v) → s.sys.chState c = chDisabled → Completes (.chUnbind req c v) s (fun t => t.sys.chState c = chUnbound ∧ t.sys.rf F.RTV_CH_BIND_VALID c = 0 ∧ s.Only t (writeReg c [.RTV_CH_BIND, .RTV_CH_STATUS]) accessParts)) ∧
  (∀ (s : State) (req : Requester) (c : Fin 512) (v : Word), s.Takes (.chUnbind req c v) → s.sys.chState c ≠ chDisabled → Completes (.chUnbind req c v) s (fun t => t.sys.rd ⟨.RTV_CH_BIND, c, 0⟩ = fput (s.sys.rd ⟨.RTV_CH_BIND, c, 0⟩) 61 1 1 ∧ s.Only t (writeReg c [.RTV_CH_BIND]) accessParts)) ∧
  (∀ (s : State) (req : Requester) (e : Fin 8) (v : Word), s.Takes (.engineReset req e v) → s.sys.rf F.RTV_ENG_STATUS_STATE e = egLost → fget v 0 1 = b2n (s.sys.eng e).off → (s.sys.whoIs req).1.secure = true ∨ s.sys.holdCount (91 + e.val) = 0 → Completes (.engineReset req e v) s (fun t => t.sys.rf F.RTV_ENG_STATUS_STATE e = egTesting ∧ t.sys.rf F.RTV_ENG_CTL_RESET e = 1 ∧
      s.Only t (writeReg e [.RTV_ENG_CTL, .RTV_ENG_STATUS]) (.pwr :: accessParts))) ∧
  (∀ (s : State) (req : Requester) (e : Fin 8) (v : Word), s.Takes (.engineReset req e v) → s.sys.rf F.RTV_ENG_STATUS_STATE e ≠ egLost → fget v 0 1 = b2n (s.sys.eng e).off → (s.sys.whoIs req).1.secure = true ∨ s.sys.holdCount (91 + e.val) = 0 → Completes (.engineReset req e v) s (fun t => t.sys.rf F.RTV_ENG_STATUS_STATE e = s.sys.rf F.RTV_ENG_STATUS_STATE e ∧ t.sys.rf F.RTV_ENG_CTL_CMD_ERR e = 1 ∧
      s.Only t (writeReg e [.RTV_ENG_CTL]) (.pwr :: accessParts))) ∧
  (∀ (s : State) (e : Fin 8) (pass : Bool), s.Live → s.sys.rf F.RTV_ENG_STATUS_STATE e = egTesting → s.sys.rf F.RTV_ENG_CTL_RESET e = 1 → Completes (.engineTestDone e pass) s (fun t => t.sys.rf F.RTV_ENG_CTL_RESET e = 0 ∧ t.sys.rf F.RTV_ENG_STATUS_STATE e = (if pass then egTesting else egLost) ∧
      (pass = true → (t.sys.eng e).since = s.sys.ticks) ∧ s.OnlyEng t e (oneReg e [.RTV_ENG_CTL, .RTV_ENG_STATUS]) [])) ∧
  (∀ (s : State) (req : Requester) (e : Fin 8) (v : Word), s.Takes (.enginePwrReq req e v) → fget v 1 1 = 0 → fget v 0 1 = 1 → (s.sys.whoIs req).1.secure = true ∨ s.sys.holdCount (91 + e.val) = 0 → (s.sys.eng e).off = false → (s.sys.eng e).job = none → s.sys.engUp e = true → Completes (.enginePwrReq req e v) s (fun t => t.sys.rf F.RTV_ENG_STATUS_STATE e = egOff ∧ t.sys.rf F.RTV_ENG_CTL_PWR_REQ e = 1 ∧ (t.sys.eng e).relq = [] ∧ t.sys.own.engine ≠ some e.val ∧
      s.OnlyEng t e (writeReg e [.RTV_ENG_CTL, .RTV_ENG_STATUS]) (.pwr :: .own :: accessParts))) ∧
  (∀ (s : State) (req : Requester) (e : Fin 8) (v : Word), s.Takes (.enginePwrReq req e v) → fget v 1 1 = 0 → fget v 0 1 = 0 → (s.sys.whoIs req).1.secure = true ∨ s.sys.holdCount (91 + e.val) = 0 → (s.sys.eng e).off = true → Completes (.enginePwrReq req e v) s (fun t => t.sys.rf F.RTV_ENG_STATUS_STATE e = s.sys.rf F.RTV_ENG_STATUS_STATE e ∧ t.sys.eng e = { s.sys.eng e with off := false, since := s.sys.ticks } ∧
      s.OnlyEng t e (writeReg e [.RTV_ENG_CTL]) (.pwr :: accessParts)))
end

