-- ==== Sys2Proof/Laws/Bank.lean ====
section
/-!
SUPPORT. The laws of banks: a key reads what was set for it, and every other key is as it was.
-/
namespace Sys2Proof.Machine

theorem Bank.get?_set_self {κ α : Type} [DecidableEq κ] (l : Bank κ α) (k : κ) (v : α) : Bank.get? (Bank.set l k v) k = some v := by
  induction l with
  | nil => simp [Bank.set, Bank.get?]
  | cons p l ih =>
    obtain ⟨a, b⟩ := p
    by_cases h : a = k
    · simp [Bank.set, Bank.get?, h]
    · simp only [Bank.set, h, if_false, Bank.get?]
      exact ih

theorem Bank.get?_set_other {κ α : Type} [DecidableEq κ] (l : Bank κ α) (k k' : κ) (v : α) (h : k ≠ k') :
    Bank.get? (Bank.set l k v) k' = Bank.get? l k' := by
  induction l with
  | nil => simp [Bank.set, Bank.get?, h]
  | cons p l ih =>
    obtain ⟨a, b⟩ := p
    by_cases h1 : a = k
    · subst h1
      simp [Bank.set, Bank.get?, h]
    · by_cases h2 : a = k'
      · have h3 : ¬ k' = k := fun e => h e.symm
        subst h2
        simp only [Bank.set, h3, if_false, Bank.get?, if_true]
      · simp only [Bank.set, h1, if_false, Bank.get?, h2]
        exact ih

@[simp] theorem Bank.getD_set_self {κ α : Type} [DecidableEq κ] (l : Bank κ α) (k : κ) (v d : α) :
    Bank.getD (Bank.set l k v) k d = v := by
  unfold Bank.getD
  rw [Bank.get?_set_self]
  rfl

theorem Bank.getD_set_other {κ α : Type} [DecidableEq κ] (l : Bank κ α) (k k' : κ) (v d : α) (h : k ≠ k') :
    Bank.getD (Bank.set l k v) k' d = Bank.getD l k' d := by
  unfold Bank.getD
  rw [Bank.get?_set_other l k k' v h]

theorem Bank.get?_erase_self {κ α : Type} [DecidableEq κ] (l : Bank κ α) (k : κ) : Bank.get? (Bank.erase l k) k = none := by
  induction l with
  | nil => rfl
  | cons p l ih =>
    obtain ⟨a, b⟩ := p
    unfold Bank.erase at ih ⊢
    by_cases h : a = k
    · rw [List.filter_cons_of_neg (by simp [h])]
      exact ih
    · rw [List.filter_cons_of_pos (by simp [h])]
      simp only [Bank.get?, h, if_false]
      exact ih

end Sys2Proof.Machine
end

