-- ==== Sys2Proof/Laws/Bits.lean ====
section
/-!
SUPPORT. The laws of bit fields: a field reads what was put there, and a field elsewhere is as it was.
-/
namespace Sys2Proof.Machine

theorem fmask_getLsbD (lo wd i : Nat) (h : i < 64) : (fmask lo wd).getLsbD i = (decide (lo ≤ i) && decide (i < lo + wd)) := by
  unfold fmask
  rw [BitVec.getLsbD_shiftLeft, BitVec.getLsbD_setWidth]
  by_cases h1 : lo ≤ i
  · have h2 : ¬ i < lo := by omega
    have h3 : i - lo < 64 := by omega
    simp only [h, h1, h2, h3, decide_true, decide_false, Bool.not_false, Bool.true_and]
    by_cases h4 : i < lo + wd
    · have h5 : i - lo < wd := by omega
      simp [h4, h5]
    · have h5 : ¬ i - lo < wd := by omega
      simp [h4, h5]
  · have h2 : i < lo := by omega
    simp [h1, h2]

theorem fput_getLsbD (w : Word) (lo wd v i : Nat) (h : i < 64) :
    (fput w lo wd v).getLsbD i = if lo ≤ i ∧ i < lo + wd then v.testBit (i - lo) else w.getLsbD i := by
  have hm := fmask_getLsbD lo wd i h
  have hs : (((BitVec.ofNat wd v).setWidth 64) <<< lo).getLsbD i =
      (decide (lo ≤ i) && decide (i < lo + wd) && v.testBit (i - lo)) := by
    rw [BitVec.getLsbD_shiftLeft, BitVec.getLsbD_setWidth, BitVec.getLsbD_ofNat]
    by_cases h1 : lo ≤ i
    · have h2 : ¬ i < lo := by omega
      have h3 : i - lo < 64 := by omega
      by_cases h4 : i < lo + wd
      · have h5 : i - lo < wd := by omega
        simp [h, h1, h2, h3, h4, h5]
      · have h5 : ¬ i - lo < wd := by omega
        simp [h4, h5]
    · have h2 : i < lo := by omega
      simp [h1, h2]
  unfold fput
  rw [BitVec.getLsbD_or, BitVec.getLsbD_and, BitVec.getLsbD_not, hm, hs]
  by_cases h1 : lo ≤ i <;> by_cases h2 : i < lo + wd <;> simp [h, h1, h2]

theorem fget_testBit (w : Word) (lo wd i : Nat) : (fget w lo wd).testBit i = (decide (i < wd) && w.getLsbD (lo + i)) := by
  unfold fget
  rw [BitVec.testBit_toNat, BitVec.getLsbD_extractLsb']

theorem fget_lt (w : Word) (lo wd : Nat) : fget w lo wd < 2 ^ wd := (w.extractLsb' lo wd).isLt

/-- A field reads the low bits of what was put there. -/
theorem fget_fput_same (w : Word) (lo wd v : Nat) (h : lo + wd ≤ 64) : fget (fput w lo wd v) lo wd = v % 2 ^ wd := by
  apply Nat.eq_of_testBit_eq
  intro i
  rw [fget_testBit, Nat.testBit_mod_two_pow]
  by_cases hi : i < wd
  · have h1 : lo + i < 64 := by omega
    rw [fput_getLsbD w lo wd v (lo + i) h1]
    have h2 : lo ≤ lo + i ∧ lo + i < lo + wd := by omega
    simp [hi, h2]
  · simp [hi]

/-- A field reads a value that fits after it was put there. -/
theorem fget_fput_self (w : Word) (lo wd v : Nat) (h : lo + wd ≤ 64) (hv : v < 2 ^ wd) : fget (fput w lo wd v) lo wd = v := by
  rw [fget_fput_same w lo wd v h, Nat.mod_eq_of_lt hv]

/-- A field that lies wholly elsewhere is as it was. -/
theorem fget_fput_other (w : Word) (lo wd v lo' wd' : Nat) (h : lo' + wd' ≤ 64) (hd : lo + wd ≤ lo' ∨ lo' + wd' ≤ lo) :
    fget (fput w lo wd v) lo' wd' = fget w lo' wd' := by
  apply Nat.eq_of_testBit_eq
  intro i
  rw [fget_testBit, fget_testBit]
  by_cases hi : i < wd'
  · have h1 : lo' + i < 64 := by omega
    rw [fput_getLsbD w lo wd v (lo' + i) h1]
    have h2 : ¬ (lo ≤ lo' + i ∧ lo' + i < lo + wd) := by omega
    simp [h2]
  · simp [hi]

theorem b2n_lt (b : Bool) : b2n b < 2 ^ 1 := by cases b <;> decide

theorem b2n_eq_one (b : Bool) : (b2n b == 1) = b := by cases b <;> rfl

end Sys2Proof.Machine
end

