-- ==== Sys2Proof/Laws/State.lean ====
section
/-!
SUPPORT. The laws of State: what each shared update leaves in each field, one lemma per field, and what a register or field reads after a
write of it or of another.
-/
namespace Sys2Proof.Machine

/-! ## Sys.wr -/

@[simp] theorem Sys.wr_freeCount (s : Sys) (k : RK) (w : Word) : (s.wr k w).freeCount = s.freeCount := rfl
@[simp] theorem Sys.wr_resp (s : Sys) (k : RK) (w : Word) : (s.wr k w).resp = s.resp := rfl
@[simp] theorem Sys.wr_stations (s : Sys) (k : RK) (w : Word) : (s.wr k w).stations = s.stations := rfl
@[simp] theorem Sys.wr_span (s : Sys) (k : RK) (w : Word) : (s.wr k w).span = s.span := rfl
@[simp] theorem Sys.wr_znx (s : Sys) (k : RK) (w : Word) : (s.wr k w).znx = s.znx := rfl
@[simp] theorem Sys.wr_conf (s : Sys) (k : RK) (w : Word) : (s.wr k w).conf = s.conf := rfl
@[simp] theorem Sys.wr_shadow (s : Sys) (k : RK) (w : Word) : (s.wr k w).shadow = s.shadow := rfl
@[simp] theorem Sys.wr_fcr (s : Sys) (k : RK) (w : Word) : (s.wr k w).fcr = s.fcr := rfl
@[simp] theorem Sys.wr_icn (s : Sys) (k : RK) (w : Word) : (s.wr k w).icn = s.icn := rfl
@[simp] theorem Sys.wr_ticks (s : Sys) (k : RK) (w : Word) : (s.wr k w).ticks = s.ticks := rfl
@[simp] theorem Sys.wr_chans (s : Sys) (k : RK) (w : Word) : (s.wr k w).chans = s.chans := rfl
@[simp] theorem Sys.wr_slices (s : Sys) (k : RK) (w : Word) : (s.wr k w).slices = s.slices := rfl
@[simp] theorem Sys.wr_stops (s : Sys) (k : RK) (w : Word) : (s.wr k w).stops = s.stops := rfl
@[simp] theorem Sys.wr_msgs (s : Sys) (k : RK) (w : Word) : (s.wr k w).msgs = s.msgs := rfl
@[simp] theorem Sys.wr_staging (s : Sys) (k : RK) (w : Word) : (s.wr k w).staging = s.staging := rfl
@[simp] theorem Sys.wr_brace (s : Sys) (k : RK) (w : Word) : (s.wr k w).brace = s.brace := rfl
@[simp] theorem Sys.wr_regionNow (s : Sys) (k : RK) (w : Word) : (s.wr k w).regionNow = s.regionNow := rfl
@[simp] theorem Sys.wr_harts (s : Sys) (k : RK) (w : Word) : (s.wr k w).harts = s.harts := rfl
@[simp] theorem Sys.wr_qosHeld (s : Sys) (k : RK) (w : Word) : (s.wr k w).qosHeld = s.qosHeld := rfl
@[simp] theorem Sys.wr_pwr (s : Sys) (k : RK) (w : Word) : (s.wr k w).pwr = s.pwr := rfl
@[simp] theorem Sys.wr_links (s : Sys) (k : RK) (w : Word) : (s.wr k w).links = s.links := rfl
@[simp] theorem Sys.wr_eps (s : Sys) (k : RK) (w : Word) : (s.wr k w).eps = s.eps := rfl
@[simp] theorem Sys.wr_engs (s : Sys) (k : RK) (w : Word) : (s.wr k w).engs = s.engs := rfl
@[simp] theorem Sys.wr_rtv (s : Sys) (k : RK) (w : Word) : (s.wr k w).rtv = s.rtv := rfl
@[simp] theorem Sys.wr_rtvClock (s : Sys) (k : RK) (w : Word) : (s.wr k w).rtvClock = s.rtvClock := rfl
@[simp] theorem Sys.wr_own (s : Sys) (k : RK) (w : Word) : (s.wr k w).own = s.own := rfl
@[simp] theorem Sys.wr_kresets (s : Sys) (k : RK) (w : Word) : (s.wr k w).kresets = s.kresets := rfl
@[simp] theorem Sys.wr_drm (s : Sys) (k : RK) (w : Word) : (s.wr k w).drm = s.drm := rfl

/-! ## Sys.put -/

@[simp] theorem Sys.put_freeCount (s : Sys) (f : Fld) (v i j : Nat) : (s.put f v i j).freeCount = s.freeCount := rfl
@[simp] theorem Sys.put_resp (s : Sys) (f : Fld) (v i j : Nat) : (s.put f v i j).resp = s.resp := rfl
@[simp] theorem Sys.put_stations (s : Sys) (f : Fld) (v i j : Nat) : (s.put f v i j).stations = s.stations := rfl
@[simp] theorem Sys.put_span (s : Sys) (f : Fld) (v i j : Nat) : (s.put f v i j).span = s.span := rfl
@[simp] theorem Sys.put_znx (s : Sys) (f : Fld) (v i j : Nat) : (s.put f v i j).znx = s.znx := rfl
@[simp] theorem Sys.put_conf (s : Sys) (f : Fld) (v i j : Nat) : (s.put f v i j).conf = s.conf := rfl
@[simp] theorem Sys.put_shadow (s : Sys) (f : Fld) (v i j : Nat) : (s.put f v i j).shadow = s.shadow := rfl
@[simp] theorem Sys.put_fcr (s : Sys) (f : Fld) (v i j : Nat) : (s.put f v i j).fcr = s.fcr := rfl
@[simp] theorem Sys.put_icn (s : Sys) (f : Fld) (v i j : Nat) : (s.put f v i j).icn = s.icn := rfl
@[simp] theorem Sys.put_ticks (s : Sys) (f : Fld) (v i j : Nat) : (s.put f v i j).ticks = s.ticks := rfl
@[simp] theorem Sys.put_chans (s : Sys) (f : Fld) (v i j : Nat) : (s.put f v i j).chans = s.chans := rfl
@[simp] theorem Sys.put_slices (s : Sys) (f : Fld) (v i j : Nat) : (s.put f v i j).slices = s.slices := rfl
@[simp] theorem Sys.put_stops (s : Sys) (f : Fld) (v i j : Nat) : (s.put f v i j).stops = s.stops := rfl
@[simp] theorem Sys.put_msgs (s : Sys) (f : Fld) (v i j : Nat) : (s.put f v i j).msgs = s.msgs := rfl
@[simp] theorem Sys.put_staging (s : Sys) (f : Fld) (v i j : Nat) : (s.put f v i j).staging = s.staging := rfl
@[simp] theorem Sys.put_brace (s : Sys) (f : Fld) (v i j : Nat) : (s.put f v i j).brace = s.brace := rfl
@[simp] theorem Sys.put_regionNow (s : Sys) (f : Fld) (v i j : Nat) : (s.put f v i j).regionNow = s.regionNow := rfl
@[simp] theorem Sys.put_harts (s : Sys) (f : Fld) (v i j : Nat) : (s.put f v i j).harts = s.harts := rfl
@[simp] theorem Sys.put_qosHeld (s : Sys) (f : Fld) (v i j : Nat) : (s.put f v i j).qosHeld = s.qosHeld := rfl
@[simp] theorem Sys.put_pwr (s : Sys) (f : Fld) (v i j : Nat) : (s.put f v i j).pwr = s.pwr := rfl
@[simp] theorem Sys.put_links (s : Sys) (f : Fld) (v i j : Nat) : (s.put f v i j).links = s.links := rfl
@[simp] theorem Sys.put_eps (s : Sys) (f : Fld) (v i j : Nat) : (s.put f v i j).eps = s.eps := rfl
@[simp] theorem Sys.put_engs (s : Sys) (f : Fld) (v i j : Nat) : (s.put f v i j).engs = s.engs := rfl
@[simp] theorem Sys.put_rtv (s : Sys) (f : Fld) (v i j : Nat) : (s.put f v i j).rtv = s.rtv := rfl
@[simp] theorem Sys.put_rtvClock (s : Sys) (f : Fld) (v i j : Nat) : (s.put f v i j).rtvClock = s.rtvClock := rfl
@[simp] theorem Sys.put_own (s : Sys) (f : Fld) (v i j : Nat) : (s.put f v i j).own = s.own := rfl
@[simp] theorem Sys.put_kresets (s : Sys) (f : Fld) (v i j : Nat) : (s.put f v i j).kresets = s.kresets := rfl
@[simp] theorem Sys.put_drm (s : Sys) (f : Fld) (v i j : Nat) : (s.put f v i j).drm = s.drm := rfl

/-! ## Sys.usedFree -/

@[simp] theorem Sys.usedFree_regs (s : Sys) : (s.usedFree).regs = s.regs := rfl
@[simp] theorem Sys.usedFree_resp (s : Sys) : (s.usedFree).resp = s.resp := rfl
@[simp] theorem Sys.usedFree_stations (s : Sys) : (s.usedFree).stations = s.stations := rfl
@[simp] theorem Sys.usedFree_span (s : Sys) : (s.usedFree).span = s.span := rfl
@[simp] theorem Sys.usedFree_znx (s : Sys) : (s.usedFree).znx = s.znx := rfl
@[simp] theorem Sys.usedFree_conf (s : Sys) : (s.usedFree).conf = s.conf := rfl
@[simp] theorem Sys.usedFree_shadow (s : Sys) : (s.usedFree).shadow = s.shadow := rfl
@[simp] theorem Sys.usedFree_fcr (s : Sys) : (s.usedFree).fcr = s.fcr := rfl
@[simp] theorem Sys.usedFree_icn (s : Sys) : (s.usedFree).icn = s.icn := rfl
@[simp] theorem Sys.usedFree_ticks (s : Sys) : (s.usedFree).ticks = s.ticks := rfl
@[simp] theorem Sys.usedFree_chans (s : Sys) : (s.usedFree).chans = s.chans := rfl
@[simp] theorem Sys.usedFree_slices (s : Sys) : (s.usedFree).slices = s.slices := rfl
@[simp] theorem Sys.usedFree_stops (s : Sys) : (s.usedFree).stops = s.stops := rfl
@[simp] theorem Sys.usedFree_msgs (s : Sys) : (s.usedFree).msgs = s.msgs := rfl
@[simp] theorem Sys.usedFree_staging (s : Sys) : (s.usedFree).staging = s.staging := rfl
@[simp] theorem Sys.usedFree_brace (s : Sys) : (s.usedFree).brace = s.brace := rfl
@[simp] theorem Sys.usedFree_regionNow (s : Sys) : (s.usedFree).regionNow = s.regionNow := rfl
@[simp] theorem Sys.usedFree_harts (s : Sys) : (s.usedFree).harts = s.harts := rfl
@[simp] theorem Sys.usedFree_qosHeld (s : Sys) : (s.usedFree).qosHeld = s.qosHeld := rfl
@[simp] theorem Sys.usedFree_pwr (s : Sys) : (s.usedFree).pwr = s.pwr := rfl
@[simp] theorem Sys.usedFree_links (s : Sys) : (s.usedFree).links = s.links := rfl
@[simp] theorem Sys.usedFree_eps (s : Sys) : (s.usedFree).eps = s.eps := rfl
@[simp] theorem Sys.usedFree_engs (s : Sys) : (s.usedFree).engs = s.engs := rfl
@[simp] theorem Sys.usedFree_rtv (s : Sys) : (s.usedFree).rtv = s.rtv := rfl
@[simp] theorem Sys.usedFree_rtvClock (s : Sys) : (s.usedFree).rtvClock = s.rtvClock := rfl
@[simp] theorem Sys.usedFree_own (s : Sys) : (s.usedFree).own = s.own := rfl
@[simp] theorem Sys.usedFree_kresets (s : Sys) : (s.usedFree).kresets = s.kresets := rfl
@[simp] theorem Sys.usedFree_drm (s : Sys) : (s.usedFree).drm = s.drm := rfl

/-! ## Sys.answer -/

@[simp] theorem Sys.answer_regs (s : Sys) (r : Resp) : (s.answer r).regs = s.regs := rfl
@[simp] theorem Sys.answer_freeCount (s : Sys) (r : Resp) : (s.answer r).freeCount = s.freeCount := rfl
@[simp] theorem Sys.answer_stations (s : Sys) (r : Resp) : (s.answer r).stations = s.stations := rfl
@[simp] theorem Sys.answer_span (s : Sys) (r : Resp) : (s.answer r).span = s.span := rfl
@[simp] theorem Sys.answer_znx (s : Sys) (r : Resp) : (s.answer r).znx = s.znx := rfl
@[simp] theorem Sys.answer_conf (s : Sys) (r : Resp) : (s.answer r).conf = s.conf := rfl
@[simp] theorem Sys.answer_shadow (s : Sys) (r : Resp) : (s.answer r).shadow = s.shadow := rfl
@[simp] theorem Sys.answer_fcr (s : Sys) (r : Resp) : (s.answer r).fcr = s.fcr := rfl
@[simp] theorem Sys.answer_icn (s : Sys) (r : Resp) : (s.answer r).icn = s.icn := rfl
@[simp] theorem Sys.answer_ticks (s : Sys) (r : Resp) : (s.answer r).ticks = s.ticks := rfl
@[simp] theorem Sys.answer_chans (s : Sys) (r : Resp) : (s.answer r).chans = s.chans := rfl
@[simp] theorem Sys.answer_slices (s : Sys) (r : Resp) : (s.answer r).slices = s.slices := rfl
@[simp] theorem Sys.answer_stops (s : Sys) (r : Resp) : (s.answer r).stops = s.stops := rfl
@[simp] theorem Sys.answer_msgs (s : Sys) (r : Resp) : (s.answer r).msgs = s.msgs := rfl
@[simp] theorem Sys.answer_staging (s : Sys) (r : Resp) : (s.answer r).staging = s.staging := rfl
@[simp] theorem Sys.answer_brace (s : Sys) (r : Resp) : (s.answer r).brace = s.brace := rfl
@[simp] theorem Sys.answer_regionNow (s : Sys) (r : Resp) : (s.answer r).regionNow = s.regionNow := rfl
@[simp] theorem Sys.answer_harts (s : Sys) (r : Resp) : (s.answer r).harts = s.harts := rfl
@[simp] theorem Sys.answer_qosHeld (s : Sys) (r : Resp) : (s.answer r).qosHeld = s.qosHeld := rfl
@[simp] theorem Sys.answer_pwr (s : Sys) (r : Resp) : (s.answer r).pwr = s.pwr := rfl
@[simp] theorem Sys.answer_links (s : Sys) (r : Resp) : (s.answer r).links = s.links := rfl
@[simp] theorem Sys.answer_eps (s : Sys) (r : Resp) : (s.answer r).eps = s.eps := rfl
@[simp] theorem Sys.answer_engs (s : Sys) (r : Resp) : (s.answer r).engs = s.engs := rfl
@[simp] theorem Sys.answer_rtv (s : Sys) (r : Resp) : (s.answer r).rtv = s.rtv := rfl
@[simp] theorem Sys.answer_rtvClock (s : Sys) (r : Resp) : (s.answer r).rtvClock = s.rtvClock := rfl
@[simp] theorem Sys.answer_own (s : Sys) (r : Resp) : (s.answer r).own = s.own := rfl
@[simp] theorem Sys.answer_kresets (s : Sys) (r : Resp) : (s.answer r).kresets = s.kresets := rfl
@[simp] theorem Sys.answer_drm (s : Sys) (r : Resp) : (s.answer r).drm = s.drm := rfl

/-! ## Sys.raise -/

@[simp] theorem Sys.raise_regs (s : Sys) (a b : Nat) : (s.raise a b).regs = s.regs := rfl
@[simp] theorem Sys.raise_freeCount (s : Sys) (a b : Nat) : (s.raise a b).freeCount = s.freeCount := rfl
@[simp] theorem Sys.raise_resp (s : Sys) (a b : Nat) : (s.raise a b).resp = s.resp := rfl
@[simp] theorem Sys.raise_stations (s : Sys) (a b : Nat) : (s.raise a b).stations = s.stations := rfl
@[simp] theorem Sys.raise_span (s : Sys) (a b : Nat) : (s.raise a b).span = s.span := rfl
@[simp] theorem Sys.raise_znx (s : Sys) (a b : Nat) : (s.raise a b).znx = s.znx := rfl
@[simp] theorem Sys.raise_conf (s : Sys) (a b : Nat) : (s.raise a b).conf = s.conf := rfl
@[simp] theorem Sys.raise_shadow (s : Sys) (a b : Nat) : (s.raise a b).shadow = s.shadow := rfl
@[simp] theorem Sys.raise_icn (s : Sys) (a b : Nat) : (s.raise a b).icn = s.icn := rfl
@[simp] theorem Sys.raise_ticks (s : Sys) (a b : Nat) : (s.raise a b).ticks = s.ticks := rfl
@[simp] theorem Sys.raise_chans (s : Sys) (a b : Nat) : (s.raise a b).chans = s.chans := rfl
@[simp] theorem Sys.raise_slices (s : Sys) (a b : Nat) : (s.raise a b).slices = s.slices := rfl
@[simp] theorem Sys.raise_stops (s : Sys) (a b : Nat) : (s.raise a b).stops = s.stops := rfl
@[simp] theorem Sys.raise_msgs (s : Sys) (a b : Nat) : (s.raise a b).msgs = s.msgs := rfl
@[simp] theorem Sys.raise_staging (s : Sys) (a b : Nat) : (s.raise a b).staging = s.staging := rfl
@[simp] theorem Sys.raise_brace (s : Sys) (a b : Nat) : (s.raise a b).brace = s.brace := rfl
@[simp] theorem Sys.raise_regionNow (s : Sys) (a b : Nat) : (s.raise a b).regionNow = s.regionNow := rfl
@[simp] theorem Sys.raise_harts (s : Sys) (a b : Nat) : (s.raise a b).harts = s.harts := rfl
@[simp] theorem Sys.raise_qosHeld (s : Sys) (a b : Nat) : (s.raise a b).qosHeld = s.qosHeld := rfl
@[simp] theorem Sys.raise_pwr (s : Sys) (a b : Nat) : (s.raise a b).pwr = s.pwr := rfl
@[simp] theorem Sys.raise_links (s : Sys) (a b : Nat) : (s.raise a b).links = s.links := rfl
@[simp] theorem Sys.raise_eps (s : Sys) (a b : Nat) : (s.raise a b).eps = s.eps := rfl
@[simp] theorem Sys.raise_engs (s : Sys) (a b : Nat) : (s.raise a b).engs = s.engs := rfl
@[simp] theorem Sys.raise_rtv (s : Sys) (a b : Nat) : (s.raise a b).rtv = s.rtv := rfl
@[simp] theorem Sys.raise_rtvClock (s : Sys) (a b : Nat) : (s.raise a b).rtvClock = s.rtvClock := rfl
@[simp] theorem Sys.raise_own (s : Sys) (a b : Nat) : (s.raise a b).own = s.own := rfl
@[simp] theorem Sys.raise_kresets (s : Sys) (a b : Nat) : (s.raise a b).kresets = s.kresets := rfl
@[simp] theorem Sys.raise_drm (s : Sys) (a b : Nat) : (s.raise a b).drm = s.drm := rfl

/-! ## Sys.passCounts -/

@[simp] theorem Sys.passCounts_regs (s : Sys) (n : Nat) : (s.passCounts n).regs = s.regs := rfl
@[simp] theorem Sys.passCounts_freeCount (s : Sys) (n : Nat) : (s.passCounts n).freeCount = s.freeCount := rfl
@[simp] theorem Sys.passCounts_resp (s : Sys) (n : Nat) : (s.passCounts n).resp = s.resp := rfl
@[simp] theorem Sys.passCounts_stations (s : Sys) (n : Nat) : (s.passCounts n).stations = s.stations := rfl
@[simp] theorem Sys.passCounts_znx (s : Sys) (n : Nat) : (s.passCounts n).znx = s.znx := rfl
@[simp] theorem Sys.passCounts_conf (s : Sys) (n : Nat) : (s.passCounts n).conf = s.conf := rfl
@[simp] theorem Sys.passCounts_shadow (s : Sys) (n : Nat) : (s.passCounts n).shadow = s.shadow := rfl
@[simp] theorem Sys.passCounts_fcr (s : Sys) (n : Nat) : (s.passCounts n).fcr = s.fcr := rfl
@[simp] theorem Sys.passCounts_icn (s : Sys) (n : Nat) : (s.passCounts n).icn = s.icn := rfl
@[simp] theorem Sys.passCounts_ticks (s : Sys) (n : Nat) : (s.passCounts n).ticks = s.ticks := rfl
@[simp] theorem Sys.passCounts_chans (s : Sys) (n : Nat) : (s.passCounts n).chans = s.chans := rfl
@[simp] theorem Sys.passCounts_slices (s : Sys) (n : Nat) : (s.passCounts n).slices = s.slices := rfl
@[simp] theorem Sys.passCounts_stops (s : Sys) (n : Nat) : (s.passCounts n).stops = s.stops := rfl
@[simp] theorem Sys.passCounts_msgs (s : Sys) (n : Nat) : (s.passCounts n).msgs = s.msgs := rfl
@[simp] theorem Sys.passCounts_staging (s : Sys) (n : Nat) : (s.passCounts n).staging = s.staging := rfl
@[simp] theorem Sys.passCounts_brace (s : Sys) (n : Nat) : (s.passCounts n).brace = s.brace := rfl
@[simp] theorem Sys.passCounts_regionNow (s : Sys) (n : Nat) : (s.passCounts n).regionNow = s.regionNow := rfl
@[simp] theorem Sys.passCounts_harts (s : Sys) (n : Nat) : (s.passCounts n).harts = s.harts := rfl
@[simp] theorem Sys.passCounts_qosHeld (s : Sys) (n : Nat) : (s.passCounts n).qosHeld = s.qosHeld := rfl
@[simp] theorem Sys.passCounts_pwr (s : Sys) (n : Nat) : (s.passCounts n).pwr = s.pwr := rfl
@[simp] theorem Sys.passCounts_links (s : Sys) (n : Nat) : (s.passCounts n).links = s.links := rfl
@[simp] theorem Sys.passCounts_eps (s : Sys) (n : Nat) : (s.passCounts n).eps = s.eps := rfl
@[simp] theorem Sys.passCounts_engs (s : Sys) (n : Nat) : (s.passCounts n).engs = s.engs := rfl
@[simp] theorem Sys.passCounts_rtv (s : Sys) (n : Nat) : (s.passCounts n).rtv = s.rtv := rfl
@[simp] theorem Sys.passCounts_rtvClock (s : Sys) (n : Nat) : (s.passCounts n).rtvClock = s.rtvClock := rfl
@[simp] theorem Sys.passCounts_own (s : Sys) (n : Nat) : (s.passCounts n).own = s.own := rfl
@[simp] theorem Sys.passCounts_kresets (s : Sys) (n : Nat) : (s.passCounts n).kresets = s.kresets := rfl
@[simp] theorem Sys.passCounts_drm (s : Sys) (n : Nat) : (s.passCounts n).drm = s.drm := rfl

@[simp] theorem Sys.usedFree_freeCount (s : Sys) : s.usedFree.freeCount = s.freeCount + 1 := rfl
@[simp] theorem Sys.answer_resp (s : Sys) (r : Resp) : (s.answer r).resp = r := rfl
@[simp] theorem Sys.raise_events (s : Sys) (a b : Nat) : (s.raise a b).fcr.events = s.fcr.events ++ [⟨a, b⟩] := rfl

/-! ## Registers -/

/-- A register reads the word written to it. -/
@[simp] theorem Sys.rd_wr_self (s : Sys) (k : RK) (w : Word) : (s.wr k w).rd k = w := Bank.getD_set_self s.regs k w k.coldWord

/-- Every other register is as it was. -/
theorem Sys.rd_wr_other (s : Sys) (k k' : RK) (w : Word) (h : k ≠ k') : (s.wr k w).rd k' = s.rd k' :=
  Bank.getD_set_other s.regs k k' w k'.coldWord h

@[simp] theorem Sys.rd_usedFree (s : Sys) (k : RK) : s.usedFree.rd k = s.rd k := rfl
@[simp] theorem Sys.rd_answer (s : Sys) (r : Resp) (k : RK) : (s.answer r).rd k = s.rd k := rfl
@[simp] theorem Sys.rd_raise (s : Sys) (a b : Nat) (k : RK) : (s.raise a b).rd k = s.rd k := rfl
@[simp] theorem Sys.rd_passCounts (s : Sys) (n : Nat) (k : RK) : (s.passCounts n).rd k = s.rd k := rfl
@[simp] theorem Sys.rf_usedFree (s : Sys) (f : Fld) (i j : Nat) : s.usedFree.rf f i j = s.rf f i j := rfl
@[simp] theorem Sys.rf_answer (s : Sys) (r : Resp) (f : Fld) (i j : Nat) : (s.answer r).rf f i j = s.rf f i j := rfl
@[simp] theorem Sys.rf_raise (s : Sys) (a b : Nat) (f : Fld) (i j : Nat) : (s.raise a b).rf f i j = s.rf f i j := rfl
@[simp] theorem Sys.rf_passCounts (s : Sys) (n : Nat) (f : Fld) (i j : Nat) : (s.passCounts n).rf f i j = s.rf f i j := rfl

/-- A put changes the register of its field only. -/
theorem Sys.rd_put_other (s : Sys) (f : Fld) (v i j : Nat) (k : RK) (h : (⟨f.reg, i, j⟩ : RK) ≠ k) : (s.put f v i j).rd k = s.rd k :=
  Sys.rd_wr_other s ⟨f.reg, i, j⟩ k _ h

/-- A put keeps every register but those that a test picks, when the test picks its own. -/
theorem Sys.KeepsRegs_put (s : Sys) (f : Fld) (v i j : Nat) (but : RK → Bool) (h : but ⟨f.reg, i, j⟩ = true) : s.KeepsRegs (s.put f v i j) but := by
  intro k hk
  apply Sys.rd_put_other
  intro e
  rw [e, hk] at h
  exact Bool.noConfusion h

theorem Sys.KeepsRegs_refl (s : Sys) (but : RK → Bool) : s.KeepsRegs s but := fun _ _ => rfl

theorem Sys.KeepsRegs_trans (s t u : Sys) (but : RK → Bool) (h : s.KeepsRegs t but) (g : t.KeepsRegs u but) : s.KeepsRegs u but :=
  fun k hk => (g k hk).trans (h k hk)

/-- A field reads the low bits of what was put there. -/
theorem Sys.rf_put_self (s : Sys) (f : Fld) (v i j : Nat) (h : f.lo + f.wd ≤ 64) : (s.put f v i j).rf f i j = v % 2 ^ f.wd := by
  unfold Sys.rf Sys.put
  rw [Sys.rd_wr_self]
  exact fget_fput_same _ f.lo f.wd v h

/-- A field of another register, or elsewhere in the same one, is as it was. -/
theorem Sys.rf_put_other (s : Sys) (f g : Fld) (v i j i' j' : Nat)
    (h : (⟨f.reg, i, j⟩ : RK) ≠ ⟨g.reg, i', j'⟩ ∨ (g.lo + g.wd ≤ 64 ∧ (f.lo + f.wd ≤ g.lo ∨ g.lo + g.wd ≤ f.lo))) :
    (s.put f v i j).rf g i' j' = s.rf g i' j' := by
  by_cases e : (⟨f.reg, i, j⟩ : RK) = ⟨g.reg, i', j'⟩
  · have h' := h.resolve_left (fun n => n e)
    unfold Sys.rf Sys.put
    rw [← e, Sys.rd_wr_self]
    exact fget_fput_other _ f.lo f.wd v g.lo g.wd h'.1 h'.2
  · unfold Sys.rf
    rw [Sys.rd_put_other s f v i j _ e]

/-! ## The state a command leaves -/

@[simp] theorem State.withSys_pending (s : State) (y : Sys) : (s.withSys y).pending = s.pending := rfl
@[simp] theorem State.withSys_mem (s : State) (y : Sys) : (s.withSys y).mem = s.mem := rfl
@[simp] theorem State.withSys_sys (s : State) (y : Sys) : (s.withSys y).sys = y := rfl
@[simp] theorem State.after_pending (s : State) (x : M) : (s.after x).pending = s.pending := rfl
@[simp] theorem State.after_mem (s : State) (x : M) : (s.after x).mem = s.mem.apply x.ops := rfl
@[simp] theorem State.after_sys (s : State) (x : M) : (s.after x).sys = x.sys := rfl
@[simp] theorem M.on_sys (x : M) (f : Sys → Sys) : (x.on f).sys = f x.sys := rfl
@[simp] theorem M.on_ops (x : M) (f : Sys → Sys) : (x.on f).ops = x.ops := rfl
@[simp] theorem M.on_mem0 (x : M) (f : Sys → Sys) : (x.on f).mem0 = x.mem0 := rfl
@[simp] theorem M.write_sys (x : M) (ops : List MemOp) : (x.write ops).sys = x.sys := rfl
@[simp] theorem M.write_ops (x : M) (ops : List MemOp) : (x.write ops).ops = x.ops ++ ops := rfl
@[simp] theorem State.ctx_sys (s : State) : s.ctx.sys = s.sys := rfl
@[simp] theorem State.ctx_ops (s : State) : s.ctx.ops = [] := rfl

/-- A command on the rest of the part, while commands act. -/
theorem onSys_live (f : Sys → Sys) (s : State) (h : s.Live) : onSys f s = .next (s.withSys (f s.sys)) := if_pos h

/-- A command that may write memory, while commands act. -/
theorem onM_live (f : M → M) (s : State) (h : s.Live) : onM f s = .next (s.after (f s.ctx)) := if_pos h

/-- In reset a command changes nothing (R577). -/
theorem onSys_held (f : Sys → Sys) (s : State) (h : ¬ s.Live) : onSys f s = .next s := if_neg h
theorem onM_held (f : M → M) (s : State) (h : ¬ s.Live) : onM f s = .next s := if_neg h

/-- A command on the rest of the part completes with what its function leaves. -/
theorem completes_onSys (c : Instr) (f : Sys → Sys) (s : State) (p : State → Prop) (h : s.Live) (hc : exec c s = onSys f s)
    (hp : p (s.withSys (f s.sys))) : Completes c s p := ⟨_, hc.trans (onSys_live f s h), hp⟩

theorem completes_onM (c : Instr) (f : M → M) (s : State) (p : State → Prop) (h : s.Live) (hc : exec c s = onM f s)
    (hp : p (s.after (f s.ctx))) : Completes c s p := ⟨_, hc.trans (onM_live f s h), hp⟩

end Sys2Proof.Machine
end

