-- ==== Sys2Proof/Laws/Access.lean ====
section
/-!
SUPPORT. The laws of accesses: what an access that takes effect does before its register's own write or read, said once for all of them.
-/
namespace Sys2Proof.Machine

/-- What the apply point of the paths may have changed before a register takes its write (R31 to R33): the marks and SYS_CS_STATUS. -/
def Sys.Marked (o t : Sys) : Prop := t = { o with stations := t.stations, regs := t.regs } ∧ ∀ k, k.reg ≠ .SYS_CS_STATUS → t.rd k = o.rd k

/-- What the identification of a requester may have changed (R506): the free values used and the service cores' late worlds. -/
def Sys.Known (s o : Sys) : Prop := o = { s with freeCount := o.freeCount, drm := o.drm }

theorem Sys.drmWorld_known (s : Sys) (d : Nat) : s.Known (s.drmWorld d).2 := by
  unfold Sys.drmWorld
  split
  · rfl
  · split <;> rfl

theorem Sys.whoIs_known (s : Sys) (r : Requester) : s.Known (s.whoIs r).2 := by
  cases r with
  | tether c => rfl
  | derrum d => exact Sys.drmWorld_known s d.val
  | hart h => rfl
  | remote k w b => rfl

theorem Sys.Known.rd {s o : Sys} (h : s.Known o) (k : RK) : o.rd k = s.rd k := by
  unfold Sys.Known at h
  rw [h]; rfl

theorem Sys.Known.rf {s o : Sys} (h : s.Known o) (f : Fld) (i j : Nat) : o.rf f i j = s.rf f i j := by
  unfold Sys.rf; rw [h.rd]

theorem Sys.Known.offsetOf {s o : Sys} (h : s.Known o) (k : RK) : o.offsetOf k = s.offsetOf k := by
  unfold Sys.offsetOf
  split
  · rfl
  · rw [h.rf]

theorem Sys.opened_known (s : Sys) (a : Access) (h : ∀ t, Sys.domOf t a.key = none) : s.Known (s.opened a) := by
  unfold Sys.opened
  simp only [h]
  exact s.whoIs_known a.req

theorem Sys.KeepsRegs.trans {a b c : Sys} {p : RK → Bool} (h : a.KeepsRegs b p) (g : b.KeepsRegs c p) : a.KeepsRegs c p :=
  fun k hk => (g k hk).trans (h k hk)

theorem Sys.KeepsRegs.refl (a : Sys) (p : RK → Bool) : a.KeepsRegs a p := fun _ _ => rfl

theorem Sys.meshNote_marked (s : Sys) (f : Fld) (off k : Nat) (w : Bool) (h : f.reg = .SYS_CS_STATUS) : s.Marked (s.meshNote f off k w) := by
  refine ⟨rfl, fun x hx => ?_⟩
  unfold Sys.meshNote Sys.bump
  have e : ∀ (g : Fld) (i j : Nat), g.reg = .SYS_CS_STATUS → (⟨g.reg, i, j⟩ : RK) ≠ x := by
    intro g i j hg hx'
    rw [← hx'] at hx
    exact hx hg
  rw [Sys.rd_put_other _ _ _ _ _ _ (e _ _ _ rfl), Sys.rd_put_other _ _ _ _ _ _ (e _ _ _ rfl), Sys.rd_put_other _ _ _ _ _ _ (e _ _ _ rfl),
    Sys.rd_put_other _ _ _ _ _ _ (e _ _ _ rfl), Sys.rd_put_other _ _ _ _ _ _ (e _ _ _ h)]

theorem Sys.tetherApply_marked (s : Sys) (k : RK) (off : Nat) : s.Marked (s.tetherApply k off) := by
  unfold Sys.tetherApply
  generalize List.find? (fun (m : RK × Nat × Bool) => decide (m.1 = k.canon)) s.stations.meshMark = o
  cases o with
  | none => exact ⟨rfl, fun _ _ => rfl⟩
  | some m => exact ⟨rfl, fun x hx => (s.meshNote_marked _ off m.2.1 m.2.2 rfl).2 x hx⟩

theorem Sys.meshApply_marked (s : Sys) (k : RK) (off kn : Nat) (w : Bool) : s.Marked (s.meshApply k off kn w).2 := by
  unfold Sys.meshApply
  split
  · exact s.meshNote_marked _ off _ _ rfl
  · exact ⟨rfl, fun _ _ => rfl⟩

theorem RK.canon_canon (k : RK) : k.canon.canon = k.canon := by
  obtain ⟨r, i, j⟩ := k
  by_cases h : r = .TILE_SHOLD
  · subst h; rfl
  · have e : ∀ (a b : Nat), RK.canon ⟨r, a, b⟩ = ⟨r, a, b⟩ := by
      intro a b
      unfold RK.canon
      split
      · rename_i h2; exact absurd h2 h
      · rfl
    rw [e, e]

/-- An admitted access goes to its register. -/
theorem Sys.Admits.rowAccess {s : State} {a : Access} (h : s.sys.Admits a) :
    s.ctx.rowAccess a.req a.key a.write a.fwd =
      (⟨s.mem, (s.sys.whoIs a.req).2, []⟩ : M).regPerform (s.sys.whoIs a.req).1 a.key (s.sys.offsetOf a.key) 8 a.write a.fwd := by
  obtain ⟨h1, h2, h3, h4, h5, h6⟩ := h
  have ho : (s.sys.whoIs a.req).2.offsetOf a.key = s.sys.offsetOf a.key := (s.sys.whoIs_known a.req).offsetOf a.key
  unfold M.rowAccess
  simp only [State.ctx, ho] at h1 h2 h3 h4 h5 h6 ⊢
  simp only [h1, if_true]
  unfold M.accessAs
  simp only [h1, ho]
  have e2 : ((s.sys.whoIs a.req).1.tether && (s.sys.whoIs a.req).2.stations.chainFailed.contains (stationAt (s.sys.offsetOf a.key))) = false := by
    cases hte : (s.sys.whoIs a.req).1.tether
    · rfl
    · simp only [Bool.true_and]; exact h3 hte
  have e3 : (!(s.sys.whoIs a.req).1.tether && !(a.key.reg == Reg.SYS_ID && !a.write.isSome) &&
      !(s.sys.whoIs a.req).2.pageAdmits (s.sys.offsetOf a.key / 4096) (s.sys.whoIs a.req).1.kennel (s.sys.whoIs a.req).1.secure) = false := by
    cases hte : (s.sys.whoIs a.req).1.tether
    · rcases h4 hte with ⟨g, g2⟩ | g
      · simp [g, g2]
      · simp [g]
    · rfl
  have e4 : (a.key.reg.heldInUnit && (s.sys.whoIs a.req).2.unitOff (stationAt (s.sys.offsetOf a.key))) = false := by
    cases hte : a.key.reg.heldInUnit
    · rfl
    · simp only [Bool.true_and]; exact h6 hte
  simp only [h2, e2, e3, e4, h5, Bool.false_eq_true, if_false, decide_true, Bool.true_or, Bool.and_self, Bool.not_true, Bool.and_false]

/-- A write that takes effect is its register's write, on a state that only the apply point has changed. -/
theorem Sys.Takes.write {s : State} {a : Access} {v : Word} (hw : a.write = some v) (ht : s.sys.Takes a) :
    ∃ t, (s.sys.opened a).Marked t ∧ s.ctx.rowAccess a.req a.key a.write a.fwd =
      ((⟨s.mem, t, []⟩ : M).regWrite (s.sys.whoIs a.req).1 a.key.canon (s.sys.offsetOf a.key) v a.fwd).on (fun s => s.answer (.done 0)) := by
  obtain ⟨ha, hp, -, hm⟩ := ht
  have hm := hm (by simp [hw])
  rw [ha.rowAccess, hw]
  generalize hof : s.sys.offsetOf a.key = off
  generalize hwho : (s.sys.whoIs a.req).1 = w at hm ⊢
  have key : (⟨s.mem, (s.sys.whoIs a.req).2, []⟩ : M).regPerform w a.key off 8 (some v) a.fwd =
      if w.tether then ((⟨s.mem, (s.sys.opened a).tetherApply a.key.canon off, []⟩ : M).regWrite w a.key.canon off v a.fwd).on
        (fun s => s.answer (.done 0))
      else match (s.sys.opened a).meshApply a.key.canon off w.kennel w.secure with
        | (false, t) => ⟨s.mem, t.answer (.done 0), []⟩
        | (true, t) => ((⟨s.mem, t, []⟩ : M).regWrite w a.key.canon off v a.fwd).on (fun s => s.answer (.done 0)) := rfl
  rw [key]
  cases hte : w.tether
  · simp only [Bool.false_eq_true, if_false]
    have hmk := (s.sys.opened a).meshApply_marked a.key.canon off w.kennel w.secure
    have hb : ((s.sys.opened a).meshApply a.key.canon off w.kennel w.secure).1 = true := by
      unfold Sys.meshApply
      rw [RK.canon_canon, hm hte]
      rfl
    generalize (s.sys.opened a).meshApply a.key.canon off w.kennel w.secure = r at hmk hb ⊢
    obtain ⟨b, t⟩ := r
    simp only at hb hmk
    subst hb
    exact ⟨t, hmk, rfl⟩
  · exact ⟨_, (s.sys.opened a).tetherApply_marked a.key.canon off, rfl⟩

/-- A read that takes effect answers what its register's read gives. -/
theorem Sys.Takes.read {s : State} {a : Access} (hw : a.write = none) (ht : s.sys.Takes a) :
    s.ctx.rowAccess a.req a.key a.write a.fwd =
      ⟨s.mem, ((s.sys.opened a).regRead a.key.canon).2.answer (.done ((s.sys.opened a).regRead a.key.canon).1), []⟩ := by
  obtain ⟨ha, hp, hr, -⟩ := ht
  have hr := hr hw
  rw [ha.rowAccess, hw]
  have key : (⟨s.mem, (s.sys.whoIs a.req).2, []⟩ : M).regPerform (s.sys.whoIs a.req).1 a.key (s.sys.offsetOf a.key) 8 none a.fwd =
      if (s.sys.opened a).readWaits a.key then ⟨s.mem, (s.sys.opened a).answer .waiting, []⟩
      else ⟨s.mem, ((s.sys.opened a).regRead a.key.canon).2.answer (.done ((s.sys.opened a).regRead a.key.canon).1), []⟩ := rfl
  rw [key, hr]
  rfl

end Sys2Proof.Machine
end

