-- ==== Sys2Proof/Laws/Memory.lean ====
section
/-!
SUPPORT. The laws of memory: a byte reads what was written there, every other byte is as it was, and every write keeps the canonical
form.
-/
namespace Sys2Proof.Machine

theorem cellGet_below (l : List Host.Cell) (lo x : Nat) (h : cellsOk lo l = true) (hx : x < lo) : cellGet l x = 0 := by
  induction l generalizing lo with
  | nil => rfl
  | cons p l ih =>
    obtain ⟨a, b⟩ := p
    simp only [cellsOk, Bool.and_eq_true, decide_eq_true_eq] at h
    have hne : ¬ a = x := by omega
    simp only [cellGet, hne, if_false]
    exact ih (a + 1) h.2 (by omega)

/-- A byte reads what was written there. -/
theorem cellGet_cellPut_self (l : List Host.Cell) (lo x : Nat) (v : Byte) (h : cellsOk lo l = true) :
    cellGet (cellPut l x v) x = v := by
  induction l generalizing lo with
  | nil => by_cases hv : v = 0 <;> simp only [cellPut, cellGet, hv, if_true, if_false]
  | cons p l ih =>
    obtain ⟨a, b⟩ := p
    have h0 := h
    simp only [cellsOk, Bool.and_eq_true, decide_eq_true_eq] at h
    by_cases h1 : x < a
    · have hz : cellGet ((a, b) :: l) x = 0 := by
        have hne : ¬ a = x := by omega
        simp only [cellGet, hne, if_false]
        exact cellGet_below l (a + 1) x h.2 (by omega)
      by_cases hv : v = 0
      · simp only [cellPut, h1, hv, if_true]; exact hz
      · simp only [cellPut, h1, hv, if_true, if_false, cellGet]
    · by_cases h2 : x = a
      · subst h2
        by_cases hv : v = 0
        · simp only [cellPut, Nat.lt_irrefl, if_false, if_true, hv]
          exact cellGet_below l (x + 1) x h.2 (by omega)
        · simp only [cellPut, Nat.lt_irrefl, hv, if_true, if_false, cellGet]
      · have hne : ¬ a = x := by omega
        simp only [cellPut, h1, h2, if_false, cellGet, hne]
        exact ih (a + 1) h.2

/-- Every other byte is as it was. -/
theorem cellGet_cellPut_other (l : List Host.Cell) (lo x y : Nat) (v : Byte) (h : cellsOk lo l = true) (hxy : y ≠ x) :
    cellGet (cellPut l x v) y = cellGet l y := by
  have hyx : ¬ x = y := fun e => hxy e.symm
  induction l generalizing lo with
  | nil => by_cases hv : v = 0 <;> simp only [cellPut, cellGet, hv, hyx, if_true, if_false]
  | cons p l ih =>
    obtain ⟨a, b⟩ := p
    simp only [cellsOk, Bool.and_eq_true, decide_eq_true_eq] at h
    by_cases h1 : x < a
    · by_cases hv : v = 0 <;> simp only [cellPut, h1, hv, cellGet, hyx, if_true, if_false]
    · by_cases h2 : x = a
      · subst h2
        by_cases hv : v = 0 <;> simp only [cellPut, Nat.lt_irrefl, hv, cellGet, hyx, if_true, if_false]
      · simp only [cellPut, h1, h2, if_false, cellGet]
        rw [ih (a + 1) h.2]

theorem cellsOk_mono (l : List Host.Cell) (lo lo' : Nat) (h : cellsOk lo l = true) (hl : lo' ≤ lo) : cellsOk lo' l = true := by
  cases l with
  | nil => rfl
  | cons p l =>
    obtain ⟨a, b⟩ := p
    simp only [cellsOk, Bool.and_eq_true, decide_eq_true_eq] at h ⊢
    exact ⟨⟨by omega, h.1.2⟩, h.2⟩

theorem cellPut_ok (l : List Host.Cell) (lo x : Nat) (v : Byte) (h : cellsOk lo l = true) (hx : lo ≤ x) :
    cellsOk lo (cellPut l x v) = true := by
  induction l generalizing lo with
  | nil =>
    by_cases hv : v = 0
    · simp only [cellPut, hv, if_true]; rfl
    · simp only [cellPut, hv, if_false, cellsOk, Bool.and_eq_true, decide_eq_true_eq]
      exact ⟨⟨hx, hv⟩, trivial⟩
  | cons p l ih =>
    obtain ⟨a, b⟩ := p
    have h0 := h
    simp only [cellsOk, Bool.and_eq_true, decide_eq_true_eq] at h
    by_cases h1 : x < a
    · by_cases hv : v = 0
      · simp only [cellPut, h1, if_true, hv]; exact h0
      · simp only [cellPut, h1, if_true, hv, if_false, cellsOk, Bool.and_eq_true, decide_eq_true_eq]
        exact ⟨⟨hx, hv⟩, ⟨by omega, h.1.2⟩, h.2⟩
    · by_cases h2 : x = a
      · subst h2
        by_cases hv : v = 0
        · simp only [cellPut, Nat.lt_irrefl, if_false, if_true, hv]
          exact cellsOk_mono l (x + 1) lo h.2 (by omega)
        · simp only [cellPut, Nat.lt_irrefl, if_false, if_true, hv, cellsOk, Bool.and_eq_true, decide_eq_true_eq]
          exact ⟨⟨hx, hv⟩, h.2⟩
      · simp only [cellPut, h1, h2, if_false, cellsOk, Bool.and_eq_true, decide_eq_true_eq]
        exact ⟨h.1, ih (a + 1) h.2 (by omega)⟩

theorem setOk_mono (l : List Nat) (lo lo' : Nat) (h : setOk lo l = true) (hl : lo' ≤ lo) : setOk lo' l = true := by
  cases l with
  | nil => rfl
  | cons a l =>
    simp only [setOk, Bool.and_eq_true, decide_eq_true_eq] at h ⊢
    exact ⟨by omega, h.2⟩

theorem setAdd_ok (l : List Nat) (lo x : Nat) (h : setOk lo l = true) (hx : lo ≤ x) : setOk lo (setAdd l x) = true := by
  induction l generalizing lo with
  | nil => simp [setAdd, setOk, hx]
  | cons a l ih =>
    have h0 := h
    simp only [setOk, Bool.and_eq_true, decide_eq_true_eq] at h
    by_cases h1 : x < a
    · simp only [setAdd, h1, if_true, setOk, Bool.and_eq_true, decide_eq_true_eq]
      exact ⟨hx, by omega, h.2⟩
    · by_cases h2 : x = a
      · simp only [setAdd, h2, Nat.lt_irrefl, if_false, if_true]; exact h0
      · simp only [setAdd, h1, h2, if_false, setOk, Bool.and_eq_true, decide_eq_true_eq]
        exact ⟨h.1, ih (a + 1) h.2 (by omega)⟩

theorem setDel_ok (l : List Nat) (lo x : Nat) (h : setOk lo l = true) : setOk lo (setDel l x) = true := by
  induction l generalizing lo with
  | nil => rfl
  | cons a l ih =>
    simp only [setOk, Bool.and_eq_true, decide_eq_true_eq] at h
    by_cases h1 : a = x
    · simp only [setDel, h1, if_true]
      exact setOk_mono l (a + 1) lo h.2 (by omega)
    · simp only [setDel, h1, if_false, setOk, Bool.and_eq_true, decide_eq_true_eq]
      exact ⟨h.1, ih (a + 1) h.2⟩

/-- One write of memory keeps the canonical form. -/
theorem Mem.put_wf (m : Mem) (o : MemOp) (h : m.wf = true) : (m.put o).wf = true := by
  simp only [Mem.wf, Bool.and_eq_true] at h
  cases o with
  | byte a b =>
    simp only [Mem.put, Mem.wf, Bool.and_eq_true]
    exact ⟨⟨cellPut_ok m.dram 0 a b h.1.1 (Nat.zero_le a), h.1.2⟩, h.2⟩
  | poison l on =>
    cases on
    · simp only [Mem.put, Mem.wf, Bool.and_eq_true]
      exact ⟨⟨h.1.1, setDel_ok m.poison 0 l h.1.2⟩, h.2⟩
    · simp only [Mem.put, Mem.wf, Bool.and_eq_true]
      exact ⟨⟨h.1.1, setAdd_ok m.poison 0 l h.1.2 (Nat.zero_le l)⟩, h.2⟩
  | sram a b =>
    simp only [Mem.put, Mem.wf, Bool.and_eq_true]
    exact ⟨⟨h.1.1, h.1.2⟩, cellPut_ok m.sram 0 a b h.2 (Nat.zero_le a)⟩
  | lose => rfl

/-- Every list of writes keeps the canonical form. -/
theorem Mem.apply_wf (m : Mem) (ops : List MemOp) (h : m.wf = true) : (m.apply ops).wf = true := by
  unfold Mem.apply
  induction ops generalizing m with
  | nil => exact h
  | cons o l ih => exact ih (m.put o) (Mem.put_wf m o h)

@[simp] theorem Mem.apply_nil (m : Mem) : m.apply [] = m := rfl

theorem Mem.apply_append (m : Mem) (a b : List MemOp) : m.apply (a ++ b) = (m.apply a).apply b := by
  unfold Mem.apply
  exact List.foldl_append

/-- A byte of physical memory reads what was written there. -/
theorem Mem.byte_put_self (m : Mem) (a : Nat) (b : Byte) (h : m.wf = true) : (m.put (.byte a b)).byte a = b := by
  simp only [Mem.wf, Bool.and_eq_true] at h
  exact cellGet_cellPut_self m.dram 0 a b h.1.1

/-- A write of one byte leaves every other byte as it was. -/
theorem Mem.byte_put_other (m : Mem) (a x : Nat) (b : Byte) (h : m.wf = true) (hx : x ≠ a) : (m.put (.byte a b)).byte x = m.byte x := by
  simp only [Mem.wf, Bool.and_eq_true] at h
  exact cellGet_cellPut_other m.dram 0 a x b h.1.1 hx

end Sys2Proof.Machine
end

