-- ==== Sys2Proof/WellFormed.lean ====
section
/-!
DEFINITION. The commands whose operands are as their messages carry them. A command that is not well-formed has a meaning all the same; the
check says which operands stand for an event of the part.
-/
namespace Sys2Proof

/-- The command's operands are in range: what the types of the operands do not say by themselves. -/
def Instr.wf (i : Instr) : Bool :=
  match i with
  | .registerWrite .. => true
  | .clearingRead .. => true
  | .tetherTimeout .. => true
  -- one reading per sensor
  | .spanTick _ temps => decide ((temps.map (·.1)).Nodup)
  | .windowEnd => true
  | .spnCfgWrite .. => true
  | .overrunRefresh .. => true
  | .leashEnable .. => true
  | .leashDisable .. => true
  | .txPllLock => true
  | .symbolLock .. => true
  | .symbolLockLost => true
  | .timeFrame .. => true
  | .timeFrameReturn .. => true
  | .markerTimeout => true
  | .rideExpiry => true
  | .holdoverExpiry => true
  | .leashRecal .. => true
  | .schedSend .. => true
  | .schedInsert .. => true
  | .schedFrame .. => true
  | .schedTargetReached .. => true
  | .schedRxPop .. => true
  | .timeLoad .. => true
  | .overrunClr .. => true
  | .claim .. => true
  | .release .. => true
  | .verify .. => true
  | .verifyDone => true
  | .apply .. => true
  | .applyDone => true
  | .applyStationTimeout .. => true
  | .seal .. => true
  | .arm .. => true
  | .cancel .. => true
  | .znxInvalidOp .. => true
  | .distributionDone => true
  | .voteStart => true
  | .stationVote .. => true
  | .voteTimeout => true
  -- each station once
  | .reflowCommit fails => decide (fails.Nodup)
  | .rehashSweepStep => true
  | .tlsync .. => true
  | .wfs .. => true
  | .wfsWake .. => true
  | .wcall .. => true
  | .wret .. => true
  | .tlbLock .. => true
  | .tlbUnlock .. => true
  | .unlockAll .. => true
  | .skohalCsrWrite .. => true
  | .predFlush .. => true
  | .trapEntry .. => true
  | .mret .. => true
  | .interruptTaken .. => true
  -- 1 to 64 bytes
  | .load _ _ bytes _ _ _ _ _ _ => decide (1 ≤ bytes ∧ bytes ≤ 64)
  -- 1 to 64 bytes, and no data beyond them
  | .store _ _ bytes data _ _ => decide (1 ≤ bytes ∧ bytes ≤ 64 ∧ data.toNat < 2 ^ (8 * bytes))
  | .storePerform .. => true
  | .amo .. => true
  | .fence .. => true
  | .fenceI .. => true
  | .sfenceVma .. => true
  | .hfenceVvma .. => true
  | .hfenceGvma .. => true
  | .satpWrite .. => true
  | .cboClean .. => true
  | .cboFlush .. => true
  | .cboInval .. => true
  | .cboZero .. => true
  | .prefetchHint .. => true
  | .wfi .. => true
  | .branchResolve .. => true
  | .instructionRetire .. => true
  | .fillArrive .. => true
  | .wcBufferTimeout .. => true
  | .coreArrayError .. => true
  | .lostCoreFlushStep .. => true
  | .lostCorePowerOff .. => true
  | .pageWalk .. => true
  | .adUpdate .. => true
  | .cacheInv .. => true
  | .cacheInvDone .. => true
  | .invDoneObserve .. => true
  | .cacheEnable .. => true
  | .cacheDisable .. => true
  | .cacheFlush .. => true
  | .cacheWalkDone .. => true
  | .sliceEnable .. => true
  | .sliceDisable .. => true
  | .sliceClearDone .. => true
  | .sliceRetire .. => true
  | .sliceRehash .. => true
  | .sliceDrainStep .. => true
  | .slicePowerOff .. => true
  | .sliceBist .. => true
  | .sliceBistDone .. => true
  | .llcArrayError .. => true
  | .meshReplay .. => true
  | .rdShared .. => true
  | .rdOwn .. => true
  | .upgrade .. => true
  | .ownZero .. => true
  | .rdSpec .. => true
  | .bind .. => true
  | .pfRd .. => true
  | .pfWr .. => true
  | .offer .. => true
  | .cleanDrop .. => true
  | .cmoClean .. => true
  | .cmoFlush .. => true
  | .cmoInval .. => true
  | .cmoCheck .. => true
  | .ncRd .. => true
  | .ncWr .. => true
  | .ncAmo .. => true
  | .ncLr .. => true
  | .ncSc .. => true
  | .devRd .. => true
  | .devWr .. => true
  | .snpShare .. => true
  | .snpInv .. => true
  | .snpPeek .. => true
  | .snpClean .. => true
  | .ackData .. => true
  | .ack .. => true
  | .ackNone .. => true
  | .ackPoison .. => true
  | .ackOffered .. => true
  | .memDone .. => true
  | .retry .. => true
  | .go .. => true
  | .goHoldExpiry .. => true
  | .retryDest .. => true
  | .holdNotice .. => true
  | .snoopTimeout .. => true
  | .grainChunkRequest .. => true
  | .grainChunkGrant .. => true
  | .lendInstant => true
  | .braceLinkDown .. => true
  | .braceAck .. => true
  | .braceTraining .. => true
  | .brcClrReplays .. => true
  | .qosHoldcntClr .. => true
  | .mcRead .. => true
  | .mcWrite .. => true
  | .dramReadResult .. => true
  | .sameBankRefresh .. => true
  | .tempPoll .. => true
  | .retrainStep .. => true
  | .retrainStarved .. => true
  | .rewriteLine .. => true
  | .pprStep .. => true
  | .resilverStep .. => true
  | .scrubBatch .. => true
  | .mcLinkRetry .. => true
  | .train .. => true
  | .trainDone .. => true
  | .retrain .. => true
  | .mcEn .. => true
  | .evacuate .. => true
  | .resilver .. => true
  | .sr .. => true
  | .pwrOff .. => true
  | .failoverTick .. => true
  | .evacuateTick .. => true
  | .resilverComplete .. => true
  | .pprStart .. => true
  | .spdRead .. => true
  | .spdReadDone .. => true
  | .kennelStop .. => true
  | .kennelReset .. => true
  | .kennelStopDone .. => true
  | .kennelResetDone .. => true
  | .ownInv .. => true
  | .ownInvDone => true
  | .set .. => true
  | .releaseOwnership .. => true
  | .releasePageDone => true
  | .sholdIncrement .. => true
  | .sholdDecrement .. => true
  | .icnClaim .. => true
  | .icnComplete .. => true
  | .icnMessage .. => true
  | .sourceSet .. => true
  | .sourceClr .. => true
  | .sourceRouteWrite .. => true
  | .thresholdWrite .. => true
  | .wiredEdge .. => true
  | .wiredLevel .. => true
  | .holdoffExpiry .. => true
  | .postVcpu .. => true
  | .postingDone .. => true
  | .icnGctxWrite .. => true
  | .icnGctxRead .. => true
  | .domainClockStop .. => true
  | .domainClockRestart .. => true
  -- at least one byte
  | .outboundRead _ _ n _ => decide (n ≠ 0)
  -- at least one byte, and no data beyond them
  | .outboundWrite _ _ n data => decide (n ≠ 0 ∧ data.toNat < 2 ^ (8 * n.val))
  | .configRead .. => true
  | .configWrite .. => true
  | .pcieCompletion .. => true
  | .cplTimeout .. => true
  -- at least one byte
  | .inboundMemRead _ _ _ n _ _ _ => decide (n ≠ 0)
  -- at least one byte, and no data beyond them
  | .inboundMemWrite _ _ _ n data _ _ _ _ => decide (n ≠ 0 ∧ data < 2 ^ (8 * n.val))
  -- at least one byte, and no data beyond them
  | .msiWrite _ _ _ n data _ => decide (n ≠ 0 ∧ data < 2 ^ (8 * n.val))
  | .assertIntx .. => true
  | .deassertIntx .. => true
  | .bmeClear .. => true
  | .hostBmeClear .. => true
  -- at least one byte, and no data beyond them
  | .epInbound _ _ _ n data _ _ _ => decide (n ≠ 0 ∧ data < 2 ^ (8 * n.val))
  | .xlatCommit .. => true
  | .xlatOldDrainDone .. => true
  | .epMsiRequest .. => true
  | .epIntxWrite .. => true
  | .linkEn .. => true
  | .perstRel .. => true
  | .linkRetrain .. => true
  | .dpcRelease .. => true
  | .linkPwrReq .. => true
  | .linkUp .. => true
  | .linkLost .. => true
  | .l1Entry .. => true
  | .l1Exit .. => true
  | .hotResetEnd .. => true
  | .perstInput .. => true
  | .copy .. => true
  | .fill .. => true
  | .compare .. => true
  | .crc32c .. => true
  | .zero .. => true
  | .nop .. => true
  | .chunkCheckpoint .. => true
  | .engineSliceBoundary .. => true
  | .completionRecord .. => true
  | .chTailWrite .. => true
  | .chAbort .. => true
  | .chEnable .. => true
  | .chDisable .. => true
  | .chBind .. => true
  | .chUnbind .. => true
  | .engineReset .. => true
  | .engineTestDone .. => true
  | .enginePwrReq .. => true
  | .dmLock .. => true
  | .dmUnlock .. => true
  | .btbFlush .. => true
  | .dmctlWrite .. => true
  | .tetherAccess .. => true
  | .flashFill .. => true
  | .flashFillDone .. => true
  | .flashCmd .. => true
  -- at most 256 bytes
  | .flashCmdDone data => decide (data.length ≤ 256)
  | .flashWipTimeout => true
  | .fbInv .. => true
  | .flashCfgWrite .. => true
  | .sramScrub .. => true
  | .sramError .. => true
  | .drmCoreRun .. => true
  | .drmCoreLost .. => true
  | .mbDoorbell .. => true
  | .mbStatusWrite .. => true
  | .mbNoticeWrite .. => true
  | .sbStatus => true
  -- 1 to 32 bytes (R513)
  | .sbAppend bytes => decide (1 ≤ bytes.length ∧ bytes.length ≤ 32)
  | .sbCommit .. => true
  -- at least one byte (R513)
  | .sbReadResponse n => decide (n ≠ 0)
  | .sbAbandon => true
  | .sbInvalidCode .. => true
  | .sbReady .. => true
  | .sbRspGo .. => true
  | .kennelResetRequest .. => true
  | .releasePages .. => true
  | .faultRecords .. => true
  | .sensors .. => true
  | .pagesDone .. => true
  | .reflowPlanned .. => true
  | .fault .. => true
  | .getStatus .. => true
  | .getSensors .. => true
  | .getFaults .. => true
  | .readDump .. => true
  -- no more than a frame carries (R513)
  | .imageChunk _ _ data => decide (1 ≤ data.length ∧ data.length ≤ 250)
  | .imageEnd .. => true
  | .powerCap .. => true
  | .kennelCtl .. => true
  | .socketReset .. => true
  | .ringEvent .. => true
  | .faultEvent .. => true
  | .faultReaction => true
  | .heelCmd .. => true
  | .fatalDump .. => true
  | .dumpDone .. => true
  | .hwSrFallback => true
  | .heelNotice .. => true
  | .collectorWalk .. => true
  | .injectEvent .. => true
  | .injectCollector .. => true
  | .coreOffline .. => true
  | .coreLbist .. => true
  | .lbistDone .. => true
  | .corePowerSwitch .. => true
  | .coreSaveDone .. => true
  | .coreWake .. => true
  | .coreExitStart .. => true
  | .coreRestoreDone .. => true
  | .coreForceState .. => true
  | .coreForceRelease .. => true
  | .coreStopRequest .. => true
  | .coreUnitReset .. => true
  | .kennelRelease .. => true
  | .coreStart .. => true
  | .packFreqRequest .. => true
  | .packFreqChange .. => true
  | .vinLimit => true
  | .vinRecover => true
  | .thermalEmergency .. => true
  | .emergencyForceCs4 .. => true
  -- one reading per sensor
  | .emergencyEnd temps => decide ((temps.map (·.1)).Nodup)
  | .thermalTrip .. => true
  | .coldReset => true
  | .warmReset => true
  | .warmResetCmd .. => true
  | .warmResetRelease => true
  | .powerOn .. => true
  | .railUndervoltage .. => true
  | .jtagInstruction .. => true
  | .debugAuth .. => true
  | .bindOk .. => true
  | .completion .. => true
  | .sliceDisablingDone .. => true
  -- each bank once
  | .commandSlot _ _ _ ready => decide (ready.Nodup)
  | .hostCommandWrite .. => true
  | .braceFlitReplay .. => true
  | .ptmRequest .. => true
  | .writeInProgressClear => true
  | .debugHaltRequest .. => true
  | .emergencyCoreResume .. => true

end Sys2Proof
end

