-- ==== Sys2Proof/Tests/Slice0.lean ====
section
/-!
SUPPORT. Tests: for every statement with hypotheses, states and operands that meet them all; and for every check of `Instr.wf` a command that it
refuses.
-/
namespace Sys2Proof.Tests
open Sys2Proof Sys2Proof.Machine
set_option maxRecDepth 20000
set_option exponentiation.threshold 700
set_option linter.unusedVariables false

/-! ## Well-formed commands -/

def anIns : Ins := ⟨0, 0x1000, false, []⟩

theorem test_wf_spanTick : Instr.wf (.spanTick 0 [(0, 1), (0, 2)]) = false := by decide
theorem test_wf_reflowCommit : Instr.wf (.reflowCommit [3, 3]) = false := by decide
theorem test_wf_load : Instr.wf (.load anIns 0 65 .none false false false false 0) = false := by decide
theorem test_wf_load_empty : Instr.wf (.load anIns 0 0 .none false false false false 0) = false := by decide
theorem test_wf_store : Instr.wf (.store anIns 0 1 256 false 0) = false := by decide
theorem test_wf_store_empty : Instr.wf (.store anIns 0 0 0 false 0) = false := by decide
theorem test_wf_outboundRead : Instr.wf (.outboundRead (.core 0) 0 0 none) = false := by decide
theorem test_wf_outboundWrite : Instr.wf (.outboundWrite (.core 0) 0 1 256) = false := by decide
theorem test_wf_inboundMemRead : Instr.wf (.inboundMemRead 0 0 0 0 false false 0) = false := by decide
theorem test_wf_inboundMemWrite : Instr.wf (.inboundMemWrite 0 0 0 1 256 false false false 0) = false := by decide
theorem test_wf_msiWrite : Instr.wf (.msiWrite 0 0 0 1 256 0) = false := by decide
theorem test_wf_epInbound : Instr.wf (.epInbound 0 true 0 1 256 false false 0) = false := by decide
theorem test_wf_flashCmdDone : Instr.wf (.flashCmdDone (List.replicate 257 0)) = false := by decide
theorem test_wf_sbAppend : Instr.wf (.sbAppend []) = false := by decide
theorem test_wf_sbReadResponse : Instr.wf (.sbReadResponse 0) = false := by decide
theorem test_wf_imageChunk : Instr.wf (.imageChunk 0 0 []) = false := by decide
theorem test_wf_emergencyEnd : Instr.wf (.emergencyEnd [(0, 1), (0, 2)]) = false := by decide
theorem test_wf_commandSlot : Instr.wf (.commandSlot 0 0 0 [(0, 0, 0), (0, 0, 0)]) = false := by decide

/-! ## States -/

/-- The state after reset with its block changed. -/
def mkS (f : Sys → Sys) : State := { State.reset with sys := f State.reset.sys }

/-- A state whose hart 0 runs, with a part of the block and of the hart changed. -/
def hs (f : Hart → Hart) (g : Sys → Sys := id) : State := mkS (fun s => g ((s.put F.TILE_CORE_PWR_STATE 0 0 0).onHart 0 f))
/-- A state whose hart 0 has an instruction at pc 0x1000 at hand, and line 0x80 in its L1D cache in state `st`. -/
def ih (st : Nat) (f : Hart → Hart := id) (g : Sys → Sys := id) : State :=
  hs (fun t => f { t with pc := 0x1000, l1i := [⟨0x40, 0, 1, false, 15, 0⟩], l1d := [⟨0x80, 0, st, false, 15, 0x0807060504030201⟩] })
    (fun s => g (s.put F.TILE_CACHE_CTL_L1D_STATE 2 0 0))
/-- The instruction there, and its fetch. -/
def i0 : Ins := ⟨0, 0x1000, false, []⟩
def p0 : List Piece := [⟨0x1000, 4, some 0x1000, 0, false, false, none, none⟩]
/-- An access of bytes of line 0x80, before and after its translation. -/
def pv (a n : Nat) : Piece := ⟨a, n, none, 0, false, false, none, none⟩
def pp (a n : Nat) : Piece := ⟨a, n, some a, 0, false, false, none, none⟩

/-! ## Chapter 01 -/

namespace C01
/-- A state with a part of the block changed. -/
def b0 (f : Sys → Sys := id) : State := mkS f

theorem witness_StepRunsFront : ∃ (s : State) (c : Instr) (rest : List Instr), s.pending = c :: rest := ⟨{ State.reset with pending := [.windowEnd] }, .windowEnd, [], by decide⟩

theorem witness_StepIdles : ∃ s : State, s.pending = [] := ⟨State.reset, by decide⟩


theorem witness_HeldInReset : ∃ (c : Instr) (s : State), s.sys.pwr.hold ≠ .none ∧ Instr.inReset c = false := ⟨.windowEnd, b0 (fun s => { s with pwr := { s.pwr with hold := .cold } }), by decide⟩

theorem witness_MemoryInvariant : ∃ s t : State, s.Inv ∧ step s = .next t := ⟨State.reset, State.reset, by decide, rfl⟩


theorem witness_RegisterAddresses : ∃ (k : RK) (p : Place), k.reg ∈ Reg.placed ∧ k.reg.place = some p ∧ k.i < p.n1 ∧ k.j < p.n2 := ⟨⟨.OWN_DUMP, 0, 0⟩, ⟨0x200010, 1, 0, 1, 0⟩, by decide⟩

theorem witness_AccessCodes_0 : ∃ (s : State) (req : Requester) (k : RK) (off : BitVec 43) (v : Word), s.Live ∧ s.sys.Takes ⟨req, k, some v, none⟩ ∧ k.reg.plain = true ∧ off.toNat = s.sys.offsetOf k := ⟨b0, .tether 0, ⟨.ZNX_SRC, 0, 0⟩, 0x20010, 0x123, by decide⟩
theorem witness_AccessCodes_1 : ∃ (s : State) (req : Requester) (k : RK) (off : BitVec 43), s.Live ∧ s.sys.Takes ⟨req, k, none, none⟩ ∧ k.reg.still = true ∧ off.toNat = s.sys.offsetOf k := ⟨b0, .tether 0, ⟨.ZNX_SRC, 0, 0⟩, 0x20010, by decide⟩
theorem witness_AccessCodes_2 : ∃ (s : State) (off : BitVec 43) (req : Requester), s.Live ∧ s.sys.Takes ⟨req, ⟨.SPN_SPAN, 0, 0⟩, none, none⟩ ∧ off = 0x10010 := ⟨b0, 0x10010, .tether 0, by decide⟩

theorem witness_PathPrecedence_0 : ∃ (s : State) (core : Fin 4) (k : RK) (off : BitVec 43) (v : Word) (w : Nat × Bool), s.Live ∧ s.sys.Takes ⟨.tether core, k, some v, none⟩ ∧ k.reg.plain = true ∧ off.toNat = s.sys.offsetOf k := ⟨b0 (fun s => { s with stations := { s.stations with meshMark := [(⟨.ZNX_SRC, 0, 0⟩, 15, true)] } }), .ofNat 4 1, ⟨.ZNX_SRC, 0, 0⟩, 0x20010, 0x123, (15, true), by decide⟩
theorem witness_PathPrecedence_1 : ∃ (s : State) (k : RK) (kn : Fin 16) (sec : Bool) (isHart : Bool) (off : BitVec 43) (v : Word), s.Live ∧ s.sys.Takes ⟨.remote kn sec isHart, k, some v, none⟩ ∧ k.reg.plain = true ∧ off.toNat = s.sys.offsetOf k := ⟨b0, ⟨.PWR_CFG, 0, 0⟩, 15, true, false, 0x40010, 0x123, by decide⟩
theorem witness_PathPrecedence_2 : ∃ (s : State) (k : RK) (kn : Fin 16) (sec : Bool) (isHart : Bool) (off : BitVec 43) (v : Word), s.Live ∧ s.sys.Admits ⟨.remote kn sec isHart, k, some v, none⟩ ∧ s.sys.domOf k = none ∧ s.sys.stations.tetherMark.contains k.canon = true ∧ off.toNat = s.sys.offsetOf k := ⟨b0 (fun s => { s with stations := { s.stations with tetherMark := [⟨.PWR_CFG, 0, 0⟩] } }), ⟨.PWR_CFG, 0, 0⟩, 15, true, false, 0x40010, 0x123, by decide⟩
theorem witness_PathPrecedence_3 : ∃ (s : State) (core : Fin 4) (i : Fin 109) (off : BitVec 43) (v : Word), s.Live ∧ s.sys.Takes ⟨.tether core, ⟨.SYS_CS_STATUS, i, 0⟩, some v, none⟩ ∧ off.toNat = 0x1000 + 8 * i.val ∧ fget (s.sys.rd ⟨.SYS_CS_STATUS, i, 0⟩ &&& ~~~v) 1 2 = 0 ∧ s.sys.stations.meshMark = [] := ⟨b0 (fun s => (s.put F.SYS_CS_STATUS_MESH_DROP 1 12).put F.SYS_CS_STATUS_DROP_COUNT 2 12), 0, 12, 0x1060, 6, by decide⟩

theorem witness_RefusedAccesses_0 : ∃ (s : State) (h : Fin 256) (off : BitVec 43) (z : Size) (v : Word), s.Live ∧ s.sys.regAt off.toNat = none := ⟨b0, 5, 0x5FFFFF8, .b8, 1, by decide⟩
theorem witness_RefusedAccesses_1 : ∃ (s : State) (h : Fin 256) (off : BitVec 43) (z : Size), s.Live ∧ s.sys.regAt off.toNat = none := ⟨b0, 5, 0x1400, .b8, by decide⟩
theorem witness_RefusedAccesses_2 : ∃ (s : State) (kn : Fin 16) (sec : Bool) (off : BitVec 43) (z : Size), s.Live ∧ s.sys.regAt off.toNat = none := ⟨b0, 5, true, 0x1400, .b8, by decide⟩
theorem witness_RefusedAccesses_3 : ∃ (s : State) (core : Fin 4) (off : BitVec 43) (v : Word), s.Live ∧ s.sys.regAt off.toNat = none ∧ off.toNat % 8 = 0 := ⟨b0, 2, 0x1400, 1, by decide⟩
theorem witness_RefusedAccesses_4 : ∃ (s : State) (h : Fin 256) (k : RK) (off : BitVec 43) (v : Word), s.Live ∧ s.sys.regAt off.toNat = some k ∧ s.sys.pageAdmits (off.toNat / 4096) (s.sys.hartKennel h) (s.sys.worldS h) = false := ⟨b0, 5, ⟨.DRM_MB_DOORBELL, 6, 0⟩, 0x5006000, 1, by decide⟩
theorem witness_RefusedAccesses_5 : ∃ (s : State) (h : Fin 256) (k : RK) (off : BitVec 43), s.Live ∧ s.sys.regAt off.toNat = some k ∧ k.reg ≠ .SYS_ID ∧ s.sys.pageAdmits (off.toNat / 4096) (s.sys.hartKennel h) (s.sys.worldS h) = false := ⟨b0, 5, ⟨.DRM_MB_DOORBELL, 6, 0⟩, 0x5006000, by decide⟩
theorem witness_RefusedAccesses_6 : ∃ (s : State) (kn : Fin 16) (sec : Bool) (isHart : Bool) (k : RK) (off : BitVec 43) (v : Word), s.Live ∧ s.sys.regAt off.toNat = some k ∧ (k.reg.path = .tw ∨ (k.reg.path = .b15 ∧ kn.val ≠ 15)) := ⟨b0, 15, true, true, ⟨.ZNX_CMD, 0, 0⟩, 0x20008, 1, by decide⟩
theorem witness_RefusedAccesses_7 : ∃ (s : State) (core : Fin 4) (k : RK) (off : BitVec 43), s.Live ∧ s.sys.regAt off.toNat = some k ∧ off.toNat = s.sys.offsetOf k ∧ off.toNat % 8 = 0 ∧ s.sys.stations.chainFailed.contains (stationAt off.toNat) = false ∧ k.reg.heldInUnit = true ∧ k.reg.path ≠ .m ∧ k.reg.path ≠ .l ∧ s.sys.unitOff (stationAt off.toNat) = true := ⟨b0, 1, ⟨.TILE_HA_STATUS, 2, 0⟩, 0x1020420, by decide⟩
theorem witness_RefusedAccesses_8 : ∃ (s : State) (core : Fin 4) (k : RK) (off : BitVec 43) (v : Word), s.Live ∧ s.sys.regAt off.toNat = some k ∧ off.toNat = s.sys.offsetOf k ∧ off.toNat % 8 = 0 ∧ s.sys.stations.chainFailed.contains (stationAt off.toNat) = false ∧ k.reg.heldInUnit = true ∧ k.reg.path ≠ .m ∧ k.reg.path ≠ .l ∧ s.sys.unitOff (stationAt off.toNat) = true := ⟨b0, 1, ⟨.TILE_HA_STATUS, 2, 0⟩, 0x1020420, 7, by decide⟩
theorem witness_RefusedAccesses_9 : ∃ (s : State) (core : Fin 4) (k : RK) (off : BitVec 43) (v : Word), s.Live ∧ s.sys.regAt off.toNat = some k ∧ off.toNat % 8 = 0 ∧ s.sys.stations.chainFailed.contains (stationAt off.toNat) = true := ⟨b0 (fun s => { s with stations := { s.stations with chainFailed := [66] } }), 1, ⟨.MC_ERR_LOG, 2, 0⟩, 0x2020060, 7, by decide⟩
theorem witness_RefusedAccesses_10 : ∃ (s : State) (core : Fin 4) (w : TetherWait), s.Live ∧ s.sys.stations.waits = [w] ∧ w.core = core.val ∧ w.va = none := ⟨b0 (fun s => { s with stations := { s.stations with waits := [⟨1, 0x2020060, true, none⟩] } }), 1, ⟨1, 0x2020060, true, none⟩, by decide⟩

theorem witness_AccessSizes_0 : ∃ (s : State) (req : Requester) (k : RK) (off : BitVec 43) (v : Word), s.sys.regAt off.toNat = some k ∧ off.toNat = s.sys.offsetOf k ∧ off.toNat % 8 = 0 ∧ k.reg.half = true := ⟨b0, .tether 0, ⟨.RTV_CH_TAIL, 3, 0⟩, 0x4013008, 7, by decide⟩
theorem witness_AccessSizes_1 : ∃ (s : State) (req : Requester) (k : RK) (off : BitVec 43), s.Live ∧ s.sys.regAt off.toNat = some k ∧ off.toNat = s.sys.offsetOf k ∧ off.toNat % 8 = 0 ∧ k.reg.half = true := ⟨b0, .tether 0, ⟨.RTV_CH_TAIL, 3, 0⟩, 0x4013008, by decide⟩
theorem witness_AccessSizes_2 : ∃ (s : State) (h : Fin 256) (k : RK) (off : BitVec 43) (z : Size) (v : Word), s.Live ∧ s.sys.regAt off.toNat = some k ∧ (z = .b1 ∨ z = .b2 ∨ (z = .b4 ∧ (k.reg.half = false ∨ off.toNat ≠ s.sys.offsetOf k))) := ⟨b0, 3, ⟨.RTV_CH_TAIL, 3, 0⟩, 0x401300C, .b4, 7, by decide⟩
theorem witness_AccessSizes_3 : ∃ (s : State) (h : Fin 256) (k : RK) (off : BitVec 43) (z : Size), s.Live ∧ s.sys.regAt off.toNat = some k ∧ (z = .b1 ∨ z = .b2 ∨ (z = .b4 ∧ (k.reg.half = false ∨ off.toNat ≠ s.sys.offsetOf k))) := ⟨b0, 3, ⟨.PWR_CFG, 0, 0⟩, 0x40010, .b4, by decide⟩
theorem witness_AccessSizes_4 : ∃ (s : State) (kn : Fin 16) (sec : Bool) (k : RK) (off : BitVec 43) (z : Size), s.Live ∧ s.sys.regAt off.toNat = some k ∧ (z = .b1 ∨ z = .b2 ∨ (z = .b4 ∧ (k.reg.half = false ∨ off.toNat ≠ s.sys.offsetOf k))) := ⟨b0, 3, true, ⟨.PWR_CFG, 0, 0⟩, 0x40010, .b2, by decide⟩
theorem witness_AccessSizes_5 : ∃ (s : State) (core : Fin 4) (off : BitVec 43) (z : Size) (v : Word), s.Live ∧ (z = .b1 ∨ z = .b2 ∨ (z = .b4 ∧ off.toNat % 4 ≠ 0)) := ⟨b0, 3, 0x40010, .b2, 1, by decide⟩
theorem witness_AccessSizes_6 : ∃ (s : State) (core : Fin 4) (off : BitVec 43) (z : Size), s.Live ∧ (z = .b1 ∨ z = .b2 ∨ (z = .b4 ∧ off.toNat % 4 ≠ 0)) := ⟨b0, 3, 0x40010, .b1, by decide⟩
theorem witness_AccessSizes_7 : ∃ (s : State) (core : Fin 4) (k : RK) (off : BitVec 43) (v : Word), s.Live ∧ s.sys.regAt off.toNat = some k ∧ off.toNat % 4 = 0 ∧ s.sys.stations.chainFailed.contains (stationAt off.toNat) = false ∧ (k.reg.half = false ∨ off.toNat ≠ s.sys.offsetOf k) := ⟨b0, 3, ⟨.PWR_CFG, 0, 0⟩, 0x40010, 1, by decide⟩
theorem witness_AccessSizes_8 : ∃ (s : State) (core : Fin 4) (k : RK) (off : BitVec 43), s.Live ∧ s.sys.regAt off.toNat = some k ∧ off.toNat % 4 = 0 ∧ s.sys.stations.chainFailed.contains (stationAt off.toNat) = false ∧ (k.reg.half = false ∨ off.toNat ≠ s.sys.offsetOf k) := ⟨b0, 3, ⟨.PWR_CFG, 0, 0⟩, 0x40014, by decide⟩

theorem witness_RepairRequests_0 : ∃ (s : State) (req : Requester) (m : Fin 16) (v : Word), s.Takes (.pprStart req m v) ∧ (s.sys.chan m).repair = none := ⟨mkS (fun s => s.put F.MC_STATUS_STATE 4 2), .tether 0, 2, 5, by decide⟩

end C01

/-! ## Chapter 02 -/

namespace C02
/-- A state with the port in a state, holding symbol lock. -/
def lk (st : Nat) (f : Sys → Sys := id) : State := mkS (fun s => f (({ s with span := { s.span with symbolLock := true } }).put F.SPN_STATUS_PORT_STATE st))
/-- A good TIME frame. -/
def tfOk (k : Byte) : TimeFrame := TimeFrame.fresh ⟨k, 20000, 0, 0, 0, 0⟩
/-- A good SCHED frame. -/
def sfOk (a : Byte) (t : Nat) : SchedFrame := SchedFrame.fresh ⟨a, BitVec.ofNat 48 t, 7, 3, 0⟩
/-- A state whose channel 0 is in service with one refresh left for outside the window. -/
def mc4 : State := mkS (fun s => (s.put F.MC_STATUS_STATE 4).onChan 0 (fun c => { c with remain := 1 }))

theorem witness_LeashLocks_0 : ∃ (s : State), s.Live ∧ s.sys.portState = portTxLock := ⟨lk 5, by decide⟩
theorem witness_LeashLocks_1 : ∃ (s : State) (fwd : BitVec 24), s.Live ∧ s.sys.portState = portSeek ∧ s.sys.rf F.SPN_CTL_RECAL = 0 := ⟨lk 1, 0xFFFFFF, by decide⟩
theorem witness_LeashLocks_2 : ∃ (s : State), s.Live ∧ s.sys.portState = portAcquire := ⟨lk 2, by decide⟩
theorem witness_LeashLocks_3 : ∃ (s : State), s.Live ∧ s.sys.portState = portLocked ∧ s.sys.leashMaster = false := ⟨lk 3, by decide⟩
theorem witness_LeashLocks_4 : ∃ (s : State), s.Live ∧ s.sys.portState = portLocked ∧ s.sys.leashMaster = false := ⟨lk 3, by decide⟩
theorem witness_LeashLocks_5 : ∃ (s : State), s.Live ∧ s.sys.portState = portRide ∧ 2 ≤ s.sys.span.rideSpans := ⟨lk 4 (fun s => { s with span := { s.span with rideSpans := 2 } }), by decide⟩
theorem witness_LeashLocks_6 : ∃ (s : State), s.Live ∧ s.sys.portState ≠ portLocked := ⟨lk 1, by decide⟩

theorem witness_LeashFrames_0 : ∃ (s : State) (f : TimeFrame) (mark : Int) (now : Nat), s.Live ∧ s.sys.leashMaster = false ∧ s.sys.span.symbolLock = true ∧ s.sys.portState = portLocked ∧ f.crcOk = false := ⟨lk 3, { tfOk 1 with crc := 0 }, 0, 0, by decide⟩
theorem witness_LeashFrames_1 : ∃ (s : State) (f : TimeFrame) (mark : Int) (now : Nat), s.Live ∧ s.sys.leashMaster = false ∧ s.sys.span.symbolLock = true ∧ s.sys.portState = portLocked ∧ f.crcOk = true ∧ f.flags.toNat % 8 ≠ s.sys.rf F.SPN_CFG_K := ⟨lk 3, tfOk 2, 0, 0, by decide⟩
theorem witness_LeashFrames_2 : ∃ (s : State) (f : TimeFrame) (mark : Int) (now : Nat), s.Live ∧ s.sys.leashMaster = false ∧ s.sys.span.symbolLock = true ∧ s.sys.portState = portRide ∧ f.crcOk = true ∧ f.flags.toNat % 8 = s.sys.rf F.SPN_CFG_K := ⟨lk 4, tfOk 1, 0, 0, by decide⟩
theorem witness_LeashFrames_3 : ∃ (s : State) (f : TimeFrame) (measured : BitVec 24), s.Live ∧ s.sys.leashMaster = true ∧ s.sys.portState = portLocked ∧ f.crcOk = true ∧ f.flags.toNat % 8 = s.sys.rf F.SPN_CFG_K := ⟨lk 3 (fun s => s.put F.SPN_STATUS_MASTER 1), tfOk 1, 5, by decide⟩
theorem witness_LeashFrames_4 : ∃ (s : State) (idle : Nat), s.Live ∧ s.sys.rf F.SPN_SCHED_TX0_GO = 1 ∧ 8 ≤ idle ∧ 1280 < s.sys.spanS - s.sys.phase ∧ s.sys.span.symbolLock = true := ⟨lk 3 (fun s => s.put F.SPN_SCHED_TX0_GO 1), 8, by decide⟩
theorem witness_LeashFrames_5 : ∃ (s : State) (f : SchedFrame), s.Live ∧ s.sys.portState ≠ portOff ∧ s.sys.span.symbolLock = true ∧ f.crcOk = true ∧ f.origin.toNat ≠ s.sys.ringPos ∧ (f.action = 1 ∨ f.action = 2) := ⟨lk 3, sfOk 2 5, by decide⟩
theorem witness_LeashFrames_6 : ∃ (s : State) (f : SchedFrame) (fwd : BitVec 24), s.Live ∧ s.sys.span.waiting = [f] ∧ f.target.toNat ≤ s.sys.spanNo ∧ f.action = 1 ∧ s.sys.span.events = [] ∧ s.sys.rf F.SPN_CTL_SCHED_IRQ_EN = 0 := ⟨lk 3 (fun s => { s with span := { s.span with waiting := [sfOk 1 0] } }), sfOk 1 0, 0, by decide⟩

theorem witness_SpanRegisters_0 : ∃ (s : State) (req : Requester) (v : Word), s.Takes (.spnCfgWrite req v) ∧ s.sys.isSealed = false := ⟨State.reset, .tether 0, 0x201, by decide⟩
theorem witness_SpanRegisters_1 : ∃ (s : State) (req : Requester) (v : Word), s.Takes (.spnCfgWrite req v) ∧ s.sys.isSealed = true := ⟨mkS (fun s => s.put F.ZNX_STATUS_IMAGE_STATE 4), .tether 0, 0x201, by decide⟩
theorem witness_SpanRegisters_2 : ∃ (s : State) (req : Requester) (v : Word), s.Takes (.leashEnable req v) ∧ s.sys.portState = portOff ∧ s.sys.rf F.SPN_CTL_ENABLE = 0 := ⟨State.reset, .tether 3, 0x4, by decide⟩
theorem witness_SpanRegisters_3 : ∃ (s : State) (req : Requester) (v : Word), s.Takes (.leashDisable req v) ∧ s.sys.portState ≠ portOff ∧ s.sys.rf F.SPN_CTL_ENABLE = 1 := ⟨lk 3 (fun s => s.put F.SPN_CTL_ENABLE 1), .tether 0, 0x0, by decide⟩
theorem witness_SpanRegisters_4 : ∃ (s : State) (req : Requester) (v : Word) (fwd : BitVec 24), s.Takes (.leashRecal req v fwd) ∧ s.sys.span.symbolLock = true := ⟨lk 3, .tether 0, 0x1, 2400, by decide⟩
theorem witness_SpanRegisters_5 : ∃ (s : State) (req : Requester) (v : Word), s.Takes (.schedSend req v) := ⟨State.reset, .tether 0, 0x0001000000000064, by decide⟩
theorem witness_SpanRegisters_6 : ∃ (s : State) (req : Requester), s.Takes (.schedRxPop req) := ⟨lk 3 (fun s => { s with span := { s.span with events := [sfOk 1 0, sfOk 1 2] } }), .tether 0, by decide⟩
theorem witness_SpanRegisters_7 : ∃ (s : State) (req : Requester) (v : Word), s.Takes (.timeLoad req v) := ⟨mkS (fun s => s.put F.SPN_STATUS_MASTER 1), .tether 0, 0x5001, by decide⟩
theorem witness_SpanRegisters_8 : ∃ (s : State) (req : Requester), s.Takes (.overrunClr req) := ⟨mkS (fun s => s.put F.SPN_OVERRUN_COUNT 3), .tether 0, by decide⟩

theorem witness_SpanTimes_0 : ∃ (s : State), s.Live ∧ s.sys.inWindow = true ∧ s.sys.znx.commitWindow = false := ⟨State.reset, by decide⟩
theorem witness_SpanTimes_1 : ∃ (s : State) (m : Fin 16) (i : Nat), s.Live ∧ s.sys.mcSteps m = true ∧ 1 ≤ i ∧ i ≤ (s.sys.chan m).remain ∧ s.sys.span.overrunSeen = false := ⟨mc4, 0, 1, by decide⟩
theorem witness_SpanTimes_2 : ∃ (s : State) (power : BitVec 16) (temps : List (Fin 68 × Int)), s.Live ∧ s.sys.znx.commitWindow = false ∧ s.sys.reflowState ≠ rfCommit ∧ s.sys.span.adjust = none ∧ s.sys.span.load = none := ⟨State.reset, 0, [], by decide⟩

end C02

/-! ## Chapter 03 -/

namespace C03
/-- A state in an image state and a reflow state. -/
def zs (img rf : Nat) (f : Sys → Sys := id) : State := mkS (fun s => f ((s.put F.ZNX_STATUS_IMAGE_STATE img).put F.ZNX_STATUS_REFLOW_STATE rf))
/-- The same, with service core 1 the owner. -/
def zo (img rf : Nat) (f : Sys → Sys := id) : State := zs img rf (fun s => f ((s.put F.ZNX_OWNER_HELD 1).put F.ZNX_OWNER_HART 0x1001))
/-- An image held, of the bytes given. -/
def held (b : List Byte) : Held := ⟨b, Conf.empty, 0⟩

theorem witness_ZnxOwner_0 : ∃ (s : State) (core : Fin 4), s.Takes (.claim core) := ⟨zs 0 0, 2, by decide⟩
theorem witness_ZnxOwner_1 : ∃ (s : State) (core : Fin 4), s.Takes (.release core) ∧ s.sys.rf F.ZNX_OWNER_HELD = 1 ∧ s.sys.rf F.ZNX_OWNER_HART = 0x1000 + core.val ∧ s.sys.rf F.ZNX_STATUS_BUSY = 0 := ⟨zo 5 0, 1, by decide⟩
theorem witness_ZnxOwner_2 : ∃ (s : State) (core : Fin 4) (c : Instr), s.Takes c ∧ c ∈ [Instr.release core, .verify core, .apply core, .seal core, .arm core, .cancel core] ∧ (s.sys.rf F.ZNX_OWNER_HELD = 0 ∨ s.sys.rf F.ZNX_OWNER_HART ≠ 0x1000 + core.val) := ⟨zo 3 0, 2, .seal 2, by decide⟩
theorem witness_ZnxOwner_3 : ∃ (s : State) (core : Fin 4) (op : Byte), s.Takes (.znxInvalidOp core op) ∧ s.sys.rf F.ZNX_OWNER_HELD = 1 ∧ s.sys.rf F.ZNX_OWNER_HART = 0x1000 + core.val := ⟨zo 4 0, 1, 0x13, by decide⟩

theorem witness_ZnxImage_0 : ∃ (s : State) (core : Fin 4), s.Takes (.verify core) ∧ s.sys.rf F.ZNX_OWNER_HELD = 1 ∧ s.sys.rf F.ZNX_OWNER_HART = 0x1000 + core.val ∧ s.sys.rf F.ZNX_STATUS_BUSY = 0 ∧ (s.sys.imageState = imgEmpty ∨ s.sys.imageState = imgVerified) := ⟨zo 0 0 (fun s => (s.put F.ZNX_SRC_LEN 8).put F.ZNX_SRC_OFFSET 16), 1, by decide⟩
theorem witness_ZnxImage_1 : ∃ (s : State), s.Live ∧ s.sys.znx.op = 0x10 ∧ s.sys.imageState ≠ imgSealed := ⟨zo 1 0 (fun s => { s with znx := { s.znx with op := 0x10, copy := [1, 2, 3, 4, 5, 6, 7, 8], len := 8 } }), by decide⟩
theorem witness_ZnxImage_2 : ∃ (s : State) (core : Fin 4) (h : Held), s.Takes (.apply core) ∧ s.sys.rf F.ZNX_OWNER_HELD = 1 ∧ s.sys.rf F.ZNX_OWNER_HART = 0x1000 + core.val ∧ s.sys.rf F.ZNX_STATUS_BUSY = 0 ∧ s.sys.imageState = imgVerified ∧ s.sys.znx.full = some h := ⟨zo 1 0 (fun s => { s with znx := { s.znx with full := some (held []) } }), 1, held [], by decide⟩
theorem witness_ZnxImage_3 : ∃ (s : State), s.Live ∧ s.sys.znx.op = 0x11 := ⟨zo 2 0 (fun s => { s with znx := { s.znx with op := 0x11 } }), by decide⟩
theorem witness_ZnxImage_4 : ∃ (s : State) (st : Fin 109), s.Live ∧ s.sys.znx.op = 0x11 := ⟨zo 2 0 (fun s => { s with znx := { s.znx with op := 0x11 } }), 7, by decide⟩
theorem witness_ZnxImage_5 : ∃ (s : State) (core : Fin 4) (h : Held), s.Takes (.seal core) ∧ s.sys.rf F.ZNX_OWNER_HELD = 1 ∧ s.sys.rf F.ZNX_OWNER_HART = 0x1000 + core.val ∧ s.sys.rf F.ZNX_STATUS_BUSY = 0 ∧ s.sys.imageState = imgApplied ∧ s.sys.znx.full = some h := ⟨zo 3 0 (fun s => { s with znx := { s.znx with full := some (held [9]) } }), 1, held [9], by decide⟩
theorem witness_ZnxImage_6 : ∃ (s : State) (core : Fin 4), s.sys.rf F.ZNX_OWNER_HELD = 1 ∧ s.sys.rf F.ZNX_OWNER_HART = 0x1000 + core.val := ⟨zo 5 0, 1, by decide⟩

theorem witness_ReflowSteps_0 : ∃ (s : State), s.Live ∧ s.sys.znx.op = 0x10 ∧ s.sys.imageState = imgSealed := ⟨zo 4 0 (fun s => { s with znx := { s.znx with op := 0x10, copy := [1, 2, 3, 4, 5, 6, 7, 8], len := 8 } }), by decide⟩
theorem witness_ReflowSteps_1 : ∃ (s : State) (core : Fin 4) (h : Held), s.Takes (.arm core) ∧ s.sys.rf F.ZNX_OWNER_HELD = 1 ∧ s.sys.rf F.ZNX_OWNER_HART = 0x1000 + core.val ∧ s.sys.rf F.ZNX_STATUS_BUSY = 0 ∧ s.sys.imageState = imgSealed ∧ s.sys.reflowState = rfStaged ∧ s.sys.znx.staged = some h := ⟨zo 4 1 (fun s => { s.put F.ZNX_REFLOW_TARGET_TARGET 9 with znx := { s.znx with staged := some (held []) } }), 1, held [], by decide⟩
theorem witness_ReflowSteps_2 : ∃ (s : State) (core : Fin 4), s.Takes (.cancel core) ∧ s.sys.rf F.ZNX_OWNER_HELD = 1 ∧ s.sys.rf F.ZNX_OWNER_HART = 0x1000 + core.val ∧ s.sys.rf F.ZNX_STATUS_BUSY = 0 ∧ s.sys.imageState = imgSealed ∧ s.sys.reflowState ∈ [rfStaged, rfDistributing, rfReady] := ⟨zo 4 3, 1, by decide⟩
theorem witness_ReflowSteps_3 : ∃ (s : State), s.Live ∧ s.sys.reflowState = rfDistributing := ⟨zo 4 2, by decide⟩
theorem witness_ReflowSteps_4 : ∃ (s : State), s.Live ∧ s.sys.spanNo + 1 = s.sys.rf F.ZNX_REFLOW_TARGET_TARGET ∧ s.sys.phase ≤ s.sys.spanS - 2560 := ⟨zo 4 3 (fun s => s.put F.ZNX_REFLOW_TARGET_TARGET 1), by decide⟩
theorem witness_ReflowSteps_5 : ∃ (s : State) (st : Fin 109), s.Live ∧ s.sys.reflowState = rfVoting ∧ s.sys.znx.concerned.contains st.val = true ∧ s.sys.znx.ready.contains st.val = false := ⟨zo 4 4 (fun s => { s with znx := { s.znx with concerned := [104], staged := some (held []) } }), 104, by decide⟩
theorem witness_ReflowSteps_6 : ∃ (s : State), s.Live ∧ s.sys.reflowState = rfVoting := ⟨zo 4 4 (fun s => { s with znx := { s.znx with concerned := [104], staged := some (held []) } }), by decide⟩

theorem witness_ReflowCommit_0 : ∃ (s : State) (fails : List (Fin 109)) (h : Held), s.Live ∧ s.sys.znx.staged = some h ∧ s.sys.reflowState = rfCommit ∧ s.sys.spanNo + 1 = s.sys.rf F.ZNX_REFLOW_TARGET_TARGET := ⟨zo 4 5 (fun s => { s.put F.ZNX_REFLOW_TARGET_TARGET 1 with znx := { s.znx with staged := some (held []) } }), [], held [], by decide⟩
theorem witness_ReflowCommit_1 : ∃ (s : State) (h : Held), s.Live ∧ s.sys.znx.staged = some h ∧ s.sys.reflowState = rfCommit ∧ s.sys.spanNo + 1 = s.sys.rf F.ZNX_REFLOW_TARGET_TARGET ∧ s.sys.stagedRecs.kennels = [] ∧ s.sys.stagedRecs.tiles = [] ∧ s.sys.stagedRecs.ports = [] ∧ s.sys.stagedRecs.reaction = [] ∧ s.sys.stagedRecs.power = none ∧ s.sys.stagedRecs.regions = [] := ⟨zo 4 5 (fun s => { s.put F.ZNX_REFLOW_TARGET_TARGET 1 with znx := { s.znx with staged := some (held []) } }), held [], by decide⟩
theorem witness_ReflowCommit_2 : ∃ (s : State), s.Live ∧ s.sys.reflowState = rfDraining ∧ s.sys.inWindow = true ∧ s.sys.znx.sweepTick < s.sys.ticks ∧ s.sys.slices = [] := ⟨zo 4 6 (fun s => { s with ticks := 5 }), by decide⟩

end C03

/-! ## Chapter 04 -/

namespace C04
/-- Hart 0 in S-mode with a page table in its L1D cache: a 1 GiB leaf at 0, under a PMP that admits everything. -/
def paged (f : Hart → Hart) : State := hs (fun t =>
  f ({ t with priv := 1, l1d := [⟨0x1000, 0, 1, false, 15, 0xCF⟩] }.csrSet 0x180 0x8000000000000040 |>.csrSet 0x3A0 0x1F |>.csrSet 0x3B0 0x3FFFFFFFFFFFFF))

theorem witness_SkohalWaits_0 : ∃ (s : State) (h : Fin 256), s.Live ∧ s.sys.ready h = true := ⟨hs id, 0, by decide⟩
theorem witness_SkohalWaits_1 : ∃ (s : State) (h : Fin 256) (rd : Fin 32) (v : Word), s.Live ∧ s.sys.ready h = true ∧ ((s.sys.hart h).priv = 3 ∨ s.sys.cf h F.tlctl_WFS_LOW = 1) ∧ ((s.sys.hart h).virt = false ∨ (s.sys.hart h).cf hstatus 21 1 = 0) := ⟨hs id, 0, 5, 1, by decide⟩
theorem witness_SkohalWaits_2 : ∃ (s : State) (h : Fin 256) (rd : Fin 32) (v : Word), s.Live ∧ s.sys.ready h = true ∧ (s.sys.hart h).priv ≠ 3 ∧ s.sys.cf h F.tlctl_WFS_LOW = 0 := ⟨hs (fun t => { t with priv := 1 }), 0, 5, 1, by decide⟩
theorem witness_SkohalWaits_3 : ∃ (s : State) (h : Fin 256) (rd : Fin 32) (v : Word), s.Live ∧ s.sys.ready h = true ∧ s.sys.cf h F.tlctl_WFS_LOW = 1 ∧ (s.sys.hart h).virt = true ∧ (s.sys.hart h).cf hstatus 21 1 = 1 := ⟨hs (fun t => { t with priv := 1, virt := true }.csrSet 0x600 0x200000) (fun s => s.put F.tlctl_WFS_LOW 1 0), 0, 5, 1, by decide⟩
theorem witness_SkohalWaits_4 : ∃ (s : State) (h : Fin 256) (rd : Nat) (w : Bool) (tick : Nat), s.Live ∧ (s.sys.hart h).wait = .wfs rd w tick ∧ s.sys.coreState h = psCs0 ∧ (s.sys.wfsReached w tick = true ∨ s.sys.wakePending h = true) := ⟨hs (fun t => { t with wait := .wfs 5 false 0 }), 0, 5, false, 0, by decide⟩

theorem witness_Monitor_0 : ∃ (s : State) (h : Fin 256), s.Live ∧ s.sys.ready h = true ∧ s.sys.on F.tlworld_NOSEC h = false ∧ s.sys.on F.tlworld_PATH h = true ∧ (s.sys.hart h).virt = false ∧ (s.sys.hart h).priv ≠ 0 := ⟨hs (fun t => { t with priv := 1 }) (fun s => s.put F.tlworld_PATH 1 0), 0, by decide⟩
theorem witness_Monitor_1 : ∃ (s : State) (h : Fin 256), s.Live ∧ s.sys.ready h = true ∧ (s.sys.on F.tlworld_NOSEC h = true ∨ s.sys.on F.tlworld_PATH h = false) := ⟨hs id, 0, by decide⟩
theorem witness_Monitor_2 : ∃ (s : State) (h : Fin 256), s.Live ∧ s.sys.ready h = true ∧ s.sys.on F.tlworld_NOSEC h = false ∧ s.sys.on F.tlworld_PATH h = true ∧ (s.sys.hart h).virt = true := ⟨hs (fun t => { t with priv := 1, virt := true }) (fun s => s.put F.tlworld_PATH 1 0), 0, by decide⟩
theorem witness_Monitor_3 : ∃ (s : State) (h : Fin 256), s.Live ∧ s.sys.ready h = true ∧ (s.sys.hart h).priv = 3 ∧ s.sys.on F.tlworld_NOSEC h = false ∧ s.sys.on F.tlworld_PATH h = true ∧ s.sys.on F.tlworld_SCRUB h = true := ⟨hs id (fun s => s.put F.tlworld_PATH 1 0), 0, by decide⟩
theorem witness_Monitor_4 : ∃ (s : State) (h : Fin 256), s.Live ∧ s.sys.ready h = true ∧ (s.sys.hart h).priv = 3 := ⟨hs (fun t => t.csrSet 0x341 0x80000001), 0, by decide⟩
theorem witness_Monitor_5 : ∃ (s : State) (h : Fin 256), s.Live ∧ s.sys.ready h = true ∧ (s.sys.hart h).priv ≠ 3 := ⟨hs (fun t => { t with priv := 1 }), 0, by decide⟩
theorem witness_Monitor_6 : ∃ (s : State) (h : Fin 256) (cause : Fin 64) (tval : Word) (tval2 : Word), s.Live ∧ s.sys.ready h = true ∧ ((s.sys.hart h).priv = 3 ∨ fget ((s.sys.hart h).csrGet 0x302) cause.val 1 = 0) := ⟨hs (fun t => t.csrSet 0x305 0x1001), 0, 11, 7, 8, by decide⟩
theorem witness_Monitor_7 : ∃ (s : State) (h : Fin 256) (cause : Fin 64) (tval : Word) (tval2 : Word), s.Live ∧ s.sys.ready h = true ∧ (s.sys.hart h).priv < 3 ∧ fget ((s.sys.hart h).csrGet 0x302) cause.val 1 = 1 ∧ ((s.sys.hart h).virt = false ∨ fget ((s.sys.hart h).csrGet 0x602) cause.val 1 = 0) := ⟨hs (fun t => { t with priv := 0 }.csrSet 0x302 0x100), 0, 8, 7, 8, by decide⟩
theorem witness_Monitor_8 : ∃ (s : State) (h : Fin 256) (cause : Fin 64) (tval : Word) (tval2 : Word), s.Live ∧ s.sys.ready h = true ∧ (s.sys.hart h).priv < 3 ∧ (s.sys.hart h).virt = true ∧ fget ((s.sys.hart h).csrGet 0x302) cause.val 1 = 1 ∧ fget ((s.sys.hart h).csrGet 0x602) cause.val 1 = 1 := ⟨hs (fun t => ({ t with priv := 0, virt := true }.csrSet 0x302 0x100).csrSet 0x602 0x100), 0, 8, 7, 8, by decide⟩
theorem witness_Monitor_9 : ∃ (s : State) (h : Fin 256) (code : Nat), s.Live ∧ s.sys.runs h = true ∧ (s.sys.hart h).rob = [] ∧ s.sys.intrNow h = some code ∧ ((s.sys.hart h).priv = 3 ∨ fget ((s.sys.hart h).csrGet 0x303) code 1 = 0) := ⟨hs (fun t => ((t.csrSet 0x304 2).csrSet 0x344 2).csrSet 0x300 8), 0, 1, by decide⟩

theorem witness_SkohalCsrs_0 : ∃ (s : State) (h : Fin 256) (rd : Fin 32) (v : Word) (w : Word), s.Live ∧ s.sys.ready h = true ∧ s.sys.lockFault h = none := ⟨hs id, 0, 10, 0x123000, 0x13, by decide⟩
theorem witness_SkohalCsrs_1 : ∃ (s : State) (h : Fin 256) (rd : Fin 32) (v : Word) (w : Word) (e : TlbEnt), s.Live ∧ s.sys.ready h = true ∧ s.sys.lockFault h = none ∧ fget w 4 2 = 0 ∧ s.sys.slotReserved h (fget w 0 4) = false ∧ bit (s.sys.rf F.tllock_LOCKED h) (fget w 0 4) = false ∧ s.sys.bare h (s.sys.ctx h .load false false) = false ∧ s.ctx.lockWalk h v = some e ∧ TlbLock.overlap (s.sys.hart h) false (s.sys.ctx h .load false false).world e.glob (s.sys.ctx h .load false false).asid e.s e.vpn = false := ⟨paged id, 0, 10, 0x5123, 0x3, ⟨true, false, 0, 0, false, 30, 0, 0, 0xCF, 0⟩, by decide +kernel⟩
theorem witness_SkohalCsrs_2 : ∃ (s : State) (h : Fin 256) (rd : Fin 32) (v : Word) (w : Word), s.Live ∧ s.sys.ready h = true ∧ (s.sys.hart h).virt = false ∧ ((s.sys.hart h).priv = 0 ∨ ((s.sys.hart h).priv = 1 ∧ s.sys.cf h F.tlctl_TLBLOCK_S = 0)) := ⟨hs (fun t => { t with priv := 0 }), 0, 10, 0x123000, 0x13, by decide⟩
theorem witness_SkohalCsrs_3 : ∃ (s : State) (h : Fin 256) (rd : Fin 32) (v : Word), s.Live ∧ s.sys.ready h = true ∧ s.sys.lockFault h = none := ⟨hs id (fun s => s.put F.tllock_LOCKED 8 0), 0, 10, 3, by decide⟩
theorem witness_SkohalCsrs_4 : ∃ (s : State) (h : Fin 256), s.Live ∧ s.sys.ready h = true ∧ (s.sys.hart h).priv = 3 ∧ (s.sys.hart h).virt = false := ⟨hs (fun t => { t with slots := [(3, ⟨false, true, 0, false, 12, 5, 0x5000, 0xCF, 0⟩)] }) (fun s => s.put F.tllock_LOCKED 8 0), 0, by decide⟩
theorem witness_SkohalCsrs_5 : ∃ (s : State) (h : Fin 256) (csr : BitVec 12) (rd : Fin 32) (v : Word), s.Live ∧ s.sys.ready h = true ∧ (s.sys.hart h).priv = 3 ∧ (s.sys.hart h).virt = false ∧ (csr = 0x7C0 ∨ csr = 0x7C3) := ⟨hs id, 0, 0x7C0, 10, 0x3000F, by decide⟩
theorem witness_SkohalCsrs_6 : ∃ (s : State) (h : Fin 256) (csr : BitVec 12) (rd : Fin 32) (v : Word), s.Live ∧ s.sys.ready h = true ∧ (csr = 0xCC0 ∨ csr = 0xCC1 ∨ ((s.sys.hart h).priv ≠ 3 ∧ (csr = 0x7C0 ∨ csr = 0x7C1 ∨ csr = 0x7C2 ∨ csr = 0x7C3))) := ⟨hs id, 0, 0xCC1, 10, 0, by decide⟩
theorem witness_SkohalCsrs_7 : ∃ (s : State) (h : Fin 256), s.Live ∧ s.sys.ready h = true ∧ (s.sys.hart h).priv = 3 ∧ (s.sys.hart h).virt = false := ⟨hs id, 0, by decide⟩

end C04

/-! ## Chapter 05 -/

namespace C05
/-- An entry of the reorder buffer at pc 0x1000. -/
def ub (k : UopKind) : Uop := { Uop.blank 0 k 0x1000 4 with fetch := p0 }
/-- A load of 8 bytes at 0x2000 that has read into x5. -/
def ld : Uop := { ub .load with pieces := [pp 0x2000 8], bytes := 8, dest := .x 5, done := true, value := 77 }
/-- A fill of line 0x90 for hart 0. -/
def fl (k : FillKind) (got : Nat) : Fill := ⟨0, 0x90, k, 5, false, 15, 1, ⟨0, 0, 0⟩, false, 2, got, false, 0⟩
/-- A state with messages on their way. -/
def ms (l : List Msg) (f : Hart → Hart := id) : State := ih 3 f (fun s => { s with msgs := l })
/-- Hart 0 in S-mode under translation, with a 1 GiB leaf at 0 without A in line 0x1000 of its L1D cache. -/
def pg (flags : Nat) (f : Hart → Hart := id) : State := ih 3 (fun t =>
  f ({ t with priv := 1, l1d := [⟨0x1000, 0, 3, false, 15, BitVec.ofNat 512 flags⟩] }.csrSet 0x180 0x8000000000000040 |>.csrSet 0x3A0 0x1F |>.csrSet 0x3B0 0x3FFFFFFFFFFFFF))

theorem witness_CoreAccesses_0 : ∃ (s : State) (i : Ins) (ps : List Piece) (va : Word) (n : Nat) (dest : Dest) (sg : Bool) (nf : Bool) (hyp : Bool) (hx : Bool) (p : Piece) (q : Piece) (a : Nat) (c : CLine), s.Live ∧ s.AtHand i ps ∧ piecesOf (s.sys.masked i.h .load (s.sys.ctx i.h .load hyp hx) va.toNat) n = [p] ∧ p.va % n = 0 ∧ s.sys.translate i.h .load hyp hx p = .ok q ∧ q.pa = some a ∧ q.pbmt = 0 ∧ s.InL1d i.h a n c := ⟨ih 1, i0, p0, 0x2004, 4, .x 5, true, false, false, false, pv 0x2004 4, pp 0x2004 4, 0x2004, ⟨0x80, 0, 1, false, 15, 0x0807060504030201⟩, by decide⟩
theorem witness_CoreAccesses_1 : ∃ (s : State) (i : Ins) (ps : List Piece) (va : Word) (n : Nat) (data : BitVec 512) (hyp : Bool) (p : Piece) (q : Piece) (a : Nat) (c : CLine), s.Live ∧ s.AtHand i ps ∧ piecesOf (s.sys.masked i.h .store (s.sys.ctx i.h .store hyp false) va.toNat) n = [p] ∧ p.va % n = 0 ∧ s.sys.translate i.h .store hyp false p = .ok q ∧ q.pa = some a ∧ q.pbmt = 0 ∧ s.InL1d i.h a n c ∧ 2 ≤ c.st := ⟨ih 2, i0, p0, 0x2004, 4, 0x11223344, false, pv 0x2004 4, pp 0x2004 4, 0x2004, ⟨0x80, 0, 2, false, 15, 0x0807060504030201⟩, by decide⟩
theorem witness_CoreAccesses_2 : ∃ (s : State) (i : Ins) (ps : List Piece) (op : AmoOp) (va : Word) (dw : Bool) (rd : Fin 32) (v : Word) (aq : Bool) (rl : Bool) (p : Piece) (q : Piece) (a : Nat) (c : CLine), s.Live ∧ s.AtHand i ps ∧ piecesOf (s.sys.masked i.h .store (s.sys.ctx i.h .store false false) va.toNat) (if dw then 8 else 4) = [p] ∧ p.va % (if dw then 8 else 4) = 0 ∧ s.sys.translate i.h .store false false p = .ok q ∧ q.pa = some a ∧ q.pbmt = 0 ∧ s.InL1d i.h a (if dw then 8 else 4) c ∧ 2 ≤ c.st := ⟨ih 3, i0, p0, .add, 0x2008, true, 5, 7, true, false, pv 0x2008 8, pp 0x2008 8, 0x2008, ⟨0x80, 0, 3, false, 15, 0x0807060504030201⟩, by decide⟩
theorem witness_CoreAccesses_3 : ∃ (s : State) (i : Ins) (ps : List Piece) (va : Word) (dw : Bool) (rd : Fin 32) (v : Word) (aq : Bool) (rl : Bool) (p : Piece) (q : Piece) (a : Nat) (c : CLine), s.Live ∧ s.AtHand i ps ∧ piecesOf (s.sys.masked i.h .store (s.sys.ctx i.h .store false false) va.toNat) (if dw then 8 else 4) = [p] ∧ p.va % (if dw then 8 else 4) = 0 ∧ s.sys.translate i.h .load false false p = .ok q ∧ s.sys.translate i.h .store false false p = .ok q ∧ q.pa = some a ∧ q.pbmt = 0 ∧ s.InL1d i.h a (if dw then 8 else 4) c ∧ 2 ≤ c.st := ⟨ih 3 (fun t => { t with resv := some 0x80 }), i0, p0, 0x2008, true, 5, 7, true, false, pv 0x2008 8, pp 0x2008 8, 0x2008, ⟨0x80, 0, 3, false, 15, 0x0807060504030201⟩, by decide⟩
theorem witness_CoreAccesses_4 : ∃ (s : State) (i : Ins) (ps : List Piece) (va : Word) (n : Nat) (dest : Dest) (sg : Bool) (nf : Bool) (hyp : Bool) (hx : Bool) (data : BitVec 512), s.Live ∧ s.AtHand i ps ∧ 1 < n ∧ s.sys.cf i.h F.tlctl_MISALIGN_TRAP = 1 ∧ va.toNat % n ≠ 0 ∧ s.sys.masked i.h .load (s.sys.ctx i.h .load hyp hx) va.toNat = va.toNat ∧ s.sys.masked i.h .store (s.sys.ctx i.h .store hyp false) va.toNat = va.toNat := ⟨ih 3 id (fun s => s.put F.tlctl_MISALIGN_TRAP 1 0), i0, p0, 0x2001, 4, .x 5, true, false, false, false, 7, by decide⟩

theorem witness_CoreOrdering_0 : ∃ (s : State) (i : Ins) (ps : List Piece) (pr : BitVec 4) (su : BitVec 4) (tso : Bool), s.Live ∧ s.AtHand i ps := ⟨ih 3, i0, p0, 3, 12, false, by decide⟩
theorem witness_CoreOrdering_1 : ∃ (s : State) (i : Ins) (ps : List Piece) (a : Option Word) (b : Option Word), s.Live ∧ s.AtHand i ps := ⟨ih 3, i0, p0, none, some 5, by decide⟩
theorem witness_CoreOrdering_2 : ∃ (s : State) (i : Ins) (ps : List Piece) (va : Word) (p : Piece) (q : Piece) (a : Nat), s.Live ∧ s.AtHand i ps ∧ (s.sys.hart i.h).priv = 3 ∧ piecesOf (s.sys.masked i.h .store (s.sys.ctx i.h .store false false) va.toNat) 1 = [p] ∧ s.sys.translate i.h .load false false p = .ok q ∧ q.pa = some a ∧ (regionOf a).isMemory = true := ⟨ih 3, i0, p0, 0x2000, pv 0x2000 1, pp 0x2000 1, 0x2000, by decide⟩
theorem witness_CoreOrdering_3 : ∃ (s : State) (i : Ins) (ps : List Piece) (va : Word) (p : Piece) (q : Piece) (a : Nat), s.Live ∧ s.AtHand i ps ∧ (s.sys.hart i.h).priv = 3 ∧ piecesOf (s.sys.masked i.h .store (s.sys.ctx i.h .store false false) va.toNat) 1 = [p] ∧ s.sys.translate i.h .store false false p = .ok q ∧ q.pa = some a ∧ (regionOf a).isMemory = true := ⟨ih 3, i0, p0, 0x2000, pv 0x2000 1, pp 0x2000 1, 0x2000, by decide⟩
theorem witness_CoreOrdering_4 : ∃ (s : State) (i : Ins) (ps : List Piece) (k : Fin 3) (va : Word), s.Live ∧ s.AtHand i ps ∧ s.sys.bare i.h (s.sys.ctx i.h .load false false) = true ∧ s.sys.bare i.h (s.sys.ctx i.h .fetch false false) = true := ⟨ih 3, i0, p0, 2, 0x2000, by decide⟩
theorem witness_CoreOrdering_5 : ∃ (s : State) (h : Fin 256), s.Live ∧ s.sys.ready h = true ∧ (s.sys.hart h).priv = 3 ∧ (s.sys.hart h).virt = false ∧ (s.sys.cpwr h).req = 0 := ⟨ih 3, 0, by decide⟩
theorem witness_CoreOrdering_6 : ∃ (s : State) (h : Fin 256) (which : Fin 3) (v : Word), s.Live ∧ s.sys.ready h = true ∧ (s.sys.hart h).priv = 3 ∧ (s.sys.hart h).virt = false := ⟨ih 3, 0, 0, 0x8000000000000040, by decide⟩

theorem witness_CoreRetirement_0 : ∃ (s : State) (h : Fin 256) (u : Uop), s.Live ∧ s.sys.runs h = true ∧ (s.sys.hart h).rob = [u] ∧ u.pc = (s.sys.hart h).pc ∧ u.gaps = 0 ∧ u.exc = none ∧ u.done = true ∧ u.poison = false ∧ u.kind = .load ∧ u.sfb = [] ∧ u.walkLines = [] := ⟨ih 3 (fun t => { t with rob := [ld] }), 0, ld, by decide⟩
theorem witness_CoreRetirement_1 : ∃ (s : State) (h : Fin 256) (u : Uop) (cause : Fin 64) (tval : Word) (tval2 : Word), s.Live ∧ s.sys.runs h = true ∧ (s.sys.hart h).rob = [u] ∧ u.pc = (s.sys.hart h).pc ∧ u.gaps = 0 ∧ u.exc = some (cause.val, tval.toNat, tval2.toNat) ∧ cause.val ≠ 19 ∧ (s.sys.hart h).priv = 3 := ⟨ih 3 (fun t => { t with rob := [{ ld with exc := some (13, 0x2000, 0), done := false }] }), 0, { ld with exc := some (13, 0x2000, 0), done := false }, 13, 0x2000, 0, by decide⟩
theorem witness_CoreRetirement_2 : ∃ (s : State) (h : Fin 256) (cmp : Bool) (d : Fin 32) (v : BitVec 256) (ps : List Piece) (tgt : Word), s.Live ∧ s.AtHand ⟨h, (s.sys.hart h).pc, cmp, []⟩ ps ∧ (s.sys.hart h).wait = .run := ⟨ih 3, 0, false, 5, 99, p0, 0x4000, by decide⟩
theorem witness_CoreRetirement_3 : ∃ (s : State) (h : Fin 256) (a : Nat) (n : Nat) (data : Nat) (sent : Bool) (c : CLine) (l : List Senior), s.Live ∧ (s.sys.hart h).sq = .store [(a, n)] data 0 sent :: l ∧ s.InL1d h a n c ∧ 2 ≤ c.st ∧ (s.sys.hart h).rob = [] ∧ (s.sys.hart h).sfb = [] := ⟨ih 2 (fun t => { t with sq := [.store [(0x2004, 2)] 0xBEEF 0 false] }), 0, 0x2004, 2, 0xBEEF, false, ⟨0x80, 0, 2, false, 15, 0x0807060504030201⟩, [], by decide⟩
theorem witness_CoreRetirement_4 : ∃ (s : State) (h : Fin 256) (l : List Senior), s.Live ∧ (s.sys.hart h).sq = .fenceI :: l := ⟨ih 2 (fun t => { t with sq := [.fenceI] }), 0, [], by decide⟩
theorem witness_CoreRetirement_5 : ∃ (s : State) (h : Fin 256) (u : Uop) (k : BranchKind) (pt : Bool) (ptgt : Word) (taken : Bool) (tgt : Word) (l : List Uop), s.Live ∧ (s.sys.hart h).rob = u :: l ∧ u.kind = .branch k pt ptgt false ∧ u.exc = none ∧ l = [] := ⟨ih 2 (fun t => { t with rob := [ub (.branch .cond true 0x2000 false)] }), 0, ub (.branch .cond true 0x2000 false), .cond, true, 0x2000, false, 0x1004, [], by decide⟩
theorem witness_CoreRetirement_6 : ∃ (s : State) (h : Fin 256) (line : Line) (b : WcBuf), s.Live ∧ (s.sys.hart h).wcb = [b] ∧ b.line = line.toNat ∧ (s.sys.hart h).rob = [] := ⟨ih 2 (fun t => { t with wcb := [⟨0x90, 0xFF, 7⟩] }), 0, 0x90, ⟨0x90, 0xFF, 7⟩, by decide⟩

theorem witness_CoreFills_0 : ∃ (s : State) (f : Fill) (h : Fin 256) (line : Line), s.Live ∧ s.sys.msgs = [.fill f] ∧ f.h = h.val ∧ f.line = line.toNat ∧ f.kind = .own ∧ f.err = false ∧ f.got < 3 ∧ s.sys.alive h = true ∧ (s.sys.hart h).rob = [] := ⟨ms [.fill (fl .own 0)], fl .own 0, 0, 0x90, by decide⟩
theorem witness_CoreFills_1 : ∃ (s : State) (f : Fill) (h : Fin 256) (line : Line), s.Live ∧ s.sys.msgs = [.fill f] ∧ f.h = h.val ∧ f.line = line.toNat ∧ f.kind = .own ∧ f.err = false ∧ f.got = 3 ∧ s.sys.alive h = true ∧ s.sys.l1dOn h = true ∧ (s.sys.hart h).rob = [] ∧ (s.sys.hart h).own = [f.line] := ⟨ms [.fill (fl .own 3)] (fun t => { t with own := [0x90] }), fl .own 3, 0, 0x90, by decide⟩
theorem witness_CoreFills_2 : ∃ (s : State) (h : Fin 256) (line : Line) (tag : Nat) (c : CLine), s.Live ∧ s.sys.msgs = [.grant h.val line.toNat tag false] ∧ s.sys.alive h = true ∧ (s.sys.hart h).rob = [] ∧ lineIn (s.sys.hart h).l1d line.toNat = some c ∧ (s.sys.hart h).side = [] := ⟨ih 1 id (fun s => { s with msgs := [.grant 0 0x80 15 false] }), 0, 0x80, 15, ⟨0x80, 0, 1, false, 15, 0x0807060504030201⟩, by decide⟩
theorem witness_CoreFills_3 : ∃ (s : State) (h : Fin 256) (line : Line) (e : SfbEnt), s.Live ∧ s.sys.msgs = [.bindOk h.val line.toNat] ∧ (s.sys.hart h).rob = [] ∧ (s.sys.hart h).sfb = [e] ∧ e.line = line.toNat ∧ e.bindSent = true ∧ e.st = .spec ∧ e.dead = false ∧ e.instr = false := ⟨ms [.bindOk 0 0x90] (fun t => { t with sfb := [⟨0x90, .spec, false, 15, 0, false, 15, 0, ⟨0, 0, 0⟩, false, true, false, false, false⟩] }), 0, 0x90, ⟨0x90, .spec, false, 15, 0, false, 15, 0, ⟨0, 0, 0⟩, false, true, false, false, false⟩, by decide⟩
theorem witness_CoreFills_4 : ∃ (s : State) (h : Fin 256) (va : Word), s.Live ∧ s.sys.runs h = true ∧ s.sys.bare h (s.sys.ctx h .fetch false false) = false ∧ (s.sys.hart h).fwalk = [] ∧ (s.ctx.walk h .fetch (s.sys.ctx h .fetch false false) va.toNat).wait = false := ⟨pg 0xCF, 0, 0x5000, by decide +kernel⟩
theorem witness_CoreFills_5 : ∃ (s : State) (h : Fin 256) (va : Word) (w : WalkRes) (u : Nat × Nat × Nat) (l : List (Nat × Nat × Nat)) (c : CLine), s.Live ∧ (s.sys.hart h).fwalk = [(va.toNat / 4096, w)] ∧ w.upd = u :: l ∧ (s.sys.hart h).pc.toNat / 4096 = va.toNat / 4096 ∧ (s.sys.hart h).rob = [] ∧ (s.sys.hart h).sq = [] ∧ s.sys.l1dOn h = true ∧ lineIn (s.sys.hart h).l1d (u.1 / 64) = some c ∧ 2 ≤ c.st ∧ lineField c.data (u.1 % 64) 64 = u.2.1 := ⟨pg 0x8F (fun t => { t with fwalk := [(1, ⟨none, [], [], [], none, [(0x40000, 0x8F, 0x40)]⟩)] }), 0, 0x1000, ⟨none, [], [], [], none, [(0x40000, 0x8F, 0x40)]⟩, (0x40000, 0x8F, 0x40), [], ⟨0x1000, 0, 3, false, 15, 0x8F⟩, by decide⟩

theorem witness_CoreErrors_0 : ∃ (s : State) (h : Fin 256) (line : Line) (syn : Byte) (c : CLine), s.Live ∧ lineIn (s.sys.hart h).l1d line.toNat = some c := ⟨ih 3, 0, 0x80, 9, ⟨0x80, 0, 3, false, 15, 0x0807060504030201⟩, by decide⟩
theorem witness_CoreErrors_1 : ∃ (s : State) (h : Fin 256) (struct : Byte) (e : BitVec 16) (syn : Byte), s.Live ∧ s.sys.coreState h = psCs0 ∧ (s.sys.hart h).sq = [] := ⟨ih 3, 0, 1, 2, 3, by decide⟩
theorem witness_CoreErrors_2 : ∃ (s : State) (h : Fin 256) (bad : List Line) (st : LostSt), s.Live ∧ (s.sys.hart h).lost = some st ∧ s.sys.inWindow = true ∧ st.last < s.sys.ticks ∧ st.pos < 33792 ∧ (s.sys.hart h).l1d = [] ∧ (s.sys.hart h).l2 = [] := ⟨ih 3 (fun t => { t with l1d := [], lost := some ⟨512, 0, 3⟩ }) (fun s => { s with ticks := 5 }), 0, [], ⟨512, 0, 3⟩, by decide⟩
theorem witness_CoreErrors_3 : ∃ (s : State) (h : Fin 256) (st : LostSt), s.Live ∧ (s.sys.hart h).lost = some st ∧ 33792 ≤ st.pos ∧ st.last < s.sys.ticks ∧ 15 ≤ st.kennel := ⟨ih 3 (fun t => { t with lost := some ⟨33792, 0, 15⟩ }) (fun s => { s with ticks := 5 }), 0, ⟨33792, 0, 15⟩, by decide⟩

end C05

/-! ## Chapter 07 -/

namespace C07
/-- A state with TILE_CACHE_CTL of hart 0 set and its caches as given. -/
def cc (w : Word) (f : Hart → Hart := id) : State := ih 3 f (fun s => s.wr ⟨.TILE_CACHE_CTL, 0, 0⟩ w)
/-- A state whose slice 1 is in a state, with its part and a field changed. -/
def sl (st : Nat) (f : Slice → Slice := id) (g : Sys → Sys := id) : State :=
  mkS (fun s => g ((s.onSlice 1 f).put F.TILE_SLICE_STATUS_STATE st 1))
/-- A sector with two lines, the first dirty. -/
def sec : Sector := ⟨0, 0x20, 15, 3, 1, 0, [7, 8, 0, 0]⟩

theorem witness_CacheLevels_0 : ∃ (s : State) (req : Requester) (h : Fin 256) (lv : Fin 3) (v : Word), s.Takes (.cacheInv req h lv v) ∧ s.sys.lvState h lv = lvOff := ⟨cc 0, .tether 0, 0, 1, 0, by decide⟩
theorem witness_CacheLevels_1 : ∃ (s : State) (h : Fin 256) (lv : Fin 3), s.Live ∧ s.sys.lvState h lv = lvInvalidating := ⟨cc 0x1200, 0, 1, by decide⟩
theorem witness_CacheLevels_2 : ∃ (s : State) (req : Requester) (n : Fin 64) (c : Fin 4), s.Takes (.invDoneObserve req n (some c)) := ⟨cc 0x0800, .tether 0, 0, 0, by decide⟩
theorem witness_CacheLevels_3 : ∃ (s : State) (req : Requester) (n : Fin 64), s.Takes (.invDoneObserve req n none) := ⟨mkS (fun s => s.put F.TILE_SLICE_CTL_INV_DONE 1 1), .tether 0, 1, by decide⟩
theorem witness_CacheLevels_4 : ∃ (s : State) (req : Requester) (h : Fin 256) (lv : Fin 3) (v : Word), s.Takes (.cacheEnable req h lv v) ∧ s.sys.lvState h lv = lvOff ∧ fget v (lvBase lv + 1) 1 = 0 := ⟨cc 0x0800 (fun t => { t with seen := [1] }), .tether 0, 0, 1, 0, by decide⟩
theorem witness_CacheLevels_5 : ∃ (s : State) (req : Requester) (h : Fin 256) (lv : Fin 3) (v : Word), s.Takes (.cacheDisable req h lv v) ∧ s.sys.lvState h lv = lvOn := ⟨cc 0x0021, .tether 0, 0, 0, 0, by decide⟩
theorem witness_CacheLevels_6 : ∃ (s : State) (req : Requester) (h : Fin 256) (lv : Fin 2) (v : Word), s.Takes (.cacheFlush req h lv v) ∧ s.sys.lvState h (lv + 1) = lvOn ∧ fget v (lvBase (lv + 1)) 1 = 1 := ⟨cc 0x2100, .tether 0, 0, 0, 0x100, by decide⟩
theorem witness_CacheLevels_7 : ∃ (s : State) (h : Fin 256) (c : CLine) (d : CLine), s.Live ∧ (s.sys.lvState h 1 = lvDraining ∨ fget (s.sys.cacheCtl h) 10 1 = 1) ∧ (s.sys.hart h).l1d = [c] ∧ c.st = 3 ∧ lineIn (s.sys.hart h).l2 c.line = some d := ⟨cc 0x3000 (fun t => { t with l2 := [⟨0x80, 2, 2, false, 15, 1⟩] }), 0, ⟨0x80, 0, 3, false, 15, 0x0807060504030201⟩, ⟨0x80, 2, 2, false, 15, 1⟩, by decide⟩

theorem witness_SliceControl_0 : ∃ (s : State) (req : Requester) (n : Fin 64) (v : Word), s.Takes (.sliceEnable req n v) ∧ fget v 1 1 = 0 ∧ fget v 4 2 = 0 := ⟨sl 2 (fun t => { t with observed := true }) (fun s => s.put F.TILE_SLICE_CTL_INV_DONE 1 1), .tether 0, 1, 0, by decide⟩
theorem witness_SliceControl_1 : ∃ (s : State) (req : Requester) (n : Fin 64) (v : Word), s.Takes (.sliceDisable req n v) ∧ s.sys.slState n = slOn ∧ fget v 1 1 = 0 ∧ fget v 4 2 = 0 := ⟨sl 4, .tether 0, 1, 0, by decide⟩
theorem witness_SliceControl_2 : ∃ (s : State) (n : Fin 64), s.Live ∧ (s.sys.slState n = slClearing ∨ s.sys.slState n = slClearingData ∨ s.sys.slState n = slClearingT) := ⟨sl 1, 1, by decide⟩
theorem witness_SliceControl_3 : ∃ (s : State) (req : Requester) (n : Fin 64) (v : Word), s.Takes (.sliceRetire req n v) ∧ (s.sys.slState n = slReady ∨ s.sys.slState n = slOn ∨ s.sys.slState n = slDisabling) ∧ fget v 1 1 = 0 ∧ fget v 5 1 = 0 := ⟨sl 4, .tether 0, 1, 1, by decide⟩
theorem witness_SliceControl_4 : ∃ (s : State) (n : Fin 64), s.Live ∧ s.sys.slState n = slHold ∧ (s.sys.slice n).since < s.sys.ticks ∧ s.sys.enabledKennels.all (fun k => !(s.sys.conf.liveMask k).contains n.val || !((s.sys.conf.retire n).liveMask k).isEmpty) = true := ⟨sl 6 id (fun s => { s with ticks := 3 }), 1, by decide⟩
theorem witness_SliceControl_5 : ∃ (s : State) (n : Fin 64), s.Live ∧ s.sys.slState n = slDraining ∧ s.sys.inWindow = true ∧ (s.sys.slice n).since < s.sys.ticks ∧ 16 ≤ s.sys.rf F.TILE_SLICE_STATUS_DRAIN_SETS n ∧ 2048 ≤ s.sys.rf F.TILE_SLICE_STATUS_DRAIN_SF n ∧ (s.sys.slice n).sectors = [] ∧ (s.sys.slice n).sf = [] := ⟨sl 7 id (fun s => { (s.put F.TILE_SLICE_STATUS_DRAIN_SETS 1536 1).put F.TILE_SLICE_STATUS_DRAIN_SF 196608 1 with ticks := 3 }), 1, by decide⟩
theorem witness_SliceControl_6 : ∃ (s : State) (n : Fin 64), s.Live ∧ s.sys.slState n = slDraining ∧ s.sys.rf F.TILE_SLICE_STATUS_DRAIN_SETS n = 0 ∧ s.sys.rf F.TILE_SLICE_STATUS_DRAIN_SF n = 0 ∧ (s.sys.slice n).since < s.sys.ticks := ⟨sl 7 id (fun s => { s with ticks := 3 }), 1, by decide⟩
theorem witness_SliceControl_7 : ∃ (s : State) (req : Requester) (n : Fin 64) (v : Word), s.Takes (.sliceBist req n v) ∧ s.sys.slState n = slRetired := ⟨sl 8, .tether 0, 1, 0, by decide⟩
theorem witness_SliceControl_8 : ∃ (s : State) (n : Fin 64) (r : BitVec 6) (bad : Bool), s.Live ∧ s.sys.slState n = slTesting := ⟨sl 9, 1, 3, false, by decide⟩
theorem witness_SliceControl_9 : ∃ (s : State) (n : Fin 64), s.Live ∧ s.sys.slState n = slDisabling ∧ (s.sys.slice n).sectors = [] := ⟨sl 5, 1, by decide⟩
theorem witness_SliceControl_10 : ∃ (s : State) (n : Fin 64) (line : Line) (e : Sector), s.Live ∧ s.sys.sector n line.toNat = some e := ⟨sl 4 (fun t => { t with sectors := [sec] }), 1, 0x80, sec, by decide⟩

end C07

/-! ## Chapter 08 -/

namespace C08
/-- A sector with lines 0x80 and 0x81, the first dirty. -/
def sec : Sector := ⟨0, 0x20, 15, 3, 1, 0, [7, 8, 0, 0]⟩
/-- Slice 1 ON, page 2 owned by kennel 15, with a set of channel 0, a part and a field changed. -/
def hm (f : Slice → Slice := id) (g : Sys → Sys := id) : State :=
  let s := mkS (fun s => g ((({ s with conf := { s.conf with ilv := [⟨1, false, 1, 0, 1, 0, 2 ^ 30, 0⟩] } } : Sys).onSlice 1 f).put F.TILE_SLICE_STATUS_STATE 4 1))
  { s with mem := { s.mem with dram := [⟨2, 0x79⟩] } }
/-- The same with that sector. -/
def hc (f : Slice → Slice := id) (g : Sys → Sys := id) : State := hm (fun t => f { t with sectors := [sec] }) g
/-- Line 0x80 held by core 4 alone, or shared by tile 0. -/
def ex4 : SfEnt := ⟨0x80, 15, false, 1, 4, 0, 0, false⟩
def sh0 : SfEnt := ⟨0x80, 15, false, 2, 0, 1, 0, false⟩
/-- An engine bound to a channel of kennel 15, and a request by it. -/
def rq (k : ReqKind) (c : Nat := 0) : Req := ⟨k, 0x80, .core c, 15, false, 0, 0, 0, false, false, ⟨0, 0, 0⟩, false, .swap, false⟩
/-- A state with messages on their way. -/
def ms (l : List Msg) (g : Sys → Sys := id) : State := ih 3 id (fun s => g { s with msgs := l })
/-- A transaction of line 0x80 that waits for core 0's answer. -/
def tx (st : TxnSt) (k : ReqKind) (w : List Holder) : Txn := ⟨rq k 4, st, .general, w, none, none, 0x79, true⟩

theorem witness_HomeReads_0 : ∃ (s : State) (n : Fin 64) (h : Fin 256) (line : Line) (first : Fin 4) (b : Nat) (d : BitVec 512) (p : Bool), s.Serves (.rdShared n (.core h) line first) n b ∧ s.sys.sfGet n line.toNat = none ∧ s.sys.llcLine n line.toNat = some (d, p) := ⟨hc, 1, 0, 0x80, 2, 0x79, 7, false, by decide⟩
theorem witness_HomeReads_1 : ∃ (s : State) (n : Fin 64) (h : Fin 256) (line : Line) (first : Fin 4) (b : Nat) (d : BitVec 512) (p : Bool), s.Serves (.rdOwn n (.core h) line first) n b ∧ s.sys.sfGet n line.toNat = none ∧ s.sys.llcLine n line.toNat = some (d, p) := ⟨hc (fun t => { t with resv := [(5, 0x80), (6, 0x81)] }), 1, 0, 0x80, 2, 0x79, 7, false, by decide⟩
theorem witness_HomeReads_2 : ∃ (s : State) (n : Fin 64) (h : Fin 256) (line : Line) (first : Fin 4) (b : Nat) (d : BitVec 512) (p : Bool), s.Serves (.rdSpec n (.core h) line first) n b ∧ (s.sys.sfGet n line.toNat).all (fun e => e.st == 2) = true ∧ s.sys.llcLine n line.toNat = some (d, p) := ⟨hc (fun t => { t with sf := [sh0] }), 1, 4, 0x80, 2, 0x79, 7, false, by decide⟩
theorem witness_HomeReads_3 : ∃ (s : State) (n : Fin 64) (h : Fin 256) (line : Line) (b : Nat) (d : BitVec 512) (p : Bool), s.Serves (.pfRd n (.core h) line) n b ∧ s.sys.sfGet n line.toNat = none ∧ s.sys.llcLine n line.toNat = some (d, p) := ⟨hc, 1, 0, 0x80, 0x79, 7, false, by decide⟩
theorem witness_HomeReads_4 : ∃ (s : State) (n : Fin 64) (h : Fin 256) (line : Line) (b : Nat) (d : BitVec 512) (p : Bool), s.Serves (.pfWr n (.core h) line) n b ∧ s.sys.sfGet n line.toNat = none ∧ s.sys.llcLine n line.toNat = some (d, p) := ⟨hc, 1, 0, 0x80, 0x79, 7, false, by decide⟩
theorem witness_HomeReads_5 : ∃ (s : State) (n : Fin 64) (h : Fin 256) (line : Line) (b : Nat) (e : SfEnt), s.Serves (.pfRd n (.core h) line) n b ∧ s.HeldBy n (s.asked (.pfRd n (.core h) line)).1 e := ⟨hc (fun t => { t with sf := [ex4] }), 1, 0, 0x80, 0x79, ex4, by decide⟩
theorem witness_HomeReads_6 : ∃ (s : State) (n : Fin 64) (w : ReqSrc) (line : Line) (b : Nat) (d : BitVec 512) (p : Bool), s.Serves (.ncRd n w line) n b ∧ (s.sys.sfGet n line.toNat).all (fun e => e.st == 2) = true ∧ s.sys.llcLine n line.toNat = some (d, p) := ⟨hc, 1, .derrum 0, 0x80, 0x79, 7, false, by decide⟩
theorem witness_HomeReads_7 : ∃ (s : State) (n : Fin 64) (w : ReqSrc) (line : Line) (b : Nat) (d : BitVec 512) (p : Bool), s.Serves (.devRd n w line) n b ∧ (s.sys.sfGet n line.toNat).all (fun e => e.st == 2) = true ∧ s.sys.llcLine n line.toNat = some (d, p) := ⟨hc id (fun s => { s with regionNow := [((0, 3), (0xAF00000000000000, 0x4000))] }), 1, .peer 15 false true, 0x80, 0x79, 7, false, by decide⟩
theorem witness_HomeReads_8 : ∃ (s : State) (n : Fin 64) (h : Fin 256) (line : Line) (b : Nat) (d : BitVec 512) (p : Bool), s.Serves (.ncLr n (.core h) line) n b ∧ (s.sys.sfGet n line.toNat).all (fun e => e.st == 2) = true ∧ s.sys.llcLine n line.toNat = some (d, p) := ⟨hc (fun t => { t with resv := [(0, 0x90), (6, 0x81)] }), 1, 0, 0x80, 0x79, 7, false, by decide⟩
theorem witness_HomeReads_9 : ∃ (s : State) (n : Fin 64) (h : Fin 256) (line : Line) (first : Fin 4) (b : Nat) (e : SfEnt), s.Serves (.rdShared n (.core h) line first) n b ∧ s.HeldBy n (s.asked (.rdShared n (.core h) line first)).1 e := ⟨hc (fun t => { t with sf := [ex4] }), 1, 0, 0x80, 0, 0x79, ex4, by decide⟩
theorem witness_HomeReads_10 : ∃ (s : State) (n : Fin 64) (h : Fin 256) (line : Line) (first : Fin 4) (b : Nat) (e : SfEnt), s.Serves (.rdOwn n (.core h) line first) n b ∧ s.HeldBy n (s.asked (.rdOwn n (.core h) line first)).1 e := ⟨hc (fun t => { t with sf := [ex4] }), 1, 0, 0x80, 0, 0x79, ex4, by decide⟩
theorem witness_HomeReads_11 : ∃ (s : State) (n : Fin 64) (w : ReqSrc) (line : Line) (b : Nat) (e : SfEnt), s.Serves (.ncRd n w line) n b ∧ s.HeldBy n (s.asked (.ncRd n w line)).1 e := ⟨hc (fun t => { t with sf := [ex4] }), 1, .derrum 0, 0x80, 0x79, ex4, by decide⟩
theorem witness_HomeReads_12 : ∃ (s : State) (n : Fin 64) (h : Fin 256) (line : Line) (first : Fin 4) (b : Nat) (m : Nat) (ca : Nat), s.Serves (.rdShared n (.core h) line first) n b ∧ s.sys.sfGet n line.toNat = none ∧ s.sys.llcLine n line.toNat = none ∧ s.sys.foreign line.toNat = false ∧ s.sys.conf.locate (64 * line.toNat) = some (m, ca, false) ∧ (below 16).all (fun c => s.sys.readsAt n c == 0) = true := ⟨hm, 1, 0, 0x80, 0, 0x79, 0, 0x2000, by decide⟩

theorem witness_HomeGrants_0 : ∃ (s : State) (n : Fin 64) (h : Fin 256) (line : Line) (b : Nat) (e : SfEnt), s.Serves (.upgrade n (.core h) line) n b ∧ s.sys.sfGet n line.toNat = some e ∧ e.st = 2 ∧ bit e.tiles.toNat (h / 4) = true := ⟨hc (fun t => { t with sf := [sh0] }), 1, 0, 0x80, 0x79, sh0, by decide⟩
theorem witness_HomeGrants_1 : ∃ (s : State) (n : Fin 64) (h : Fin 256) (line : Line) (b : Nat) (d : BitVec 512) (p : Bool), s.Serves (.upgrade n (.core h) line) n b ∧ s.sys.sfGet n line.toNat = none ∧ s.sys.llcLine n line.toNat = some (d, p) := ⟨hc, 1, 0, 0x80, 0x79, 7, false, by decide⟩
theorem witness_HomeGrants_2 : ∃ (s : State) (n : Fin 64) (h : Fin 256) (line : Line) (b : Nat), s.Serves (.ownZero n (.core h) line) n b ∧ (s.sys.sfGet n line.toNat).all (fun e => e.st == 1 && e.holders == [.core h]) = true := ⟨hc, 1, 0, 0x80, 0x79, by decide⟩
theorem witness_HomeGrants_3 : ∃ (s : State) (n : Fin 64) (h : Fin 256) (line : Line) (token : Token) (b : Nat), s.Serves (.bind n (.core h) line token) n b ∧ (s.sys.sfGet n line.toNat).all (fun e => e.st == 2) = true ∧ s.sys.tokenOk n (s.asked (.bind n (.core h) line token)).1 = true := ⟨hc, 1, 4, 0x80, ⟨1, 0, 0⟩, 0x79, by decide⟩
theorem witness_HomeGrants_4 : ∃ (s : State) (n : Fin 64) (h : Fin 256) (line : Line) (token : Token) (b : Nat) (d : BitVec 512) (p : Bool), s.Serves (.bind n (.core h) line token) n b ∧ s.sys.sfGet n line.toNat = none ∧ s.sys.tokenOk n (s.asked (.bind n (.core h) line token)).1 = false ∧ s.sys.llcLine n line.toNat = some (d, p) := ⟨hc (fun t => { t with session := 3 }), 1, 4, 0x80, ⟨1, 2, 0⟩, 0x79, 7, false, by decide⟩
theorem witness_HomeGrants_5 : ∃ (s : State) (n : Fin 64) (h : Fin 256) (line : Line) (data : BitVec 512) (dirty : Bool) (poison : Bool) (b : Nat), s.Serves (.offer n (.core h) line data dirty poison) n b ∧ (s.sys.sector n line.toNat).map (fun e => (e.data.length, bit e.v (line.toNat % 4))) = some (4, false) ∧ (s.sys.sfGet n line.toNat).all (fun e => e.st == 1 && e.owner == h.val) = true := ⟨hc (fun t => { t with sectors := [{ sec with v := 2, d := 0 }], sf := [ex4] }), 1, 4, 0x80, 9, true, false, 0x79, by decide⟩
theorem witness_HomeGrants_6 : ∃ (s : State) (n : Fin 64) (h : Fin 256) (line : Line) (b : Nat), s.Serves (.cleanDrop n (.core h) line) n b := ⟨hc (fun t => { t with sf := [ex4] }), 1, 4, 0x80, 0x79, by decide⟩

theorem witness_HomeWrites_0 : ∃ (s : State) (n : Fin 64) (w : ReqSrc) (line : Line) (b : Nat), s.Serves (.cmoCheck n w line) n b := ⟨hc, 1, .core 0, 0x80, 0x79, by decide⟩
theorem witness_HomeWrites_1 : ∃ (s : State) (n : Fin 64) (w : ReqSrc) (line : Line) (b : Nat), s.Serves (.cmoInval n w line) n b ∧ s.sys.sfGet n line.toNat = none := ⟨hc, 1, .core 0, 0x80, 0x79, by decide⟩
theorem witness_HomeWrites_2 : ∃ (s : State) (n : Fin 64) (w : ReqSrc) (line : Line) (data : Option (BitVec 512)) (b : Nat) (m : Nat) (ca : Nat) (e : Sector), s.Serves (.cmoFlush n w line data) n b ∧ s.sys.sfGet n line.toNat = none ∧ (s.asked (.cmoFlush n w line data)).1.dirty = false ∧ s.sys.sector n line.toNat = some e ∧ bit e.d (line.toNat % 4) = true ∧ s.sys.conf.locate (64 * line.toNat) = some (m, ca, false) := ⟨hc, 1, .core 0, 0x80, none, 0x79, 0, 0x2000, sec, by decide⟩
theorem witness_HomeWrites_3 : ∃ (s : State) (n : Fin 64) (w : ReqSrc) (line : Line) (data : Option (BitVec 512)) (b : Nat), s.Serves (.cmoFlush n w line data) n b ∧ s.sys.sfGet n line.toNat = none ∧ (s.asked (.cmoFlush n w line data)).1.dirty = false ∧ (s.sys.sector n line.toNat).all (fun e => !bit e.d (line.toNat % 4)) = true := ⟨hc, 1, .core 0, 0x81, none, 0x79, by decide⟩
theorem witness_HomeWrites_4 : ∃ (s : State) (n : Fin 64) (w : ReqSrc) (line : Line) (data : Option (BitVec 512)) (b : Nat) (m : Nat) (ca : Nat) (e : Sector), s.Serves (.cmoClean n w line data) n b ∧ s.sys.sfGet n line.toNat = none ∧ (s.asked (.cmoClean n w line data)).1.dirty = false ∧ s.sys.sector n line.toNat = some e ∧ bit e.d (line.toNat % 4) = true ∧ bit e.v (line.toNat % 4) = true ∧ e.data.length = 4 ∧ s.sys.conf.locate (64 * line.toNat) = some (m, ca, false) := ⟨hc, 1, .core 0, 0x80, none, 0x79, 0, 0x2000, sec, by decide⟩
theorem witness_HomeWrites_5 : ∃ (s : State) (n : Fin 64) (h : Fin 256) (line : Line) (data : BitVec 512) (mask : BitVec 64) (b : Nat) (d : BitVec 512) (p : Bool), s.Serves (.ncWr n (.core h) line data mask) n b ∧ s.sys.sfGet n line.toNat = none ∧ s.sys.llcLine n line.toNat = some (d, p) ∧ (s.asked (.ncWr n (.core h) line data mask)).1.mask ≠ BitVec.allOnes 64 ∧ (s.sys.sector n line.toNat).all (fun e => e.data.length == 4) = true := ⟨hc, 1, 0, 0x80, 0xFFFF, 2, 0x79, 7, false, by decide⟩
theorem witness_HomeWrites_6 : ∃ (s : State) (n : Fin 64) (h : Fin 256) (line : Line) (data : BitVec 512) (mask : BitVec 64) (b : Nat) (m : Nat) (ca : Nat), s.Serves (.ncWr n (.core h) line data mask) n b ∧ s.sys.sfGet n line.toNat = none ∧ (s.asked (.ncWr n (.core h) line data mask)).1.mask = BitVec.allOnes 64 ∧ s.sys.conf.locate (64 * line.toNat) = some (m, ca, false) := ⟨hc, 1, 0, 0x80, 0xFFFF, BitVec.allOnes 64, 0x79, 0, 0x2000, by decide⟩
theorem witness_HomeWrites_7 : ∃ (s : State) (n : Fin 64) (w : ReqSrc) (line : Line) (data : BitVec 512) (mask : BitVec 64) (b : Nat) (d : BitVec 512) (p : Bool), s.Serves (.devWr n w line data mask) n b ∧ s.sys.sfGet n line.toNat = none ∧ s.sys.llcLine n line.toNat = some (d, p) ∧ (s.asked (.devWr n w line data mask)).1.mask ≠ BitVec.allOnes 64 ∧ (s.sys.sector n line.toNat).all (fun e => e.data.length == 4) = true := ⟨hc id (fun s => { s with regionNow := [((0, 3), (0x9F00000000000000, 0x4000))] }), 1, .peer 15 false true, 0x80, 0xFFFF, 2, 0x79, 7, false, by decide⟩
theorem witness_HomeWrites_8 : ∃ (s : State) (n : Fin 64) (h : Fin 256) (line : Line) (op : AmoOp) (dword : Bool) (data : BitVec 512) (mask : BitVec 64) (b : Nat) (d : BitVec 512) (p : Bool), s.Serves (.ncAmo n (.core h) line op dword data mask) n b ∧ s.sys.sfGet n line.toNat = none ∧ s.sys.llcLine n line.toNat = some (d, p) ∧ (s.asked (.ncAmo n (.core h) line op dword data mask)).1.mask ≠ BitVec.allOnes 64 ∧ (s.sys.sector n line.toNat).all (fun e => e.data.length == 4) = true := ⟨hc, 1, 0, 0x80, .add, false, 0x300000000, 0xF0, 0x79, 7, false, by decide⟩
theorem witness_HomeWrites_9 : ∃ (s : State) (n : Fin 64) (h : Fin 256) (line : Line) (data : BitVec 512) (mask : BitVec 64) (b : Nat) (d : BitVec 512) (p : Bool), s.Serves (.ncSc n (.core h) line data mask) n b ∧ s.sys.sfGet n line.toNat = none ∧ s.sys.llcLine n line.toNat = some (d, p) ∧ (s.sys.slice n).resv.contains (h.val, line.toNat) = true ∧ (s.asked (.ncSc n (.core h) line data mask)).1.mask ≠ BitVec.allOnes 64 ∧ (s.sys.sector n line.toNat).all (fun e => e.data.length == 4) = true := ⟨hc (fun t => { t with resv := [(0, 0x80), (5, 0x80)] }), 1, 0, 0x80, 0xFFFF, 2, 0x79, 7, false, by decide⟩
theorem witness_HomeWrites_10 : ∃ (s : State) (n : Fin 64) (h : Fin 256) (line : Line) (data : BitVec 512) (mask : BitVec 64) (b : Nat), s.Serves (.ncSc n (.core h) line data mask) n b ∧ (s.sys.slice n).resv.contains (h.val, line.toNat) = false := ⟨hc (fun t => { t with resv := [(0, 0x81), (5, 0x80)] }), 1, 0, 0x80, 0xFFFF, 2, 0x79, by decide⟩

theorem witness_HolderSnoops_0 : ∃ (s : State) (h : Fin 256) (line : Line) (n : Nat) (rest : List Msg) (c : CLine), s.Live ∧ takeMsg (Msg.isSnoop .share (.core h) line.toNat) s.sys.msgs = some (.snoop n .share line.toNat (.core h), rest) ∧ s.sys.fillDue h line.toNat = false ∧ s.sys.offerHeld h line.toNat = none ∧ (s.sys.hart h).anyCopy line.toNat = some c ∧ c.poison = false ∧ 1 ≤ (s.sys.hart h).lineSt line.toNat := ⟨ms [.holdNotice 1 1, .snoop 3 .share 0x80 (.core 0)], 0, 0x80, 3, [.holdNotice 1 1], ⟨0x80, 0, 3, false, 15, 0x0807060504030201⟩, by decide⟩
theorem witness_HolderSnoops_1 : ∃ (s : State) (h : Fin 256) (line : Line) (n : Nat) (rest : List Msg) (c : CLine), s.Live ∧ takeMsg (Msg.isSnoop .inv (.core h) line.toNat) s.sys.msgs = some (.snoop n .inv line.toNat (.core h), rest) ∧ s.sys.fillDue h line.toNat = false ∧ s.sys.offerHeld h line.toNat = none ∧ (s.sys.hart h).anyCopy line.toNat = some c ∧ 1 ≤ (s.sys.hart h).lineSt line.toNat ∧ (s.sys.hart h).rob = [] := ⟨ms [.snoop 3 .inv 0x80 (.core 0)] (fun s => s.onHart 0 (fun t => { t with resv := some 0x80 })), 0, 0x80, 3, [], ⟨0x80, 0, 3, false, 15, 0x0807060504030201⟩, by decide⟩
theorem witness_HolderSnoops_2 : ∃ (s : State) (h : Fin 256) (line : Line) (n : Nat) (rest : List Msg), s.Live ∧ takeMsg (Msg.isSnoop .inv (.core h) line.toNat) s.sys.msgs = some (.snoop n .inv line.toNat (.core h), rest) ∧ s.sys.fillDue h line.toNat = false ∧ s.sys.offerHeld h line.toNat = none ∧ (s.sys.hart h).lineSt line.toNat = 0 := ⟨ms [.snoop 3 .inv 0x81 (.core 0)], 0, 0x81, 3, [], by decide⟩
theorem witness_HolderSnoops_3 : ∃ (s : State) (e : Fin 8) (line : Line) (n : Nat) (rest : List Msg), s.Live ∧ takeMsg (Msg.isSnoop .inv (.engine e) line.toNat) s.sys.msgs = some (.snoop n .inv line.toNat (.engine e), rest) := ⟨ms [.snoop 3 .inv 0x80 (.engine 2)] (fun s => { s with staging := [(2, [⟨0x80, true, 5, false⟩])] }), 2, 0x80, 3, [], by decide⟩
theorem witness_HolderSnoops_4 : ∃ (s : State) (h : Fin 256) (line : Line) (n : Nat) (rest : List Msg) (c : CLine), s.Live ∧ takeMsg (Msg.isSnoop .peek (.core h) line.toNat) s.sys.msgs = some (.snoop n .peek line.toNat (.core h), rest) ∧ s.sys.fillDue h line.toNat = false ∧ s.sys.offerHeld h line.toNat = none ∧ (s.sys.hart h).anyCopy line.toNat = some c ∧ 1 ≤ (s.sys.hart h).lineSt line.toNat := ⟨ms [.snoop 3 .peek 0x80 (.core 0)], 0, 0x80, 3, [], ⟨0x80, 0, 3, false, 15, 0x0807060504030201⟩, by decide⟩
theorem witness_HolderSnoops_5 : ∃ (s : State) (h : Fin 256) (line : Line) (n : Nat) (rest : List Msg) (c : CLine), s.Live ∧ takeMsg (Msg.isSnoop .clean (.core h) line.toNat) s.sys.msgs = some (.snoop n .clean line.toNat (.core h), rest) ∧ s.sys.fillDue h line.toNat = false ∧ s.sys.offerHeld h line.toNat = none ∧ (s.sys.hart h).anyCopy line.toNat = some c ∧ 1 ≤ (s.sys.hart h).lineSt line.toNat ∧ (s.sys.hart h).side = [] := ⟨ms [.snoop 3 .clean 0x80 (.core 0)], 0, 0x80, 3, [], ⟨0x80, 0, 3, false, 15, 0x0807060504030201⟩, by decide⟩

theorem witness_SnoopAnswers_0 : ∃ (s : State) (n : Fin 64) (h : Fin 256) (g : Fin 256) (line : Line) (rest : List Msg) (t0 : Txn) (e : Sector) (d : BitVec 512), s.Live ∧ takeMsg (Msg.isAck n (.core h) line.toNat Answer.isData) s.sys.msgs = some (.ack n line.toNat (.core h) (.data d), rest) ∧ (s.sys.slice n).txns = [t0] ∧ t0.req.kind = .rdShared ∧ t0.req.line = line.toNat ∧ t0.req.who = .core g ∧ t0.st = .snoop ∧ t0.waits = [.core h] ∧ t0.offerOf = none ∧ h ≠ g ∧ s.sys.sfGet n line.toNat = some (sfEx line.toNat t0.req.kennel false (.core h)) ∧ s.sys.sector n line.toNat = some e ∧ (s.sys.slice n).sf.length ≤ 16 ∧ e.data.length = 4 ∧ e.p = 0 := ⟨hc (fun t => { t with sf := [ex4], txns := [{ tx .snoop .rdShared [.core 4] with req := rq .rdShared 0 }] }) (fun s => { s with msgs := [.ack 1 0x80 (.core 4) (.data 9)] }), 1, 4, 0, 0x80, [], { tx .snoop .rdShared [.core 4] with req := rq .rdShared 0 }, sec, 9, by decide⟩
theorem witness_SnoopAnswers_1 : ∃ (s : State) (n : Fin 64) (h : Fin 256) (g : Fin 256) (line : Line) (rest : List Msg) (t0 : Txn) (e : SfEnt) (d : BitVec 512) (p : Bool), s.Live ∧ takeMsg (Msg.isAck n (.core h) line.toNat (· == .clean)) s.sys.msgs = some (.ack n line.toNat (.core h) .clean, rest) ∧ (s.sys.slice n).txns = [t0] ∧ t0.req.kind = .rdShared ∧ t0.req.line = line.toNat ∧ t0.req.who = .core g ∧ t0.st = .snoop ∧ t0.waits = [.core h] ∧ t0.offerOf = none ∧ t0.got = none ∧ s.sys.sfGet n line.toNat = some e ∧ e.st = 2 ∧ (s.sys.slice n).sf.length ≤ 16 ∧ s.sys.llcLine n line.toNat = some (d, p) := ⟨hc (fun t => { t with sf := [sh0], txns := [tx .snoop .rdShared [.core 0]] }) (fun s => { s with msgs := [.ack 1 0x80 (.core 0) .clean] }), 1, 0, 4, 0x80, [], tx .snoop .rdShared [.core 0], sh0, 7, false, by decide⟩
theorem witness_SnoopAnswers_2 : ∃ (s : State) (n : Fin 64) (h : Fin 256) (g : Fin 256) (line : Line) (rest : List Msg) (t0 : Txn) (d : BitVec 512) (p : Bool), s.Live ∧ takeMsg (Msg.isAck n (.core h) line.toNat (· == .none)) s.sys.msgs = some (.ack n line.toNat (.core h) .none, rest) ∧ (s.sys.slice n).txns = [t0] ∧ t0.req.kind = .rdOwn ∧ t0.req.line = line.toNat ∧ t0.req.who = .core g ∧ t0.st = .snoop ∧ t0.waits = [.core h] ∧ t0.offerOf = none ∧ t0.got = none ∧ (s.sys.sfGet n line.toNat).isSome = true ∧ (s.sys.slice n).sf.length ≤ 16 ∧ s.sys.llcLine n line.toNat = some (d, p) := ⟨hc (fun t => { t with sf := [sh0], txns := [tx .snoop .rdOwn [.core 0]] }) (fun s => { s with msgs := [.ack 1 0x80 (.core 0) .none] }), 1, 0, 4, 0x80, [], tx .snoop .rdOwn [.core 0], 7, false, by decide⟩
theorem witness_SnoopAnswers_3 : ∃ (s : State) (n : Fin 64) (h : Fin 256) (line : Line) (rest : List Msg) (t0 : Txn) (u : Holder) (us : List Holder), s.Live ∧ takeMsg (Msg.isAck n (.core h) line.toNat (· == .none)) s.sys.msgs = some (.ack n line.toNat (.core h) .none, rest) ∧ (s.sys.slice n).txns = [t0] ∧ t0.req.line = line.toNat ∧ t0.st = .snoop ∧ t0.waits = .core h :: u :: us := ⟨hc (fun t => { t with sf := [sh0], txns := [tx .snoop .rdOwn [.core 0, .core 1]] }) (fun s => { s with msgs := [.ack 1 0x80 (.core 0) .none] }), 1, 0, 0x80, [], tx .snoop .rdOwn [.core 0, .core 1], .core 1, [], by decide⟩
theorem witness_SnoopAnswers_4 : ∃ (s : State) (n : Fin 64) (h : Fin 256) (g : Fin 256) (line : Line) (rest : List Msg) (t0 : Txn), s.Live ∧ takeMsg (Msg.isAck n (.core h) line.toNat (· == .poison)) s.sys.msgs = some (.ack n line.toNat (.core h) .poison, rest) ∧ (s.sys.slice n).txns = [t0] ∧ t0.req.kind = .ncRd ∧ t0.req.line = line.toNat ∧ t0.req.who = .core g ∧ t0.st = .snoop ∧ t0.waits = [.core h] ∧ t0.offerOf = none ∧ (s.sys.sector n line.toNat).isSome = true := ⟨hc (fun t => { t with sf := [ex4], txns := [{ tx .snoop .ncRd [.core 4] with req := rq .ncRd 0 }] }) (fun s => { s with msgs := [.ack 1 0x80 (.core 4) .poison] }), 1, 4, 0, 0x80, [], { tx .snoop .ncRd [.core 4] with req := rq .ncRd 0 }, by decide⟩
theorem witness_SnoopAnswers_5 : ∃ (s : State) (n : Fin 64) (h : Fin 256) (line : Line) (rest : List Msg) (t0 : Txn), s.Live ∧ takeMsg (Msg.isAck n (.core h) line.toNat (· == .offered)) s.sys.msgs = some (.ack n line.toNat (.core h) .offered, rest) ∧ (s.sys.slice n).txns = [t0] ∧ t0.req.line = line.toNat ∧ t0.st = .snoop ∧ t0.waits = [.core h] := ⟨hc (fun t => { t with sf := [ex4], txns := [tx .snoop .rdOwn [.core 4]] }) (fun s => { s with msgs := [.ack 1 0x80 (.core 4) .offered] }), 1, 4, 0x80, [], tx .snoop .rdOwn [.core 4], by decide⟩
theorem witness_SnoopAnswers_6 : ∃ (s : State) (n : Fin 64) (h : Fin 256) (line : Line) (m : Fin 16) (t0 : Txn) (d : MDone), s.Live ∧ (s.sys.slice n).txns = [t0] ∧ t0.req.kind = .rdOwn ∧ t0.req.line = line.toNat ∧ t0.req.who = .core h ∧ t0.st = .memory ∧ s.sys.sfGet n line.toNat = none ∧ (s.sys.slice n).sf.length < 16 ∧ (below 16).find? (fun m => (s.sys.chan m).done.any (fun d => d.slice = n.val ∧ d.line = line.toNat)) = some m.val ∧ (s.sys.chan m).done = [d] ∧ d.slice = n.val ∧ d.line = line.toNat ∧ d.err = false := ⟨hm (fun t => { t with txns := [tx .memory .rdOwn []] }) (fun s => s.onChan 3 (fun c => { c with done := [⟨0x80, 1, 5, false, false, true⟩] })), 1, 4, 0x80, 3, tx .memory .rdOwn [], ⟨0x80, 1, 5, false, false, true⟩, by decide⟩
theorem witness_SnoopAnswers_7 : ∃ (s : State) (n : Fin 64) (line : Line), s.Live ∧ (s.sys.slice n).txns.any (fun t => t.req.line = line.toNat ∧ t.st = .snoop ∧ !t.waits.isEmpty) = true := ⟨hm (fun t => { t with txns := [tx .snoop .rdOwn [.core 0]] }), 1, 0x80, by decide⟩

theorem witness_MeshRetries_0 : ∃ (s : State) (n : Fin 64) (i : Fin 80) (r : Req) (rest : List Msg), s.Live ∧ takeMsg (Msg.isRetry n i) s.sys.msgs = some (.retry n r, rest) := ⟨ms [.retry 1 (rq .rdOwn)], 1, 0, rq .rdOwn, [], by decide⟩
theorem witness_MeshRetries_1 : ∃ (s : State) (n : Fin 64) (k : Fin 16) (i : Fin 80) (rest : List Nat) (r : Req), s.Live ∧ Bank.getD (s.sys.slice n).wake k.val [] = i.val :: rest ∧ (64 ≤ i.val ∨ s.sys.roomFor n ⟨.rdShared, 0, .core (4 * i), k, false, 0, 0, 0, false, false, ⟨0, 0, 0⟩, false, .swap, false⟩ = true) ∧ (s.sys.stop i).retried.find? (fun p => p.1 = n.val ∧ p.2.kennel = k.val) = some (n.val, r) := ⟨hm (fun t => { t with wake := [(15, [2, 3])] }) (fun s => s.onStop 2 (fun t => { t with retried := [(1, rq .rdOwn 8)] })), 1, 15, 2, [3], rq .rdOwn 8, by decide⟩
theorem witness_MeshRetries_2 : ∃ (s : State) (n : Fin 64) (k : Fin 16) (i : Nat), s.Live ∧ (s.sys.slice n).goHeld.find? (fun g => g.2 = k.val) = some (i, k.val) ∧ s.sys.msgs = [] := ⟨hm (fun t => { t with goHeld := [(2, 15)] }), 1, 15, 2, by decide⟩
theorem witness_MeshRetries_3 : ∃ (s : State) (n : Fin 64) (i : Fin 80) (r : Req) (rest : List Msg), s.Live ∧ takeMsg (Msg.isRetryDest n i) s.sys.msgs = some (.retryDest n r, rest) := ⟨ms [.retryDest 1 (rq .rdOwn)], 1, 0, rq .rdOwn, [], by decide⟩
theorem witness_MeshRetries_4 : ∃ (s : State) (n : Fin 64) (i : Fin 80) (m : Msg) (rest : List Msg), s.Live ∧ takeMsg (Msg.isNotice n i) s.sys.msgs = some (m, rest) := ⟨ms [.holdNotice 1 2], 1, 2, .holdNotice 1 2, [], by decide⟩
theorem witness_MeshRetries_5 : ∃ (s : State) (n : Fin 64) (dir : Fin 4) (run : Nat), s.Live := ⟨ms [], 1, 2, 16, by decide⟩

theorem witness_GrainLedgers_0 : ∃ (s : State) (i : Fin 80) (k : Fin 16), s.Live ∧ (s.sys.stop i).asked.contains k.val = true ∧ 0 < s.sys.rf F.SYS_QOS_LEDGER_BALANCE k ∧ s.sys.rf F.SYS_QOS_LEDGER_GRANTED k + 128 < 2 ^ F.SYS_QOS_LEDGER_GRANTED.wd := ⟨mkS (fun s => ((s.put F.SYS_QOS_LEDGER_BALANCE 200 3).onStop 2 (fun t => { t with asked := [3] }))), 2, 3, by decide⟩
theorem witness_GrainLedgers_1 : ∃ (s : State) (i : Fin 80) (k : Fin 16), s.Live ∧ (s.sys.stop i).asked.contains k.val = true ∧ s.sys.rf F.SYS_QOS_LEDGER_BALANCE k = 0 ∧ (s.sys.conf.kennel k).lend = true ∧ (s.sys.conf.kennel k).enabled = true ∧ 0 < s.sys.rf F.SYS_QOS_POOL_POOL ∧ s.sys.rf F.SYS_QOS_LEND_BORROWED k + 128 < 2 ^ F.SYS_QOS_LEND_BORROWED.wd := ⟨mkS (fun s => (({ s with conf := { s.conf with kennels := [(3, ⟨true, false, false, false, false, true, 0, 1, 0, 0, 0⟩)] } }.put F.SYS_QOS_POOL_POOL 100).onStop 2 (fun t => { t with asked := [3] }))), 2, 3, by decide⟩
theorem witness_GrainLedgers_2 : ∃ (s : State) (i : Fin 80) (k : Fin 16) (g : Nat) (rest : List Msg), s.Live ∧ takeMsg (Msg.isChunk i k) s.sys.msgs = some (.chunk i k g s.sys.ticks, rest) ∧ (s.sys.stop i).held = [] ∧ Bank.getD (s.sys.stop i).mem k.val 0 + g ≤ 255 ∧ s.sys.links.all (fun p => p.2.inq.isEmpty && p.2.reset == .none) = true := ⟨ms [.chunk 2 3 128 0], 2, 3, 128, [], by decide⟩
theorem witness_GrainLedgers_3 : ∃ (s : State) (i : Fin 80) (k : Fin 16) (g : Nat) (tk : Nat) (rest : List Msg), s.Live ∧ takeMsg (Msg.isChunk i k) s.sys.msgs = some (.chunk i k g tk, rest) ∧ tk < s.sys.ticks := ⟨ms [.chunk 2 3 128 0] (fun s => { s with ticks := 2 }), 2, 3, 128, 0, [], by decide⟩
theorem witness_GrainLedgers_4 : ∃ (s : State), s.Live ∧ s.sys.phase ≤ s.sys.spanS / 2 ∧ s.sys.enabledKennels.filter (fun k => (s.sys.conf.kennel k).lend) = [3] ∧ s.sys.rf F.SYS_QOS_POOL_POOL + s.sys.rf F.SYS_QOS_LEDGER_BALANCE 3 < 2 ^ F.SYS_QOS_POOL_POOL.wd := ⟨mkS (fun s => ({ s with conf := { s.conf with kennels := [(3, ⟨true, false, false, false, false, true, 0, 1, 0, 0, 0⟩)] } }.put F.SYS_QOS_LEDGER_BALANCE 100 3).put F.SYS_QOS_LEDGER_GRANTED 40 3), by decide⟩
theorem witness_GrainLedgers_5 : ∃ (s : State) (req : Requester) (k : Fin 16), s.Takes (.qosHoldcntClr req k) := ⟨mkS (fun s => s.put F.SYS_QOS_HOLDCNT_SPANS_HELD 7 3), .tether 0, 3, by decide⟩

theorem witness_BraceLinks_0 : ∃ (s : State) (b : Fin 3) (full : Bool) (id : Word) (sock : Bool) (pl : Byte), s.Live ∧ s.sys.rf F.BRC_STATUS_STATE b = brcTraining := ⟨mkS (fun s => s.put F.BRC_STATUS_STATE 1 1), 1, true, 0, true, 1, by decide⟩
theorem witness_BraceLinks_1 : ∃ (s : State) (b : Fin 3), s.Live ∧ s.sys.rf F.BRC_STATUS_STATE b = brcUp := ⟨mkS (fun s => s.put F.BRC_STATUS_STATE 2 1), 1, by decide⟩
theorem witness_BraceLinks_2 : ∃ (s : State) (b : Fin 3) (seq : Nat), s.Live := ⟨mkS (fun s => { s with brace := [(1, ⟨[⟨4, 0x80⟩, ⟨5, 0x81⟩], 6, none⟩)] }), 1, 4, by decide⟩
theorem witness_BraceLinks_3 : ∃ (s : State) (b : Fin 3), s.Live ∧ s.sys.rf F.BRC_STATUS_STATE b = brcUp := ⟨mkS (fun s => s.put F.BRC_STATUS_STATE 2 1), 1, by decide⟩
theorem witness_BraceLinks_4 : ∃ (s : State) (req : Requester) (b : Fin 3), s.Takes (.brcClrReplays req b) := ⟨mkS (fun s => s.put F.BRC_STATUS_REPLAYS 7 1), .tether 0, 1, by decide⟩

end C08

/-! ## Chapter 09 -/

namespace C09
/-- Channel 1 in a state, in a set, with its part and a field changed. -/
def ch (st : Nat) (f : Chan → Chan := id) (g : Sys → Sys := id) : State :=
  mkS (fun s => g ((({ s with conf := { s.conf with ilv := [⟨1, false, 1, 0, 2, 0, 2 ^ 30, 0⟩] } } : Sys).onChan 1 f).put F.MC_STATUS_STATE st 1))
/-- The same at the start of a window of 1,024 units. -/
def cw (st : Nat) (f : Chan → Chan := id) (g : Sys → Sys := id) : State := ch st f (fun s => g { s with span := { s.span with window := 100 } })
/-- A mirrored pair of channels 0 and 1. -/
def pr (a b p : Nat) (f : Chan → Chan := id) (g : Sys → Sys := id) : State :=
  ch b f (fun s => g { ((s.put F.MC_STATUS_STATE a 0).pairTo 1 p) with ticks := 5, conf := { s.conf with ilv := [⟨1, true, 1, 0, 3, 0, 2 ^ 30, 0⟩] } })

theorem witness_McQueues_0 : ∃ (s : State) (m : Fin 16) (r : MRead) (rest : List MRead), s.Live ∧ (s.sys.chan m).fwd = r :: rest ∧ (s.sys.chan m).mwr = [] ∧ s.sys.mcServes m = true ∧ s.sys.mcState m ≠ mcFailing := ⟨ch 4 (fun c => { c with fwd := [⟨0x80, 0x2000, 1, 0⟩] }), 1, ⟨0x80, 0x2000, 1, 0⟩, [], by decide⟩
theorem witness_McQueues_1 : ∃ (s : State) (m : Fin 16) (r : MRead) (rest : List MRead), s.Live ∧ (s.sys.chan m).fwd = r :: rest ∧ (s.sys.chan m).mwr = [] ∧ s.sys.mcServes m = false := ⟨ch 6 (fun c => { c with fwd := [⟨0x80, 0x2000, 1, 0⟩] }), 1, ⟨0x80, 0x2000, 1, 0⟩, [], by decide⟩
theorem witness_McQueues_2 : ∃ (s : State) (m : Fin 16) (w : MWr) (rest : List MWr), s.Live ∧ s.Inv ∧ (s.sys.chan m).mwr = w :: rest ∧ rest.contains w = false ∧ s.sys.mcServes m = true ∧ s.sys.mcState m ≠ mcFailing ∧ s.sys.pair m ≠ 1 ∧ (s.sys.chan m).writeQ.length < 192 ∧ (s.sys.slice w.slice).txns = [] := ⟨ch 4 (fun c => { c with mwr := [⟨0x80, 1, 5, false⟩] }), 1, ⟨0x80, 1, 5, false⟩, [], by decide +kernel⟩
theorem witness_McQueues_3 : ∃ (s : State) (m : Fin 16) (q : MRead) (rest : List MRead), s.Live ∧ (s.sys.chan m).issued = q :: rest ∧ s.mem.poisoned q.line = false := ⟨ch 4 (fun c => { c with issued := [⟨0x80, 0x2000, 1, 0⟩] }), 1, ⟨0x80, 0x2000, 1, 0⟩, [], by decide⟩
theorem witness_McQueues_4 : ∃ (s : State) (m : Fin 16) (q : MRead) (rest : List MRead) (pb : Bool) (sy : Byte), s.Live ∧ (s.sys.chan m).issued = q :: rest ∧ s.mem.poisoned q.line = false ∧ (s.sys.pair m ≠ 1 ∨ pb = true) ∧ (s.sys.chan m).mark (s.sys.dramLoc m q.ca).sub (s.sys.dramLoc m q.ca).rank = 15 ∧ (s.sys.chan m).rewriteQ.length < 16 ∧ s.sys.on F.MC_ERR_LOG_VALID m = false := ⟨ch 4 (fun c => { c with issued := [⟨0x80, 0x2000, 1, 0⟩] }), 1, ⟨0x80, 0x2000, 1, 0⟩, [], false, 5, by decide⟩
theorem witness_McQueues_5 : ∃ (s : State) (m : Fin 16) (sub : Fin 2) (k : Nat) (ready : List (Fin 64 × Fin 8 × Fin 4)) (q : MRead) (o : OpenRow) (b : Fin 64 × Fin 8 × Fin 4), s.Live ∧ s.sys.mcServes m = true ∧ s.sys.inWindow = false ∧ (s.sys.chan m).readQ = [q] ∧ (s.sys.chan m).writeQ = [] ∧ (s.sys.chan m).batch = false ∧ (s.sys.chan m).rowsOpen = [o] ∧ o.loc = s.sys.dramLoc m q.ca ∧ o.loc.sub = sub.val ∧ o.loc.bankOf = (b.1.val, b.2.1.val, b.2.2.val) ∧ ready.contains b = true := ⟨ch 4 (fun c => { c with readQ := [⟨0x80, 0x2000, 1, 0⟩], rowsOpen := [⟨⟨0, 0, 0, 0, 0⟩, 3, 0⟩] }) (fun s => { s with span := { s.span with rackTime := 4000 } }), 1, 0, 4, [(0, 0, 0)], ⟨0x80, 0x2000, 1, 0⟩, ⟨⟨0, 0, 0, 0, 0⟩, 3, 0⟩, (0, 0, 0), by decide⟩
theorem witness_McQueues_6 : ∃ (s : State) (m : Fin 16) (n : Nat), s.Live := ⟨ch 4, 1, 9, by decide⟩
theorem witness_McQueues_7 : ∃ (s : State) (req : Requester) (m : Fin 16) (v : Word), s.Takes (.spdRead req m v) ∧ s.sys.on F.MC_SPD_GO m = false := ⟨ch 4, .tether 0, 1, 0x1234, by decide⟩
theorem witness_McQueues_8 : ∃ (s : State) (m : Fin 16) (d : Option (BitVec 32)), s.Live ∧ s.sys.on F.MC_SPD_GO m = true := ⟨ch 4 id (fun s => s.put F.MC_SPD_GO 1 1), 1, some 5, by decide⟩

theorem witness_McWindow_0 : ∃ (s : State) (m : Fin 16), s.Live ∧ s.sys.mcSteps m = true ∧ s.sys.inWindow = true ∧ (s.sys.chan m).stage ≤ 3 ∧ (s.sys.chan m).used + s.sys.trfcsb m + 20 ≤ s.sys.span.window * 25 ∧ (s.sys.chan m).debts.any (fun d => decide (624 ≤ d)) = true := ⟨cw 4 (fun c => { c with debts := [700, 100] }), 1, by decide⟩
theorem witness_McWindow_1 : ∃ (s : State) (m : Fin 16) (code : BitVec 3) (dbl : Bool) (hot : Bool), s.Live ∧ s.sys.mcSteps m = true ∧ s.sys.inWindow = true ∧ (s.sys.chan m).stage ≤ 4 ∧ (s.sys.chan m).used + 50 ≤ s.sys.span.window * 25 ∧ s.sys.spanNo % 256 = 0 := ⟨cw 4, 1, 3, true, true, by decide⟩
theorem witness_McWindow_2 : ∃ (s : State) (m : Fin 16) (d : RtDue), s.Live ∧ s.sys.mcSteps m = true ∧ s.sys.mcTrains m = true ∧ s.sys.inWindow = true ∧ (s.sys.chan m).stage ≤ 5 ∧ (s.sys.chan m).used + d.kind.ns + 20 ≤ s.sys.span.window * 25 ∧ (s.sys.chan m).nextDue = some d := ⟨cw 4 (fun c => { c with due := [⟨.oscStart, 0, 3, false⟩] }), 1, ⟨.oscStart, 0, 3, false⟩, by decide⟩
theorem witness_McWindow_3 : ∃ (s : State) (m : Fin 16), s.Live ∧ (s.sys.chan m).due.any (fun d => decide (d.since + 1024 ≤ s.sys.ticks)) = true ∧ s.sys.on F.MC_STATUS_RETRAIN_STARVED m = false := ⟨cw 4 (fun c => { c with due := [⟨.oscStart, 0, 3, false⟩] }) (fun s => { s with ticks := 2000 }), 1, by decide⟩
theorem witness_McWindow_4 : ∃ (s : State) (m : Fin 16) (l : Nat) (p : Bool) (rest : List (Nat × Bool)), s.Live ∧ s.sys.mcSteps m = true ∧ s.sys.inWindow = true ∧ (s.sys.chan m).stage ≤ 6 ∧ (s.sys.chan m).used + 65 ≤ s.sys.span.window * 25 ∧ (s.sys.chan m).rewriteQ = (l, p) :: rest := ⟨cw 4 (fun c => { c with rewriteQ := [(0x80, true)] }), 1, 0x80, true, [], by decide⟩
theorem witness_McWindow_5 : ∃ (s : State) (m : Fin 16) (ns : Bool) (r : Repair), s.Live ∧ s.sys.mcSteps m = true ∧ s.sys.mcInService m = true ∧ s.sys.inWindow = true ∧ (s.sys.chan m).stage ≤ 7 ∧ (s.sys.chan m).used + 160 ≤ s.sys.span.window * 25 ∧ (s.sys.chan m).repair = some r ∧ s.sys.rf F.MC_PPR_STATUS_STEP m < 16 := ⟨cw 4 (fun c => { c with repair := some ⟨⟨0, 0, 0, 0, 5⟩, false, false⟩ }) (fun s => s.put F.MC_PPR_STATUS_STEP 8 1), 1, true, ⟨⟨0, 0, 0, 0, 5⟩, false, false⟩, by decide⟩
theorem witness_McWindow_6 : ∃ (s : State) (m : Fin 16) (r : Repair), s.Live ∧ s.sys.mcSteps m = true ∧ s.sys.mcInService m = true ∧ s.sys.inWindow = true ∧ (s.sys.chan m).stage ≤ 7 ∧ (s.sys.chan m).used + 160 ≤ s.sys.span.window * 25 ∧ (s.sys.chan m).repair = some r ∧ (s.sys.chan m).autoNext = none ∧ r.noSpare = false ∧ s.sys.rf F.MC_PPR_STATUS_STEP m = 16 ∧ s.sys.on F.MC_PPR_LOG_VALID m 0 = false := ⟨cw 4 (fun c => { c with repair := some ⟨⟨0, 0, 0, 0, 5⟩, false, false⟩ }) (fun s => s.put F.MC_PPR_STATUS_STEP 16 1), 1, ⟨⟨0, 0, 0, 0, 5⟩, false, false⟩, by decide⟩
theorem witness_McWindow_7 : ∃ (s : State) (m : Fin 16), s.Live ∧ s.sys.mcSteps m = true ∧ s.sys.mcState m = mcResilvering ∧ (s.sys.chan m).pend = .none ∧ s.sys.inWindow = true ∧ (s.sys.chan m).stage ≤ 8 ∧ (s.sys.chan m).used + 120 ≤ s.sys.span.window * 25 ∧ s.sys.rf F.MC_RESILVER_POINTER m + 1 < 2 ^ F.MC_RESILVER_POINTER.wd := ⟨cw 9, 1, by decide⟩
theorem witness_McWindow_8 : ∃ (s : State) (m : Fin 16) (l : List DramResult), s.Live ∧ s.sys.mcSteps m = true ∧ s.sys.inWindow = true ∧ (s.sys.chan m).stage ≤ 9 ∧ (s.sys.chan m).used + 60 ≤ s.sys.span.window * 25 ∧ 0 < s.sys.scrubCost m ∧ 8 * s.sys.scrubCost m ≤ (s.sys.chan m).allowance ∧ s.sys.rf F.MC_SCRUB_POINTER m + 8 < s.sys.chanLines m ∧ s.sys.rf F.MC_SCRUB_POINTER m + 8 < 2 ^ F.MC_SCRUB_POINTER.wd ∧ l.all (fun r => r == .clean) = true ∧ s.mem.poison = [] := ⟨cw 4 (fun c => { c with allowance := 2 ^ 60 }) (fun s => ((s.put F.MC_CFG_PATROL_H 24 1).put F.MC_DIMM_CFG_PRESENT 1 1 0).put F.MC_DIMM_CFG_CAP_GIB 16 1 0), 1, [], by decide⟩

theorem witness_McCommands_0 : ∃ (s : State) (req : Requester) (m : Fin 16) (v : Word), s.Takes (.train req m v) ∧ s.McAlone m F.MC_CTL_TRAIN v := ⟨ch 1, .tether 0, 1, 0, by decide⟩
theorem witness_McCommands_1 : ∃ (s : State) (m : Fin 16) (fail : Option TrainFail) (rate : BitVec 16) (ms : BitVec 16) (code : BitVec 3) (dbl : Bool), s.Live ∧ (s.sys.mcState m = mcTraining ∨ s.sys.mcState m = mcTrainingE) := ⟨ch 2, 1, none, 4800, 30, 0, false, by decide⟩
theorem witness_McCommands_2 : ∃ (s : State) (req : Requester) (m : Fin 16) (v : Word), s.Takes (.retrain req m v) ∧ s.McAlone m F.MC_CTL_RETRAIN v ∧ (s.sys.chan m).due.any (fun d => d.pass) = false := ⟨ch 4 id (fun s => s.put F.MC_DIMM_CFG_PRESENT 1 1 0), .tether 0, 1, 0, by decide⟩
theorem witness_McCommands_3 : ∃ (s : State) (req : Requester) (m : Fin 16) (v : Word), s.Takes (.mcEn req m v) ∧ s.McAlone m F.MC_CTL_EN v := ⟨ch 3, .tether 0, 1, 0, by decide⟩
theorem witness_McCommands_4 : ∃ (s : State) (req : Requester) (m : Fin 16) (v : Word), s.Takes (.evacuate req m v) ∧ s.McAlone m F.MC_CTL_EVACUATE v := ⟨pr 4 4 1, .tether 0, 1, 0, by decide⟩
theorem witness_McCommands_5 : ∃ (s : State) (req : Requester) (m : Fin 16) (v : Word), s.Takes (.resilver req m v) ∧ s.McAlone m F.MC_CTL_RESILVER v ∧ s.sys.mcState m = mcEvacuated ∧ s.sys.on F.MC_STATUS_TRAINED m = true ∧ s.sys.pair m = 2 ∧ s.sys.mcState (partner m) = mcActive := ⟨pr 4 7 2 id (fun s => s.put F.MC_STATUS_TRAINED 1 1), .tether 0, 1, 0, by decide⟩
theorem witness_McCommands_6 : ∃ (s : State) (req : Requester) (m : Fin 16) (v : Word), s.Takes (.sr req m v) ∧ s.McAlone m F.MC_CTL_SR v ∧ (s.sys.mcState m = mcActive ∨ s.sys.mcState m = mcResilvering ∨ s.sys.mcState m = mcEvacuated) := ⟨ch 4, .tether 0, 1, 0, by decide⟩
theorem witness_McCommands_7 : ∃ (s : State) (req : Requester) (m : Fin 16) (v : Word), s.Takes (.pwrOff req m v) ∧ s.McAlone m F.MC_CTL_PWR_OFF v ∧ s.sys.rf F.MC_CTL_PWR_OFF m = 0 := ⟨ch 7, .tether 0, 1, 0, by decide⟩
theorem witness_McCommands_8 : ∃ (s : State) (m : Fin 16), s.Live ∧ s.sys.mcState m = mcFailing ∧ (s.sys.chan m).since < s.sys.ticks ∧ s.sys.mcState (partner m) = mcActive := ⟨pr 4 5 1, 1, by decide⟩
theorem witness_McCommands_9 : ∃ (s : State) (m : Fin 16), s.Live ∧ (s.sys.chan m).pend = .evacuate ∧ (s.sys.chan m).since < s.sys.ticks ∧ s.sys.mcState m = mcActive ∧ s.sys.pair m = 1 ∧ (s.sys.chan m).repair = none := ⟨pr 4 4 1 (fun c => { c with pend := .evacuate, readQ := [⟨0x80, 0, 1, 0⟩] }), 1, by decide⟩
theorem witness_McCommands_10 : ∃ (s : State) (m : Fin 16), s.Live ∧ (s.sys.chan m).pend = .resilvered ∧ (s.sys.chan m).since < s.sys.ticks ∧ s.sys.mcState m = mcResilvering := ⟨pr 4 9 3 (fun c => { c with pend := .resilvered }), 1, by decide⟩
theorem witness_McCommands_11 : ∃ (s : State) (req : Requester) (m : Fin 16) (v : Word), s.Takes (.pprStart req m v) ∧ (s.sys.chan m).repair = none := ⟨ch 4, .tether 0, 1, 0, by decide⟩

end C09

/-! ## Chapter 10 -/

namespace C10
/-- A state with kennel 2 on tile 0, in a state, its harts running, with more changed. -/
def ks (st : Nat) (f : Sys → Sys := id) : State := mkS (fun s => f ((({ s with conf := { s.conf with
  kennels := [(2, { KennelRec.none with enabled := true })], tiles := [(0, ⟨2, 15, true⟩)] } }.put F.SYS_KCTL_STATE st 2).put
  F.TILE_CORE_PWR_STATE 0 0 0).put F.TILE_CORE_PWR_STATE 0 0 1))
/-- A state with an owner table at 2 MiB of a DIMM of channel 0, in service. -/
def ot (f : Sys → Sys := id) : State := mkS (fun s => f ((((({ s with conf := { s.conf with
  kennels := [(2, { KennelRec.none with enabled := true })], ilv := [⟨0, false, 1, 0, 1, 0, 2 ^ 30, 0⟩] } }.put F.OWN_TABLE_BASE 1).put
  F.OWN_TABLE_PAGES_PAGES 0x100000).put F.MC_STATUS_STATE 4 0).put F.OWN_CMD_BASE_BASE 0x1000)))
/-- A state whose RELEASE has page 0x1000 in its purge. -/
def otp (f : Sys → Sys := id) : State := ot (fun s => f ((({ s with own := ⟨2, 0x1000, some 0x11, none, 0⟩ }.put F.OWN_CMD_OP 2).put F.OWN_CMD_PAGES 1).put F.OWN_CMD_GO 1))

theorem witness_KennelControl_0 : ∃ (s : State) (req : Requester) (k : Fin 16) (v : Word), s.Takes (.kennelStop req k v) ∧ (s.sys.kState k = kRunning ∨ s.sys.kState k = kHeld) ∧ fget v 1 1 = 0 := ⟨ks 2, .tether 0, 2, 0, by decide⟩
theorem witness_KennelControl_1 : ∃ (s : State) (req : Requester) (k : Fin 16) (v : Word), s.Takes (.kennelStop req k v) ∧ (s.sys.kState k = kDisabled ∨ s.sys.kState k = kResetting) ∧ fget v 1 1 = 0 ∧ fget v 3 1 = 0 := ⟨ks 5, .tether 0, 2, 0, by decide⟩
theorem witness_KennelControl_2 : ∃ (s : State) (req : Requester) (k : Fin 16) (v : Word), s.Takes (.kennelReset req k v) ∧ (s.sys.kState k = kRunning ∨ s.sys.kState k = kHeld ∨ s.sys.kState k = kStopped) ∧ (Bank.get? s.sys.kresets k).isNone = true ∧ s.sys.kennelConcerned k = false ∧ fget v 2 1 = 0 := ⟨ks 4, .tether 0, 2, 0, by decide⟩
theorem witness_KennelControl_3 : ∃ (s : State) (req : Requester) (k : Fin 16) (v : Word), s.Takes (.kennelReset req k v) ∧ (s.sys.kState k = kDisabled ∨ s.sys.kState k = kResetting) ∧ fget v 2 1 = 0 ∧ fget v 3 1 = 0 := ⟨ks 0, .tether 0, 2, 0, by decide⟩
theorem witness_KennelControl_4 : ∃ (s : State) (k : Fin 16), s.Live ∧ s.sys.kState k = kStopping ∧ (s.sys.kennelHarts k).all (fun h => (s.sys.hart h).rob.isEmpty && (s.sys.hart h).sq.isEmpty && (s.sys.hart h).wcb.isEmpty) = true := ⟨ks 3 (fun s => s.onStop 5 (fun t => { t with held := [⟨.cmoCheck, 0, .peer false, 2, false, 0, 0, 0, false, false, ⟨0, 0, 0⟩, false, .swap, false⟩] })), 2, by decide⟩
theorem witness_KennelControl_5 : ∃ (s : State) (k : Fin 16), s.Live ∧ s.sys.kState k = kResetting ∧ Bank.get? s.sys.kresets k = some .halting ∧ s.sys.pwr.cores = [] ∧ (s.sys.kennelHarts k).all (fun h => (s.sys.hart h).rob.isEmpty && (s.sys.hart h).sq.isEmpty && (s.sys.hart h).wcb.isEmpty) = true := ⟨ks 5 (fun s => ({ s with kresets := [(2, .halting)] }.onHart 1 (fun t => { t with tlbD := [⟨true, false, 0, 0, false, 12, 1, 0x1000, 7, 0⟩] })).put F.PWR_SHOLD_COUNT 3 0), 2, by decide⟩
theorem witness_KennelControl_6 : ∃ (s : State) (k : Fin 16), s.Live ∧ Bank.get? s.sys.kresets k = some .units ∧ s.sys.linksResetting k = false ∧ s.sys.rtvResetDone k = true := ⟨ks 5 (fun s => { s with kresets := [(2, .units)], icn := { s.icn with inReset := [2] } }), 2, by decide⟩

theorem witness_OwnerTable_0 : ∃ (s : State) (req : Requester) (v : Word), s.Takes (.ownInv req v) := ⟨ot (fun s => s.onSlice 3 (fun t => { t with oc := [⟨0x8000, 1⟩, ⟨0x8040, 2⟩] })), .tether 0, 0x1000000, by decide⟩
theorem witness_OwnerTable_1 : ∃ (s : State), s.Live := ⟨ot (fun s => s.put F.OWN_INV_GO 1), by decide⟩
theorem witness_OwnerTable_2 : ∃ (s : State) (req : Requester) (v : Word) (b : Nat), s.Takes (.set req v) ∧ s.sys.rf F.OWN_CMD_GO = 0 ∧ fget v 0 32 = 1 ∧ fget v 34 1 = 0 ∧ (fget v 32 1 = 0 ∨ (s.sys.conf.kennel (fget v 35 4)).enabled = true) ∧ s.sys.socket * dramWindow / 4096 ≤ s.sys.ownFirst ∧ s.sys.ownFirst < s.sys.socket * dramWindow / 4096 + s.sys.rf F.OWN_TABLE_PAGES_PAGES ∧ s.ctx.tableByte s.sys.ownFirst = some b ∧ bit b 0 = false ∧ s.sys.regionBars s.sys.ownFirst 1 (fget v 32 8) = false := ⟨ot, .tether 0, 0x1100000001, 0, by decide +kernel⟩
theorem witness_OwnerTable_3 : ∃ (s : State) (req : Requester) (v : Word) (b : Nat), s.Takes (.releaseOwnership req v) ∧ s.sys.rf F.OWN_CMD_GO = 0 ∧ fget v 0 32 = 1 ∧ fget v 32 1 = 0 ∧ fget v 34 1 = 0 ∧ fget v 48 1 = 0 ∧ s.sys.socket * dramWindow / 4096 ≤ s.sys.ownFirst ∧ s.sys.ownFirst < s.sys.socket * dramWindow / 4096 + s.sys.rf F.OWN_TABLE_PAGES_PAGES ∧ s.ctx.tableByte s.sys.ownFirst = some b ∧ bit b 0 = true ∧ bit b 1 = false ∧ s.sys.regionBars s.sys.ownFirst 1 (fget v 32 8) = false := ⟨{ ot with mem := Mem.empty.put (.byte 0x201000 0x11) }, .tether 0, 1, 0x11, by decide +kernel⟩
theorem witness_OwnerTable_4 : ∃ (s : State) (req : Requester) (v : Word), s.Takes (.set req v) ∧ s.sys.rf F.OWN_CMD_GO = 0 ∧ (fget v 0 32 = 0 ∨ s.sys.ownFirst < s.sys.socket * dramWindow / 4096 ∨ s.sys.socket * dramWindow / 4096 + s.sys.rf F.OWN_TABLE_PAGES_PAGES < s.sys.ownFirst + fget v 0 32) := ⟨ot, .tether 0, 0x1100000000, by decide⟩
theorem witness_OwnerTable_5 : ∃ (s : State) (req : Requester) (v : Word), s.Takes (.releaseOwnership req v) ∧ s.sys.rf F.OWN_CMD_GO = 1 := ⟨otp, .tether 0, 1, by decide⟩
theorem witness_OwnerTable_6 : ∃ (s : State) (p : Nat) (b : Nat), s.Live ∧ s.sys.own.purge = some b ∧ s.sys.own.page = p ∧ bit b 1 = false ∧ s.sys.rf F.OWN_CMD_SCRUB = 0 ∧ s.sys.own.engine = none ∧ s.sys.pageQuiet p = true ∧ s.sys.ownPages ≤ s.sys.rf F.OWN_STATUS_DONE_PAGES + 1 ∧ s.sys.rf F.OWN_STATUS_DONE_PAGES < 2 ^ 32 - 1 ∧ (s.ctx.tableByte p).isSome = true ∧ s.sys.ownAddr (4096 * p) / 4096 ≠ p := ⟨otp (fun s => s.onHart 3 (fun t => { t with l1d := [⟨0x40003, 0, 3, false, 0x11, 5⟩] })), 0x1000, 0x11, by decide +kernel⟩

theorem witness_HoldCounts_0 : ∃ (s : State) (req : Requester) (st : Fin 109) (via : Bool) (v : Word), s.Takes (.sholdIncrement req st via v) ∧ (s.sys.whoIs req).1.secure = true := ⟨ks 2 (fun s => s.put F.PWR_SHOLD_COUNT 255 3), .tether 0, 3, true, 0, by decide⟩
theorem witness_HoldCounts_1 : ∃ (s : State) (req : Requester) (st : Fin 109) (via : Bool) (v : Word), s.Takes (.sholdDecrement req st via v) ∧ (s.sys.whoIs req).1.secure = true ∧ s.sys.pwr.deferred.all (fun d => d.station != st.val) = true := ⟨ks 2 (fun s => s.put F.PWR_SHOLD_COUNT 1 3), .tether 0, 3, false, 0, by decide⟩
theorem witness_HoldCounts_2 : ∃ (s : State) (req : Requester) (st : Fin 109) (via : Bool) (v : Word), s.Takes (.sholdIncrement req st via v) ∧ (s.sys.whoIs req).1.secure = false := ⟨ks 2, .remote 15 false false, 3, false, 0, by decide⟩
theorem witness_HoldCounts_3 : ∃ (s : State) (req : Requester) (st : Fin 109) (via : Bool) (v : Word), s.Takes (.sholdDecrement req st via v) ∧ (s.sys.whoIs req).1.secure = false := ⟨ks 2 (fun s => s.put F.PWR_SHOLD_COUNT 1 3), .remote 15 false false, 3, false, 0, by decide⟩

end C10

/-! ## Chapter 11 -/

namespace C11
/-- A state with kennel 4 on tile 16 and domain 4 with sources to 100 and two guest contexts; source 40 is pending, enabled, of priority 6, routed to
the S context of hart 64, with more changed. -/
def ic (f : Sys → Sys := id) : State := mkS (fun s => f (((((((((({ s with conf := { s.conf with
  kennels := [(4, { KennelRec.none with enabled := true })], tiles := [(16, ⟨4, 15, true⟩)] } }.put F.ICN_DOM_CFG_ENABLED 1 4).put
  F.ICN_DOM_CFG_SOURCES 100 4).put F.ICN_DOM_CFG_GUEST_CTX 2 4).put F.ICN_SRC_HART 64 4 40).put F.ICN_SRC_CTX 1 4 40).put
  F.ICN_SRC_PRIORITY 6 4 40).put F.ICN_SRC_ENABLE 1 4 40).put F.ICN_SRC_GROUP 5 4 40).put F.ICN_SRC_PENDING 1 4 40).put F.ICN_SRC_PRIORITY 3 4 41))
/-- The same with the source posted to virtual CPU 3 of a table at 0x100000. -/
def icp (f : Sys → Sys := id) : State := ic (fun s => f ((((s.put F.ICN_SRC_POSTED 1 4 40).put F.ICN_SRC_VCPU 3 4 40).put F.ICN_DOM_PTAB_VCPUS 4 4).put
  F.ICN_DOM_PTAB_BASE 0x100 4))

theorem witness_ClaimComplete_0 : ∃ (s : State) (req : Requester) (ctx : ClaimCtx) (d : Nat) (id : Nat), s.Takes (.icnClaim req ctx) ∧ s.sys.domOf ctx.claim = some d ∧ s.sys.on F.ICN_DOM_CFG_CLK_STOPPED d = false ∧ (s.sys.heeled = false ∨ d = 15) ∧ s.sys.srcEligible d id = true ∧ (s.sys.srcCtxs d id).contains ctx.claim.thresh = true ∧ s.sys.rf F.ICN_SRC_PRIORITY d id > fget (s.sys.rd ctx.claim.thresh) 0 4 ∧ (s.sys.srcIds d).all (fun j => !(s.sys.srcEligible d j && (s.sys.srcCtxs d j).contains ctx.claim.thresh) || j == id || s.sys.srcBetter d id j) = true := ⟨ic (fun s => s.put F.ICN_GRP_HOLDOFF 8 4 5), .hart 64, .s 64 0, 4, 40, by decide⟩
theorem witness_ClaimComplete_1 : ∃ (s : State) (req : Requester) (ctx : ClaimCtx) (d : Nat), s.Takes (.icnClaim req ctx) ∧ s.sys.domOf ctx.claim = some d ∧ s.sys.on F.ICN_DOM_CFG_CLK_STOPPED d = false ∧ (s.sys.srcIds d).all (fun j => !(s.sys.srcEligible d j && (s.sys.srcCtxs d j).contains ctx.claim.thresh && decide (s.sys.rf F.ICN_SRC_PRIORITY d j > fget (s.sys.rd ctx.claim.thresh) 0 4))) = true := ⟨ic (fun s => s.put F.ICN_CTX_THRESH_THRESHOLD 6 64 0), .hart 64, .s 64 0, 4, by decide⟩
theorem witness_ClaimComplete_2 : ∃ (s : State) (req : Requester) (ctx : ClaimCtx) (id : BitVec 12) (d : Nat), s.Takes (.icnComplete req ctx id) ∧ s.sys.domOf ctx.claim = some d ∧ s.sys.on F.ICN_DOM_CFG_CLK_STOPPED d = false ∧ s.sys.srcPresent d id.toNat = true ∧ s.sys.rf F.ICN_SRC_ACTIVE d id.toNat = 1 := ⟨ic (fun s => s.put F.ICN_SRC_ACTIVE 1 4 41), .hart 64, .s 64 0, 41, 4, by decide⟩
theorem witness_ClaimComplete_3 : ∃ (s : State) (req : Requester) (ctx : ClaimCtx) (id : BitVec 12) (d : Nat), s.Takes (.icnComplete req ctx id) ∧ s.sys.domOf ctx.claim = some d ∧ s.sys.on F.ICN_DOM_CFG_CLK_STOPPED d = false ∧ (s.sys.srcPresent d id.toNat = false ∨ s.sys.rf F.ICN_SRC_ACTIVE d id.toNat = 0) := ⟨ic, .hart 64, .s 64 0, 4095, 4, by decide⟩
theorem witness_ClaimComplete_4 : ∃ (s : State) (req : Requester) (ctx : ClaimCtx) (v : Word) (d : Nat), s.Takes (.thresholdWrite req ctx v) ∧ s.sys.domOf ctx.claim = some d ∧ s.sys.on F.ICN_DOM_CFG_CLK_STOPPED d = false := ⟨ic, .hart 64, .m 64, 0x13, 4, by decide⟩
theorem witness_ClaimComplete_5 : ∃ (s : State) (req : Requester) (h : Fin 256) (g : Fin 8) (v : Word), s.Takes (.icnGctxWrite req h g v) ∧ s.sys.on F.ICN_DOM_CFG_CLK_STOPPED (s.sys.hartKennel h) = false ∧ fget v 63 1 = 1 ∧ (s.sys.residents (s.sys.hartKennel h) (fget v 0 10)).any (fun k => k != ⟨.ICN_CTX_THRESH, h, g⟩) = true := ⟨ic (fun s => (s.put F.ICN_GCTX_RESIDENT 1 65 1).put F.ICN_GCTX_VCPU 3 65 1), .hart 64, 64, 2, 0x8000000000000003, by decide⟩
theorem witness_ClaimComplete_6 : ∃ (s : State) (req : Requester) (h : Fin 256) (g : Fin 8) (v : Word), s.Takes (.icnGctxWrite req h g v) ∧ s.sys.on F.ICN_DOM_CFG_CLK_STOPPED (s.sys.hartKennel h) = false ∧ (fget v 63 1 = 0 ∨ (s.sys.residents (s.sys.hartKennel h) (fget v 0 10)).all (fun k => k == ⟨.ICN_CTX_THRESH, h, g⟩) = true) := ⟨ic, .hart 64, 64, 2, 0x8000000000000003, by decide⟩
theorem witness_ClaimComplete_7 : ∃ (s : State) (req : Requester) (h : Fin 256) (g : Fin 8), s.Takes (.icnGctxRead req h g) ∧ s.sys.on F.ICN_DOM_CFG_CLK_STOPPED (s.sys.hartKennel h) = false := ⟨ic, .hart 64, 64, 2, by decide⟩
theorem witness_ClaimComplete_8 : ∃ (s : State) (req : Requester) (h : Fin 256) (g : Fin 8), s.Live ∧ s.sys.Admits ⟨req, ⟨.ICN_GCTX, h, g⟩, none, none⟩ ∧ s.sys.icn.postings.any (fun p => p.dom == s.sys.hartKennel h) = true ∧ s.sys.on F.ICN_DOM_CFG_CLK_STOPPED (s.sys.hartKennel h) = false := ⟨ic (fun s => { s with icn := { s.icn with postings := [⟨4, 40, 3⟩] } }), .hart 64, 64, 2, by decide⟩

theorem witness_SourceEvents_0 : ∃ (s : State) (req : Requester) (dom : Fin 16) (v : Word), s.Takes (.icnMessage req dom v) ∧ s.sys.on F.ICN_DOM_CFG_CLK_STOPPED dom = false ∧ s.sys.icn.inReset.contains dom.val = false ∧ s.sys.srcPresent dom (fget v 0 12) = true ∧ 16 ≤ fget v 0 12 ∧ s.sys.srcLevel dom (fget v 0 12) = false ∧ ((s.sys.whoIs req).1.secure = true ∨ s.sys.on F.ICN_SRC_SEC dom (fget v 0 12) = false) := ⟨ic, .hart 64, 4, 41, by decide⟩
theorem witness_SourceEvents_1 : ∃ (s : State) (req : Requester) (dom : Fin 16) (v : Word), s.Takes (.icnMessage req dom v) ∧ s.sys.on F.ICN_DOM_CFG_CLK_STOPPED dom = false ∧ s.sys.icn.inReset.contains dom.val = false ∧ (s.sys.srcPresent dom (fget v 0 12) = false ∨ fget v 0 12 < 16 ∨ s.sys.srcLevel dom (fget v 0 12) = true ∨ (s.sys.on F.ICN_SRC_SEC dom (fget v 0 12) = true ∧ (s.sys.whoIs req).1.secure = false)) := ⟨ic, .hart 64, 4, 101, by decide⟩
theorem witness_SourceEvents_2 : ∃ (s : State) (req : Requester) (dom : Fin 16) (v : Word), s.Takes (.icnMessage req dom v) ∧ s.sys.on F.ICN_DOM_CFG_CLK_STOPPED dom = false ∧ s.sys.icn.inReset.contains dom.val = true := ⟨ic (fun s => { s with icn := { s.icn with inReset := [4] } }), .hart 64, 4, 41, by decide⟩
theorem witness_SourceEvents_3 : ∃ (s : State) (req : Requester) (dom : Fin 16) (id : Fin 4095) (v : Word), s.Takes (.sourceSet req dom id v) ∧ s.sys.on F.ICN_DOM_CFG_CLK_STOPPED dom = false ∧ 16 ≤ id.val ∧ fget v 60 1 = 0 ∧ fget v 58 1 = 0 ∧ ((s.sys.whoIs req).1.secure = true ∨ (s.sys.on F.ICN_SRC_SEC dom id = false ∧ (fget v 40 4 ≠ 0 ∨ fget v 57 1 = 1))) := ⟨ic, .hart 64, 4, 41, 0x0130014000000000, by decide⟩
theorem witness_SourceEvents_4 : ∃ (s : State) (req : Requester) (dom : Fin 16) (id : Fin 4095) (v : Word), s.Takes (.sourceClr req dom id v) ∧ s.sys.on F.ICN_DOM_CFG_CLK_STOPPED dom = false ∧ 16 ≤ id.val ∧ fget v 61 1 = 0 ∧ fget v 58 1 = 0 ∧ ((s.sys.whoIs req).1.secure = true ∨ (s.sys.on F.ICN_SRC_SEC dom id = false ∧ (fget v 40 4 ≠ 0 ∨ fget v 57 1 = 1))) := ⟨ic, .hart 64, 4, 40, 0x0130014000000000, by decide⟩
theorem witness_SourceEvents_5 : ∃ (s : State) (req : Requester) (dom : Fin 16) (id : Fin 4095) (v : Word), s.Takes (.sourceRouteWrite req dom id v) ∧ s.sys.on F.ICN_DOM_CFG_CLK_STOPPED dom = false ∧ 16 ≤ id.val ∧ fget v 60 2 = 0 ∧ ((s.sys.whoIs req).1.secure = true ∨ (s.sys.on F.ICN_SRC_SEC dom id = false ∧ (fget v 40 4 ≠ 0 ∨ fget v 57 1 = 1))) := ⟨ic, .hart 64, 4, 40, 0x0130014000000000, by decide⟩
theorem witness_SourceEvents_6 : ∃ (s : State) (req : Requester) (dom : Fin 16) (id : Fin 4095) (v : Word), s.Takes (.sourceRouteWrite req dom id v) ∧ s.sys.on F.ICN_DOM_CFG_CLK_STOPPED dom = false ∧ (s.sys.whoIs req).1.secure = false ∧ (s.sys.on F.ICN_SRC_SEC dom id = true ∨ (fget v 40 4 = 0 ∧ fget v 57 1 = 0)) := ⟨ic, .remote 4 false true, 4, 40, 0x0130004000000000, by decide⟩
theorem witness_SourceEvents_7 : ∃ (s : State) (w : Fin 16) (d : Nat) (id : Nat), s.Live ∧ s.sys.wireDrives w d id = true ∧ s.sys.srcLevel d id = false ∧ s.sys.on F.ICN_DOM_CFG_CLK_STOPPED d = false := ⟨ic (fun s => ((s.put F.ICN_WIRE_VALID 1 3).put F.ICN_WIRE_DOMAIN 4 3).put F.ICN_WIRE_SOURCE 41 3), 3, 4, 41, by decide⟩
theorem witness_SourceEvents_8 : ∃ (s : State) (w : Fin 16) (d : Nat) (id : Nat), s.Live ∧ s.sys.wireDrives w d id = true ∧ s.sys.srcLevel d id = false ∧ s.sys.on F.ICN_DOM_CFG_CLK_STOPPED d = true := ⟨ic (fun s => (((s.put F.ICN_WIRE_VALID 1 3).put F.ICN_WIRE_DOMAIN 4 3).put F.ICN_WIRE_SOURCE 41 3).put F.ICN_DOM_CFG_CLK_STOPPED 1 4), 3, 4, 41, by decide⟩
theorem witness_SourceEvents_9 : ∃ (s : State) (w : Fin 16) (level : Bool), s.Live ∧ s.sys.wireDrives w (s.sys.rf F.ICN_WIRE_DOMAIN w) (s.sys.rf F.ICN_WIRE_SOURCE w) = true ∧ s.sys.srcLevel (s.sys.rf F.ICN_WIRE_DOMAIN w) (s.sys.rf F.ICN_WIRE_SOURCE w) = true := ⟨ic (fun s => (((s.put F.ICN_WIRE_VALID 1 3).put F.ICN_WIRE_DOMAIN 4 3).put F.ICN_WIRE_SOURCE 41 3).put F.ICN_SRC_TYPE 1 4 41), 3, true, by decide⟩
theorem witness_SourceEvents_10 : ∃ (s : State) (dom : Fin 16) (g : Fin 64) (e : Nat), s.Live ∧ Bank.get? s.sys.icn.holdoff (dom.val, g.val) = some e ∧ s.sys.span.now ≤ e ∧ e - s.sys.span.now ≤ s.sys.spanS - s.sys.phase ∧ s.sys.icn.holdoff.all (fun p => p.1 != (dom.val, g.val) || p.2 == e) = true := ⟨ic (fun s => { s with icn := { s.icn with holdoff := [((4, 5), 100)] } }), 4, 5, 100, by decide⟩
theorem witness_SourceEvents_11 : ∃ (s : State) (dom : Fin 16) (id : Fin 4095), s.Live ∧ s.sys.srcEligible dom id = true ∧ s.sys.on F.ICN_SRC_POSTED dom id = true ∧ s.sys.residents dom (s.sys.rf F.ICN_SRC_VCPU dom id) = [] ∧ s.sys.icn.postings.any (fun p => p.dom == dom.val && p.id == id.val) = false ∧ s.sys.rf F.ICN_SRC_VCPU dom id < s.sys.rf F.ICN_DOM_PTAB_VCPUS dom := ⟨icp, 4, 40, by decide⟩
theorem witness_SourceEvents_12 : ∃ (s : State) (dom : Fin 16) (id : Fin 4095), s.Live ∧ s.sys.srcEligible dom id = true ∧ s.sys.on F.ICN_SRC_POSTED dom id = true ∧ s.sys.residents dom (s.sys.rf F.ICN_SRC_VCPU dom id) = [] ∧ s.sys.icn.postings.any (fun p => p.dom == dom.val && p.id == id.val) = false ∧ s.sys.rf F.ICN_DOM_PTAB_VCPUS dom ≤ s.sys.rf F.ICN_SRC_VCPU dom id := ⟨icp (fun s => s.put F.ICN_DOM_PTAB_VCPUS 3 4), 4, 40, by decide⟩
theorem witness_SourceEvents_13 : ∃ (s : State) (dom : Fin 16) (id : Fin 4095) (q : Posting), s.Live ∧ s.Inv ∧ s.sys.icn.postings.find? (fun p => p.dom == dom.val && p.id == id.val) = some q ∧ s.sys.postAdmits dom (s.sys.rf F.ICN_DOM_PTAB_BASE dom * 4096 + 0x1000 * (1 + q.vcpu) + id) = true ∧ s.sys.postAdmits dom (s.sys.rf F.ICN_DOM_PTAB_BASE dom * 4096 + q.vcpu) = true ∧ q.vcpu < 0x1000 ∧ s.sys.on F.ICN_DOM_CFG_CLK_STOPPED dom = false ∧ s.sys.srcPresent dom 4 = true ∧ id.val ≠ 4 := ⟨{ icp (fun s => { s with conf := { s.conf with ilv := [⟨0, false, 1, 0, 1, 0, 2 ^ 30, 0⟩] }, icn := { s.icn with postings := [⟨4, 40, 3⟩] }, regionNow := [((0, 0), (0xB400000000000000, 0x10000000))] }) with pending := [] }, 4, 40, ⟨4, 40, 3⟩, by decide +kernel⟩
theorem witness_SourceEvents_14 : ∃ (s : State) (dom : Fin 16) (id : Fin 4095) (q : Posting), s.Live ∧ s.sys.icn.postings.find? (fun p => p.dom == dom.val && p.id == id.val) = some q ∧ s.sys.postAdmits dom (s.sys.rf F.ICN_DOM_PTAB_BASE dom * 4096 + 0x1000 * (1 + q.vcpu) + id) = false := ⟨icp (fun s => { s with icn := { s.icn with postings := [⟨4, 40, 3⟩] }, regionNow := [((0, 0), (0x8900000000100000, 0x1000000))] }), 4, 40, ⟨4, 40, 3⟩, by decide⟩
theorem witness_SourceEvents_15 : ∃ (s : State) (dom : Fin 16), s.Live ∧ ((s.sys.kennelHarts dom).all (fun h => s.sys.coreState h == psCs3 || s.sys.coreState h == psCs4) = true ∨ (dom.val = 15 ∧ (below 4).all (fun e => s.sys.rf F.DRM_CORE_CTL_STATE e != 1) = true)) ∧ s.sys.regs.all (fun q => !(lineReg q.1 && s.sys.domOf q.1 == some dom.val) || fget q.2 63 1 == 0) = true ∧ (below 64).all (fun g => !s.sys.grpHeld dom g) = true ∧ s.sys.icn.waiting.all (fun m => m.dom != dom.val) = true ∧ s.sys.icn.latched.all (fun p => p.1 != dom.val) = true := ⟨ic (fun s => { s with conf := { s.conf with tiles := [] } }), 4, by decide⟩
theorem witness_SourceEvents_16 : ∃ (s : State) (dom : Fin 16), s.Live ∧ s.sys.on F.ICN_DOM_CFG_CLK_STOPPED dom = true ∧ (s.sys.icn.waiting.any (fun m => m.dom == dom.val) = true ∨ s.sys.icn.latched.any (fun p => p.1 == dom.val) = true) := ⟨ic (fun s => { s.put F.ICN_DOM_CFG_CLK_STOPPED 1 4 with icn := { s.icn with latched := [(4, 41)] } }), 4, by decide⟩

end C11

/-! ## Chapter 12 -/

namespace C12
/-- A state with link 0 of port 1 a root port's of kennel 4, in a link state, its window and bus numbers set and Bus Master Enable 1. -/
def rt (st : Nat) (f : LinkSt → LinkSt := id) (g : Sys → Sys := id) : State := mkS (fun s => g (((({ s with conf := { s.conf with
  kennels := [(4, { KennelRec.none with enabled := true })], tiles := [(16, ⟨4, 15, true⟩)], ports := [(1, ⟨1, 0, 6, [4], 0⟩)], ilv := [⟨0, false, 1, 0, 1, 0, 2 ^ 30, 0⟩] } }.put
  F.IOP_LINK_STATUS_STATE st 1 0).put F.IOP_LINK_STATUS_BME 1 1 0).put F.IOP_LINK_CTL_IDLE_L1 20 1 0).onLink 1 0 (fun l => f { l with
  perst := false, cfg := [(1, 6), (6, 0x030100), (8, 0x00F00010), (9, 0x0000FFF0)] })))
/-- A state with the endpoint of port 0, owned by kennel 4, its link in a state, with BAR 2 of 64 KiB at 0x10000. -/
def ep (st : Nat) (f : EpSt → EpSt := id) (g : Sys → Sys := id) : State := mkS (fun s => g (((((({ s with conf := { s.conf with
  kennels := [(4, { KennelRec.none with enabled := true })], tiles := [(16, ⟨4, 15, true⟩)], ports := [(0, ⟨3, 0, 6, [4], 0⟩)], ilv := [⟨0, false, 1, 0, 1, 0, 2 ^ 30, 0⟩] } }.put
  F.IOP_LINK_STATUS_STATE st 0 0).put F.IOP_EP_BAR_ENABLE 1 0 2).put F.IOP_EP_BAR_SIZE_LOG2 16 0 2).put F.IOP_EP_STATUS_BME 1 0).put
  F.IOP_EP_STATUS_MSI_VECTORS 4 0).onEp 0 (fun e => f { e with bars := [(2, 0x10000)], msiAddr := 0xFEE00000, msiData := 0x40, perstIn := true })))
/-- The same with entry 5 of the translation table for the whole of BAR 2, to a page of memory for kennel 4. -/
def epx (ty tgt : Nat) (g : Sys → Sys := id) : State := ep 3 id (fun s => g ((((((((s.put F.IOP_EP_XLAT_ENABLE 1 0 5).put F.IOP_EP_XLAT_TYPE ty 0 5).put
  F.IOP_EP_XLAT_READ 1 0 5).put F.IOP_EP_XLAT_WRITE 1 0 5).put F.IOP_EP_XLAT_KENNEL 4 0 5).put F.IOP_EP_XLAT_BAR 2 0 5).put F.IOP_EP_XLAT_SIZE_LOG2 16 0 5).put
  F.IOP_EP_XLAT_TGT_ADDR tgt 0 5))

theorem witness_PortRequests_0 : ∃ (s : State) (who : ReqSrc) (pa : PAddr) (n : Fin 65) (peer : Option (BitVec 512)) (p : Fin 8) (j : Fin 4), s.Live ∧ regionOf pa.toNat = .window s.sys.socket ∧ s.sys.portOfPa pa.toNat = some p.val ∧ s.sys.portHeld p = false ∧ s.sys.isRoot p = true ∧ s.sys.linkOfOffset p ((pa.toNat - portWindow s.sys.socket 0) % 0x100000000000) = some j.val ∧ s.sys.linkAdmits p j (s.ioOf who false pa.toNat n 0).2.1 (s.ioOf who false pa.toNat n 0).2.2.1 false = true ∧ s.sys.linkUp p j = true ∧ (s.sys.link p j).reset = .none := ⟨rt 3, .core 64, 0xE100000100000, 8, none, 1, 0, by decide⟩
theorem witness_PortRequests_1 : ∃ (s : State) (who : ReqSrc) (pa : PAddr) (n : Fin 65) (peer : Option (BitVec 512)) (p : Fin 8) (j : Fin 4), s.Live ∧ regionOf pa.toNat = .window s.sys.socket ∧ s.sys.portOfPa pa.toNat = some p.val ∧ s.sys.portHeld p = false ∧ s.sys.isRoot p = true ∧ s.sys.linkOfOffset p ((pa.toNat - portWindow s.sys.socket 0) % 0x100000000000) = some j.val ∧ s.sys.linkAdmits p j (s.ioOf who false pa.toNat n 0).2.1 (s.ioOf who false pa.toNat n 0).2.2.1 false = false := ⟨rt 3, .core 0, 0xE100000100000, 8, none, 1, 0, by decide⟩
theorem witness_PortRequests_2 : ∃ (s : State) (who : ReqSrc) (pa : PAddr) (n : Fin 65) (data : BitVec 512) (p : Fin 8) (j : Fin 4), s.Live ∧ regionOf pa.toNat = .window s.sys.socket ∧ s.sys.portOfPa pa.toNat = some p.val ∧ s.sys.portHeld p = false ∧ s.sys.isRoot p = true ∧ s.sys.linkOfOffset p ((pa.toNat - portWindow s.sys.socket 0) % 0x100000000000) = some j.val ∧ s.sys.linkAdmits p j (s.ioOf who true pa.toNat n (data.toNat % 2 ^ (8 * n.val))).2.1 (s.ioOf who true pa.toNat n (data.toNat % 2 ^ (8 * n.val))).2.2.1 false = true ∧ s.sys.linkUp p j = true ∧ (s.sys.link p j).reset = .none := ⟨rt 4, .core 64, 0xE100000100000, 8, 0x1122, 1, 0, by decide⟩
theorem witness_PortRequests_3 : ∃ (s : State) (who : ReqSrc) (pa : PAddr) (n : Fin 65) (data : BitVec 512) (p : Fin 8), s.Live ∧ regionOf pa.toNat = .window s.sys.socket ∧ s.sys.portOfPa pa.toNat = some p.val ∧ s.sys.portHeld p = false ∧ s.sys.isRoot p = true ∧ s.sys.linkOfOffset p ((pa.toNat - portWindow s.sys.socket 0) % 0x100000000000) = none := ⟨rt 3, .core 64, 0xE100010000000, 8, 0x1122, 1, by decide⟩
theorem witness_PortRequests_4 : ∃ (s : State) (who : ReqSrc) (pa : PAddr) (size : Size) (peer : Option (BitVec 512)) (p : Fin 8) (j : Fin 4) (dw : Nat), s.Live ∧ regionOf pa.toNat = .ecam s.sys.socket ∧ s.sys.portOfPa pa.toNat = some p.val ∧ s.sys.portHeld p = false ∧ s.sys.isRoot p = true ∧ s.sys.hasLink p j = true ∧ (s.ioOf who false pa.toNat size.bytes 0).2.2.2.1 = size.bytes ∧ size.bytes ≤ 4 ∧ pa.toNat % size.bytes = 0 ∧ pa.toNat % 0x10000000 = j.val * 2 ^ 15 + 4 * dw + pa.toNat % 4 ∧ [6, 8, 9, 10, 11, 15].contains dw = true ∧ s.sys.linkAdmits p j (s.ioOf who false pa.toNat size.bytes 0).2.1 (s.ioOf who false pa.toNat size.bytes 0).2.2.1 true = true := ⟨rt 3, .core 64, 0xF000010000020, .b4, none, 1, 0, 8, by decide⟩
theorem witness_PortRequests_5 : ∃ (s : State) (who : ReqSrc) (pa : PAddr) (size : Size) (peer : Option (BitVec 512)) (p : Fin 8) (j : Fin 4), s.Live ∧ regionOf pa.toNat = .ecam s.sys.socket ∧ s.sys.portOfPa pa.toNat = some p.val ∧ s.sys.portHeld p = false ∧ s.sys.isRoot p = true ∧ (s.ioOf who false pa.toNat size.bytes 0).2.2.2.1 = size.bytes ∧ size.bytes ≤ 4 ∧ pa.toNat % size.bytes = 0 ∧ nget pa.toNat 20 8 ≠ 0 ∧ s.sys.linkOfBus p (nget pa.toNat 20 8) = some j.val ∧ s.sys.linkAdmits p j (s.ioOf who false pa.toNat size.bytes 0).2.1 (s.ioOf who false pa.toNat size.bytes 0).2.2.1 true = true ∧ s.sys.linkUp p j = true ∧ (s.sys.link p j).reset = .none := ⟨rt 3, .core 64, 0xF000010200010, .b4, none, 1, 0, by decide⟩
theorem witness_PortRequests_6 : ∃ (s : State) (who : ReqSrc) (pa : PAddr) (size : Size) (data : Word) (p : Fin 8) (j : Fin 4) (dw : Nat) (m : Nat), s.Live ∧ regionOf pa.toNat = .ecam s.sys.socket ∧ s.sys.portOfPa pa.toNat = some p.val ∧ s.sys.portHeld p = false ∧ s.sys.isRoot p = true ∧ s.sys.hasLink p j = true ∧ s.ioOf who true pa.toNat size.bytes data.toNat = ((s.sys.srcOf who).1, (s.sys.srcOf who).2.1, (s.sys.srcOf who).2.2, size.bytes, data.toNat, false) ∧ size = .b4 ∧ pa.toNat % 0x10000000 = j.val * 2 ^ 15 + 4 * dw ∧ hdrMask dw = some m ∧ s.sys.linkAdmits p j (s.sys.srcOf who).2.1 (s.sys.srcOf who).2.2 true = true := ⟨rt 3, .core 64, 0xF000010000004, .b4, 6, 1, 0, 1, 0x547, by decide⟩
theorem witness_PortRequests_7 : ∃ (s : State) (who : ReqSrc) (p : Fin 8) (j : Fin 4), s.Live ∧ s.sys.isRoot p = true ∧ s.sys.hasLink p j = true ∧ s.sys.socket < 2 ∧ s.ioOf who true (portSegment s.sys.socket p + j.val * 2 ^ 15 + 4) 2 (setBit (s.sys.hdr p j 1 % 65536) 2 false) = ((s.sys.srcOf who).1, (s.sys.srcOf who).2.1, (s.sys.srcOf who).2.2, 2, setBit (s.sys.hdr p j 1 % 65536) 2 false, false) ∧ s.sys.linkAdmits p j (s.sys.srcOf who).2.1 (s.sys.srcOf who).2.2 true = true := ⟨rt 3, .core 64, 1, 0, by decide⟩
theorem witness_PortRequests_8 : ∃ (s : State) (p : Fin 8) (j : Fin 4) (place : Nat) (c : CplResult) (o : OutReq) (w : Source), s.Live ∧ (s.sys.link p j).out[place]? = some o ∧ o.by_ = .src w ∧ o.kind = .mem ∧ s.sys.linkUp p j = true ∧ s.sys.heeled = false ∧ s.sys.links.all (fun q => q.2.inq.isEmpty && q.2.reset == .none) = true ∧ c ≠ .retry false ∧ c ≠ .retry true := ⟨rt 3 (fun l => { l with out := [⟨.src (.core 64), .mem, 0xE100000100000, 8⟩] }), 1, 0, 0, .ok 5, ⟨.src (.core 64), .mem, 0xE100000100000, 8⟩, .core 64, by decide⟩
theorem witness_PortRequests_9 : ∃ (s : State) (p : Fin 8) (j : Fin 4) (place : Nat) (c : CplResult) (o : OutReq) (w : Source), s.Live ∧ (s.sys.link p j).out[place]? = some o ∧ o.by_ = .src w ∧ o.kind = .cfgRead ∧ s.sys.linkUp p j = true ∧ s.sys.heeled = false ∧ s.sys.links.all (fun q => q.2.inq.isEmpty && q.2.reset == .none) = true ∧ c ≠ .retry false ∧ c ≠ .retry true := ⟨rt 3 (fun l => { l with out := [⟨.src (.core 64), .cfgRead, 0xF000010200000, 4⟩] }), 1, 0, 0, .poisoned, ⟨.src (.core 64), .cfgRead, 0xF000010200000, 4⟩, .core 64, by decide⟩
theorem witness_PortRequests_10 : ∃ (s : State) (p : Fin 8) (j : Fin 4) (place : Nat) (o : OutReq) (w : Source), s.Live ∧ (s.sys.link p j).out[place]? = some o ∧ o.by_ = .src w ∧ o.kind ≠ .cfgWrite ∧ s.sys.heeled = false ∧ s.sys.links.all (fun q => q.2.inq.isEmpty && q.2.reset == .none) = true := ⟨rt 3 (fun l => { l with out := [⟨.src (.core 64), .mem, 0xE100000100000, 8⟩] }), 1, 0, 0, ⟨.src (.core 64), .mem, 0xE100000100000, 8⟩, .core 64, by decide⟩
theorem witness_PortRequests_11 : ∃ (s : State) (p : Fin 8) (j : Fin 4) (a : Word) (n : Fin 4097) (ro : Bool) (reqId : BitVec 16) (z : Nat), s.Live ∧ s.sys.portHeld p = false ∧ s.sys.isRoot p = true ∧ s.sys.linkTakes p j = true ∧ n.val ≠ 0 ∧ (s.sys.link p j).reset = .none ∧ s.sys.rootBme p j = true ∧ regionOf a.toNat = .dram z ∧ (s.sys.link p j).inq = [] := ⟨rt 3, 1, 0, 0x100, 100, false, 0x300, 0, by decide⟩
theorem witness_PortRequests_12 : ∃ (s : State) (p : Fin 8) (j : Fin 4) (a : Word) (n : Fin 4097) (data : Nat) (e : Bool) (ro : Bool) (reqId : BitVec 16) (z : Nat), s.Live ∧ s.sys.portHeld p = false ∧ s.sys.isRoot p = true ∧ s.sys.linkTakes p j = true ∧ n.val ≠ 0 ∧ (s.sys.link p j).reset = .none ∧ s.sys.rootBme p j = true ∧ regionOf a.toNat = .dram z ∧ (s.sys.link p j).inq = [] := ⟨rt 4, 1, 0, 0x100, 4, 0x12345678, true, false, 0x300, 0, by decide⟩
theorem witness_PortRequests_13 : ∃ (s : State) (p : Fin 8) (j : Fin 4) (a : Word) (n : Fin 4097) (data : Nat) (e : Bool) (ro : Bool) (bad : Bool) (reqId : BitVec 16), s.Live ∧ s.sys.portHeld p = false ∧ s.sys.isRoot p = true ∧ s.sys.linkTakes p j = true ∧ n.val ≠ 0 ∧ (s.sys.link p j).reset = .none ∧ s.sys.rootBme p j = false := ⟨rt 3 (fun l => { l with cfg := [] }), 1, 0, 0x100, 4, 0x12345678, false, false, false, 0x300, by decide⟩
theorem witness_PortRequests_14 : ∃ (s : State) (p : Fin 8) (j : Fin 4) (a : Word) (n : Fin 4097) (ro : Bool) (bad : Bool) (reqId : BitVec 16), s.Live ∧ s.sys.portHeld p = false ∧ s.sys.isRoot p = true ∧ s.sys.linkTakes p j = true ∧ n.val ≠ 0 ∧ (s.sys.link p j).reset = .none ∧ (s.sys.rootBme p j = false ∨ bad = true ∨ (match regionOf a.toNat with | .dram _ | .cxl _ | .window _ => false | _ => true) = true) := ⟨rt 3 (fun l => { l with cfg := [] }), 1, 0, 0x100, 4, false, false, 0x300, by decide⟩
theorem witness_PortRequests_15 : ∃ (s : State) (p : Fin 8) (j : Fin 4) (off : BitVec 12) (n : Fin 4097) (data : Nat) (reqId : BitVec 16), s.Live ∧ s.sys.portHeld p = false ∧ s.sys.isRoot p = true ∧ s.sys.linkTakes p j = true ∧ (n.val = 4 ∨ n.val = 8) ∧ off.toNat % n.val = 0 ∧ (s.sys.link p j).reset = .none ∧ s.sys.rootBme p j = true ∧ (s.sys.link p j).inq = [] ∧ s.sys.on F.ICN_DOM_CFG_CLK_STOPPED (s.sys.linkKennel p j) = false ∧ s.sys.icn.inReset.contains (s.sys.linkKennel p j) = false := ⟨rt 3, 1, 0, 8, 4, 40, 0x300, by decide⟩
theorem witness_PortRequests_16 : ∃ (s : State) (p : Fin 8) (j : Fin 4) (off : BitVec 12) (n : Fin 4097) (data : Nat) (reqId : BitVec 16), s.Live ∧ s.sys.portHeld p = false ∧ s.sys.isRoot p = true ∧ s.sys.linkTakes p j = true ∧ n.val ≠ 0 ∧ ((n.val ≠ 4 ∧ n.val ≠ 8) ∨ off.toNat % n.val ≠ 0) ∧ (s.sys.link p j).reset = .none ∧ s.sys.rootBme p j = true := ⟨rt 3, 1, 0, 2, 4, 40, 0x300, by decide⟩
theorem witness_PortRequests_17 : ∃ (s : State) (p : Fin 8) (j : Fin 4) (wire : Fin 4), s.Live ∧ s.sys.isRoot p = true ∧ s.sys.linkTakes p j = true ∧ (s.sys.link p j).reset = .none := ⟨rt 3, 1, 0, 2, by decide⟩
theorem witness_PortRequests_18 : ∃ (s : State) (p : Fin 8) (j : Fin 4) (wire : Fin 4), s.Live ∧ s.sys.isRoot p = true ∧ s.sys.linkTakes p j = true ∧ (s.sys.link p j).reset = .none := ⟨rt 3 (fun l => { l with wires := 4 }), 1, 0, 2, by decide⟩
theorem witness_PortRequests_19 : ∃ (s : State) (p : Fin 8) (j : Fin 4), s.Live ∧ s.sys.isRoot p = true ∧ s.sys.linkTakes p j = true := ⟨rt 3, 1, 0, by decide⟩

theorem witness_EndpointPort_0 : ∃ (s : State) (p : Fin 8) (write : Bool) (a : Word) (n : Fin 4097) (data : Nat) (e : Bool) (ro : Bool) (reqId : BitVec 16) (b : Nat) (o : Nat) (i : Nat) (z : Nat), s.Live ∧ s.sys.portHeld p = false ∧ s.sys.isEp p = true ∧ s.sys.linkTakes p 0 = true ∧ n.val ≠ 0 ∧ s.sys.barOf p a.toNat = some (b, o) ∧ s.sys.xlatOf p b o = some i ∧ (s.sys.link p 0).reset = .none ∧ (s.sys.link p 0).inq = [] ∧ o + n.val ≤ s.sys.rf F.IOP_EP_XLAT_OFFSET p i * 4096 + 2 ^ s.sys.rf F.IOP_EP_XLAT_SIZE_LOG2 p i ∧ (if write then s.sys.on F.IOP_EP_XLAT_WRITE p i else s.sys.on F.IOP_EP_XLAT_READ p i) = true ∧ s.sys.rf F.IOP_EP_XLAT_TYPE p i = 0 ∧ regionOf (s.sys.rf F.IOP_EP_XLAT_TGT_ADDR p i * 4096 + (o - s.sys.rf F.IOP_EP_XLAT_OFFSET p i * 4096)) = .dram z := ⟨epx 0 0, 0, true, 0x10100, 8, 7, false, false, 0x100, 2, 0x100, 5, 0, by decide⟩
theorem witness_EndpointPort_1 : ∃ (s : State) (p : Fin 8) (write : Bool) (a : Word) (n : Fin 4097) (data : Nat) (e : Bool) (ro : Bool) (reqId : BitVec 16) (b : Nat) (o : Nat), s.Live ∧ s.sys.portHeld p = false ∧ s.sys.isEp p = true ∧ s.sys.linkTakes p 0 = true ∧ n.val ≠ 0 ∧ s.sys.barOf p a.toNat = some (b, o) ∧ s.sys.xlatOf p b o = none := ⟨ep 3, 0, false, 0x10100, 8, 0, false, false, 0x100, 2, 0x100, by decide⟩
theorem witness_EndpointPort_2 : ∃ (s : State) (p : Fin 8) (write : Bool) (a : Word) (n : Fin 4097) (data : Nat) (e : Bool) (ro : Bool) (reqId : BitVec 16) (b : Nat) (o : Nat) (i : Nat), s.Live ∧ s.sys.portHeld p = false ∧ s.sys.isEp p = true ∧ s.sys.linkTakes p 0 = true ∧ n.val ≠ 0 ∧ s.sys.barOf p a.toNat = some (b, o) ∧ s.sys.xlatOf p b o = some i ∧ (s.sys.link p 0).reset = .none ∧ o + n.val ≤ s.sys.rf F.IOP_EP_XLAT_OFFSET p i * 4096 + 2 ^ s.sys.rf F.IOP_EP_XLAT_SIZE_LOG2 p i ∧ (if write then s.sys.on F.IOP_EP_XLAT_WRITE p i else s.sys.on F.IOP_EP_XLAT_READ p i) = false := ⟨epx 0 0 (fun s => s.put F.IOP_EP_XLAT_READ 0 0 5), 0, false, 0x10100, 8, 0, false, false, 0x100, 2, 0x100, 5, by decide⟩
theorem witness_EndpointPort_3 : ∃ (s : State) (req : Requester) (p : Fin 8) (v : Word), s.Takes (.xlatCommit req p v) ∧ s.sys.on F.IOP_EP_XCOMMIT_OLD_BUSY p = false ∧ fget (s.sys.rd ⟨.IOP_EP_XSH, p, fget v 0 6⟩) 63 1 = 0 := ⟨epx 0 0, .tether 0, 0, 5, by decide⟩
theorem witness_EndpointPort_4 : ∃ (s : State) (req : Requester) (p : Fin 8) (v : Word), s.Takes (.xlatCommit req p v) ∧ fget v 61 1 = 0 ∧ (s.sys.on F.IOP_EP_XCOMMIT_OLD_BUSY p = true ∨ (fget (s.sys.rd ⟨.IOP_EP_XSH, p, fget v 0 6⟩) 63 1 = 1 ∧ (fget (s.sys.rd ⟨.IOP_EP_XSH, p, fget v 0 6⟩) 45 6 < 12 ∨ 38 < fget (s.sys.rd ⟨.IOP_EP_XSH, p, fget v 0 6⟩) 45 6 ∨ (s.sys.conf.kennel (fget (s.sys.rd ⟨.IOP_EP_XSH, p, fget v 0 6⟩) 54 4)).enabled = false))) := ⟨epx 0 0 (fun s => s.put F.IOP_EP_XCOMMIT_OLD_BUSY 1 0), .tether 0, 0, 5, by decide⟩
theorem witness_EndpointPort_5 : ∃ (s : State) (p : Fin 8), s.Live ∧ s.sys.on F.IOP_EP_XCOMMIT_OLD_BUSY p = true ∧ (s.sys.ep p).old.all (fun id => (s.sys.link p 0).inq.all (fun r => r.id != id)) = true := ⟨epx 0 0 (fun s => s.put F.IOP_EP_XCOMMIT_OLD_BUSY 1 0), 0, by decide⟩
theorem witness_EndpointPort_6 : ∃ (s : State) (req : Requester) (p : Fin 8) (v : Word) (n : Nat), s.Takes (.epMsiRequest req p v) ∧ s.sys.isEp p = true ∧ n = fget v 0 5 % max 1 (s.sys.rf F.IOP_EP_STATUS_MSI_VECTORS p) ∧ (s.sys.linkUp p 0 = false ∨ s.sys.on F.IOP_EP_STATUS_BME p = false ∨ s.sys.on F.IOP_EP_STATUS_MSI_EN p = false) := ⟨ep 3, .tether 0, 0, 6, 2, by decide⟩
theorem witness_EndpointPort_7 : ∃ (s : State) (req : Requester) (p : Fin 8) (v : Word) (n : Nat), s.Takes (.epMsiRequest req p v) ∧ s.sys.isEp p = true ∧ n = fget v 0 5 % max 1 (s.sys.rf F.IOP_EP_STATUS_MSI_VECTORS p) ∧ s.sys.linkUp p 0 = true ∧ s.sys.on F.IOP_EP_STATUS_BME p = true ∧ s.sys.on F.IOP_EP_STATUS_MSI_EN p = true ∧ s.sys.heeled = false ∧ bit (s.sys.ep p).masks n = false ∧ s.sys.rf F.IOP_EP_MSI_PENDING p = 0 := ⟨ep 3 id (fun s => s.put F.IOP_EP_STATUS_MSI_EN 1 0), .tether 0, 0, 6, 2, by decide⟩
theorem witness_EndpointPort_8 : ∃ (s : State) (req : Requester) (p : Fin 8) (v : Word), s.Takes (.epIntxWrite req p v) ∧ s.sys.isEp p = true ∧ s.sys.linkUp p 0 = true := ⟨ep 3, .tether 0, 0, 1, by decide⟩
theorem witness_EndpointPort_9 : ∃ (s : State) (p : Fin 8) (mem : Bool) (bme : Bool) (dis : Bool), s.Live ∧ s.sys.isEp p = true ∧ s.sys.linkTakes p 0 = true := ⟨ep 3, 0, true, true, false, by decide⟩
theorem witness_EndpointPort_10 : ∃ (s : State) (p : Fin 8), s.Live ∧ s.sys.isEp p = true ∧ s.sys.linkTakes p 0 = true := ⟨ep 3, 0, by decide⟩
theorem witness_EndpointPort_11 : ∃ (s : State) (req : Requester) (p : Fin 8) (v : Word), s.Takes (.linkEn req p v) ∧ s.sys.isEp p = true ∧ s.sys.lkState p 0 = lkReset ∧ (s.sys.ep p).perstIn = true := ⟨ep 1, .tether 0, 0, 0, by decide⟩
theorem witness_EndpointPort_12 : ∃ (s : State) (p : Fin 8), s.Live ∧ s.sys.isEp p = true ∧ s.sys.linkUp p 0 = true := ⟨ep 3, 0, by decide⟩
theorem witness_EndpointPort_13 : ∃ (s : State) (p : Fin 8), s.Live ∧ s.sys.isEp p = true ∧ s.sys.lkState p 0 = lkReset ∧ s.sys.on F.IOP_EP_CTL_LINK_EN p = true := ⟨ep 1 (fun e => { e with perstIn := false }) (fun s => s.put F.IOP_EP_CTL_LINK_EN 1 0), 0, by decide⟩

theorem witness_LinkStates_0 : ∃ (s : State) (req : Requester) (p : Fin 8) (j : Fin 4) (v : Word), s.Takes (.perstRel req p j v) ∧ fget v 56 1 = 0 ∧ ((s.sys.whoIs req).1.secure = true ∨ s.sys.holdCount (80 + p.val) = 0) ∧ s.sys.isRoot p = true ∧ s.sys.hasLink p j = true ∧ s.sys.lkState p j = lkReset := ⟨rt 1, .tether 0, 1, 0, 0, by decide⟩
theorem witness_LinkStates_1 : ∃ (s : State) (req : Requester) (p : Fin 8) (j : Fin 4) (v : Word), s.Takes (.linkRetrain req p j v) ∧ fget v 56 1 = 0 ∧ ((s.sys.whoIs req).1.secure = true ∨ s.sys.holdCount (80 + p.val) = 0) ∧ s.sys.lkState p j = lkDown := ⟨rt 5, .tether 0, 1, 0, 0x2000000000000000, by decide⟩
theorem witness_LinkStates_2 : ∃ (s : State) (req : Requester) (p : Fin 8) (j : Fin 4) (v : Word), s.Takes (.dpcRelease req p j v) ∧ fget v 56 1 = 0 ∧ ((s.sys.whoIs req).1.secure = true ∨ s.sys.holdCount (80 + p.val) = 0) ∧ s.sys.lkState p j = lkContained := ⟨rt 6, .tether 0, 1, 0, 0x2000000000000000, by decide⟩
theorem witness_LinkStates_3 : ∃ (s : State) (req : Requester) (p : Fin 8) (j : Fin 4) (v : Word), s.Takes (.linkPwrReq req p j v) ∧ ((s.sys.whoIs req).1.secure = true ∨ s.sys.holdCount (80 + p.val) = 0) ∧ fget v 56 1 = 1 ∧ s.sys.lkState p j ≠ lkHeel ∧ s.sys.lkState p j ≠ lkOff ∧ fget v 61 3 = 1 := ⟨rt 3, .tether 0, 1, 0, 0x2100000000000000, by decide⟩
theorem witness_LinkStates_4 : ∃ (s : State) (req : Requester) (p : Fin 8) (j : Fin 4) (v : Word), s.Takes (.linkPwrReq req p j v) ∧ ((s.sys.whoIs req).1.secure = true ∨ s.sys.holdCount (80 + p.val) = 0) ∧ fget v 56 1 = 0 ∧ fget v 61 3 = 0 ∧ s.sys.lkState p j = lkOff ∧ s.sys.role p ≠ 0 := ⟨rt 0, .tether 0, 1, 0, 0, by decide⟩
theorem witness_LinkStates_5 : ∃ (s : State) (p : Fin 8) (j : Fin 4) (speed : Fin 7) (width : Fin 17) (cxl : Bool), s.Live ∧ s.sys.hasLink p j = true ∧ s.sys.lkState p j = lkTraining ∧ s.sys.heeled = false := ⟨rt 2, 1, 0, 6, 16, true, by decide⟩
theorem witness_LinkStates_6 : ∃ (s : State) (p : Fin 8) (j : Fin 4) (ev : LinkEvent) (dpc : Bool), s.Live ∧ s.sys.hasLink p j = true ∧ s.sys.heeled = false ∧ s.sys.linkUp p j = true ∧ (ev = .lost ∨ (dpc = true ∧ (ev = .fatal ∨ ev = .datapath))) ∧ (s.sys.link p j).out.all (fun o => match o.by_ with | .src _ => true | _ => false) = true := ⟨rt 3 (fun l => { l with out := [⟨.src (.core 64), .mem, 0xE100000100000, 8⟩], wires := 2 }), 1, 0, .lost, false, by decide⟩
theorem witness_LinkStates_7 : ∃ (s : State) (p : Fin 8) (j : Fin 4), s.Live ∧ s.sys.hasLink p j = true ∧ s.sys.heeled = false ∧ s.sys.linkUp p j = true := ⟨rt 3, 1, 0, by decide⟩
theorem witness_LinkStates_8 : ∃ (s : State) (p : Fin 8) (j : Fin 4), s.Live ∧ s.sys.lkState p j = lkUp ∧ s.sys.rf F.IOP_LINK_CTL_IDLE_L1 p j ≠ 0 ∧ (s.sys.link p j).out = [] ∧ (s.sys.link p j).inq = [] := ⟨rt 3, 1, 0, by decide⟩
theorem witness_LinkStates_9 : ∃ (s : State) (p : Fin 8) (j : Fin 4), s.Live ∧ s.sys.lkState p j = lkL1 := ⟨rt 4, 1, 0, by decide⟩
theorem witness_LinkStates_10 : ∃ (s : State) (p : Fin 8) (j : Fin 4), s.Live ∧ (s.sys.link p j).reset = .hot := ⟨rt 1 (fun l => { l with reset := .hot, cfg := [] }), 1, 0, by decide⟩

end C12

/-! ## Chapter 13 -/

namespace C13
/-- The job of an engine that serves channel 0. -/
def jb (p : EngPhase) : EngJob := ⟨0, p, [], [], false, 0⟩
/-- A state whose engine 0 serves channel 0 of kennel 2 with a job, the channel in a state, with grains at hand. -/
def rv (st : Nat) (j : Option EngJob) (d : Option Desc) (g : Sys → Sys := id) : State := mkS (fun s => g ((((((({ s with conf := { s.conf with
  kennels := [(2, { KennelRec.none with enabled := true, sliceMask := 2 })], tiles := [(1, ⟨2, 15, true⟩)], ilv := [⟨0, false, 1, 0, 1, 0, 2 ^ 30, 0⟩] } }.put F.RTV_CH_BIND_VALID 1 0).put
  F.RTV_CH_BIND_KENNEL 2 0).put F.RTV_CH_STATUS_STATE st 0).put F.RTV_CH_CTL_ENABLE 1 0).onEng 0 (fun t => { t with job := j })).onChn 0 (fun t => { t with desc := d })).onStop 64
  (fun t => { t with mem := [(2, 9)] })))
/-- A descriptor. -/
def ds (op src dst len : Nat) : Desc := ⟨op, true, 7, len, src, dst, 0x400, 0, 0, false, 0, none⟩
/-- With a staged line. -/
def sg (l : List Stage) (s : Sys) : Sys := { s with staging := [(0, l)] }

theorem witness_Descriptors_0 : ∃ (s : State) (e : Fin 8) (j : EngJob) (d : Desc) (l : Nat) (k : Nat) (a : Nat) (n : Nat) (g : Stage), s.Live ∧ s.sys.Runs e j d ∧ d.op = 1 ∧ d.dstLines (s.sys.ckpt j.chan) = [l] ∧ d.srcLines (s.sys.ckpt j.chan) = [k] ∧ s.sys.staged e k false = some g ∧ j.sent = [] ∧ inLine (d.dst + s.sys.ckpt j.chan) (chunkLen d (s.sys.ckpt j.chan)) l = (a, n) ∧ (n < 64 ∨ (s.sys.staged e l true).isSome = true) ∧ s.sys.engTo a = .home ∧ s.sys.StopClear (.engine e) (s.sys.chKennel j.chan) 1 ∧ (s.sys.conf.homeOf (s.sys.chKennel j.chan) (64 * l)).isSome = true := ⟨rv 3 (some (jb .run)) (some (ds 1 8 0x100 16)) (sg [⟨0, false, 0x8877665544332211, false⟩]), 0, jb .run, ds 1 8 0x100 16, 4, 0, 0x100, 16, ⟨0, false, 0x8877665544332211, false⟩, by decide +kernel⟩
theorem witness_Descriptors_1 : ∃ (s : State) (e : Fin 8) (j : EngJob) (d : Desc) (l : Nat) (a : Nat) (n : Nat), s.Live ∧ s.sys.Runs e j d ∧ d.op = 2 ∧ d.dstLines (s.sys.ckpt j.chan) = [l] ∧ j.sent = [] ∧ inLine (d.dst + s.sys.ckpt j.chan) (chunkLen d (s.sys.ckpt j.chan)) l = (a, n) ∧ n < 64 ∧ s.sys.engTo a = .home ∧ s.sys.StopClear (.engine e) (s.sys.chKennel j.chan) 1 ∧ (s.sys.conf.homeOf (s.sys.chKennel j.chan) (64 * l)).isSome = true := ⟨rv 3 (some (jb .run)) (some (ds 2 0x1122334455667788 0x103 9)), 0, jb .run, ds 2 0x1122334455667788 0x103 9, 4, 0x103, 9, by decide⟩
theorem witness_Descriptors_2 : ∃ (s : State) (e : Fin 8) (j : EngJob) (d : Desc) (l : Nat), s.Live ∧ s.sys.Runs e j d ∧ d.op = 5 ∧ d.dstLines (s.sys.ckpt j.chan) = [l] ∧ j.sent = [] ∧ inLine (d.dst + s.sys.ckpt j.chan) (chunkLen d (s.sys.ckpt j.chan)) l = (64 * l, 64) ∧ (s.sys.staged e l true).isSome = true ∧ s.sys.engTo (64 * l) = .home ∧ s.sys.StopClear (.engine e) (s.sys.chKennel j.chan) 1 ∧ (s.sys.conf.homeOf (s.sys.chKennel j.chan) (64 * l)).isSome = true := ⟨rv 3 (some (jb .run)) (some (ds 5 0 0x100 64)) (sg [⟨4, true, 5, false⟩]), 0, jb .run, ds 5 0 0x100 64, 4, by decide⟩
theorem witness_Descriptors_3 : ∃ (s : State) (e : Fin 8) (j : EngJob) (d : Desc) (l : Nat), s.Live ∧ s.sys.Runs e j d ∧ d.op = 5 ∧ d.dstLines (s.sys.ckpt j.chan) = [l] ∧ j.sent = [] ∧ inLine (d.dst + s.sys.ckpt j.chan) (chunkLen d (s.sys.ckpt j.chan)) l = (64 * l, 64) ∧ (s.sys.staged e l true).isSome = false ∧ (s.sys.engReqs e).all (fun r => r.line != l) = true ∧ (s.sys.engAnswers e).contains l = false ∧ s.sys.engTo (64 * l) = .home ∧ s.sys.StopClear (.engine e) (s.sys.chKennel j.chan) 0 ∧ (s.sys.conf.homeOf (s.sys.chKennel j.chan) (64 * l)).isSome = true := ⟨rv 3 (some (jb .run)) (some (ds 5 0 0x100 64)), 0, jb .run, ds 5 0 0x100 64, 4, by decide⟩
theorem witness_Descriptors_4 : ∃ (s : State) (e : Fin 8) (j : EngJob) (d : Desc) (i : Nat), s.Live ∧ s.sys.Runs e j d ∧ d.op = 3 ∧ (d.srcLines (s.sys.ckpt j.chan)).all (fun l => (s.sys.staged e l false).any (fun g => !g.poison)) = true ∧ s.sys.engHeld e = [] ∧ i < chunkLen d (s.sys.ckpt j.chan) ∧ (below i).all (fun q => (s.sys.srcByte e (d.src + s.sys.ckpt j.chan + q)).1 == (s.sys.srcByte e (d.dst + s.sys.ckpt j.chan + q)).1) = true ∧ (s.sys.srcByte e (d.src + s.sys.ckpt j.chan + i)).1 ≠ (s.sys.srcByte e (d.dst + s.sys.ckpt j.chan + i)).1 := ⟨rv 3 (some (jb .run)) (some (ds 3 0 0x100 16)) (sg [⟨0, false, 0x33, false⟩, ⟨4, false, 0x44, false⟩]), 0, jb .run, ds 3 0 0x100 16, 0, by decide +kernel⟩
theorem witness_Descriptors_5 : ∃ (s : State) (e : Fin 8) (j : EngJob) (d : Desc), s.Live ∧ s.sys.Runs e j d ∧ d.op = 4 ∧ (d.srcLines (s.sys.ckpt j.chan)).all (fun l => (s.sys.staged e l false).any (fun g => !g.poison)) = true ∧ s.sys.engHeld e = [] := ⟨rv 3 (some (jb .run)) (some (ds 4 0 0 4)) (sg [⟨0, false, 0x33, false⟩]), 0, jb .run, ds 4 0 0 4, by decide⟩
theorem witness_Descriptors_6 : ∃ (s : State) (e : Fin 8) (j : EngJob) (w : BitVec 512), s.Live ∧ s.sys.engUp e = true ∧ s.sys.heeled = false ∧ s.sys.engFetched e = some (j, w) ∧ dfield w 0 1 = 0 := ⟨rv 3 (some (jb .fetch)) none (sg [⟨0, false, 0, false⟩]), 0, jb .fetch, 0, by decide +kernel⟩
theorem witness_Descriptors_7 : ∃ (s : State) (e : Fin 8) (j : EngJob) (d : Desc), s.Live ∧ s.sys.Runs e j d ∧ j.ready = true ∧ s.sys.ckpt j.chan + 4096 < d.len ∧ (s.sys.eng e).turn = false ∧ (s.sys.eng e).off = false ∧ (s.sys.eng e).relq = [] ∧ s.sys.rf F.RTV_CH_STATUS_CREDIT j.chan ≠ 0 ∧ d.len ≤ 2 ^ 40 := ⟨rv 3 (some { jb .run with ready := true }) (some (ds 2 5 0x1000 0x3000)) (fun s => s.put F.RTV_CH_STATUS_CREDIT 5 0), 0, { jb .run with ready := true }, ds 2 5 0x1000 0x3000, by decide⟩
theorem witness_Descriptors_8 : ∃ (s : State) (e : Fin 8) (j : EngJob) (d : Desc), s.Live ∧ s.sys.Runs e j d ∧ j.ready = true ∧ d.len ≤ s.sys.ckpt j.chan + 4096 ∧ s.sys.ckpt j.chan ≤ d.len ∧ d.len ≤ 2 ^ 40 := ⟨rv 3 (some { jb .run with ready := true }) (some (ds 2 5 0x1000 0x1000)), 0, { jb .run with ready := true }, ds 2 5 0x1000 0x1000, by decide⟩
theorem witness_Descriptors_9 : ∃ (s : State) (e : Fin 8) (j : EngJob), s.Live ∧ s.sys.engUp e = true ∧ (s.sys.eng e).job = some j := ⟨rv 3 (some (jb .run)) (some (ds 2 5 0x1000 0x1000)), 0, jb .run, by decide⟩
theorem witness_Descriptors_10 : ∃ (s : State) (e : Fin 8) (c : Nat), s.Live ∧ s.sys.engUp e = true ∧ s.sys.heeled = false ∧ (s.sys.eng e).job = none ∧ (s.sys.eng e).off = false ∧ (s.sys.eng e).relq = [] ∧ (s.sys.engChoices e).contains c = true ∧ (s.sys.engChoices e).all (fun o => o == c || decide (s.sys.rf F.RTV_CH_STATUS_CREDIT o < s.sys.rf F.RTV_CH_STATUS_CREDIT c) || (s.sys.rf F.RTV_CH_STATUS_CREDIT o == s.sys.rf F.RTV_CH_STATUS_CREDIT c && (decide ((s.sys.chn c).served < (s.sys.chn o).served) || ((s.sys.chn c).served == (s.sys.chn o).served && decide (c < o))))) = true := ⟨rv 3 none none (fun s => s.put F.RTV_CH_TAIL_TAIL 1 0), 0, 0, by decide +kernel⟩
theorem witness_Descriptors_11 : ∃ (s : State) (e : Fin 8) (j : EngJob) (d : Desc), s.Live ∧ s.sys.engUp e = true ∧ s.sys.heeled = false ∧ (s.sys.eng e).job = some j ∧ j.phase = .recorded 1 0 ∧ (s.sys.chn j.chan).desc = some d ∧ d.stop = none ∧ d.irq = false ∧ s.sys.chState j.chan = chActive ∧ s.sys.ringCount j.chan = 1 := ⟨rv 3 (some (jb (.recorded 1 0))) (some { ds 2 5 0x1000 0x1000 with irq := false }) (fun s => s.put F.RTV_CH_TAIL_TAIL 1 0), 0, jb (.recorded 1 0), { ds 2 5 0x1000 0x1000 with irq := false }, by decide +kernel⟩
theorem witness_Descriptors_12 : ∃ (s : State) (e : Fin 8) (j : EngJob) (d : Desc) (f : Nat), s.Live ∧ s.sys.engUp e = true ∧ s.sys.heeled = false ∧ (s.sys.eng e).job = some j ∧ j.phase = .recorded 3 f ∧ (s.sys.chn j.chan).desc = some d ∧ d.stop = none ∧ s.sys.rf F.RTV_CH_CTL_IRQ_ID j.chan ≠ 0 ∧ s.sys.srcPresent (s.sys.chKennel j.chan) (s.sys.rf F.RTV_CH_CTL_IRQ_ID j.chan) = true ∧ 16 ≤ s.sys.rf F.RTV_CH_CTL_IRQ_ID j.chan ∧ s.sys.srcLevel (s.sys.chKennel j.chan) (s.sys.rf F.RTV_CH_CTL_IRQ_ID j.chan) = false ∧ (s.sys.chSecure j.chan = true ∨ s.sys.on F.ICN_SRC_SEC (s.sys.chKennel j.chan) (s.sys.rf F.RTV_CH_CTL_IRQ_ID j.chan) = false) ∧ s.sys.on F.ICN_DOM_CFG_CLK_STOPPED (s.sys.chKennel j.chan) = false ∧ s.sys.icn.inReset.contains (s.sys.chKennel j.chan) = false := ⟨rv 3 (some (jb (.recorded 3 0))) (some (ds 2 5 0x1000 0x1000)) (fun s => ((s.put F.RTV_CH_CTL_IRQ_ID 20 0).put F.ICN_DOM_CFG_ENABLED 1 2).put F.ICN_DOM_CFG_SOURCES 30 2), 0, jb (.recorded 3 0), ds 2 5 0x1000 0x1000, 0, by decide +kernel⟩

theorem witness_ChannelControl_0 : ∃ (s : State) (req : Requester) (c : Fin 512) (v : Word), s.Takes (.chTailWrite req c v) ∧ s.sys.chState c ≠ chUnbound ∧ (fget v 0 16 + 65536 - s.sys.rf F.RTV_CH_HEAD_HEAD c) % 65536 ≤ 2 ^ s.sys.rf F.RTV_CH_RING_SIZE_LOG2 c := ⟨rv 2 none none, .tether 0, 0, 16, by decide⟩
theorem witness_ChannelControl_1 : ∃ (s : State) (req : Requester) (c : Fin 512) (v : Word), s.Takes (.chTailWrite req c v) ∧ s.sys.chState c ≠ chUnbound ∧ 2 ^ s.sys.rf F.RTV_CH_RING_SIZE_LOG2 c < (fget v 0 16 + 65536 - s.sys.rf F.RTV_CH_HEAD_HEAD c) % 65536 := ⟨rv 2 none none, .tether 0, 0, 17, by decide⟩
theorem witness_ChannelControl_2 : ∃ (s : State) (req : Requester) (c : Fin 512) (v : Word), s.Takes (.chTailWrite req c v) ∧ s.sys.chState c = chUnbound := ⟨rv 0 none none, .tether 0, 0, 4, by decide⟩
theorem witness_ChannelControl_3 : ∃ (s : State) (req : Requester) (c : Fin 512) (v : Word), s.Takes (.chEnable req c v) ∧ fget v 62 1 = 0 ∧ (s.sys.chState c = chDisabled ∨ s.sys.chState c = chStopped) := ⟨rv 1 none none, .tether 0, 0, 0x500000007, by decide⟩
theorem witness_ChannelControl_4 : ∃ (s : State) (req : Requester) (c : Fin 512) (v : Word) (d : Desc), s.Takes (.chDisable req c v) ∧ s.sys.chState c = chActive ∧ (s.sys.chn c).desc = some d := ⟨rv 3 (some (jb .run)) (some (ds 2 5 0x1000 0x1000)), .tether 0, 0, 0, ds 2 5 0x1000 0x1000, by decide⟩
theorem witness_ChannelControl_5 : ∃ (s : State) (req : Requester) (c : Fin 512) (v : Word), s.Takes (.chDisable req c v) ∧ (s.sys.chState c = chIdle ∨ s.sys.chState c = chStopped ∨ (s.sys.chState c = chActive ∧ (s.sys.chn c).desc = none)) ∧ s.sys.engOf c = none := ⟨rv 2 none none, .tether 0, 0, 0, by decide⟩
theorem witness_ChannelControl_6 : ∃ (s : State) (req : Requester) (c : Fin 512) (v : Word), s.Takes (.chAbort req c v) ∧ (s.sys.chState c = chIdle ∨ s.sys.chState c = chActive) ∧ (s.sys.chn c).desc = none ∧ s.sys.engOf c = none := ⟨rv 2 none none, .tether 0, 0, 0, by decide⟩
theorem witness_ChannelControl_7 : ∃ (s : State) (req : Requester) (c : Fin 512) (v : Word) (d : Desc) (e : Nat) (j : EngJob), s.Takes (.chAbort req c v) ∧ s.sys.chState c = chActive ∧ (s.sys.chn c).desc = some d ∧ s.sys.engOf c = some e ∧ (s.sys.eng e).job = some j ∧ j.phase = .run := ⟨rv 3 (some (jb .run)) (some (ds 2 5 0x1000 0x1000)), .tether 0, 0, 0, ds 2 5 0x1000 0x1000, 0, jb .run, by decide⟩
theorem witness_ChannelControl_8 : ∃ (s : State) (req : Requester) (c : Fin 512) (v : Word), s.Takes (.chBind req c v) ∧ s.sys.on F.RTV_CH_BIND_VALID c = false ∧ (s.sys.conf.kennel (fget v 56 4)).enabled = true ∧ s.sys.kennelConcerned (fget v 56 4) = false := ⟨rv 0 none none (fun s => s.put F.RTV_CH_BIND_VALID 0 0), .tether 0, 0, 0x0200000000000000, by decide⟩
theorem witness_ChannelControl_9 : ∃ (s : State) (req : Requester) (c : Fin 512) (v : Word), s.Takes (.chBind req c v) ∧ ((s.sys.on F.RTV_CH_BIND_VALID c = false ∧ (s.sys.conf.kennel (fget v 56 4)).enabled = false) ∨ (s.sys.on F.RTV_CH_BIND_VALID c = true ∧ (fget v 56 4 ≠ s.sys.chKennel c ∨ fget v 62 1 ≠ s.sys.rf F.RTV_CH_BIND_WORLD_S c))) := ⟨rv 1 none none, .tether 0, 0, 0x0300000000000000, by decide⟩
theorem witness_ChannelControl_10 : ∃ (s : State) (req : Requester) (c : Fin 512) (v : Word), s.Takes (.chUnbind req c v) ∧ s.sys.chState c = chDisabled := ⟨rv 1 none none, .tether 0, 0, 0, by decide⟩
theorem witness_ChannelControl_11 : ∃ (s : State) (req : Requester) (c : Fin 512) (v : Word), s.Takes (.chUnbind req c v) ∧ s.sys.chState c ≠ chDisabled := ⟨rv 3 none none, .tether 0, 0, 0, by decide⟩
theorem witness_ChannelControl_12 : ∃ (s : State) (req : Requester) (e : Fin 8) (v : Word), s.Takes (.engineReset req e v) ∧ s.sys.rf F.RTV_ENG_STATUS_STATE e = egLost ∧ fget v 0 1 = b2n (s.sys.eng e).off ∧ ((s.sys.whoIs req).1.secure = true ∨ s.sys.holdCount (91 + e.val) = 0) := ⟨rv 1 none none (fun s => s.put F.RTV_ENG_STATUS_STATE 2 0), .tether 0, 0, 0, by decide⟩
theorem witness_ChannelControl_13 : ∃ (s : State) (req : Requester) (e : Fin 8) (v : Word), s.Takes (.engineReset req e v) ∧ s.sys.rf F.RTV_ENG_STATUS_STATE e ≠ egLost ∧ fget v 0 1 = b2n (s.sys.eng e).off ∧ ((s.sys.whoIs req).1.secure = true ∨ s.sys.holdCount (91 + e.val) = 0) := ⟨rv 1 none none, .tether 0, 0, 0, by decide⟩
theorem witness_ChannelControl_14 : ∃ (s : State) (e : Fin 8) (pass : Bool), s.Live ∧ s.sys.rf F.RTV_ENG_STATUS_STATE e = egTesting ∧ s.sys.rf F.RTV_ENG_CTL_RESET e = 1 := ⟨rv 1 none none (fun s => (s.put F.RTV_ENG_STATUS_STATE 3 0).put F.RTV_ENG_CTL_RESET 1 0), 0, true, by decide⟩
theorem witness_ChannelControl_15 : ∃ (s : State) (req : Requester) (e : Fin 8) (v : Word), s.Takes (.enginePwrReq req e v) ∧ fget v 1 1 = 0 ∧ fget v 0 1 = 1 ∧ ((s.sys.whoIs req).1.secure = true ∨ s.sys.holdCount (91 + e.val) = 0) ∧ (s.sys.eng e).off = false ∧ (s.sys.eng e).job = none ∧ s.sys.engUp e = true := ⟨rv 1 none none, .tether 0, 0, 1, by decide⟩
theorem witness_ChannelControl_16 : ∃ (s : State) (req : Requester) (e : Fin 8) (v : Word), s.Takes (.enginePwrReq req e v) ∧ fget v 1 1 = 0 ∧ fget v 0 1 = 0 ∧ ((s.sys.whoIs req).1.secure = true ∨ s.sys.holdCount (91 + e.val) = 0) ∧ (s.sys.eng e).off = true := ⟨rv 1 none none (fun s => (s.put F.RTV_ENG_STATUS_STATE 0 0).onEng 0 (fun t => { t with off := true })), .tether 0, 0, 0, by decide⟩

end C13

end Sys2Proof.Tests
end

section
/-!
PROOFS. The sizes of an access of register space (R11, R23, R508, R614; log 17): which a register permits, what a 32-bit access covers, and who
refuses every other size.
-/
namespace Sys2Proof.Machine

/-! ## The sizes that are taken -/

/-- A register permits a 32-bit access exactly when the table of R614 lists it. -/
theorem Reg.half_eq_contains (r : Reg) :
    r.half = [Reg.ICN_CTX_CLAIM, .ICN_MCTX_CLAIM, .ICN_DRM_CLAIM, .ICN_DOM_MSG, .RTV_CH_TAIL].contains r := by
  cases r <;> rfl

/-- The Tether's root sends an access of 8 bytes or of 4 that is naturally aligned (R508). -/
def tetherSends (off size : Nat) : Bool := (size = 8 || size = 4) && off % size = 0

/-- An access of a register at an offset has a size that the register permits there (R11, R614). -/
def Sys.permits (s : Sys) (k : RK) (off size : Nat) : Bool := off = s.offsetOf k && (size = 8 || (size = 4 && k.reg.half))

/-- R614: bytes, half-words, and words elsewhere than at the own offset of a register of the table. -/
theorem Sys.permits_eq_false {s : Sys} {k : RK} {off : Nat} {z : Size}
    (hz : z = .b1 ∨ z = .b2 ∨ (z = .b4 ∧ (k.reg.half = false ∨ off ≠ s.offsetOf k))) : s.permits k off z.bytes = false := by
  obtain rfl | rfl | ⟨rfl, hhalf | hoff⟩ := hz
  · simp [Sys.permits, Size.bytes]
  · simp [Sys.permits, Size.bytes]
  · simp [Sys.permits, Size.bytes, hhalf]
  · simp [Sys.permits, hoff]

/-- R508: bytes, half-words and misaligned words stay at the root. -/
theorem tetherSends_eq_false {off : Nat} {z : Size} (hz : z = .b1 ∨ z = .b2 ∨ (z = .b4 ∧ off % 4 ≠ 0)) :
    tetherSends off z.bytes = false := by
  obtain rfl | rfl | ⟨rfl, hmis⟩ := hz
  · rfl
  · rfl
  · simp [tetherSends, Size.bytes, hmis]

/-! ## Where an access of register space ends, by its size -/

theorem Sys.refuseAs_mesh (s : Sys) {w : Who} (hw : w.tether = false) (status : Nat) (write : Bool) (off : Nat) :
    s.refuseAs w status write off = s.answer (w.refusal write) := by
  simp [Sys.refuseAs, Sys.when, hw]

/-- A Tether access waits for a station whose chain has failed (R24). -/
def M.stationWaits (x : M) (w : Who) (off : Nat) (write : Bool) : M :=
  x.on (fun s => { s with resp := .waiting, stations := { s.stations with waits := s.stations.waits ++ [⟨w.core, off, write, none⟩] } })

/-- An access whose size its register permits: its page (R29), its path (R615), its unit (R26), then the register. -/
def M.accessSized (x : M) (w : Who) (k : RK) (off size : Nat) (write : Option Word) (fwd : Option Nat) : M :=
  if !w.tether && !(k.reg == .SYS_ID && !write.isSome) && !x.sys.pageAdmits (off / 4096) w.kennel w.secure then
    x.on (fun s => s.refuseAs w 1 write.isSome off)
  else if !w.reaches k.reg.path write.isSome then x.on (fun s => s.refuseAs w 1 write.isSome off)
  else if k.reg.heldInUnit && x.sys.unitOff (stationAt off) then
    x.on (fun s => (s.put F.SYS_CS_STATUS_OFF_ACCESS 1 (stationAt off)).answer (.done 0))
  else x.regPerform w k off size write fwd

section
variable {x : M} {w : Who} {k : RK} {off size : Nat} (write : Option Word) (fwd : Option Nat)

theorem M.accessAs_root_refuses (hw : w.tether = true) (hsend : tetherSends off size = false) :
    x.accessAs w off size write fwd = x.on (fun s => s.refuseAs w 3 write.isSome off) := by
  have hroot : (w.tether && !tetherSends off size) = true := by rw [hw, hsend]; rfl
  exact if_pos hroot

/-- What the root sends goes to the register at the offset. -/
theorem M.accessAs_sent (hsend : w.tether = false ∨ tetherSends off size = true) (hk : x.sys.regAt off = some k) :
    x.accessAs w off size write fwd =
      if w.tether && x.sys.stations.chainFailed.contains (stationAt off) then x.stationWaits w off write.isSome
      else if !x.sys.permits k off size then
        (if w.tether then x.on (fun s => (s.refuseAs w 1 write.isSome off).put F.SYS_CS_STATUS_TETHER_ERR 1 (stationAt off))
         else x.on (fun s => s.refuseAs w 1 write.isSome off))
      else x.accessSized w k off size write fwd := by
  have hroot : ¬ (w.tether && !tetherSends off size) = true := by
    obtain h | h := hsend <;> simp [h]
  refine (if_neg hroot).trans ?_
  rw [hk]
  rfl

theorem M.accessAs_permitted (hsend : tetherSends off size = true) (hk : x.sys.regAt off = some k) (hp : x.sys.permits k off size = true) :
    x.accessAs w off size write fwd =
      if w.tether && x.sys.stations.chainFailed.contains (stationAt off) then x.stationWaits w off write.isSome
      else x.accessSized w k off size write fwd := by
  rw [M.accessAs_sent write fwd (.inr hsend) hk, hp]
  rfl

theorem M.accessAs_size_refused_mesh (hw : w.tether = false) (hk : x.sys.regAt off = some k) (hp : x.sys.permits k off size = false) :
    x.accessAs w off size write fwd = x.on (fun s => s.answer (w.refusal write.isSome)) := by
  rw [M.accessAs_sent write fwd (.inl hw) hk, hp, hw]
  exact congrArg (fun y => ({ x with sys := y } : M)) (x.sys.refuseAs_mesh hw 1 write.isSome off)

theorem M.accessAs_size_refused_station (hw : w.tether = true) (hsend : tetherSends off size = true) (hk : x.sys.regAt off = some k)
    (hchain : x.sys.stations.chainFailed.contains (stationAt off) = false) (hp : x.sys.permits k off size = false) :
    x.accessAs w off size write fwd =
      x.on (fun s => (s.refuseAs w 1 write.isSome off).put F.SYS_CS_STATUS_TETHER_ERR 1 (stationAt off)) := by
  rw [M.accessAs_sent write fwd (.inr hsend) hk, hchain, hp, hw]
  rfl

end

/-! ## A 32-bit access that is permitted -/

/-- The answer to an access with the data of a 32-bit read: bits 31:0 (R614). -/
def Sys.low32 (s : Sys) : Sys := { s with resp := match s.resp with | .done v => .done (v &&& 0xFFFFFFFF) | r => r }

theorem Sys.low32_refuseAs (s : Sys) (w : Who) (status : Nat) (write : Bool) (off : Nat) :
    (s.refuseAs w status write off).low32 = s.refuseAs w status write off := by
  unfold Sys.refuseAs Who.refusal
  split <;> rfl

theorem M.regPerform_word_read (x : M) (w : Who) (k : RK) (off : Nat) (fwd : Option Nat) :
    x.regPerform w k off 4 none fwd = (x.regPerform w k off 8 none fwd).on Sys.low32 := by
  unfold M.regPerform
  dsimp only
  split <;> rfl

theorem M.accessSized_word_read (x : M) (w : Who) (k : RK) (off : Nat) (fwd : Option Nat) :
    x.accessSized w k off 4 none fwd = (x.accessSized w k off 8 none fwd).on Sys.low32 := by
  have hno : (x.on (fun s => s.refuseAs w 1 false off)).on Sys.low32 = x.on (fun s => s.refuseAs w 1 false off) :=
    congrArg (fun y => ({ x with sys := y } : M)) (x.sys.low32_refuseAs w 1 false off)
  unfold M.accessSized
  split
  · exact hno.symm
  split
  · exact hno.symm
  split
  · rfl
  · exact x.regPerform_word_read w k off fwd

/-- Identifying a requester moves no register (R506). -/
theorem Sys.Known.regAt {s o : Sys} (h : s.Known o) (off : Nat) : o.regAt off = s.regAt off := by
  unfold Sys.Known at h
  rw [h]
  rfl

section
variable {x : M} {k : RK} {off : Nat} (req : Requester)
  (hk : x.sys.regAt off = some k) (ho : off = x.sys.offsetOf k) (ha : off % 8 = 0) (hh : k.reg.half = true)
include hk ho ha hh

/-- An access of 8 bytes, or of 4, at the own offset of a register of R614's table has a size that the register permits. -/
theorem M.regAccess_permitted {size : Nat} (hz : size = 8 ∨ size = 4) (write : Option Word) :
    x.regAccess req off size write =
      if (x.sys.whoIs req).1.tether && (x.sys.whoIs req).2.stations.chainFailed.contains (stationAt off) then
        ({ x with sys := (x.sys.whoIs req).2 } : M).stationWaits (x.sys.whoIs req).1 off write.isSome
      else ({ x with sys := (x.sys.whoIs req).2 } : M).accessSized (x.sys.whoIs req).1 k off size write none := by
  have known := x.sys.whoIs_known req
  have halign : off % size = 0 := by obtain rfl | rfl := hz <;> omega
  have hsend : tetherSends off size = true := by simpa [tetherSends, halign] using hz
  have hp : (x.sys.whoIs req).2.permits k off size = true := by simpa [Sys.permits, known.offsetOf k, ← ho, hh] using hz
  exact M.accessAs_permitted write none hsend ((known.regAt off).trans hk) hp

/-- R614: a write of 4 bytes is the write of 8 with bits 63:32 zero. -/
theorem M.regAccess_word_write (v : Word) : x.regAccess req off 4 (some v) = x.regAccess req off 8 (some (v &&& 0xFFFFFFFF)) := by
  rw [M.regAccess_permitted req hk ho ha hh (.inr rfl), M.regAccess_permitted req hk ho ha hh (.inl rfl)]
  rfl

/-- R614: a read of 4 bytes is the read of 8 with bits 31:0 of its data. -/
theorem M.regAccess_word_read : x.regAccess req off 4 none = (x.regAccess req off 8 none).on Sys.low32 := by
  rw [M.regAccess_permitted req hk ho ha hh (.inr rfl), M.regAccess_permitted req hk ho ha hh (.inl rfl)]
  split
  · rfl
  · exact M.accessSized_word_read _ _ k off none

end

/-! ## What a refusal leaves -/

/-- Only the answer and registers differ. -/
def Sys.Answered (s t : Sys) : Prop := t = { s with regs := t.regs, resp := t.resp }

theorem Sys.Answered.frame {s t : Sys} {but : RK → Bool} (h : s.Answered t) (hr : s.KeepsRegs t but) : s.Frame t but [.resp] := by
  refine ⟨hr, fun q hq => ?_⟩
  rw [h]
  cases q
  case resp => exact absurd hq (by decide)
  all_goals rfl

/-- What differs from a state in the answer and in registers that a test picks leaves all else as it was. -/
theorem State.only_of_answered (s : State) {y : Sys} {but : RK → Bool} (h : s.sys.Answered y) (hr : s.sys.KeepsRegs y but) :
    s.Only (s.withSys y) but [.resp] := ⟨⟨rfl, rfl⟩, h.frame hr⟩

theorem Sys.answered_answer (s : Sys) (r : Resp) : s.Answered (s.answer r) := rfl

/-- A refusal that the Tether's root latches (R508). -/
def Sys.latched (s : Sys) (core status : Nat) (write : Bool) (off : Nat) : Sys := (s.tetherLatch core status write off).answer .error

section
variable (s : Sys) (core status : Nat) (write : Bool) (off : Nat)

theorem Sys.answered_latched : s.Answered (s.latched core status write off) := rfl

/-- The root's latch is in DRM_TETHER_ERR of its service core (R508). -/
theorem Sys.latched_keepsRegs : s.KeepsRegs (s.latched core status write off) (oneReg core [.DRM_TETHER_ERR]) := by
  have own : oneReg core [.DRM_TETHER_ERR] ⟨.DRM_TETHER_ERR, core, 0⟩ = true := by simp [oneReg]
  have hvalid := s.KeepsRegs_put F.DRM_TETHER_ERR_VALID 1 core 0 _ own
  have hstatus := hvalid.trans (Sys.KeepsRegs_put _ F.DRM_TETHER_ERR_STATUS status core 0 _ own)
  have hwrite := hstatus.trans (Sys.KeepsRegs_put _ F.DRM_TETHER_ERR_WRITE (b2n write) core 0 _ own)
  exact hwrite.trans (Sys.KeepsRegs_put _ F.DRM_TETHER_ERR_OFFSET off core 0 _ own)

theorem Sys.latched_valid : (s.latched core status write off).rf F.DRM_TETHER_ERR_VALID core = 1 := by
  unfold Sys.latched Sys.tetherLatch
  rw [Sys.rf_answer, Sys.rf_put_other _ _ _ _ _ _ _ _ (.inr (by decide)), Sys.rf_put_other _ _ _ _ _ _ _ _ (.inr (by decide)),
    Sys.rf_put_other _ _ _ _ _ _ _ _ (.inr (by decide)), Sys.rf_put_self _ _ _ _ _ (by decide)]
  rfl

theorem Sys.latched_status (h : status < 4) : (s.latched core status write off).rf F.DRM_TETHER_ERR_STATUS core = status := by
  unfold Sys.latched Sys.tetherLatch
  rw [Sys.rf_answer, Sys.rf_put_other _ _ _ _ _ _ _ _ (.inr (by decide)), Sys.rf_put_other _ _ _ _ _ _ _ _ (.inr (by decide)),
    Sys.rf_put_self _ _ _ _ _ (by decide)]
  exact Nat.mod_eq_of_lt h

end

/-! ## The refusals -/

/-- A requester whose identification changes nothing. -/
theorem M.regAccess_of_whoIs {x : M} {req : Requester} {w : Who} (h : x.sys.whoIs req = (w, x.sys)) (off size : Nat) (write : Option Word) :
    x.regAccess req off size write = x.accessAs w off size write none := by
  unfold M.regAccess
  rw [h]

/-- Commands that do the same in a state have the same outcome in it. -/
theorem onM_congr {f g : M → M} {s : State} (h : f s.ctx = g s.ctx) : onM f s = onM g s := by
  by_cases hl : s.Live
  · rw [onM_live f s hl, onM_live g s hl, h]
  · rw [onM_held f s hl, onM_held g s hl]

/-- A command that does in a state what a function of the block's state does completes with what that function leaves. -/
theorem completes_on {c : Instr} {s : State} {f : M → M} {g : Sys → Sys} {p : State → Prop} (hl : s.Live) (hc : exec c s = onM f s)
    (h : f s.ctx = s.ctx.on g) (hp : p (s.withSys (g s.sys))) : Completes c s p :=
  completes_onM c (fun x => x.on g) s p hl (hc.trans (onM_congr h)) hp

section
variable {c : Instr} {s : State} {k : RK} {off : Nat} {z : Size} {write : Option Word}

/-- R11, R614: a requester on the mesh is told of a size that is not permitted, and nothing else changes. -/
theorem completes_mesh_size_refused {req : Requester} {w : Who} {r : Resp} (hreq : s.sys.whoIs req = (w, s.sys)) (hw : w.tether = false)
    (hr : w.refusal write.isSome = r) (hl : s.Live)
    (hc : exec c s = onM (fun x => x.regAccess req off z.bytes write) s) (hk : s.sys.regAt off = some k)
    (hz : z = .b1 ∨ z = .b2 ∨ (z = .b4 ∧ (k.reg.half = false ∨ off ≠ s.sys.offsetOf k))) :
    Completes c s (fun t => t.sys.resp = r ∧ s.Only t (fun _ => false) [.resp]) := by
  have he : s.ctx.regAccess req off z.bytes write = s.ctx.on (fun t => t.answer (w.refusal write.isSome)) :=
    (M.regAccess_of_whoIs hreq off z.bytes write).trans (M.accessAs_size_refused_mesh write none hw hk (Sys.permits_eq_false hz))
  exact completes_on hl hc he ⟨hr, s.only_of_answered (s.sys.answered_answer _) (Sys.KeepsRegs_refl s.sys _)⟩

/-- R508, log 17: a Tether access of a size or alignment that no register permits is refused at the root. -/
theorem completes_tether_root_refused {core : Fin 4} (hl : s.Live)
    (hc : exec c s = onM (fun x => x.regAccess (.tether core) off z.bytes write) s) (hz : z = .b1 ∨ z = .b2 ∨ (z = .b4 ∧ off % 4 ≠ 0)) :
    Completes c s (fun t => t.sys.resp = .error ∧ t.sys.rf F.DRM_TETHER_ERR_VALID core = 1 ∧ t.sys.rf F.DRM_TETHER_ERR_STATUS core = 3 ∧
      s.Only t (oneReg core [.DRM_TETHER_ERR]) [.resp]) := by
  have he : s.ctx.regAccess (.tether core) off z.bytes write = s.ctx.on (fun t => t.latched core 3 write.isSome off) :=
    M.accessAs_root_refuses write none rfl (tetherSends_eq_false hz)
  exact completes_on hl hc he
    ⟨rfl, s.sys.latched_valid core 3 _ off, s.sys.latched_status core 3 _ off (by decide),
      s.only_of_answered (s.sys.answered_latched core 3 _ off) (s.sys.latched_keepsRegs core 3 _ off)⟩

/-- R23, R508, log 17: a Tether access of 4 bytes that its register does not permit is refused by the station, which records it. -/
theorem completes_tether_station_refused {core : Fin 4} (hl : s.Live)
    (hc : exec c s = onM (fun x => x.regAccess (.tether core) off Size.b4.bytes write) s) (hk : s.sys.regAt off = some k) (ha : off % 4 = 0)
    (hchain : s.sys.stations.chainFailed.contains (stationAt off) = false) (hz : k.reg.half = false ∨ off ≠ s.sys.offsetOf k) :
    Completes c s (fun t => t.sys.resp = .error ∧ t.sys.rf F.DRM_TETHER_ERR_STATUS core = 1 ∧
      t.sys.rf F.SYS_CS_STATUS_TETHER_ERR (stationAt off) = 1 ∧
      s.Only t (fun q => oneReg core [.DRM_TETHER_ERR] q || oneReg (stationAt off) [.SYS_CS_STATUS] q) [.resp]) := by
  have hsend : tetherSends off Size.b4.bytes = true := by simp [tetherSends, Size.bytes, ha]
  have he : s.ctx.regAccess (.tether core) off Size.b4.bytes write =
      s.ctx.on (fun t => (t.latched core 1 write.isSome off).put F.SYS_CS_STATUS_TETHER_ERR 1 (stationAt off)) :=
    M.accessAs_size_refused_station (x := s.ctx) write none rfl hsend hk hchain (Sys.permits_eq_false (.inr (.inr ⟨rfl, hz⟩)))
  refine completes_on hl hc he ⟨rfl, ?status, Sys.rf_put_self _ _ _ _ _ (by decide), s.only_of_answered rfl ?regs⟩
  case status => exact (Sys.rf_put_other _ _ _ _ _ _ _ _ (.inl (by simp))).trans (s.sys.latched_status core 1 _ off (by decide))
  case regs =>
    have hlatch : s.sys.KeepsRegs (s.sys.latched core 1 write.isSome off)
        (fun q => oneReg core [.DRM_TETHER_ERR] q || oneReg (stationAt off) [.SYS_CS_STATUS] q) :=
      fun q hq => s.sys.latched_keepsRegs core 1 _ off q (Bool.or_eq_false_iff.mp hq).1
    exact hlatch.trans (Sys.KeepsRegs_put _ _ _ _ _ _ (by simp [oneReg]))

end

/-- Settles O11: a permitted 32-bit access is the 64-bit one on bits 31:0, and the mesh, the Tether's root and the station each refuse the
other sizes. -/
theorem accessSizes : Obligations.AccessSizes := by
  unfold Obligations.AccessSizes
  refine ⟨fun k => k.reg.half_eq_contains, ?write, ?read, ?hartWrite, ?hartRead, ?remoteRead, ?rootWrite, ?rootRead, ?stationWrite, ?stationRead⟩
  case write =>
    intro s req k off v hk ho ha hh
    exact onM_congr (M.regAccess_word_write (x := s.ctx) req hk ho ha hh v)
  case read =>
    intro s req k off hl hk ho ha hh
    refine completes_onM _ _ s _ hl rfl (completes_onM _ _ s _ hl rfl ?_)
    exact congrArg s.after (M.regAccess_word_read (x := s.ctx) req hk ho ha hh)
  case hartWrite =>
    intro s h k off z v hl hk hz
    exact completes_mesh_size_refused (req := .hart h) (write := some v) rfl rfl rfl hl rfl hk hz
  case hartRead =>
    intro s h k off z hl hk hz
    exact completes_mesh_size_refused (req := .hart h) (write := none) rfl rfl rfl hl rfl hk hz
  case remoteRead =>
    intro s kn sec k off z hl hk hz
    exact completes_mesh_size_refused (req := .remote kn sec false) (write := none) rfl rfl rfl hl rfl hk hz
  case rootWrite =>
    intro s core off z v hl hz
    exact completes_tether_root_refused hl rfl hz
  case rootRead =>
    intro s core off z hl hz
    exact completes_tether_root_refused hl rfl hz
  case stationWrite =>
    intro s core k off v hl hk ha hchain hz
    exact completes_tether_station_refused hl rfl hk ha hchain hz
  case stationRead =>
    intro s core k off hl hk ha hchain hz
    exact completes_tether_station_refused hl rfl hk ha hchain hz

end Sys2Proof.Machine
end

section
/-!
PROOFS. What every meaning is made of, and what follows of it for every command and every step.
-/
namespace Sys2Proof.Machine

/-- The outcome is that of a function of the block's state or of the working context; where the flag is set it acts in reset too (R577). -/
inductive Meant (s : State) : Bool → Host.Outcome State Fault Refusal → Prop where
  | onM (f : M → M) : Meant s false (onM f s)
  | onSys (f : Sys → Sys) : Meant s false (onSys f s)
  | onSysAny (f : Sys → Sys) : Meant s true (onSysAny f s)
  | onMAny (f : M → M) : Meant s true (onMAny f s)

/-- Every arm of `exec` is such an outcome, and those that act in reset are the six of `Instr.inReset`. -/
theorem exec_meant (c : Instr) (s : State) : Meant s (Instr.inReset c) (exec c s) := by
  unfold exec
  cases c <;> constructor

/-- Such an outcome is a next state with writes of memory made and the queue as it was. -/
theorem Meant.next {s : State} {any : Bool} {o : Host.Outcome State Fault Refusal} (h : Meant s any o) :
    ∃ t ops, o = .next t ∧ t.mem = s.mem.apply ops ∧ t.pending = s.pending := by
  cases h with
  | onM f =>
    by_cases hl : s.Live
    · exact ⟨_, _, onM_live f s hl, rfl, rfl⟩
    · exact ⟨s, [], onM_held f s hl, rfl, rfl⟩
  | onSys f =>
    by_cases hl : s.Live
    · exact ⟨_, [], onSys_live f s hl, rfl, rfl⟩
    · exact ⟨s, [], onSys_held f s hl, rfl, rfl⟩
  | onMAny f => exact ⟨_, _, rfl, rfl, rfl⟩
  | onSysAny f => exact ⟨_, [], rfl, rfl, rfl⟩

/-- Settles O3: every arm of `exec` is a function of the part's state, whose outcome is a next state. -/
theorem everyCommandAnswers : Obligations.EveryCommandAnswers := by
  intro c s
  obtain ⟨t, -, ht, -, hp⟩ := (exec_meant c s).next
  exact ⟨t, ht, hp⟩

/-- Settles O4: in reset the two forms that wait for its end change nothing. -/
theorem heldInReset : Obligations.HeldInReset := by
  intro c s hh hc
  have h := exec_meant c s
  rw [hc] at h
  generalize exec c s = o at h ⊢
  cases h with
  | onM f => exact onM_held f s hh
  | onSys f => exact onSys_held f s hh

/-- Settles O1: by the definition of a step. -/
theorem stepRunsFront : Obligations.StepRunsFront := by
  intro s c rest h
  unfold step
  rw [h]

/-- Settles O2: by the definition of a step. -/
theorem stepIdles : Obligations.StepIdles := by
  intro s h
  unfold step
  rw [h]

/-- Settles O5: a step makes writes of memory, each of which keeps the canonical form. -/
theorem memoryInvariant : Obligations.MemoryInvariant := by
  intro s t hs ht
  cases hp : s.pending with
  | nil =>
    rw [stepIdles s hp] at ht
    cases ht
    exact hs
  | cons c rest =>
    rw [stepRunsFront s c rest hp] at ht
    obtain ⟨u, ops, hu, hm, -⟩ := (exec_meant c { s with pending := rest }).next
    rw [hu] at ht
    cases ht
    unfold State.Inv
    rw [hm]
    exact Mem.apply_wf s.mem ops hs

/-- Settles O6: the lists of the reset state's memory and its queue are empty, and it stands for the part after POWER_ON (log 10). -/
theorem resetInvariant : Obligations.ResetInvariant := ⟨rfl, rfl, rfl⟩

/-- Refutes O7: RTV_CH_BIND[0] stands at 0x4008000, above the bound 0x4001000 of the statement. -/
theorem not_registerAddresses : ¬ Obligations.RegisterAddresses := by
  intro h
  have hplaced : Reg.RTV_CH_BIND ∈ Reg.placed := by decide
  obtain ⟨hbound, -, -⟩ := h State.reset ⟨.RTV_CH_BIND, 0, 0⟩ ⟨0x4008000, 512, 0x8, 1, 0x0⟩ hplaced rfl (by decide) (by decide)
  have hoff : State.reset.sys.offsetOf ⟨.RTV_CH_BIND, 0, 0⟩ = 0x4008000 := rfl
  omega

end Sys2Proof.Machine
end

section
/-!
SUPPORT. The calculus of frames: how the frame of a command follows from the frames of the updates it is made of; and what a field reads after
writes of others.
-/
namespace Sys2Proof.Machine

/-! ## Frames -/

section
variable {s t u : Sys} {but but' : RK → Bool} {parts parts' : List Part}

theorem Part.Same.trans {q : Part} (h : q.Same s t) (g : q.Same t u) : q.Same s u := by
  cases q <;> exact Eq.trans g h

theorem Part.Same.refl (q : Part) (s : Sys) : q.Same s s := by cases q <;> rfl

theorem Sys.Frame.refl (s : Sys) : s.Frame s but parts := ⟨fun _ _ => rfl, fun q _ => .refl q s⟩

theorem Sys.Frame.trans (h : s.Frame t but parts) (g : t.Frame u but parts) : s.Frame u but parts :=
  ⟨h.1.trans g.1, fun q hq => (h.2 q hq).trans (g.2 q hq)⟩

/-- A frame that lets more change. -/
theorem Sys.Frame.mono (h : s.Frame t but parts) (hb : ∀ k, but k = true → but' k = true) (hp : parts ⊆ parts') : s.Frame t but' parts' := by
  refine ⟨fun k hk => h.1 k ?_, fun q hq => h.2 q ?_⟩
  · by_contra hc
    rw [hb k (Bool.eq_true_of_not_eq_false hc)] at hk
    exact Bool.noConfusion hk
  · by_contra hc
    have hin : q ∈ parts' := hp (List.contains_iff_mem.mp (Bool.eq_true_of_not_eq_false hc))
    rw [List.contains_iff_mem.mpr hin] at hq
    exact Bool.noConfusion hq

/-- The same registers, and parts that a list of parts holds. -/
theorem Sys.Frame.parts_mono (h : s.Frame t but parts) (hp : parts ⊆ parts') : s.Frame t but parts' := h.mono (fun _ h => h) hp

theorem Sys.Frame.regs_mono (h : s.Frame t but parts) (hb : ∀ k, but k = true → but' k = true) : s.Frame t but' parts :=
  h.mono hb (List.Subset.refl parts)

theorem Sys.Frame.put (s : Sys) (f : Fld) (v i j : Nat) (h : but ⟨f.reg, i, j⟩ = true) : s.Frame (s.put f v i j) but parts :=
  ⟨Sys.KeepsRegs_put s f v i j but h, fun q _ => by cases q <;> rfl⟩

theorem Sys.Frame.bump (s : Sys) (f : Fld) (i j : Nat) (h : but ⟨f.reg, i, j⟩ = true) : s.Frame (s.bump f i j) but parts := .put s f _ i j h

theorem Sys.Frame.wr (s : Sys) (k : RK) (w : Word) (h : but k = true) : s.Frame (s.wr k w) but parts := by
  refine ⟨fun k' hk' => Sys.rd_wr_other s k k' w ?_, fun q _ => by cases q <;> rfl⟩
  rintro rfl
  rw [h] at hk'
  exact Bool.noConfusion hk'

theorem Sys.Frame.when (s : Sys) (c : Bool) (f : Sys → Sys) (h : c = true → s.Frame (f s) but parts) : s.Frame (s.when c f) but parts := by
  unfold Sys.when
  split
  · next hc => exact h hc
  · exact .refl s

theorem Sys.Frame.ite {c : Prop} [Decidable c] (ht : c → s.Frame t but parts) (hu : ¬ c → s.Frame u but parts) :
    s.Frame (if c then t else u) but parts := by
  split
  · next hc => exact ht hc
  · next hc => exact hu hc

theorem Sys.Frame.each {α : Type} (s : Sys) (l : List α) (f : Sys → α → Sys) (h : ∀ t a, a ∈ l → Sys.Frame t (f t a) but parts) :
    s.Frame (s.each l f) but parts := by
  unfold Sys.each
  induction l generalizing s with
  | nil => exact .refl s
  | cons a l ih => exact (h s a List.mem_cons_self).trans (ih (f s a) fun t b hb => h t b (List.mem_cons_of_mem a hb))

/-- What differs in one part only. -/
theorem Sys.Frame.of_part {p : Part} (hr : t.regs = s.regs) (hp : parts.contains p = true) (h : ∀ q, q ≠ p → q.Same s t) : s.Frame t but parts := by
  refine ⟨fun k _ => by unfold Sys.rd; rw [hr], fun q hq => h q ?_⟩
  rintro rfl
  rw [hp] at hq
  exact Bool.noConfusion hq

theorem Sys.Frame.set_freeCount (s : Sys) (x : Nat) (h : parts.contains .freeCount = true) : s.Frame { s with freeCount := x } but parts :=
  .of_part rfl h (by intro q hq; cases q <;> first | rfl | exact absurd rfl hq)
theorem Sys.Frame.set_resp (s : Sys) (x : Resp) (h : parts.contains .resp = true) : s.Frame { s with resp := x } but parts :=
  .of_part rfl h (by intro q hq; cases q <;> first | rfl | exact absurd rfl hq)
theorem Sys.Frame.set_stations (s : Sys) (x : Stations) (h : parts.contains .stations = true) : s.Frame { s with stations := x } but parts :=
  .of_part rfl h (by intro q hq; cases q <;> first | rfl | exact absurd rfl hq)
theorem Sys.Frame.set_span (s : Sys) (x : SpanSt) (h : parts.contains .span = true) : s.Frame { s with span := x } but parts :=
  .of_part rfl h (by intro q hq; cases q <;> first | rfl | exact absurd rfl hq)
theorem Sys.Frame.set_znx (s : Sys) (x : ZnxSt) (h : parts.contains .znx = true) : s.Frame { s with znx := x } but parts :=
  .of_part rfl h (by intro q hq; cases q <;> first | rfl | exact absurd rfl hq)
theorem Sys.Frame.set_conf (s : Sys) (x : Conf) (h : parts.contains .conf = true) : s.Frame { s with conf := x } but parts :=
  .of_part rfl h (by intro q hq; cases q <;> first | rfl | exact absurd rfl hq)
theorem Sys.Frame.set_shadow (s : Sys) (x : Option Conf) (h : parts.contains .shadow = true) : s.Frame { s with shadow := x } but parts :=
  .of_part rfl h (by intro q hq; cases q <;> first | rfl | exact absurd rfl hq)
theorem Sys.Frame.set_fcr (s : Sys) (x : FcrSt) (h : parts.contains .fcr = true) : s.Frame { s with fcr := x } but parts :=
  .of_part rfl h (by intro q hq; cases q <;> first | rfl | exact absurd rfl hq)
theorem Sys.Frame.set_icn (s : Sys) (x : IcnSt) (h : parts.contains .icn = true) : s.Frame { s with icn := x } but parts :=
  .of_part rfl h (by intro q hq; cases q <;> first | rfl | exact absurd rfl hq)
theorem Sys.Frame.set_ticks (s : Sys) (x : Nat) (h : parts.contains .ticks = true) : s.Frame { s with ticks := x } but parts :=
  .of_part rfl h (by intro q hq; cases q <;> first | rfl | exact absurd rfl hq)
theorem Sys.Frame.set_chans (s : Sys) (x : Bank Nat Chan) (h : parts.contains .chans = true) : s.Frame { s with chans := x } but parts :=
  .of_part rfl h (by intro q hq; cases q <;> first | rfl | exact absurd rfl hq)
theorem Sys.Frame.set_slices (s : Sys) (x : Bank Nat Slice) (h : parts.contains .slices = true) : s.Frame { s with slices := x } but parts :=
  .of_part rfl h (by intro q hq; cases q <;> first | rfl | exact absurd rfl hq)
theorem Sys.Frame.set_stops (s : Sys) (x : Bank Nat Stop) (h : parts.contains .stops = true) : s.Frame { s with stops := x } but parts :=
  .of_part rfl h (by intro q hq; cases q <;> first | rfl | exact absurd rfl hq)
theorem Sys.Frame.set_msgs (s : Sys) (x : List Msg) (h : parts.contains .msgs = true) : s.Frame { s with msgs := x } but parts :=
  .of_part rfl h (by intro q hq; cases q <;> first | rfl | exact absurd rfl hq)
theorem Sys.Frame.set_staging (s : Sys) (x : Bank Nat (List Stage)) (h : parts.contains .staging = true) : s.Frame { s with staging := x } but parts :=
  .of_part rfl h (by intro q hq; cases q <;> first | rfl | exact absurd rfl hq)
theorem Sys.Frame.set_brace (s : Sys) (x : Bank Nat BraceSt) (h : parts.contains .brace = true) : s.Frame { s with brace := x } but parts :=
  .of_part rfl h (by intro q hq; cases q <;> first | rfl | exact absurd rfl hq)
theorem Sys.Frame.set_regionNow (s : Sys) (x : Bank (Nat × Nat) (Word × Word)) (h : parts.contains .regionNow = true) : s.Frame { s with regionNow := x } but parts :=
  .of_part rfl h (by intro q hq; cases q <;> first | rfl | exact absurd rfl hq)
theorem Sys.Frame.set_harts (s : Sys) (x : Bank Nat Hart) (h : parts.contains .harts = true) : s.Frame { s with harts := x } but parts :=
  .of_part rfl h (by intro q hq; cases q <;> first | rfl | exact absurd rfl hq)
theorem Sys.Frame.set_qosHeld (s : Sys) (x : Bank Nat Nat) (h : parts.contains .qosHeld = true) : s.Frame { s with qosHeld := x } but parts :=
  .of_part rfl h (by intro q hq; cases q <;> first | rfl | exact absurd rfl hq)
theorem Sys.Frame.set_pwr (s : Sys) (x : PwrSt) (h : parts.contains .pwr = true) : s.Frame { s with pwr := x } but parts :=
  .of_part rfl h (by intro q hq; cases q <;> first | rfl | exact absurd rfl hq)
theorem Sys.Frame.set_links (s : Sys) (x : Bank (Nat × Nat) LinkSt) (h : parts.contains .links = true) : s.Frame { s with links := x } but parts :=
  .of_part rfl h (by intro q hq; cases q <;> first | rfl | exact absurd rfl hq)
theorem Sys.Frame.set_eps (s : Sys) (x : Bank Nat EpSt) (h : parts.contains .eps = true) : s.Frame { s with eps := x } but parts :=
  .of_part rfl h (by intro q hq; cases q <;> first | rfl | exact absurd rfl hq)
theorem Sys.Frame.set_engs (s : Sys) (x : Bank Nat EngSt) (h : parts.contains .engs = true) : s.Frame { s with engs := x } but parts :=
  .of_part rfl h (by intro q hq; cases q <;> first | rfl | exact absurd rfl hq)
theorem Sys.Frame.set_rtv (s : Sys) (x : Bank Nat RtvChan) (h : parts.contains .rtv = true) : s.Frame { s with rtv := x } but parts :=
  .of_part rfl h (by intro q hq; cases q <;> first | rfl | exact absurd rfl hq)
theorem Sys.Frame.set_rtvClock (s : Sys) (x : Nat) (h : parts.contains .rtvClock = true) : s.Frame { s with rtvClock := x } but parts :=
  .of_part rfl h (by intro q hq; cases q <;> first | rfl | exact absurd rfl hq)
theorem Sys.Frame.set_own (s : Sys) (x : OwnSt) (h : parts.contains .own = true) : s.Frame { s with own := x } but parts :=
  .of_part rfl h (by intro q hq; cases q <;> first | rfl | exact absurd rfl hq)
theorem Sys.Frame.set_kresets (s : Sys) (x : Bank Nat KReset) (h : parts.contains .kresets = true) : s.Frame { s with kresets := x } but parts :=
  .of_part rfl h (by intro q hq; cases q <;> first | rfl | exact absurd rfl hq)
theorem Sys.Frame.set_drm (s : Sys) (x : DrmSt) (h : parts.contains .drm = true) : s.Frame { s with drm := x } but parts :=
  .of_part rfl h (by intro q hq; cases q <;> first | rfl | exact absurd rfl hq)

theorem Sys.Frame.usedFree (s : Sys) (h : parts.contains .freeCount = true) : s.Frame s.usedFree but parts := .set_freeCount s _ h
theorem Sys.Frame.answer (s : Sys) (r : Resp) (h : parts.contains .resp = true) : s.Frame (s.answer r) but parts := .set_resp s r h
theorem Sys.Frame.raise (s : Sys) (a b : Nat) (h : parts.contains .fcr = true) : s.Frame (s.raise a b) but parts := .set_fcr s _ h
theorem Sys.Frame.passCounts (s : Sys) (n : Nat) (h : parts.contains .span = true) : s.Frame (s.passCounts n) but parts := .set_span s _ h

theorem Sys.Frame.putFree (s : Sys) (f : Fld) (i j : Nat) (hb : but ⟨f.reg, i, j⟩ = true) (h : parts.contains .freeCount = true) :
    s.Frame (s.putFree f i j) but parts := (Sys.Frame.put s f _ i j hb).trans (.usedFree _ h)

end

/-- The frame of a command that writes no memory is that of what it does to the rest of the part. -/
theorem State.only_withSys {s : State} {y : Sys} {but : RK → Bool} {parts : List Part} (h : s.sys.Frame y but parts) :
    s.Only (s.withSys y) but parts := ⟨⟨rfl, rfl⟩, h⟩

theorem State.only_after {s : State} {x : M} {but : RK → Bool} {parts : List Part} (ho : x.ops = []) (h : s.sys.Frame x.sys but parts) :
    s.Only (s.after x) but parts := by
  refine ⟨⟨?_, rfl⟩, h⟩
  rw [State.after_mem, ho, Mem.apply_nil]

/-! ## Fields -/

section
variable (s : Sys) (f g : Fld) (v i j i' j' : Nat)

/-- A field of another register is as it was. -/
theorem Sys.rf_put_reg (h : f.reg ≠ g.reg) : (s.put f v i j).rf g i' j' = s.rf g i' j' :=
  Sys.rf_put_other s f g v i j i' j' (.inl fun e => h (RK.mk.inj e).1)

/-- A field of other bits is as it was. -/
theorem Sys.rf_put_bits (h : g.lo + g.wd ≤ 64 ∧ (f.lo + f.wd ≤ g.lo ∨ g.lo + g.wd ≤ f.lo)) : (s.put f v i j).rf g i' j' = s.rf g i' j' :=
  Sys.rf_put_other s f g v i j i' j' (.inr h)

/-- A register of another name is as it was. -/
theorem Sys.rd_put_reg (k : RK) (h : f.reg ≠ k.reg) : (s.put f v i j).rd k = s.rd k :=
  Sys.rd_put_other s f v i j k fun e => h (congrArg RK.reg e)

theorem Sys.rf_lt : s.rf f i j < 2 ^ f.wd := fget_lt _ _ _

/-- Only the registers make what a field reads. -/
theorem Sys.rf_of_regs {s t : Sys} (h : t.regs = s.regs) : t.rf f i j = s.rf f i j := by
  unfold Sys.rf Sys.rd
  rw [h]

end

/-! ## Registers of a state whose parts are replaced -/

section
variable (s : Sys) (f : Fld) (i j : Nat) (k : RK) {x1 x2 x3 x4 x5 x6 x7 x8 x9 x10 x11 x12 x13 x14 x15 x16 x17 x18 x19 x20 x21 x22 x23 x24 x25 x26 x27 x28}

/-- Registers read as they are in the state that the registers are of. -/
@[simp] theorem Sys.rd_mk : (Sys.mk s.regs x1 x2 x3 x4 x5 x6 x7 x8 x9 x10 x11 x12 x13 x14 x15 x16 x17 x18 x19 x20 x21 x22 x23 x24 x25 x26 x27 x28).rd k = s.rd k := rfl
@[simp] theorem Sys.rf_mk : (Sys.mk s.regs x1 x2 x3 x4 x5 x6 x7 x8 x9 x10 x11 x12 x13 x14 x15 x16 x17 x18 x19 x20 x21 x22 x23 x24 x25 x26 x27 x28).rf f i j = s.rf f i j := rfl
@[simp] theorem Sys.on_mk : (Sys.mk s.regs x1 x2 x3 x4 x5 x6 x7 x8 x9 x10 x11 x12 x13 x14 x15 x16 x17 x18 x19 x20 x21 x22 x23 x24 x25 x26 x27 x28).on f i j = s.on f i j := rfl

end

/-! ## A change made under a condition -/

section
variable (s : Sys) (c : Bool) (h : Sys → Sys)

theorem Sys.rf_when (f : Fld) (i j : Nat) : (s.when c h).rf f i j = if c then (h s).rf f i j else s.rf f i j := apply_ite (fun t => Sys.rf t f i j) _ _ _
theorem Sys.rd_when (k : RK) : (s.when c h).rd k = if c then (h s).rd k else s.rd k := apply_ite (fun t => Sys.rd t k) _ _ _
@[simp] theorem Sys.when_true : s.when true h = h s := rfl
@[simp] theorem Sys.when_false : s.when false h = s := rfl
theorem Sys.freeCount_when : (s.when c h).freeCount = if c then (h s).freeCount else s.freeCount := apply_ite Sys.freeCount _ _ _
theorem Sys.resp_when : (s.when c h).resp = if c then (h s).resp else s.resp := apply_ite Sys.resp _ _ _
theorem Sys.stations_when : (s.when c h).stations = if c then (h s).stations else s.stations := apply_ite Sys.stations _ _ _
theorem Sys.span_when : (s.when c h).span = if c then (h s).span else s.span := apply_ite Sys.span _ _ _
theorem Sys.znx_when : (s.when c h).znx = if c then (h s).znx else s.znx := apply_ite Sys.znx _ _ _
theorem Sys.conf_when : (s.when c h).conf = if c then (h s).conf else s.conf := apply_ite Sys.conf _ _ _
theorem Sys.shadow_when : (s.when c h).shadow = if c then (h s).shadow else s.shadow := apply_ite Sys.shadow _ _ _
theorem Sys.fcr_when : (s.when c h).fcr = if c then (h s).fcr else s.fcr := apply_ite Sys.fcr _ _ _
theorem Sys.icn_when : (s.when c h).icn = if c then (h s).icn else s.icn := apply_ite Sys.icn _ _ _
theorem Sys.ticks_when : (s.when c h).ticks = if c then (h s).ticks else s.ticks := apply_ite Sys.ticks _ _ _
theorem Sys.chans_when : (s.when c h).chans = if c then (h s).chans else s.chans := apply_ite Sys.chans _ _ _
theorem Sys.slices_when : (s.when c h).slices = if c then (h s).slices else s.slices := apply_ite Sys.slices _ _ _
theorem Sys.stops_when : (s.when c h).stops = if c then (h s).stops else s.stops := apply_ite Sys.stops _ _ _
theorem Sys.msgs_when : (s.when c h).msgs = if c then (h s).msgs else s.msgs := apply_ite Sys.msgs _ _ _
theorem Sys.staging_when : (s.when c h).staging = if c then (h s).staging else s.staging := apply_ite Sys.staging _ _ _
theorem Sys.brace_when : (s.when c h).brace = if c then (h s).brace else s.brace := apply_ite Sys.brace _ _ _
theorem Sys.regionNow_when : (s.when c h).regionNow = if c then (h s).regionNow else s.regionNow := apply_ite Sys.regionNow _ _ _
theorem Sys.harts_when : (s.when c h).harts = if c then (h s).harts else s.harts := apply_ite Sys.harts _ _ _
theorem Sys.qosHeld_when : (s.when c h).qosHeld = if c then (h s).qosHeld else s.qosHeld := apply_ite Sys.qosHeld _ _ _
theorem Sys.pwr_when : (s.when c h).pwr = if c then (h s).pwr else s.pwr := apply_ite Sys.pwr _ _ _
theorem Sys.links_when : (s.when c h).links = if c then (h s).links else s.links := apply_ite Sys.links _ _ _
theorem Sys.eps_when : (s.when c h).eps = if c then (h s).eps else s.eps := apply_ite Sys.eps _ _ _
theorem Sys.engs_when : (s.when c h).engs = if c then (h s).engs else s.engs := apply_ite Sys.engs _ _ _
theorem Sys.rtv_when : (s.when c h).rtv = if c then (h s).rtv else s.rtv := apply_ite Sys.rtv _ _ _
theorem Sys.rtvClock_when : (s.when c h).rtvClock = if c then (h s).rtvClock else s.rtvClock := apply_ite Sys.rtvClock _ _ _
theorem Sys.own_when : (s.when c h).own = if c then (h s).own else s.own := apply_ite Sys.own _ _ _
theorem Sys.kresets_when : (s.when c h).kresets = if c then (h s).kresets else s.kresets := apply_ite Sys.kresets _ _ _
theorem Sys.drm_when : (s.when c h).drm = if c then (h s).drm else s.drm := apply_ite Sys.drm _ _ _

end

end Sys2Proof.Machine
end

section
/-!
SUPPORT. Commands that are one write of a register which takes effect: what the write starts from, and the frame of what it leaves.
-/
namespace Sys2Proof.Machine

/-- What the identification of the requester and the apply point of the paths may have changed before a register takes its write (R31 to R33,
R506). -/
def Sys.Touched (s t : Sys) : Prop :=
  t = { s with freeCount := t.freeCount, drm := t.drm, stations := t.stations, regs := t.regs } ∧ ∀ k, k.reg ≠ .SYS_CS_STATUS → t.rd k = s.rd k

/-- The register that an access's own status is in. -/
abbrev csStatus (k : RK) : Bool := k.reg == .SYS_CS_STATUS

theorem Sys.Known.marked {s o t : Sys} (h : s.Known o) (g : o.Marked t) : s.Touched t := by
  obtain ⟨ht, hr⟩ := g
  refine ⟨?_, fun k hk => (hr k hk).trans (h.rd k)⟩
  rw [ht, h]

section
variable {s t : Sys} (h : s.Touched t)
include h

theorem Sys.Touched.rf (f : Fld) (i j : Nat) (hf : f.reg ≠ .SYS_CS_STATUS) : t.rf f i j = s.rf f i j := by
  unfold Sys.rf
  rw [h.2 _ hf]

theorem Sys.Touched.on (f : Fld) (i j : Nat) (hf : f.reg ≠ .SYS_CS_STATUS) : t.on f i j = s.on f i j := by
  unfold Sys.on
  rw [h.rf f i j hf]

theorem Sys.Touched.frame : s.Frame t csStatus accessParts := by
  refine ⟨fun k hk => h.2 k fun e => ?_, fun q hq => ?_⟩
  · simp [csStatus, e] at hk
  · rw [h.1]
    cases q <;> first | rfl | exact absurd hq (by decide)

theorem Sys.Touched.part (q : Part) (hq : accessParts.contains q = false) : q.Same s t := h.frame.2 q hq

/-- The frame of a write that takes effect is its register's, with what the access itself changes. -/
theorem Sys.Touched.frame_write {y : Sys} {but : RK → Bool} {parts : List Part} {r : Resp} (hy : t.Frame y but parts)
    (hb : ∀ k, csStatus k = true → but k = true) (hp : accessParts ⊆ parts) : s.Frame (y.answer r) but parts :=
  ((h.frame.mono hb hp).trans hy).trans (.answer _ _ (by simpa using hp (List.mem_cons_self)))

end

/-- The outcome of a command that is one write which takes effect, of a register outside the ICN: its register's write, on a state that only the
access has touched. -/
theorem State.Takes.rowWrite {s : State} {c : Instr} {req : Requester} {k : RK} {v : Word} {fwd : Option Nat} (ht : s.Takes c)
    (ha : Instr.access c = some ⟨req, k, some v, fwd⟩) (hc : exec c s = onM (fun x => x.rowWrite req k v fwd) s)
    (hdom : ∀ t, Sys.domOf t k = none) : ∃ t, s.sys.Touched t ∧ exec c s = .next (s.after
      (((⟨s.mem, t, []⟩ : M).regWrite (s.sys.whoIs req).1 k.canon (s.sys.offsetOf k) v fwd).on (fun y => y.answer (.done 0)))) := by
  obtain ⟨hl, a, hmem, htakes⟩ := ht
  rw [ha] at hmem
  cases hmem
  obtain ⟨t, hmark, hrow⟩ := Sys.Takes.write rfl htakes
  refine ⟨t, (s.sys.opened_known _ hdom).marked hmark, ?_⟩
  rw [hc, onM_live _ s hl]
  exact congrArg (fun x => Host.Outcome.next (s.after x)) hrow

/-- A command that is one write of a register outside the ICN which takes effect completes with what its register's write leaves, when that
is a function of the block's state. -/
theorem State.Takes.completes {s : State} {c : Instr} {req : Requester} {k : RK} {v : Word} {fwd : Option Nat} {p : State → Prop} (f : Sys → Sys)
    (ht : s.Takes c) (ha : Instr.access c = some ⟨req, k, some v, fwd⟩) (hc : exec c s = onM (fun x => x.rowWrite req k v fwd) s)
    (hdom : ∀ t, Sys.domOf t k = none)
    (hf : ∀ t, s.sys.Touched t → (⟨s.mem, t, []⟩ : M).regWrite (s.sys.whoIs req).1 k.canon (s.sys.offsetOf k) v fwd = (⟨s.mem, t, []⟩ : M).on f)
    (hp : ∀ t, s.sys.Touched t → p (s.withSys ((f t).answer (.done 0)))) : Completes c s p := by
  obtain ⟨t, htouch, he⟩ := ht.rowWrite ha hc hdom
  refine ⟨_, he, ?_⟩
  rw [hf t htouch]
  exact hp t htouch

end Sys2Proof.Machine
end

section
/-!
PROOFS. The Leash port: its states, its frames, and the SPN block's registers and times (ch. 2).
-/
namespace Sys2Proof.Machine

/-! ## The port's states -/

/-- The register that shows the port's state. -/
abbrev spnStatus (k : RK) : Bool := k.reg == .SPN_STATUS

section
variable (s : Sys) (st : Nat)

theorem Sys.showTimebase_frame {parts : List Part} : s.Frame s.showTimebase spnStatus parts :=
  (Sys.Frame.put s _ _ _ _ rfl).trans (.when _ _ _ fun _ => .put _ _ _ _ _ rfl)

theorem Sys.portTo_frame : s.Frame (s.portTo st) spnStatus [.span] := by
  have hput : s.Frame (s.put F.SPN_STATUS_PORT_STATE st) spnStatus [.span] := .put s _ _ _ _ rfl
  exact (hput.trans (.set_span _ _ rfl)).trans (Sys.showTimebase_frame _)

theorem Sys.holdAtTick_frame {but : RK → Bool} (b : Bool) : s.Frame (s.holdAtTick b) but [.span] := .set_span s _ rfl

@[simp] theorem Sys.holdAtTick_rf (b : Bool) (f : Fld) (i j : Nat) : (s.holdAtTick b).rf f i j = s.rf f i j := rfl
@[simp] theorem Sys.holdAtTick_portState (b : Bool) : (s.holdAtTick b).portState = s.portState := rfl
@[simp] theorem Sys.raise_portState (a b : Nat) : (s.raise a b).portState = s.portState := rfl
@[simp] theorem Sys.holdAtTick_holdNext (b : Bool) : (s.holdAtTick b).span.holdNext = some b := rfl

@[simp] theorem Sys.showTimebase_span : s.showTimebase.span = s.span := by
  simp [Sys.showTimebase, Sys.span_when]

@[simp] theorem Sys.showTimebase_portState : s.showTimebase.portState = s.portState := by
  simp (disch := decide) [Sys.showTimebase, Sys.portState, Sys.rf_when, Sys.rf_put_bits]

/-- The port enters a state and starts it afresh (R65). -/
theorem Sys.portTo_span : (s.portTo st).span = { s.span with
    rideSpans := 0, lastRack := none, inHoldover := s.span.inHoldover || (decide (st = portLocked) && !s.leashMaster) } := by
  have hm : (s.put F.SPN_STATUS_PORT_STATE st).leashMaster = s.leashMaster := by
    simp (disch := decide) [Sys.leashMaster, Sys.on, Sys.rf_put_bits]
  simp [Sys.portTo, hm]

theorem Sys.portTo_portState (h : st < 8) : (s.portTo st).portState = st := by
  simpa (disch := decide) [Sys.portTo, Sys.portState, Sys.showTimebase, Sys.rf_when, Sys.rf_put_bits, Sys.rf_put_self] using h

/-- LOCKED shows the timebase disciplined (R73). -/
theorem Sys.portTo_locked_timebase : (s.portTo portLocked).rf F.SPN_STATUS_TIMEBASE = 1 := by
  simp (disch := decide) [Sys.portTo, Sys.portState, Sys.showTimebase, Sys.rf_put_bits, Sys.rf_put_self, portLocked]

/-- A change of state touches no register but SPN_STATUS, and no field of it but PORT_STATE, TIMEBASE and HOLDOVER_SPANS. -/
theorem Sys.rf_portTo (g : Fld) (i j : Nat) (h : F.SPN_STATUS_PORT_STATE.reg ≠ g.reg ∨ 6 ≤ g.lo ∧ g.lo + g.wd ≤ 20) :
    (s.portTo st).rf g i j = s.rf g i j := by
  have apart (f : Fld) (hr : f.reg = .SPN_STATUS) (hb : f.lo + f.wd ≤ 6 ∨ 20 ≤ f.lo) (t : Sys) (v : Nat) : (t.put f v).rf g i j = t.rf g i j := by
    rcases h with h | h
    · exact Sys.rf_put_reg t f g _ _ _ _ _ (by rw [hr]; exact h)
    · exact Sys.rf_put_bits t f g _ _ _ _ _ ⟨by omega, by omega⟩
  simp [Sys.portTo, Sys.showTimebase, Sys.rf_when, apart F.SPN_STATUS_PORT_STATE rfl (by decide), apart F.SPN_STATUS_TIMEBASE rfl (by decide),
    apart F.SPN_STATUS_HOLDOVER_SPANS rfl (by decide)]

end

/-- SEEK goes to ACQUIRE with FWD measured and applied at once (R64, R65). -/
theorem Sys.gainLock_seek (s : Sys) (fwd : Nat) (hst : s.portState = portSeek) (hr : s.rf F.SPN_CTL_RECAL = 0) :
    s.gainLock fwd = { (({ s with span := { s.span with symbolLock := true } } : Sys).portTo portAcquire).put F.SPN_DELAY_FWD fwd with
      span := { (({ s with span := { s.span with symbolLock := true } } : Sys).portTo portAcquire).span with fwdUsed := fwd % 2 ^ 24 } } := by
  have hrecal : (({ s with span := { s.span with symbolLock := true } } : Sys).portTo portAcquire).rf F.SPN_CTL_RECAL = 0 :=
    (Sys.rf_portTo _ _ _ _ _ (.inl (by decide))).trans hr
  have hoff : ¬ portSeek = portOff := by decide
  simp (disch := decide) [Sys.gainLock, hst, hoff, Sys.on, Sys.rf_put_reg, hrecal]

/-- Settles O13: each event of the ring is a change of the port's state with its action, whose frame is the port's. -/
theorem leashLocks : Obligations.LeashLocks := by
  refine ⟨?txLock, ?lock, ?lostAcquire, ?lostLocked, ?marker, ?ride, ?holdover⟩
  case txLock =>
    intro s hl hst
    refine completes_onSys _ _ s _ hl rfl ?_
    rw [if_pos hst]
    exact ⟨by simp (disch := decide) [Sys.portTo_portState], by simp [Sys.portTo_locked_timebase], by simp,
      State.only_withSys ((s.sys.portTo_frame _).trans (Sys.holdAtTick_frame _ _))⟩
  case lock =>
    intro s fwd hl hst hr
    refine completes_onSys _ _ s _ hl rfl ?_
    rw [Sys.gainLock_seek s.sys fwd.toNat hst hr]
    have hfwd : fwd.toNat % 2 ^ 24 = fwd.toNat := Nat.mod_eq_of_lt fwd.isLt
    refine ⟨?state, by simp [Sys.portTo_span], (Sys.rf_put_self _ _ _ _ _ (by decide)).trans hfwd, hfwd, by simp [Sys.portTo_span], State.only_withSys ?frame⟩
    case state => simpa (disch := decide) [Sys.portState, Sys.rf_put_reg] using Sys.portTo_portState _ portAcquire (by decide)
    case frame =>
      have hport := (Sys.Frame.set_span s.sys { s.sys.span with symbolLock := true } rfl).trans (Sys.portTo_frame _ portAcquire)
      exact ((hport.regs_mono fun k hk => by simp_all).trans (.put _ _ _ _ _ rfl)).trans (.set_span _ _ rfl)
  case lostAcquire =>
    intro s hl hst
    refine completes_onSys _ _ s _ hl rfl ?_
    unfold Sys.loseLock
    rw [if_pos hst]
    exact ⟨by simp (disch := decide) [Sys.portTo_portState], by simp [Sys.portTo_span], by simp [Sys.portTo_span],
      State.only_withSys ((Sys.Frame.set_span s.sys _ rfl).trans (Sys.portTo_frame _ _))⟩
  case lostLocked =>
    intro s hl hst hm
    refine completes_onSys _ _ s _ hl rfl ?_
    unfold Sys.loseLock
    rw [if_neg (by rw [hst]; decide), if_pos ⟨hst, by simpa [Sys.leashMaster] using hm⟩]
    exact ⟨by simp (disch := decide) [Sys.portTo_portState], by simp [Sys.portTo_span], by simp [Sys.portTo_span],
      State.only_withSys ((Sys.Frame.set_span s.sys _ rfl).trans (Sys.portTo_frame _ _))⟩
  case marker =>
    intro s hl hst hm
    refine completes_onSys _ _ s _ hl rfl ?_
    rw [if_pos ⟨hst, by simpa using hm⟩]
    exact ⟨by simp (disch := decide) [Sys.portTo_portState], by simp [Sys.portTo_span], by simp [Sys.portTo_span], State.only_withSys (Sys.portTo_frame _ _)⟩
  case ride =>
    intro s hl hst hr
    refine completes_onSys _ _ s _ hl rfl ?_
    rw [if_pos ⟨hst, hr⟩]
    have hport : s.sys.Frame _ spnStatus [.span] :=
      (Sys.Frame.set_span s.sys { s.sys.span with symbolLock := false } rfl).trans (Sys.portTo_frame _ portSeek)
    have hheld := hport.trans (Sys.holdAtTick_frame _ false)
    have hevents := congrArg (fun f : FcrSt => f.events ++ [⟨srcGlobal 1, 0⟩]) (hheld.2 .fcr rfl)
    exact ⟨by simp (disch := decide) [Sys.portTo_portState], by simp, hevents, State.only_withSys ((hheld.parts_mono (by decide)).trans (.raise _ _ _ rfl))⟩
  case holdover =>
    intro s hl hst
    refine completes_onSys _ _ s _ hl rfl ?_
    rw [if_neg hst]
    refine ⟨?_, Sys.showTimebase_portState _, State.only_withSys ((Sys.Frame.set_span s.sys _ rfl).trans (Sys.showTimebase_frame _))⟩
    have hst' : ({ s.sys with span := { s.sys.span with inHoldover := false } } : Sys).portState ≠ portLocked := hst
    simp (disch := decide) [Sys.showTimebase, hst', Sys.rf_put_self]

end Sys2Proof.Machine
end

section
/-!
PROOFS. What a node of the Leash does with the frames of the ring (ch. 2).
-/
namespace Sys2Proof.Machine

section
variable (s : Sys)

/-- The register that shows the fallen map. -/
abbrev fallenReg (k : RK) : Bool := k.reg == .SPN_FALLEN

theorem Sys.showFallen_frame (m : BitVec 256) {parts : List Part} : s.Frame (s.showFallen m) fallenReg parts :=
  Sys.Frame.each s (below 4) (fun t i => t.put F.SPN_FALLEN_MAP ((m.toNat >>> (64 * i)) % 2 ^ 64) i) fun t _ _ => .put t _ _ _ _ rfl

theorem Sys.showFallen_rf (m : BitVec 256) (g : Fld) (i j : Nat) (h : g.reg ≠ .SPN_FALLEN) : (s.showFallen m).rf g i j = s.rf g i j := by
  unfold Sys.rf
  rw [(s.showFallen_frame m (parts := [])).1 _ (by simpa using h)]

@[simp] theorem Sys.showFallen_span (m : BitVec 256) : (s.showFallen m).span = s.span := (s.showFallen_frame m (parts := [])).2 .span rfl

theorem Sys.spanAdjust_frame (f : TimeFrame) (mark : Int) (now : Nat) : s.Frame (s.spanAdjust f mark now) spnStatus [.span, .fcr] := by
  have hspan : s.Frame (({ s with span := { s.span with adjust := some (s.nextTick f mark now) } } : Sys).toPhase (now / 625)) spnStatus [.span, .fcr] :=
    (Sys.Frame.set_span s _ rfl).trans (.passCounts _ _ rfl)
  refine hspan.trans (Sys.Frame.trans (.ite (fun _ => ?_) fun _ => .refl _) (.when _ _ _ fun _ => .put _ _ _ _ _ rfl))
  exact (Sys.Frame.put _ _ _ _ _ rfl).trans (.raise _ _ _ rfl)

/-- The state of a node that adopts the master's tick, before what is recorded of a large shift (R66). -/
def Sys.adjusted (s : Sys) (f : TimeFrame) (mark : Int) (now : Nat) : Sys :=
  ({ s with span := { s.span with adjust := some (s.nextTick f mark now) } } : Sys).toPhase (now / 625)

/-- What is recorded of a large shift changes nothing of the span. -/
theorem Sys.spanAdjust_span (f : TimeFrame) (mark : Int) (now : Nat) : (s.spanAdjust f mark now).span = (s.adjusted f mark now).span := by
  unfold Sys.spanAdjust
  refine (Sys.span_when _ _ _).trans ?_
  refine (if_congr Iff.rfl (Sys.put_span _ _ _ _ _) rfl).trans ((ite_self _).trans ?_)
  exact (apply_ite Sys.span _ _ _).trans (ite_self _)

/-- Nor does it touch a field of SPN_STATUS but STEPPED and RENUMBERED, or another register. -/
theorem Sys.rf_spanAdjust (f : TimeFrame) (mark : Int) (now : Nat) (g : Fld) (i j : Nat)
    (h : g.reg ≠ .SPN_STATUS ∨ g.lo + g.wd ≤ 9) : (s.spanAdjust f mark now).rf g i j = s.rf g i j := by
  have apart (e : Fld) (hr : e.reg = .SPN_STATUS) (hb : 9 ≤ e.lo) (t : Sys) (v : Nat) : (t.put e v).rf g i j = t.rf g i j := by
    rcases h with h | h
    · exact Sys.rf_put_reg t e g _ _ _ _ _ (by rw [hr]; exact h.symm)
    · exact Sys.rf_put_bits t e g _ _ _ _ _ ⟨by omega, by omega⟩
  unfold Sys.spanAdjust
  refine (Sys.rf_when _ _ _ g i j).trans ?_
  refine (if_congr Iff.rfl (apart F.SPN_STATUS_RENUMBERED rfl (by decide) _ _) rfl).trans ((ite_self _).trans ?_)
  refine (apply_ite (fun t => Sys.rf t g i j) _ _ _).trans ((if_congr Iff.rfl ?_ rfl).trans (ite_self _))
  exact apart F.SPN_STATUS_STEPPED rfl (by decide) _ _

/-- Forwarding a valid TIME frame: the registers it shows (R59, R61, R69). -/
abbrev forwardReg (k : RK) : Bool := k.reg == .SPN_STATUS || k.reg == .SPN_DELAY || k.reg == .SPN_FALLEN

theorem Sys.timeForward_frame (f : TimeFrame) : s.Frame (s.timeForward f) forwardReg [.span] := by
  unfold Sys.timeForward
  refine Sys.Frame.trans ?_ ((Sys.showFallen_frame _ _).regs_mono fun k hk => by simp_all [fallenReg, forwardReg])
  exact ((Sys.Frame.when _ _ _ fun _ => .put _ _ _ _ _ rfl).trans (.put _ _ _ _ _ rfl)).trans (.set_span _ _ rfl)

/-- It shows MAP_ERR, ACC_IN and the fallen map, and no other field. -/
theorem Sys.rf_timeForward (f : TimeFrame) (g : Fld) (i j : Nat) (hw : g.lo + g.wd ≤ 64) (h : g.reg = .SPN_STATUS ∧ g.lo + g.wd ≤ 9 ∨ g.reg = .SPN_CFG) :
    (s.timeForward f).rf g i j = s.rf g i j := by
  have hfallen : g.reg ≠ .SPN_FALLEN := by rcases h with ⟨h, -⟩ | h <;> simp [h]
  have hdelay (t : Sys) (v : Nat) : (t.put F.SPN_DELAY_ACC_IN v).rf g i j = t.rf g i j :=
    Sys.rf_put_reg t _ g _ _ _ _ _ (by rcases h with ⟨h, -⟩ | h <;> simp [h])
  have hmap (t : Sys) (v : Nat) : (t.put F.SPN_STATUS_MAP_ERR v).rf g i j = t.rf g i j := by
    rcases h with ⟨-, h⟩ | h
    · exact Sys.rf_put_bits t _ g _ _ _ _ _ ⟨hw, .inr (by simp; omega)⟩
    · exact Sys.rf_put_reg t _ g _ _ _ _ _ (by simp [h])
  simp [Sys.timeForward, Sys.showFallen_rf _ _ _ _ _ hfallen, Sys.rf_when, hdelay, hmap]

/-- The node's ring map and position, and so its delays, are as they were. -/
theorem Sys.timeForward_ringPos (f : TimeFrame) : (s.timeForward f).ringPos = s.ringPos := by
  simp (disch := decide) [Sys.ringPos, Sys.leashMaster, Sys.on, Sys.rf_timeForward]

theorem Sys.timeForward_acc (f : TimeFrame) : (s.timeForward f).rf F.SPN_DELAY_ACC_IN = s.accIn f % 2 ^ 24 := by
  simp (disch := decide) [Sys.timeForward, Sys.showFallen_rf, Sys.rf_put_self]

theorem Sys.timeForward_span (f : TimeFrame) : (s.timeForward f).span = { s.span with tx := .time (TimeFrame.fresh { f with
    acc := BitVec.ofNat 24 (s.accIn f + s.span.fwdUsed + (s.hop s.ringPos).txOut), last := BitVec.ofNat 8 s.ringPos,
    fallen := mapBit f.fallen s.ringPos s.heeled }) } := by
  have hhop (c : Bool) (v : Nat) (q : Nat) : Sys.hop ((s.when c fun t => t.put F.SPN_STATUS_MAP_ERR 1).put F.SPN_DELAY_ACC_IN v) q = s.hop q := by
    simp [Sys.hop, Sys.span_when]
  have hheel (c : Bool) (v : Nat) : Sys.heeled ((s.when c fun t => t.put F.SPN_STATUS_MAP_ERR 1).put F.SPN_DELAY_ACC_IN v) = s.heeled := by
    simp (disch := decide) [Sys.heeled, Sys.on, Sys.rf_when, Sys.rf_put_reg]
  simp [Sys.timeForward, Sys.span_when, hhop, hheel]

end

@[simp] theorem Sys.passCounts_adjust (s : Sys) (n : Nat) : (s.passCounts n).span.adjust = s.span.adjust := rfl
@[simp] theorem Sys.passCounts_tx (s : Sys) (n : Nat) : (s.passCounts n).span.tx = s.span.tx := rfl

/-- The next tick that a frame sets depends on the ring's map, the node's place in it, the window and K (R66). -/
theorem Sys.nextTick_congr {s t : Sys} (f : TimeFrame) (mark : Int) (now : Nat) (hk : t.rf F.SPN_CFG_K = s.rf F.SPN_CFG_K)
    (hw : t.span.window = s.span.window) (hr : t.span.ringMap = s.span.ringMap) (hp : t.ringPos = s.ringPos) :
    t.nextTick f mark now = s.nextTick f mark now := by
  simp [Sys.nextTick, Sys.accIn, Sys.bypassSum, Sys.hop, Sys.windowLen, hk, hw, hr, hp]

/-- A change of state leaves the node's place in the ring. -/
theorem Sys.portTo_ringPos (s : Sys) (st : Nat) : (s.portTo st).ringPos = s.ringPos := by
  simp (disch := decide) [Sys.ringPos, Sys.leashMaster, Sys.on, Sys.rf_portTo]

section
variable {s : Sys} (f : TimeFrame) (mark : Int) (now : Nat) (hm : s.leashMaster = false) (hsl : s.span.symbolLock = true)
include hm hsl

/-- A frame with a bad CRC is forwarded with it inverted, and a LOCKED node goes to RIDE (R59, R65). -/
theorem Sys.timeFrame_badCrc (hst : s.portState = portLocked) (hc : f.crcOk = false) : s.timeFrame f mark now =
    ({ s.put F.SPN_STATUS_CRC_ERR 1 with span := { s.span with tx := .time { f with crc := ~~~ f.crc }, lastRack := none } } : Sys).portTo portRide := by
  simp [Sys.timeFrame, hm, hsl, hst, hc]

/-- A frame of another K is forwarded as it is, and a LOCKED node goes to RIDE (R59, R65). -/
theorem Sys.timeFrame_badK (hst : s.portState = portLocked) (hc : f.crcOk = true) (hk : f.flags.toNat % 8 ≠ s.rf F.SPN_CFG_K) : s.timeFrame f mark now =
    ({ s.put F.SPN_STATUS_K_MISMATCH 1 with span := { s.span with tx := .time f, lastRack := none } } : Sys).portTo portRide := by
  simp [Sys.timeFrame, hm, hsl, hst, hc, hk]

/-- A valid frame is forwarded and has a node in RIDE lock again (R59, R65, R66). -/
theorem Sys.timeFrame_ride (hst : s.portState = portRide) (hc : f.crcOk = true) (hk : f.flags.toNat % 8 = s.rf F.SPN_CFG_K) : s.timeFrame f mark now =
    ((s.timeForward f).portTo portLocked).spanAdjust f mark now := by
  have hne : ¬ portRide = portAcquire := by decide
  simp [Sys.timeFrame, hm, hsl, hst, hc, hk, hne]

end

/-! ## SCHED frames (R58, R60, R72) -/

section
variable (s : Sys) (f : SchedFrame)

theorem Sys.schedQueue_frame : s.Frame (s.schedQueue f) spnStatus [.span] := by
  unfold Sys.schedQueue
  exact .ite (fun _ => .refl s) fun _ => .ite (fun _ => .put s _ _ _ _ rfl) fun _ => .ite (fun _ => .put s _ _ _ _ rfl) fun _ => .set_span s _ rfl

theorem Sys.schedQueue_tx : (s.schedQueue f).span.tx = s.span.tx := by
  unfold Sys.schedQueue
  split
  · rfl
  · split
    · rfl
    · split <;> rfl

section
variable (ha : f.action = 1 ∨ f.action = 2)
include ha

theorem schedFrame_known : ¬ (f.action ≠ 1 ∧ f.action ≠ 2) := fun h => ha.elim h.1 h.2

/-- An EVENT or RECAL frame that comes too late is dropped. -/
theorem Sys.schedQueue_late (ht : f.target.toNat ≤ s.spanNo) : s.schedQueue f = s.put F.SPN_STATUS_SCHED_LATE 1 :=
  (if_neg (schedFrame_known f ha)).trans (if_pos ht)

/-- One that finds the list full is dropped. -/
theorem Sys.schedQueue_full (ht : s.spanNo < f.target.toNat) (hw : 8 ≤ s.span.waiting.length) : s.schedQueue f = s.put F.SPN_STATUS_SCHED_OVF 1 :=
  (if_neg (schedFrame_known f ha)).trans ((if_neg (Nat.not_le.mpr ht)).trans (if_pos hw))

/-- Any other waits. -/
theorem Sys.schedQueue_room (ht : s.spanNo < f.target.toNat) (hw : s.span.waiting.length < 8) :
    s.schedQueue f = { s with span := { s.span with waiting := s.span.waiting ++ [f] } } :=
  (if_neg (schedFrame_known f ha)).trans ((if_neg (Nat.not_le.mpr ht)).trans (if_neg (Nat.not_le.mpr hw)))

end

/-- The port with a SCHED frame on its transmit pair. -/
def Sys.sending : Sys := { s with span := { s.span with tx := .sched f } }

theorem Sys.sending_frame : s.Frame (s.sending f) spnStatus [.span] := .set_span s _ rfl

/-- The oldest EVENT entry shows in SPN_SCHED_RX0 and RX1 (R73). -/
abbrev eventReg (k : RK) : Bool := k.reg == .SPN_SCHED_RX0 || k.reg == .SPN_SCHED_RX1

theorem Sys.showEvents_frame {parts : List Part} : s.Frame s.showEvents eventReg parts := by
  unfold Sys.showEvents
  split <;> exact (((Sys.Frame.put s _ _ _ _ rfl).trans (.put _ _ _ _ _ rfl)).trans (.put _ _ _ _ _ rfl)).trans (.put _ _ _ _ _ rfl)

@[simp] theorem Sys.showEvents_span : s.showEvents.span = s.span := (s.showEvents_frame (parts := [])).2 .span rfl

/-- With no message to send for it, a waiting EVENT frame whose target has come joins the entries shown (R72). -/
theorem Sys.schedReached_event (fwd : Nat) (hw : s.span.waiting = [f]) (ht : f.target.toNat ≤ s.spanNo) (ha : f.action = 1)
    (hi : s.rf F.SPN_CTL_SCHED_IRQ_EN = 0) : s.schedReached fwd =
      Sys.showEvents { s with span := { s.span with waiting := [], events := s.span.events ++ [f] } } := by
  have hquiet : (Sys.showEvents { s with span := { s.span with waiting := [], events := s.span.events ++ [f] } }).on F.SPN_CTL_SCHED_IRQ_EN = false := by
    unfold Sys.on Sys.rf
    rw [(Sys.showEvents_frame _ (parts := [])).1 _ rfl]
    exact congrArg (· == 1) hi
  simp [Sys.schedReached, hw, ht, ha, hquiet]

end

/-- Settles O14: what each frame does to the port, by the frame's kind and what is good or bad of it. -/
theorem leashFrames : Obligations.LeashFrames := by
  refine ⟨?badCrc, ?badK, ?relock, ?back, ?insert, ?sched, ?reached⟩
  case badCrc =>
    intro s f mark now hl hm hsl hst hc
    refine completes_onSys _ _ s _ hl rfl ?_
    rw [Sys.timeFrame_badCrc f mark now hm hsl hst hc]
    have hfwd : s.sys.Frame _ spnStatus [.span] := (Sys.Frame.put s.sys F.SPN_STATUS_CRC_ERR 1 0 0 rfl).trans
      (.set_span _ { s.sys.span with tx := .time { f with crc := ~~~ f.crc }, lastRack := none } rfl)
    refine ⟨?_, by simp (disch := decide) [Sys.portTo_portState], by simp [Sys.portTo_span], State.only_withSys (hfwd.trans (Sys.portTo_frame _ _))⟩
    simp (disch := decide) [Sys.rf_portTo, Sys.rf_put_self]
  case badK =>
    intro s f mark now hl hm hsl hst hc hk
    refine completes_onSys _ _ s _ hl rfl ?_
    rw [Sys.timeFrame_badK f mark now hm hsl hst hc hk]
    have hfwd : s.sys.Frame _ spnStatus [.span] := (Sys.Frame.put s.sys F.SPN_STATUS_K_MISMATCH 1 0 0 rfl).trans
      (.set_span _ { s.sys.span with tx := .time f, lastRack := none } rfl)
    refine ⟨?_, by simp (disch := decide) [Sys.portTo_portState], by simp [Sys.portTo_span], State.only_withSys (hfwd.trans (Sys.portTo_frame _ _))⟩
    simp (disch := decide) [Sys.rf_portTo, Sys.rf_put_self]
  case relock =>
    intro s f mark now hl hm hsl hst hc hk
    refine completes_onSys _ _ s _ hl rfl ?_
    rw [Sys.timeFrame_ride f mark now hm hsl hst hc hk]
    have hnext : ((s.sys.timeForward f).portTo portLocked).nextTick f mark now = s.sys.nextTick f mark now := by
      refine Sys.nextTick_congr f mark now ?_ ?_ ?_ ?_
      · simp (disch := decide) [Sys.rf_portTo, Sys.rf_timeForward]
      · simp [Sys.portTo_span, Sys.timeForward_span]
      · simp [Sys.portTo_span, Sys.timeForward_span]
      · rw [Sys.portTo_ringPos, Sys.timeForward_ringPos]
    refine ⟨?state, ?timebase, ?acc, ?adjust, ?tx, State.only_withSys ?frame⟩
    case state =>
      have h := Sys.portTo_portState (s.sys.timeForward f) portLocked (by decide)
      simpa (disch := decide) [Sys.portState, Sys.rf_spanAdjust] using h
    case timebase => simp (disch := decide) [Sys.rf_spanAdjust, Sys.portTo_locked_timebase]
    case acc => simp (disch := decide) [Sys.rf_spanAdjust, Sys.rf_portTo, Sys.timeForward_acc]
    case adjust => simp [Sys.spanAdjust_span, Sys.adjusted, Sys.toPhase, hnext]
    case tx => simp [Sys.spanAdjust_span, Sys.adjusted, Sys.toPhase, Sys.portTo_span, Sys.timeForward_span]
    case frame =>
      have hforward := (s.sys.timeForward_frame f).trans ((Sys.portTo_frame _ portLocked).regs_mono fun k hk => by simp_all [forwardReg])
      exact (hforward.parts_mono (by decide)).trans ((Sys.spanAdjust_frame _ f mark now).regs_mono fun k hk => by simp_all [forwardReg])
  case back =>
    intro s f m hl hm hst hc hk
    refine completes_onSys _ _ s _ hl rfl ?_
    have hmeasured : m.toNat % 2 ^ 24 = m.toNat := Nat.mod_eq_of_lt m.isLt
    refine ⟨?measured, ?expected, State.only_withSys ?frame⟩
    case measured => simpa (disch := decide) [Sys.timeReturn, hm, hst, hc, hk, Sys.showFallen_rf, Sys.rf_when, Sys.rf_put_reg, Sys.rf_put_self] using hmeasured
    case expected => simp (disch := decide) [Sys.timeReturn, hm, hst, hc, hk, Sys.showFallen_rf, Sys.rf_when, Sys.rf_put_reg, Sys.rf_put_bits, Sys.rf_put_self]
    case frame =>
      simp only [Sys.timeReturn, hm, hst, hc, hk]
      simp only [Bool.not_true, ne_eq, not_true_eq_false, decide_false, Bool.or_false, Bool.false_eq_true, if_false]
      refine Sys.Frame.trans ?_ ((Sys.showFallen_frame _ _).regs_mono fun k hk => by simp_all [fallenReg])
      exact ((Sys.Frame.put s.sys _ _ _ _ rfl).trans (.put _ _ _ _ _ rfl)).trans (.when _ _ _ fun _ => .put _ _ _ _ _ rfl)
  case insert =>
    intro s idle hl hgo hidle hph hsl
    refine completes_onSys _ _ s _ hl rfl ?_
    have hgoes : (s.sys.on F.SPN_SCHED_TX0_GO && decide (8 ≤ idle) && decide (1280 < s.sys.spanS - s.sys.phase) && s.sys.span.symbolLock) = true := by
      simp [Sys.on, hgo, hidle, hph, hsl]
    unfold Sys.schedInsert
    rw [if_pos hgoes]
    refine ⟨?go, Sys.schedQueue_tx _ _, State.only_withSys ?frame⟩
    case go =>
      unfold Sys.rf
      rw [State.withSys_sys, (Sys.schedQueue_frame _ _).1 _ rfl]
      exact Sys.rf_put_self s.sys F.SPN_SCHED_TX0_GO 0 0 0 (by decide)
    case frame =>
      refine Sys.Frame.trans ?_ ((Sys.schedQueue_frame _ _).regs_mono fun k hk => by simp_all)
      exact (Sys.Frame.put s.sys F.SPN_SCHED_TX0_GO 0 0 0 rfl).trans (.set_span _ _ rfl)
  case sched =>
    intro s f hl hst hsl hc ho ha
    refine completes_onSys _ _ s _ hl rfl ?_
    have hsent : s.sys.schedFrame f = (s.sys.sending f).schedQueue f := by
      simp [Sys.schedFrame, hst, hsl, hc, ho, Sys.sending]
    rw [hsent]
    refine ⟨Sys.schedQueue_tx _ _, fun ht hw => ?room, fun ht => ?late, fun ht hw => ?full,
      State.only_withSys ((s.sys.sending_frame f).trans (Sys.schedQueue_frame _ _))⟩
    case room =>
      rw [Sys.schedQueue_room (s.sys.sending f) f ha ht hw]
      exact ⟨rfl, rfl⟩
    case late =>
      rw [Sys.schedQueue_late (s.sys.sending f) f ha ht]
      exact ⟨rfl, Sys.rf_put_self _ _ _ _ _ (by decide)⟩
    case full =>
      rw [Sys.schedQueue_full (s.sys.sending f) f ha ht hw]
      exact ⟨rfl, Sys.rf_put_self _ _ _ _ _ (by decide)⟩
  case reached =>
    intro s f fwd hl hw ht ha he hi
    refine completes_onSys _ _ s _ hl rfl ?_
    rw [Sys.schedReached_event s.sys f fwd.toNat hw ht ha hi, he]
    have horigin : f.origin.toNat % 2 ^ 8 = f.origin.toNat := Nat.mod_eq_of_lt f.origin.isLt
    have htarget : f.target.toNat % 2 ^ 48 = f.target.toNat := Nat.mod_eq_of_lt f.target.isLt
    have harg : f.arg.toNat % 2 ^ 64 = f.arg.toNat := Nat.mod_eq_of_lt f.arg.isLt
    refine ⟨by simp, by simp, ?_, ?_, ?_, ?_, State.only_withSys ((Sys.Frame.set_span s.sys _ rfl).trans (Sys.showEvents_frame _))⟩
    · simp (disch := decide) [Sys.showEvents, Sys.rf_put_reg, Sys.rf_put_bits, Sys.rf_put_self]
    · simpa (disch := decide) [Sys.showEvents, Sys.rf_put_reg, Sys.rf_put_bits, Sys.rf_put_self] using horigin
    · simpa (disch := decide) [Sys.showEvents, Sys.rf_put_reg, Sys.rf_put_bits, Sys.rf_put_self] using htarget
    · simpa (disch := decide) [Sys.showEvents, Sys.rf_put_reg, Sys.rf_put_bits, Sys.rf_put_self] using harg

end Sys2Proof.Machine
end

section
/-!
PROOFS. The writes of the SPN block's registers (ch. 2).
-/
namespace Sys2Proof.Machine

@[simp] theorem Sys.answer_portState (s : Sys) (r : Resp) : (s.answer r).portState = s.portState := rfl

theorem fget_mod (w : Word) (lo wd : Nat) : fget w lo wd % 2 ^ wd = fget w lo wd := Nat.mod_eq_of_lt (fget_lt w lo wd)

section
variable (s : Sys) (v : Word)

theorem Sys.spnCfgWrite_taken (hs : s.isSealed = false) (hw : windowOk (fget v 0 3) (fget v 4 7) = true) : s.spnCfgWrite v =
    ((s.put F.SPN_CFG_K (fget v 0 3)).put F.SPN_CFG_WINDOW (fget v 4 7)).put F.SPN_CFG_POSITION (fget v 16 8) := by
  simp [Sys.spnCfgWrite, hs, hw]

theorem Sys.spnCfgWrite_refused (hs : s.isSealed = false) (hw : windowOk (fget v 0 3) (fget v 4 7) = false) : s.spnCfgWrite v =
    s.put F.SPN_STATUS_CFG_ERR 1 := by
  simp [Sys.spnCfgWrite, hs, hw]

/-- What a write of SPN_CTL shows in the registers, before the port is turned on or off (R64, R73). -/
def Sys.spnCtlShown (fwd : Nat) : Sys :=
  ((s.put F.SPN_CTL_SCHED_IRQ_EN (fget v 2 1)).put F.SPN_CTL_ENABLE (fget v 0 1)).when (fget v 1 1 == 1) (fun t => t.recal fwd)

/-- The registers that a write of SPN_CTL may change. -/
abbrev spnCtlReg (k : RK) : Bool := k.reg == .SPN_CTL || k.reg == .SPN_STATUS || k.reg == .SPN_DELAY

theorem Sys.recal_frame (fwd : Nat) : s.Frame (s.recal fwd) spnCtlReg [.span] :=
  (Sys.Frame.put s _ _ _ _ rfl).trans (.when _ _ _ fun _ => (Sys.Frame.put _ _ _ _ _ rfl).trans (.set_span _ _ rfl))

theorem Sys.spnCtlShown_frame (fwd : Nat) : s.Frame (s.spnCtlShown v fwd) spnCtlReg [.span] :=
  ((Sys.Frame.put s _ _ _ _ rfl).trans (.put _ _ _ _ _ rfl)).trans (.when _ _ _ fun _ => Sys.recal_frame _ fwd)

theorem Sys.portTo_frame_spnCtl (st : Nat) : s.Frame (s.portTo st) spnCtlReg [.span] := (s.portTo_frame st).regs_mono fun k hk => by simp_all

theorem Sys.spnCtlWrite_frame (fwd : Nat) : s.Frame (s.spnCtlWrite v fwd) spnCtlReg [.span] := by
  refine (s.spnCtlShown_frame v fwd).trans (.ite (fun _ => ?on) fun _ => .ite (fun _ => ?off) fun _ => .refl _)
  case on => exact .ite (fun _ => .refl _) fun _ => (Sys.Frame.set_span _ _ rfl).trans (Sys.portTo_frame_spnCtl _ _)
  case off =>
    exact .ite (fun _ => .refl _) fun _ => ((Sys.Frame.set_span _ _ rfl).trans (Sys.portTo_frame_spnCtl _ _)).trans (Sys.holdAtTick_frame _ false)

theorem Sys.spnCtlSet_frame (fwd : Option Nat) : s.Frame (s.spnCtlSet v fwd) spnCtlReg [.span, .freeCount] := by
  unfold Sys.spnCtlSet
  cases fwd with
  | some f => exact (s.spnCtlWrite_frame v f).parts_mono (by decide)
  | none =>
    refine .ite (fun _ => ?_) fun _ => (s.spnCtlWrite_frame v 0).parts_mono (by decide)
    exact (Sys.Frame.usedFree s rfl).trans ((Sys.spnCtlWrite_frame _ v _).parts_mono (by decide))

/-- Fields that a RECAL action does not touch. -/
theorem Sys.rf_spnCtlShown (fwd : Nat) (g : Fld) (h : g.reg = .SPN_STATUS) : (s.spnCtlShown v fwd).rf g = s.rf g := by
  have hctl (f : Fld) (hf : f.reg = .SPN_CTL) (t : Sys) (n : Nat) : (t.put f n).rf g = t.rf g := Sys.rf_put_reg t f g _ _ _ _ _ (by simp [hf, h])
  have hdelay (t : Sys) (n : Nat) : (t.put F.SPN_DELAY_FWD n).rf g = t.rf g := Sys.rf_put_reg t _ g _ _ _ _ _ (by simp [h])
  simp [Sys.spnCtlShown, Sys.recal, Sys.measureFwd, Sys.rf_when, hdelay, hctl F.SPN_CTL_RECAL rfl, hctl F.SPN_CTL_ENABLE rfl,
    hctl F.SPN_CTL_SCHED_IRQ_EN rfl]

theorem Sys.spnCtlShown_enable (fwd : Nat) : (s.spnCtlShown v fwd).rf F.SPN_CTL_ENABLE = fget v 0 1 := by
  simp (disch := decide) only [Sys.spnCtlShown, Sys.recal, Sys.measureFwd, Sys.rf_when, Sys.rf_mk, Sys.rf_put_reg, Sys.rf_put_bits, Sys.rf_put_self,
    fget_mod, ite_self]

theorem Sys.spnCtlShown_irq (fwd : Nat) : (s.spnCtlShown v fwd).rf F.SPN_CTL_SCHED_IRQ_EN = fget v 2 1 := by
  simp (disch := decide) only [Sys.spnCtlShown, Sys.recal, Sys.measureFwd, Sys.rf_when, Sys.rf_mk, Sys.rf_put_reg, Sys.rf_put_bits, Sys.rf_put_self,
    fget_mod, ite_self]

/-- A RECAL action with symbol lock: the measurement shows at once and is applied at the next tick (R64). -/
theorem Sys.spnCtlShown_recal (fwd : Nat) (hv : fget v 1 1 = 1) (hs : s.span.symbolLock = true) :
    (s.spnCtlShown v fwd).rf F.SPN_CTL_RECAL = 1 ∧ (s.spnCtlShown v fwd).rf F.SPN_DELAY_FWD = fwd % 2 ^ 24 ∧
    (s.spnCtlShown v fwd).span = { s.span with fwdNext := some (fwd % 2 ^ 24) } := by
  refine ⟨?_, ?_, ?_⟩
  · simp (disch := decide) [Sys.spnCtlShown, Sys.recal, Sys.measureFwd, hv, hs, Sys.rf_put_reg, Sys.rf_put_self]
  · simp (disch := decide) [Sys.spnCtlShown, Sys.recal, Sys.measureFwd, hv, hs, Sys.rf_put_self]
  · simp [Sys.spnCtlShown, Sys.recal, Sys.measureFwd, hv, hs]

/-- A write of SPN_CTL without a measurement at hand is one with some value of it, on a state that differs in the free values used. -/
theorem Sys.spnCtlSet_none : ∃ (t : Sys) (fwd : Nat), t.regs = s.regs ∧ t.span = s.span ∧ s.spnCtlSet v none = t.spnCtlWrite v fwd := by
  unfold Sys.spnCtlSet
  by_cases hv : fget v 1 1 = 1
  · exact ⟨s.usedFree, _, rfl, rfl, if_pos hv⟩
  · exact ⟨s, 0, rfl, rfl, if_neg hv⟩

section
variable {s v} (fwd : Nat)

theorem Sys.spnCtlShown_portState : (s.spnCtlShown v fwd).portState = s.portState := s.rf_spnCtlShown v fwd _ rfl

theorem Sys.spnCtlShown_leashMaster : (s.spnCtlShown v fwd).leashMaster = s.leashMaster :=
  congrArg (· == 1) (s.rf_spnCtlShown v fwd F.SPN_STATUS_MASTER rfl)

/-- ENABLE goes from 0 to 1 while the port is OFF (R65). -/
theorem Sys.spnCtlWrite_turnsOn (hv : fget v 0 1 = 1) (he : s.rf F.SPN_CTL_ENABLE = 0) (hst : s.portState = portOff) :
    ∃ x, s.spnCtlWrite v fwd = ({ s.spnCtlShown v fwd with span := x } : Sys).portTo (if s.leashMaster then portTxLock else portSeek) := by
  have hon : (fget v 0 1 == 1 && !(s.on F.SPN_CTL_ENABLE)) = true := by simp [Sys.on, hv, he]
  have hstate : ¬ (s.spnCtlShown v fwd).portState ≠ portOff := by simp [Sys.spnCtlShown_portState, hst]
  refine ⟨{ (s.spnCtlShown v fwd).span with symbolLock := false }, ?_⟩
  rw [← Sys.spnCtlShown_leashMaster (v := v) fwd]
  exact (if_pos hon).trans (if_neg hstate)

/-- ENABLE goes from 1 to 0 while the port is not OFF (R65). -/
theorem Sys.spnCtlWrite_turnsOff (hv : fget v 0 1 = 0) (he : s.rf F.SPN_CTL_ENABLE = 1) (hst : s.portState ≠ portOff) :
    s.spnCtlWrite v fwd = (Sys.portTo { s.spnCtlShown v fwd with
      span := { (s.spnCtlShown v fwd).span with symbolLock := false, tx := .idle } } portOff).holdAtTick false := by
  have hon : ¬ (fget v 0 1 == 1 && !(s.on F.SPN_CTL_ENABLE)) = true := by simp [hv]
  have hoff : (!(fget v 0 1 == 1) && s.on F.SPN_CTL_ENABLE) = true := by simp [Sys.on, hv, he]
  have hstate : ¬ (s.spnCtlShown v fwd).portState = portOff := by rw [Sys.spnCtlShown_portState]; exact hst
  exact (if_neg hon).trans ((if_pos hoff).trans (if_neg hstate))

/-- A write of SPN_CTL leaves what it shows, with the port as it was or having entered a state. -/
theorem Sys.spnCtlWrite_cases (s : Sys) (v : Word) (fwd : Nat) : s.spnCtlWrite v fwd = s.spnCtlShown v fwd ∨
    ∃ b tx st, s.spnCtlWrite v fwd = Sys.portTo { s.spnCtlShown v fwd with span := { (s.spnCtlShown v fwd).span with symbolLock := b, tx := tx } } st ∨
      s.spnCtlWrite v fwd =
        (Sys.portTo { s.spnCtlShown v fwd with span := { (s.spnCtlShown v fwd).span with symbolLock := b, tx := tx } } st).holdAtTick false := by
  have key : s.spnCtlWrite v fwd =
      if (fget v 0 1 == 1 && !(s.on F.SPN_CTL_ENABLE)) = true then (s.spnCtlShown v fwd).leashOn
      else if (!(fget v 0 1 == 1) && s.on F.SPN_CTL_ENABLE) = true then (s.spnCtlShown v fwd).leashOff else s.spnCtlShown v fwd := rfl
  rw [key]
  split
  · by_cases hp : (s.spnCtlShown v fwd).portState ≠ portOff
    · exact .inl (if_pos hp)
    · exact .inr ⟨false, (s.spnCtlShown v fwd).span.tx, _, .inl (if_neg hp)⟩
  · split
    · by_cases hp : (s.spnCtlShown v fwd).portState = portOff
      · exact .inl (if_pos hp)
      · exact .inr ⟨false, .idle, portOff, .inr (if_neg hp)⟩
    · exact .inl rfl

/-- Whatever a write of SPN_CTL does to the port, it keeps what the other registers show of the write. -/
theorem Sys.rf_spnCtlWrite (g : Fld) (i j : Nat) (h : g.reg ≠ .SPN_STATUS) : (s.spnCtlWrite v fwd).rf g i j = (s.spnCtlShown v fwd).rf g i j := by
  obtain e | ⟨b, tx, st, e | e⟩ := s.spnCtlWrite_cases v fwd
  · rw [e]
  · rw [e, Sys.rf_portTo _ st g i j (.inl h.symm), Sys.rf_mk]
  · rw [e, Sys.holdAtTick_rf, Sys.rf_portTo _ st g i j (.inl h.symm), Sys.rf_mk]

theorem Sys.spnCtlWrite_fwd : (s.spnCtlWrite v fwd).span.fwdNext = (s.spnCtlShown v fwd).span.fwdNext ∧
    (s.spnCtlWrite v fwd).span.fwdUsed = (s.spnCtlShown v fwd).span.fwdUsed := by
  obtain e | ⟨b, tx, st, e | e⟩ := s.spnCtlWrite_cases v fwd <;> simp [e, Sys.holdAtTick, Sys.portTo_span]

end

/-- A write of SPN_TIME_LOAD where it is accepted (R73). -/
theorem Sys.timeLoad_taken (s : Sys) (v : Word) (hm : s.leashMaster = true) (he : s.rf F.SPN_CTL_ENABLE = 0) : s.timeLoad v =
    { s with span := { s.span with load := some (v.toNat - v.toNat % spanLen (s.rf F.SPN_CFG_K)) } } := by
  have hround (n l : Nat) : n / l * l = n - n % l := by
    have := Nat.div_add_mod' n l
    omega
  simp [Sys.timeLoad, hm, Sys.on, he, hround]

theorem Sys.timeLoad_refused (s : Sys) (v : Word) (h : s.leashMaster = false ∨ s.rf F.SPN_CTL_ENABLE = 1) :
    s.timeLoad v = s.put F.SPN_STATUS_TIME_LOAD_ERR 1 := by
  rcases h with h | h <;> simp [Sys.timeLoad, h, Sys.on]

/-- SPN_SCHED_RX0 and RX1 show whether there is an entry, and the argument of the oldest (R73). -/
theorem Sys.showEvents_valid (s : Sys) : s.showEvents.rf F.SPN_SCHED_RX0_VALID = b2n (!s.span.events.isEmpty) := by
  unfold Sys.showEvents
  split <;> simp (disch := decide) [*, b2n, Sys.rf_put_reg, Sys.rf_put_bits, Sys.rf_put_self]

theorem Sys.showEvents_arg (s : Sys) : s.showEvents.rf F.SPN_SCHED_RX1_ARG = ((s.span.events.head?).map (fun e => e.arg.toNat)).getD 0 := by
  unfold Sys.showEvents
  split
  · simp (disch := decide) [*, Sys.rf_put_self]
  · next e l he =>
    have harg : e.arg.toNat % 2 ^ 64 = e.arg.toNat := Nat.mod_eq_of_lt e.arg.isLt
    simpa (disch := decide) [he, Sys.rf_put_self] using harg

end

/-- Settles O15: each write is its register's, on a state that only the access has touched. -/
theorem spanRegisters : Obligations.SpanRegisters := by
  refine ⟨?cfg, ?cfgSealed, ?enable, ?disable, ?recal, ?send, ?pop, ?load, ?clr⟩
  case cfg =>
    intro s req v ht hs
    refine ht.completes (Sys.spnCfgWrite · v) rfl rfl (fun _ => rfl) (fun _ _ => rfl) fun t h => ?_
    have hs' : t.isSealed = false := (congrArg (· == 4) (h.rf F.ZNX_STATUS_IMAGE_STATE 0 0 (by decide))).trans hs
    refine ⟨fun hw => ?_, fun hw => ?_⟩
    · rw [Sys.spnCfgWrite_taken t v hs' hw]
      refine ⟨?_, ?_, ?_, State.only_withSys (h.frame_write ?_ (fun k hk => by simp_all) (by decide))⟩
      · simp (disch := decide) only [State.withSys_sys, Sys.rf_answer, Sys.rf_put_bits, Sys.rf_put_self, fget_mod]
      · simp (disch := decide) only [State.withSys_sys, Sys.rf_answer, Sys.rf_put_bits, Sys.rf_put_self, fget_mod]
      · simp (disch := decide) only [State.withSys_sys, Sys.rf_answer, Sys.rf_put_self, fget_mod]
      · exact ((Sys.Frame.put t _ _ _ _ rfl).trans (.put _ _ _ _ _ rfl)).trans (.put _ _ _ _ _ rfl)
    · rw [Sys.spnCfgWrite_refused t v hs' hw]
      exact ⟨Sys.rf_put_self t _ _ _ _ (by decide), State.only_withSys (h.frame_write (.put t _ _ _ _ rfl) (fun k hk => by simp_all) (by decide))⟩
  case cfgSealed =>
    intro s req v ht hs
    refine ht.completes (Sys.spnCfgWrite · v) rfl rfl (fun _ => rfl) (fun _ _ => rfl) fun t h => ?_
    have hs' : t.isSealed = true := (congrArg (· == 4) (h.rf F.ZNX_STATUS_IMAGE_STATE 0 0 (by decide))).trans hs
    have hsame : t.spnCfgWrite v = t := if_pos hs'
    rw [hsame]
    exact State.only_withSys (h.frame_write (.refl t) (fun k hk => hk) (by decide))
  case enable =>
    intro s req v ht hst he
    refine ht.completes (Sys.spnCtlSet · (fput v 0 1 1) none) rfl rfl (fun _ => rfl) (fun _ _ => rfl) fun t h => ?_
    have hv0 : fget (fput v 0 1 1) 0 1 = 1 := fget_fput_self v 0 1 1 (by decide) (by decide)
    have hv2 : fget (fput v 0 1 1) 2 1 = fget v 2 1 := fget_fput_other v 0 1 1 2 1 (by decide) (by decide)
    have hframe := Sys.spnCtlSet_frame t (fput v 0 1 1) none
    obtain ⟨o, fwd, hregs, hspan, ho⟩ := Sys.spnCtlSet_none t (fput v 0 1 1)
    have hrf (f : Fld) (hf : f.reg ≠ .SYS_CS_STATUS) : o.rf f = s.sys.rf f := (Sys.rf_of_regs f 0 0 hregs).trans (h.rf f 0 0 hf)
    obtain ⟨x, hx⟩ := Sys.spnCtlWrite_turnsOn fwd hv0 ((hrf F.SPN_CTL_ENABLE (by decide)).trans he) ((hrf F.SPN_STATUS_PORT_STATE (by decide)).trans hst)
    have hmaster : o.leashMaster = s.sys.leashMaster := congrArg (· == 1) (hrf F.SPN_STATUS_MASTER (by decide))
    refine ⟨?_, ?_, ?_, State.only_withSys (h.frame_write (hframe.mono (fun k hk => by simp_all) (by decide)) (fun k hk => by simp_all) (by decide))⟩
    · rw [State.withSys_sys, Sys.rf_answer, ho, Sys.rf_spnCtlWrite _ _ _ _ (by decide), Sys.spnCtlShown_enable, hv0]
    · rw [State.withSys_sys, Sys.rf_answer, ho, Sys.rf_spnCtlWrite _ _ _ _ (by decide), Sys.spnCtlShown_irq, hv2]
    · rw [State.withSys_sys, Sys.answer_portState, ho, hx, hmaster]
      exact Sys.portTo_portState _ _ (by split <;> decide)
  case disable =>
    intro s req v ht hst he
    refine ht.completes (Sys.spnCtlSet · (fput v 0 1 0) none) rfl rfl (fun _ => rfl) (fun _ _ => rfl) fun t h => ?_
    have hv0 : fget (fput v 0 1 0) 0 1 = 0 := fget_fput_self v 0 1 0 (by decide) (by decide)
    have hframe := Sys.spnCtlSet_frame t (fput v 0 1 0) none
    obtain ⟨o, fwd, hregs, hspan, ho⟩ := Sys.spnCtlSet_none t (fput v 0 1 0)
    have hrf (f : Fld) (hf : f.reg ≠ .SYS_CS_STATUS) : o.rf f = s.sys.rf f := (Sys.rf_of_regs f 0 0 hregs).trans (h.rf f 0 0 hf)
    have hstate : o.portState ≠ portOff := by
      have e : o.portState = s.sys.portState := hrf F.SPN_STATUS_PORT_STATE (by decide)
      rwa [e]
    have hx := Sys.spnCtlWrite_turnsOff fwd hv0 ((hrf F.SPN_CTL_ENABLE (by decide)).trans he) hstate
    refine ⟨?_, ?_, ?_, ?_,
      State.only_withSys (h.frame_write (hframe.mono (fun k hk => by simp_all) (by decide)) (fun k hk => by simp_all) (by decide))⟩
    · rw [State.withSys_sys, Sys.rf_answer, ho, Sys.rf_spnCtlWrite _ _ _ _ (by decide), Sys.spnCtlShown_enable, hv0]
    · rw [State.withSys_sys, Sys.answer_portState, ho, hx, Sys.holdAtTick_portState]
      exact Sys.portTo_portState _ _ (by decide)
    · rw [State.withSys_sys, Sys.answer_span, ho, hx, Sys.holdAtTick_holdNext]
    · rw [State.withSys_sys, Sys.answer_span, ho, hx]
      simp [Sys.holdAtTick, Sys.portTo_span]
  case recal =>
    intro s req v fwd ht hs
    refine ht.completes (Sys.spnCtlSet · (fput v 1 1 1) (some fwd.toNat)) rfl rfl (fun _ => rfl) (fun _ _ => rfl) fun t h => ?_
    have hv : fget (fput v 1 1 1) 1 1 = 1 := fget_fput_self v 1 1 1 (by decide) (by decide)
    have hspan : t.span = s.sys.span := h.part .span rfl
    have hfwd : fwd.toNat % 2 ^ 24 = fwd.toNat := Nat.mod_eq_of_lt fwd.isLt
    have hframe := Sys.spnCtlSet_frame t (fput v 1 1 1) (some fwd.toNat)
    obtain ⟨hrecal, hshown, hnext⟩ := Sys.spnCtlShown_recal t (fput v 1 1 1) fwd.toNat hv (by rw [hspan]; exact hs)
    obtain ⟨hkeepsNext, hkeepsUsed⟩ := Sys.spnCtlWrite_fwd (s := t) (v := fput v 1 1 1) fwd.toNat
    refine ⟨?_, ?_, ?_, ?_,
      State.only_withSys (h.frame_write (hframe.mono (fun k hk => by simp_all) (by decide)) (fun k hk => by simp_all) (by decide))⟩
    · exact (Sys.rf_spnCtlWrite _ _ _ _ (by decide)).trans hrecal
    · exact (Sys.rf_spnCtlWrite _ _ _ _ (by decide)).trans (hshown.trans hfwd)
    · rw [hnext, hfwd] at hkeepsNext
      exact hkeepsNext
    · rw [hnext, hspan] at hkeepsUsed
      exact hkeepsUsed
  case send =>
    intro s req v ht
    refine ht.completes (Sys.schedTxWrite · (fput v 63 1 1) true) rfl rfl (fun _ => rfl) (fun _ _ => rfl) fun t h => ?_
    have hgo : t.rf F.SPN_SCHED_TX0_GO = s.sys.rf F.SPN_SCHED_TX0_GO := h.rf _ _ _ (by decide)
    have hv63 : fget (fput v 63 1 1) 63 1 = 1 := fget_fput_self v 63 1 1 (by decide) (by decide)
    have hv48 : fget (fput v 63 1 1) 48 8 = fget v 48 8 := fget_fput_other v 63 1 1 48 8 (by decide) (by decide)
    have hv0 : fget (fput v 63 1 1) 0 48 = fget v 0 48 := fget_fput_other v 63 1 1 0 48 (by decide) (by decide)
    refine ⟨fun hz => ?taken, fun ho => ?ignored, State.only_withSys (h.frame_write (.ite (fun _ => .refl t) fun _ => ?frame) (fun k hk => by simp_all) (by decide))⟩
    case taken =>
      have hfree : ¬ t.on F.SPN_SCHED_TX0_GO = true := by simp [Sys.on, hgo, hz]
      simp only [Sys.schedTxWrite, if_neg hfree, if_true, State.withSys_sys, Sys.rf_answer, hv63, hv48, hv0]
      simp (disch := decide) only [Sys.rf_put_bits, Sys.rf_put_self, fget_mod, and_self, and_true]
      rfl
    case ignored =>
      have hbusy : t.on F.SPN_SCHED_TX0_GO = true := by simp [Sys.on, hgo, ho]
      simp only [Sys.schedTxWrite, if_pos hbusy, State.withSys_sys, Sys.rd_answer]
      exact h.2 _ (by decide)
    case frame => exact ((Sys.Frame.put t _ _ _ _ rfl).trans (.put _ _ _ _ _ rfl)).trans (.put _ _ _ _ _ rfl)
  case pop =>
    intro s req ht
    refine ht.completes Sys.schedPop rfl rfl (fun _ => rfl) (fun _ _ => rfl) fun t h => ?_
    have hspan : t.span = s.sys.span := h.part .span rfl
    refine ⟨?events, ?valid, ?arg, State.only_withSys (h.frame_write ?frame (fun k hk => by simp_all) (by decide))⟩
    case events => simp [Sys.schedPop, hspan]
    case valid => exact (Sys.showEvents_valid _).trans (by rw [hspan])
    case arg => exact (Sys.showEvents_arg _).trans (by rw [hspan])
    case frame => exact (Sys.Frame.set_span t _ rfl).trans ((Sys.showEvents_frame _).regs_mono fun k hk => by simp_all [eventReg])
  case load =>
    intro s req v ht
    refine ht.completes (Sys.timeLoad · v) rfl rfl (fun _ => rfl) (fun _ _ => rfl) fun t h => ?_
    have hmaster : t.leashMaster = s.sys.leashMaster := h.on _ _ _ (by decide)
    have henable : t.rf F.SPN_CTL_ENABLE = s.sys.rf F.SPN_CTL_ENABLE := h.rf _ _ _ (by decide)
    refine ⟨fun hm he => ?_, fun hr => ?_⟩
    · rw [Sys.timeLoad_taken t v (hmaster.trans hm) (henable.trans he), h.rf F.SPN_CFG_K 0 0 (by decide)]
      exact ⟨rfl, State.only_withSys (h.frame_write (.set_span t _ rfl) (fun k hk => hk) (by decide))⟩
    · rw [Sys.timeLoad_refused t v (by rwa [hmaster, henable])]
      exact ⟨Sys.rf_put_self t _ _ _ _ (by decide), State.only_withSys (h.frame_write (.put t _ _ _ _ rfl) (fun k hk => by simp_all) (by decide))⟩
  case clr =>
    intro s req ht
    refine ht.completes (Sys.overrunWrite · (fput 0 31 1 1)) rfl rfl (fun _ => rfl) (fun _ _ => rfl) fun t h => ?_
    have hclr : t.overrunWrite (fput 0 31 1 1) = t.put F.SPN_OVERRUN_COUNT 0 := rfl
    rw [hclr]
    refine ⟨Sys.rf_put_self t _ _ _ _ (by decide), ?_, ?_, State.only_withSys (h.frame_write (.put t _ _ _ _ rfl) (fun k hk => by simp_all) (by decide))⟩
    · exact (Sys.rf_put_bits t _ _ _ _ _ _ _ (by decide)).trans (h.rf _ _ _ (by decide))
    · exact (Sys.rf_put_bits t _ _ _ _ _ _ _ (by decide)).trans (h.rf _ _ _ (by decide))

end Sys2Proof.Machine
end

section
/-!
PROOFS. Accesses that a station does not perform (R24, R26, R28, R29, R37, R508).
-/
namespace Sys2Proof.Machine

section
variable {x : M} {w : Who} {k : RK} {off size : Nat} (write : Option Word) (fwd : Option Nat)

/-- Where no register stands an access is refused (R37). -/
theorem M.accessAs_unnamed (hsend : w.tether = false ∨ tetherSends off size = true) (hk : x.sys.regAt off = none) :
    x.accessAs w off size write fwd = x.on (fun s => s.refuseAs w 1 write.isSome off) := by
  have hroot : ¬ (w.tether && !tetherSends off size) = true := by
    obtain h | h := hsend <;> simp [h]
  refine (if_neg hroot).trans ?_
  rw [hk]

theorem M.accessAs_unnamed_mesh (hw : w.tether = false) (hk : x.sys.regAt off = none) :
    x.accessAs w off size write fwd = x.on (fun s => s.answer (w.refusal write.isSome)) :=
  (M.accessAs_unnamed write fwd (.inl hw) hk).trans
    (congrArg (fun y => ({ x with sys := y } : M)) (x.sys.refuseAs_mesh hw 1 write.isSome off))

/-- A mesh access whose page or path does not admit it is refused, whatever its size (R28, R29). -/
theorem M.accessAs_mesh_refused (hw : w.tether = false) (hk : x.sys.regAt off = some k)
    (hno : (k.reg = .SYS_ID → write.isSome = true) ∧ x.sys.pageAdmits (off / 4096) w.kennel w.secure = false ∨
      w.reaches k.reg.path write.isSome = false) :
    x.accessAs w off size write fwd = x.on (fun s => s.answer (w.refusal write.isSome)) := by
  have hrefuse : x.on (fun s => s.refuseAs w 1 write.isSome off) = x.on (fun s => s.answer (w.refusal write.isSome)) :=
    congrArg (fun y => ({ x with sys := y } : M)) (x.sys.refuseAs_mesh hw 1 write.isSome off)
  rw [M.accessAs_sent write fwd (.inl hw) hk, hw, ← hrefuse]
  simp only [Bool.false_and, Bool.false_eq_true, if_false]
  split
  · rfl
  · unfold M.accessSized
    obtain ⟨hid, hpage⟩ | hpath := hno
    · have hid' : (k.reg == Reg.SYS_ID && !write.isSome) = false := by
        by_cases e : k.reg = .SYS_ID
        · simp [hid e]
        · simp [e]
      simp only [hw, hid', hpage, Bool.not_false, Bool.and_self, if_true]
    · simp only [hpath, Bool.not_false, if_true, ite_self]

/-- The unit that holds the register is unavailable: the station answers zero or discards, and records it (R26). -/
theorem M.accessAs_unitOff (hw : w.tether = true) (hsend : tetherSends off size = true) (hk : x.sys.regAt off = some k)
    (hp : x.sys.permits k off size = true) (hchain : x.sys.stations.chainFailed.contains (stationAt off) = false)
    (hreach : w.reaches k.reg.path write.isSome = true) (hunit : k.reg.heldInUnit = true) (hoff : x.sys.unitOff (stationAt off) = true) :
    x.accessAs w off size write fwd = x.on (fun s => (s.put F.SYS_CS_STATUS_OFF_ACCESS 1 (stationAt off)).answer (.done 0)) := by
  rw [M.accessAs_permitted write fwd hsend hk hp, hchain]
  unfold M.accessSized
  simp [hw, hreach, hunit, hoff]

/-- An access of a chain that failed waits (R24). -/
theorem M.accessAs_waits (hw : w.tether = true) (hsend : tetherSends off size = true) (hk : x.sys.regAt off = some k)
    (hchain : x.sys.stations.chainFailed.contains (stationAt off) = true) :
    x.accessAs w off size write fwd = x.stationWaits w off write.isSome := by
  rw [M.accessAs_sent write fwd (.inr hsend) hk, hchain, hw]
  rfl

end

theorem Sys.latched_write (s : Sys) (core status : Nat) (write : Bool) (off : Nat) :
    (s.latched core status write off).rf F.DRM_TETHER_ERR_WRITE core = b2n write := by
  unfold Sys.latched Sys.tetherLatch
  rw [Sys.rf_answer, Sys.rf_put_bits _ _ _ _ _ _ _ _ (by decide), Sys.rf_put_self _ _ _ _ _ (by decide)]
  cases write <;> rfl

theorem Sys.tetherLatch_frame (s : Sys) (core status : Nat) (write : Bool) (off : Nat) {parts : List Part} :
    s.Frame (s.tetherLatch core status write off) (oneReg core [.DRM_TETHER_ERR]) parts := by
  have own : oneReg core [.DRM_TETHER_ERR] ⟨.DRM_TETHER_ERR, core, 0⟩ = true := by simp [oneReg]
  exact (((Sys.Frame.put s _ _ _ _ own).trans (.put _ _ _ _ _ own)).trans (.put _ _ _ _ _ own)).trans (.put _ _ _ _ _ own)

section
variable {c : Instr} {s : State} {off size : Nat} {write : Option Word}

/-- A mesh requester is told that its access is not performed, and nothing else changes. -/
theorem completes_mesh_refused {req : Requester} {w : Who} {r : Resp} (hl : s.Live)
    (hc : exec c s = onM (fun x => x.regAccess req off size write) s) (hreq : s.sys.whoIs req = (w, s.sys))
    (hr : w.refusal write.isSome = r)
    (h : s.ctx.accessAs w off size write none = s.ctx.on (fun t => t.answer (w.refusal write.isSome))) :
    Completes c s (fun t => t.sys.resp = r ∧ s.Only t (fun _ => false) [.resp]) :=
  completes_on hl hc ((M.regAccess_of_whoIs hreq off size write).trans h)
    ⟨hr, s.only_of_answered (s.sys.answered_answer _) (Sys.KeepsRegs_refl s.sys _)⟩

/-- A mesh access where no register stands. -/
theorem completes_mesh_unnamed {req : Requester} {w : Who} {r : Resp} (hl : s.Live)
    (hc : exec c s = onM (fun x => x.regAccess req off size write) s) (hreq : s.sys.whoIs req = (w, s.sys)) (hw : w.tether = false)
    (hr : w.refusal write.isSome = r) (hk : s.sys.regAt off = none) :
    Completes c s (fun t => t.sys.resp = r ∧ s.Only t (fun _ => false) [.resp]) :=
  completes_mesh_refused hl hc hreq hr (M.accessAs_unnamed_mesh (x := s.ctx) write none hw hk)

/-- A Tether access of a register whose unit is unavailable reads zero or is discarded, and OFF_ACCESS records it (R26). -/
theorem completes_tether_unitOff {core : Fin 4} {k : RK} (hl : s.Live)
    (hc : exec c s = onM (fun x => x.regAccess (.tether core) off 8 write) s) (hk : s.sys.regAt off = some k) (ho : off = s.sys.offsetOf k)
    (ha : off % 8 = 0) (hchain : s.sys.stations.chainFailed.contains (stationAt off) = false) (hunit : k.reg.heldInUnit = true)
    (hm : k.reg.path ≠ .m) (hlocal : k.reg.path ≠ .l) (hoff : s.sys.unitOff (stationAt off) = true) :
    Completes c s (fun t => t.sys.resp = .done 0 ∧ t.sys.rf F.SYS_CS_STATUS_OFF_ACCESS (stationAt off) = 1 ∧
      s.Only t (oneReg (stationAt off) [.SYS_CS_STATUS]) [.resp]) := by
  have hreach : Who.reaches ⟨true, core.val, false, 15, true⟩ k.reg.path write.isSome = true := by
    cases hp : k.reg.path <;> simp_all [Who.reaches]
  have hsend : tetherSends off 8 = true := by simp [tetherSends, ha]
  have hpermit : s.sys.permits k off 8 = true := by simp [Sys.permits, ← ho]
  refine completes_on hl hc (M.accessAs_unitOff (x := s.ctx) write none rfl hsend hk hpermit hchain hreach hunit hoff) ⟨rfl, ?_, ?_⟩
  · exact Sys.rf_put_self s.sys _ _ _ _ (by decide)
  · exact State.only_withSys ((Sys.Frame.put s.sys _ _ _ _ (by simp [oneReg])).trans (.answer _ _ rfl))

end

/-- Settles O10: each of these accesses ends in the access's own chain of checks before it reaches its register. -/
theorem refusedAccesses : Obligations.RefusedAccesses := by
  refine ⟨?hartWrite, ?hartRead, ?remoteRead, ?tetherWrite, ?pageWrite, ?pageRead, ?path, ?unitRead, ?unitWrite, ?waits, ?timeout⟩
  case hartWrite =>
    intro s h off z v hl hk
    exact completes_mesh_unnamed (req := .hart h) (write := some v) hl rfl rfl rfl rfl hk
  case hartRead =>
    intro s h off z hl hk
    exact completes_mesh_unnamed (req := .hart h) (write := none) hl rfl rfl rfl rfl hk
  case remoteRead =>
    intro s kn sec off z hl hk
    exact completes_mesh_unnamed (req := .remote kn sec false) (write := none) hl rfl rfl rfl rfl hk
  case tetherWrite =>
    intro s core off v hl hk ha
    have hsend : tetherSends off.toNat 8 = true := by simp [tetherSends, ha]
    have he : s.ctx.regAccess (.tether core) off.toNat 8 (some v) = s.ctx.on (fun t => t.latched core 1 true off.toNat) :=
      M.accessAs_unnamed (some v) none (.inr hsend) hk
    exact completes_on hl rfl he ⟨rfl, s.sys.latched_valid core 1 _ _, s.sys.latched_status core 1 _ _ (by decide),
      s.sys.latched_write core 1 true _, s.only_of_answered (s.sys.answered_latched core 1 _ _) (s.sys.latched_keepsRegs core 1 _ _)⟩
  case pageWrite =>
    intro s h k off v hl hk hp
    exact completes_mesh_refused (req := .hart h) (write := some v) hl rfl rfl rfl
      (M.accessAs_mesh_refused (x := s.ctx) (some v) none rfl hk (.inl ⟨fun _ => rfl, hp⟩))
  case pageRead =>
    intro s h k off hl hk hid hp
    exact completes_mesh_refused (req := .hart h) (write := none) hl rfl rfl rfl
      (M.accessAs_mesh_refused (x := s.ctx) none none rfl hk (.inl ⟨fun e => absurd e hid, hp⟩))
  case path =>
    intro s kn sec isHart k off v hl hk hp
    refine completes_mesh_refused (req := .remote kn sec isHart) (write := some v) hl rfl rfl rfl
      (M.accessAs_mesh_refused (x := s.ctx) (some v) none rfl hk (.inr ?_))
    obtain hp | ⟨hp, hk15⟩ := hp
    · simp [Who.reaches, hp]
    · simpa [Who.reaches, hp] using hk15
  case unitRead =>
    intro s core k off hl hk ho ha hchain hunit hm hlocal hoff
    exact completes_tether_unitOff hl rfl hk ho ha hchain hunit hm hlocal hoff
  case unitWrite =>
    intro s core k off v hl hk ho ha hchain hunit hm hlocal hoff
    exact completes_tether_unitOff hl rfl hk ho ha hchain hunit hm hlocal hoff
  case waits =>
    intro s core k off v hl hk ha hchain
    have hsend : tetherSends off.toNat 8 = true := by simp [tetherSends, ha]
    refine completes_on hl rfl (M.accessAs_waits (x := s.ctx) (w := ⟨true, core.val, false, 15, true⟩) (some v) none rfl hsend hk hchain) ⟨rfl, ?_, ?_⟩
    · simp
    · exact State.only_withSys ((Sys.Frame.set_resp s.sys .waiting rfl).trans (.set_stations _ _ rfl))
  case timeout =>
    intro s core w hl hw hcore hva
    refine completes_onSys _ _ s _ hl rfl ?_
    have he : s.sys.tetherTimeout core =
        Sys.tetherLatch { s.sys with resp := .timeout, stations := { s.sys.stations with waits := [] } } core 2 w.write w.offset := by
      simp [Sys.tetherTimeout, hw, hcore, hva]
    rw [he]
    have hpart : s.sys.Frame { s.sys with resp := .timeout, stations := { s.sys.stations with waits := [] } } (oneReg core [.DRM_TETHER_ERR])
      [.resp, .stations] := (Sys.Frame.set_resp s.sys .timeout rfl).trans (.set_stations _ _ rfl)
    refine ⟨rfl, rfl, Sys.latched_valid _ core 2 w.write w.offset, Sys.latched_status _ core 2 w.write w.offset (by decide),
      Sys.latched_write _ core 2 w.write w.offset, rfl, State.only_withSys (hpart.trans (Sys.tetherLatch_frame _ core 2 w.write w.offset))⟩

end Sys2Proof.Machine
end

section
/-!
PROOFS. What the access codes say of a register's fields (R7, R9), for the accesses of a register by its offset.
-/
namespace Sys2Proof.Machine

/-! ## Access by offset -/

/-- An admitted access by the offset of its register is the access by the register's name. -/
theorem M.regAccess_eq_rowAccess {s : State} {a : Access} {off : Nat} (h : s.sys.Admits a) (ho : off = s.sys.offsetOf a.key) :
    s.ctx.regAccess a.req off 8 a.write = s.ctx.rowAccess a.req a.key a.write none := by
  have hoff : (s.sys.whoIs a.req).2.offsetOf a.key = off := ((s.sys.whoIs_known a.req).offsetOf a.key).trans ho.symm
  have hat : (s.sys.whoIs a.req).2.regAt ((s.sys.whoIs a.req).2.offsetOf a.key) = some a.key := h.1
  have key : s.ctx.rowAccess a.req a.key a.write none = if (s.sys.whoIs a.req).2.regAt ((s.sys.whoIs a.req).2.offsetOf a.key) = some a.key then
      (⟨s.mem, (s.sys.whoIs a.req).2, []⟩ : M).accessAs (s.sys.whoIs a.req).1 ((s.sys.whoIs a.req).2.offsetOf a.key) 8 a.write none
    else (⟨s.mem, (s.sys.whoIs a.req).2, []⟩ : M).on (fun t => t.answer ((s.sys.whoIs a.req).1.refusal a.write.isSome)) := rfl
  rw [key, if_pos hat, hoff]
  rfl

/-! ## Registers whose write does no more than their access codes say -/

section
variable {k : RK}

theorem RK.canon_plain (h : k.reg.plain = true) : k.canon = k := by
  obtain ⟨r, i, j⟩ := k
  cases r <;> first | exact absurd h Bool.false_ne_true | rfl

theorem Sys.domOf_plain (h : k.reg.plain = true) (t : Sys) : t.domOf k = none := by
  obtain ⟨r, i, j⟩ := k
  cases r <;> first | exact absurd h Bool.false_ne_true | rfl

theorem Reg.plain_ne_csStatus (h : k.reg.plain = true) : k.reg ≠ .SYS_CS_STATUS := by
  intro e
  rw [e] at h
  exact absurd h (by decide)

/-- Whether such a register exists is a matter of the configuration alone. -/
theorem Sys.present_plain (h : k.reg.plain = true) {s t : Sys} (hc : t.conf = s.conf) : t.present k = s.present k := by
  have hep (i : Nat) : t.isEp i = s.isEp i := by
    unfold Sys.isEp Sys.role
    rw [hc]
  obtain ⟨r, i, j⟩ := k
  cases r <;> first | exact absurd h Bool.false_ne_true | rfl | exact hep i

section
variable (x : M) (w : Who) (v : Word) (fwd : Option Nat)

theorem M.globalWrite_plain (h : k.reg.plain = true) : x.globalWrite w k v fwd = x.on (fun s => s.plainWrite k v) := by
  unfold M.globalWrite
  split <;> first | (rename_i e; rw [e] at h; exact absurd h Bool.false_ne_true) | rfl

theorem Sys.icnWrite_plain (h : k.reg.plain = true) (s : Sys) : s.icnWrite w k v = s.plainWrite k v := by
  unfold Sys.icnWrite
  split <;> first | (rename_i e; rw [e] at h; exact absurd h Bool.false_ne_true) | rfl

theorem M.tileWrite_plain (h : k.reg.plain = true) : x.tileWrite w k v = x.on (fun s => s.plainWrite k v) := by
  unfold M.tileWrite
  split <;> first | (rename_i e; rw [e] at h; exact absurd h Bool.false_ne_true) | rfl

theorem M.deviceWrite_plain (h : k.reg.plain = true) : x.deviceWrite w k v = x.on (fun s => s.plainWrite k v) := by
  unfold M.deviceWrite
  split <;> first | (rename_i e; rw [e] at h; exact absurd h Bool.false_ne_true) | rfl

theorem M.regWrite_plain (h : k.reg.plain = true) (hp : x.sys.present k = true) (off : Nat) :
    x.regWrite w k off v fwd = x.on (fun s => s.plainWrite k v) := by
  have hicn : x.on (fun s => s.icnWrite w k v) = x.on (fun s => s.plainWrite k v) :=
    congrArg (fun y => ({ x with sys := y } : M)) (Sys.icnWrite_plain w v h x.sys)
  unfold M.regWrite
  rw [hp, M.globalWrite_plain x w v fwd h, hicn, M.tileWrite_plain x w v h, M.deviceWrite_plain x w v h]
  simp only [Bool.not_true, Bool.false_eq_true, if_false, ite_self]

end
end

section
variable {s : State} {req : Requester} {k : RK} {off : BitVec 43}

/-- The outcome of a write by offset which takes effect, of a register outside the ICN. -/
theorem Sys.Takes.registerWrite {v : Word} (hl : s.Live) (ht : s.sys.Takes ⟨req, k, some v, none⟩) (ho : off.toNat = s.sys.offsetOf k) :
    ∃ t, (s.sys.opened ⟨req, k, some v, none⟩).Marked t ∧ exec (.registerWrite req off .b8 v) s = .next (s.after
      (((⟨s.mem, t, []⟩ : M).regWrite (s.sys.whoIs req).1 k.canon (s.sys.offsetOf k) v none).on (fun y => y.answer (.done 0)))) := by
  obtain ⟨t, hmark, hrow⟩ := Sys.Takes.write rfl ht
  refine ⟨t, hmark, ?_⟩
  have hc : exec (.registerWrite req off .b8 v) s = onM (fun x => x.regAccess req off.toNat 8 (some v)) s := rfl
  rw [hc, onM_live _ s hl]
  exact congrArg (fun x => Host.Outcome.next (s.after x)) ((M.regAccess_eq_rowAccess ht.1 ho).trans hrow)

/-- A write of a register that does no more than its access codes say completes with the register so written. -/
theorem completes_plainWrite {v : Word} {p : State → Prop} (hl : s.Live) (ht : s.sys.Takes ⟨req, k, some v, none⟩) (hk : k.reg.plain = true)
    (ho : off.toNat = s.sys.offsetOf k)
    (hp : ∀ t, s.sys.Touched t → (s.sys.opened ⟨req, k, some v, none⟩).Marked t → p (s.withSys ((t.plainWrite k v).answer (.done 0)))) :
    Completes (.registerWrite req off .b8 v) s p := by
  obtain ⟨t, hmark, he⟩ := ht.registerWrite hl ho
  have hpresent : t.present k = true := by
    have hconf : t.conf = (s.sys.opened ⟨req, k, some v, none⟩).conf := by rw [hmark.1]
    have hopened := ht.2.1
    rw [RK.canon_plain hk] at hopened
    exact (Sys.present_plain hk hconf).trans hopened
  rw [RK.canon_plain hk, M.regWrite_plain _ _ v none hk hpresent] at he
  exact ⟨_, he, hp t ((s.sys.opened_known _ (Sys.domOf_plain hk)).marked hmark) hmark⟩

end

/-! ## Rows -/

/-- Two rows share no bit. -/
def Row.apart (x y : Row) : Bool := decide (x.lo + x.wd ≤ y.lo) || decide (y.lo + y.wd ≤ x.lo)

/-- The rows lie within a word and share no bit. -/
def rowsApart : List Row → Bool
  | [] => true
  | x :: l => decide (x.lo + x.wd ≤ 64) && l.all x.apart && rowsApart l

theorem Reg.rows_apart (r : Reg) : rowsApart r.rows = true := by cases r <;> decide

/-- A step over rows changes the bits of its own row alone. -/
def RowLocal (f : Word → Row → Word) : Prop :=
  ∀ (w : Word) (x : Row) (lo wd : Nat), lo + wd ≤ 64 → (x.lo + x.wd ≤ lo ∨ lo + wd ≤ x.lo) → fget (f w x) lo wd = fget w lo wd

section
variable {f : Word → Row → Word} (hf : RowLocal f)
include hf

theorem RowLocal.foldl_other (l : List Row) (w : Word) {lo wd : Nat} (h64 : lo + wd ≤ 64)
    (h : ∀ x ∈ l, x.lo + x.wd ≤ lo ∨ lo + wd ≤ x.lo) : fget (l.foldl f w) lo wd = fget w lo wd := by
  induction l generalizing w with
  | nil => rfl
  | cons x l ih => exact (ih (f w x) fun y hy => h y (List.mem_cons_of_mem x hy)).trans (hf w x lo wd h64 (h x List.mem_cons_self))

/-- A row's bits are as the row's own step left them, on a word in which they were as at first. -/
theorem RowLocal.foldl_self (l : List Row) (w : Word) (h : rowsApart l = true) {x : Row} (hx : x ∈ l) :
    x.lo + x.wd ≤ 64 ∧ ∃ u, fget u x.lo x.wd = fget w x.lo x.wd ∧ fget (l.foldl f w) x.lo x.wd = fget (f u x) x.lo x.wd := by
  induction l generalizing w with
  | nil => exact absurd hx (by simp)
  | cons y l ih =>
    simp only [rowsApart, Bool.and_eq_true, decide_eq_true_eq, List.all_eq_true] at h
    obtain ⟨⟨h64, hy⟩, hl⟩ := h
    obtain rfl | hx := List.mem_cons.mp hx
    · refine ⟨h64, w, rfl, hf.foldl_other l (f w x) h64 fun z hz => ?_⟩
      have hxz := hy z hz
      simp only [Row.apart, Bool.or_eq_true, decide_eq_true_eq] at hxz
      omega
    · obtain ⟨hx64, u, hu, he⟩ := ih (f w y) hl hx
      have hyx := hy x hx
      simp only [Row.apart, Bool.or_eq_true, decide_eq_true_eq] at hyx
      exact ⟨hx64, u, hu.trans (hf w y x.lo x.wd hx64 hyx), he⟩

end

/-! ## The access codes -/

theorem fget_and_not (a b : Word) (lo wd : Nat) (h : lo + wd ≤ 64) :
    fget (a &&& ~~~b) lo wd = fget a lo wd - (fget a lo wd &&& fget b lo wd) := by
  have hand : fget a lo wd &&& fget b lo wd = fget (a &&& b) lo wd := by
    apply Nat.eq_of_testBit_eq
    intro i
    simp only [Nat.testBit_and, fget_testBit, BitVec.getLsbD_and]
    cases decide (i < wd) <;> rfl
  have hor : fget a lo wd = fget (a &&& ~~~b) lo wd ||| fget (a &&& b) lo wd := by
    apply Nat.eq_of_testBit_eq
    intro i
    simp only [Nat.testBit_or, fget_testBit, BitVec.getLsbD_and, BitVec.getLsbD_not]
    by_cases hi : i < wd
    · have h64 : lo + i < 64 := by omega
      cases a.getLsbD (lo + i) <;> cases b.getLsbD (lo + i) <;> simp [hi, h64]
    · simp [hi]
  have hsum : fget (a &&& ~~~b) lo wd ||| fget (a &&& b) lo wd = fget (a &&& ~~~b) lo wd + fget (a &&& b) lo wd := by
    have hdis : (a &&& ~~~b).extractLsb' lo wd &&& (a &&& b).extractLsb' lo wd = 0#wd := by
      apply BitVec.eq_of_getLsbD_eq
      intro i _
      simp only [BitVec.getLsbD_and, BitVec.getLsbD_extractLsb', BitVec.getLsbD_not, BitVec.getLsbD_zero]
      cases a.getLsbD (lo + i) <;> cases b.getLsbD (lo + i) <;> simp
    have hadd := BitVec.toNat_add_of_and_eq_zero hdis
    rw [BitVec.add_eq_or_of_and_eq_zero _ _ hdis, BitVec.toNat_or] at hadd
    exact hadd
  rw [hand]
  omega

theorem fget_or (a b : Word) (lo wd : Nat) : fget (a ||| b) lo wd = fget a lo wd ||| fget b lo wd := by
  apply Nat.eq_of_testBit_eq
  intro i
  simp only [Nat.testBit_or, fget_testBit, BitVec.getLsbD_or]
  cases decide (i < wd) <;> rfl

theorem rowLocal_accWrite (b : Bool) (old v : Word) :
    RowLocal (fun w x => fput w x.lo x.wd (x.acc.next b (fget old x.lo x.wd) (fget v x.lo x.wd))) :=
  fun w x lo wd h64 h => fget_fput_other w x.lo x.wd _ lo wd h64 h

theorem rowLocal_accClear : RowLocal (fun w x => if x.acc = .rc then fput w x.lo x.wd 0 else w) := by
  intro w x lo wd h64 h
  simp only
  split
  · exact fget_fput_other w x.lo x.wd 0 lo wd h64 h
  · rfl

section
variable (b : Bool) (old v : Word)

/-- What a row's bits read after a write (R7, R9). -/
theorem fget_accWrite {l : List Row} (hl : rowsApart l = true) {x : Row} (hx : x ∈ l) : fget (accWrite l b old v) x.lo x.wd =
    (match x.acc with
      | .rw => fget v x.lo x.wd
      | .rwl => if b then fget old x.lo x.wd else fget v x.lo x.wd
      | .w1c => fget (old &&& ~~~v) x.lo x.wd
      | .w1s => fget (old ||| v) x.lo x.wd
      | .ro => fget old x.lo x.wd
      | .wo => fget old x.lo x.wd
      | .rc => fget old x.lo x.wd) := by
  obtain ⟨h64, u, -, he⟩ := (rowLocal_accWrite b old v).foldl_self l old hl hx
  refine he.trans ((fget_fput_same u x.lo x.wd _ h64).trans ?_)
  cases x.acc with
  | rw => exact fget_mod v x.lo x.wd
  | ro | wo | rc => exact fget_mod old x.lo x.wd
  | w1c =>
    have h := fget_and_not old v x.lo x.wd h64
    simp only [Acc.next, ← h, fget_mod]
  | w1s =>
    have h := fget_or old v x.lo x.wd
    simp only [Acc.next, ← h, fget_mod]
  | rwl => cases b <;> simp only [Acc.next, if_true, if_false, Bool.false_eq_true, fget_mod]

/-- Bits of no row are as they were. -/
theorem fget_accWrite_outside {l : List Row} {i : Nat} (hi : i < 64) (h : l.any (fun x => decide (x.lo ≤ i) && decide (i < x.lo + x.wd)) = false) :
    fget (accWrite l b old v) i 1 = fget old i 1 := by
  refine (rowLocal_accWrite b old v).foldl_other l old (by omega) fun x hx => ?_
  have hx := List.any_eq_false.mp h x hx
  simp only [Bool.and_eq_true, decide_eq_true_eq, not_and] at hx
  omega

/-- What a row's bits read after a clearing read (R7). -/
theorem fget_accClear {l : List Row} (hl : rowsApart l = true) {x : Row} (hx : x ∈ l) :
    fget (accClear l old) x.lo x.wd = if x.acc = .rc then 0 else fget old x.lo x.wd := by
  obtain ⟨h64, u, hu, he⟩ := rowLocal_accClear.foldl_self l old hl hx
  refine he.trans ?_
  split
  · rw [fget_fput_same u x.lo x.wd 0 h64, Nat.zero_mod]
  · exact hu

end

/-! ## Clearing reads -/

section
variable {s : State} {req : Requester} {k : RK} {off : BitVec 43}

theorem Sys.Known.frame {s t : Sys} (h : s.Known t) {but : RK → Bool} : s.Frame t but accessParts := by
  refine ⟨fun k _ => h.rd k, fun q hq => ?_⟩
  rw [h]
  cases q <;> first | rfl | exact absurd hq (by decide)

/-- A read by offset which takes effect, of a register outside the ICN, completes with what its register's read gives. -/
theorem completes_clearingRead {p : State → Prop} (hl : s.Live) (ht : s.sys.Takes ⟨req, k, none, none⟩) (hdom : ∀ t, Sys.domOf t k = none)
    (ho : off.toNat = s.sys.offsetOf k) (hp : ∀ t, s.sys.Known t → t.present k.canon = true →
      p (s.withSys ((t.regRead k.canon).2.answer (.done (t.regRead k.canon).1)))) : Completes (.clearingRead req off .b8) s p := by
  have hknown : s.sys.Known (s.sys.opened ⟨req, k, none, none⟩) := s.sys.opened_known _ hdom
  have hc : exec (.clearingRead req off .b8) s = onM (fun x => x.regAccess req off.toNat 8 none) s := rfl
  refine ⟨_, hc.trans ((onM_live _ s hl).trans (congrArg (fun x => Host.Outcome.next (s.after x))
    ((M.regAccess_eq_rowAccess ht.1 ho).trans (Sys.Takes.read rfl ht)))), hp _ hknown ht.2.1⟩

theorem RK.canon_still (h : k.reg.still = true) : k.canon = k := by
  obtain ⟨r, i, j⟩ := k
  cases r <;> first | rfl | exact absurd h Bool.false_ne_true

theorem Sys.domOf_still (h : k.reg.still = true) (t : Sys) : t.domOf k = none := by
  unfold Sys.domOf
  split <;> first | (rename_i e; rw [e] at h; exact absurd h Bool.false_ne_true) | rfl

/-- A register that reads as it is stored, a read doing no more than its access codes say. -/
theorem Sys.regRead_still (h : k.reg.still = true) {t : Sys} (hp : t.present k = true) :
    t.regRead k = (t.rd k, t.wr k (accClear k.reg.rows (t.rd k))) := by
  unfold Sys.regRead
  rw [hp]
  simp only [Bool.not_true, Bool.false_eq_true, if_false]
  split <;> first | (rename_i e; rw [e] at h; exact absurd h Bool.false_ne_true) | rfl

end

/-- Settles O8: a register's rows share no bit, so a write or a clearing read leaves each as its own access code says. -/
theorem accessCodes : Obligations.AccessCodes := by
  refine ⟨?write, ?read, ?span⟩
  case write =>
    intro s req k off v hl ht hk ho
    refine completes_plainWrite hl ht hk ho fun t h _ => ?_
    have hne := Reg.plain_ne_csStatus hk
    have hrd : (t.plainWrite k v).rd k = accWrite k.reg.rows s.sys.isSealed (s.sys.rd k) v := by
      have hseal : t.isSealed = s.sys.isSealed := congrArg (· == 4) (h.rf F.ZNX_STATUS_IMAGE_STATE 0 0 (by decide))
      unfold Sys.plainWrite
      rw [Sys.rd_wr_self, hseal, h.2 k hne]
    refine ⟨rfl, ?_, ?_, State.only_withSys (h.frame_write (.wr _ _ _ (by simp)) (fun q hq => by simp_all) (List.Subset.refl _))⟩
    · refine List.all_eq_true.mpr fun x hx => beq_iff_eq.mpr ?_
      exact (congrArg (fun w => fget w x.lo x.wd) hrd).trans (fget_accWrite _ _ v k.reg.rows_apart hx)
    · refine List.all_eq_true.mpr fun b hb => ?_
      rw [Bool.or_eq_true, or_iff_not_imp_left]
      intro hout
      refine beq_iff_eq.mpr ((congrArg (fun w => fget w b 1) hrd).trans ?_)
      exact fget_accWrite_outside _ _ v (by simpa [below] using hb) (Bool.eq_false_iff.mpr hout)
  case read =>
    intro s req k off hl ht hk ho
    refine completes_clearingRead hl ht (Sys.domOf_still hk) ho fun t h hp => ?_
    rw [RK.canon_still hk] at hp ⊢
    rw [Sys.regRead_still hk hp, h.rd k]
    refine ⟨rfl, List.all_eq_true.mpr fun x hx => beq_iff_eq.mpr ?_,
      State.only_withSys (((h.frame).trans (.wr _ _ _ (by simp))).trans (.answer _ _ rfl))⟩
    refine (congrArg (fun w => fget w x.lo x.wd) ?_).trans (fget_accClear _ k.reg.rows_apart hx)
    exact Sys.rd_wr_self t k _
  case span =>
    intro s off req hl ht ho
    have hoff : off.toNat = s.sys.offsetOf ⟨.SPN_SPAN, 0, 0⟩ := by rw [ho]; rfl
    refine completes_clearingRead hl ht (fun _ => rfl) hoff fun t h _ => ?_
    have hread : t.regRead ⟨.SPN_SPAN, 0, 0⟩ = (fput (BitVec.ofNat 64 t.spanNo) 63 1 (b2n t.inWindow), t) := rfl
    have hspan : t.span = s.sys.span := by rw [h]
    have hno : t.spanNo = s.sys.spanNo := by unfold Sys.spanNo Sys.spanS; rw [hspan]
    have hwin : t.inWindow = s.sys.inWindow := by unfold Sys.inWindow Sys.phase Sys.windowLen Sys.spanS; rw [hspan]
    have hcanon : RK.canon ⟨.SPN_SPAN, 0, 0⟩ = ⟨.SPN_SPAN, 0, 0⟩ := rfl
    rw [hcanon, hread, hno, hwin]
    exact ⟨rfl, State.only_withSys (h.frame.trans (.answer _ _ rfl))⟩

end Sys2Proof.Machine
end

section
/-!
PROOFS. Tether and mesh writes of one register in one span (R31 to R33).
-/
namespace Sys2Proof.Machine

/-! ## Where registers stand -/

/-- A register found in a list of registers stands at its place, which holds the offset. -/
theorem regIn_place {l : List Reg} {off : Nat} {k : RK} (h : regIn l off = some k) :
    k.reg ∈ l ∧ ∃ p, k.reg.place = some p ∧ p.find off = some (k.i, k.j) := by
  induction l with
  | nil => exact absurd h (by simp [regIn])
  | cons r l ih =>
    unfold regIn at h
    split at h
    · next i j hf =>
      obtain rfl := Option.some.inj h
      obtain ⟨p, hp, hfind⟩ := Option.bind_eq_some_iff.mp hf
      exact ⟨List.mem_cons_self, p, hp, hfind⟩
    · obtain ⟨hmem, hp⟩ := ih h
      exact ⟨List.mem_cons_of_mem r hmem, hp⟩

/-- The end of the space that a register's elements lie in. -/
def Place.top (p : Place) : Nat := p.base + p.n1 * p.s1 + p.n2 * p.s2 + 8

theorem Place.find_range {p : Place} {off i j : Nat} (h : p.find off = some (i, j)) : p.base ≤ off ∧ off < p.top := by
  unfold Place.find at h
  split at h
  · exact absurd h (by simp)
  · simp only [Option.ite_none_right_eq_some, Option.some.injEq, Prod.mk.injEq] at h
    obtain ⟨⟨hi, hj, hr⟩, rfl, rfl⟩ := h
    have h1 := Nat.mul_le_mul_right p.s1 (Nat.le_of_lt hi)
    have h2 := Nat.mul_le_mul_right p.s2 (Nat.le_of_lt hj)
    unfold Place.top
    omega

/-- A register's space lies within 4 MiB of where its window begins (R33, R610). -/
def Place.near (p : Place) : Bool :=
  decide (p.top ≤ 0x600000) || (decide (0x1000000 ≤ p.base) && decide (p.top ≤ 0x4400000)) || (decide (0x5000000 ≤ p.base) && decide (p.top ≤ 0x5400000))

theorem Reg.placed_near : Reg.placed.all (fun r => (r.place.map Place.near).getD true) = true := by decide

theorem windowBase_near {p : Place} {off : Nat} (hp : p.near = true) (h : p.base ≤ off ∧ off < p.top) : off - windowBase off < 2 ^ 22 := by
  simp only [Place.near, Bool.or_eq_true, Bool.and_eq_true, decide_eq_true_eq] at hp
  unfold windowBase
  repeat' split
  all_goals omega

/-- The offset of a register in its station's window fits its field. -/
theorem Sys.regAt_near {s : Sys} {off : Nat} {k : RK} (h : s.regAt off = some k) : off - windowBase off < 2 ^ 22 := by
  unfold Sys.regAt at h
  cases hr : regIn (regsNear off) off with
  | some q =>
    obtain ⟨hmem, p, hp, hf⟩ := regIn_place hr
    have hnear := List.all_eq_true.mp Reg.placed_near q.reg (List.mem_filter.mp hmem).1
    rw [hp] at hnear
    exact windowBase_near hnear (Place.find_range hf)
  | none =>
    rw [hr] at h
    have hoff : off < 0x200000 := by
      by_contra hc
      have hnone : s.srcAt off = none := if_pos (.inr (Nat.le_of_not_lt hc))
      rw [hnone] at h
      exact absurd h (by simp)
    omega

/-! ## What SYS_CS_STATUS records -/

section
variable (s : Sys) {f : Fld} {off kn : Nat} (w : Bool)

/-- A mesh write that was dropped or superseded is recorded with its offset, kennel and world, and counted (R33). -/
theorem Sys.meshNote_fields (hf : f = F.SYS_CS_STATUS_MESH_DROP ∨ f = F.SYS_CS_STATUS_MESH_SUPERSEDED) (ho : off - windowBase off < 2 ^ 22) :
    (s.meshNote f off kn w).rf f (stationAt off) = 1 ∧
    (s.meshNote f off kn w).rf F.SYS_CS_STATUS_DROP_OFFSET (stationAt off) = off - windowBase off ∧
    (s.meshNote f off kn w).rf F.SYS_CS_STATUS_DROP_KENNEL (stationAt off) = kn % 16 ∧
    (s.meshNote f off kn w).rf F.SYS_CS_STATUS_DROP_WORLD (stationAt off) = b2n w ∧
    (s.meshNote f off kn w).rf F.SYS_CS_STATUS_DROP_COUNT (stationAt off) = min 255 (s.rf F.SYS_CS_STATUS_DROP_COUNT (stationAt off) + 1) := by
  have hw : b2n w % 2 = b2n w := Nat.mod_eq_of_lt (b2n_lt w)
  have hoff : (off - windowBase off) % 4194304 = off - windowBase off := Nat.mod_eq_of_lt ho
  have hcount (n : Nat) : min 255 n % 256 = min 255 n := by omega
  obtain rfl | rfl := hf
  all_goals
    refine ⟨?_, ?_, ?_, ?_, ?_⟩ <;>
      simp (disch := decide) [Sys.meshNote, Sys.bump, Sys.rf_put_bits, Sys.rf_put_self, hw, hoff, hcount]

theorem Sys.meshNote_frame (hf : f.reg = .SYS_CS_STATUS) {parts : List Part} :
    s.Frame (s.meshNote f off kn w) (oneReg (stationAt off) [.SYS_CS_STATUS]) parts := by
  have own (g : Fld) (hg : g.reg = .SYS_CS_STATUS) : oneReg (stationAt off) [.SYS_CS_STATUS] ⟨g.reg, stationAt off, 0⟩ = true := by simp [oneReg, hg]
  exact ((((Sys.Frame.put s f 1 _ _ (own f hf)).trans (.bump _ _ _ _ (own _ rfl))).trans (.put _ _ _ _ _ (own _ rfl))).trans
    (.put _ _ _ _ _ (own _ rfl))).trans (.put _ _ _ _ _ (own _ rfl))

end

/-! ## The apply point -/

/-- A mesh write of an unmarked register is noted with its kennel and world (R33). -/
def Sys.meshMarked (s : Sys) (k : RK) (kn : Nat) (w : Bool) : Sys :=
  { s with stations := { s.stations with
      meshMark := s.stations.meshMark.filter (fun (m : RK × Nat × Bool) => m.1 ≠ k) ++ [(k, kn, w)] } }

section
variable {s : State} {k : RK} {v : Word} {off : BitVec 43}

/-- A write of a register outside the ICN by an identified requester, once it is admitted. -/
theorem Sys.Admits.write_next {req : Requester} {who : Who} (hl : s.Live) (ha : s.sys.Admits ⟨req, k, some v, none⟩) (hwho : s.sys.whoIs req = (who, s.sys))
    (ho : off.toNat = s.sys.offsetOf k) : exec (.registerWrite req off .b8 v) s =
      .next (s.after ((⟨s.mem, s.sys, []⟩ : M).regPerform who k (s.sys.offsetOf k) 8 (some v) none)) := by
  have hc : exec (.registerWrite req off .b8 v) s = onM (fun x => x.regAccess req off.toNat 8 (some v)) s := rfl
  rw [hc, onM_live _ s hl]
  refine congrArg (fun x => Host.Outcome.next (s.after x)) (((M.regAccess_eq_rowAccess ha ho).trans ha.rowAccess).trans ?_)
  simp only [hwho]

theorem Sys.opened_of_whoIs {a : Access} {who : Who} {s : Sys} (hwho : s.whoIs a.req = (who, s)) (hdom : s.domOf a.key = none) : s.opened a = s := by
  unfold Sys.opened
  simp only [hwho, hdom]

theorem M.regPerform_tether (x : M) {who : Who} (hw : who.tether = true) (hdom : x.sys.domOf k = none) (o : Nat) (fwd : Option Nat) :
    x.regPerform who k o 8 (some v) fwd =
      (M.regWrite { x with sys := x.sys.tetherApply k.canon o } who k.canon o v fwd).on (fun y => y.answer (.done 0)) := by
  unfold M.regPerform
  simp only [M.on, hdom, hw]
  rfl

theorem M.regPerform_mesh (x : M) {who : Who} (hw : who.tether = false) (hdom : x.sys.domOf k = none) (o : Nat) (fwd : Option Nat) :
    x.regPerform who k o 8 (some v) fwd = match x.sys.meshApply k.canon o who.kennel who.secure with
      | (false, t) => { x with sys := t.answer (.done 0) }
      | (true, t) => (M.regWrite { x with sys := t } who k.canon o v fwd).on (fun y => y.answer (.done 0)) := by
  unfold M.regPerform
  simp only [M.on, hdom, hw]
  rfl

/-- The write of a register that does no more than its access codes say, once the apply point has passed it. -/
theorem M.regWrite_plain_of_conf {t : Sys} (hk : k.reg.plain = true) (hp : s.sys.present k = true) (hc : t.conf = s.sys.conf) (who : Who) (o : Nat) :
    (⟨s.mem, t, []⟩ : M).regWrite who k o v none = (⟨s.mem, t, []⟩ : M).on (fun y => y.plainWrite k v) :=
  M.regWrite_plain _ who v none hk ((Sys.present_plain hk hc).trans hp) o

/-- A Tether write that takes effect, of a register that does no more than its access codes say. -/
theorem completes_tetherWrite {core : Fin 4} {p : State → Prop} (hl : s.Live) (ht : s.sys.Takes ⟨.tether core, k, some v, none⟩)
    (hk : k.reg.plain = true) (ho : off.toNat = s.sys.offsetOf k)
    (hp : p (s.withSys (((s.sys.tetherApply k off.toNat).plainWrite k v).answer (.done 0)))) :
    Completes (.registerWrite (.tether core) off .b8 v) s p := by
  have hpresent := ht.2.1
  rw [Sys.opened_of_whoIs rfl (Sys.domOf_plain hk s.sys), RK.canon_plain hk] at hpresent
  have key := M.regPerform_tether (v := v) ⟨s.mem, s.sys, []⟩ (who := ⟨true, core.val, false, 15, true⟩) rfl (Sys.domOf_plain hk s.sys) off.toNat none
  have hconf : (s.sys.tetherApply k off.toNat).conf = s.sys.conf := by rw [(s.sys.tetherApply_marked k off.toNat).1]
  rw [RK.canon_plain hk, M.regWrite_plain_of_conf hk hpresent hconf] at key
  have he := ht.1.write_next hl rfl ho
  rw [← ho, key] at he
  exact ⟨_, he, hp⟩

/-- A mesh write that takes effect, of a register that does no more than its access codes say. -/
theorem completes_meshWrite {kn : Fin 16} {sec isHart : Bool} {p : State → Prop} (hl : s.Live)
    (ht : s.sys.Takes ⟨.remote kn sec isHart, k, some v, none⟩) (hk : k.reg.plain = true) (ho : off.toNat = s.sys.offsetOf k)
    (hp : p (s.withSys (((s.sys.meshMarked k kn.val sec).plainWrite k v).answer (.done 0)))) :
    Completes (.registerWrite (.remote kn sec isHart) off .b8 v) s p := by
  have hpresent := ht.2.1
  have hmark := ht.2.2.2 (by simp) rfl
  rw [Sys.opened_of_whoIs rfl (Sys.domOf_plain hk s.sys), RK.canon_plain hk] at hpresent hmark
  have key := M.regPerform_mesh (v := v) ⟨s.mem, s.sys, []⟩ (who := ⟨false, 0, isHart, kn.val, sec⟩) rfl (Sys.domOf_plain hk s.sys) off.toNat none
  have happly : s.sys.meshApply k off.toNat kn.val sec = (true, s.sys.meshMarked k kn.val sec) := by
    unfold Sys.meshApply
    simp only [RK.canon_plain hk, hmark, Bool.false_eq_true, if_false]
    rfl
  simp only [RK.canon_plain hk, happly] at key
  rw [M.regWrite_plain_of_conf (t := s.sys.meshMarked k kn.val sec) hk hpresent rfl] at key
  have he := ht.1.write_next hl rfl ho
  rw [← ho, key] at he
  exact ⟨_, he, hp⟩

/-- A mesh write of a register that the Tether has written in this span is dropped (R33). -/
theorem completes_meshDrop {kn : Fin 16} {sec isHart : Bool} {p : State → Prop} (hl : s.Live)
    (ha : s.sys.Admits ⟨.remote kn sec isHart, k, some v, none⟩) (hdom : s.sys.domOf k = none)
    (hmark : s.sys.stations.tetherMark.contains k.canon = true) (ho : off.toNat = s.sys.offsetOf k)
    (hp : p (s.withSys ((s.sys.meshNote F.SYS_CS_STATUS_MESH_DROP off.toNat kn.val sec).answer (.done 0)))) :
    Completes (.registerWrite (.remote kn sec isHart) off .b8 v) s p := by
  have key := M.regPerform_mesh (v := v) ⟨s.mem, s.sys, []⟩ (who := ⟨false, 0, isHart, kn.val, sec⟩) rfl hdom off.toNat none
  have happly : s.sys.meshApply k.canon off.toNat kn.val sec = (false, s.sys.meshNote F.SYS_CS_STATUS_MESH_DROP off.toNat kn.val sec) := by
    unfold Sys.meshApply
    simp only [RK.canon_canon, hmark, if_true]
  simp only [happly] at key
  have he := ha.write_next hl rfl ho
  rw [← ho, key] at he
  exact ⟨_, he, hp⟩

end

section
variable (s : Sys) {k : RK} (off : Nat)

theorem Sys.tetherApply_tetherMark (hk : k.canon = k) : (s.tetherApply k off).stations.tetherMark.contains k = true := by
  unfold Sys.tetherApply
  rw [hk]
  generalize s.stations.meshMark.find? _ = o
  cases o <;> cases hc : s.stations.tetherMark.contains k <;> simp_all [Sys.meshNote, Sys.bump]

theorem Sys.tetherApply_meshMark (hk : k.canon = k) :
    (s.tetherApply k off).stations.meshMark = s.stations.meshMark.filter (fun m => m.1 ≠ k) := by
  unfold Sys.tetherApply
  rw [hk]
  generalize s.stations.meshMark.find? _ = o
  cases o <;> rfl

/-- Where a mesh write of this span is noted, a Tether write records that it supersedes it; else it records nothing (R33). -/
theorem Sys.tetherApply_regs (hk : k.canon = k) : (s.tetherApply k off).regs =
    match (s.stations.meshMark.filter (fun m => m.1 = k)).head? with
    | some m => (s.meshNote F.SYS_CS_STATUS_MESH_SUPERSEDED off m.2.1 m.2.2).regs
    | none => s.regs := by
  unfold Sys.tetherApply
  rw [hk, List.head?_filter]
  generalize List.find? _ s.stations.meshMark = o
  cases o <;> rfl

end

theorem fget_eq_div (w : Word) (lo wd : Nat) : fget w lo wd = w.toNat / 2 ^ lo % 2 ^ wd := by
  unfold fget
  rw [BitVec.extractLsb'_toNat, Nat.shiftRight_eq_div_pow]

theorem fget_two_eq_zero (w : Word) : fget w 1 2 = 0 ↔ fget w 1 1 = 0 ∧ fget w 2 1 = 0 := by
  simp only [fget_eq_div]
  omega

section
variable (s : Sys) (i : Fin 109) (v : Word)

/-- A write of SYS_CS_STATUS that leaves both mesh bits zero zeroes the count (R33). -/
theorem Sys.csStatusWrite_clears (h : fget (s.rd ⟨.SYS_CS_STATUS, i, 0⟩ &&& ~~~v) 1 2 = 0) :
    fget ((s.csStatusWrite i v).rd ⟨.SYS_CS_STATUS, i, 0⟩) 1 2 = 0 ∧ (s.csStatusWrite i v).rf F.SYS_CS_STATUS_DROP_COUNT i = 0 := by
  obtain ⟨hdrop, hsup⟩ := (fget_two_eq_zero _).mp h
  generalize ht : s.wr ⟨.SYS_CS_STATUS, i, 0⟩ (accWrite rows_SYS_CS_STATUS s.isSealed (s.rd ⟨.SYS_CS_STATUS, i, 0⟩) v) = t
  have hrd : t.rd ⟨.SYS_CS_STATUS, i, 0⟩ = accWrite rows_SYS_CS_STATUS s.isSealed (s.rd ⟨.SYS_CS_STATUS, i, 0⟩) v := by
    rw [← ht, Sys.rd_wr_self]
  have hone : fget (t.rd ⟨.SYS_CS_STATUS, i, 0⟩) 1 1 = 0 := by
    rw [hrd]
    exact (fget_accWrite s.isSealed _ v (Reg.rows_apart .SYS_CS_STATUS) (x := ⟨1, 1, .w1c, 0, .cw⟩) (by decide)).trans hdrop
  have htwo : fget (t.rd ⟨.SYS_CS_STATUS, i, 0⟩) 2 1 = 0 := by
    rw [hrd]
    exact (fget_accWrite s.isSealed _ v (Reg.rows_apart .SYS_CS_STATUS) (x := ⟨2, 1, .w1c, 0, .cw⟩) (by decide)).trans hsup
  have hw : s.csStatusWrite i v = t.put F.SYS_CS_STATUS_DROP_COUNT 0 i := by
    have hi : ¬ 109 ≤ i.val := by omega
    have h1 : t.on F.SYS_CS_STATUS_MESH_DROP i = false := by simp [Sys.on, Sys.rf, hone]
    have h2 : t.on F.SYS_CS_STATUS_MESH_SUPERSEDED i = false := by simp [Sys.on, Sys.rf, htwo]
    unfold Sys.csStatusWrite
    simp only [hi, if_false, ht, h1, h2, Bool.not_false, Bool.and_self, Sys.when_true]
  rw [hw]
  refine ⟨?_, Sys.rf_put_self t _ _ _ _ (by decide)⟩
  have hother (g : Fld) (hg : g.reg = .SYS_CS_STATUS) (h : g.lo + g.wd ≤ 64 ∧ (24 + 8 ≤ g.lo ∨ g.lo + g.wd ≤ 24)) :
      (t.put F.SYS_CS_STATUS_DROP_COUNT 0 i).rf g i = t.rf g i := Sys.rf_put_bits _ _ _ _ _ _ _ _ h
  exact (hother ⟨.SYS_CS_STATUS, 1, 2⟩ rfl (by decide)).trans ((fget_two_eq_zero _).mpr ⟨hone, htwo⟩)

theorem Sys.csStatusWrite_frame {parts : List Part} : s.Frame (s.csStatusWrite i v) (oneReg i [.SYS_CS_STATUS]) parts := by
  have own : oneReg i [.SYS_CS_STATUS] ⟨.SYS_CS_STATUS, i, 0⟩ = true := by simp [oneReg]
  exact .ite (fun _ => .refl s) fun _ => (Sys.Frame.wr s _ _ own).trans (.when _ _ _ fun _ => .put _ _ _ _ _ own)

end

/-- Settles O9: the apply point notes, supersedes or drops before the register takes its write, which leaves SYS_CS_STATUS as it was. -/
theorem pathPrecedence : Obligations.PathPrecedence := by
  refine ⟨?tether, ?mesh, ?drop, ?clear⟩
  case tether =>
    intro s core k off v w hl ht hk ho
    have hat : s.sys.regAt (s.sys.offsetOf k) = some k := ht.1.1
    have hnear := Sys.regAt_near hat
    rw [← ho] at hnear
    have hcanon := RK.canon_plain hk
    refine completes_tetherWrite hl ht hk ho ?_
    have hrd : (((s.sys.tetherApply k off.toNat).plainWrite k v).answer (.done 0)).rd ⟨.SYS_CS_STATUS, stationAt off.toNat, 0⟩ =
        (s.sys.tetherApply k off.toNat).rd ⟨.SYS_CS_STATUS, stationAt off.toNat, 0⟩ :=
      Sys.rd_wr_other _ k _ _ fun e => Reg.plain_ne_csStatus hk (by rw [e])
    have hrf (f : Fld) (hf : f.reg = .SYS_CS_STATUS) : (((s.sys.tetherApply k off.toNat).plainWrite k v).answer (.done 0)).rf f (stationAt off.toNat) =
        (s.sys.tetherApply k off.toNat).rf f (stationAt off.toNat) := by
      unfold Sys.rf
      rw [hf, hrd]
    have hregs := s.sys.tetherApply_regs off.toNat hcanon
    refine ⟨s.sys.tetherApply_tetherMark off.toNat hcanon, s.sys.tetherApply_meshMark off.toNat hcanon, fun hone => ?_, fun hnone => ?_⟩
    · rw [hone] at hregs
      obtain ⟨hbit, hoff, hkn, hw, -⟩ := s.sys.meshNote_fields (kn := w.1) w.2 (.inr rfl) hnear
      have hread (f : Fld) (hf : f.reg = .SYS_CS_STATUS) := (hrf f hf).trans (Sys.rf_of_regs f _ _ hregs)
      exact ⟨(hread _ rfl).trans hbit, (hread _ rfl).trans hoff, (hread _ rfl).trans hkn, (hread _ rfl).trans hw⟩
    · rw [hnone] at hregs
      refine hrd.trans ?_
      unfold Sys.rd
      rw [hregs]
      rfl
  case mesh =>
    intro s k kn sec isHart off v hl ht hk ho
    refine completes_meshWrite hl ht hk ho ⟨?_, rfl, ?_⟩
    · simp [State.withSys, Sys.meshMarked, Sys.plainWrite]
    · exact Sys.rd_wr_other _ k _ _ fun e => Reg.plain_ne_csStatus hk (by rw [e])
  case drop =>
    intro s k kn sec isHart off v hl ha hdom hmark ho
    have hat : s.sys.regAt (s.sys.offsetOf k) = some k := ha.1
    have hnear := Sys.regAt_near hat
    rw [← ho] at hnear
    obtain ⟨hbit, hoff, hkn, hw, hcount⟩ := s.sys.meshNote_fields (kn := kn.val) sec (.inl rfl) hnear
    refine completes_meshDrop hl ha hdom hmark ho ⟨rfl, hbit, hoff, hkn.trans (Nat.mod_eq_of_lt kn.isLt), hw, hcount, ?_⟩
    exact State.only_withSys ((s.sys.meshNote_frame sec rfl).trans (.answer _ _ rfl))
  case clear =>
    intro s core i off v hl ht ho hzero hmarks
    have hoff : off.toNat = s.sys.offsetOf ⟨.SYS_CS_STATUS, i, 0⟩ := by rw [ho]; simp [Sys.offsetOf, Reg.place, Nat.mul_comm]
    have key := M.regPerform_tether (v := v) ⟨s.mem, s.sys, []⟩ (who := ⟨true, core.val, false, 15, true⟩) (k := ⟨.SYS_CS_STATUS, i, 0⟩) rfl rfl
      off.toNat none
    have hwrite : (⟨s.mem, s.sys.tetherApply ⟨.SYS_CS_STATUS, i, 0⟩ off.toNat, []⟩ : M).regWrite ⟨true, core.val, false, 15, true⟩
        ⟨.SYS_CS_STATUS, i, 0⟩ off.toNat v none =
        (⟨s.mem, (s.sys.tetherApply ⟨.SYS_CS_STATUS, i, 0⟩ off.toNat).csStatusWrite i v, []⟩ : M) := by
      have hpresent : (s.sys.tetherApply ⟨.SYS_CS_STATUS, i, 0⟩ off.toNat).present ⟨.SYS_CS_STATUS, i, 0⟩ = true := decide_eq_true i.isLt
      have hzone : off.toNat < 0x100000 := by omega
      unfold M.regWrite
      simp only [hpresent, hzone, Bool.not_true, Bool.false_eq_true, if_false, true_or, if_true]
      rfl
    have hregs : (s.sys.tetherApply ⟨.SYS_CS_STATUS, i, 0⟩ off.toNat).regs = s.sys.regs := by
      have h := s.sys.tetherApply_regs (k := ⟨.SYS_CS_STATUS, i, 0⟩) off.toNat rfl
      rw [hmarks] at h
      exact h
    have hrd (k : RK) : (s.sys.tetherApply ⟨.SYS_CS_STATUS, i, 0⟩ off.toNat).rd k = s.sys.rd k := by
      unfold Sys.rd
      rw [hregs]
    have hcanon : RK.canon ⟨.SYS_CS_STATUS, i.val, 0⟩ = ⟨.SYS_CS_STATUS, i.val, 0⟩ := rfl
    have he := ht.1.write_next hl rfl hoff
    rw [← hoff, key, hcanon, hwrite] at he
    rw [← hrd] at hzero
    obtain ⟨hbits, hcount⟩ := Sys.csStatusWrite_clears _ i v hzero
    refine ⟨_, he, hbits, hcount, State.only_withSys ?_⟩
    have happly : s.sys.Frame (s.sys.tetherApply ⟨.SYS_CS_STATUS, i, 0⟩ off.toNat) (oneReg i [.SYS_CS_STATUS]) accessParts :=
      ⟨fun k _ => hrd k, ((Sys.Known.marked (o := s.sys) rfl (s.sys.tetherApply_marked _ _)).frame).2⟩
    exact (happly.trans (Sys.csStatusWrite_frame _ i v)).trans (.answer _ _ rfl)

end Sys2Proof.Machine
end

section
/-!
SUPPORT. The frames of operations that several units share: the lines of the interrupt concentrator (ch. 11), the stops of the mesh (ch. 8), and what
the links send (ch. 12).
-/
namespace Sys2Proof.Machine

/-- A field that is counted up stops at its largest value. -/
theorem Sys.rf_bump (s : Sys) (f : Fld) (i j : Nat) (h : f.lo + f.wd ≤ 64) : (s.bump f i j).rf f i j = min (2 ^ f.wd - 1) (s.rf f i j + 1) := by
  have hpos : 0 < 2 ^ f.wd := Nat.two_pow_pos f.wd
  exact (Sys.rf_put_self s f _ i j h).trans (Nat.mod_eq_of_lt (Nat.lt_of_le_of_lt (Nat.min_le_left _ _) (by omega)))

/-! ## The interrupt concentrator -/

section
variable (s : Sys) (d id : Nat)

theorem Sys.ctxKey_line {hart ctx : Nat} {k : RK} (h : s.ctxKey d hart ctx = some k) : lineReg k = true := by
  unfold Sys.ctxKey at h
  split at h
  · simp only [Option.ite_none_right_eq_some, Option.some.injEq] at h
    rw [← h.2]; rfl
  · split at h
    · split at h
      · rw [← Option.some.inj h]; rfl
      · simp only [Option.ite_none_right_eq_some, Option.some.injEq] at h
        rw [← h.2]; rfl
    · exact absurd h (by simp)

theorem Sys.residents_line {v : Nat} {k : RK} (h : k ∈ s.residents d v) : lineReg k = true := by
  obtain ⟨p, -, hp⟩ := List.mem_filterMap.mp h
  simp only [Option.ite_none_right_eq_some, Option.some.injEq] at hp
  rw [← hp.2]; rfl

theorem Sys.srcCtxs_line {k : RK} (h : k ∈ s.srcCtxs d id) : lineReg k = true := by
  unfold Sys.srcCtxs at h
  split at h
  · exact s.residents_line d h
  · exact s.ctxKey_line d (Option.mem_toList.mp h)

theorem Sys.syncLine_frame {k : RK} {but : RK → Bool} (hk : but k = true) {parts : List Part} : s.Frame (s.syncLine d k) but parts := .wr s k _ hk

/-- The lines of a domain follow its sources, and nothing else changes. -/
theorem Sys.icnSync_frame : s.Frame (s.icnSync d) lineReg [.icn] := by
  refine .ite (fun _ => .refl s) fun _ => (Sys.Frame.set_icn s _ rfl).trans (.each _ _ _ fun t k hk => Sys.syncLine_frame t d ?_)
  obtain hk | hk := List.mem_append.mp (List.mem_eraseDups.mp hk)
  · obtain ⟨id, -, hk⟩ := List.mem_flatMap.mp hk
    exact Sys.srcCtxs_line _ d id hk
  · obtain ⟨p, -, hp⟩ := List.mem_filterMap.mp hk
    simp only [Option.ite_none_right_eq_some, Option.some.injEq] at hp
    obtain ⟨⟨-, hreg⟩, rfl⟩ := hp
    simp only [lineReg, Bool.or_eq_true, beq_iff_eq]
    tauto

theorem Sys.icnSyncAll_frame : s.Frame s.icnSyncAll lineReg [.icn] := .each s _ _ fun t d _ => t.icnSync_frame d

/-- The registers that an event of a source may change: its entry, and the request lines. -/
def srcReg (d id : Nat) (k : RK) : Bool := lineReg k || k == ⟨.ICN_SRC, d, id⟩

theorem Sys.icnSync_frame_of {but : RK → Bool} (hb : ∀ k, lineReg k = true → but k = true) : s.Frame (s.icnSync d) but [.icn] :=
  (s.icnSync_frame d).regs_mono hb

theorem Sys.srcEvent_frame : s.Frame (s.srcEvent d id) (srcReg d id) [.icn] :=
  .ite (fun _ => (Sys.Frame.put s _ _ _ _ (by simp [srcReg])).trans (Sys.icnSync_frame_of _ d fun k hk => by simp [srcReg, hk])) fun _ => .refl s

theorem Sys.unadmit_frame {but : RK → Bool} : s.Frame (s.unadmit d id) but [.icn] := .set_icn s _ rfl

/-- The registers that a message to a domain may change. -/
def msgReg (d id : Nat) (k : RK) : Bool := srcReg d id k || k == ⟨.ICN_DOM_STATUS, d, 0⟩

theorem Sys.takeMessage_frame (w : Bool) : s.Frame (s.takeMessage d id w) (msgReg d id) [.icn] :=
  .ite (fun _ => (s.srcEvent_frame d id).regs_mono fun k hk => by simp [msgReg, hk]) fun _ => .bump s _ _ _ (by simp [msgReg])

theorem Sys.icnMessage_frame (w : Bool) : s.Frame (s.icnMessage d id w) (msgReg d id) [.icn] :=
  .ite (fun _ => .set_icn s _ rfl) fun _ => s.takeMessage_frame d id w

end

/-! ## The stops of the mesh -/

/-- The registers that the departure of requests may change: what the stops show, and a Retriever channel's credit (R485). -/
def sendReg (k : RK) : Bool := grainReg k || k.reg == .RTV_CH_STATUS

section
variable (s : Sys) (i : Nat)

theorem Sys.onStop_frame (f : Stop → Stop) {but : RK → Bool} {parts : List Part} (h : parts.contains .stops = true) : s.Frame (s.onStop i f) but parts :=
  .set_stops s _ h

theorem Sys.showStop_frame {parts : List Part} (h : parts.contains .qosHeld = true) : s.Frame (s.showStop i) grainReg parts := by
  have hheld : s.Frame (s.each (((((s.stop i).held.filterMap fun r => (s.holdWhy i r).map fun w => (w, r.kennel)).filter fun w => w.1 = .mem)).map (·.2))
      (fun s k => if (Bank.get? s.qosHeld k).isSome then s else { s with qosHeld := Bank.set s.qosHeld k s.phase })) grainReg parts :=
    .each _ _ _ fun t k _ => .ite (fun _ => .refl t) fun _ => .set_qosHeld t _ h
  refine (hheld.trans (.put _ F.SYS_QOS_STATUS_HELD _ _ _ rfl)).trans (.ite (fun _ => ?_) fun _ => .refl _)
  exact ((((Sys.Frame.put _ _ _ _ _ rfl).trans (.put _ _ _ _ _ rfl)).trans (.put _ _ _ _ _ rfl)).trans (.put _ _ _ _ _ rfl)).trans (.put _ _ _ _ _ rfl)

theorem Sys.depart_frame (r : Req) {parts : List Part} (hs : parts.contains .stops = true) (hm : parts.contains .msgs = true) :
    s.Frame (s.depart i r) sendReg parts := by
  unfold Sys.depart
  split
  · exact .refl s
  · refine Sys.Frame.trans ?_ (.when _ _ _ fun _ => Sys.onStop_frame _ i _ hs)
    split
    · exact ((s.onStop_frame i _ hs).trans (.set_msgs _ _ hm)).trans (.when _ _ _ fun _ => .put _ _ _ _ _ rfl)
    · exact (s.onStop_frame i _ hs).trans (.set_msgs _ _ hm)

theorem Sys.showStop_frame_send {parts : List Part} (h : parts.contains .qosHeld = true) : s.Frame (s.showStop i) sendReg parts :=
  (s.showStop_frame i h).regs_mono fun k hk => by simp [sendReg, hk]

/-- The parts that a stop's requests may change on their way. -/
abbrev stopParts : List Part := [.stops, .msgs, .qosHeld]

theorem Sys.send_frame (r : Req) : s.Frame (s.send r) sendReg stopParts := by
  refine .ite (fun _ => .ite (fun _ => .refl s) fun _ => .set_msgs s _ rfl) fun _ => ?_
  split
  · refine .ite (fun _ => .ite (fun _ => .refl s) fun _ => s.onStop_frame _ _ rfl) fun _ => ?_
    exact (s.depart_frame _ r rfl rfl).trans (Sys.showStop_frame_send _ _ rfl)
  · exact .ite (fun _ => .refl s) fun _ => (s.onStop_frame _ _ rfl).trans (Sys.showStop_frame_send _ _ rfl)

theorem Sys.releaseHeld_frame : s.Frame (s.releaseHeld i) sendReg stopParts := by
  refine ((s.onStop_frame i _ rfl).trans (.each _ _ _ fun t r _ => ?_)).trans (Sys.showStop_frame_send _ _ rfl)
  refine .ite (fun _ => t.onStop_frame i _ rfl) fun _ => .ite (fun _ => .set_msgs t _ rfl) fun _ => t.depart_frame i r rfl rfl

theorem Sys.dropHeld_frame (k : Nat) : s.Frame (s.dropHeld k) grainReg [.stops, .qosHeld] :=
  .each s _ _ fun t i _ => (t.onStop_frame i _ rfl).trans (Sys.showStop_frame _ i rfl)

theorem Sys.refund_frame (w : Source) (k : Nat) : s.Frame (s.refund w k) (oneReg k [.SYS_QOS_LEDGER]) [.stops] :=
  .ite (fun _ => s.onStop_frame _ _ rfl) fun _ => .put s _ _ _ _ (by simp [oneReg])

end

end Sys2Proof.Machine
end

section
/-!
SUPPORT. The frames of the links' operations (ch. 12): what a link sends, logs and shows, and how its inbound requests go on.
-/
namespace Sys2Proof.Machine

/-- Any register. -/
abbrev anyReg (_ : RK) : Bool := true

theorem Sys.Frame.any {s t : Sys} {but : RK → Bool} {parts parts' : List Part} (h : s.Frame t but parts) (hp : parts ⊆ parts') : s.Frame t anyReg parts' :=
  h.mono (fun _ _ => rfl) hp

/-- What a link's requests may change as they go on. -/
abbrev pumpParts : List Part := [.stations, .icn, .stops, .msgs, .qosHeld, .links, .freeCount]

section
variable (s : Sys)

theorem Sys.onLink_frame (p j : Nat) (f : LinkSt → LinkSt) {but : RK → Bool} {parts : List Part} (h : parts.contains .links = true) :
    s.Frame (s.onLink p j f) but parts := .set_links s _ h

theorem Sys.tailWrite_frame (c v : Nat) {parts : List Part} : s.Frame (s.tailWrite c v) (oneReg c [.RTV_CH_CTL, .RTV_CH_STATUS, .RTV_CH_TAIL]) parts := by
  have own (r : Reg) (h : [Reg.RTV_CH_CTL, .RTV_CH_STATUS, .RTV_CH_TAIL].contains r = true) :
      oneReg c [.RTV_CH_CTL, .RTV_CH_STATUS, .RTV_CH_TAIL] ⟨r, c, 0⟩ = true := Bool.and_eq_true_iff.mpr ⟨h, beq_self_eq_true c⟩
  refine .ite (fun _ => .put s _ _ _ _ (own _ rfl)) fun _ => .ite (fun _ => .put s _ _ _ _ (own _ rfl)) fun _ => ?_
  exact (Sys.Frame.put s _ _ _ _ (own _ rfl)).trans (.ite (fun _ => .put _ _ _ _ _ (own _ rfl)) fun _ => .refl _)

/-- The registers of a link's log (R261, R472). -/
def logReg (p j : Nat) (k : RK) : Bool := k == ⟨.IOP_LINK_ERR, p, j⟩ || k == ⟨.IOP_LINK_ERRADDR, p, j⟩

theorem Sys.linkLog_frame (p j : Nat) (cause addr : Option Nat) (r : Nat) : s.Frame (s.linkLog p j cause addr r) (logReg p j) [.freeCount] := by
  have own (f : Fld) (h : f.reg = .IOP_LINK_ERR ∨ f.reg = .IOP_LINK_ERRADDR) : logReg p j ⟨f.reg, p, j⟩ = true := by
    obtain h | h := h <;> simp [logReg, h]
  refine (Sys.Frame.bump s F.IOP_LINK_ERR_COUNT _ _ (own _ (.inl rfl))).trans (.ite (fun _ => ?take) fun _ => .ite (fun _ => .put _ _ _ _ _ (own _ (.inl rfl)))
    fun _ => .refl _)
  have hlog (t : Sys) : t.Frame (((t.put F.IOP_LINK_ERR_VALID 1 p j).put F.IOP_LINK_ERR_UE (b2n (cause != some 8)) p j).put F.IOP_LINK_ERR_REQ_ID r p j)
      (logReg p j) [.freeCount] :=
    ((Sys.Frame.put _ _ _ _ _ (own _ (.inl rfl))).trans (.put _ _ _ _ _ (own _ (.inl rfl)))).trans (.put _ _ _ _ _ (own _ (.inl rfl)))
  cases cause <;> cases addr
  · exact (((hlog _).trans (.putFree _ _ _ _ (own _ (.inl rfl)) rfl)).trans (.put _ _ _ _ _ (own _ (.inr rfl)))).trans (.put _ _ _ _ _ (own _ (.inr rfl)))
  · exact (((hlog _).trans (.putFree _ _ _ _ (own _ (.inl rfl)) rfl)).trans (.put _ _ _ _ _ (own _ (.inr rfl)))).trans (.put _ _ _ _ _ (own _ (.inr rfl)))
  · exact (((hlog _).trans (.put _ _ _ _ _ (own _ (.inl rfl)))).trans (.put _ _ _ _ _ (own _ (.inr rfl)))).trans (.put _ _ _ _ _ (own _ (.inr rfl)))
  · exact (((hlog _).trans (.put _ _ _ _ _ (own _ (.inl rfl)))).trans (.put _ _ _ _ _ (own _ (.inr rfl)))).trans (.put _ _ _ _ _ (own _ (.inr rfl)))

/-- A link's status register. -/
def lkReg (p j : Nat) (k : RK) : Bool := k == ⟨.IOP_LINK_STATUS, p, j⟩

theorem Sys.lkTo_frame (p j st : Nat) {parts : List Part} : s.Frame (s.lkTo p j st) (lkReg p j) parts := .put s _ _ _ _ (by simp [lkReg])

theorem Sys.lkSend_frame (p j : Nat) (t : Tlp) {parts : List Part} (h : parts.contains .links = true) : s.Frame (s.lkSend p j t) (lkReg p j) parts :=
  (s.onLink_frame p j _ h).trans (.when _ _ _ fun _ => Sys.lkTo_frame _ p j _)

theorem Sys.showLink_frame (p j : Nat) {parts : List Part} : s.Frame (s.showLink p j) (lkReg p j) parts :=
  (Sys.Frame.put s _ _ _ _ (by simp [lkReg])).trans (.put _ _ _ _ _ (by simp [lkReg]))

theorem Sys.resetGo_frame (p j : Nat) {parts : List Part} (h : parts.contains .links = true) : s.Frame (s.resetGo p j) (lkReg p j) parts := by
  have own : lkReg p j ⟨.IOP_LINK_STATUS, p, j⟩ = true := by simp [lkReg]
  refine .ite (fun _ => .ite (fun _ => ?_) fun _ => ?_) fun _ => .refl s
  · exact ((s.onLink_frame p j _ h).trans (.put _ _ _ _ _ own)).trans (Sys.lkTo_frame _ p j _)
  · exact (s.onLink_frame p j _ h).trans (.put _ _ _ _ _ own)

theorem Sys.inSend_frame (p j : Nat) (r : InReq) : s.Frame (s.inSend p j r) sendReg stopParts := .each s _ _ fun t _ _ => t.send_frame _

theorem Sys.meshDeliver_frame (k : RK) (kn : Nat) (w : Bool) (f : Sys → Sys) {parts : List Part} (hf : ∀ t : Sys, t.Frame (f t) anyReg parts)
    (h : parts.contains .stations = true) : s.Frame (s.meshDeliver k kn w f) anyReg parts := by
  have hmark := s.meshApply_marked k (s.offsetOf k) kn w
  unfold Sys.meshDeliver
  generalize s.meshApply k (s.offsetOf k) kn w = r at hmark ⊢
  obtain ⟨b, t⟩ := r
  simp only at hmark
  have ht : s.Frame t anyReg parts := by
    refine ⟨fun k hk => absurd hk (by simp [anyReg]), fun q hq => ?_⟩
    have hq' : q ≠ .stations := by
      rintro rfl
      rw [h] at hq
      exact Bool.noConfusion hq
    rw [hmark.1]
    cases q <;> first | rfl | exact absurd rfl hq'
  cases b
  · exact ht
  · exact ht.trans (hf t)

end

/-! ## Inbound requests -/

section
variable (s : Sys)

theorem Sys.inStep_frame (p j id : Nat) : s.Frame (s.inStep p j id) anyReg pumpParts := by
  have hdel (t : Sys) (r : InReq) : t.Frame (t.inDel p j r) anyReg pumpParts := t.onLink_frame p j _ rfl
  have hto (t : Sys) (r : InReq) : t.Frame (t.inTo p j r) anyReg pumpParts := t.onLink_frame p j _ rfl
  have hsend (t : Sys) (r : InReq) : t.Frame (t.inSend p j r) anyReg pumpParts := (t.inSend_frame p j r).any (by decide)
  have hlog (t : Sys) (c a : Option Nat) (n : Nat) : t.Frame (t.linkLog p j c a n) anyReg pumpParts := (t.linkLog_frame p j c a n).any (by decide)
  have htx (t : Sys) (p j : Nat) (x : Tlp) : t.Frame (t.lkSend p j x) anyReg pumpParts :=
    (t.lkSend_frame p j x (parts := pumpParts) rfl).any (List.Subset.refl _)
  have hcharge (t u : Sys) (r : InReq) (h : t.peerCharge p j r = some u) : t.Frame u anyReg pumpParts := by
    unfold Sys.peerCharge at h
    simp only [Option.ite_none_left_eq_some, Option.some.injEq] at h
    rw [← h.2]
    exact t.onStop_frame _ _ rfl
  unfold Sys.inStep
  split
  · exact .refl s
  · next r _ =>
    split
    case h_1 d n _ => exact .ite (fun _ => (hdel s r).trans ((Sys.icnMessage_frame _ d n r.secure).any (by decide))) fun _ => .refl s
    case h_2 c _ =>
      refine .ite (fun _ => .refl s) fun _ => .ite (fun _ => ?_) fun _ => (hdel s r).trans (hlog _ _ _ _)
      exact (hdel s r).trans (Sys.meshDeliver_frame _ _ _ _ _ (fun t => (t.tailWrite_frame c r.data (parts := pumpParts)).any (List.Subset.refl _)) rfl)
    case h_3 =>
      have hsent : s.Frame (if (r.todo.isEmpty || !(!((s.link p j).inq.takeWhile fun q => q.id ≠ id).any (fun q => q.kind.posted) || r.ro)) = true then s
          else (s.inTo p j { r with todo := [], waits := r.waits ++ r.todo }).inSend p j r) anyReg pumpParts :=
        .ite (fun _ => .refl s) fun _ => (hto s _).trans (hsend _ r)
      have hend (t : Sys) : t.Frame (match (t.link p j).inq.find? (fun q => q.id = id) with
          | some r => if (r.todo.isEmpty && r.waits.isEmpty) = true then t.inDel p j r else t
          | none => t) anyReg pumpParts := by
        split
        · exact .ite (fun _ => hdel _ _) fun _ => .refl _
        · exact .refl _
      exact hsent.trans (hend _)
    case h_4 =>
      have hsent : s.Frame (if r.todo.isEmpty = true then s else (s.inTo p j { r with todo := [], waits := r.todo }).inSend p j r) anyReg pumpParts :=
        .ite (fun _ => .refl s) fun _ => (hto s _).trans (hsend _ r)
      have hend (t : Sys) (clear : Bool) : t.Frame (match (t.link p j).inq.find? (fun q => q.id = id) with
          | some r =>
            if (r.todo.isEmpty && r.waits.isEmpty && (clear || r.ro)) = true then (t.inDel p j r).lkSend p j (if r.err then .unsupported else .cpl r.n r.data r.poison) else t
          | none => t) anyReg pumpParts := by
        split
        · exact .ite (fun _ => (hdel _ _).trans (htx _ p j _)) fun _ => .refl _
        · exact .refl _
      exact hsent.trans (hend _ _)
    case h_5 q k _ =>
      refine .ite (fun _ => .refl s) fun _ => ?_
      split
      · next t ht => exact (hcharge s t r ht).trans (.ite (fun _ => (hdel t r).trans (htx _ q k _)) fun _ => (hdel t r).trans (hlog _ _ _ _))
      · exact .refl s
    case h_6 q k _ =>
      refine .ite (fun _ => ?_) fun _ => .ite (fun _ => (hdel s r).trans (htx _ p j _)) fun _ => .refl s
      split
      · next t ht =>
        refine (hcharge s t r ht).trans (.ite (fun _ => ?_) fun _ => ((hdel t r).trans (hlog _ _ _ _)).trans (htx _ p j _))
        exact ((hto t _).trans (Sys.onLink_frame _ q k _ rfl)).trans (htx _ q k _)
      · exact .refl s

theorem Sys.inPump_frame (p j : Nat) : s.Frame (s.inPump p j) anyReg pumpParts := by
  have hsteps : s.Frame (((s.link p j).inq.map (·.id)).foldl (fun s id => s.inStep p j id) s) anyReg pumpParts :=
    .each s _ _ fun t id _ => t.inStep_frame p j id
  exact (hsteps.trans ((Sys.showLink_frame _ p j (parts := pumpParts)).any (List.Subset.refl _))).trans
    ((Sys.resetGo_frame _ p j (parts := pumpParts) rfl).any (List.Subset.refl _))

theorem Sys.inPumpAll_frame : s.Frame s.inPumpAll anyReg pumpParts := .each s _ _ fun t k _ => t.inPump_frame k.1 k.2

end

end Sys2Proof.Machine
end

section
/-!
PROOFS. How rack time goes on, and what a span tick clears and counts (R41 to R46, R51).
-/
namespace Sys2Proof.Machine

/-! ## The end of the window -/

/-- With no commit window under way nothing of a reflow ends (R104). -/
theorem Sys.commitEnd_idle {s : Sys} (h : s.znx.commitWindow = false) : s.commitEnd = s := by
  unfold Sys.commitEnd
  rw [h]
  rfl

/-! ## A refresh beyond the window -/

section
variable (s : Sys)

/-- The first overrun of a span is counted and raises its source (R51). -/
theorem Sys.overrun_first (h : s.span.overrunSeen = false) : s.overrun true =
    ({ (s.put F.SPN_OVERRUN_REFRESH 1).bump F.SPN_OVERRUN_COUNT with span := { s.span with overrunSeen := true } } : Sys).raise (srcGlobal 0) := by
  unfold Sys.overrun
  simp only [if_true, Sys.put_span, h, Bool.false_eq_true, if_false]

theorem Sys.overrun_frame (b : Bool) : s.Frame (s.overrun b) (fun k => k.reg == .SPN_OVERRUN) [.span, .fcr] := by
  refine Sys.Frame.trans (t := s.put (if b then F.SPN_OVERRUN_REFRESH else F.SPN_OVERRUN_OTHER) 1) (.put s _ _ _ _ (by cases b <;> rfl)) ?_
  exact .ite (fun _ => .refl _) fun _ => ((Sys.Frame.bump _ _ _ _ rfl).trans (.set_span _ _ rfl)).trans (.raise _ _ _ rfl)

end

/-! ## The actions of the units at a tick -/

/-- What the units' actions at a tick may change: not the span, whose part of the tick comes before them, nor the number of ticks. -/
abbrev tickParts : List Part := [.regionNow, .icn, .chans, .stops, .msgs, .qosHeld, .brace, .pwr, .fcr, .stations, .links, .freeCount]

section
variable (s : Sys)

theorem Sys.Frame.put_any (s : Sys) (f : Fld) (v i j : Nat) {parts : List Part} : s.Frame (s.put f v i j) anyReg parts := .put s f v i j rfl

theorem Sys.onChan_frame (m : Nat) (f : Chan → Chan) {but : RK → Bool} {parts : List Part} (h : parts.contains .chans = true) :
    s.Frame (s.onChan m f) but parts := .set_chans s _ h

theorem Sys.onPwr_frame (f : PwrSt → PwrSt) {but : RK → Bool} {parts : List Part} (h : parts.contains .pwr = true) :
    s.Frame (s.onPwr f) but parts := .set_pwr s _ h

theorem Sys.regionTick_frame : s.Frame s.regionTick anyReg tickParts :=
  .each s _ _ fun t k _ => (Sys.Frame.put_any t _ _ k.i k.j).trans (.set_regionNow _ _ rfl)

theorem Sys.icnTick_frame : s.Frame s.icnTick anyReg tickParts := (Sys.Frame.set_icn s _ rfl).trans ((Sys.icnSyncAll_frame _).any (by decide))

theorem Sys.mcTick_frame (m : Nat) : s.Frame (s.mcTick m) anyReg tickParts := by
  have hchan (t : Sys) (f : Chan → Chan) : t.Frame (t.onChan m f) anyReg tickParts := t.onChan_frame m f rfl
  refine ((Sys.Frame.put_any s _ _ m 0).trans (hchan _ _)).trans (.ite (fun _ => ?_) fun _ => .refl _)
  refine Sys.Frame.trans ?_ (.when _ _ _ fun _ => Sys.Frame.put_any _ _ _ m 0)
  refine Sys.Frame.trans ?_ (.when _ _ _ fun _ => hchan _ _)
  refine Sys.Frame.trans ?_ (.when _ _ _ fun _ => hchan _ _)
  refine Sys.Frame.trans ?_ (Sys.Frame.put_any _ _ _ m 0)
  exact ((hchan _ _).trans (hchan _ _)).trans (.when _ _ _ fun _ => (hchan _ _).trans (.bump _ _ _ _ rfl))

theorem Sys.qosTick_frame : s.Frame s.qosTick anyReg tickParts := by
  refine Sys.Frame.trans ?_ (.each _ _ _ fun t i _ => (t.releaseHeld_frame i).any (by decide))
  refine Sys.Frame.trans ?_ (.each _ _ _ fun t i _ => .ite (fun _ => t.onStop_frame i _ rfl) fun _ => .refl t)
  refine Sys.Frame.trans ?_ ((Sys.Frame.put_any _ _ _ _ _).trans (.put_any _ _ _ _ _))
  refine Sys.Frame.trans ?_ (.each _ _ _ fun t k _ =>
    (((Sys.Frame.put_any t _ _ k 0).trans (.put_any _ _ _ k 0)).trans (.put_any _ _ _ k 0)).trans (.put_any _ _ _ k 0))
  refine Sys.Frame.trans ?_ (.set_qosHeld _ [] rfl)
  refine (Sys.Frame.put_any s F.SYS_QOS_STATUS_HELD_LAST _ 0 0).trans (.each _ _ _ fun t k _ => ?_)
  split
  · exact (Sys.Frame.put_any t _ _ k 0).trans (.bump _ _ _ _ rfl)
  · exact .put_any t _ _ k 0

theorem Sys.setQuotas_frame : s.Frame s.setQuotas anyReg tickParts :=
  .each s _ _ fun t k _ => .each t _ _ fun u n _ => .ite (fun _ => .refl u) fun _ => .put_any u _ _ n k

theorem Sys.braceTick_frame : s.Frame s.braceTick anyReg tickParts := by
  refine .each s _ _ fun t b _ => .ite (fun _ => ?_) fun _ => .refl t
  refine ((Sys.Frame.put_any t F.BRC_STATUS_IN_MAP 0 b 0).trans (.set_brace _ _ rfl)).trans (.each _ _ _ fun u m _ => ?_)
  split
  · exact .set_brace u _ rfl
  · exact .refl u

theorem Sys.reading_frame (i : Nat) (x : Int) : s.Frame (s.reading i x) anyReg tickParts := by
  refine Sys.Frame.trans ?_ (.ite (fun _ => Sys.onPwr_frame _ _ rfl) fun _ => .refl _)
  exact ((s.onPwr_frame _ rfl).trans (.when _ _ _ fun _ => .put_any _ _ _ i 0)).trans (.put_any _ _ _ 0 0)

theorem Sys.throttle_frame (n : Nat) : s.Frame (s.throttle n) anyReg tickParts := by
  unfold Sys.throttle
  split
  · exact .refl s
  · refine .ite (fun _ => s.onPwr_frame _ rfl) fun _ => ?_
    exact (s.onPwr_frame _ rfl).trans (.ite (fun _ => Sys.onPwr_frame _ _ rfl) fun _ => .refl _)

theorem Sys.pwrTick_frame (watts : Nat) (temps : List (Nat × Int)) : s.Frame (s.pwrTick watts temps) anyReg tickParts := by
  have hread : s.Frame (s.readings temps) anyReg tickParts := .each s _ _ fun t p _ => t.reading_frame p.1 p.2
  refine ((hread.trans (Sys.onPwr_frame _ _ rfl)).trans (.put_any _ F.PWR_STATUS_POWER_W _ 0 0)).trans
    (Sys.Frame.trans (.put_any _ F.PWR_STATUS_ACTIVE_PACKS _ 0 0) (.ite (fun _ => .refl _) fun _ => ?_))
  refine Sys.Frame.trans ?_ (.each _ _ _ fun t n _ => .ite (fun _ => .refl t) fun _ => .put_any t _ _ n 0)
  refine Sys.Frame.trans ?_ (.put_any _ _ _ 0 0)
  refine Sys.Frame.trans ?_ (Sys.onPwr_frame _ _ rfl)
  refine Sys.Frame.trans ?_ (.when _ _ _ fun _ => .raise _ _ _ rfl)
  refine Sys.Frame.trans ?_ (.each _ _ _ fun t n _ => t.throttle_frame n)
  exact .ite (fun _ => .put_any _ _ _ 0 0) fun _ => .ite (fun _ => .put_any _ _ _ 0 0) fun _ => .refl _

theorem Sys.rtvTick_frame : s.Frame s.rtvTick anyReg tickParts := by
  refine Sys.Frame.trans (.each s _ _ fun t e _ => ?_) (.each _ _ _ fun t c _ => ?_)
  · exact .ite (fun _ => .put_any t _ _ e 0) fun _ => .refl t
  · exact .ite (fun _ => .refl t) fun _ => .put_any t _ _ c 0

end

/-! ## The tick -/

/-- What the units do at a tick after the SPN block (R43). -/
def Sys.unitTicks (s : Sys) (watts : Nat) (temps : List (Nat × Int)) : Sys :=
  ((((s.regionTick.icnTick.each (below 16) Sys.mcTick).qosTick.setQuotas.braceTick).pwrTick watts temps).rtvTick).inPumpAll

theorem Sys.unitTicks_frame (s : Sys) (watts : Nat) (temps : List (Nat × Int)) : s.Frame (s.unitTicks watts temps) anyReg tickParts := by
  refine Sys.Frame.trans ?_ ((Sys.inPumpAll_frame _).any (by decide))
  refine Sys.Frame.trans ?_ (Sys.rtvTick_frame _)
  refine Sys.Frame.trans ?_ (Sys.pwrTick_frame _ watts temps)
  refine Sys.Frame.trans ?_ ((Sys.qosTick_frame _).trans ((Sys.setQuotas_frame _).trans (Sys.braceTick_frame _)))
  exact (s.regionTick_frame.trans (Sys.icnTick_frame _)).trans (.each _ _ _ fun t m _ => t.mcTick_frame m)

section
variable {s : Sys} (watts : Nat) (temps : List (Nat × Int))

/-- No reflow commits unless one is planned (R104, R105). -/
theorem Sys.commit_idle (h : s.reflowState ≠ rfCommit) (fails : List Nat) : s.commit fails = s := by
  unfold Sys.commit
  split
  · simp only [ne_eq, h, not_false_eq_true, decide_true, Bool.true_or, if_true]
  · rfl

/-- With no reflow to commit, a span tick is the SPN block's part and then the units' (R41, R43). -/
theorem Sys.spanTick_plain (hw : s.znx.commitWindow = false) (hr : s.reflowState ≠ rfCommit) :
    s.spanTick watts temps = ((({ s with ticks := s.ticks + 1 } : Sys).spnTick).unitTicks watts temps).marksTick := by
  have hznx (t : Sys) : t.spnTick.znx = t.znx := by
    unfold Sys.spnTick
    simp only [Sys.span_when, Sys.put_span, ite_self]
    cases t.span.holdNext <;> simp only [Sys.znx_when, Sys.put_znx, Sys.bump, ite_self]
  have hspan : ({ s with ticks := s.ticks + 1 } : Sys).spnTick.commitSpan = ({ s with ticks := s.ticks + 1 } : Sys).spnTick := by
    unfold Sys.commitSpan
    rw [hznx, hw]
  unfold Sys.spanTick
  simp only [Sys.commitEnd_idle hw, Sys.commit_idle hr, hspan]
  rfl

end

/-- The SPN block's part of a tick with neither an adjustment nor a load pending: rack time goes on to the end of the span (R41, R43). -/
theorem Sys.spnTick_span (s : Sys) (ha : s.span.adjust = none) (hl : s.span.load = none) :
    s.spnTick.span.rackTime = (s.span.rackTime + (s.spanS - s.phase)) % 2 ^ 64 ∧ s.spnTick.span.k = s.rf F.SPN_CFG_K ∧
    s.spnTick.span.window = s.rf F.SPN_CFG_WINDOW ∧ s.spnTick.ticks = s.ticks := by
  have hcfg (f : Fld) (hf : f.reg = .SPN_CFG) (b : Bool) : (s.when b (fun t => t.put F.SPN_CTL_RECAL 0)).rf f = s.rf f := by
    rw [Sys.rf_when, Sys.rf_put_reg _ _ _ _ _ _ _ _ (by rw [hf]; decide), ite_self]
  have hhold (f : Fld) (hf : f.reg = .SPN_CFG) (t : Sys) (v : Nat) : (t.put F.SPN_STATUS_HOLD v).rf f = t.rf f :=
    Sys.rf_put_reg _ _ _ _ _ _ _ _ (by rw [hf]; decide)
  unfold Sys.spnTick
  simp only [ha, hl, Sys.span_when, Sys.ticks_when, Sys.bump, Sys.put_span, Sys.put_ticks, ite_self, apply_ite SpanSt.rackTime, apply_ite SpanSt.k,
    apply_ite SpanSt.window]
  cases s.span.holdNext <;>
    simp only [Sys.ticks_when, Sys.put_ticks, ite_self, hhold F.SPN_CFG_K rfl, hhold F.SPN_CFG_WINDOW rfl, hcfg F.SPN_CFG_K rfl, hcfg F.SPN_CFG_WINDOW rfl,
      and_true]

theorem Sys.marksTick_ticks (s : Sys) : s.marksTick.ticks = s.ticks := rfl
theorem Sys.marksTick_span (s : Sys) : s.marksTick.span = s.span := rfl

theorem State.keepsMem_withSys (s : State) (y : Sys) : s.KeepsMem (s.withSys y) := ⟨rfl, rfl⟩

/-- Settles O16: time goes on by what the instant leaves of the window or the span; the units' actions at a tick leave the span alone. -/
theorem spanTimes : Obligations.SpanTimes := by
  refine ⟨?windowEnd, ?overrun, ?tick⟩
  case windowEnd =>
    intro s hl hin hw
    have he : s.sys.windowEnd.commitEnd = s.sys.passCounts (s.sys.windowLen - s.sys.phase) := by
      unfold Sys.windowEnd
      rw [if_pos hin]
      exact Sys.commitEnd_idle hw
    refine completes_onSys _ _ s _ hl rfl ?_
    rw [he]
    exact ⟨rfl, State.only_withSys (.passCounts _ _ rfl)⟩
  case overrun =>
    intro s m i hl hm h1 hi hseen
    have he : s.sys.overRefresh m i = (((s.sys.toPhase (s.sys.windowLen + i * (s.sys.spanS - s.sys.windowLen) / ((s.sys.chan m).remain + 1))).overrun
        true).onChan m (fun c => { c with rowsOpen := [] })) := by
      unfold Sys.overRefresh
      simp only [hm, h1, hi, decide_true, Bool.and_self, if_true]
    refine completes_onSys _ _ s _ hl rfl ?_
    rw [he]
    generalize hn : s.sys.windowLen + i * (s.sys.spanS - s.sys.windowLen) / ((s.sys.chan m).remain + 1) = n
    have hframe := (Sys.Frame.passCounts s.sys (n - s.sys.phase) (but := fun k => k.reg == .SPN_OVERRUN) (parts := [.span, .fcr, .chans]) rfl).trans
      ((Sys.overrun_frame (s.sys.toPhase n) true).parts_mono (by decide))
    rw [(s.sys.toPhase n).overrun_first hseen] at hframe ⊢
    refine ⟨?_, ?_, rfl, rfl, rfl, State.only_withSys (hframe.trans (Sys.onChan_frame _ m _ rfl))⟩
    · exact (Sys.rf_put_bits _ F.SPN_OVERRUN_COUNT F.SPN_OVERRUN_REFRESH _ _ _ _ _ (by decide)).trans (Sys.rf_put_self _ _ _ _ _ (by decide))
    · have hcount := Sys.rf_bump ((s.sys.toPhase n).put F.SPN_OVERRUN_REFRESH 1) F.SPN_OVERRUN_COUNT 0 0 (by decide)
      rw [Sys.rf_put_bits _ _ _ _ _ _ _ _ (by decide)] at hcount
      exact hcount
  case tick =>
    intro s power temps hl hw hr ha hload
    refine completes_onSys _ _ s _ hl rfl ?_
    rw [Sys.spanTick_plain _ _ hw hr]
    generalize hstart : ({ s.sys with ticks := s.sys.ticks + 1 } : Sys) = u
    have hspan : u.span = s.sys.span := by rw [← hstart]
    have hrf (f : Fld) : u.rf f = s.sys.rf f := by rw [← hstart]; rfl
    have hticks : u.ticks = s.sys.ticks + 1 := by rw [← hstart]
    have hS : u.spanS = s.sys.spanS := by unfold Sys.spanS; rw [hspan]
    have hphase : u.phase = s.sys.phase := by unfold Sys.phase; rw [hspan, hS]
    have htick := u.spnTick_span (by rw [hspan]; exact ha) (by rw [hspan]; exact hload)
    rw [hspan, hS, hphase, hticks, hrf, hrf] at htick
    obtain ⟨hrack, hk, hwin, hticks⟩ := htick
    generalize u.spnTick = t at hrack hk hwin hticks ⊢
    have hu := t.unitTicks_frame power.toNat (temps.map (fun (p : Fin 68 × Int) => (p.1.val, p.2)))
    generalize t.unitTicks power.toNat (temps.map (fun (p : Fin 68 × Int) => (p.1.val, p.2))) = x at hu ⊢
    have hspan : x.span = t.span := hu.2 .span rfl
    have htick : x.ticks = t.ticks := hu.2 .ticks rfl
    rw [State.withSys_sys, Sys.marksTick_ticks, Sys.marksTick_span, hspan, htick]
    exact ⟨hticks, hrack, hk, hwin, rfl, rfl, s.keepsMem_withSys _⟩

end Sys2Proof.Machine
end

section
/-!
PROOFS. The ZNX block's owner (R75, R97, R109) and its image (R74 to R76, R96 to R98).
-/
namespace Sys2Proof.Machine

/-! ## A command written to ZNX_CMD -/

/-- The register that shows the block's status, with the access's own. -/
abbrev znxStatus (k : RK) : Bool := k.reg == .ZNX_STATUS || k.reg == .SYS_CS_STATUS

section
variable {s : State} {core : Fin 4} {c : Instr} {v : Word} {p : State → Prop}

/-- A command of the ZNX block that takes effect is its operation, on a state that only the access has touched. -/
theorem State.Takes.znxCmd (ht : s.Takes c) (ha : Instr.access c = some ⟨.tether core, ⟨.ZNX_CMD, 0, 0⟩, some v, none⟩)
    (hc : exec c s = onM (fun x => x.rowWrite (.tether core) ⟨.ZNX_CMD, 0, 0⟩ v) s)
    (hp : ∀ t, s.sys.Touched t → p (s.after (((⟨s.mem, t, []⟩ : M).znxOp core (fget v 0 8)).on (fun y => y.answer (.done 0))))) : Completes c s p := by
  obtain ⟨t, htouch, he⟩ := ht.rowWrite ha hc fun _ => rfl
  exact ⟨_, he, hp t htouch⟩

/-- One that is a function of the block's state. -/
theorem State.Takes.znxCmdOn (f : Sys → Sys) (ht : s.Takes c) (ha : Instr.access c = some ⟨.tether core, ⟨.ZNX_CMD, 0, 0⟩, some v, none⟩)
    (hc : exec c s = onM (fun x => x.rowWrite (.tether core) ⟨.ZNX_CMD, 0, 0⟩ v) s)
    (hf : ∀ t, s.sys.Touched t → (⟨s.mem, t, []⟩ : M).znxOp core (fget v 0 8) = (⟨s.mem, t, []⟩ : M).on f)
    (hp : ∀ t, s.sys.Touched t → p (s.withSys ((f t).answer (.done 0)))) : Completes c s p := by
  refine ht.znxCmd ha hc fun t h => ?_
  rw [hf t h]
  exact hp t h

end

section
variable (x : M) {core op : Nat}

/-- The writer of ZNX_CMD owns the block. -/
abbrev Sys.OwnedBy (s : Sys) (core : Nat) : Prop := s.rf F.ZNX_OWNER_HELD = 1 ∧ s.rf F.ZNX_OWNER_HART = 0x1000 + core

theorem M.znxOp_claim : x.znxOp core 1 = x.on (fun s => s.znxClaim core) := rfl

/-- What the owner's operation does on a block that is neither busy nor failed (R76, R97, R101). -/
def M.znxDo (x : M) (op : Nat) : M :=
  match op with
  | 2 => x.on Sys.znxRelease
  | 0x10 => x.znxVerify
  | 0x11 => x.on Sys.znxApply
  | 0x12 => x.on Sys.znxSeal
  | 0x21 => x.on (fun s => s.znxArm (fun _ => s.concerned))
  | 0x22 => x.on Sys.znxCancel
  | _ => x.on Sys.znxCmdErr

/-- An operation by a core that is not the owner (R75). -/
theorem M.znxOp_stranger (hop : op ≠ 1) (h : x.sys.rf F.ZNX_OWNER_HELD = 0 ∨ x.sys.rf F.ZNX_OWNER_HART ≠ 0x1000 + core) :
    x.znxOp core op = x.on (fun s => s.put F.ZNX_STATUS_OWNER_ERR 1) := by
  have hno : (!x.sys.on F.ZNX_OWNER_HELD || decide (x.sys.rf F.ZNX_OWNER_HART ≠ 0x1000 + core)) = true := by
    obtain h | h := h <;> simp [Sys.on, h]
  unfold M.znxOp
  simp only [hop, if_false, hno, if_true]

/-- An operation by the owner, with the block neither busy nor failed (R75, R97). -/
theorem M.znxOp_owner (hop : op ≠ 1) (ho : x.sys.OwnedBy core) (hb : x.sys.rf F.ZNX_STATUS_BUSY = 0) (hf : x.sys.imageState ≠ imgFailed ∨ op = 2) :
    x.znxOp core op = x.znxDo op := by
  have howner : (!x.sys.on F.ZNX_OWNER_HELD || decide (x.sys.rf F.ZNX_OWNER_HART ≠ 0x1000 + core)) = false := by simp [Sys.on, ho.1, ho.2]
  have hbusy : (x.sys.on F.ZNX_STATUS_BUSY || (decide (x.sys.imageState = imgFailed) && decide (op ≠ 2))) = false := by
    obtain hf | hf := hf <;> simp [Sys.on, hb, hf]
  unfold M.znxOp
  simp only [hop, if_false, howner, hbusy, Bool.false_eq_true]
  rfl

/-- A code that is no operation, by the owner (R109). -/
theorem M.znxOp_unknown (hop : [1, 2, 0x10, 0x11, 0x12, 0x21, 0x22].contains op = false) (ho : x.sys.OwnedBy core) :
    x.znxOp core op = x.on Sys.znxCmdErr := by
  have howner : (!x.sys.on F.ZNX_OWNER_HELD || decide (x.sys.rf F.ZNX_OWNER_HART ≠ 0x1000 + core)) = false := by simp [Sys.on, ho.1, ho.2]
  have hdo : x.znxDo op = x.on Sys.znxCmdErr := by
    unfold M.znxDo
    split <;> first | exact absurd hop (by decide) | rfl
  have hne : op ≠ 1 := by
    rintro rfl
    exact absurd hop (by decide)
  rw [← hdo]
  unfold M.znxOp
  simp only [hne, if_false, howner, Bool.false_eq_true]
  split
  · exact hdo.symm
  · rfl

/-- An operation but RELEASE on a block that is busy or failed, by the owner (R97). -/
theorem M.znxOp_failed (hop : op ≠ 1) (ho : x.sys.OwnedBy core) (hf : x.sys.imageState = imgFailed) (h2 : op ≠ 2) :
    x.znxOp core op = x.on Sys.znxCmdErr := by
  have howner : (!x.sys.on F.ZNX_OWNER_HELD || decide (x.sys.rf F.ZNX_OWNER_HART ≠ 0x1000 + core)) = false := by simp [Sys.on, ho.1, ho.2]
  unfold M.znxOp
  simp only [hop, if_false, howner, Bool.false_eq_true, hf, h2, ne_eq, not_false_eq_true, decide_true, Bool.and_self, Bool.or_true, if_true]

end

section
variable {s t : Sys} (h : s.Touched t)
include h

theorem Sys.Touched.ownedBy {core : Nat} (ho : s.OwnedBy core) : t.OwnedBy core :=
  ⟨(h.rf _ 0 0 (by decide)).trans ho.1, (h.rf _ 0 0 (by decide)).trans ho.2⟩

theorem Sys.Touched.imageState : t.imageState = s.imageState := h.rf _ 0 0 (by decide)
theorem Sys.Touched.reflowState : t.reflowState = s.reflowState := h.rf _ 0 0 (by decide)

/-- A write that only sets a bit of ZNX_STATUS. -/
theorem Sys.Touched.frame_status (f : Fld) (hf : f.reg = .ZNX_STATUS) (v : Nat) : s.Frame ((t.put f v).answer (.done 0)) znxStatus accessParts :=
  h.frame_write (.put t f v 0 0 (by simp [hf])) (fun k hk => by simp_all) (List.Subset.refl _)

end

/-- A command that is refused with CMD_ERR alone. -/
theorem State.Takes.znxRefused {s : State} {core : Fin 4} {c : Instr} {v : Word} (ht : s.Takes c)
    (ha : Instr.access c = some ⟨.tether core, ⟨.ZNX_CMD, 0, 0⟩, some v, none⟩)
    (hc : exec c s = onM (fun x => x.rowWrite (.tether core) ⟨.ZNX_CMD, 0, 0⟩ v) s)
    (hf : ∀ t, s.sys.Touched t → (⟨s.mem, t, []⟩ : M).znxOp core (fget v 0 8) = (⟨s.mem, t, []⟩ : M).on Sys.znxCmdErr) :
    Completes c s (fun t => t.sys.rf F.ZNX_STATUS_CMD_ERR = 1 ∧ s.Only t znxStatus accessParts) :=
  ht.znxCmdOn Sys.znxCmdErr ha hc hf fun t h => ⟨Sys.rf_put_self t _ _ _ _ (by decide), State.only_withSys (h.frame_status _ rfl 1)⟩

/-- Settles O17: the owner's check comes before every other. -/
theorem znxOwner : Obligations.ZnxOwner := by
  refine ⟨?claim, ?release, ?stranger, ?unknown⟩
  case claim =>
    intro s core ht
    refine ht.znxCmdOn (fun t => t.znxClaim core) rfl rfl (fun _ _ => rfl) fun t h => ?_
    have hheld : t.rf F.ZNX_OWNER_HELD = s.sys.rf F.ZNX_OWNER_HELD := h.rf _ 0 0 (by decide)
    refine ⟨fun h0 hf => ?free, fun h1 => ?held, fun h0 hf => ?failed⟩
    case free =>
      have he : t.znxClaim core = (t.put F.ZNX_OWNER_HELD 1).put F.ZNX_OWNER_HART (0x1000 + core) := by
        simp [Sys.znxClaim, Sys.on, hheld, h0, h.imageState, hf]
      rw [he]
      have hcore : (4096 + core.val) % 65536 = 4096 + core.val := by omega
      refine ⟨?_, ?_, State.only_withSys (h.frame_write ((Sys.Frame.put t _ _ _ _ rfl).trans (.put _ _ _ _ _ rfl)) (fun k hk => by simp_all)
        (List.Subset.refl _))⟩
      · simp (disch := decide) [Sys.rf_put_bits, Sys.rf_put_self]
      · simpa (disch := decide) [Sys.rf_put_self] using hcore
    case held =>
      have he : t.znxClaim core = t.put F.ZNX_STATUS_OWNER_ERR 1 := by simp [Sys.znxClaim, Sys.on, hheld, h1]
      rw [he]
      exact ⟨Sys.rf_put_self t _ _ _ _ (by decide), State.only_withSys (h.frame_status _ rfl 1)⟩
    case failed =>
      have he : t.znxClaim core = t.put F.ZNX_STATUS_CMD_ERR 1 := by simp [Sys.znxClaim, Sys.on, hheld, h0, h.imageState, hf, Sys.znxCmdErr]
      rw [he]
      exact ⟨Sys.rf_put_self t _ _ _ _ (by decide), State.only_withSys (h.frame_status _ rfl 1)⟩
  case release =>
    intro s core ht hheld hhart hbusy
    refine ht.znxCmdOn Sys.znxRelease rfl rfl (fun t h => ?_) fun t h => ?_
    · exact M.znxOp_owner _ (by decide) (h.ownedBy ⟨hheld, hhart⟩) ((h.rf _ 0 0 (by decide)).trans hbusy) (.inr rfl)
    · refine ⟨?_, Sys.rf_put_self _ _ _ _ _ (by decide),
        State.only_withSys (h.frame_write ((Sys.Frame.put t _ _ _ _ rfl).trans (.put _ _ _ _ _ rfl)) (fun k hk => by simp_all) (List.Subset.refl _))⟩
      exact (Sys.rf_put_bits _ _ _ _ _ _ _ _ (by decide)).trans (Sys.rf_put_self _ _ _ _ _ (by decide))
  case stranger =>
    intro s core c ht hmem hno
    have key {v : Word} (hv : fget v 0 8 ≠ 1) (ha : Instr.access c = some ⟨.tether core, ⟨.ZNX_CMD, 0, 0⟩, some v, none⟩)
        (hc : exec c s = onM (fun x => x.rowWrite (.tether core) ⟨.ZNX_CMD, 0, 0⟩ v) s) : Completes c s (fun t => t.sys.rf F.ZNX_STATUS_OWNER_ERR = 1 ∧
        s.Only t (fun k => k.reg == .ZNX_STATUS || k.reg == .SYS_CS_STATUS) accessParts) := by
      refine ht.znxCmdOn (fun t => t.put F.ZNX_STATUS_OWNER_ERR 1) ha hc (fun t h => M.znxOp_stranger _ hv ?_) fun t h =>
        ⟨Sys.rf_put_self t _ _ _ _ (by decide), State.only_withSys (h.frame_status _ rfl 1)⟩
      exact hno.imp (h.rf F.ZNX_OWNER_HELD 0 0 (by decide)).trans fun hne e => hne ((h.rf F.ZNX_OWNER_HART 0 0 (by decide)).symm.trans e)
    simp only [List.mem_cons, List.not_mem_nil, or_false] at hmem
    obtain rfl | rfl | rfl | rfl | rfl | rfl := hmem
    · exact key (v := 0x2) (by decide) rfl rfl
    · exact key (v := 0x10) (by decide) rfl rfl
    · exact key (v := 0x11) (by decide) rfl rfl
    · exact key (v := 0x12) (by decide) rfl rfl
    · exact key (v := 0x21) (by decide) rfl rfl
    · exact key (v := 0x22) (by decide) rfl rfl
  case unknown =>
    intro s core op ht hheld hhart
    refine ht.znxRefused rfl rfl fun t h => M.znxOp_unknown _ ?_ (h.ownedBy ⟨hheld, hhart⟩)
    cases hop : [1, 2, 0x10, 0x11, 0x12, 0x21, 0x22].contains op.toNat with
    | true => rfl
    | false =>
      have hlow : fget (op.setWidth 64) 0 8 = op.toNat := by
        rw [fget_eq_div]
        simp only [BitVec.toNat_setWidth]
        omega
      rw [if_neg (by simp), hlow]
      exact hop

end Sys2Proof.Machine
end

section
/-!
PROOFS. Two statements about the ZNX block that do not hold: the image's dump base (R94) and what a reflow's commit leaves unchanged (R105).
-/
namespace Sys2Proof.Machine

/-! ## The dump base of an applied image -/

/-- The records of no section, but for a dump base one above what OWN_DUMP can show: 2^26 windows of 2^26 bytes. -/
def wideDump : Held := ⟨[], { Conf.empty with dumpBase := 2 ^ 52 }, 0⟩

/-- Service core 1 owns the block and has verified that image. -/
def wideDumpVerified : State :=
  { State.reset with sys :=
    { ((State.reset.sys.put F.ZNX_STATUS_IMAGE_STATE imgVerified).put F.ZNX_OWNER_HELD 1).put F.ZNX_OWNER_HART 0x1001 with
      znx := { State.reset.sys.znx with full := some wideDump } } }

/-- Refutes O18: OWN_DUMP.BASE has 26 bits (38 are claimed), so it cannot show the base of an image at 2^52 bytes. -/
theorem not_znxImage : ¬ Obligations.ZnxImage := by
  intro h
  obtain ⟨-, -, happly, -⟩ := h
  obtain ⟨t, -, hfit, -⟩ := happly wideDumpVerified 1 wideDump (by decide) (by decide) (by decide) (by decide) (by decide) (by decide)
  obtain ⟨-, -, -, -, hbase, -⟩ := hfit (by decide)
  have hlt : t.sys.rf F.OWN_DUMP_BASE < 2 ^ 26 := Sys.rf_lt ..
  rw [hbase] at hlt
  exact absurd hlt (by decide)

/-! ## The request lines at a reflow's commit -/

/-- A reflow at its commit, with a staged image of no section, while the request line of context 0 of domain 15 still shows a source that is
no longer there. -/
def staleLine : State :=
  { State.reset with sys :=
    { ((State.reset.sys.put F.ZNX_STATUS_REFLOW_STATE rfCommit).put F.ZNX_REFLOW_TARGET_TARGET 1).wr ⟨.ICN_DRM_THRESH, 15, 0⟩ (1 <<< 63) with
      znx := { State.reset.sys.znx with staged := some ⟨[], Conf.empty, 0⟩ } } }

/-- The register of that line. -/
def staleKey : RK := ⟨.ICN_DRM_THRESH, 15, 0⟩

/-- The registers of the block that a commit writes. -/
abbrev commitReg (k : RK) : Bool := [Reg.ZNX_STATUS, .ZNX_DIGEST, .ZNX_REFLOW_COUNT, .ZNX_REFLOW_RESULT].contains k.reg

/-- A commit does no more, once the stations have loaded, than show its result. -/
theorem Sys.commit_frame {s : Sys} {h : Held} (fails : List Nat) (hs : s.znx.staged = some h) (hst : s.reflowState = rfCommit)
    (hat : s.spanNo + 1 = s.rf F.ZNX_REFLOW_TARGET_TARGET) :
    (s.commitLoad s.stagedRecs s.stagedConf).Frame (s.commit fails) commitReg [.znx, .shadow, .fcr] := by
  unfold Sys.commit
  simp only [hs, hst, hat, ne_eq, not_true_eq_false, decide_false, Bool.or_self, Bool.false_eq_true, if_false]
  have hend (y : Sys) (c : Option Conf) (z : ZnxSt) : y.Frame { y with shadow := c, znx := z } commitReg [.znx, .shadow, .fcr] :=
    (Sys.Frame.set_shadow y c rfl).trans (.set_znx _ z rfl)
  refine Sys.Frame.trans ?_ (hend _ _ _)
  refine Sys.Frame.trans ?_ (.when _ _ _ fun _ => .raise _ _ _ rfl)
  refine Sys.Frame.trans ?_ (.put _ _ _ _ _ rfl)
  refine Sys.Frame.trans ?_ ((((Sys.Frame.put _ _ _ _ _ rfl).trans (.put _ _ _ _ _ rfl)).trans (.put _ _ _ _ _ rfl)).trans (.put _ _ _ _ _ rfl))
  exact (Sys.Frame.each _ _ _ fun _ _ _ => .put _ _ _ _ _ rfl).trans (.put _ _ _ _ _ rfl)

/-- Steps that change nothing. -/
theorem Sys.each_fixed {α : Type} {s : Sys} {l : List α} {f : Sys → α → Sys} (h : ∀ a ∈ l, f s a = s) : s.each l f = s := by
  unfold Sys.each
  induction l with
  | nil => rfl
  | cons a l ih => rw [List.foldl_cons, h a List.mem_cons_self, ih fun b hb => h b (List.mem_cons_of_mem a hb)]

theorem Sys.each_snoc {α : Type} (s : Sys) (l : List α) (a : α) (f : Sys → α → Sys) : s.each (l ++ [a]) f = f (s.each l f) a := by
  unfold Sys.each
  rw [List.foldl_append]
  rfl

/-- The quotas follow the configuration already. -/
theorem Sys.setQuotas_fixed {s : Sys} (hl : ∀ k ∈ below 16, s.conf.liveMask k = []) (hq : ∀ k ∈ below 16, ∀ n ∈ below 64, s.rf F.TILE_SLICE_OCC_QUOTA n k = 0) :
    s.setQuotas = s :=
  Sys.each_fixed fun k hk => Sys.each_fixed fun n hn => by simp [hl k hk, hq k hk n hn]

/-- What the stations hold when a staged image of no section is loaded. -/
def staleLoaded : Sys := { staleLine.sys with conf := staleLine.sys.stagedConf, znx := { staleLine.sys.znx with ready := [] } }

/-- No context of another domain has a line to follow. -/
theorem staleLoaded_icnSync {d : Nat} (hd : d ∈ below 15) : staleLoaded.icnSync d = staleLoaded := by
  have hlines : ∀ d ∈ below 15, (staleLoaded.srcIds d).flatMap (staleLoaded.srcCtxs d) ++
      staleLoaded.regs.filterMap (fun p =>
        if fget p.2 63 1 = 1 ∧ ((p.1.reg = .ICN_DRM_THRESH ∧ d = 15 ∧ p.1.i = 15) ∨
            ((p.1.reg = .ICN_CTX_THRESH ∨ p.1.reg = .ICN_MCTX_THRESH) ∧ staleLoaded.hartKennel p.1.i = d))
        then some p.1 else none) = [] := by decide
  unfold Sys.icnSync
  split
  · rfl
  · exact (congrArg (fun ks : List RK => ks.eraseDups.foldl (fun t k => t.syncLine d k) staleLoaded) (hlines d hd))

/-- The line of domain 15 is followed last. -/
theorem staleLoaded_icnSyncAll : staleLoaded.icnSyncAll = staleLoaded.icnSync 15 := by
  have hrest : staleLoaded.each (below 15) Sys.icnSync = staleLoaded := Sys.each_fixed fun _ hd => staleLoaded_icnSync hd
  have hsplit : below 16 = below 15 ++ [15] := by decide
  unfold Sys.icnSyncAll
  rw [hsplit, Sys.each_snoc, hrest]

theorem staleLine_commitLoad : staleLine.sys.commitLoad staleLine.sys.stagedRecs staleLine.sys.stagedConf = staleLoaded.icnSyncAll := by
  have hrecs : staleLine.sys.stagedRecs = Conf.empty := by decide
  have hmoved : (below 64).filter staleLine.sys.tileMoves = [] := by
    simp [Sys.tileMoves, hrecs, Conf.empty]
  have hfixed : staleLoaded.setQuotas = staleLoaded := Sys.setQuotas_fixed (by decide) (by decide)
  unfold Sys.commitLoad
  simp only [hmoved, hrecs]
  exact congrArg Sys.icnSyncAll hfixed

/-- Refutes O20: the commit of an image with no section loads nothing, but the lines of every context follow their sources. -/
theorem not_reflowCommit : ¬ Obligations.ReflowCommit := by
  intro h
  obtain ⟨-, hquiet, -⟩ := h
  have hat : staleLine.sys.spanNo + 1 = staleLine.sys.rf F.ZNX_REFLOW_TARGET_TARGET := by decide
  have hst : staleLine.sys.reflowState = rfCommit := by decide
  obtain ⟨t, ht, -, hregs, -⟩ := hquiet staleLine ⟨[], Conf.empty, 0⟩ (by decide) rfl hst hat (by decide) (by decide) (by decide)
    (by decide) (by decide) (by decide)
  have hlive : staleLine.Live := by decide
  have hexec : exec (.reflowCommit []) staleLine = onSys (fun s => s.commit []) staleLine := rfl
  rw [hexec, onSys_live _ _ hlive] at ht
  obtain rfl := Host.Outcome.next.inj ht
  have hkept : (staleLine.sys.commit []).rd staleKey = 1 <<< 63 := hregs staleKey (by decide)
  rw [(Sys.commit_frame [] rfl hst hat).1 staleKey rfl] at hkept
  have hdrop : fget ((staleLoaded.icnSync 15).rd staleKey) 63 1 = 0 := by decide
  rw [← staleLoaded_icnSyncAll, ← staleLine_commitLoad, hkept] at hdrop
  exact absurd hdrop (by decide)

end Sys2Proof.Machine
end

section
/-!
PROOFS. A reflow up to its decision (R100 to R103, R107).
-/
namespace Sys2Proof.Machine

/-- The registers that an abort writes. -/
abbrev abortReg (k : RK) : Bool := k.reg == .ZNX_STATUS || k.reg == .ZNX_REFLOW_RESULT

/-! ## The abort -/

section
variable (s : Sys) (cause station : Nat)

theorem Sys.reflowAbort_frame : s.Frame (s.reflowAbort cause station) abortReg [.znx, .shadow, .fcr] := by
  have hput (t : Sys) (f : Fld) (v : Nat) (hf : abortReg ⟨f.reg, 0, 0⟩ = true) : t.Frame (t.put f v) abortReg [.znx, .shadow, .fcr] := .put t f v 0 0 hf
  have hend (t : Sys) (c : Option Conf) (z : ZnxSt) : t.Frame { t with shadow := c, znx := z } abortReg [.znx, .shadow, .fcr] :=
    (Sys.Frame.set_shadow t c rfl).trans (.set_znx _ z rfl)
  unfold Sys.reflowAbort
  refine Sys.Frame.trans ?_ (.raise _ _ _ rfl)
  refine Sys.Frame.trans ?_ (hend _ _ _)
  exact (hput s _ _ rfl).trans ((((hput _ _ _ rfl).trans (hput _ _ _ rfl)).trans (hput _ _ _ rfl)).trans (hput _ _ _ rfl))

theorem Sys.reflowAbort_reflowState : (s.reflowAbort cause station).reflowState = rfIdle := by
  simp (disch := decide) [Sys.reflowAbort, Sys.reflowState, Sys.raise, Sys.reflowResult, Sys.reflowTo, Sys.rf_put_reg, Sys.rf_put_self]

theorem Sys.reflowAbort_outcome : (s.reflowAbort cause station).rf F.ZNX_REFLOW_RESULT_OUTCOME = 2 := by
  simp (disch := decide) [Sys.reflowAbort, Sys.raise, Sys.reflowResult, Sys.rf_put_bits, Sys.rf_put_self]

theorem Sys.reflowAbort_cause : (s.reflowAbort cause station).rf F.ZNX_REFLOW_RESULT_CAUSE = cause % 2 ^ F.ZNX_REFLOW_RESULT_CAUSE.wd := by
  simp (disch := decide) [Sys.reflowAbort, Sys.raise, Sys.reflowResult, Sys.rf_put_bits, Sys.rf_put_self]

theorem Sys.reflowAbort_station : (s.reflowAbort cause station).rf F.ZNX_REFLOW_RESULT_STATION = station % 2 ^ F.ZNX_REFLOW_RESULT_STATION.wd := by
  simp (disch := decide) [Sys.reflowAbort, Sys.raise, Sys.reflowResult, Sys.rf_put_bits, Sys.rf_put_self]

theorem Sys.reflowAbort_staged : (s.reflowAbort cause station).znx.staged = none := rfl
theorem Sys.reflowAbort_shadow : (s.reflowAbort cause station).shadow = none := rfl
theorem Sys.reflowAbort_events : (s.reflowAbort cause station).fcr.events = s.fcr.events ++ [⟨srcGlobal 3, 0⟩] := rfl

end

/-! ## The end of VERIFY in SEALED -/

/-- The state after the verification of an image to be staged: code, section and record of the verdict, and the image if it passed. -/
def Sys.stagedBy (s : Sys) (st code sect recd : Nat) (h : Option Held) : Sys :=
  let t := (s.znxBusy false).reflowTo st
  { t.znxErr code sect recd with znx := { s.znx with op := 0, copy := [], staged := h } }

theorem Sys.znxVerifyDone_sealed {s : Sys} (hop : s.znx.op = 0x10) (hs : s.imageState = imgSealed) :
    s.znxVerifyDone = match s.imgCtx.verify with
      | .pass c => s.stagedBy rfStaged 0 0 0 (some ⟨s.znx.copy, c, sha384 s.znx.copy⟩)
      | .fail e a b => s.stagedBy rfIdle e a b none := by
  unfold Sys.znxVerifyDone
  rw [if_neg (not_not_intro hop)]
  have hb : (s.imageState == imgSealed) = true := by rw [hs]; rfl
  rw [hb]
  cases s.imgCtx.verify <;> rfl

section
variable (s : Sys) (st code sect recd : Nat) (h : Option Held)

theorem Sys.stagedBy_frame : s.Frame (s.stagedBy st code sect recd h) (fun k => k.reg == .ZNX_STATUS) [.znx] := by
  have hput (t : Sys) (f : Fld) (v : Nat) (hf : f.reg = .ZNX_STATUS) : t.Frame (t.put f v) (fun k => k.reg == .ZNX_STATUS) [.znx] :=
    .put t f v 0 0 (by simp [hf])
  refine Sys.Frame.trans ?_ (.set_znx _ _ rfl)
  exact ((hput _ _ _ rfl).trans (hput _ _ _ rfl)).trans (((hput _ _ _ rfl).trans (hput _ _ _ rfl)).trans (hput _ _ _ rfl))

theorem Sys.stagedBy_busy : (s.stagedBy st code sect recd h).rf F.ZNX_STATUS_BUSY = 0 := by
  simp (disch := decide) [Sys.stagedBy, Sys.znxErr, Sys.reflowTo, Sys.znxBusy, Sys.rf_put_bits, Sys.rf_put_self, b2n]

theorem Sys.stagedBy_imageState : (s.stagedBy st code sect recd h).imageState = s.imageState := by
  simp (disch := decide) [Sys.stagedBy, Sys.imageState, Sys.znxErr, Sys.reflowTo, Sys.znxBusy, Sys.rf_put_bits]

theorem Sys.stagedBy_reflowState : (s.stagedBy st code sect recd h).reflowState = st % 2 ^ F.ZNX_STATUS_REFLOW_STATE.wd := by
  simp (disch := decide) [Sys.stagedBy, Sys.reflowState, Sys.znxErr, Sys.reflowTo, Sys.rf_put_bits, Sys.rf_put_self]

end

/-! ## What the access to ZNX_CMD leaves as it was -/

section
variable {s t : Sys} (h : s.Touched t)
include h

theorem Sys.Touched.znx : t.znx = s.znx := h.part .znx rfl
theorem Sys.Touched.conf : t.conf = s.conf := h.part .conf rfl
theorem Sys.Touched.shadow : t.shadow = s.shadow := h.part .shadow rfl
theorem Sys.Touched.fcr : t.fcr = s.fcr := h.part .fcr rfl
theorem Sys.Touched.span : t.span = s.span := h.part .span rfl

theorem Sys.Touched.imgCtx : t.imgCtx = s.imgCtx := by
  have hrf (f : Fld) (i : Nat) (hf : f.reg ≠ .SYS_CS_STATUS) : t.rf f i = s.rf f i := h.rf f i 0 hf
  have hdigest : t.digestNat = s.digestNat := by simp only [Sys.digestNat, hrf F.ZNX_DIGEST_DIGEST _ (by decide)]
  simp (disch := decide) only [Sys.imgCtx, h.znx, h.conf, h.imageState, Sys.socket, Sys.on, hrf, hdigest]

theorem Sys.Touched.stagedRecs : t.stagedRecs = s.stagedRecs := by simp only [Sys.stagedRecs, h.znx, h.imgCtx]
theorem Sys.Touched.concerned : t.concerned = s.concerned := by simp only [Sys.concerned, h.stagedRecs, h.conf]
theorem Sys.Touched.spanNo : t.spanNo = s.spanNo := by simp only [Sys.spanNo, Sys.spanS, h.span]
theorem Sys.Touched.toVote (n : Nat) : t.toVote n = s.toVote n := by simp only [Sys.toVote, Sys.phase, Sys.spanNo, Sys.spanS, h.span]

end

/-! ## The vote's outcomes -/

/-- A station that votes ready (R103): the last of those concerned ends the vote. -/
def Sys.voted (s : Sys) (st : Nat) : Sys :=
  { s.when (s.znx.concerned.all (s.znx.ready ++ [st]).contains) (fun s => s.reflowTo rfCommit) with znx := { s.znx with ready := s.znx.ready ++ [st] } }

theorem Sys.voted_frame (s : Sys) (st : Nat) : s.Frame (s.voted st) (fun k => k.reg == .ZNX_STATUS) [.znx] := by
  refine Sys.Frame.trans ?_ (.set_znx _ _ rfl)
  exact .when _ _ _ fun _ => .put _ _ _ _ _ rfl

theorem Sys.voted_reflowState {s : Sys} (st : Nat) (hv : s.reflowState = rfVoting) :
    (s.voted st).reflowState = if s.znx.concerned.all (s.znx.ready ++ [st]).contains then rfCommit else rfVoting := by
  have hlast : (s.reflowTo rfCommit).reflowState = rfCommit := Sys.rf_put_self s _ _ _ _ (by decide)
  unfold Sys.voted
  generalize s.znx.concerned.all (s.znx.ready ++ [st]).contains = last
  cases last
  · exact hv
  · exact hlast

/-- The vote instant of a reflow that is ready: the votes begin. -/
def Sys.votes (s : Sys) : Sys := { (s.toPhase (s.spanS - 2560)).reflowTo rfVoting with znx := { s.znx with ready := [] } }

theorem Sys.votes_frame (s : Sys) : s.Frame s.votes (fun k => k.reg == .ZNX_STATUS) [.znx, .span] := by
  refine Sys.Frame.trans ?_ (.set_znx _ _ rfl)
  exact (Sys.Frame.passCounts s _ rfl).trans (.put _ _ _ _ _ rfl)

/-- An image staged by the owner is distributed (R101). -/
def Sys.armed (s : Sys) (h : Held) : Sys :=
  { s.reflowTo rfDistributing with shadow := some h.conf, znx := { s.znx with concerned := s.concerned, ready := [] } }

theorem Sys.armed_frame (s : Sys) (h : Held) : s.Frame (s.armed h) znxStatus [.znx, .shadow] := by
  have hend (t : Sys) (c : Option Conf) (z : ZnxSt) : t.Frame { t with shadow := c, znx := z } znxStatus [.znx, .shadow] :=
    (Sys.Frame.set_shadow t c rfl).trans (.set_znx _ z rfl)
  exact Sys.Frame.trans (.put _ _ _ _ _ rfl) (hend _ _ _)

/-- TARGET leaves the time that ARM asks for (R102). -/
abbrev Sys.targetAhead (s : Sys) : Prop :=
  s.spanNo < s.rf F.ZNX_REFLOW_TARGET_TARGET ∧ 2560 < s.toVote (s.rf F.ZNX_REFLOW_TARGET_TARGET)

theorem Sys.znxArm_staged {s : Sys} {h : Held} (hst : s.znx.staged = some h) (hrf : s.reflowState = rfStaged) (himg : s.imageState = imgSealed) :
    s.znxArm (fun _ => s.concerned) = if s.targetAhead then s.armed h else s.znxCmdErr := by
  unfold Sys.znxArm
  rw [hst]
  by_cases ha : s.targetAhead
  · obtain ⟨hspan, hvote⟩ := ha
    rw [if_pos ⟨hspan, hvote⟩]
    exact if_pos ⟨hrf, himg, hspan, hvote⟩
  · rw [if_neg ha]
    exact if_neg fun hc => ha hc.2.2

/-- Settles O19. -/
theorem reflowSteps : Obligations.ReflowSteps := by
  refine ⟨?verified, ?arm, ?cancel, ?distributed, ?voteStart, ?vote, ?timeout⟩
  case verified =>
    intro s hl hop hs
    refine completes_onSys _ _ s _ hl rfl ?_
    rw [Sys.znxVerifyDone_sealed hop hs, State.withSys_sys]
    cases s.sys.imgCtx.verify with
    | pass c =>
      exact ⟨Sys.stagedBy_busy .., (Sys.stagedBy_imageState ..).trans hs, Sys.stagedBy_reflowState .., rfl, rfl, State.only_withSys (Sys.stagedBy_frame ..)⟩
    | fail e a b =>
      exact ⟨Sys.stagedBy_busy .., (Sys.stagedBy_imageState ..).trans hs, Sys.stagedBy_reflowState .., rfl, rfl, State.only_withSys (Sys.stagedBy_frame ..)⟩
  case arm =>
    intro s core h ht hheld hhart hbusy himg hrf hst
    refine ht.znxCmdOn (fun t => if t.targetAhead then t.armed h else t.znxCmdErr) rfl rfl (fun t g => ?_) fun t g => ?_
    · have hdo : (⟨s.mem, t, []⟩ : M).znxOp core 0x21 = (⟨s.mem, t, []⟩ : M).on (fun s => s.znxArm (fun _ => s.concerned)) :=
        M.znxOp_owner _ (by decide) (g.ownedBy ⟨hheld, hhart⟩) ((g.rf _ 0 0 (by decide)).trans hbusy)
          (.inl (by rw [g.imageState, himg]; decide))
      refine hdo.trans ?_
      have harm := Sys.znxArm_staged (s := t) (by rw [g.znx, hst]) (g.reflowState.trans hrf) (g.imageState.trans himg)
      exact congrArg (fun y => (⟨s.mem, y, []⟩ : M)) harm
    · have hahead : t.targetAhead ↔ s.sys.targetAhead := by
        simp only [Sys.targetAhead, g.spanNo, g.toVote, g.rf F.ZNX_REFLOW_TARGET_TARGET 0 0 (by decide)]
      rw [State.withSys_sys]
      refine ⟨fun hspan hvote => ?ahead, fun hlate => ?late⟩
      case ahead =>
        rw [if_pos (hahead.mpr ⟨hspan, hvote⟩)]
        exact ⟨Sys.rf_put_self _ _ _ _ _ (by decide), rfl, g.concerned,
          State.only_withSys (g.frame_write ((t.armed_frame h).parts_mono (by decide)) (fun k hk => by simp_all) (by decide))⟩
      case late =>
        have hno : ¬ t.targetAhead := fun ha => by
          obtain ⟨hspan, hvote⟩ := hahead.mp ha
          omega
        rw [if_neg hno]
        refine ⟨Sys.rf_put_self t _ _ _ _ (by decide), ?_, State.only_withSys (g.frame_status _ rfl 1)⟩
        exact (Sys.rf_put_bits t _ _ _ _ _ _ _ (by decide)).trans (g.reflowState.trans hrf)
  case cancel =>
    intro s core ht hheld hhart hbusy himg hrf
    refine ht.znxCmdOn (fun t => t.reflowAbort 5 0xFF) rfl rfl (fun t h => ?_) fun t h => ?_
    · have hdo : (⟨s.mem, t, []⟩ : M).znxOp core 0x22 = (⟨s.mem, t, []⟩ : M).on Sys.znxCancel :=
        M.znxOp_owner _ (by decide) (h.ownedBy ⟨hheld, hhart⟩) ((h.rf _ 0 0 (by decide)).trans hbusy)
          (.inl (by rw [h.imageState, himg]; decide))
      have hc : [rfStaged, rfDistributing, rfReady].contains t.reflowState = true := by
        rw [h.reflowState]
        exact List.contains_iff_mem.mpr hrf
      refine hdo.trans ?_
      simp only [M.on, Sys.znxCancel, h.imageState, himg, hc, and_self, if_true]
    · rw [State.withSys_sys]
      refine ⟨Sys.reflowAbort_reflowState .., rfl, rfl, Sys.reflowAbort_outcome .., Sys.reflowAbort_cause .., Sys.reflowAbort_station .., ?_,
        State.only_withSys (h.frame_write ((Sys.reflowAbort_frame ..).mono (fun k hk => by simp_all) (by decide)) (fun k hk => by simp_all) (by decide))⟩
      exact (Sys.reflowAbort_events ..).trans (by rw [h.fcr])
  case distributed =>
    intro s hl hrf
    refine completes_onSys _ _ s _ hl rfl ?_
    have he : s.sys.distributed = s.sys.reflowTo rfReady := if_pos hrf
    rw [he, State.withSys_sys]
    exact ⟨Sys.rf_put_self _ _ _ _ _ (by decide), State.only_withSys (.put _ _ _ _ _ rfl)⟩
  case voteStart =>
    intro s hl hat hph
    refine completes_onSys _ _ s _ hl rfl ?_
    have hguard : (decide (s.sys.spanNo + 1 ≠ s.sys.rf F.ZNX_REFLOW_TARGET_TARGET) || decide (s.sys.spanS - 2560 < s.sys.phase)) = false := by
      simp [hat, hph]
    rw [State.withSys_sys]
    refine ⟨fun hr => ?ready, fun hd => ?late⟩
    case ready =>
      have he : s.sys.voteStart = s.sys.votes := by
        unfold Sys.voteStart
        rw [if_neg (Bool.eq_false_iff.mp hguard), if_pos hr]
        rfl
      rw [he]
      exact ⟨Sys.rf_put_self _ _ _ _ _ (by decide), rfl, rfl, State.only_withSys (Sys.votes_frame _)⟩
    case late =>
      have he : s.sys.voteStart = (s.sys.toPhase (s.sys.spanS - 2560)).reflowAbort 1 0xFF := by
        unfold Sys.voteStart
        rw [if_neg (Bool.eq_false_iff.mp hguard), if_neg (by rw [hd]; decide), if_pos hd]
      rw [he]
      refine ⟨Sys.reflowAbort_reflowState .., Sys.reflowAbort_outcome .., Sys.reflowAbort_cause .., rfl, rfl, Sys.reflowAbort_events .., State.only_withSys ?_⟩
      exact (Sys.Frame.passCounts _ _ rfl).trans ((Sys.reflowAbort_frame ..).parts_mono (by decide))
  case vote =>
    intro s st hl hv hc hr
    refine completes_onM _ _ s _ hl rfl ?_
    have hguard : (decide (s.sys.reflowState ≠ rfVoting) || !s.sys.znx.concerned.contains st.val || s.sys.znx.ready.contains st.val) = false := by
      rw [hv, hc, hr]
      rfl
    refine ⟨fun hready => ?ready, fun hbusy => ?busy⟩
    case ready =>
      have he : s.ctx.stationVote st.val = s.ctx.on (fun s => s.voted st.val) := by
        unfold M.stationVote
        exact (if_neg (Bool.eq_false_iff.mp hguard)).trans (if_pos hready)
      rw [he]
      exact ⟨rfl, Sys.voted_reflowState st.val hv, State.only_after rfl (Sys.voted_frame ..)⟩
    case busy =>
      have he : s.ctx.stationVote st.val = s.ctx.on (fun s => s.reflowAbort 2 st.val) := by
        unfold M.stationVote
        exact (if_neg (Bool.eq_false_iff.mp hguard)).trans (if_neg (Bool.eq_false_iff.mp hbusy))
      rw [he]
      have hsmall : st.val % 2 ^ F.ZNX_REFLOW_RESULT_STATION.wd = st.val := Nat.mod_eq_of_lt (st.isLt.trans (by decide))
      exact ⟨Sys.reflowAbort_reflowState .., Sys.reflowAbort_outcome .., Sys.reflowAbort_cause .., (Sys.reflowAbort_station ..).trans hsmall, rfl, rfl,
        Sys.reflowAbort_events .., State.only_after rfl (Sys.reflowAbort_frame ..)⟩
  case timeout =>
    intro s hl hv
    refine completes_onSys _ _ s _ hl rfl ?_
    have he : s.sys.voteTimeout = s.sys.reflowAbort 3 ((s.sys.znx.concerned.find? (fun i => !s.sys.znx.ready.contains i)).getD 0xFF) := if_pos hv
    rw [he, State.withSys_sys]
    refine ⟨Sys.reflowAbort_reflowState .., Sys.reflowAbort_outcome .., Sys.reflowAbort_cause .., fun i hi => ?_, rfl, rfl, Sys.reflowAbort_events ..,
      State.only_withSys (Sys.reflowAbort_frame ..)⟩
    rw [hi]
    exact (Sys.reflowAbort_station ..).trans (Nat.mod_eq_of_lt (i.isLt.trans (by decide)))

end Sys2Proof.Machine
end

section
/-!
PROOFS. The secure hold count of a station (R402).
-/
namespace Sys2Proof.Machine

/-! ## A write of PWR_SHOLD -/

/-- What the access codes make of a write of a station's hold count, before its operation. -/
abbrev Sys.sholdCoded (s : Sys) (st : Nat) (v : Word) : Sys := s.plainWrite ⟨.PWR_SHOLD, st, 0⟩ v

/-- An increment by world S. -/
def Sys.sholdUp (s : Sys) (st : Nat) : Sys :=
  if s.holdCount st = 255 then s.put F.PWR_SHOLD_SAT 1 st else s.put F.PWR_SHOLD_COUNT (s.holdCount st + 1) st

/-- A decrement by world S of a station with nothing deferred. -/
def Sys.sholdDown (s : Sys) (st : Nat) : Sys :=
  if s.holdCount st = 0 then s.put F.PWR_SHOLD_SAT 1 st
  else if s.holdCount st = 1 then
    ((s.put F.PWR_SHOLD_COUNT (s.holdCount st - 1) st).onPwr (fun p => { p with deferred := p.deferred.filter (fun d => d.station ≠ st) })).put F.PWR_SHOLD_PENDING 0 st
  else s.put F.PWR_SHOLD_COUNT (s.holdCount st - 1) st

section
variable (x : M) {st : Nat} {v : Word}

theorem M.sholdWrite_worldN (hst : st < 109) (hop : fget v 32 2 ≠ 0) :
    x.sholdWrite st v false = x.on (fun s => (s.sholdCoded st v).put F.PWR_SHOLD_N_OP 1 st) := by
  unfold M.sholdWrite
  rw [if_neg (by omega)]
  exact (if_neg hop).trans (if_pos rfl)

theorem M.sholdWrite_up (hst : st < 109) (hop : fget v 32 2 = 1) : x.sholdWrite st v true = x.on (fun s => (s.sholdCoded st v).sholdUp st) := by
  unfold M.sholdWrite
  rw [if_neg (by omega)]
  exact (if_neg (by omega)).trans ((if_neg (by decide)).trans (if_pos hop))

theorem M.holdZero_none (hd : x.sys.pwr.deferred.all (fun d => d.station != st) = true) :
    x.holdZero st = x.on (fun s => (s.onPwr (fun p => { p with deferred := p.deferred.filter (fun d => d.station ≠ st) })).put F.PWR_SHOLD_PENDING 0 st) := by
  have hmine : x.sys.pwr.deferred.filter (fun d => decide (d.station = st)) = [] := by
    refine List.filter_eq_nil_iff.mpr fun d hd' => ?_
    simpa using List.all_eq_true.mp hd d hd'
  unfold M.holdZero
  simp only [hmine]
  rfl

theorem M.sholdWrite_down (hst : st < 109) (hop : fget v 32 2 = 2) (hd : x.sys.pwr.deferred.all (fun d => d.station != st) = true) :
    x.sholdWrite st v true = x.on (fun s => (s.sholdCoded st v).sholdDown st) := by
  have hshape : x.sholdWrite st v true =
      if (x.sys.sholdCoded st v).holdCount st = 0 then x.on (fun s => (s.sholdCoded st v).put F.PWR_SHOLD_SAT 1 st)
      else if (x.sys.sholdCoded st v).holdCount st = 1 then
        (x.on (fun s => (s.sholdCoded st v).put F.PWR_SHOLD_COUNT ((x.sys.sholdCoded st v).holdCount st - 1) st)).holdZero st
      else x.on (fun s => (s.sholdCoded st v).put F.PWR_SHOLD_COUNT ((x.sys.sholdCoded st v).holdCount st - 1) st) := by
    unfold M.sholdWrite
    rw [if_neg (by omega)]
    exact (if_neg (by omega)).trans ((if_neg (by decide)).trans ((if_neg (by omega)).trans (if_pos hop)))
  rw [hshape]
  have hdown (y : Sys) (hy : (x.sys.sholdCoded st v).sholdDown st = y) : x.on (fun s => (s.sholdCoded st v).sholdDown st) = x.on (fun _ => y) :=
    congrArg (fun z => ({ x with sys := z } : M)) hy
  by_cases h0 : (x.sys.sholdCoded st v).holdCount st = 0
  · rw [if_pos h0]
    exact (hdown _ (if_pos h0)).symm
  · rw [if_neg h0]
    by_cases h1 : (x.sys.sholdCoded st v).holdCount st = 1
    · rw [if_pos h1]
      refine (M.holdZero_none (x.on _) (by exact hd)).trans ?_
      exact (hdown _ ((if_neg h0).trans (if_pos h1))).symm
    · rw [if_neg h1]
      exact (hdown _ ((if_neg h0).trans (if_neg h1))).symm

end

/-! ## The fields of the count -/

section
variable (s : Sys) (st : Nat) (v : Word)

theorem Sys.holdCount_lt : s.holdCount st < 256 := Sys.rf_lt ..

theorem Sys.sholdCoded_holdCount : (s.sholdCoded st v).holdCount st = s.holdCount st := by
  have hword : (s.sholdCoded st v).rd ⟨.PWR_SHOLD, st, 0⟩ = accWrite rows_PWR_SHOLD s.isSealed (s.rd ⟨.PWR_SHOLD, st, 0⟩) v := Sys.rd_wr_self ..
  have hrow := fget_accWrite s.isSealed (s.rd ⟨.PWR_SHOLD, st, 0⟩) v (l := rows_PWR_SHOLD) (x := ⟨48, 8, .ro, 0, .cwk⟩) (by decide) (by decide)
  unfold Sys.holdCount Sys.rf
  rw [hword]
  exact hrow

theorem Sys.sholdCoded_frame {parts : List Part} : s.Frame (s.sholdCoded st v) (oneReg st [.PWR_SHOLD]) parts := .wr _ _ _ (by simp [oneReg])

end

/-! ## The access -/

section
variable {s t : Sys} {st : Fin 109} {via : Bool} (x : M) (who : Who) (v : Word)

theorem sholdKey_canon : (sholdKey st via).canon = ⟨.PWR_SHOLD, st, 0⟩ := by
  unfold sholdKey
  split <;> rfl

theorem Sys.domOf_sholdKey : s.domOf (sholdKey st via) = none := by
  unfold sholdKey
  split <;> rfl

/-- A write at either address of the count is the write of PWR_SHOLD. -/
theorem M.regWrite_shold (fwd : Option Nat) :
    x.regWrite who (sholdKey st via).canon (s.offsetOf (sholdKey st via)) v fwd = x.sholdWrite st v who.secure := by
  have hlow {off : Nat} (h : off < 0x100000) : x.regWrite who ⟨.PWR_SHOLD, st, 0⟩ off v fwd = x.sholdWrite st v who.secure := by
    unfold M.regWrite
    exact (if_neg (by exact Bool.false_ne_true)).trans (if_pos (.inl h))
  have htile {off : Nat} (h : 0x1000000 ≤ off ∧ off < 0x3000000) : x.regWrite who ⟨.PWR_SHOLD, st, 0⟩ off v fwd = x.sholdWrite st v who.secure := by
    unfold M.regWrite
    exact (if_neg (by exact Bool.false_ne_true)).trans ((if_neg (by omega)).trans ((if_neg (by omega)).trans (if_pos h.2)))
  rw [sholdKey_canon]
  have hst := st.isLt
  unfold sholdKey
  split
  · have ho : s.offsetOf ⟨.TILE_SHOLD, st, 0⟩ = 0x1001000 + st * 0x10000 + 0 * 0 := rfl
    next hvia =>
      rw [ho]
      simp only [Bool.and_eq_true, decide_eq_true_eq] at hvia
      exact htile (by omega)
  · have ho : s.offsetOf ⟨.PWR_SHOLD, st, 0⟩ = 0x41000 + st * 0x8 + 0 * 0 := rfl
    rw [ho]
    exact hlow (by omega)

end

/-! ## The operations -/

/-- The registers that an operation may change. -/
abbrev sholdReg (st : Nat) (q : RK) : Bool := oneReg st [.PWR_SHOLD] q || q.reg == .SYS_CS_STATUS

section
variable {s t : Sys} (st : Nat) (v : Word)

theorem Sys.holdCount_sat (s : Sys) : (s.put F.PWR_SHOLD_SAT 1 st).holdCount st = s.holdCount st := Sys.rf_put_bits _ _ _ _ _ _ _ _ (by decide)

theorem Sys.holdCount_put {n : Nat} (s : Sys) (hn : n < 256) : (s.put F.PWR_SHOLD_COUNT n st).holdCount st = n :=
  (Sys.rf_put_self _ _ _ _ _ (by decide)).trans (Nat.mod_eq_of_lt hn)

theorem Sys.sholdUp_below {s : Sys} (h : s.holdCount st < 255) : (s.sholdUp st).holdCount st = s.holdCount st + 1 := by
  unfold Sys.sholdUp
  rw [if_neg (by omega)]
  exact Sys.holdCount_put st s (by omega)

theorem Sys.sholdUp_full {s : Sys} (h : s.holdCount st = 255) : (s.sholdUp st).holdCount st = 255 ∧ (s.sholdUp st).rf F.PWR_SHOLD_SAT st = 1 := by
  unfold Sys.sholdUp
  rw [if_pos h]
  exact ⟨(Sys.holdCount_sat st s).trans h, Sys.rf_put_self _ _ _ _ _ (by decide)⟩

theorem Sys.sholdDown_above {s : Sys} (h : 0 < s.holdCount st) : (s.sholdDown st).holdCount st = s.holdCount st - 1 := by
  have hput := Sys.holdCount_put st s (n := s.holdCount st - 1) (by have := s.holdCount_lt st; omega)
  unfold Sys.sholdDown
  rw [if_neg (by omega)]
  split
  · exact (Sys.rf_put_bits _ _ _ _ _ _ _ _ (by decide)).trans hput
  · exact hput

theorem Sys.sholdDown_last {s : Sys} (h : s.holdCount st = 1) : (s.sholdDown st).rf F.PWR_SHOLD_PENDING st = 0 := by
  unfold Sys.sholdDown
  rw [if_neg (by omega), if_pos h]
  exact Sys.rf_put_self _ _ _ _ _ (by decide)

theorem Sys.sholdDown_none {s : Sys} (h : s.holdCount st = 0) : (s.sholdDown st).holdCount st = 0 ∧ (s.sholdDown st).rf F.PWR_SHOLD_SAT st = 1 := by
  unfold Sys.sholdDown
  rw [if_pos h]
  exact ⟨(Sys.holdCount_sat st s).trans h, Sys.rf_put_self _ _ _ _ _ (by decide)⟩

theorem Sys.sholdUp_frame (s : Sys) {parts : List Part} : s.Frame (s.sholdUp st) (oneReg st [.PWR_SHOLD]) parts :=
  .ite (fun _ => .put _ _ _ _ _ (by simp [oneReg])) fun _ => .put _ _ _ _ _ (by simp [oneReg])

theorem Sys.sholdDown_frame (s : Sys) : s.Frame (s.sholdDown st) (oneReg st [.PWR_SHOLD]) [.pwr] := by
  have hput (u : Sys) (f : Fld) (n : Nat) (hf : f.reg = .PWR_SHOLD) : u.Frame (u.put f n st) (oneReg st [.PWR_SHOLD]) [.pwr] :=
    .put _ _ _ _ _ (by simp [oneReg, hf])
  exact .ite (fun _ => hput _ _ _ rfl) fun _ => .ite (fun _ => ((hput _ _ _ rfl).trans (.set_pwr _ _ rfl)).trans (hput _ _ _ rfl)) fun _ => hput _ _ _ rfl

theorem Sys.Touched.sholdCoded_holdCount (h : s.Touched t) : (t.sholdCoded st v).holdCount st = s.holdCount st :=
  (t.sholdCoded_holdCount st v).trans (h.rf _ _ _ (by decide))

theorem Sys.Touched.frame_shold {y : Sys} {parts : List Part} (h : s.Touched t) (hy : (t.sholdCoded st v).Frame y (oneReg st [.PWR_SHOLD]) parts)
    (hp : accessParts ⊆ parts) : s.Frame (y.answer (.done 0)) (sholdReg st) parts :=
  h.frame_write (((t.sholdCoded_frame st v).trans hy).regs_mono fun k hk => by simp [sholdReg, hk]) (fun k hk => by simp_all [sholdReg]) hp

end

/-- An operation from world N only records the attempt. -/
theorem State.Takes.sholdWorldN {s : State} {req : Requester} {st : Fin 109} {via : Bool} {v : Word} {c : Instr} (ht : s.Takes c)
    (ha : Instr.access c = some ⟨req, sholdKey st via, some v, none⟩) (hc : exec c s = onM (fun x => x.rowWrite req (sholdKey st via) v) s)
    (hv : fget v 32 2 ≠ 0) (hs : (s.sys.whoIs req).1.secure = false) : Completes c s (fun t => t.sys.holdCount st = s.sys.holdCount st ∧
      t.sys.rf F.PWR_SHOLD_N_OP st = 1 ∧ s.Only t (sholdReg st) accessParts) := by
  refine ht.completes (fun t => (t.sholdCoded st v).put F.PWR_SHOLD_N_OP 1 st) ha hc (fun t => Sys.domOf_sholdKey) (fun t h => ?_) fun t h => ?_
  · rw [M.regWrite_shold, hs]
    exact M.sholdWrite_worldN _ st.isLt hv
  · have hcount : ((t.sholdCoded st v).put F.PWR_SHOLD_N_OP 1 st).holdCount st = s.sys.holdCount st :=
      (Sys.rf_put_bits _ _ _ _ _ _ _ _ (by decide)).trans (h.sholdCoded_holdCount st v)
    exact ⟨hcount, Sys.rf_put_self _ _ _ _ _ (by decide), State.only_withSys (h.frame_shold st v (.put _ _ _ _ _ (by simp [oneReg])) (List.Subset.refl _))⟩

/-- Settles O44. -/
theorem holdCounts : Obligations.HoldCounts := by
  refine ⟨?up, ?down, ?upN, ?downN⟩
  case up =>
    intro s req st via v ht hs
    refine ht.completes (fun t => (t.sholdCoded st (fput v 32 2 1)).sholdUp st) rfl rfl (fun t => Sys.domOf_sholdKey) (fun t h => ?_) fun t h => ?_
    · rw [M.regWrite_shold, hs]
      exact M.sholdWrite_up _ st.isLt (fget_fput_same _ _ _ _ (by decide))
    · rw [State.withSys_sys]
      have hcount := h.sholdCoded_holdCount st (fput v 32 2 1)
      have hframe := State.only_withSys (h.frame_shold st (fput v 32 2 1) (Sys.sholdUp_frame st _) (List.Subset.refl _))
      refine ⟨fun hlt => (Sys.sholdUp_below st (hcount ▸ hlt)).trans (by rw [hcount]), fun hfull => Sys.sholdUp_full st (hcount.trans hfull), hframe⟩
  case down =>
    intro s req st via v ht hs hd
    refine ht.completes (fun t => (t.sholdCoded st (fput v 32 2 2)).sholdDown st) rfl rfl (fun t => Sys.domOf_sholdKey) (fun t h => ?_) fun t h => ?_
    · rw [M.regWrite_shold, hs]
      have hpwr : t.pwr = s.sys.pwr := h.part .pwr rfl
      refine M.sholdWrite_down _ st.isLt (fget_fput_same _ _ _ _ (by decide)) ?_
      rw [hpwr]
      exact hd
    · rw [State.withSys_sys]
      have hcount := h.sholdCoded_holdCount st (fput v 32 2 2)
      have hframe := State.only_withSys (h.frame_shold (parts := .pwr :: accessParts) st (fput v 32 2 2) ((Sys.sholdDown_frame st _).parts_mono (by decide)) (by decide))
      exact ⟨fun hpos => (Sys.sholdDown_above st (hcount ▸ hpos)).trans (by rw [hcount]), fun h1 => Sys.sholdDown_last st (hcount.trans h1),
        fun h0 => Sys.sholdDown_none st (hcount.trans h0), hframe⟩
  case upN =>
    intro s req st via v ht hs
    exact ht.sholdWorldN rfl rfl (by rw [fget_fput_same _ _ _ _ (by decide)]; decide) hs
  case downN =>
    intro s req st via v ht hs
    exact ht.sholdWorldN rfl rfl (by rw [fget_fput_same _ _ _ _ (by decide)]; decide) hs

end Sys2Proof.Machine
end

section
/-!
PROOFS. RETRY, GO, RETRY_DEST, hold notices and replays of the mesh (R289, R307, R327, R331).
-/
namespace Sys2Proof.Machine

/-! ## One stop, one slice -/

section
variable (s : Sys) (i : Nat)

@[simp] theorem Sys.stop_onStop_self (f : Stop → Stop) : (s.onStop i f).stop i = f (s.stop i) := Bank.getD_set_self ..

theorem Sys.stop_onStop_other (f : Stop → Stop) {j : Nat} (h : j ≠ i) : (s.onStop i f).stop j = s.stop j := Bank.getD_set_other _ _ _ _ _ h.symm

@[simp] theorem Sys.slice_onSlice_self (f : Slice → Slice) : (s.onSlice i f).slice i = f (s.slice i) := Bank.getD_set_self ..

theorem Sys.slice_onSlice_other (f : Slice → Slice) {j : Nat} (h : j ≠ i) : (s.onSlice i f).slice j = s.slice j := Bank.getD_set_other _ _ _ _ _ h.symm

theorem Sys.onSlice_frame (f : Slice → Slice) {but : RK → Bool} {parts : List Part} (h : parts.contains .slices = true) :
    s.Frame (s.onSlice i f) but parts := .set_slices s _ h

theorem Sys.stop_of_stops {s t : Sys} (h : t.stops = s.stops) : t.stop i = s.stop i := by
  unfold Sys.stop
  rw [h]

theorem Sys.stop_onSlice (f : Slice → Slice) (j : Nat) : (s.onSlice i f).stop j = s.stop j := rfl

theorem Sys.stop_showStop (j : Nat) : (s.showStop i).stop j = s.stop j := Sys.stop_of_stops j ((s.showStop_frame i (parts := [.qosHeld]) rfl).2 .stops rfl)

theorem Sys.msgs_showStop : (s.showStop i).msgs = s.msgs := (s.showStop_frame i (parts := [.qosHeld]) rfl).2 .msgs rfl

end

/-- A field outside the registers that a frame lets change. -/
theorem Sys.Frame.rf {s t : Sys} {but : RK → Bool} {parts : List Part} (h : s.Frame t but parts) (f : Fld) (i j : Nat) (hf : but ⟨f.reg, i, j⟩ = false) :
    t.rf f i j = s.rf f i j := congrArg (fget · f.lo f.wd) (h.1 _ hf)

theorem Fin80.val_ne {i j : Fin 80} (h : j ≠ i) : j.val ≠ i.val := fun e => h (Fin.ext e)

theorem Fin80.val_lt_64 {i : Fin 80} (h : i < 64) : i.val < 64 := h

/-! ## What a stop receives -/

/-- A count of a stop's retries goes up on tiles only. -/
def Sys.countAt (s : Sys) (f : Fld) (i : Nat) : Sys := s.when (decide (i < 64)) (fun s => s.bump f i)

section
variable (s : Sys) (f : Fld) (i : Nat)

theorem Sys.countAt_frame {parts : List Part} : s.Frame (s.countAt f i) (fun k => k == ⟨f.reg, i, 0⟩ && decide (i < 64)) parts :=
  .when _ _ _ fun h => .put _ _ _ _ _ (by simpa using h)

theorem Sys.rf_countAt (h : f.lo + f.wd ≤ 64) (hi : i < 64) : (s.countAt f i).rf f i = min (2 ^ f.wd - 1) (s.rf f i + 1) := by
  unfold Sys.countAt
  rw [decide_eq_true hi]
  exact Sys.rf_bump s f i 0 h

theorem Sys.stop_countAt (j : Nat) : (s.countAt f i).stop j = s.stop j := Sys.stop_of_stops j ((s.countAt_frame f i (parts := [])).2 .stops rfl)
theorem Sys.msgs_countAt : (s.countAt f i).msgs = s.msgs := (s.countAt_frame f i (parts := [])).2 .msgs rfl

end

/-- A stop that has taken a message, with what the message does to it. -/
def Sys.stopTook (s : Sys) (rest : List Msg) (i : Nat) (f : Stop → Stop) : Sys := ({ s with msgs := rest } : Sys).onStop i f

section
variable (s : Sys) (rest : List Msg) (i : Nat) (f : Stop → Stop)

theorem Sys.stopTook_frame {but : RK → Bool} {parts : List Part} (hm : parts.contains .msgs = true) (hs : parts.contains .stops = true) :
    s.Frame (s.stopTook rest i f) but parts := (Sys.Frame.set_msgs s rest hm).trans (.set_stops _ _ hs)

theorem Sys.stop_stopTook_self : (s.stopTook rest i f).stop i = f (s.stop i) := Sys.stop_onStop_self ..
theorem Sys.stop_stopTook_other {j : Nat} (h : j ≠ i) : (s.stopTook rest i f).stop j = s.stop j := Sys.stop_onStop_other _ _ _ h

end

/-- What RETRY_DEST gives back (R327). -/
def Stop.again (t : Stop) (i : Nat) (r : Req) : Stop :=
  { t with held := t.held ++ [r]
           mem := Bank.set t.mem r.kennel (Bank.getD t.mem r.kennel 0 + r.charge.1)
           inj := t.inj + (if i < 64 then r.charge.2 else 0) }

section
variable {s : Sys} {n i : Nat} {r : Req} {rest : List Msg}

theorem Sys.retryMsg_due (h : takeMsg (Msg.isRetry n i) s.msgs = some (.retry n r, rest)) :
    s.retryMsg n i = (s.stopTook rest i (fun t => { t with retried := t.retried ++ [(n, r)] })).countAt F.TILE_MS_RETRY_RETRIES i := by
  unfold Sys.retryMsg
  rw [h]
  rfl

theorem Sys.retryDest_due (h : takeMsg (Msg.isRetryDest n i) s.msgs = some (.retryDest n r, rest)) :
    s.retryDest n i = ((s.stopTook rest i (fun t => t.again i r)).countAt F.TILE_MS_RETRY_DEST_RETRIES i).showStop i := by
  unfold Sys.retryDest
  rw [h]
  rfl

theorem Sys.holdNotice_due {m : Msg} (h : takeMsg (Msg.isNotice n i) s.msgs = some (m, rest)) :
    s.holdNotice n i = (s.stopTook rest i (fun t => { t with notices := n :: t.notices.erase n })).showStop i := by
  unfold Sys.holdNotice
  rw [h]
  rfl

end

/-! ## GO and its expiry -/

section
variable {s : Sys} {n k i : Nat}

/-- The slice holds an entry for the stop at the head of the wake list. -/
def Slice.goTo (z : Slice) (k i : Nat) (rest : List Nat) : Slice := { z with wake := Bank.set z.wake k rest, goHeld := z.goHeld ++ [(i, k)] }

/-- The slice gives that entry up. -/
def Slice.goBack (z : Slice) (k i : Nat) : Slice :=
  { z with goHeld := z.goHeld.erase (i, k), wake := Bank.set z.wake k (Bank.getD z.wake k [] ++ [i]) }

/-- The stop sends its oldest retried request again, for an entry held. -/
def Sys.resent (s : Sys) (n k i : Nat) (rest : List Nat) (p : Nat × Req) : Sys :=
  { (s.onSlice n (fun z => z.goTo k i rest)).onStop i (fun t => { t with retried := t.retried.erase p }) with msgs := s.msgs ++ [.req n p.2] }

theorem Sys.slice_resent (rest : List Nat) (p : Nat × Req) (m : Nat) : (s.resent n k i rest p).slice m = (s.onSlice n (fun z => z.goTo k i rest)).slice m :=
  rfl

theorem Sys.stop_resent (rest : List Nat) (p : Nat × Req) (j : Nat) :
    (s.resent n k i rest p).stop j = (s.onStop i (fun t => { t with retried := t.retried.erase p })).stop j := rfl

theorem Sys.resent_frame (rest : List Nat) (p : Nat × Req) {but : RK → Bool} : s.Frame (s.resent n k i rest p) but [.slices, .msgs, .stops] :=
  ((Sys.onSlice_frame _ _ _ rfl).trans (Sys.onStop_frame _ _ _ rfl)).trans (.set_msgs _ _ rfl)

theorem Sys.go_due {rest : List Nat} {p : Nat × Req} (hw : Bank.getD (s.slice n).wake k [] = i :: rest)
    (hroom : 64 ≤ i ∨ s.roomFor n ⟨.rdShared, 0, .core (4 * i), k, false, 0, 0, 0, false, false, ⟨0, 0, 0⟩, false, .swap, false⟩ = true)
    (hr : (s.stop i).retried.find? (fun p => p.1 = n ∧ p.2.kennel = k) = some p) :
    s.go n k = s.resent n k i rest p := by
  unfold Sys.go
  simp only [hw]
  have hsend : ¬ (decide (i < 64) && !s.roomFor n ⟨.rdShared, 0, .core (4 * i), k, false, 0, 0, 0, false, false, ⟨0, 0, 0⟩, false, .swap, false⟩) = true := by
    obtain h | h := hroom
    · simp [Nat.not_lt.mpr h]
    · rw [h, Bool.not_true, Bool.and_false]
      exact Bool.false_ne_true
  rw [if_neg hsend, Sys.stop_onSlice, hr]
  rfl

theorem Sys.goExpiry_quiet (hg : (s.slice n).goHeld.find? (fun g => g.2 = k) = some (i, k)) (hm : s.msgs = []) :
    s.goExpiry n k = s.onSlice n (fun z => z.goBack k i) := by
  unfold Sys.goExpiry
  rw [hg, hm]
  rfl

end

/-! ## A link's replay -/

/-- The register field that counts a direction's replays. -/
abbrev linkErr (dir : Fin 4) : Fld :=
  if dir = 0 then F.TILE_MS_LINKERR_NORTH else if dir = 1 then F.TILE_MS_LINKERR_EAST else if dir = 2 then F.TILE_MS_LINKERR_SOUTH
  else F.TILE_MS_LINKERR_WEST

theorem linkErr_width : ∀ dir : Fin 4, (linkErr dir).wd = 16 ∧ (linkErr dir).lo + 16 ≤ 64 ∧ (linkErr dir).reg = .TILE_MS_LINKERR := by decide

theorem Sys.meshReplay_eq (s : Sys) (n run : Nat) (dir : Fin 4) :
    s.meshReplay n dir run = ((s.bump (linkErr dir) n).raise (srcTile n 8)).when (decide (16 ≤ run)) (fun s => s.raise (srcTile n 9)) :=
  match dir with
  | 0 | 1 | 2 | 3 => rfl

/-- Settles O36. -/
theorem meshRetries : Obligations.MeshRetries := by
  refine ⟨?retry, ?go, ?expiry, ?retryDest, ?notice, ?replay⟩
  case retry =>
    intro s n i r rest hl hm
    refine completes_onSys _ _ s _ hl rfl ?_
    rw [Sys.retryMsg_due hm, State.withSys_sys]
    refine ⟨Sys.msgs_countAt .., ?_, fun hi => ?_, fun j hj => ?_, State.only_withSys ?_⟩
    · rw [Sys.stop_countAt, Sys.stop_stopTook_self]
    · exact Sys.rf_countAt _ _ _ (by decide) (Fin80.val_lt_64 hi)
    · rw [Sys.stop_countAt, Sys.stop_stopTook_other _ _ _ _ (Fin80.val_ne hj)]
    · exact (Sys.stopTook_frame _ _ _ _ rfl rfl).trans (Sys.countAt_frame ..)
  case go =>
    intro s n k i rest r hl hw hroom hr
    refine completes_onSys _ _ s _ hl rfl ?_
    rw [Sys.go_due hw hroom hr, State.withSys_sys]
    refine ⟨?_, ?_, rfl, ?_, fun j hj => ?_, State.only_withSys (Sys.resent_frame ..), fun m hm => ?_⟩
    · rw [Sys.slice_resent, Sys.slice_onSlice_self]
      exact Bank.getD_set_self ..
    · rw [Sys.slice_resent, Sys.slice_onSlice_self]
      rfl
    · rw [Sys.stop_resent, Sys.stop_onStop_self]
    · rw [Sys.stop_resent, Sys.stop_onStop_other _ _ _ (Fin80.val_ne hj)]
    · rw [State.withSys_sys, Sys.slice_resent, Sys.slice_onSlice_other _ _ _ hm]
  case expiry =>
    intro s n k i hl hg hm
    refine completes_onSys _ _ s _ hl rfl ?_
    rw [Sys.goExpiry_quiet hg hm, State.withSys_sys, Sys.slice_onSlice_self]
    exact ⟨rfl, Bank.getD_set_self .., State.only_withSys (Sys.onSlice_frame _ _ _ rfl), fun m hm => Sys.slice_onSlice_other _ _ _ hm⟩
  case retryDest =>
    intro s n i r rest hl hm
    refine completes_onSys _ _ s _ hl rfl ?_
    rw [Sys.retryDest_due hm, State.withSys_sys]
    have hself : (((s.sys.stopTook rest i (fun t => t.again i r)).countAt F.TILE_MS_RETRY_DEST_RETRIES i).showStop i).stop i = (s.sys.stop i).again i r := by
      rw [Sys.stop_showStop, Sys.stop_countAt, Sys.stop_stopTook_self]
    rw [hself]
    refine ⟨(Sys.msgs_showStop ..).trans (Sys.msgs_countAt ..), rfl, Bank.getD_set_self .., fun hi => ?_, fun hi => ?_, fun j hj => ?_, State.only_withSys ?_⟩
    · exact congrArg ((s.sys.stop i).inj + ·) (if_pos (Fin80.val_lt_64 hi))
    · rw [(Sys.showStop_frame _ _ (parts := [.qosHeld]) rfl).rf _ _ _ rfl]
      exact Sys.rf_countAt _ _ _ (by decide) (Fin80.val_lt_64 hi)
    · rw [Sys.stop_showStop, Sys.stop_countAt, Sys.stop_stopTook_other _ _ _ _ (Fin80.val_ne hj)]
    · exact ((Sys.stopTook_frame _ _ _ _ rfl rfl).trans ((Sys.countAt_frame ..).regs_mono fun k hk => by simp_all)).trans
        ((Sys.showStop_frame _ _ rfl).regs_mono fun k hk => by simp [hk])
  case notice =>
    intro s n i m rest hl hm
    refine completes_onSys _ _ s _ hl rfl ?_
    rw [Sys.holdNotice_due hm, State.withSys_sys]
    refine ⟨Sys.msgs_showStop .., ?_, fun j hj => ?_, State.only_withSys ?_⟩
    · rw [Sys.stop_showStop, Sys.stop_stopTook_self]
    · rw [Sys.stop_showStop, Sys.stop_stopTook_other _ _ _ _ (Fin80.val_ne hj)]
    · exact (Sys.stopTook_frame _ _ _ _ rfl rfl).trans (Sys.showStop_frame _ _ rfl)
  case replay =>
    intro s n dir run hl
    refine completes_onSys _ _ s _ hl rfl ?_
    rw [Sys.meshReplay_eq, State.withSys_sys]
    obtain ⟨hwd, hlo, hreg⟩ := linkErr_width dir
    have hcount : (s.sys.bump (linkErr dir) n).rf (linkErr dir) n = min (2 ^ 16 - 1) (s.sys.rf (linkErr dir) n + 1) := by
      rw [Sys.rf_bump _ _ _ _ (by omega), hwd]
    refine ⟨?_, ?_, State.only_withSys ?_⟩
    · rw [Sys.rf_when]
      split <;> exact hcount
    · rw [Sys.fcr_when]
      by_cases h16 : 16 ≤ run
      · rw [decide_eq_true h16, if_pos h16]
        rfl
      · rw [decide_eq_false h16, if_neg h16]
        exact (List.append_nil _).symm
    · refine ((Sys.Frame.bump _ _ _ _ ?_).trans (.raise _ _ _ rfl)).trans (.when _ _ _ fun _ => .raise _ _ _ rfl)
      rw [hreg]
      exact beq_self_eq_true _

end Sys2Proof.Machine
end

section
/-!
PROOFS. The links of the Brace (R88, R315, R318, R319, R332, R592).
-/
namespace Sys2Proof.Machine

/-- The status register of a link. -/
abbrev brcReg (b : Nat) (k : RK) : Bool := k == ⟨.BRC_STATUS, b, 0⟩

section
variable (s : Sys) (b : Nat)

theorem Sys.braceStatus_frame {f : Fld} (hf : f.reg = .BRC_STATUS) (v : Nat) {parts : List Part} : s.Frame (s.put f v b) (brcReg b) parts :=
  .put _ _ _ _ _ (by simp [hf])

/-! ## Training -/

/-- The state that a link trains to, and whether its peer does not match. -/
abbrev Sys.peerBad (s : Sys) (id : Word) (sock : Bool) : Prop := s.pairId ≠ id ∨ s.socket = b2n sock

theorem Sys.peerBad_put {f : Fld} (hf : f.reg = .BRC_STATUS) (v : Nat) (id : Word) (sock : Bool) : (s.put f v b).peerBad id sock ↔ s.peerBad id sock := by
  have hpair : (s.put f v b).pairId = s.pairId := by
    have hrd : (s.put f v b).rd ⟨.ZNX_PAIR, 0, 0⟩ = s.rd ⟨.ZNX_PAIR, 0, 0⟩ := Sys.rd_put_reg _ _ _ _ _ _ (by rw [hf]; decide)
    unfold Sys.pairId
    rw [hrd]
    rfl
  have hsock : (s.put f v b).socket = s.socket := Sys.rf_put_reg _ _ _ _ _ _ _ _ (by rw [hf]; decide)
  unfold Sys.peerBad
  rw [hpair, hsock]

/-- The state that training ends in. -/
def braceEnd (full bad : Bool) : Nat := if full = false then brcDown else if bad then brcMismatch else brcUp

/-- The link after its training. -/
def Sys.braceTrained (s : Sys) (b peer : Nat) (full bad : Bool) : Sys :=
  (((s.put F.BRC_STATUS_PEER_LINK peer b).put F.BRC_STATUS_STATE (braceEnd full bad) b).when (full && !bad) (fun s => s.put F.BRC_STATUS_IN_MAP 1 b)).when
    (full && bad) (fun s => s.raise (srcBrace b 2))

theorem Sys.braceTrain_training {full sock : Bool} {id : Word} {peer : Nat} (h : s.rf F.BRC_STATUS_STATE b = brcTraining) :
    s.braceTrain b full id sock peer = s.braceTrained b peer full (decide (s.peerBad id sock)) := by
  have hbad : (decide ((s.put F.BRC_STATUS_PEER_LINK peer b).pairId ≠ id) || decide ((s.put F.BRC_STATUS_PEER_LINK peer b).socket = b2n sock)) =
      decide (s.peerBad id sock) := by
    rw [← Bool.decide_or]
    exact decide_eq_decide.mpr (s.peerBad_put b rfl peer id sock)
  unfold Sys.braceTrain
  rw [if_pos h]
  simp only [hbad]
  cases full with
  | false => rfl
  | true => cases decide (s.peerBad id sock) <;> rfl

theorem Sys.braceTrained_frame (peer : Nat) (full bad : Bool) : s.Frame (s.braceTrained b peer full bad) (brcReg b) [.fcr] := by
  refine Sys.Frame.trans ?_ (.when _ _ _ fun _ => .raise _ _ _ rfl)
  exact ((s.braceStatus_frame b rfl _).trans (Sys.braceStatus_frame _ b rfl _)).trans (.when _ _ _ fun _ => Sys.braceStatus_frame _ b rfl _)

theorem Sys.braceTrained_peer (peer : Nat) (full bad : Bool) :
    (s.braceTrained b peer full bad).rf F.BRC_STATUS_PEER_LINK b = peer % 2 ^ F.BRC_STATUS_PEER_LINK.wd := by
  cases full <;> cases bad <;> simp (disch := decide) [Sys.braceTrained, Sys.raise, Sys.rf_put_bits, Sys.rf_put_self]

theorem Sys.braceTrained_state (peer : Nat) (full bad : Bool) : (s.braceTrained b peer full bad).rf F.BRC_STATUS_STATE b = braceEnd full bad := by
  cases full <;> cases bad <;>
    simp (disch := decide) [Sys.braceTrained, Sys.raise, Sys.rf_put_bits, Sys.rf_put_self, braceEnd, brcDown, brcMismatch, brcUp]

theorem Sys.braceTrained_inMap (peer : Nat) : (s.braceTrained b peer true false).rf F.BRC_STATUS_IN_MAP b = 1 := by
  simp (disch := decide) [Sys.braceTrained, Sys.raise, Sys.rf_put_self]

theorem Sys.braceTrained_events (peer : Nat) (full bad : Bool) :
    (s.braceTrained b peer full bad).fcr.events = s.fcr.events ++ if (full && bad) = true then [⟨srcBrace b 2, 0⟩] else [] := by
  cases full <;> cases bad <;> simp [Sys.braceTrained, Sys.raise]

/-! ## Loss -/

/-- The link down, its source raised. -/
def Sys.braceLost (s : Sys) (b : Nat) : Sys :=
  { (s.put F.BRC_STATUS_STATE brcDown b).raise (srcBrace b 1) with brace := Bank.set s.brace b { s.braceSt b with downAt := some s.ticks } }

/-- Another link is up. -/
abbrev Sys.otherUp (s : Sys) (b : Nat) : Bool := (below 3).any (fun i => i != b && s.rf F.BRC_STATUS_STATE i == brcUp)

theorem Sys.braceLost_up : (below 3).any (fun i => (s.braceLost b).rf F.BRC_STATUS_STATE i == brcUp) = s.otherUp b := by
  have hone (i : Nat) : ((s.braceLost b).rf F.BRC_STATUS_STATE i == brcUp) = (i != b && s.rf F.BRC_STATUS_STATE i == brcUp) := by
    have hrf : (s.braceLost b).rf F.BRC_STATUS_STATE i = (s.put F.BRC_STATUS_STATE brcDown b).rf F.BRC_STATUS_STATE i := rfl
    rw [hrf]
    by_cases hi : i = b
    · subst hi
      rw [Sys.rf_put_self _ _ _ _ _ (by decide)]
      simp [brcDown, brcUp]
    · rw [Sys.rf_put_other _ _ _ _ _ _ _ _ (.inl fun e => hi (RK.mk.inj e).2.1.symm)]
      simp [hi]
  exact congrArg (List.any (below 3)) (funext hone)

theorem Sys.braceDown_up (h : s.rf F.BRC_STATUS_STATE b = brcUp) : s.braceDown b = (s.braceLost b).when (!s.otherUp b) (fun s => s.raise (srcGlobal 5)) := by
  rw [← s.braceLost_up b]
  exact if_pos h

theorem Sys.braceLost_frame : s.Frame (s.braceLost b) (brcReg b) [.fcr, .brace] :=
  ((s.braceStatus_frame b rfl _).trans (.raise _ _ _ rfl)).trans (.set_brace _ _ rfl)

end

/-- A write at an offset of the devices' pages. -/
theorem M.regWrite_device (x : M) (w : Who) {k : RK} {off : Nat} (v : Word) (fwd : Option Nat) (hp : x.sys.present k = true) (ho : 0x3000000 ≤ off) :
    x.regWrite w k off v fwd = x.deviceWrite w k v := by
  unfold M.regWrite
  rw [hp]
  exact (if_neg (by decide)).trans ((if_neg (by omega)).trans ((if_neg (by omega)).trans (if_neg (by omega))))

theorem braceSt_set (s : Sys) (b : Nat) (x : BraceSt) (t : Sys) (ht : t.brace = Bank.set s.brace b x) :
    t.braceSt b = x ∧ ∀ c, c ≠ b → t.braceSt c = s.braceSt c := by
  unfold Sys.braceSt
  rw [ht]
  exact ⟨Bank.getD_set_self .., fun c hc => Bank.getD_set_other _ _ _ _ _ hc.symm⟩

/-- Settles O38. -/
theorem braceLinks : Obligations.BraceLinks := by
  refine ⟨?train, ?down, ?ack, ?replay, ?clear⟩
  case train =>
    intro s b full id sock pl hl hst
    refine completes_onSys _ _ s _ hl rfl ?_
    rw [Sys.braceTrain_training _ _ hst, State.withSys_sys]
    refine ⟨Sys.braceTrained_peer .., ?_, fun hf hid hs => ?_, ?_, State.only_withSys (Sys.braceTrained_frame ..)⟩
    · rw [Sys.braceTrained_state]
      simp only [braceEnd, decide_eq_true_eq]
    · have hok : decide (s.sys.peerBad id sock) = false := decide_eq_false fun hc => hc.elim (· hid) hs
      rw [hf, hok]
      exact Sys.braceTrained_inMap ..
    · rw [Sys.braceTrained_events]
      simp only [Bool.and_eq_true, decide_eq_true_eq]
  case down =>
    intro s b hl hst
    refine completes_onSys _ _ s _ hl rfl ?_
    rw [Sys.braceDown_up _ _ hst, State.withSys_sys]
    generalize hup : s.sys.otherUp b = up
    have hup' : (below 3).any (fun i => i != b.val && s.sys.rf F.BRC_STATUS_STATE i == brcUp) = up := hup
    rw [hup']
    have hstate : (s.sys.braceLost b).rf F.BRC_STATUS_STATE b = brcDown := Sys.rf_put_self _ _ _ _ _ (by decide)
    have hbrace : ((s.sys.braceLost b).when (!up) (fun s => s.raise (srcGlobal 5))).brace =
        Bank.set s.sys.brace b { s.sys.braceSt b with downAt := some s.sys.ticks } := by
      rw [Sys.brace_when]
      split <;> rfl
    obtain ⟨hself, hother⟩ := braceSt_set s.sys b _ _ hbrace
    refine ⟨?_, by rw [hself], by rw [hself], ?_, fun c hc => hother c fun e => hc (Fin.ext e), State.only_withSys ?_⟩
    · rw [Sys.rf_when]
      split <;> exact hstate
    · rw [Sys.fcr_when]
      cases up
      · rfl
      · exact (List.append_nil _).symm
    · exact (s.sys.braceLost_frame b).trans (.when _ _ _ fun _ => .raise _ _ _ rfl)
  case ack =>
    intro s b seq hl
    refine completes_onSys _ _ s _ hl rfl ?_
    obtain ⟨hself, hother⟩ := braceSt_set s.sys b _ (s.sys.braceAck b seq) rfl
    rw [State.withSys_sys, hself]
    exact ⟨rfl, rfl, fun c hc => hother c fun e => hc (Fin.ext e), State.only_withSys (.set_brace _ _ rfl)⟩
  case replay =>
    intro s b hl hst
    refine completes_onSys _ _ s _ hl rfl ?_
    have he : s.sys.flitReplay b = (s.sys.bump F.BRC_STATUS_REPLAYS b).raise (srcBrace b 0) := if_pos hst
    rw [he, State.withSys_sys]
    exact ⟨Sys.rf_bump _ _ _ _ (by decide), rfl, State.only_withSys ((s.sys.braceStatus_frame b rfl _).trans (.raise _ _ _ rfl))⟩
  case clear =>
    intro s req b ht
    refine ht.completes (fun t => t.put F.BRC_STATUS_REPLAYS 0 b) rfl rfl (fun _ => rfl) (fun t h => ?_) fun t h => ?_
    · have ho : s.sys.offsetOf ⟨.BRC_CTL, b, 0⟩ = 0x3800008 + b * 0x10000 + 0 * 1 := rfl
      rw [ho]
      exact M.regWrite_device _ _ _ _ rfl (by omega)
    · rw [State.withSys_sys]
      have hst : (t.put F.BRC_STATUS_REPLAYS 0 b).rf F.BRC_STATUS_STATE b = s.sys.rf F.BRC_STATUS_STATE b :=
        (Sys.rf_put_bits _ _ _ _ _ _ _ _ (by decide)).trans (h.rf _ _ _ (by decide))
      exact ⟨Sys.rf_put_self _ _ _ _ _ (by decide), hst, State.only_withSys (h.frame_write (.put _ _ _ _ _ (by simp)) (fun k hk => by simp_all)
        (List.Subset.refl _))⟩

end Sys2Proof.Machine
end

section
/-!
SUPPORT. Frames that speak of one unit of its kind: one hart, slice, channel, engine or link changes and the others are as they were.
-/
namespace Sys2Proof.Machine

/-! ## One unit of a bank -/

section
variable {κ α : Type} {get : Sys → κ → α} {p : Part} {k : κ} {s t u : Sys} {but but' : RK → Bool} {parts parts' : List Part}

/-- Beside registers and parts only the unit `k` of the part `p` changes. -/
def Sys.FrameAt (get : Sys → κ → α) (p : Part) (k : κ) (s t : Sys) (but : RK → Bool) (parts : List Part) : Prop :=
  s.Frame t but (p :: parts) ∧ ∀ m, m ≠ k → get t m = get s m

theorem Sys.FrameAt.refl (s : Sys) : s.FrameAt get p k s but parts := ⟨.refl s, fun _ _ => rfl⟩

theorem Sys.FrameAt.trans (h : Sys.FrameAt get p k s t but parts) (g : Sys.FrameAt get p k t u but parts) : Sys.FrameAt get p k s u but parts :=
  ⟨h.1.trans g.1, fun m hm => (g.2 m hm).trans (h.2 m hm)⟩

theorem Sys.FrameAt.mono (h : Sys.FrameAt get p k s t but parts) (hb : ∀ r, but r = true → but' r = true) (hp : parts ⊆ parts') :
    Sys.FrameAt get p k s t but' parts' := ⟨h.1.mono hb (List.cons_subset_cons p hp), h.2⟩

/-- What changes no unit. -/
theorem Sys.FrameAt.of_frame (hget : ∀ {s t : Sys}, p.Same s t → get t = get s) (h : s.Frame t but parts) (hp : parts.contains p = false) :
    Sys.FrameAt get p k s t but parts :=
  ⟨h.parts_mono (List.subset_cons_self _ _), fun m _ => congrFun (hget (h.2 p hp)) m⟩

theorem Sys.FrameAt.when (s : Sys) (c : Bool) (f : Sys → Sys) (h : c = true → Sys.FrameAt get p k s (f s) but parts) :
    Sys.FrameAt get p k s (s.when c f) but parts := by
  cases c with
  | false => exact .refl s
  | true => exact h rfl

theorem Sys.FrameAt.ite {c : Prop} [Decidable c] (ht : c → Sys.FrameAt get p k s t but parts) (hu : ¬ c → Sys.FrameAt get p k s u but parts) :
    Sys.FrameAt get p k s (if c then t else u) but parts := by
  split
  · next hc => exact ht hc
  · next hc => exact hu hc

theorem Sys.FrameAt.each {β : Type} (s : Sys) (l : List β) (f : Sys → β → Sys) (h : ∀ t b, b ∈ l → Sys.FrameAt get p k t (f t b) but parts) :
    Sys.FrameAt get p k s (s.each l f) but parts := by
  unfold Sys.each
  induction l generalizing s with
  | nil => exact .refl s
  | cons b l ih => exact (h s b List.mem_cons_self).trans (ih (f s b) fun t c hc => h t c (List.mem_cons_of_mem b hc))

end

/-! ## Slices -/

section
variable {n : Nat} {s t : Sys} {but : RK → Bool} {parts : List Part}

/-- Of the slices only one changes. -/
abbrev Sys.FrameSlice (n : Nat) (s t : Sys) (but : RK → Bool) (parts : List Part) : Prop := Sys.FrameAt Sys.slice .slices n s t but parts

theorem Sys.slice_of_slices (h : t.slices = s.slices) : t.slice = s.slice := by
  funext m
  unfold Sys.slice
  rw [h]

theorem Sys.FrameSlice.of_frame (h : s.Frame t but parts) (hp : parts.contains .slices = false) : Sys.FrameSlice n s t but parts :=
  Sys.FrameAt.of_frame (fun h => Sys.slice_of_slices h) h hp

theorem Sys.FrameSlice.onSlice (s : Sys) (f : Slice → Slice) : Sys.FrameSlice n s (s.onSlice n f) but parts :=
  ⟨s.onSlice_frame n f rfl, fun _ hm => s.slice_onSlice_other n f hm⟩

theorem State.onlySlice_withSys {s : State} {y : Sys} (h : Sys.FrameSlice n s.sys y but parts) : s.OnlySlice (s.withSys y) n but parts :=
  ⟨State.only_withSys h.1, h.2⟩

theorem State.onlySlice_after {s : State} {x : M} (ho : x.ops = []) (h : Sys.FrameSlice n s.sys x.sys but parts) : s.OnlySlice (s.after x) n but parts :=
  ⟨State.only_after ho h.1, h.2⟩

end

/-! ## Channels -/

section
variable {m : Nat} {s t : Sys} {but : RK → Bool} {parts : List Part}

/-- Of the memory channels only one changes. -/
abbrev Sys.FrameChan (m : Nat) (s t : Sys) (but : RK → Bool) (parts : List Part) : Prop := Sys.FrameAt Sys.chan .chans m s t but parts

theorem Sys.chan_of_chans (h : t.chans = s.chans) : t.chan = s.chan := by
  funext m
  unfold Sys.chan
  rw [h]

theorem Sys.FrameChan.of_frame (h : s.Frame t but parts) (hp : parts.contains .chans = false) : Sys.FrameChan m s t but parts :=
  Sys.FrameAt.of_frame (fun h => Sys.chan_of_chans h) h hp

@[simp] theorem Sys.chan_onChan_self (s : Sys) (m : Nat) (f : Chan → Chan) : (s.onChan m f).chan m = f (s.chan m) := Bank.getD_set_self ..

theorem Sys.chan_onChan_other (s : Sys) (m : Nat) (f : Chan → Chan) {c : Nat} (h : c ≠ m) : (s.onChan m f).chan c = s.chan c :=
  Bank.getD_set_other _ _ _ _ _ h.symm

theorem Sys.FrameChan.onChan (s : Sys) (f : Chan → Chan) : Sys.FrameChan m s (s.onChan m f) but parts :=
  ⟨.set_chans s _ rfl, fun _ hc => s.chan_onChan_other m f hc⟩

theorem State.onlyChan_withSys {s : State} {y : Sys} (h : Sys.FrameChan m s.sys y but parts) : s.OnlyChan (s.withSys y) m but parts :=
  ⟨State.only_withSys h.1, h.2⟩

theorem State.onlyChan_after {s : State} {x : M} (ho : x.ops = []) (h : Sys.FrameChan m s.sys x.sys but parts) : s.OnlyChan (s.after x) m but parts :=
  ⟨State.only_after ho h.1, h.2⟩

end

/-! ## Harts -/

section
variable {s t u : Hart} {parts parts' : List HPart} {csrs csrs' : List Nat}

theorem HPart.Same.trans {q : HPart} (h : q.Same s t) (g : q.Same t u) : q.Same s u := by
  cases q with
  | mode => exact ⟨g.1.trans h.1, g.2.trans h.2⟩
  | pred => exact ⟨g.1.trans h.1, g.2.1.trans h.2.1, g.2.2.trans h.2.2⟩
  | tlb =>
    obtain ⟨h1, h2, h3, h4, h5, h6⟩ := h
    obtain ⟨g1, g2, g3, g4, g5, g6⟩ := g
    exact ⟨g1.trans h1, g2.trans h2, g3.trans h3, g4.trans h4, g5.trans h5, g6.trans h6⟩
  | _ => exact Eq.trans g h

theorem HPart.Same.refl (q : HPart) (s : Hart) : q.Same s s := by
  cases q with
  | mode => exact ⟨rfl, rfl⟩
  | pred => exact ⟨rfl, rfl, rfl⟩
  | tlb => exact ⟨rfl, rfl, rfl, rfl, rfl, rfl⟩
  | _ => rfl

theorem Hart.Keeps.refl (s : Hart) : s.Keeps s parts csrs := ⟨fun q _ => .refl q s, fun _ _ => rfl⟩

theorem Hart.Keeps.trans (h : s.Keeps t parts csrs) (g : t.Keeps u parts csrs) : s.Keeps u parts csrs :=
  ⟨fun q hq => (h.1 q hq).trans (g.1 q hq), fun n hn => (g.2 n hn).trans (h.2 n hn)⟩

theorem Hart.Keeps.mono (h : s.Keeps t parts csrs) (hp : parts ⊆ parts') (hc : csrs ⊆ csrs') : s.Keeps t parts' csrs' := by
  have hsub {β : Type} [BEq β] [LawfulBEq β] {l l' : List β} (hl : l ⊆ l') {b : β} (hb : l'.contains b = false) : l.contains b = false := by
    by_contra hc
    rw [List.contains_iff_mem.mpr (hl (List.contains_iff_mem.mp (Bool.eq_true_of_not_eq_false hc)))] at hb
    exact Bool.noConfusion hb
  exact ⟨fun q hq => h.1 q (hsub hp hq), fun n hn => h.2 n (hsub hc hn)⟩

/-- The same CSRs. -/
theorem Hart.Keeps.of_csr (hc : t.csr = s.csr) (h : ∀ q, parts.contains q = false → q.Same s t) : s.Keeps t parts csrs :=
  ⟨h, fun n _ => by unfold Hart.csrGet; rw [hc]⟩

/-- What differs in one part only. -/
theorem Hart.Keeps.of_part {p : HPart} (hc : t.csr = s.csr) (hp : parts.contains p = true) (h : ∀ q, q ≠ p → q.Same s t) : s.Keeps t parts csrs := by
  refine .of_csr hc fun q hq => h q ?_
  rintro rfl
  rw [hp] at hq
  exact Bool.noConfusion hq

theorem Hart.Keeps.set_x (s : Hart) (y : Bank Nat Word) (h : parts.contains .x = true) : s.Keeps { s with x := y } parts csrs :=
  .of_part rfl h (by intro q hq; cases q <;> first | exact absurd rfl hq | exact rfl | exact ⟨rfl, rfl⟩ | exact ⟨rfl, rfl, rfl⟩ | exact ⟨rfl, rfl, rfl, rfl, rfl, rfl⟩)
theorem Hart.Keeps.set_f (s : Hart) (y : Bank Nat Word) (h : parts.contains .f = true) : s.Keeps { s with f := y } parts csrs :=
  .of_part rfl h (by intro q hq; cases q <;> first | exact absurd rfl hq | exact rfl | exact ⟨rfl, rfl⟩ | exact ⟨rfl, rfl, rfl⟩ | exact ⟨rfl, rfl, rfl, rfl, rfl, rfl⟩)
theorem Hart.Keeps.set_v (s : Hart) (y : Bank Nat (BitVec 256)) (h : parts.contains .v = true) : s.Keeps { s with v := y } parts csrs :=
  .of_part rfl h (by intro q hq; cases q <;> first | exact absurd rfl hq | exact rfl | exact ⟨rfl, rfl⟩ | exact ⟨rfl, rfl, rfl⟩ | exact ⟨rfl, rfl, rfl, rfl, rfl, rfl⟩)
theorem Hart.Keeps.set_pc (s : Hart) (y : Word) (h : parts.contains .pc = true) : s.Keeps { s with pc := y } parts csrs :=
  .of_part rfl h (by intro q hq; cases q <;> first | exact absurd rfl hq | exact rfl | exact ⟨rfl, rfl⟩ | exact ⟨rfl, rfl, rfl⟩ | exact ⟨rfl, rfl, rfl, rfl, rfl, rfl⟩)
theorem Hart.Keeps.set_resv (s : Hart) (y : Option Nat) (h : parts.contains .resv = true) : s.Keeps { s with resv := y } parts csrs :=
  .of_part rfl h (by intro q hq; cases q <;> first | exact absurd rfl hq | exact rfl | exact ⟨rfl, rfl⟩ | exact ⟨rfl, rfl, rfl⟩ | exact ⟨rfl, rfl, rfl, rfl, rfl, rfl⟩)
theorem Hart.Keeps.set_rob (s : Hart) (y : List Uop) (h : parts.contains .rob = true) : s.Keeps { s with rob := y } parts csrs :=
  .of_part rfl h (by intro q hq; cases q <;> first | exact absurd rfl hq | exact rfl | exact ⟨rfl, rfl⟩ | exact ⟨rfl, rfl, rfl⟩ | exact ⟨rfl, rfl, rfl, rfl, rfl, rfl⟩)
theorem Hart.Keeps.set_sq (s : Hart) (y : List Senior) (h : parts.contains .sq = true) : s.Keeps { s with sq := y } parts csrs :=
  .of_part rfl h (by intro q hq; cases q <;> first | exact absurd rfl hq | exact rfl | exact ⟨rfl, rfl⟩ | exact ⟨rfl, rfl, rfl⟩ | exact ⟨rfl, rfl, rfl, rfl, rfl, rfl⟩)
theorem Hart.Keeps.set_wcb (s : Hart) (y : List WcBuf) (h : parts.contains .wcb = true) : s.Keeps { s with wcb := y } parts csrs :=
  .of_part rfl h (by intro q hq; cases q <;> first | exact absurd rfl hq | exact rfl | exact ⟨rfl, rfl⟩ | exact ⟨rfl, rfl, rfl⟩ | exact ⟨rfl, rfl, rfl, rfl, rfl, rfl⟩)
theorem Hart.Keeps.set_sfb (s : Hart) (y : List SfbEnt) (h : parts.contains .sfb = true) : s.Keeps { s with sfb := y } parts csrs :=
  .of_part rfl h (by intro q hq; cases q <;> first | exact absurd rfl hq | exact rfl | exact ⟨rfl, rfl⟩ | exact ⟨rfl, rfl, rfl⟩ | exact ⟨rfl, rfl, rfl, rfl, rfl, rfl⟩)
theorem Hart.Keeps.set_side (s : Hart) (y : List SideEnt) (h : parts.contains .side = true) : s.Keeps { s with side := y } parts csrs :=
  .of_part rfl h (by intro q hq; cases q <;> first | exact absurd rfl hq | exact rfl | exact ⟨rfl, rfl⟩ | exact ⟨rfl, rfl, rfl⟩ | exact ⟨rfl, rfl, rfl, rfl, rfl, rfl⟩)
theorem Hart.Keeps.set_own (s : Hart) (y : List Nat) (h : parts.contains .own = true) : s.Keeps { s with own := y } parts csrs :=
  .of_part rfl h (by intro q hq; cases q <;> first | exact absurd rfl hq | exact rfl | exact ⟨rfl, rfl⟩ | exact ⟨rfl, rfl, rfl⟩ | exact ⟨rfl, rfl, rfl, rfl, rfl, rfl⟩)
theorem Hart.Keeps.set_l1i (s : Hart) (y : List CLine) (h : parts.contains .l1i = true) : s.Keeps { s with l1i := y } parts csrs :=
  .of_part rfl h (by intro q hq; cases q <;> first | exact absurd rfl hq | exact rfl | exact ⟨rfl, rfl⟩ | exact ⟨rfl, rfl, rfl⟩ | exact ⟨rfl, rfl, rfl, rfl, rfl, rfl⟩)
theorem Hart.Keeps.set_l1d (s : Hart) (y : List CLine) (h : parts.contains .l1d = true) : s.Keeps { s with l1d := y } parts csrs :=
  .of_part rfl h (by intro q hq; cases q <;> first | exact absurd rfl hq | exact rfl | exact ⟨rfl, rfl⟩ | exact ⟨rfl, rfl, rfl⟩ | exact ⟨rfl, rfl, rfl, rfl, rfl, rfl⟩)
theorem Hart.Keeps.set_l2 (s : Hart) (y : List CLine) (h : parts.contains .l2 = true) : s.Keeps { s with l2 := y } parts csrs :=
  .of_part rfl h (by intro q hq; cases q <;> first | exact absurd rfl hq | exact rfl | exact ⟨rfl, rfl⟩ | exact ⟨rfl, rfl, rfl⟩ | exact ⟨rfl, rfl, rfl, rfl, rfl, rfl⟩)
theorem Hart.Keeps.set_loads (s : Hart) (y : Nat) (h : parts.contains .loads = true) : s.Keeps { s with loads := y } parts csrs :=
  .of_part rfl h (by intro q hq; cases q <;> first | exact absurd rfl hq | exact rfl | exact ⟨rfl, rfl⟩ | exact ⟨rfl, rfl, rfl⟩ | exact ⟨rfl, rfl, rfl, rfl, rfl, rfl⟩)
theorem Hart.Keeps.set_slots (s : Hart) (y : List (Nat × SlotEnt)) (h : parts.contains .slots = true) : s.Keeps { s with slots := y } parts csrs :=
  .of_part rfl h (by intro q hq; cases q <;> first | exact absurd rfl hq | exact rfl | exact ⟨rfl, rfl⟩ | exact ⟨rfl, rfl, rfl⟩ | exact ⟨rfl, rfl, rfl, rfl, rfl, rfl⟩)
theorem Hart.Keeps.set_fwalk (s : Hart) (y : List (Nat × WalkRes)) (h : parts.contains .fwalk = true) : s.Keeps { s with fwalk := y } parts csrs :=
  .of_part rfl h (by intro q hq; cases q <;> first | exact absurd rfl hq | exact rfl | exact ⟨rfl, rfl⟩ | exact ⟨rfl, rfl, rfl⟩ | exact ⟨rfl, rfl, rfl, rfl, rfl, rfl⟩)
theorem Hart.Keeps.set_replay (s : Hart) (y : List Word) (h : parts.contains .replay = true) : s.Keeps { s with replay := y } parts csrs :=
  .of_part rfl h (by intro q hq; cases q <;> first | exact absurd rfl hq | exact rfl | exact ⟨rfl, rfl⟩ | exact ⟨rfl, rfl, rfl⟩ | exact ⟨rfl, rfl, rfl, rfl, rfl, rfl⟩)
theorem Hart.Keeps.set_nextId (s : Hart) (y : Nat) (h : parts.contains .nextId = true) : s.Keeps { s with nextId := y } parts csrs :=
  .of_part rfl h (by intro q hq; cases q <;> first | exact absurd rfl hq | exact rfl | exact ⟨rfl, rfl⟩ | exact ⟨rfl, rfl, rfl⟩ | exact ⟨rfl, rfl, rfl, rfl, rfl, rfl⟩)
theorem Hart.Keeps.set_halted (s : Hart) (y : Bool) (h : parts.contains .halted = true) : s.Keeps { s with halted := y } parts csrs :=
  .of_part rfl h (by intro q hq; cases q <;> first | exact absurd rfl hq | exact rfl | exact ⟨rfl, rfl⟩ | exact ⟨rfl, rfl, rfl⟩ | exact ⟨rfl, rfl, rfl, rfl, rfl, rfl⟩)
theorem Hart.Keeps.set_wait (s : Hart) (y : HartWait) (h : parts.contains .wait = true) : s.Keeps { s with wait := y } parts csrs :=
  .of_part rfl h (by intro q hq; cases q <;> first | exact absurd rfl hq | exact rfl | exact ⟨rfl, rfl⟩ | exact ⟨rfl, rfl, rfl⟩ | exact ⟨rfl, rfl, rfl, rfl, rfl, rfl⟩)
theorem Hart.Keeps.set_late (s : Hart) (y : List LateCsr) (h : parts.contains .late = true) : s.Keeps { s with late := y } parts csrs :=
  .of_part rfl h (by intro q hq; cases q <;> first | exact absurd rfl hq | exact rfl | exact ⟨rfl, rfl⟩ | exact ⟨rfl, rfl, rfl⟩ | exact ⟨rfl, rfl, rfl, rfl, rfl, rfl⟩)
theorem Hart.Keeps.set_seen (s : Hart) (y : List Nat) (h : parts.contains .seen = true) : s.Keeps { s with seen := y } parts csrs :=
  .of_part rfl h (by intro q hq; cases q <;> first | exact absurd rfl hq | exact rfl | exact ⟨rfl, rfl⟩ | exact ⟨rfl, rfl, rfl⟩ | exact ⟨rfl, rfl, rfl, rfl, rfl, rfl⟩)
theorem Hart.Keeps.set_lost (s : Hart) (y : Option LostSt) (h : parts.contains .lost = true) : s.Keeps { s with lost := y } parts csrs :=
  .of_part rfl h (by intro q hq; cases q <;> first | exact absurd rfl hq | exact rfl | exact ⟨rfl, rfl⟩ | exact ⟨rfl, rfl, rfl⟩ | exact ⟨rfl, rfl, rfl, rfl, rfl, rfl⟩)
theorem Hart.Keeps.set_plru (s : Hart) (y : Bank (Nat × Nat) Nat) (h : parts.contains .plru = true) : s.Keeps { s with plru := y } parts csrs :=
  .of_part rfl h (by intro q hq; cases q <;> first | exact absurd rfl hq | exact rfl | exact ⟨rfl, rfl⟩ | exact ⟨rfl, rfl, rfl⟩ | exact ⟨rfl, rfl, rfl, rfl, rfl, rfl⟩)

end

section
variable {h : Nat} {s t u : Sys} {but but' : RK → Bool} {parts parts' : List Part} {hp hp' : List HPart} {csrs csrs' : List Nat}

/-- Of the harts only one changes, and of it only what is listed. -/
def Sys.FrameHart (h : Nat) (s t : Sys) (but : RK → Bool) (parts : List Part) (hp : List HPart) (csrs : List Nat) : Prop :=
  Sys.FrameAt Sys.hart .harts h s t but parts ∧ (s.hart h).Keeps (t.hart h) hp csrs

theorem Sys.FrameHart.refl (s : Sys) : s.FrameHart h s but parts hp csrs := ⟨.refl s, .refl _⟩

theorem Sys.FrameHart.trans (a : Sys.FrameHart h s t but parts hp csrs) (b : Sys.FrameHart h t u but parts hp csrs) :
    Sys.FrameHart h s u but parts hp csrs := ⟨a.1.trans b.1, a.2.trans b.2⟩

theorem Sys.FrameHart.mono (a : Sys.FrameHart h s t but parts hp csrs) (hb : ∀ r, but r = true → but' r = true) (hs : parts ⊆ parts') (hh : hp ⊆ hp')
    (hc : csrs ⊆ csrs') : Sys.FrameHart h s t but' parts' hp' csrs' := ⟨a.1.mono hb hs, a.2.mono hh hc⟩

theorem Sys.hart_of_harts (e : t.harts = s.harts) : t.hart = s.hart := by
  funext m
  unfold Sys.hart
  rw [e]

theorem Sys.FrameHart.of_frame (a : s.Frame t but parts) (hn : parts.contains .harts = false) : Sys.FrameHart h s t but parts hp csrs := by
  refine ⟨Sys.FrameAt.of_frame (fun h => Sys.hart_of_harts h) a hn, ?_⟩
  rw [Sys.hart_of_harts (a.2 .harts hn)]
  exact .refl _

@[simp] theorem Sys.hart_onHart_self (s : Sys) (h : Nat) (f : Hart → Hart) : (s.onHart h f).hart h = f (s.hart h) := Bank.getD_set_self ..

theorem Sys.hart_onHart_other (s : Sys) (h : Nat) (f : Hart → Hart) {g : Nat} (hg : g ≠ h) : (s.onHart h f).hart g = s.hart g :=
  Bank.getD_set_other _ _ _ _ _ hg.symm

theorem Sys.FrameHart.onHart (s : Sys) (f : Hart → Hart) (hf : (s.hart h).Keeps (f (s.hart h)) hp csrs) : Sys.FrameHart h s (s.onHart h f) but parts hp csrs :=
  ⟨⟨.set_harts s _ rfl, fun _ hg => s.hart_onHart_other h f hg⟩, by rw [Sys.hart_onHart_self]; exact hf⟩

theorem Sys.FrameHart.when (s : Sys) (c : Bool) (f : Sys → Sys) (a : c = true → Sys.FrameHart h s (f s) but parts hp csrs) :
    Sys.FrameHart h s (s.when c f) but parts hp csrs := by
  cases c with
  | false => exact .refl s
  | true => exact a rfl

theorem Sys.FrameHart.ite {c : Prop} [Decidable c] (ht : c → Sys.FrameHart h s t but parts hp csrs) (hu : ¬ c → Sys.FrameHart h s u but parts hp csrs) :
    Sys.FrameHart h s (if c then t else u) but parts hp csrs := by
  split
  · next hc => exact ht hc
  · next hc => exact hu hc

theorem Sys.FrameHart.each {β : Type} (s : Sys) (l : List β) (f : Sys → β → Sys) (a : ∀ t b, b ∈ l → Sys.FrameHart h t (f t b) but parts hp csrs) :
    Sys.FrameHart h s (s.each l f) but parts hp csrs := by
  unfold Sys.each
  induction l generalizing s with
  | nil => exact .refl s
  | cons b l ih => exact (a s b List.mem_cons_self).trans (ih (f s b) fun t c hc => a t c (List.mem_cons_of_mem b hc))

theorem State.onlyHart_withSys {s : State} {y : Sys} (a : Sys.FrameHart h s.sys y but parts hp csrs) : s.OnlyHart (s.withSys y) h but parts hp csrs :=
  ⟨State.only_withSys a.1.1, a.1.2, a.2⟩

theorem State.onlyHart_after {s : State} {x : M} (ho : x.ops = []) (a : Sys.FrameHart h s.sys x.sys but parts hp csrs) :
    s.OnlyHart (s.after x) h but parts hp csrs := ⟨State.only_after ho a.1.1, a.1.2, a.2⟩

end

end Sys2Proof.Machine
end

section
/-!
PROOFS. The cache levels of a core (R262 to R267): a write of TILE_CACHE_CTL works on the three levels in turn, each on its own eight bits.
-/
namespace Sys2Proof.Machine

/-! ## Accesses of a tile's register -/

/-- A write at an offset of the tiles' pages. -/
theorem M.regWrite_tile (x : M) (w : Who) {k : RK} {off : Nat} (v : Word) (fwd : Option Nat) (hp : x.sys.present k = true)
    (ho : 0x1000000 ≤ off ∧ off < 0x3000000) : x.regWrite w k off v fwd = x.tileWrite w k v := by
  unfold M.regWrite
  rw [hp]
  exact (if_neg (by decide)).trans ((if_neg (by omega)).trans ((if_neg (by omega)).trans (if_pos ho.2)))

/-- A read that takes effect, of a register outside the ICN, completes with what its register's read gives. -/
theorem State.Takes.completesRead {s : State} {c : Instr} {req : Requester} {k : RK} {p : State → Prop} (ht : s.Takes c)
    (ha : Instr.access c = some ⟨req, k, none, none⟩) (hc : exec c s = onM (fun x => x.rowRead req k) s) (hdom : ∀ t, Sys.domOf t k = none)
    (hp : ∀ t, s.sys.Known t → t.present k.canon = true → p (s.withSys ((t.regRead k.canon).2.answer (.done (t.regRead k.canon).1)))) : Completes c s p := by
  obtain ⟨hl, a, hmem, htakes⟩ := ht
  rw [ha] at hmem
  cases hmem
  refine ⟨_, ?_, hp _ (s.sys.opened_known _ hdom) htakes.2.1⟩
  rw [hc, onM_live _ s hl]
  exact congrArg (fun x => Host.Outcome.next (s.after x)) (Sys.Takes.read rfl htakes)

/-! ## The bits of a level -/

/-- The register of a core's levels. -/
abbrev ctlKey (h : Nat) : RK := ⟨.TILE_CACHE_CTL, h / 4, h % 4⟩
abbrev ctlReg (h : Nat) (k : RK) : Bool := k == ctlKey h

/-- A bit of a level. -/
def Sys.lvBit (s : Sys) (h lv off : Nat) : Nat := fget (s.cacheCtl h) (lvBase lv + off) 1

section
variable (s : Sys) (h lv off v : Nat)

@[simp] theorem Sys.cacheCtl_cacheCtlTo (w : Word) : (s.cacheCtlTo h w).cacheCtl h = w := Sys.rd_wr_self ..

theorem Sys.cacheCtlTo_frame (w : Word) : s.Frame (s.cacheCtlTo h w) (ctlReg h) [] := .wr _ _ _ (by simp)

theorem Sys.lvSeen_cacheCtlTo (w : Word) (lv' : Nat) : (s.cacheCtlTo h w).lvSeen h lv' = s.lvSeen h lv' := rfl

/-- Bits of the register that a put of one level's bits leaves. -/
theorem Sys.fget_lvPut_other {lo wd : Nat} (h64 : lo + wd ≤ 64) (ho : lo + wd ≤ lvBase lv + off ∨ lvBase lv + off + 1 ≤ lo) :
    fget ((s.lvPut h lv off v).cacheCtl h) lo wd = fget (s.cacheCtl h) lo wd := by
  unfold Sys.lvPut
  rw [Sys.cacheCtl_cacheCtlTo]
  exact fget_fput_other _ _ _ _ _ _ h64 ho.symm

theorem Sys.fget_lvTo_other {lo wd : Nat} (h64 : lo + wd ≤ 64) (ho : lo + wd ≤ lvBase lv + 4 ∨ lvBase lv + 6 ≤ lo) :
    fget ((s.lvTo h lv v).cacheCtl h) lo wd = fget (s.cacheCtl h) lo wd := by
  unfold Sys.lvTo
  rw [Sys.cacheCtl_cacheCtlTo]
  exact fget_fput_other _ _ _ _ _ _ h64 ho.symm

end

/-! ## What a write does to one level, stage by stage -/

section
variable (s : Sys) (h lv : Nat) (v : Word) (st : Nat)

/-- A bit of what is written for the level. -/
abbrev lvWr (lv : Nat) (v : Word) (o : Nat) : Prop := fget v (lvBase lv + o) 1 = 1

/-- The error bits written with 1. -/
def Sys.lvErrs : Sys := (s.when (lvWr lv v 6) (fun s => s.lvPut h lv 6 0)).when (lvWr lv v 7) (fun s => s.lvPut h lv 7 0)

/-- EN, on a level that was in state `st` (R263, R267). -/
def Sys.lvEn : Sys :=
  if lvWr lv v 0 then
    if st = lvInvalidating || st = lvDraining then s.lvPut h lv 6 1
    else if st = lvOn then s
    else if fget (s.cacheCtl h) (lvBase lv + 3) 1 = 1 && s.lvSeen h lv && !decide (lvWr lv v 1) then (s.lvTo h lv lvOn).lvPut h lv 0 1
    else s.lvPut h lv 7 1
  else if st = lvOn then
    (if lv = 0 then (((s.lvPut h lv 3 0).lvUnsee h lv).onHart h (fun t => { t with l1i := [] })).lvTo h lv lvOff
      else ((s.lvPut h lv 3 0).lvUnsee h lv).lvTo h lv lvDraining).lvPut h lv 0 0
  else (s.lvPut h lv 3 0).lvUnsee h lv

/-- INV. -/
def Sys.lvInv : Sys :=
  if lvWr lv v 1 then (if st = lvOff then (s.lvTo h lv lvInvalidating).lvPut h lv 1 1 else s.lvPut h lv 6 1) else s

/-- FLUSH. -/
def Sys.lvFlush : Sys :=
  if lvWr lv v 2 && lv ≠ 0 then (if st = lvOn then s.lvPut h lv 2 1 else s.lvPut h lv 6 1) else s

theorem Sys.levelWrite_stages : s.levelWrite h lv v =
    (((s.lvErrs h lv v).lvEn h lv v (s.lvState h lv)).lvInv h lv v (s.lvState h lv)).lvFlush h lv v (s.lvState h lv) := rfl

end

/-! ## The other levels -/

/-- A change of one level of a core. -/
def Sys.LevelWork (h lv : Nat) (s t : Sys) : Prop :=
  Sys.FrameHart h s t (ctlReg h) [] [.l1i, .seen] [] ∧
  (∀ lo wd, lo + wd ≤ 64 → lo + wd ≤ lvBase lv ∨ lvBase lv + 8 ≤ lo → fget (t.cacheCtl h) lo wd = fget (s.cacheCtl h) lo wd) ∧
  (∀ lv', lv' ≠ lv → t.lvSeen h lv' = s.lvSeen h lv') ∧ (lv ≠ 0 → (t.hart h).l1i = (s.hart h).l1i)

section
variable {h lv : Nat} {s t u : Sys}

theorem Sys.LevelWork.refl (s : Sys) : s.LevelWork h lv s := ⟨.refl s, fun _ _ _ _ => rfl, fun _ _ => rfl, fun _ => rfl⟩

theorem Sys.LevelWork.trans (a : Sys.LevelWork h lv s t) (b : Sys.LevelWork h lv t u) : Sys.LevelWork h lv s u := by
  obtain ⟨a1, a2, a3, a4⟩ := a
  obtain ⟨b1, b2, b3, b4⟩ := b
  exact ⟨a1.trans b1, fun lo wd h64 ho => (b2 lo wd h64 ho).trans (a2 lo wd h64 ho), fun l hl => (b3 l hl).trans (a3 l hl), fun h0 => (b4 h0).trans (a4 h0)⟩

theorem Sys.LevelWork.ite {c : Prop} [Decidable c] (ht : Sys.LevelWork h lv s t) (hu : Sys.LevelWork h lv s u) : Sys.LevelWork h lv s (if c then t else u) := by
  split
  · exact ht
  · exact hu

theorem Sys.LevelWork.when (s : Sys) (c : Bool) (f : Sys → Sys) (hf : Sys.LevelWork h lv s (f s)) : Sys.LevelWork h lv s (s.when c f) := by
  cases c with
  | false => exact .refl s
  | true => exact hf

theorem Sys.LevelWork.lvPut (s : Sys) (off v : Nat) (ho : off < 8) : s.LevelWork h lv (s.lvPut h lv off v) :=
  ⟨.of_frame (Sys.cacheCtlTo_frame ..) rfl, fun _ _ h64 hout => Sys.fget_lvPut_other _ _ _ _ _ h64 (by omega), fun _ _ => rfl, fun _ => rfl⟩

theorem Sys.LevelWork.lvTo (s : Sys) (v : Nat) : s.LevelWork h lv (s.lvTo h lv v) :=
  ⟨.of_frame (Sys.cacheCtlTo_frame ..) rfl, fun _ _ h64 hout => Sys.fget_lvTo_other _ _ _ _ h64 (by omega), fun _ _ => rfl, fun _ => rfl⟩

theorem Sys.LevelWork.lvUnsee (s : Sys) : s.LevelWork h lv (s.lvUnsee h lv) := by
  refine ⟨.onHart _ _ (.set_seen _ _ rfl), fun _ _ _ _ => rfl, fun l hl => ?_, fun _ => ?_⟩
  · unfold Sys.lvSeen Sys.lvUnsee
    rw [Sys.hart_onHart_self]
    rw [Bool.eq_iff_iff]
    simp only [List.contains_iff_mem, List.mem_filter, ne_eq, hl, not_false_eq_true, decide_true, and_true]
  · unfold Sys.lvUnsee
    rw [Sys.hart_onHart_self]

theorem Sys.LevelWork.dropL1i (s : Sys) : s.LevelWork h 0 (s.onHart h (fun t => { t with l1i := [] })) := by
  refine ⟨.onHart _ _ (.set_l1i _ _ rfl), fun _ _ _ _ => rfl, fun l hl => ?_, fun h0 => absurd rfl h0⟩
  unfold Sys.lvSeen
  rw [Sys.hart_onHart_self]

end

theorem Sys.lvErrs_work (s : Sys) (h lv : Nat) (v : Word) : Sys.LevelWork h lv s (s.lvErrs h lv v) :=
  (Sys.LevelWork.when _ _ _ (.lvPut _ _ _ (by decide))).trans (.when _ _ _ (.lvPut _ _ _ (by decide)))

theorem Sys.lvEn_work (s : Sys) (h lv : Nat) (v : Word) (st : Nat) : Sys.LevelWork h lv s (s.lvEn h lv v st) := by
  have hput (u : Sys) (off w : Nat) (ho : off < 8) : Sys.LevelWork h lv u (u.lvPut h lv off w) := .lvPut _ _ _ ho
  have hoff : Sys.LevelWork h lv s ((s.lvPut h lv 3 0).lvUnsee h lv) := (hput s 3 0 (by decide)).trans (.lvUnsee _)
  refine .ite (.ite (hput _ _ _ (by decide)) (.ite (.refl s) (.ite ((Sys.LevelWork.lvTo _ _).trans (hput _ _ _ (by decide))) (hput _ _ _ (by decide)))))
    (.ite (Sys.LevelWork.trans ?_ (hput _ _ _ (by decide))) hoff)
  split
  · next h0 =>
    subst h0
    exact (hoff.trans (.dropL1i _)).trans (.lvTo _ _)
  · exact hoff.trans (.lvTo _ _)

theorem Sys.lvInv_work (s : Sys) (h lv : Nat) (v : Word) (st : Nat) : Sys.LevelWork h lv s (s.lvInv h lv v st) :=
  .ite (.ite ((Sys.LevelWork.lvTo _ _).trans (.lvPut _ _ _ (by decide))) (.lvPut _ _ _ (by decide))) (.refl s)

theorem Sys.lvFlush_work (s : Sys) (h lv : Nat) (v : Word) (st : Nat) : Sys.LevelWork h lv s (s.lvFlush h lv v st) :=
  .ite (.ite (.lvPut _ _ _ (by decide)) (.lvPut _ _ _ (by decide))) (.refl s)

theorem Sys.levelWrite_work (s : Sys) (h lv : Nat) (v : Word) : Sys.LevelWork h lv s (s.levelWrite h lv v) := by
  rw [Sys.levelWrite_stages]
  exact (((s.lvErrs_work h lv v).trans (Sys.lvEn_work ..)).trans (Sys.lvInv_work ..)).trans (Sys.lvFlush_work ..)

/-! ## The level itself -/

/-- A level is in the two states as it was. -/
def Sys.SameLevel (h lv : Nat) (s t : Sys) : Prop :=
  (∀ off wd, off + wd ≤ 8 → fget (t.cacheCtl h) (lvBase lv + off) wd = fget (s.cacheCtl h) (lvBase lv + off) wd) ∧ t.lvSeen h lv = s.lvSeen h lv

theorem Sys.SameLevel.trans {h lv : Nat} {s t u : Sys} (a : Sys.SameLevel h lv s t) (b : Sys.SameLevel h lv t u) : Sys.SameLevel h lv s u :=
  ⟨fun off wd ho => (b.1 off wd ho).trans (a.1 off wd ho), b.2.trans a.2⟩

theorem Sys.LevelWork.same {h lv lv' : Nat} {s t : Sys} (a : Sys.LevelWork h lv s t) (hne : lv' ≠ lv) (h3 : lv' < 3) : Sys.SameLevel h lv' s t := by
  obtain ⟨-, hbits, hseen, -⟩ := a
  refine ⟨fun off wd ho => hbits _ _ ?_ ?_, hseen lv' hne⟩ <;> unfold lvBase <;> omega

/-- A write of TILE_CACHE_CTL is, for each level, a write of its fields of a level as it was, and leaves what that makes of it. -/
theorem Sys.cacheCtlWrite_level (s : Sys) (h : Nat) (v : Word) {lv : Nat} (h3 : lv < 3) :
    ∃ u, Sys.SameLevel h lv s u ∧ Sys.SameLevel h lv (u.levelWrite h lv v) (s.cacheCtlWrite h v) ∧
      (lv = 0 → ((s.cacheCtlWrite h v).hart h).l1i = ((u.levelWrite h lv v).hart h).l1i) := by
  have w0 := s.levelWrite_work h 0 v
  have w1 := (s.levelWrite h 0 v).levelWrite_work h 1 v
  have w2 := ((s.levelWrite h 0 v).levelWrite h 1 v).levelWrite_work h 2 v
  have hl1i : ((s.cacheCtlWrite h v).hart h).l1i = ((s.levelWrite h 0 v).hart h).l1i := (w2.2.2.2 (by decide)).trans (w1.2.2.2 (by decide))
  obtain rfl | rfl | rfl : lv = 0 ∨ lv = 1 ∨ lv = 2 := by omega
  · exact ⟨s, ⟨fun _ _ _ => rfl, rfl⟩, (w1.same (by decide) h3).trans (w2.same (by decide) h3), fun _ => hl1i⟩
  · exact ⟨_, w0.same (by decide) h3, w2.same (by decide) h3, fun e => absurd e (by decide)⟩
  · exact ⟨_, (w0.same (by decide) h3).trans (w1.same (by decide) h3), ⟨fun _ _ _ => rfl, rfl⟩, fun e => absurd e (by decide)⟩

theorem Sys.cacheCtlWrite_frame (s : Sys) (h : Nat) (v : Word) : Sys.FrameHart h s (s.cacheCtlWrite h v) (ctlReg h) [] [.l1i, .seen] [] :=
  ((s.levelWrite_work h 0 v).1.trans (Sys.levelWrite_work _ h 1 v).1).trans (Sys.levelWrite_work _ h 2 v).1

/-! ## What each stage makes of its level -/

section
variable {h lv : Nat} (h3 : lv < 3)

/-- Some bits of a level. -/
abbrev Sys.lvGet (s : Sys) (h lv off wd : Nat) : Nat := fget (s.cacheCtl h) (lvBase lv + off) wd

include h3

theorem Sys.lvPut_self (s : Sys) (off v : Nat) (ho : off < 8) : (s.lvPut h lv off v).lvGet h lv off 1 = v % 2 ^ 1 := by
  unfold Sys.lvPut Sys.lvGet
  rw [Sys.cacheCtl_cacheCtlTo, fget_fput_same _ _ _ _ (by unfold lvBase; omega)]

theorem Sys.lvPut_other (s : Sys) (off v : Nat) {o wd : Nat} (h8 : o + wd ≤ 8) (ho : o + wd ≤ off ∨ off + 1 ≤ o) :
    (s.lvPut h lv off v).lvGet h lv o wd = s.lvGet h lv o wd :=
  Sys.fget_lvPut_other _ _ _ _ _ (by unfold lvBase; omega) (by omega)

theorem Sys.lvTo_self (s : Sys) (v : Nat) : (s.lvTo h lv v).lvState h lv = v % 2 ^ 2 := by
  unfold Sys.lvTo Sys.lvState
  rw [Sys.cacheCtl_cacheCtlTo, fget_fput_same _ _ _ _ (by unfold lvBase; omega)]

theorem Sys.lvTo_other (s : Sys) (v : Nat) {o wd : Nat} (h8 : o + wd ≤ 8) (ho : o + wd ≤ 4 ∨ 6 ≤ o) :
    (s.lvTo h lv v).lvGet h lv o wd = s.lvGet h lv o wd :=
  Sys.fget_lvTo_other _ _ _ _ (by unfold lvBase; omega) (by omega)

theorem Sys.lvPut_state (s : Sys) (off v : Nat) (ho : off + 1 ≤ 4 ∨ 6 ≤ off) : (s.lvPut h lv off v).lvState h lv = s.lvState h lv :=
  Sys.lvPut_other h3 s off v (o := 4) (wd := 2) (by decide) (by omega)

theorem Sys.lvErrs_keep (s : Sys) (v : Word) {o wd : Nat} (ho : o + wd ≤ 6) : (s.lvErrs h lv v).lvGet h lv o wd = s.lvGet h lv o wd := by
  have hone (t : Sys) (c : Bool) (b : Nat) (hb : 6 ≤ b) : (t.when c (fun s => s.lvPut h lv b 0)).lvGet h lv o wd = t.lvGet h lv o wd := by
    cases c
    · rfl
    · exact Sys.lvPut_other h3 t b 0 (by omega) (by omega)
  exact (hone _ _ 7 (by decide)).trans (hone _ _ 6 (by decide))

theorem Sys.lvFlush_keep (s : Sys) (v : Word) (st : Nat) {o wd : Nat} (h8 : o + wd ≤ 8) (ho : o + wd ≤ 2 ∨ 3 ≤ o ∧ o + wd ≤ 6 ∨ 7 ≤ o) :
    (s.lvFlush h lv v st).lvGet h lv o wd = s.lvGet h lv o wd := by
  unfold Sys.lvFlush
  split
  · split <;> exact Sys.lvPut_other h3 s _ 1 h8 (by omega)
  · rfl

/-- INV on a level that is not OFF is an error at most. -/
theorem Sys.lvInv_keep (s : Sys) (v : Word) {st : Nat} (hst : st ≠ lvOff) {o wd : Nat} (h8 : o + wd ≤ 8) (ho : o + wd ≤ 6 ∨ 7 ≤ o) :
    (s.lvInv h lv v st).lvGet h lv o wd = s.lvGet h lv o wd := by
  unfold Sys.lvInv
  rw [if_neg hst]
  split
  · exact Sys.lvPut_other h3 s _ 1 h8 (by omega)
  · rfl

end

section
variable {h lv : Nat} (s : Sys) (v : Word) (st : Nat)

theorem Sys.lvErrs_seen : (s.lvErrs h lv v).lvSeen h lv = s.lvSeen h lv := by
  have hone (t : Sys) (c : Bool) (b : Nat) : (t.when c (fun s => s.lvPut h lv b 0)).lvSeen h lv = t.lvSeen h lv := by cases c <;> rfl
  exact (hone _ _ 7).trans (hone _ _ 6)

theorem Sys.lvInv_hart : (s.lvInv h lv v st).hart h = s.hart h := by
  unfold Sys.lvInv
  split
  · split <;> rfl
  · rfl

theorem Sys.lvFlush_hart : (s.lvFlush h lv v st).hart h = s.hart h := by
  unfold Sys.lvFlush
  split
  · split <;> rfl
  · rfl

end

/-! ## A write of one level -/

section
variable {h lv : Nat} {s : Sys} {v : Word} (h3 : lv < 3)
include h3

/-- INV on a level that is OFF. -/
theorem Sys.levelWrite_inv (hst : s.lvState h lv = lvOff) (hw : lvWr lv v 1) :
    (s.levelWrite h lv v).lvState h lv = lvInvalidating ∧ (s.levelWrite h lv v).lvGet h lv 1 1 = 1 := by
  rw [Sys.levelWrite_stages, hst]
  generalize (s.lvErrs h lv v).lvEn h lv v lvOff = t
  have hinv : t.lvInv h lv v lvOff = (t.lvTo h lv lvInvalidating).lvPut h lv 1 1 := (if_pos hw).trans (if_pos rfl)
  rw [hinv]
  refine ⟨(Sys.lvFlush_keep h3 _ v _ (o := 4) (wd := 2) (by decide) (by decide)).trans ?_, (Sys.lvFlush_keep h3 _ v _ (by decide) (by decide)).trans ?_⟩
  · exact (Sys.lvPut_state h3 _ 1 1 (by decide)).trans (Sys.lvTo_self h3 t _)
  · exact Sys.lvPut_self h3 _ 1 1 (by decide)

/-- EN on a level that is OFF, without INV: what its bits are after the write is what EN makes of them. -/
theorem Sys.levelWrite_enOff (hst : s.lvState h lv = lvOff) (h0 : lvWr lv v 0) (h1 : fget v (lvBase lv + 1) 1 = 0) {o wd : Nat} (h8 : o + wd ≤ 8)
    (ho : o + wd ≤ 2 ∨ 3 ≤ o ∧ o + wd ≤ 6 ∨ 7 ≤ o) : (s.levelWrite h lv v).lvGet h lv o wd =
      (if s.lvGet h lv 3 1 = 1 ∧ s.lvSeen h lv = true then ((s.lvErrs h lv v).lvTo h lv lvOn).lvPut h lv 0 1 else (s.lvErrs h lv v).lvPut h lv 7 1).lvGet h lv o wd := by
  rw [Sys.levelWrite_stages, hst]
  have hno : ¬ lvWr lv v 1 := by
    unfold lvWr
    omega
  have hinv (t : Sys) : t.lvInv h lv v lvOff = t := if_neg hno
  have hdone : fget ((s.lvErrs h lv v).cacheCtl h) (lvBase lv + 3) 1 = s.lvGet h lv 3 1 := Sys.lvErrs_keep h3 s v (by decide)
  rw [hinv, Sys.lvFlush_keep h3 _ v _ h8 ho]
  refine congrArg (fun t : Sys => t.lvGet h lv o wd) ?_
  refine (if_pos h0).trans ((if_neg (by decide)).trans ((if_neg (by decide)).trans ?_))
  rw [hdone, Sys.lvErrs_seen, decide_eq_false hno]
  simp only [Bool.not_false, Bool.and_true, Bool.and_eq_true, decide_eq_true_eq]

theorem Sys.levelWrite_on (hst : s.lvState h lv = lvOff) (h0 : lvWr lv v 0) (h1 : fget v (lvBase lv + 1) 1 = 0) (hd : s.lvGet h lv 3 1 = 1)
    (hs : s.lvSeen h lv = true) : (s.levelWrite h lv v).lvState h lv = lvOn ∧ (s.levelWrite h lv v).lvGet h lv 0 1 = 1 := by
  refine ⟨(Sys.levelWrite_enOff h3 hst h0 h1 (o := 4) (wd := 2) (by decide) (by decide)).trans ?_,
    (Sys.levelWrite_enOff h3 hst h0 h1 (by decide) (by decide)).trans ?_⟩ <;> rw [if_pos ⟨hd, hs⟩]
  · exact (Sys.lvPut_state h3 _ 0 1 (by decide)).trans (Sys.lvTo_self h3 _ _)
  · exact Sys.lvPut_self h3 _ 0 1 (by decide)

theorem Sys.levelWrite_refused (hst : s.lvState h lv = lvOff) (h0 : lvWr lv v 0) (h1 : fget v (lvBase lv + 1) 1 = 0)
    (hd : s.lvGet h lv 3 1 = 0 ∨ s.lvSeen h lv = false) : (s.levelWrite h lv v).lvState h lv = lvOff ∧ (s.levelWrite h lv v).lvGet h lv 7 1 = 1 := by
  have hno : ¬ (s.lvGet h lv 3 1 = 1 ∧ s.lvSeen h lv = true) := by
    rintro ⟨ha, hb⟩
    obtain hd | hd := hd
    · omega
    · rw [hb] at hd
      exact Bool.noConfusion hd
  refine ⟨(Sys.levelWrite_enOff h3 hst h0 h1 (o := 4) (wd := 2) (by decide) (by decide)).trans ?_,
    (Sys.levelWrite_enOff h3 hst h0 h1 (by decide) (by decide)).trans ?_⟩ <;> rw [if_neg hno]
  · exact (Sys.lvPut_state h3 _ 7 1 (by decide)).trans ((Sys.lvErrs_keep h3 s v (o := 4) (wd := 2) (by decide)).trans hst)
  · exact Sys.lvPut_self h3 _ 7 1 (by decide)

/-- EN 0 on a level that is ON, before INV and FLUSH are looked at: L1I is OFF and empty, the others drain. -/
def Sys.lvDown (s : Sys) (h lv : Nat) : Sys :=
  (if lv = 0 then (((s.lvPut h lv 3 0).lvUnsee h lv).onHart h (fun t => { t with l1i := [] })).lvTo h lv lvOff
    else ((s.lvPut h lv 3 0).lvUnsee h lv).lvTo h lv lvDraining).lvPut h lv 0 0

theorem Sys.lvDown_bits (s : Sys) : (s.lvDown h lv).lvGet h lv 0 1 = 0 ∧ (s.lvDown h lv).lvGet h lv 3 1 = 0 ∧
    (s.lvDown h lv).lvState h lv = if lv = 0 then lvOff else lvDraining := by
  have hdone : (s.lvPut h lv 3 0).lvGet h lv 3 1 = 0 := Sys.lvPut_self h3 s 3 0 (by decide)
  have hput (t : Sys) : (t.lvPut h lv 0 0).lvGet h lv 0 1 = 0 := Sys.lvPut_self h3 t 0 0 (by decide)
  have hkeep (t : Sys) : (t.lvPut h lv 0 0).lvGet h lv 3 1 = t.lvGet h lv 3 1 := Sys.lvPut_other h3 t 0 0 (by decide) (by decide)
  have hstate (t : Sys) : (t.lvPut h lv 0 0).lvState h lv = t.lvState h lv := Sys.lvPut_state h3 t 0 0 (by decide)
  have hto (t : Sys) (v : Nat) : (t.lvTo h lv v).lvGet h lv 3 1 = t.lvGet h lv 3 1 := Sys.lvTo_other h3 t v (by decide) (by decide)
  unfold Sys.lvDown
  refine ⟨hput _, (hkeep _).trans ?_, (hstate _).trans ?_⟩
  · split
    · exact (hto _ _).trans hdone
    · exact (hto _ _).trans hdone
  · split <;> exact Sys.lvTo_self h3 _ _

omit h3 in
theorem Sys.lvDown_hart (s : Sys) : (s.lvDown h lv).lvSeen h lv = false ∧ (lv = 0 → ((s.lvDown h lv).hart h).l1i = []) := by
  have hseen (t : Sys) : (t.lvUnsee h lv).lvSeen h lv = false := by
    unfold Sys.lvSeen Sys.lvUnsee
    rw [Sys.hart_onHart_self]
    simp
  have hclear (t : Sys) (f : Hart → Hart) (hf : ∀ u, (f u).seen = u.seen) : (t.onHart h f).lvSeen h lv = t.lvSeen h lv := by
    unfold Sys.lvSeen
    rw [Sys.hart_onHart_self, hf]
  unfold Sys.lvDown
  constructor
  · split
    · exact (hclear _ (fun t => { t with l1i := [] }) fun _ => rfl).trans (hseen _)
    · exact hseen _
  · intro h0
    rw [if_pos h0]
    exact congrArg Hart.l1i (Sys.hart_onHart_self _ h (fun t => { t with l1i := [] }))

/-- EN 0 on a level that is ON. -/
theorem Sys.levelWrite_off (hst : s.lvState h lv = lvOn) (h0 : fget v (lvBase lv) 1 = 0) :
    (s.levelWrite h lv v).lvGet h lv 0 1 = 0 ∧ (s.levelWrite h lv v).lvGet h lv 3 1 = 0 ∧ (s.levelWrite h lv v).lvSeen h lv = false ∧
      (s.levelWrite h lv v).lvState h lv = (if lv = 0 then lvOff else lvDraining) ∧ (lv = 0 → ((s.levelWrite h lv v).hart h).l1i = []) := by
  rw [Sys.levelWrite_stages, hst]
  have hno : ¬ lvWr lv v 0 := by
    unfold lvWr
    rw [Nat.add_zero]
    omega
  have hen : (s.lvErrs h lv v).lvEn h lv v lvOn = (s.lvErrs h lv v).lvDown h lv := (if_neg hno).trans (if_pos rfl)
  rw [hen]
  obtain ⟨hb0, hb3, hs⟩ := Sys.lvDown_bits h3 (s.lvErrs h lv v) (h := h)
  obtain ⟨hseen, hl1i⟩ := Sys.lvDown_hart (lv := lv) (s.lvErrs h lv v) (h := h)
  have hkeep (t : Sys) {o wd : Nat} (h8 : o + wd ≤ 8) (ho : o + wd ≤ 2 ∨ 3 ≤ o ∧ o + wd ≤ 6 ∨ 7 ≤ o) :
      ((t.lvInv h lv v lvOn).lvFlush h lv v lvOn).lvGet h lv o wd = t.lvGet h lv o wd :=
    (Sys.lvFlush_keep h3 _ v _ h8 ho).trans (Sys.lvInv_keep h3 _ v (by decide) h8 (by omega))
  have hhart (t : Sys) : ((t.lvInv h lv v lvOn).lvFlush h lv v lvOn).hart h = t.hart h := (Sys.lvFlush_hart _ v _).trans (Sys.lvInv_hart _ v _)
  refine ⟨(hkeep _ (by decide) (by decide)).trans hb0, (hkeep _ (by decide) (by decide)).trans hb3, ?_,
    (hkeep _ (o := 4) (wd := 2) (by decide) (by decide)).trans hs, fun hl => ?_⟩
  · unfold Sys.lvSeen at hseen ⊢
    rw [hhart]
    exact hseen
  · rw [hhart]
    exact hl1i hl

/-- FLUSH on a level that stays ON. -/
theorem Sys.levelWrite_flush (hst : s.lvState h lv = lvOn) (h0 : fget v (lvBase lv) 1 = 1) (h2 : lvWr lv v 2) (hlv : lv ≠ 0) :
    (s.levelWrite h lv v).lvGet h lv 2 1 = 1 ∧ (s.levelWrite h lv v).lvState h lv = lvOn := by
  rw [Sys.levelWrite_stages, hst]
  have hen (t : Sys) : t.lvEn h lv v lvOn = t := (if_pos h0).trans ((if_neg (by decide)).trans (if_pos rfl))
  have hflush (t : Sys) : t.lvFlush h lv v lvOn = t.lvPut h lv 2 1 := (if_pos (by rw [decide_eq_true h2, decide_eq_true hlv]; rfl)).trans (if_pos rfl)
  rw [hen, hflush]
  refine ⟨Sys.lvPut_self h3 _ 2 1 (by decide), (Sys.lvPut_state h3 _ 2 1 (by decide)).trans ?_⟩
  exact (Sys.lvInv_keep h3 _ v (by decide) (o := 4) (wd := 2) (by decide) (by decide)).trans ((Sys.lvErrs_keep h3 s v (o := 4) (wd := 2) (by decide)).trans hst)

end

end Sys2Proof.Machine
end

section
/-!
SUPPORT. What counting, sending, squashing and the loss of a line change of a core (R149, R160, R181, R195).
-/
namespace Sys2Proof.Machine

/-! ## Counters -/

/-- A CSR write that keeps what no counting changes. -/
theorem Hart.keepsCsrs_csrSet (t : Hart) (n : Nat) (v : Word) (csrs : List Nat) (h : v &&& csrKept n = t.csrGet n &&& csrKept n) :
    t.KeepsCsrs (t.csrSet n v) csrs := by
  intro m _
  by_cases hm : n = m
  · subst hm
    have hself : (t.csrSet n v).csrGet n = v := Bank.getD_set_self ..
    rw [hself, h]
  · have hother : (t.csrSet n v).csrGet m = t.csrGet m := Bank.getD_set_other _ _ _ _ _ hm
    rw [hother]

theorem Hart.keeps_csrSet {t : Hart} {n : Nat} {v : Word} {parts : List HPart} {csrs : List Nat} (h : v &&& csrKept n = t.csrGet n &&& csrKept n) :
    t.Keeps (t.csrSet n v) parts csrs :=
  ⟨fun q _ => by cases q <;> first | exact rfl | exact ⟨rfl, rfl⟩ | exact ⟨rfl, rfl, rfl⟩ | exact ⟨rfl, rfl, rfl, rfl, rfl, rfl⟩,
    t.keepsCsrs_csrSet n v csrs h⟩

/-- A bit of a word that a mask leaves out. -/
theorem fput_and_mask (w m : Word) (b v : Nat) (hm : ∀ i, i < 64 → m.getLsbD i = true → i ≠ b) : fput w b 1 v &&& m = w &&& m := by
  refine BitVec.eq_of_getLsbD_eq fun i hi => ?_
  rw [BitVec.getLsbD_and, BitVec.getLsbD_and]
  cases hb : m.getLsbD i with
  | false => rw [Bool.and_false, Bool.and_false]
  | true =>
    have hne := hm i hi hb
    rw [fput_getLsbD w b 1 v i hi, if_neg (by omega)]

theorem Hart.Keeps.ite {c : Prop} [Decidable c] {s t u : Hart} {parts : List HPart} {csrs : List Nat} (ht : s.Keeps t parts csrs) (hu : s.Keeps u parts csrs) :
    s.Keeps (if c then t else u) parts csrs := by
  split
  · exact ht
  · exact hu

theorem Hart.hpm1_keeps (t : Hart) (code i : Nat) (hi : 3 ≤ i ∧ i < 32) {parts : List HPart} {csrs : List Nat} : t.Keeps (t.hpm1 code i) parts csrs := by
  have hcount : csrKept (0xB00 + i) = 0#64 := if_pos (by omega)
  have hevent : csrKept (0x320 + i) = 0x7FFFFFFFFFFFFFFF := (if_neg (by omega)).trans (if_pos (by omega))
  have hmip : csrKept csrMip = 0xFFFFFFFFFFFFDFFF := by decide
  have h1 : t.Keeps (t.csrSet (0xB00 + i) (t.csrGet (0xB00 + i) + 1)) parts csrs := Hart.keeps_csrSet (by rw [hcount, BitVec.and_zero, BitVec.and_zero])
  have hev : (t.csrSet (0xB00 + i) (t.csrGet (0xB00 + i) + 1)).csrGet (0x320 + i) = t.csrGet (0x320 + i) := Bank.getD_set_other _ _ _ _ _ (by omega)
  have hother (u : Hart) (w : Word) : (u.csrSet (0x320 + i) w).csrGet csrMip = u.csrGet csrMip :=
    Bank.getD_set_other _ _ _ _ _ (by unfold csrMip; omega)
  refine .ite (.ite ((h1.trans (Hart.keeps_csrSet ?_)).trans (Hart.keeps_csrSet ?_)) h1) (.refl t)
  · rw [hevent, hev]
    exact fput_and_mask _ 0x7FFFFFFFFFFFFFFF 63 1 (by decide)
  · rw [hmip, hother]
    exact fput_and_mask _ 0xFFFFFFFFFFFFDFFF 13 1 (by decide)

theorem Hart.keeps_foldl {β : Type} {parts : List HPart} {csrs : List Nat} (l : List β) (f : Hart → β → Hart) (h : ∀ t b, b ∈ l → Hart.Keeps t (f t b) parts csrs)
    (t : Hart) : t.Keeps (l.foldl f t) parts csrs := by
  induction l generalizing t with
  | nil => exact .refl t
  | cons b l ih => exact (h t b List.mem_cons_self).trans (ih (fun t c hc => h t c (List.mem_cons_of_mem b hc)) (f t b))

section
variable {h : Nat} {but : RK → Bool} {parts : List Part} {hp : List HPart} {csrs : List Nat}

theorem Sys.hpm_frame (s : Sys) (code : Nat) : Sys.FrameHart h s (s.hpm h code) but parts hp csrs := by
  refine .ite (fun _ => .refl s) fun _ => .onHart s _ (Hart.keeps_foldl _ _ (fun t i hi => t.hpm1_keeps code i ?_) _)
  obtain ⟨j, hj, rfl⟩ := List.mem_map.mp hi
  have := List.mem_range.mp hj
  omega

/-! ## Requests of a core -/

/-- What the requests of a core may change of what the stops show. -/
theorem Sys.depart_frame_core (s : Sys) (i : Nat) {r : Req} {c : Nat} (hr : r.who = .core c) (hs : parts.contains .stops = true)
    (hm : parts.contains .msgs = true) : s.Frame (s.depart i r) but parts := by
  unfold Sys.depart
  split
  · exact .refl s
  · rw [hr]
    exact ((s.onStop_frame i _ hs).trans (.set_msgs _ _ hm)).trans (.when _ _ _ fun _ => Sys.onStop_frame _ i _ hs)

theorem Sys.send_frame_core (s : Sys) {r : Req} {c : Nat} (hr : r.who = .core c) : s.Frame (s.send r) grainReg stopParts := by
  refine .ite (fun _ => .ite (fun _ => .refl s) fun _ => .set_msgs s _ rfl) fun _ => ?_
  split
  · refine .ite (fun _ => .ite (fun _ => .refl s) fun _ => s.onStop_frame _ _ rfl) fun _ => ?_
    exact (s.depart_frame_core _ hr rfl rfl).trans (Sys.showStop_frame _ _ rfl)
  · exact .ite (fun _ => .refl s) fun _ => (s.onStop_frame _ _ rfl).trans (Sys.showStop_frame _ _ rfl)

/-! ## Squashes -/

/-- A change of a core by a squash: its reorder buffer, its fill buffer and its histories, with requests that it sends. -/
abbrev Sys.Squashes (h : Nat) (s t : Sys) : Prop := Sys.FrameHart h s t grainReg stopParts [.rob, .sfb, .pred] []

theorem Sys.sfbDrop_frame (s : Sys) (e : SfbEnt) : Sys.FrameHart h s (s.sfbDrop h e) grainReg stopParts [.sfb] [] := by
  have hsfb (u : Sys) (f : Hart → Hart) (hf : ∀ t, f t = { t with sfb := (f t).sfb }) : Sys.FrameHart h u (u.onHart h f) grainReg stopParts [.sfb] [] :=
    .onHart u f (by rw [hf]; exact .set_sfb _ _ rfl)
  refine Sys.FrameHart.trans (s.hpm_frame 0x42) (.ite (fun _ => hsfb _ _ fun _ => rfl) fun _ => ?_)
  exact (hsfb _ _ fun _ => rfl).trans (.when _ _ _ fun _ => .of_frame (Sys.send_frame_core _ rfl) rfl)

theorem Sys.sfbDrop_squashes (s : Sys) (e : SfbEnt) : Sys.Squashes h s (s.sfbDrop h e) :=
  (s.sfbDrop_frame e).mono (fun _ h => h) (List.Subset.refl _) (by decide) (List.Subset.refl _)

theorem Sys.sfbSweep_squashes (s : Sys) : Sys.Squashes h s (s.sfbSweep h) := .each _ _ _ fun t e _ => t.sfbDrop_squashes e

theorem Sys.squash_squashes (s : Sys) (i : Nat) : Sys.Squashes h s (s.squash h i) := by
  refine Sys.FrameHart.trans ?_ (Sys.sfbSweep_squashes _)
  refine Sys.FrameHart.trans (.onHart s (fun t => { t with rob := t.rob.take i, hist := _ }) ?_) (.when _ _ _ fun _ => Sys.hpm_frame _ _)
  exact .of_csr rfl fun q hq => by cases q <;> first | exact rfl | exact ⟨rfl, rfl⟩ | exact ⟨rfl, rfl, rfl, rfl, rfl, rfl⟩ | exact absurd hq (by decide)

theorem Sys.lineGone_squashes (s : Sys) (line : Nat) : Sys.Squashes h s (s.lineGone h line) := by
  unfold Sys.lineGone
  split
  · exact Sys.FrameHart.trans (s.hpm_frame 0x34) (Sys.squash_squashes _ _)
  · exact .refl s

end

end Sys2Proof.Machine
end

section
/-!
PROOFS. The states of a core's cache levels (R262 to R267).
-/
namespace Sys2Proof.Machine

/-! ## A write of TILE_CACHE_CTL -/

/-- The registers that a write of a core's levels changes. -/
abbrev ctlWrite (h : Nat) (k : RK) : Bool := ctlReg h k || k.reg == .SYS_CS_STATUS

theorem Sys.SameLevel.state {h lv : Nat} {s t : Sys} (a : Sys.SameLevel h lv s t) : t.lvState h lv = s.lvState h lv := a.1 4 2 (by decide)
theorem Sys.SameLevel.bit {h lv : Nat} {s t : Sys} (a : Sys.SameLevel h lv s t) {o : Nat} (ho : o < 8) : t.lvGet h lv o 1 = s.lvGet h lv o 1 := a.1 o 1 ho

theorem Sys.Touched.hart {s t : Sys} (h : s.Touched t) : t.hart = s.hart := Sys.hart_of_harts (h.part .harts rfl)

theorem Sys.Touched.sameLevel {s t : Sys} (g : s.Touched t) (h lv : Nat) : Sys.SameLevel h lv s t := by
  have hctl : t.cacheCtl h = s.cacheCtl h := g.2 _ (by simp)
  refine ⟨fun _ _ _ => by rw [hctl], ?_⟩
  unfold Sys.lvSeen
  rw [g.hart]

/-- A write of TILE_CACHE_CTL which takes effect: for each level there is the level as it was, and what the write of its fields makes of it. -/
theorem State.Takes.cacheWrite {s : State} {c : Instr} {req : Requester} {h : Fin 256} {w : Word} {lv : Nat} {p : State → Prop} (ht : s.Takes c)
    (ha : Instr.access c = some ⟨req, coreReg .TILE_CACHE_CTL h, some w, none⟩) (hc : exec c s = onM (fun x => x.rowWrite req (coreReg .TILE_CACHE_CTL h) w) s)
    (h3 : lv < 3) (hp : ∀ u t : Sys, Sys.SameLevel h lv s.sys u → Sys.SameLevel h lv (u.levelWrite h lv w) t →
      (lv = 0 → (t.hart h).l1i = ((u.levelWrite h lv w).hart h).l1i) → s.OnlyHart (s.withSys t) h (ctlWrite h) accessParts [.l1i, .seen] [] →
      p (s.withSys t)) : Completes c s p := by
  refine ht.completes (fun t => t.cacheCtlWrite h w) ha hc (fun _ => rfl) (fun t g => ?_) fun t g => ?_
  · have ho : s.sys.offsetOf (coreReg .TILE_CACHE_CTL h) = 0x1000300 + h.val / 4 * 0x10000 + h.val % 4 * 0x8 := rfl
    have hh : 4 * (h.val / 4) + h.val % 4 = h.val := Nat.div_add_mod _ _
    have hw : (⟨s.mem, t, []⟩ : M).tileWrite (s.sys.whoIs req).1 (coreReg .TILE_CACHE_CTL h) w = (⟨s.mem, t, []⟩ : M).on (fun t => t.cacheCtlWrite (4 * (h.val / 4) + h.val % 4) w) :=
      rfl
    rw [ho]
    refine (M.regWrite_tile _ _ _ _ rfl (by omega)).trans (hw.trans ?_)
    rw [hh]
  · obtain ⟨u, hsame, hres, hl1i⟩ := t.cacheCtlWrite_level h w h3
    refine hp u _ ((g.sameLevel h lv).trans hsame) hres hl1i (State.onlyHart_withSys ?_)
    have hacc : Sys.FrameHart h s.sys t (ctlWrite h) accessParts [.l1i, .seen] [] :=
      .of_frame (g.frame.regs_mono fun k hk => by simp_all [ctlWrite]) rfl
    have hwr := (t.cacheCtlWrite_frame h w).mono (but' := ctlWrite h) (parts' := accessParts) (fun k hk => by simp [ctlWrite, hk]) (List.nil_subset _)
      (List.Subset.refl _) (List.Subset.refl _)
    exact (hacc.trans hwr).trans (.of_frame (.answer _ _ rfl) rfl)

/-- The observation of one level. -/
def Sys.lvObserve (s : Sys) (h lv : Nat) : Sys :=
  if fget (s.cacheCtl h) (lvBase lv + 3) 1 = 1 && !s.lvSeen h lv then s.onHart h (fun t => { t with seen := lv :: t.seen }) else s

section
variable (s : Sys) (h lv : Nat)

theorem Sys.lvObserve_frame : Sys.FrameHart h s (s.lvObserve h lv) (fun _ => false) [] [.seen] [] :=
  .ite (fun _ => .onHart _ _ (.set_seen _ _ rfl)) fun _ => .refl s

theorem Sys.lvObserve_ctl : (s.lvObserve h lv).cacheCtl h = s.cacheCtl h := (s.lvObserve_frame h lv).1.1.1 _ rfl

theorem Sys.lvSeen_cons (l : Nat) : (s.onHart h (fun t => { t with seen := lv :: t.seen })).lvSeen h l = (l == lv || s.lvSeen h l) := by
  unfold Sys.lvSeen
  rw [Sys.hart_onHart_self]
  exact List.contains_cons

theorem Sys.lvObserve_self (hd : fget (s.cacheCtl h) (lvBase lv + 3) 1 = 1) : (s.lvObserve h lv).lvSeen h lv = true := by
  unfold Sys.lvObserve
  rw [decide_eq_true hd, Bool.true_and]
  cases hs : s.lvSeen h lv with
  | true => exact hs
  | false => exact (s.lvSeen_cons h lv lv).trans (by rw [beq_self_eq_true, Bool.true_or])

theorem Sys.lvObserve_mono {l : Nat} (hs : s.lvSeen h l = true) : (s.lvObserve h lv).lvSeen h l = true := by
  unfold Sys.lvObserve
  split
  · rw [Sys.lvSeen_cons, hs, Bool.or_true]
  · exact hs

end

/-- A read of a core's levels observes every invalidate that is done, and nothing else changes (R263). -/
theorem Sys.cacheCtlSeen_spec (s : Sys) (h : Nat) :
    (∀ lv, lv < 3 → fget (s.cacheCtl h) (lvBase lv + 3) 1 = 1 → (s.cacheCtlSeen h).lvSeen h lv = true) ∧
      Sys.FrameHart h s (s.cacheCtlSeen h) (fun _ => false) [] [.seen] [] := by
  have he : s.cacheCtlSeen h = ((s.lvObserve h 0).lvObserve h 1).lvObserve h 2 := rfl
  rw [he]
  refine ⟨fun lv h3 hd => ?_, ((s.lvObserve_frame h 0).trans (Sys.lvObserve_frame _ h 1)).trans (Sys.lvObserve_frame _ h 2)⟩
  obtain rfl | rfl | rfl : lv = 0 ∨ lv = 1 ∨ lv = 2 := by omega
  · exact Sys.lvObserve_mono _ h 2 (Sys.lvObserve_mono _ h 1 (s.lvObserve_self h 0 hd))
  · exact Sys.lvObserve_mono _ h 2 (Sys.lvObserve_self _ h 1 (by rw [Sys.lvObserve_ctl]; exact hd))
  · exact Sys.lvObserve_self _ h 2 (by rw [Sys.lvObserve_ctl, Sys.lvObserve_ctl]; exact hd)

/-! ## The ends of an invalidate and of a walk -/

/-- What an invalidate empties. -/
def Hart.emptied (t : Hart) (lv : Nat) : Hart :=
  match lv with
  | 0 => { t with l1i := [] }
  | 1 => { t with l1d := [] }
  | _ => { t with l2 := [], side := [] }

theorem Sys.cacheInvDone_eq {s : Sys} {h lv : Nat} (hst : s.lvState h lv = lvInvalidating) :
    s.cacheInvDone h lv = (((s.onHart h (fun t => t.emptied lv)).lvTo h lv lvOff).lvPut h lv 1 0).lvPut h lv 3 1 := if_pos hst

theorem Hart.emptied_keeps (t : Hart) (lv : Fin 3) : t.Keeps (t.emptied lv) (if lv = 0 then [.l1i] else if lv = 1 then [.l1d] else [.l2, .side]) [] :=
  match lv with
  | 0 => .set_l1i _ _ rfl
  | 1 => .set_l1d _ _ rfl
  | 2 => (Hart.Keeps.set_l2 t [] rfl).trans (.set_side _ _ rfl)

/-- A line that is there, after a change that keeps its place. -/
theorem lineIn_lineMap {l : List CLine} {n : Nat} {f : CLine → CLine} (hf : ∀ c, (f c).line = n) : lineIn (lineMap l n f) n = (lineIn l n).map f := by
  unfold lineIn lineMap
  induction l with
  | nil => rfl
  | cons c l ih =>
    by_cases hc : c.line = n
    · simp [hc, hf]
    · simp only [List.map_cons, hc, if_false, List.find?_cons, decide_false]
      exact ih

/-- A dirty L1D victim whose line L2 holds is merged there (R245). -/
def Sys.merged (s : Sys) (h : Nat) (c d : CLine) : Sys :=
  s.hartTo h { s.hart h with l2 := lineMap (s.hart h).l2 c.line (fun _ => { c with way := d.way, st := 3 }) }

theorem Sys.evictL1d_dirty {s : Sys} {h : Nat} {c d : CLine} (hc : c.st = 3) (hd : lineIn (s.hart h).l2 c.line = some d) :
    s.evictL1d h c = (s.merged h c d).lineGone h c.line := by
  unfold Sys.evictL1d
  simp only [hd, hc, decide_true, Bool.or_true, if_true]
  rfl

/-- L1D without its lines. -/
def Sys.noL1d (s : Sys) (h : Nat) : Sys := s.hartTo h { s.hart h with l1d := [] }

theorem Sys.hart_merged (s : Sys) (h : Nat) (c d : CLine) : (s.merged h c d).hart h =
    { s.hart h with l2 := lineMap (s.hart h).l2 c.line (fun _ => { c with way := d.way, st := 3 }) } := Bank.getD_set_self ..

theorem Sys.hart_noL1d (s : Sys) (h : Nat) : (s.noL1d h).hart h = { s.hart h with l1d := [] } := Bank.getD_set_self ..

/-- The end of a walk of L1D that finds one line, dirty, which L2 holds. -/
theorem Sys.walkDone_dirty {s : Sys} {h : Nat} {c d : CLine} (hw : s.lvState h 1 = lvDraining ∨ fget (s.cacheCtl h) 10 1 = 1)
    (hl : (s.hart h).l1d = [c]) (hc : c.st = 3) (hd : lineIn (s.hart h).l2 c.line = some d) :
    s.walkDone h 1 = ((((s.noL1d h).merged h c d).lineGone h c.line).lvPut h 1 2 0).when (s.lvState h 1 == lvDraining) (fun s => s.lvTo h 1 lvOff) := by
  have hd' : lineIn ((s.noL1d h).hart h).l2 c.line = some d := by
    unfold Sys.noL1d Sys.hartTo Sys.hart
    rw [Bank.getD_set_self]
    exact hd
  have hgo : ¬ (decide (1 = 0) || !(s.lvState h 1 == lvDraining || decide (fget (s.cacheCtl h) (lvBase 1 + 2) 1 = 1))) = true := by
    obtain hw | hw := hw
    · rw [hw]
      simp
    · have hbit : fget (s.cacheCtl h) (lvBase 1 + 2) 1 = 1 := hw
      rw [hbit]
      simp
  have hone : (s.noL1d h).each (s.hart h).l1d (fun s c => s.evictL1d h c) = ((s.noL1d h).merged h c d).lineGone h c.line := by
    rw [hl]
    exact Sys.evictL1d_dirty hc hd'
  unfold Sys.walkDone
  refine (if_neg hgo).trans ?_
  rw [← hone]
  rfl

/-- Settles O29. -/
theorem cacheLevels : Obligations.CacheLevels := by
  refine ⟨?inv, ?invDone, ?seen, ?sliceSeen, ?enable, ?disable, ?flush, ?walk⟩
  case inv =>
    intro s req h lv v ht hst
    refine ht.cacheWrite rfl rfl lv.isLt fun u t hu ht' _ hf => ?_
    obtain ⟨hs, hb⟩ := Sys.levelWrite_inv lv.isLt (hu.state.trans hst) (v := lvSet lv 1 1 v) (fget_fput_same _ _ _ _ (by unfold lvBase; omega))
    exact ⟨ht'.state.trans hs, (ht'.bit (by decide)).trans hb, hf⟩
  case invDone =>
    intro s h lv hl hst
    refine completes_onSys _ _ s _ hl rfl ?_
    rw [Sys.cacheInvDone_eq hst, State.withSys_sys]
    generalize hx : s.sys.onHart h (fun t => t.emptied lv) = x
    have hself : x.hart h = (s.sys.hart h).emptied lv := by rw [← hx, Sys.hart_onHart_self]
    have hhart : ((((x.lvTo h lv lvOff).lvPut h lv 1 0).lvPut h lv 3 1).hart h) = (s.sys.hart h).emptied lv := hself
    rw [hhart]
    refine ⟨?_, ?_, Sys.lvPut_self lv.isLt _ 3 1 (by decide), ?_, ?_, ?_, State.onlyHart_withSys ?_⟩
    · exact (Sys.lvPut_state lv.isLt _ 3 1 (by decide)).trans ((Sys.lvPut_state lv.isLt _ 1 0 (by decide)).trans (Sys.lvTo_self lv.isLt _ _))
    · exact (Sys.lvPut_other lv.isLt _ 3 1 (by decide) (by decide)).trans (Sys.lvPut_self lv.isLt _ 1 0 (by decide))
    · rintro rfl
      rfl
    · rintro rfl
      rfl
    · rintro rfl
      exact ⟨rfl, rfl⟩
    · rw [← hx]
      refine Sys.FrameHart.trans (.onHart _ (fun t => t.emptied lv) (Hart.emptied_keeps _ lv)) (.of_frame ?_ rfl)
      exact ((Sys.cacheCtlTo_frame ..).trans (Sys.cacheCtlTo_frame ..)).trans (Sys.cacheCtlTo_frame ..)
  case seen =>
    intro s req n c ht
    refine ht.completesRead rfl rfl (fun _ => rfl) fun t g _ => ?_
    have hh : (4 * n.val + c.val) / 4 = n.val ∧ (4 * n.val + c.val) % 4 = c.val := by omega
    have hread : t.regRead (RK.canon ⟨.TILE_CACHE_CTL, n, c⟩) = (t.rd ⟨.TILE_CACHE_CTL, n, c⟩, t.cacheCtlSeen (4 * n + c)) := rfl
    rw [hread, State.withSys_sys]
    have hctl : t.cacheCtl (4 * n + c) = s.sys.cacheCtl (4 * n + c) := g.rd _
    obtain ⟨hsees, hframe⟩ := t.cacheCtlSeen_spec (4 * n + c)
    refine ⟨fun lv hd => hsees lv lv.isLt (hctl ▸ hd), (hframe.1.1.1 _ rfl).trans hctl, State.onlyHart_withSys ?_⟩
    exact (Sys.FrameHart.trans (.of_frame g.frame rfl) (hframe.mono (fun _ h => Bool.noConfusion h) (List.nil_subset _) (List.Subset.refl _)
      (List.Subset.refl _))).trans (.of_frame (.answer _ _ rfl) rfl)
  case sliceSeen =>
    intro s req n ht
    refine ht.completesRead rfl rfl (fun _ => rfl) fun t g _ => ?_
    have hread : t.regRead (RK.canon ⟨.TILE_SLICE_CTL, n, 0⟩) = (t.rd ⟨.TILE_SLICE_CTL, n, 0⟩, t.sliceCtlSeen n) := rfl
    rw [hread, State.withSys_sys]
    have hon : t.on F.TILE_SLICE_CTL_INV_DONE n = s.sys.on F.TILE_SLICE_CTL_INV_DONE n := by
      unfold Sys.on Sys.rf
      rw [g.rd]
    refine ⟨fun hd => ?_, State.onlySlice_withSys ?_⟩
    · have he : t.sliceCtlSeen n = t.onSlice n (fun t => { t with observed := true }) := by
        unfold Sys.sliceCtlSeen
        rw [hon, hd]
        rfl
      rw [he]
      exact congrArg Slice.observed (Sys.slice_onSlice_self t n (fun t => { t with observed := true }))
    · have hseen : Sys.FrameSlice n t (t.sliceCtlSeen n) (fun k => k.reg == .SYS_CS_STATUS) accessParts :=
        .when _ _ _ fun _ => Sys.FrameSlice.onSlice _ _
      exact (Sys.FrameAt.trans (Sys.FrameSlice.of_frame g.frame rfl) hseen).trans (Sys.FrameSlice.of_frame (.answer _ _ rfl) rfl)
  case enable =>
    intro s req h lv v ht hst hv
    refine ht.cacheWrite rfl rfl lv.isLt fun u t hu ht' _ hf => ?_
    have h0 : lvWr lv (lvSet lv 0 1 v) 0 := fget_fput_same _ _ _ _ (by unfold lvBase; omega)
    have h1 : fget (lvSet lv 0 1 v) (lvBase lv + 1) 1 = 0 := (fget_fput_other _ _ _ _ _ _ (by unfold lvBase; omega) (by omega)).trans hv
    refine ⟨fun hd hs => ?_, fun hd => ?_, hf⟩
    · obtain ⟨ha, hb⟩ := Sys.levelWrite_on lv.isLt (hu.state.trans hst) h0 h1 ((hu.bit (by decide)).trans hd) (hu.2.trans hs)
      exact ⟨ht'.state.trans ha, (ht'.bit (by decide)).trans hb⟩
    · obtain ⟨ha, hb⟩ := Sys.levelWrite_refused lv.isLt (hu.state.trans hst) h0 h1 (hd.imp (hu.bit (by decide)).trans hu.2.trans)
      exact ⟨ht'.state.trans ha, (ht'.bit (by decide)).trans hb⟩
  case disable =>
    intro s req h lv v ht hst
    refine ht.cacheWrite rfl rfl lv.isLt fun u t hu ht' hl hf => ?_
    have h0 : fget (lvSet lv 0 0 v) (lvBase lv) 1 = 0 := fget_fput_same _ _ _ _ (by unfold lvBase; omega)
    obtain ⟨hb0, hb3, hs, hst', hl1i⟩ := Sys.levelWrite_off lv.isLt (hu.state.trans hst) h0
    refine ⟨(ht'.bit (by decide)).trans hb0, (ht'.bit (by decide)).trans hb3, ht'.2.trans hs, ht'.state.trans (hst'.trans ?_),
      fun h0 => (hl (congrArg Fin.val h0)).trans (hl1i (congrArg Fin.val h0)), hf⟩
    exact if_congr Fin.val_eq_zero_iff rfl rfl
  case flush =>
    intro s req h lv v ht hst hv
    have h3 : lv.val + 1 < 3 := by omega
    refine ht.cacheWrite rfl rfl h3 fun u t hu ht' _ hf => ?_
    have h0 : fget (lvSet (lv.val + 1) 2 1 v) (lvBase (lv.val + 1)) 1 = 1 := (fget_fput_other _ _ _ _ _ _ (by unfold lvBase; omega) (by omega)).trans hv
    obtain ⟨ha, hb⟩ := Sys.levelWrite_flush h3 (hu.state.trans hst) h0 (fget_fput_same _ _ _ _ (by unfold lvBase; omega)) (by omega)
    exact ⟨(ht'.bit (by decide)).trans ha, ht'.state.trans hb, hf⟩
  case walk =>
    intro s h c d hl hw hone hc hd
    refine completes_onSys _ _ s _ hl rfl ?_
    have hdone : s.sys.walkDone h ((1 : Fin 3) : Nat) = _ := Sys.walkDone_dirty hw hone hc hd
    rw [hdone, State.withSys_sys]
    generalize hy : ((s.sys.noL1d h).merged h c d).lineGone h c.line = y
    have hmerge : Sys.FrameHart h s.sys ((s.sys.noL1d h).merged h c d) grainReg stopParts [.l1d, .l2] [] :=
      Sys.FrameHart.trans (.onHart s.sys (fun t => { t with l1d := [] }) (.set_l1d _ _ rfl))
        (.onHart _ (fun t => { t with l2 := lineMap t.l2 c.line (fun _ => { c with way := d.way, st := 3 }) }) (.set_l2 _ _ rfl))
    have hgone : Sys.Squashes h ((s.sys.noL1d h).merged h c d) y := hy ▸ Sys.lineGone_squashes _ _
    have hy' : Sys.FrameHart h s.sys y grainReg stopParts [.l1d, .l2, .rob, .sfb, .pred] [] :=
      (hmerge.mono (fun _ h => h) (List.Subset.refl _) (by decide) (List.Subset.refl _)).trans
        (hgone.mono (fun _ h => h) (List.Subset.refl _) (by decide) (List.Subset.refl _))
    have hctl : y.cacheCtl h = s.sys.cacheCtl h := hy'.1.1.1 _ rfl
    have hl1d : (y.hart h).l1d = [] := by
      refine Eq.trans (hgone.2.1 .l1d rfl) ?_
      rw [Sys.hart_merged, Sys.hart_noL1d]
    have hl2 : (y.hart h).l2 = lineMap (s.sys.hart h).l2 c.line (fun _ => { c with way := d.way, st := 3 }) := by
      refine Eq.trans (hgone.2.1 .l2 rfl) ?_
      rw [Sys.hart_merged, Sys.hart_noL1d]
    have hhart : ((y.lvPut h 1 2 0).when (s.sys.lvState h 1 == lvDraining) (fun s => s.lvTo h 1 lvOff)).hart h = y.hart h := by
      cases s.sys.lvState h 1 == lvDraining <;> rfl
    rw [hhart, hl1d, hl2, lineIn_lineMap (f := fun _ => { c with way := d.way, st := 3 }) fun _ => rfl, hd]
    have hbit : (y.lvPut h 1 2 0).lvGet h 1 2 1 = 0 := Sys.lvPut_self (by decide) y 2 0 (by decide)
    have hstate : (y.lvPut h 1 2 0).lvState h 1 = s.sys.lvState h 1 :=
      (Sys.lvPut_state (by decide) y 2 0 (by decide)).trans (congrArg (fun w => fget w (lvBase 1 + 4) 2) hctl)
    have hput : Sys.FrameHart h s.sys (y.lvPut h 1 2 0) (fun k => ctlReg h k || grainReg k) sentParts [.l1d, .l2, .rob, .sfb, .pred] [] :=
      (hy'.mono (fun _ hk => Bool.or_eq_true_iff.mpr (.inr hk)) (by decide) (List.Subset.refl _) (List.Subset.refl _)).trans
        (.of_frame ((Sys.cacheCtlTo_frame ..).mono (fun _ hk => Bool.or_eq_true_iff.mpr (.inl hk)) (List.nil_subset _)) rfl)
    refine ⟨rfl, rfl, ?_, ?_, State.onlyHart_withSys (hput.trans (.when _ _ _ fun _ => .of_frame ?_ rfl))⟩
    · by_cases hdr : s.sys.lvState h 1 = lvDraining
      · rw [hdr]
        exact (Sys.lvTo_other (by decide) _ lvOff (o := 2) (wd := 1) (by decide) (by decide)).trans hbit
      · rw [beq_eq_false_iff_ne.mpr hdr]
        exact hbit
    · by_cases hdr : s.sys.lvState h 1 = lvDraining
      · rw [if_pos hdr, hdr]
        exact Sys.lvTo_self (by decide) _ lvOff
      · rw [if_neg hdr, beq_eq_false_iff_ne.mpr hdr]
        exact hstate
    · exact (Sys.cacheCtlTo_frame ..).mono (fun _ hk => Bool.or_eq_true_iff.mpr (.inl hk)) (List.nil_subset _)

end Sys2Proof.Machine
end

section
/-!
PROOFS. The control register of a slice (R263, R264, R268, R276, R280): the fields and the slice's own state by the changes that control and
status are made of, and what a write makes of each state.
-/
namespace Sys2Proof.Machine

/-! ## A slice's fields and its own state -/

section
variable (s : Sys) (n : Nat)

@[simp] theorem Sys.rf_onSlice (m : Nat) (g : Slice → Slice) (f : Fld) (i j : Nat) : (s.onSlice m g).rf f i j = s.rf f i j := rfl
@[simp] theorem Sys.slState_onSlice (m : Nat) (g : Slice → Slice) : (s.onSlice m g).slState n = s.slState n := rfl
@[simp] theorem Sys.slice_put (f : Fld) (v i j m : Nat) : (s.put f v i j).slice m = s.slice m := rfl
@[simp] theorem Sys.slice_slTo (v m : Nat) : (s.slTo n v).slice m = s.slice m := rfl

theorem Sys.slState_slTo (v : Nat) : (s.slTo n v).slState n = v % 2 ^ 4 := Sys.rf_put_self s F.TILE_SLICE_STATUS_STATE v n 0 (by decide)

theorem Sys.rf_slTo (v : Nat) (f : Fld) (h : f.reg ≠ .TILE_SLICE_STATUS ∨ f.lo + f.wd ≤ 64 ∧ 4 ≤ f.lo) : (s.slTo n v).rf f n = s.rf f n := by
  obtain h | h := h
  · exact Sys.rf_put_reg _ _ _ _ _ _ _ _ (Ne.symm h)
  · exact Sys.rf_put_bits _ _ _ _ _ _ _ _ ⟨h.1, .inl h.2⟩

theorem Sys.slState_put (f : Fld) (v i : Nat) (h : f.reg ≠ .TILE_SLICE_STATUS ∨ 4 ≤ f.lo) : (s.put f v i).slState n = s.slState n := by
  obtain h | h := h
  · exact Sys.rf_put_reg _ _ _ _ _ _ _ _ h
  · exact Sys.rf_put_bits _ _ _ _ _ _ _ _ ⟨by decide, .inr h⟩

/-- The registers that follow a slice's own state. -/
abbrev haReg (n : Nat) (k : RK) : Bool := (k.reg == .TILE_HA_STATUS || k.reg == .TILE_HA_EPOCH || k.reg == .TILE_SLICE_OCC) && k.i == n

theorem Sys.showHa_frame {parts : List Part} : s.Frame (s.showHa n) (haReg n) parts := by
  have hput (t : Sys) (f : Fld) (v j : Nat) (hf : (f.reg == .TILE_HA_STATUS || f.reg == .TILE_HA_EPOCH || f.reg == .TILE_SLICE_OCC) = true) :
      Sys.Frame t (t.put f v n j) (haReg n) parts := .put t f v n j (by simp only [haReg, hf, beq_self_eq_true, Bool.and_self])
  refine (((((((Sys.Frame.refl s).trans (hput _ _ _ _ rfl)).trans (hput _ _ _ _ rfl)).trans (hput _ _ _ _ rfl)).trans (hput _ _ _ _ rfl)).trans
    (hput _ _ _ _ rfl)).trans (hput _ _ _ _ rfl)).trans (.each _ _ _ fun t k _ => hput t _ _ _ rfl)

@[simp] theorem Sys.slice_showHa (m : Nat) : (s.showHa n).slice m = s.slice m := congrFun (Sys.slice_of_slices ((s.showHa_frame n (parts := [])).2 .slices rfl)) m

theorem Sys.rf_showHa (f : Fld) (i j : Nat) (h : haReg n ⟨f.reg, i, j⟩ = false) : (s.showHa n).rf f i j = s.rf f i j :=
  congrArg (fun w => fget w f.lo f.wd) ((s.showHa_frame n (parts := [])).1 _ h)

@[simp] theorem Sys.slState_showHa (m : Nat) : (s.showHa n).slState m = s.slState m := s.rf_showHa n _ _ _ rfl

end

/-! ## Frames of what control and status are made of -/

/-- A change of a slice's control, status, own state and what follows it. -/
abbrev Sys.SliceWork (n : Nat) (s t : Sys) : Prop := Sys.FrameSlice n s t (sliceReg n) []

section
variable (s : Sys) (n : Nat)

theorem Sys.SliceWork.put (f : Fld) (v : Nat) (hf : sliceRegs.contains f.reg = true) : Sys.SliceWork n s (s.put f v n) :=
  .of_frame (.put s f v n 0 (by unfold sliceReg; rw [hf, beq_self_eq_true, Bool.and_self])) rfl

theorem Sys.SliceWork.slTo (v : Nat) : Sys.SliceWork n s (s.slTo n v) := Sys.SliceWork.put s n _ v rfl

theorem Sys.SliceWork.onSlice (f : Slice → Slice) : Sys.SliceWork n s (s.onSlice n f) := Sys.FrameSlice.onSlice s f

theorem Sys.SliceWork.showHa : Sys.SliceWork n s (s.showHa n) := by
  refine .of_frame ((s.showHa_frame n).regs_mono fun k hk => ?_) rfl
  simp only [Bool.and_eq_true, Bool.or_eq_true, beq_iff_eq] at hk
  obtain ⟨(hk | hk) | hk, hi⟩ := hk <;> simp [sliceReg, sliceRegs, hk, hi]

theorem Sys.SliceWork.sliceOn : Sys.SliceWork n s (s.sliceOn n) := by
  exact (((Sys.SliceWork.slTo s n slOn).trans (Sys.SliceWork.put _ n _ 1 rfl)).trans (Sys.SliceWork.onSlice _ n _)).trans (Sys.SliceWork.showHa _ n)

end

/-! ## The stages of a write of TILE_SLICE_CTL -/

section
variable (s : Sys) (n : Nat) (v : Word) (st : Nat)

/-- The error bits that a write clears. -/
def Sys.slErrs : Sys :=
  (s.when (fget v 7 1 = 1) (fun s => s.put F.TILE_SLICE_CTL_CMD_ERR 0 n)).when (fget v 6 1 = 1) (fun s => s.put F.TILE_SLICE_CTL_EN_REFUSED 0 n)

/-- EN. -/
def Sys.slEn : Sys :=
  if fget v 0 1 = 1 then
    if st = slOn then s
    else if st = slReady && s.on F.TILE_SLICE_CTL_INV_DONE n && (s.slice n).observed && !decide (fget v 1 1 = 1) then s.sliceOn n
    else s.put F.TILE_SLICE_CTL_EN_REFUSED 1 n
  else
    let s := (s.put F.TILE_SLICE_CTL_INV_DONE 0 n).onSlice n (fun t => { t with observed := false })
    if st = slOn then (s.slTo n slDisabling).put F.TILE_SLICE_CTL_EN 0 n else s

/-- INV. -/
def Sys.slInv : Sys :=
  if fget v 1 1 = 1 then
    (if st = slReset then (s.slTo n slClearing).put F.TILE_SLICE_CTL_INV 1 n
     else if st = slReady then (s.slTo n slClearingData).put F.TILE_SLICE_CTL_INV 1 n
     else if st = slTested then (s.slTo n slClearingT).put F.TILE_SLICE_CTL_INV 1 n
     else s.put F.TILE_SLICE_CTL_CMD_ERR 1 n)
  else s

/-- RETIRE. -/
def Sys.slRetire : Sys :=
  if fget v 4 1 = 1 then (if [slReady, slOn, slDisabling].contains (s.slState n) then s.retireSlice n 2 else s.put F.TILE_SLICE_CTL_CMD_ERR 1 n) else s

/-- BIST. -/
def Sys.slBist : Sys :=
  if fget v 5 1 = 1 then (if s.slState n = slRetired then (s.slTo n slTesting).put F.TILE_SLICE_CTL_BIST 1 n else s.put F.TILE_SLICE_CTL_CMD_ERR 1 n) else s

theorem Sys.sliceCtlWrite_stages : s.sliceCtlWrite n v =
    ((((s.slErrs n v).slEn n v (s.slState n)).slInv n v (s.slState n)).slRetire n v).slBist n v := rfl

theorem Sys.slErrs_work : Sys.SliceWork n s (s.slErrs n v) := (Sys.FrameAt.when _ _ _ fun _ => Sys.SliceWork.put _ n _ 0 rfl).trans (.when _ _ _ fun _ => Sys.SliceWork.put _ n _ 0 rfl)

theorem Sys.slEn_work : Sys.SliceWork n s (s.slEn n v st) := by
  have hoff : Sys.SliceWork n s ((s.put F.TILE_SLICE_CTL_INV_DONE 0 n).onSlice n (fun t => { t with observed := false })) :=
    (Sys.SliceWork.put s n _ 0 rfl).trans (Sys.SliceWork.onSlice _ n _)
  exact .ite (fun _ => .ite (fun _ => .refl s) fun _ => .ite (fun _ => Sys.SliceWork.sliceOn s n) fun _ => Sys.SliceWork.put s n _ 1 rfl)
    fun _ => .ite (fun _ => hoff.trans ((Sys.SliceWork.slTo _ n slDisabling).trans (Sys.SliceWork.put _ n _ 0 rfl))) fun _ => hoff

theorem Sys.slInv_work : Sys.SliceWork n s (s.slInv n v st) := by
  have hto (w : Nat) : Sys.SliceWork n s ((s.slTo n w).put F.TILE_SLICE_CTL_INV 1 n) := (Sys.SliceWork.slTo s n w).trans (Sys.SliceWork.put _ n _ 1 rfl)
  exact .ite (fun _ => .ite (fun _ => hto _) fun _ => .ite (fun _ => hto _) fun _ => .ite (fun _ => hto _) fun _ => Sys.SliceWork.put s n _ 1 rfl) fun _ => .refl s

theorem Sys.slBist_work : Sys.SliceWork n s (s.slBist n v) :=
  .ite (fun _ => .ite (fun _ => (Sys.SliceWork.slTo s n slTesting).trans (Sys.SliceWork.put _ n _ 1 rfl)) fun _ => Sys.SliceWork.put s n _ 1 rfl) fun _ => .refl s

theorem Sys.slErrs_state : (s.slErrs n v).slState n = s.slState n := by
  have hone (t : Sys) (c : Bool) (f : Fld) (hf : f.reg ≠ .TILE_SLICE_STATUS) : (t.when c (fun s => s.put f 0 n)).slState n = t.slState n := by
    cases c
    · rfl
    · exact Sys.slState_put t n f 0 n (.inl hf)
  exact (hone _ _ _ (by decide)).trans (hone _ _ _ (by decide))

theorem Sys.slErrs_on {f : Fld} (hf : f.lo + f.wd ≤ 6) : (s.slErrs n v).on f n = s.on f n := by
  have hone (t : Sys) (c : Bool) (g : Fld) (hg : 6 ≤ g.lo) : (t.when c (fun s => s.put g 0 n)).on f n = t.on f n := by
    cases c
    · rfl
    · exact congrArg (· == 1) (Sys.rf_put_bits _ _ _ _ _ _ _ _ ⟨by omega, .inr (by omega)⟩)
  exact (hone _ _ _ (by decide)).trans (hone _ _ _ (by decide))

theorem Sys.slErrs_slice (m : Nat) : (s.slErrs n v).slice m = s.slice m := by
  have hone (t : Sys) (c : Bool) (f : Fld) : (t.when c (fun s => s.put f 0 n)).slice m = t.slice m := by cases c <;> rfl
  exact (hone _ _ _).trans (hone _ _ _)

end
end Sys2Proof.Machine
end

section
/-!
PROOFS. An error of the data array of a slice (R258, R259, R261): what is logged, and what becomes of the sub-block.
-/
namespace Sys2Proof.Machine

/-! ## Single bits -/

theorem bit_eq_testBit (m i : Nat) : bit m i = m.testBit i := by
  rw [Nat.testBit_eq_decide_div_mod_eq]
  unfold bit
  rw [Nat.shiftRight_eq_div_pow]
  rfl

theorem bit_setBit_true (m i : Nat) : bit (setBit m i true) i = true := by
  rw [bit_eq_testBit]
  simp [setBit]

theorem bit_setBit_false (m i : Nat) : bit (setBit m i false) i = false := by
  have hset : setBit m i false = m - (m.testBit i).toNat * 2 ^ i := congrArg (m - ·) (Nat.and_two_pow m i)
  rw [hset, bit_eq_testBit]
  cases h : m.testBit i
  · simpa using h
  · have hodd : m / 2 ^ i % 2 = 1 := by
      rw [Nat.testBit_eq_decide_div_mod_eq] at h
      exact of_decide_eq_true h
    have hdiv := Nat.sub_mul_div m (2 ^ i) 1
    rw [Nat.mul_one] at hdiv
    rw [Nat.testBit_eq_decide_div_mod_eq, Bool.toNat_true, Nat.one_mul, hdiv]
    simp only [decide_eq_false_iff_not]
    omega

/-! ## Sectors -/

section
variable {s t : Sys} {n l : Nat} {e : Sector}

theorem Sys.llcUp_of_sector (h : s.sector n l = some e) : s.llcUp n = true := by
  by_contra hno
  rw [Sys.sector, if_neg hno] at h
  cases h

theorem Sys.sector_up (h : s.llcUp n = true) : s.sector n l = (s.slice n).sectors.find? (fun e => e.q = l / 4) := if_pos h

theorem Sys.sector_q (h : s.sector n l = some e) : e.q = l / 4 := by
  rw [Sys.sector_up (Sys.llcUp_of_sector h)] at h
  simpa using List.find?_some h

theorem Sys.llcUp_of_state (h : t.slState n = s.slState n) : t.llcUp n = s.llcUp n := by
  unfold Sys.llcUp
  rw [h]

/-- A slice's sectors, each with its sub-block of a line changed in the sector that has it. -/
theorem Sys.sector_map (hs : t.slState n = s.slState n) (g : Sector → Sector) (hg : ∀ f, (g f).q = f.q) (ht : (t.slice n).sectors = (s.slice n).sectors.map g) :
    t.sector n l = (s.sector n l).map g := by
  unfold Sys.sector
  rw [Sys.llcUp_of_state hs, ht, List.find?_map]
  have hp : (fun e : Sector => decide (e.q = l / 4)) ∘ g = fun e => decide (e.q = l / 4) := by
    funext f
    simp only [Function.comp_apply, hg]
  rw [hp]
  split <;> rfl

/-- A cleared sub-block is not valid in whatever sector is left for its line. -/
theorem Sys.sector_llcClear (ht : t.slice n = (s.llcClear n l).slice n) : (t.sector n l).all (fun f => !bit f.v (l % 4)) = true := by
  unfold Sys.sector
  split
  · rw [ht]
    unfold Sys.llcClear
    rw [Sys.slice_onSlice_self]
    cases h : List.find? _ _ with
    | none => rfl
    | some f =>
      obtain ⟨e, -, he⟩ := List.mem_map.mp (List.mem_filter.mp (List.mem_of_find?_eq_some h)).1
      have hq : f.q = l / 4 := by simpa using List.find?_some h
      by_cases heq : e.q = l / 4
      · rw [if_pos heq] at he
        rw [← he]
        simp [bit_setBit_false]
      · rw [if_neg heq] at he
        exact absurd (he ▸ hq) heq
  · rfl

end

/-! ## What is logged -/

/-- The registers of a slice's errors. -/
abbrev llcErrReg (n : Nat) (k : RK) : Bool := (k.reg == .TILE_SLICE_ERRLOG || k.reg == .TILE_SLICE_ERRADDR || k.reg == .TILE_SLICE_OCC) && k.i == n

section
variable (s : Sys) (n array set way sub symbol : Nat) (line : Option Nat) (ue poison : Bool)

theorem Sys.sliceLog_frame {parts : List Part} : s.Frame (s.sliceLog n array set way sub symbol line ue poison) (llcErrReg n) parts := by
  have hwr (t : Sys) (k : RK) (w : Word) (hk : llcErrReg n k = true) : t.Frame (t.wr k w) (llcErrReg n) parts := .wr t k w hk
  have hlog : llcErrReg n ⟨.TILE_SLICE_ERRLOG, n, 0⟩ = true := by simp
  have haddr : llcErrReg n ⟨.TILE_SLICE_ERRADDR, n, 0⟩ = true := by simp
  unfold Sys.sliceLog
  refine .ite (fun _ => .trans (.ite (fun _ => (hwr _ _ _ hlog).trans (hwr _ _ _ haddr)) fun _ => .refl s) (.bump _ _ n 0 hlog))
    fun _ => .ite (fun _ => (hwr _ _ _ hlog).trans (hwr _ _ _ haddr)) fun _ => hwr _ _ _ hlog

end

/-! ## An error of the data array -/

/-- Every sub-block of a line, its data lost: poisoned. -/
def Sector.spoilt (l q : Nat) (f : Sector) : Sector := if f.q = q then { f with data := f.data.set (l % 4) 0, p := setBit f.p (l % 4) true } else f

/-- A sub-block whose data is lost. -/
def Sys.spoil (s : Sys) (n l q : Nat) : Sys := s.onSlice n (fun t => { t with sectors := t.sectors.map (Sector.spoilt l q) })

/-- A spoilt sub-block is poisoned, and dirty as it was. -/
theorem Sys.sector_spoil {s t : Sys} {n l : Nat} {e : Sector} (h : s.sector n l = some e) (hd : bit e.d (l % 4) = true) (hs : t.slState n = s.slState n)
    (ht : t.slice n = (s.spoil n l e.q).slice n) : (t.sector n l).map (fun f => (bit f.p (l % 4), bit f.d (l % 4))) = some (true, true) := by
  have hmap : t.sector n l = (s.sector n l).map (Sector.spoilt l e.q) := by
    refine Sys.sector_map hs _ (fun f => ?_) (ht ▸ congrArg Slice.sectors (Sys.slice_onSlice_self s n _))
    unfold Sector.spoilt
    split <;> rfl
  have hself : e.spoilt l e.q = { e with data := e.data.set (l % 4) 0, p := setBit e.p (l % 4) true } := if_pos rfl
  rw [hmap, h, Option.map_some, Option.map_some, hself]
  simp only [bit_setBit_true, hd]

section
variable {x : M} {n : Nat} {line : Line} {e : Sector} (h : x.sys.sector n line.toNat = some e)
include h

theorem M.llcError_dirty (hd : bit e.d (line.toNat % 4) = true) : x.llcError n (.data line) = x.on (fun s =>
    ((s.spoil n line.toNat e.q).sliceLog n 1 (llcSet e.q) e.way (line.toNat % 4) 63 (some line.toNat) true true).raise (srcTile n 5)) := by
  unfold M.llcError
  simp only [h, hd, if_true]
  rfl

theorem M.llcError_clean (hd : bit e.d (line.toNat % 4) = false) (hv : bit e.v (line.toNat % 4) = true) : x.llcError n (.data line) = x.on (fun s =>
    ((s.llcClear n line.toNat).sliceLog n 1 (llcSet e.q) e.way (line.toNat % 4) 63 (some line.toNat) false false).raise (srcTile n 4)) := by
  unfold M.llcError
  simp only [h, hd, hv, if_true, Bool.false_eq_true, if_false]
  rfl

theorem M.llcError_invalid (hd : bit e.d (line.toNat % 4) = false) (hv : bit e.v (line.toNat % 4) = false) : x.llcError n (.data line) = x := by
  unfold M.llcError
  simp only [h, hd, hv, Bool.false_eq_true, if_false]

end
end Sys2Proof.Machine
end

section
/-!
PROOFS. The states of a slice (R263, R264, R268, R276 to R282): writes of its control register, and the ends of its works.
-/
namespace Sys2Proof.Machine

theorem Sys.Touched.slice {s t : Sys} (g : s.Touched t) : t.slice = s.slice := Sys.slice_of_slices (g.part .slices rfl)
theorem Sys.Touched.slState {s t : Sys} (g : s.Touched t) (n : Nat) : t.slState n = s.slState n := g.rf _ n 0 (by decide)

/-- What a write of a slice's control register may change. -/
abbrev sliceWriteReg (n : Nat) (k : RK) : Bool := sliceReg n k || k.reg == .SYS_CS_STATUS

/-- A write of TILE_SLICE_CTL which takes effect completes with what the write makes of a slice as it was. -/
theorem State.Takes.sliceWrite {s : State} {c : Instr} {req : Requester} {n : Fin 64} {w : Word} {p : State → Prop} (ht : s.Takes c)
    (ha : Instr.access c = some ⟨req, ⟨.TILE_SLICE_CTL, n, 0⟩, some w, none⟩) (hc : exec c s = onM (fun x => x.rowWrite req ⟨.TILE_SLICE_CTL, n, 0⟩ w) s)
    (hp : ∀ u, s.sys.Touched u → p (s.withSys ((u.sliceCtlWrite n w).answer (.done 0)))) : Completes c s p := by
  refine ht.completes (fun t => t.sliceCtlWrite n w) ha hc (fun _ => rfl) (fun t g => ?_) hp
  have ho : s.sys.offsetOf ⟨.TILE_SLICE_CTL, n, 0⟩ = 0x1000400 + n.val * 0x10000 + 0 * 0x0 := rfl
  rw [ho]
  exact (M.regWrite_tile _ _ _ _ rfl (by omega)).trans rfl

/-- The frame of such a write. -/
theorem Sys.Touched.onlySlice {s : State} {u y : Sys} {n : Nat} {parts : List Part} (g : s.sys.Touched u) (hy : Sys.FrameSlice n u y (sliceReg n) parts)
    (hp : parts.contains .slices = false) : s.OnlySlice (s.withSys (y.answer (.done 0))) n (sliceWriteReg n) (parts ++ accessParts) := by
  have hpa : (parts ++ accessParts).contains .slices = false := by
    rw [List.contains_eq_any_beq, List.any_append, ← List.contains_eq_any_beq, hp]
    rfl
  have hacc : Sys.FrameSlice n s.sys u (sliceWriteReg n) (parts ++ accessParts) :=
    .of_frame (g.frame.mono (fun k hk => Bool.or_eq_true_iff.mpr (.inr hk)) (List.subset_append_right _ _)) hpa
  have hwr := hy.mono (but' := sliceWriteReg n) (parts' := parts ++ accessParts) (fun k hk => Bool.or_eq_true_iff.mpr (.inl hk)) (List.subset_append_left _ _)
  exact State.onlySlice_withSys ((hacc.trans hwr).trans (Sys.FrameSlice.of_frame (.answer _ _ (by simp [accessParts])) hpa))

section
variable {s : Sys} {n : Nat} {v : Word}

/-- A write without INV, RETIRE and BIST is what EN does. -/
theorem Sys.sliceCtlWrite_en (h1 : fget v 1 1 = 0) (h4 : fget v 4 2 = 0) : s.sliceCtlWrite n v = (s.slErrs n v).slEn n v (s.slState n) := by
  have h41 : fget v 4 1 ≠ 1 := by
    rw [fget_eq_div] at h4 ⊢
    omega
  have h51 : fget v 5 1 ≠ 1 := by
    rw [fget_eq_div] at h4 ⊢
    omega
  have hinv (t : Sys) : t.slInv n v (s.slState n) = t := if_neg (by omega)
  have hret (t : Sys) : t.slRetire n v = t := if_neg h41
  have hbist (t : Sys) : t.slBist n v = t := if_neg h51
  rw [Sys.sliceCtlWrite_stages, hbist, hret, hinv]

/-- EN on a slice that is READY, its clear done and observed. -/
theorem Sys.slEn_on (h0 : fget v 0 1 = 1) (h1 : fget v 1 1 = 0) (hd : s.on F.TILE_SLICE_CTL_INV_DONE n = true) (ho : (s.slice n).observed = true) :
    s.slEn n v slReady = s.sliceOn n := by
  refine (if_pos h0).trans ((if_neg (by decide)).trans (if_pos ?_))
  rw [hd, ho, h1]
  rfl

theorem Sys.sliceOn_spec : (s.sliceOn n).slState n = slOn ∧ (s.sliceOn n).rf F.TILE_SLICE_CTL_EN n = 1 ∧
    ((s.sliceOn n).slice n).session = ((s.slice n).session + 1) % 256 := by
  unfold Sys.sliceOn
  rw [Sys.slState_showHa, Sys.rf_showHa _ _ _ _ _ rfl, Sys.slice_showHa, Sys.slice_onSlice_self]
  exact ⟨(Sys.slState_put _ n _ 1 n (.inl (by decide))).trans (s.slState_slTo n slOn), Sys.rf_put_self _ _ 1 n 0 (by decide), rfl⟩

/-- EN on a slice that is neither READY nor ON. -/
theorem Sys.slEn_refused {st : Nat} (h0 : fget v 0 1 = 1) (hr : st ≠ slReady) (ho : st ≠ slOn) : s.slEn n v st = s.put F.TILE_SLICE_CTL_EN_REFUSED 1 n := by
  refine (if_pos h0).trans ((if_neg ho).trans (if_neg ?_))
  rw [decide_eq_false hr]
  exact Bool.false_ne_true

/-- EN 0 on a slice that is ON. -/
theorem Sys.slEn_off (h0 : fget v 0 1 = 0) : s.slEn n v slOn =
    (((s.put F.TILE_SLICE_CTL_INV_DONE 0 n).onSlice n (fun t => { t with observed := false })).slTo n slDisabling).put F.TILE_SLICE_CTL_EN 0 n :=
  (if_neg (by omega)).trans (if_pos rfl)

/-- What a write of EN alone makes of a slice. -/
theorem Sys.Touched.sliceCtlWrite_enable {u : Sys} (g : s.Touched u) (n : Nat) (h0 : fget v 0 1 = 1) (h1 : fget v 1 1 = 0) (h4 : fget v 4 2 = 0) :
    (s.slState n = slReady → s.on F.TILE_SLICE_CTL_INV_DONE n = true → (s.slice n).observed = true →
      (u.sliceCtlWrite n v).slState n = slOn ∧ (u.sliceCtlWrite n v).rf F.TILE_SLICE_CTL_EN n = 1 ∧
        ((u.sliceCtlWrite n v).slice n).session = ((s.slice n).session + 1) % 256) ∧
    (s.slState n ≠ slReady → s.slState n ≠ slOn →
      (u.sliceCtlWrite n v).rf F.TILE_SLICE_CTL_EN_REFUSED n = 1 ∧ (u.sliceCtlWrite n v).slState n = s.slState n) := by
  rw [Sys.sliceCtlWrite_en h1 h4, g.slState]
  have hslice : (u.slErrs n v).slice n = s.slice n := (u.slErrs_slice n v n).trans (congrFun g.slice n)
  refine ⟨fun hst hd ho => ?_, fun hr ho => ?_⟩
  · have hdone : (u.slErrs n v).on F.TILE_SLICE_CTL_INV_DONE n = true :=
      (u.slErrs_on n v (by decide)).trans ((g.on F.TILE_SLICE_CTL_INV_DONE n 0 (by decide)).trans hd)
    rw [hst, Sys.slEn_on h0 h1 hdone (hslice ▸ ho)]
    obtain ⟨ha, hb, hc⟩ := Sys.sliceOn_spec (s := u.slErrs n v) (n := n)
    rw [hslice] at hc
    exact ⟨ha, hb, hc⟩
  · rw [Sys.slEn_refused h0 hr ho]
    refine ⟨Sys.rf_put_self _ _ 1 n 0 (by decide), ?_⟩
    exact (Sys.slState_put _ n _ 1 n (.inl (by decide))).trans ((u.slErrs_state n v).trans (g.slState n))

/-- What a write of EN 0 makes of a slice that is ON. -/
theorem Sys.Touched.sliceCtlWrite_disable {u : Sys} (g : s.Touched u) (n : Nat) (h0 : fget v 0 1 = 0) (h1 : fget v 1 1 = 0) (h4 : fget v 4 2 = 0)
    (hst : s.slState n = slOn) : (u.sliceCtlWrite n v).slState n = slDisabling ∧ (u.sliceCtlWrite n v).rf F.TILE_SLICE_CTL_EN n = 0 ∧
      (u.sliceCtlWrite n v).rf F.TILE_SLICE_CTL_INV_DONE n = 0 ∧ ((u.sliceCtlWrite n v).slice n).sectors = (s.slice n).sectors := by
  rw [Sys.sliceCtlWrite_en h1 h4, g.slState, hst, Sys.slEn_off h0]
  have hslice : (u.slErrs n v).slice n = s.slice n := (u.slErrs_slice n v n).trans (congrFun g.slice n)
  generalize u.slErrs n v = t at hslice ⊢
  refine ⟨?_, Sys.rf_put_self _ _ 0 n 0 (by decide), ?_, ?_⟩
  · exact (Sys.slState_put _ n _ 0 n (.inl (by decide))).trans (Sys.slState_slTo _ n slDisabling)
  · refine (Sys.rf_put_bits _ _ _ _ _ _ _ _ (by decide)).trans ((Sys.rf_slTo _ n slDisabling _ (.inl (by decide))).trans ?_)
    exact Sys.rf_put_self t F.TILE_SLICE_CTL_INV_DONE 0 n 0 (by decide)
  · refine (congrArg Slice.sectors (Sys.slice_onSlice_self (t.put F.TILE_SLICE_CTL_INV_DONE 0 n) n (fun t => { t with observed := false }))).trans ?_
    rw [Sys.slice_put, hslice]

/-- EN leaves a slice that is READY, ON or DISABLING so. -/
theorem Sys.slEn_up (hst : s.slState n = slReady ∨ s.slState n = slOn ∨ s.slState n = slDisabling) :
    (s.slEn n v (s.slState n)).slState n = slReady ∨ (s.slEn n v (s.slState n)).slState n = slOn ∨ (s.slEn n v (s.slState n)).slState n = slDisabling := by
  have hput (t : Sys) (f : Fld) (w : Nat) (hf : f.reg ≠ .TILE_SLICE_STATUS) (hs : t.slState n = s.slState n) :
      (t.put f w n).slState n = s.slState n := (t.slState_put n f w n (.inl hf)).trans hs
  have hoff : ((s.put F.TILE_SLICE_CTL_INV_DONE 0 n).onSlice n (fun t => { t with observed := false })).slState n = s.slState n :=
    hput s _ 0 (by decide) rfl
  unfold Sys.slEn
  split
  · split
    · exact hst
    · split
      · exact .inr (.inl s.sliceOn_spec.1)
      · rw [hput s _ 1 (by decide) rfl]
        exact hst
  · split
    · exact .inr (.inr ((Sys.slState_put _ n _ 0 n (.inl (by decide))).trans (Sys.slState_slTo _ n slDisabling)))
    · rw [hoff]
      exact hst

/-- A slice that is READY, ON or DISABLING may retire. -/
theorem Sys.mayRetire (hst : s.slState n = slReady ∨ s.slState n = slOn ∨ s.slState n = slDisabling) :
    [slReady, slOn, slDisabling].contains (s.slState n) = true := by
  obtain h | h | h := hst <;> rw [h] <;> rfl

end

/-! ## Retirement and its rehash -/

/-- What a slice that retires shows: HOLD, the cause, RETIRE, and READMIT_OK 0. -/
def Sys.toHold (s : Sys) (n cause : Nat) : Sys :=
  ((((s.slTo n slHold).put F.TILE_SLICE_STATUS_CAUSE cause n).put F.TILE_SLICE_CTL_RETIRE 1 n).put F.TILE_SLICE_STATUS_READMIT_OK 0 n).onSlice n
    (fun t => { t with since := s.ticks })

/-- The notices of a slice in HOLD, to every stop. -/
def Sys.sendHoldNotices (s : Sys) (n : Nat) : Sys := { s with msgs := s.msgs ++ (below 80).map (fun i => Msg.holdNotice n i) }

section
variable {s : Sys} {n : Nat}

theorem Sys.retireSlice_eq (hst : s.slState n = slReady ∨ s.slState n = slOn ∨ s.slState n = slDisabling) (cause : Nat) :
    s.retireSlice n cause = (s.toHold n cause).sendHoldNotices n := if_pos (Sys.mayRetire hst)

theorem Sys.toHold_work (s : Sys) (n cause : Nat) : Sys.SliceWork n s (s.toHold n cause) :=
  ((((Sys.SliceWork.slTo s n slHold).trans (Sys.SliceWork.put _ n _ cause rfl)).trans (Sys.SliceWork.put _ n _ 1 rfl)).trans
    (Sys.SliceWork.put _ n _ 0 rfl)).trans (Sys.SliceWork.onSlice _ n _)

theorem Sys.toHold_spec (s : Sys) (n cause : Nat) (hc : cause < 8) : (s.toHold n cause).slState n = slHold ∧ (s.toHold n cause).rf F.TILE_SLICE_STATUS_CAUSE n = cause ∧
    (s.toHold n cause).rf F.TILE_SLICE_CTL_RETIRE n = 1 ∧ (s.toHold n cause).rf F.TILE_SLICE_STATUS_READMIT_OK n = 0 ∧
    ((s.toHold n cause).slice n).since = s.ticks := by
  unfold Sys.toHold Sys.slTo Sys.slState
  simp (disch := decide) only [Sys.rf_onSlice, Sys.rf_put_reg, Sys.rf_put_bits, Sys.rf_put_self, Sys.slice_onSlice_self, and_true]
  exact ⟨rfl, Nat.mod_eq_of_lt hc, rfl, rfl⟩

/-- The map of a slice that is rehashed away, and what it shows. -/
def Sys.toDraining (s : Sys) (n : Nat) : Sys :=
  (((Sys.onSlice { s with conf := s.conf.retire n } n (fun t => { t with session := (t.session + 1) % 256, oc := [], since := s.ticks })).slTo n slDraining).put
    F.TILE_SLICE_STATUS_DRAIN_SETS 1536 n).put F.TILE_SLICE_STATUS_DRAIN_SF 196608 n

/-- The stops forget a slice in HOLD and send what they held for it. -/
def Sys.endHold (s : Sys) (n : Nat) : Sys :=
  let s := { s with msgs := s.msgs.filter (fun m => match m with | .holdNotice n' _ => n' ≠ n | _ => true) }
  s.each (s.stops.map (·.1)) (fun s i => (s.onStop i (fun t => { t with notices := t.notices.filter (· ≠ n) })).releaseHeld i)

theorem Sys.sliceRehash_snd : (s.sliceRehash n).2 = (((s.toDraining n).setQuotas).endHold n).showHa n := rfl

theorem Sys.sliceRehash_fst : (s.sliceRehash n).1 = (s.enabledKennels.filter (fun k => (s.conf.liveMask k).contains n)).filter
    (fun k => ((((s.toDraining n).setQuotas).endHold n).conf.liveMask k).isEmpty) := rfl

theorem Sys.setQuotas_frame_occ (s : Sys) {parts : List Part} : s.Frame s.setQuotas (fun k => k.reg == .TILE_SLICE_OCC) parts :=
  .each s _ _ fun t k _ => .each t _ _ fun u n _ => .ite (fun _ => .refl u) fun _ => .put u _ _ n k rfl

theorem Sys.endHold_frame (s : Sys) (n : Nat) : s.Frame (s.endHold n) sendReg stopParts :=
  (Sys.Frame.set_msgs s _ rfl).trans (.each _ _ _ fun t i _ => (t.onStop_frame i _ rfl).trans (Sys.releaseHeld_frame _ i))

/-- What may change when a slice is rehashed away. -/
abbrev rehashReg (n : Nat) (k : RK) : Bool := sliceReg n k || k.reg == .TILE_SLICE_OCC || grainReg k || k.reg == .RTV_CH_STATUS

theorem Sys.rehash_tail (s : Sys) (n : Nat) : s.Frame ((s.setQuotas.endHold n).showHa n) (fun k => haReg n k || k.reg == .TILE_SLICE_OCC || sendReg k) stopParts :=
  ((s.setQuotas_frame_occ.regs_mono fun k hk => by simp [hk]).trans ((Sys.endHold_frame _ n).regs_mono fun k hk => by simp [hk])).trans
    ((Sys.showHa_frame _ n).regs_mono fun k hk => by simp [hk])

theorem Sys.toDraining_frame (s : Sys) (n : Nat) : Sys.FrameSlice n s (s.toDraining n) (sliceReg n) [.conf] := by
  have hput (t : Sys) (f : Fld) (v : Nat) (hf : sliceRegs.contains f.reg = true) : Sys.FrameSlice n t (t.put f v n) (sliceReg n) [.conf] :=
    .of_frame (.put t f v n 0 (by unfold sliceReg; rw [hf, beq_self_eq_true, Bool.and_self])) rfl
  exact ((((Sys.FrameSlice.of_frame (.set_conf s _ rfl) rfl).trans (Sys.FrameSlice.onSlice _ _)).trans (hput _ _ slDraining rfl)).trans (hput _ _ 1536 rfl)).trans
    (hput _ _ 196608 rfl)

theorem Sys.toDraining_spec (s : Sys) (n : Nat) : (s.toDraining n).slState n = slDraining ∧ (s.toDraining n).rf F.TILE_SLICE_STATUS_DRAIN_SETS n = 1536 ∧
    (s.toDraining n).rf F.TILE_SLICE_STATUS_DRAIN_SF n = 196608 ∧
    (s.toDraining n).slice n = { s.slice n with session := ((s.slice n).session + 1) % 256, oc := [], since := s.ticks } := by
  refine ⟨?_, ?_, Sys.rf_put_self _ _ 196608 n 0 (by decide), ?_⟩
  · exact (Sys.rf_put_bits _ _ _ _ _ _ _ _ (by decide)).trans ((Sys.rf_put_bits _ _ _ _ _ _ _ _ (by decide)).trans (Sys.slState_slTo _ n slDraining))
  · exact (Sys.rf_put_bits _ _ _ _ _ _ _ _ (by decide)).trans (Sys.rf_put_self _ _ 1536 n 0 (by decide))
  · exact Sys.slice_onSlice_self { s with conf := s.conf.retire n } n (fun t => { t with session := (t.session + 1) % 256, oc := [], since := s.ticks })

/-- The rehash of a slice in HOLD, when no kennel is left without a slice. -/
theorem Sys.rehash_eq (hst : s.slState n = slHold) (hs : (s.slice n).since < s.ticks)
    (hk : s.enabledKennels.all (fun k => !(s.conf.liveMask k).contains n || !((s.conf.retire n).liveMask k).isEmpty) = true) :
    s.rehash n = (((s.toDraining n).setQuotas).endHold n).showHa n := by
  have hconf : (((s.toDraining n).setQuotas).endHold n).conf = s.conf.retire n :=
    Eq.trans ((Sys.endHold_frame _ n).2 .conf rfl) (((s.toDraining n).setQuotas_frame_occ (parts := [])).2 .conf rfl)
  have hnone : (s.sliceRehash n).1 = [] := by
    rw [Sys.sliceRehash_fst, hconf, List.filter_eq_nil_iff]
    intro k hmem he
    obtain ⟨hin, hlive⟩ := List.mem_filter.mp hmem
    have := List.all_eq_true.mp hk k hin
    rw [hlive, he] at this
    exact Bool.noConfusion this
  unfold Sys.rehash
  refine (if_pos (by rw [decide_eq_true hst, decide_eq_true hs]; rfl)).trans ?_
  rw [← Sys.sliceRehash_snd]
  change (s.sliceRehash n).2.each (s.sliceRehash n).1 _ = _
  rw [hnone]
  rfl

end


/-! ## Writes of RETIRE and BIST -/

section
variable {s : Sys} {n : Nat} {v : Word}

/-- A write of RETIRE makes a slice that is READY, ON or DISABLING retire. -/
theorem Sys.sliceCtlWrite_retire (hst : s.slState n = slReady ∨ s.slState n = slOn ∨ s.slState n = slDisabling) (h1 : fget v 1 1 = 0) (h4 : fget v 4 1 = 1)
    (h5 : fget v 5 1 = 0) : ∃ t, Sys.SliceWork n s t ∧ s.sliceCtlWrite n v = (t.toHold n 2).sendHoldNotices n := by
  refine ⟨(s.slErrs n v).slEn n v (s.slState n), (s.slErrs_work n v).trans (Sys.slEn_work _ n v _), ?_⟩
  have hup := Sys.slEn_up (v := v) (s := s.slErrs n v) (n := n) (by rw [Sys.slErrs_state]; exact hst)
  rw [Sys.slErrs_state] at hup
  have hinv (t : Sys) : t.slInv n v (s.slState n) = t := if_neg (by omega)
  have hbist (t : Sys) : t.slBist n v = t := if_neg (by omega)
  rw [Sys.sliceCtlWrite_stages, hbist, hinv]
  exact (if_pos h4).trans ((if_pos (Sys.mayRetire hup)).trans (Sys.retireSlice_eq hup 2))

/-- A slice that is RETIRED stays so until BIST is looked at. -/
theorem Sys.slInv_retired (hst : s.slState n = slRetired) : (s.slInv n v slRetired).slState n = slRetired := by
  unfold Sys.slInv
  split
  · refine (congrArg (fun t : Sys => t.slState n) ((if_neg (by decide)).trans ((if_neg (by decide)).trans (if_neg (by decide))))).trans ?_
    exact (Sys.slState_put s n F.TILE_SLICE_CTL_CMD_ERR 1 n (.inl (by decide))).trans hst
  · exact hst

theorem Sys.slEn_retired (hst : s.slState n = slRetired) : (s.slEn n v slRetired).slState n = slRetired := by
  unfold Sys.slEn
  split
  · refine (congrArg (fun t : Sys => t.slState n) ((if_neg (by decide)).trans (if_neg (by simp [slReady, slRetired])))).trans ?_
    exact (Sys.slState_put s n F.TILE_SLICE_CTL_EN_REFUSED 1 n (.inl (by decide))).trans hst
  · exact (Sys.slState_put s n F.TILE_SLICE_CTL_INV_DONE 0 n (.inl (by decide))).trans hst

theorem Sys.slRetire_retired (hst : s.slState n = slRetired) : (s.slRetire n v).slState n = slRetired ∧ Sys.SliceWork n s (s.slRetire n v) := by
  have hno : ¬ [slReady, slOn, slDisabling].contains (s.slState n) = true := by
    rw [hst]
    decide
  unfold Sys.slRetire
  split
  · exact ⟨(Sys.slState_put s n F.TILE_SLICE_CTL_CMD_ERR 1 n (.inl (by decide))).trans hst, Sys.SliceWork.put s n _ 1 rfl⟩
  · exact ⟨hst, .refl s⟩

/-- A write of BIST makes a RETIRED slice test itself. -/
theorem Sys.sliceCtlWrite_bist (hst : s.slState n = slRetired) (h5 : fget v 5 1 = 1) : (s.sliceCtlWrite n v).slState n = slTesting ∧
    (s.sliceCtlWrite n v).rf F.TILE_SLICE_CTL_BIST n = 1 ∧ Sys.SliceWork n s (s.sliceCtlWrite n v) := by
  rw [Sys.sliceCtlWrite_stages, hst]
  have hwork := ((s.slErrs_work n v).trans (Sys.slEn_work _ n v slRetired)).trans (Sys.slInv_work _ n v slRetired)
  have hinv := Sys.slInv_retired (v := v) (Sys.slEn_retired (v := v) ((s.slErrs_state n v).trans hst))
  generalize ((s.slErrs n v).slEn n v slRetired).slInv n v slRetired = t at hwork hinv ⊢
  obtain ⟨hret, hrwork⟩ := Sys.slRetire_retired (v := v) hinv
  have hb := Sys.slBist_work (t.slRetire n v) n v
  have he : (t.slRetire n v).slBist n v = ((t.slRetire n v).slTo n slTesting).put F.TILE_SLICE_CTL_BIST 1 n := (if_pos h5).trans (if_pos hret)
  rw [he] at hb ⊢
  refine ⟨?_, Sys.rf_put_self _ _ 1 n 0 (by decide), (hwork.trans hrwork).trans hb⟩
  exact (Sys.slState_put _ n F.TILE_SLICE_CTL_BIST 1 n (.inl (by decide))).trans (Sys.slState_slTo _ n slTesting)

end

/-! ## The ends of a slice's works -/

/-- Another field keeps its value, when one may be put. -/
theorem Sys.rf_when_put (s : Sys) (n : Nat) (c : Bool) (f : Fld) (v : Nat) {g : Fld}
    (h : f.reg ≠ g.reg ∨ g.lo + g.wd ≤ 64 ∧ (f.lo + f.wd ≤ g.lo ∨ g.lo + g.wd ≤ f.lo)) : (s.when c (fun s => s.put f v n)).rf g n = s.rf g n := by
  cases c
  · rfl
  · exact h.elim (Sys.rf_put_reg _ _ _ _ _ _ _ _) (Sys.rf_put_bits _ _ _ _ _ _ _ _)

/-- What a clear of a slice empties. -/
def Sys.slEmptied (s : Sys) (n : Nat) (all : Bool) : Sys := s.onSlice n (fun t => if all then { t with sectors := [], sf := [], oc := [] } else { t with sectors := [] })

/-- What the end of a clear shows. -/
def Sys.slCleared (s : Sys) (n st : Nat) : Sys := ((s.put F.TILE_SLICE_CTL_INV 0 n).put F.TILE_SLICE_CTL_INV_DONE 1 n).slTo n st

section
variable {s : Sys} {n : Nat}

theorem Sys.sliceClearDone_eq (hst : s.slState n = slClearing ∨ s.slState n = slClearingData ∨ s.slState n = slClearingT) : s.sliceClearDone n =
    ((((s.slEmptied n (decide (s.slState n ≠ slClearingData))).slCleared n (if s.slState n = slClearingT then slTested else slReady))).when
      (decide (s.slState n = slClearingT)) (fun s => s.put F.TILE_SLICE_STATUS_READMIT_OK 1 n)).showHa n := by
  unfold Sys.sliceClearDone
  obtain h | h | h := hst <;> rw [h] <;> rfl

theorem Sys.slEmptied_slice (s : Sys) (n : Nat) (all : Bool) : ((s.slEmptied n all).slice n).sectors = [] ∧
    ((s.slEmptied n all).slice n).sf = if all then [] else (s.slice n).sf := by
  unfold Sys.slEmptied
  rw [Sys.slice_onSlice_self]
  cases all <;> exact ⟨rfl, rfl⟩

theorem Sys.slCleared_spec (s : Sys) (n st : Nat) : (s.slCleared n st).slState n = st % 2 ^ 4 ∧ (s.slCleared n st).rf F.TILE_SLICE_CTL_INV n = 0 ∧
    (s.slCleared n st).rf F.TILE_SLICE_CTL_INV_DONE n = 1 ∧ (s.slCleared n st).slice n = s.slice n := by
  unfold Sys.slCleared
  refine ⟨Sys.slState_slTo _ n st, ?_, ?_, rfl⟩
  · refine (Sys.rf_slTo _ n st _ (.inl (by decide))).trans ((Sys.rf_put_bits _ _ _ _ _ _ _ _ (by decide)).trans ?_)
    exact Sys.rf_put_self s F.TILE_SLICE_CTL_INV 0 n 0 (by decide)
  · exact (Sys.rf_slTo _ n st _ (.inl (by decide))).trans (Sys.rf_put_self _ F.TILE_SLICE_CTL_INV_DONE 1 n 0 (by decide))

theorem Sys.slCleared_work (s : Sys) (n st : Nat) : Sys.SliceWork n s (s.slCleared n st) :=
  ((Sys.SliceWork.put s n _ 0 rfl).trans (Sys.SliceWork.put _ n _ 1 rfl)).trans (Sys.SliceWork.slTo _ n st)

/-- What a drain step shows. -/
def Sys.drained (s : Sys) (n sets sf : Nat) : Sys :=
  let s := (s.put F.TILE_SLICE_STATUS_DRAIN_SETS sets n).put F.TILE_SLICE_STATUS_DRAIN_SF sf n
  (s.onSlice n (fun t => { t with since := s.ticks })).showHa n

theorem Sys.drained_spec (s : Sys) (n sets sf : Nat) : (s.drained n sets sf).rf F.TILE_SLICE_STATUS_DRAIN_SETS n = sets % 2 ^ 11 ∧
    (s.drained n sets sf).rf F.TILE_SLICE_STATUS_DRAIN_SF n = sf % 2 ^ 18 ∧ ((s.drained n sets sf).slice n).since = s.ticks ∧
    (s.drained n sets sf).slState n = s.slState n ∧ Sys.SliceWork n s (s.drained n sets sf) := by
  have hwork := (((Sys.SliceWork.put s n F.TILE_SLICE_STATUS_DRAIN_SETS sets rfl).trans (Sys.SliceWork.put _ n F.TILE_SLICE_STATUS_DRAIN_SF sf rfl)).trans
    (Sys.SliceWork.onSlice _ n (fun t => { t with since := s.ticks }))).trans (Sys.SliceWork.showHa _ n)
  refine ⟨?_, ?_, ?_, ?_, hwork⟩
  · refine (Sys.rf_showHa _ _ _ _ _ rfl).trans ((Sys.rf_put_bits _ _ _ _ _ _ _ _ (by decide)).trans ?_)
    exact Sys.rf_put_self s F.TILE_SLICE_STATUS_DRAIN_SETS sets n 0 (by decide)
  · exact (Sys.rf_showHa _ _ _ _ _ rfl).trans (Sys.rf_put_self _ F.TILE_SLICE_STATUS_DRAIN_SF sf n 0 (by decide))
  · refine (congrArg Slice.since (Sys.slice_showHa _ n n)).trans ?_
    exact congrArg Slice.since (Sys.slice_onSlice_self _ n (fun t => { t with since := s.ticks }))
  · refine (Sys.slState_showHa _ n n).trans ((Sys.slState_put _ n F.TILE_SLICE_STATUS_DRAIN_SF sf n (.inr (by decide))).trans ?_)
    exact Sys.slState_put s n F.TILE_SLICE_STATUS_DRAIN_SETS sets n (.inr (by decide))

/-- One drain step of a slice that holds nothing. -/
theorem M.drainStep_empty {x : M} (hst : x.sys.slState n = slDraining) (hw : x.sys.inWindow = true) (hs : (x.sys.slice n).since < x.sys.ticks)
    (hse : (x.sys.slice n).sectors = []) (hsf : (x.sys.slice n).sf = []) : x.drainStep n = x.on (fun s =>
      s.drained n (x.sys.rf F.TILE_SLICE_STATUS_DRAIN_SETS n - 16) (x.sys.rf F.TILE_SLICE_STATUS_DRAIN_SF n - 2048)) := by
  have hguard : ¬ (decide (x.sys.slState n ≠ slDraining) || !x.sys.inWindow || decide (x.sys.ticks ≤ (x.sys.slice n).since)) = true := by
    rw [hst, hw, decide_eq_false (by omega : ¬ x.sys.ticks ≤ (x.sys.slice n).since)]
    decide
  unfold M.drainStep
  refine (if_neg hguard).trans ?_
  simp only [hse, hsf, List.filter_nil, List.foldl_nil]
  rfl

end

/-- What a slice without power shows. -/
def Sys.slOff (s : Sys) (n : Nat) : Sys :=
  (((s.slTo n slRetired).put F.TILE_SLICE_CTL_RETIRE 0 n).put F.TILE_SLICE_CTL_EN 0 n).put F.TILE_SLICE_CTL_INV_DONE 0 n

section
variable {s : Sys} {n : Nat}

theorem Sys.slicePowerOff_eq (hst : s.slState n = slDraining) (h1 : s.rf F.TILE_SLICE_STATUS_DRAIN_SETS n = 0) (h2 : s.rf F.TILE_SLICE_STATUS_DRAIN_SF n = 0)
    (hs : (s.slice n).since < s.ticks) : s.slicePowerOff n = (s.slOff n).raise (srcTile n 6) := by
  refine if_pos ?_
  rw [hst, decide_eq_true h1, decide_eq_true h2, decide_eq_true hs]
  rfl

theorem Sys.slOff_spec (s : Sys) (n : Nat) : (s.slOff n).slState n = slRetired ∧ (s.slOff n).rf F.TILE_SLICE_CTL_RETIRE n = 0 ∧
    (s.slOff n).rf F.TILE_SLICE_CTL_EN n = 0 ∧ (s.slOff n).rf F.TILE_SLICE_CTL_INV_DONE n = 0 := by
  unfold Sys.slOff Sys.slTo Sys.slState
  simp (disch := decide) only [Sys.rf_put_reg, Sys.rf_put_bits, Sys.rf_put_self]
  decide

theorem Sys.slOff_frame (s : Sys) (n : Nat) {parts : List Part} : s.Frame (s.slOff n) (sliceReg n) parts := by
  have hput (t : Sys) (f : Fld) (v : Nat) (hf : sliceRegs.contains f.reg = true) : t.Frame (t.put f v n) (sliceReg n) parts :=
    .put t f v n 0 (by unfold sliceReg; rw [hf, beq_self_eq_true, Bool.and_self])
  exact (((hput s _ slRetired rfl).trans (hput _ _ 0 rfl)).trans (hput _ _ 0 rfl)).trans (hput _ _ 0 rfl)

/-- The self-test's bits at its end. -/
def Sys.bistEnd (s : Sys) (n st result : Nat) : Sys :=
  (((s.put F.TILE_SLICE_CTL_BIST 0 n).put F.TILE_SLICE_STATUS_READMIT_OK 0 n).slTo n st).put F.TILE_SLICE_STATUS_BIST_RESULT result n

theorem Sys.sliceBistDone_fails {r : Nat} {bad : Bool} (hst : s.slState n = slTesting) (h : bad = true ∨ 32 < s.rf F.TILE_SLICE_STATUS_SPARES_USED n + r) :
    s.sliceBistDone n r bad = s.bistEnd n slRetired 3 := by
  refine (if_pos hst).trans (if_pos ?_)
  simpa using h

theorem Sys.sliceBistDone_passes {r : Nat} (hst : s.slState n = slTesting) (h : s.rf F.TILE_SLICE_STATUS_SPARES_USED n + r ≤ 32) :
    s.sliceBistDone n r false = ((s.bistEnd n slTested (if r = 0 then 1 else 2)).put F.TILE_SLICE_STATUS_SPARES_USED
      (s.rf F.TILE_SLICE_STATUS_SPARES_USED n + r) n).onSlice n (fun t => { t with sectors := [], sf := [], oc := [] }) := by
  refine (if_pos hst).trans (if_neg ?_)
  simpa using h

theorem Sys.bistEnd_spec (s : Sys) (n st result : Nat) : (s.bistEnd n st result).slState n = st % 2 ^ 4 ∧ (s.bistEnd n st result).rf F.TILE_SLICE_CTL_BIST n = 0 ∧
    (s.bistEnd n st result).rf F.TILE_SLICE_STATUS_READMIT_OK n = 0 ∧ (s.bistEnd n st result).rf F.TILE_SLICE_STATUS_BIST_RESULT n = result % 2 ^ 2 := by
  unfold Sys.bistEnd Sys.slTo Sys.slState
  simp (disch := decide) only [Sys.rf_put_reg, Sys.rf_put_bits, Sys.rf_put_self, true_and, and_true]
  decide

theorem Sys.bistEnd_work (s : Sys) (n st result : Nat) : Sys.SliceWork n s (s.bistEnd n st result) :=
  (((Sys.SliceWork.put s n _ 0 rfl).trans (Sys.SliceWork.put _ n _ 0 rfl)).trans (Sys.SliceWork.slTo _ n st)).trans (Sys.SliceWork.put _ n _ result rfl)

/-- A DISABLING slice that holds nothing. -/
theorem M.disablingDone_empty {x : M} (hst : x.sys.slState n = slDisabling) (hse : (x.sys.slice n).sectors = []) :
    x.disablingDone n = x.on (fun s => (s.slTo n slReady).showHa n) := by
  refine (if_pos hst).trans ?_
  rw [hse]
  rfl

end

/-! ## The obligation -/

/-- Settles O30. -/
theorem sliceControl : Obligations.SliceControl := by
  refine ⟨?enable, ?disable, ?clear, ?retire, ?rehash, ?drain, ?off, ?bist, ?bistDone, ?disabling, ?error⟩
  case enable =>
    intro s req n v ht h1 h4
    have h1' : fget (fput v 0 1 1) 1 1 = 0 := (fget_fput_other _ _ _ _ _ _ (by decide) (by decide)).trans h1
    have h4' : fget (fput v 0 1 1) 4 2 = 0 := (fget_fput_other _ _ _ _ _ _ (by decide) (by decide)).trans h4
    have h0 : fget (fput v 0 1 1) 0 1 = 1 := fget_fput_same _ _ _ _ (by decide)
    refine ht.sliceWrite rfl rfl fun u g => ?_
    obtain ⟨hon, hno⟩ := g.sliceCtlWrite_enable n h0 h1' h4'
    refine ⟨hon, hno, ?_⟩
    rw [Sys.sliceCtlWrite_en h1' h4']
    exact g.onlySlice (parts := []) ((u.slErrs_work n _).trans (Sys.slEn_work _ n _ _)) rfl
  case disable =>
    intro s req n v ht hst h1 h4
    have h1' : fget (fput v 0 1 0) 1 1 = 0 := (fget_fput_other _ _ _ _ _ _ (by decide) (by decide)).trans h1
    have h4' : fget (fput v 0 1 0) 4 2 = 0 := (fget_fput_other _ _ _ _ _ _ (by decide) (by decide)).trans h4
    have h0 : fget (fput v 0 1 0) 0 1 = 0 := fget_fput_same _ _ _ _ (by decide)
    refine ht.sliceWrite rfl rfl fun u g => ?_
    obtain ⟨hs, he, hd, hdata⟩ := g.sliceCtlWrite_disable n h0 h1' h4' hst
    refine ⟨hs, he, hd, hdata, ?_⟩
    rw [Sys.sliceCtlWrite_en h1' h4']
    exact g.onlySlice (parts := []) ((u.slErrs_work n _).trans (Sys.slEn_work _ n _ _)) rfl
  case clear =>
    intro s n hl hst
    refine completes_onSys _ _ s _ hl rfl ?_
    rw [Sys.sliceClearDone_eq hst, State.withSys_sys]
    obtain ⟨hse, hsf⟩ := s.sys.slEmptied_slice n (decide (s.sys.slState n ≠ slClearingData))
    have hwork : Sys.SliceWork n s.sys (s.sys.slEmptied n (decide (s.sys.slState n ≠ slClearingData))) := Sys.SliceWork.onSlice _ n _
    generalize s.sys.slEmptied n (decide (s.sys.slState n ≠ slClearingData)) = t at hse hsf hwork ⊢
    obtain ⟨hs, hi, hd, hz⟩ := t.slCleared_spec n (if s.sys.slState n = slClearingT then slTested else slReady)
    have hwork' := hwork.trans (t.slCleared_work n (if s.sys.slState n = slClearingT then slTested else slReady))
    generalize t.slCleared n (if s.sys.slState n = slClearingT then slTested else slReady) = u at hs hi hd hz hwork' ⊢
    have hput := Sys.SliceWork.put u n F.TILE_SLICE_STATUS_READMIT_OK 1 rfl
    have hmod : (if s.sys.slState n = slClearingT then slTested else slReady) % 2 ^ 4 = if s.sys.slState n = slClearingT then slTested else slReady := by split <;> rfl
    have hslice : (u.when (decide (s.sys.slState n = slClearingT)) (fun s => s.put F.TILE_SLICE_STATUS_READMIT_OK 1 n)).slice n = u.slice n := by
      cases decide (s.sys.slState n = slClearingT) <;> rfl
    rw [Sys.slState_showHa, Sys.rf_showHa _ _ _ _ _ rfl, Sys.rf_showHa _ _ _ _ _ rfl, Sys.rf_showHa _ _ _ _ _ rfl, Sys.slice_showHa]
    refine ⟨?_, ?_, ?_, ?_, ?_, fun hT => ?_, State.onlySlice_withSys ((hwork'.trans (.when _ _ _ fun _ => hput)).trans (Sys.SliceWork.showHa _ n))⟩
    · exact (u.rf_when_put n _ F.TILE_SLICE_STATUS_READMIT_OK 1 (.inr (by decide))).trans (hs.trans hmod)
    · exact (u.rf_when_put n _ F.TILE_SLICE_STATUS_READMIT_OK 1 (.inl (by decide))).trans hi
    · exact (u.rf_when_put n _ F.TILE_SLICE_STATUS_READMIT_OK 1 (.inl (by decide))).trans hd
    · rw [hslice, hz, hse]
    · rw [hslice, hz, hsf]
      by_cases hcd : s.sys.slState n = slClearingData <;> simp [hcd]
    · rw [decide_eq_true hT]
      exact Sys.rf_put_self u _ 1 n 0 (by decide)
  case retire =>
    intro s req n v ht hst h1 h5
    have h1' : fget (fput v 4 1 1) 1 1 = 0 := (fget_fput_other _ _ _ _ _ _ (by decide) (by decide)).trans h1
    have h5' : fget (fput v 4 1 1) 5 1 = 0 := (fget_fput_other _ _ _ _ _ _ (by decide) (by decide)).trans h5
    have h4 : fget (fput v 4 1 1) 4 1 = 1 := fget_fput_same _ _ _ _ (by decide)
    refine ht.sliceWrite rfl rfl fun u g => ?_
    rw [← g.slState] at hst
    obtain ⟨t, hwork, he⟩ := Sys.sliceCtlWrite_retire hst h1' h4 h5'
    obtain ⟨hs, hc, hr, ho, hsince⟩ := t.toHold_spec n 2 (by decide)
    have hmsgs : (t.toHold n 2).msgs = s.sys.msgs := Eq.trans ((hwork.trans (t.toHold_work n 2)).1.2 .msgs rfl) (g.part .msgs rfl)
    have hticks : t.ticks = s.sys.ticks := Eq.trans (hwork.1.2 .ticks rfl) (g.part .ticks rfl)
    rw [he]
    refine ⟨hs, hc, hr, ho, hsince.trans hticks, congrArg (· ++ _) hmsgs, ?_⟩
    refine g.onlySlice (parts := [.msgs]) ?_ rfl
    exact ((hwork.trans (t.toHold_work n 2)).mono (fun _ h => h) (List.nil_subset _)).trans (Sys.FrameSlice.of_frame (.set_msgs _ _ rfl) rfl)
  case rehash =>
    intro s n hl hst hs hk
    refine completes_onSys _ _ s _ hl rfl ?_
    rw [Sys.rehash_eq hst hs hk, State.withSys_sys]
    obtain ⟨h1, h2, h3, hz⟩ := s.sys.toDraining_spec n
    have hframe := s.sys.toDraining_frame n
    have hconf : (s.sys.toDraining n).conf = s.sys.conf.retire n := rfl
    generalize s.sys.toDraining n = t at h1 h2 h3 hz hframe hconf ⊢
    have htail := t.rehash_tail n
    have hslice : ((t.setQuotas.endHold n).showHa n).slice n = t.slice n := congrFun (Sys.slice_of_slices (htail.2 .slices rfl)) n
    have hrf (f : Fld) (hf : f.reg = .TILE_SLICE_STATUS) : ((t.setQuotas.endHold n).showHa n).rf f n = t.rf f n :=
      htail.rf f n 0 (by rw [hf]; rfl)
    rw [hslice, hz]
    refine ⟨(hrf _ rfl).trans h1, Eq.trans (htail.2 .conf rfl) hconf, (hrf _ rfl).trans h2, (hrf _ rfl).trans h3, rfl, rfl, rfl, State.onlySlice_withSys ?_⟩
    refine (hframe.mono (fun k hk => ?_) (by decide)).trans (Sys.FrameSlice.of_frame (htail.mono (fun k hk => ?_) (by decide)) rfl)
    · simp [hk]
    · have hha : haReg n k = true → sliceReg n k = true := fun h => by
        simp only [Bool.and_eq_true, Bool.or_eq_true, beq_iff_eq] at h
        obtain ⟨(h | h) | h, hi⟩ := h <;> simp [sliceReg, sliceRegs, h, hi]
      simp only [Bool.or_eq_true, sendReg] at hk ⊢
      obtain (hk | hk) | hk | hk := hk
      · exact .inl (.inl (.inl (hha hk)))
      · exact .inl (.inl (.inr hk))
      · exact .inl (.inr hk)
      · exact .inr hk
  case drain =>
    intro s n hl hst hw hs hsets hsf h1 h2
    refine completes_onM _ _ s _ hl rfl ?_
    rw [M.drainStep_empty (x := s.ctx) hst hw hs h1 h2]
    obtain ⟨ha, hb, hc, hd, hwork⟩ := s.sys.drained_spec n (s.sys.rf F.TILE_SLICE_STATUS_DRAIN_SETS n - 16) (s.sys.rf F.TILE_SLICE_STATUS_DRAIN_SF n - 2048)
    have hl1 : s.sys.rf F.TILE_SLICE_STATUS_DRAIN_SETS n < 2 ^ 11 := Sys.rf_lt ..
    have hl2 : s.sys.rf F.TILE_SLICE_STATUS_DRAIN_SF n < 2 ^ 18 := Sys.rf_lt ..
    exact ⟨ha.trans (Nat.mod_eq_of_lt (by omega)), hb.trans (Nat.mod_eq_of_lt (by omega)), hc, hd.trans hst, State.onlySlice_after rfl hwork⟩
  case off =>
    intro s n hl hst h1 h2 hs
    refine completes_onSys _ _ s _ hl rfl ?_
    rw [Sys.slicePowerOff_eq hst h1 h2 hs, State.withSys_sys]
    obtain ⟨ha, hb, hc, hd⟩ := s.sys.slOff_spec n
    have hfcr : (s.sys.slOff n).fcr = s.sys.fcr := (s.sys.slOff_frame n (parts := [])).2 .fcr rfl
    refine ⟨ha, hb, hc, hd, ?_, State.only_withSys ((s.sys.slOff_frame n).trans (.raise _ _ _ rfl))⟩
    rw [← hfcr]
    rfl
  case bist =>
    intro s req n v ht hst
    refine ht.sliceWrite rfl rfl fun u g => ?_
    obtain ⟨ha, hb, hwork⟩ := Sys.sliceCtlWrite_bist (v := fput v 5 1 1) ((g.slState n).trans hst) (fget_fput_same _ _ _ _ (by decide))
    exact ⟨ha, hb, g.onlySlice (parts := []) hwork rfl⟩
  case bistDone =>
    intro s n r bad hl hst
    refine completes_onSys _ _ s _ hl rfl ?_
    rw [State.withSys_sys]
    by_cases hfail : bad = true ∨ 32 < s.sys.rf F.TILE_SLICE_STATUS_SPARES_USED n + r.toNat
    · obtain ⟨hs, hb, ho, hr⟩ := s.sys.bistEnd_spec n slRetired 3
      rw [Sys.sliceBistDone_fails hst hfail]
      refine ⟨hb, ho, fun _ => ⟨hs, hr⟩, fun hg hle => ?_, State.onlySlice_withSys (s.sys.bistEnd_work n slRetired 3)⟩
      exact absurd hfail (by rw [hg]; simp; omega)
    · obtain rfl : bad = false := Bool.eq_false_iff.mpr fun h => hfail (.inl h)
      have hle : s.sys.rf F.TILE_SLICE_STATUS_SPARES_USED n + r.toNat ≤ 32 := by omega
      obtain ⟨hs, hb, ho, hr⟩ := s.sys.bistEnd_spec n slTested (if r.toNat = 0 then 1 else 2)
      have hwork := s.sys.bistEnd_work n slTested (if r.toNat = 0 then 1 else 2)
      rw [Sys.sliceBistDone_passes hst hle]
      generalize s.sys.bistEnd n slTested (if r.toNat = 0 then 1 else 2) = t at hs hb ho hr hwork ⊢
      have hput := Sys.SliceWork.put t n F.TILE_SLICE_STATUS_SPARES_USED (s.sys.rf F.TILE_SLICE_STATUS_SPARES_USED n + r.toNat) rfl
      refine ⟨(Sys.rf_put_reg _ _ _ _ _ _ _ _ (by decide)).trans hb, (Sys.rf_put_bits _ _ _ _ _ _ _ _ (by decide)).trans ho, fun h => absurd h hfail,
        fun _ _ => ⟨(Sys.slState_put _ n _ _ n (.inr (by decide))).trans hs, ?_, ?_, ?_⟩,
        State.onlySlice_withSys ((hwork.trans hput).trans (Sys.SliceWork.onSlice _ n _))⟩
      · refine (Sys.rf_put_bits _ _ _ _ _ _ _ _ (by decide)).trans (hr.trans ?_)
        by_cases h0 : r = 0
        · subst h0
          rfl
        · have hne : r.toNat ≠ 0 := fun h => h0 (BitVec.eq_of_toNat_eq h)
          rw [if_neg h0, if_neg hne]
          rfl
      · exact (Sys.rf_put_self _ _ _ n 0 (by decide)).trans (Nat.mod_eq_of_lt (Nat.lt_of_le_of_lt hle (by decide)))
      · exact congrArg Slice.sectors (Sys.slice_onSlice_self _ n.val (fun t => { t with sectors := [], sf := [], oc := [] }))
  case disabling =>
    intro s n hl hst hse
    refine completes_onM _ _ s _ hl rfl ?_
    rw [M.disablingDone_empty (x := s.ctx) hst hse]
    refine ⟨?_, State.onlySlice_after rfl ((Sys.SliceWork.slTo _ n slReady).trans (Sys.SliceWork.showHa _ n))⟩
    exact (Sys.slState_showHa _ n n).trans (Sys.slState_slTo _ n slReady)
  case error =>
    intro s n line e hl he
    refine completes_onM _ _ s _ hl rfl ?_
    have hlog (t : Sys) (way sym : Nat) (o : Option Nat) (ue p : Bool) : Sys.Frame t (t.sliceLog n 1 (llcSet e.q) way (line.toNat % 4) sym o ue p) (llcErrReg n) [] :=
      t.sliceLog_frame ..
    have hslice {t u : Sys} (h : t.Frame u (llcErrReg n) []) : u.slice = t.slice := Sys.slice_of_slices (h.2 .slices rfl)
    cases hd : bit e.d (line.toNat % 4) with
    | true =>
      rw [M.llcError_dirty (x := s.ctx) he hd]
      have hf := hlog (s.sys.spoil n line.toNat e.q) e.way 63 (some line.toNat) true true
      have hwork : Sys.FrameSlice n s.sys (s.sys.spoil n line.toNat e.q) (llcErrReg n) [.fcr] := Sys.FrameSlice.onSlice _ _
      refine ⟨fun _ => ⟨?_, ?_⟩, fun h => Bool.noConfusion h,
        State.onlySlice_after rfl (hwork.trans (Sys.FrameSlice.of_frame ((hf.parts_mono (List.nil_subset _)).trans (.raise _ _ _ rfl)) rfl))⟩
      · exact Sys.sector_spoil he hd (hf.rf _ n 0 rfl) (congrFun (hslice hf) n)
      · exact congrArg (fun z : FcrSt => z.events ++ [⟨srcTile n 5, 0⟩]) (hf.2 .fcr rfl)
    | false =>
      cases hv : bit e.v (line.toNat % 4) with
      | true =>
        rw [M.llcError_clean (x := s.ctx) he hd hv]
        have hf := hlog (s.sys.llcClear n line.toNat) e.way 63 (some line.toNat) false false
        have hwork : Sys.FrameSlice n s.sys (s.sys.llcClear n line.toNat) (llcErrReg n) [.fcr] := Sys.FrameSlice.onSlice _ _
        refine ⟨fun h => Bool.noConfusion h, fun _ _ => ⟨Sys.sector_llcClear (congrFun (hslice hf) n), ?_⟩,
          State.onlySlice_after rfl (hwork.trans (Sys.FrameSlice.of_frame ((hf.parts_mono (List.nil_subset _)).trans (.raise _ _ _ rfl)) rfl))⟩
        exact congrArg (fun z : FcrSt => z.events ++ [⟨srcTile n 4, 0⟩]) (hf.2 .fcr rfl)
      | false =>
        rw [M.llcError_invalid (x := s.ctx) he hd hv]
        exact ⟨fun h => Bool.noConfusion h, fun _ h => Bool.noConfusion h, State.onlySlice_after rfl (.refl _)⟩

end Sys2Proof.Machine
end

section
/-!
PROOFS. The statement about how holders answer snoops (R301, R302) does not hold of a line in a state that is none of I, S, E and M.
-/
namespace Sys2Proof.Machine

/-- A core that SNP_CLEAN of line 0 is on its way to, with that line in L1D in state 4: R297 has no such state, but a copy's state in the
model is any number. -/
def oddLine : State :=
  { State.reset with sys :=
    { State.reset.sys.onHart 0 (fun t => { t with l1d := [⟨0, 0, 4, false, 0, 0⟩] }) with msgs := [.snoop 0 .clean 0 (.core 0)] } }

/-- Refutes O34: SNP_CLEAN lowers a copy in state 3 and leaves any other as it was, so a copy in state 4 does not end in the lower of its state
and E (2). -/
theorem not_holderSnoops : ¬ Obligations.HolderSnoops := by
  intro h
  obtain ⟨-, -, -, -, -, hclean⟩ := h
  obtain ⟨t, ht, -, hst, -⟩ := hclean oddLine 0 0 0 [] ⟨0, 0, 4, false, 0, 0⟩ (by decide) (by decide) (by decide) (by decide) rfl (by decide) rfl
  have hnext : exec (.snpClean (.core 0) 0) oddLine = .next (oddLine.withSys (oddLine.sys.snoopArrives .clean (.core 0) 0)) :=
    onSys_live (fun s => s.snoopArrives .clean (.core 0) 0) oddLine (by decide)
  rw [hnext] at ht
  cases ht
  exact absurd hst (by decide)

end Sys2Proof.Machine
end

section
/-!
PROOFS. Two statements about kennels that do not hold: what a kennel's halt leaves unchanged (R377), and SET in an owner table that no
interleave set holds (R392).
-/
namespace Sys2Proof.Machine

/-! ## A halt that squashes a fill-buffer entry -/

/-- A line that hart 0 has bound in its fill buffer and that no instruction uses any more (R195). -/
def unusedBound : SfbEnt := ⟨0x80, .bound, false, 15, 0, false, 0, 1, ⟨0, 0, 0⟩, false, false, false, false, false⟩

/-- Kennel 2 runs on tile 0, where hart 0 holds that entry. -/
def haltedWithFill : State :=
  { State.reset with sys :=
    { (State.reset.sys.put F.SYS_KCTL_STATE kRunning 2).put F.TILE_CORE_PWR_STATE 0 0 0 with
      conf := { State.reset.sys.conf with tiles := [(0, ⟨2, 15, false⟩)] }
      harts := [(0, { Hart.cold with sfb := [unusedBound] })] } }

/-- Refutes O42: the halt drops the entry and reports it with CLEAN_DROP, so what is under way on the mesh changes, which the statement leaves
unchanged. -/
theorem not_kennelControl : ¬ Obligations.KennelControl := by
  intro h
  obtain ⟨hstop, -⟩ := h
  have htakes : haltedWithFill.Takes (.kennelStop (.tether 0) 2 0) := by decide
  obtain ⟨t, ht, -, -, -, -, -, -, hframe⟩ := hstop haltedWithFill (.tether 0) 2 0 htakes (by decide) (by decide)
  have hmsgs : t.sys.msgs = haltedWithFill.sys.msgs := hframe.2.2 .msgs rfl
  have hexec : exec (.kennelStop (.tether 0) 2 0) haltedWithFill =
      .next (haltedWithFill.after (haltedWithFill.ctx.rowWrite (.tether 0) ⟨.SYS_KCTL, 2, 0⟩ (fput 0 2 1 1))) :=
    onM_live (fun x => x.rowWrite (.tether 0) ⟨.SYS_KCTL, 2, 0⟩ (fput 0 2 1 1)) haltedWithFill (by decide)
  rw [hexec] at ht
  cases ht
  exact absurd (congrArg List.length hmsgs) (by decide)

/-! ## An owner table that no interleave set holds -/

/-- No interleave set holds any line, hart 0 holds the table's first line, zeros and dirty, and the table covers one page. -/
def tableInCore : State :=
  { State.reset with sys :=
    { State.reset.sys.put F.OWN_TABLE_PAGES_PAGES 1 with
      harts := [(0, { Hart.cold with l1d := [⟨0, 0, 3, false, 0, 0⟩] })] } }

/-- Refutes O43: SET finds the page's byte in the core's copy, removes that copy and sends the line with the new byte to memory; no channel
takes it, so the byte cannot be read any more. -/
theorem not_ownerTable : ¬ Obligations.OwnerTable := by
  intro h
  obtain ⟨-, -, hset, -⟩ := h
  have htakes : tableInCore.Takes (.set (.tether 0) 1) := by decide
  obtain ⟨t, ht, hbyte, -⟩ := hset tableInCore (.tether 0) 1 0 htakes (by decide) (by decide) (by decide) (by decide) (by decide) (by decide)
    (by decide +kernel) (by decide) (by decide +kernel)
  have hexec : exec (.set (.tether 0) 1) tableInCore =
      .next (tableInCore.after (tableInCore.ctx.rowWrite (.tether 0) ⟨.OWN_CMD, 0, 0⟩ (fput (fput 1 63 1 1) 56 2 1))) :=
    onM_live (fun x => x.rowWrite (.tether 0) ⟨.OWN_CMD, 0, 0⟩ (fput (fput 1 63 1 1) 56 2 1)) tableInCore (by decide)
  rw [hexec] at ht
  cases ht
  exact absurd hbyte (by decide +kernel)

end Sys2Proof.Machine
end

section
/-!
PROOFS. A statement about interrupt sources that does not hold: what a posting's end leaves in the table (R431) when a channel that does not
own the line still holds an older write of it.
-/
namespace Sys2Proof.Machine

/-- Domain 4's sources to 100, and a posting of source 40 to virtual CPU 3 of a table at 0x100000, which channel 0 owns. -/
def postedSys : Sys :=
  let s : Sys := { State.reset.sys with
    conf := { State.reset.sys.conf with
      kennels := [(4, { KennelRec.none with enabled := true })]
      tiles := [(16, ⟨4, 15, true⟩)]
      ilv := [⟨0, false, 1, 0, 1, 0, 2 ^ 30, 0⟩] }
    icn := { State.reset.sys.icn with postings := [⟨4, 40, 3⟩] }
    regionNow := [((0, 0), (0xB400000000000000, 0x10000000))] }
  ((s.put F.ICN_DOM_CFG_ENABLED 1 4).put F.ICN_DOM_CFG_SOURCES 100 4).put F.ICN_DOM_PTAB_BASE 0x100 4

/-- The same where channel 15 still holds a write of the byte's line, left from an older configuration. -/
def postedWithOldWrite : State :=
  { State.reset with sys := postedSys.onChan 15 (fun c => { c with mwr := [⟨(0x100000 + 3) / 64, 0, 0, false⟩] }) }

/-- Refutes O46: the posting's write goes to channel 0, and the line is still read with the zeros that channel 15 holds for it. -/
theorem not_sourceEvents : ¬ Obligations.SourceEvents := by
  intro h
  obtain ⟨-, -, -, -, -, -, -, -, -, -, -, -, -, hposting, -⟩ := h
  obtain ⟨t, ht, -, -, -, hbyte, -⟩ := hposting postedWithOldWrite 4 40 ⟨4, 40, 3⟩ (by decide) (by decide) (by decide) (by decide)
    (by decide) (by decide) (by decide) (by decide) (by decide)
  have hexec : exec (.postingDone 4 40) postedWithOldWrite = .next (postedWithOldWrite.after (postedWithOldWrite.ctx.postingDone 4 40)) :=
    onM_live (fun x => x.postingDone 4 40) postedWithOldWrite (by decide)
  rw [hexec] at ht
  cases ht
  exact absurd hbyte (by decide +kernel)

end Sys2Proof.Machine
end

section
/-!
PROOFS. A statement about the Skohal CSRs that does not hold: what a write of tlwvec leaves in the register (R139) when bits 1:0, which are no
field, are not zero.
-/
namespace Sys2Proof.Machine

/-- Hart 0 runs in M-mode, and bit 0 of its tlwvec, which is of no field, is 1. -/
def tlwvecWithBit : State :=
  { State.reset with sys :=
    { (State.reset.sys.put F.TILE_CORE_PWR_STATE 0 0 0).wr ⟨.tlwvec, 0, 0⟩ 1 with
      harts := [(0, { Hart.cold with priv := 3 })] } }

/-- Refutes O23: a write keeps the bits of no field, so tlwvec reads 1 after 0 is written to it. -/
theorem not_skohalCsrs : ¬ Obligations.SkohalCsrs := by
  intro h
  obtain ⟨-, -, -, -, -, hwrite, -⟩ := h
  obtain ⟨t, ht, -, -, htlwvec, -⟩ := hwrite tlwvecWithBit 0 0x7C3 0 0 (by decide) (by decide) (by decide) (by decide) (Or.inr rfl)
  have hexec : exec (.skohalCsrWrite 0 0x7C3 0 0) tlwvecWithBit = .next (tlwvecWithBit.withSys
      (tlwvecWithBit.sys.when ((skohalAt (0x7C3 : BitVec 12).toNat).isSome) (fun s => s.csrOp 0 (0x7C3 : BitVec 12).toNat 0 (some 0)))) :=
    onSys_live (fun s => s.when ((skohalAt (0x7C3 : BitVec 12).toNat).isSome) (fun s => s.csrOp 0 (0x7C3 : BitVec 12).toNat 0 (some 0))) tlwvecWithBit
      (by decide)
  rw [hexec] at ht
  cases ht
  exact absurd (htlwvec rfl).2 (by decide +kernel)

end Sys2Proof.Machine
end

section
/-!
PROOFS. A statement about memory accesses that does not hold: an AMO that is fetched from another address than the hart's pc is not performed
before the pc comes to it (R184, R190).
-/
namespace Sys2Proof.Machine

/-- Hart 0 is at 0x0FFC, its L1I cache holds the line of 0x1000, and its L1D cache holds line 0x80 in M. -/
def beforeAmo : State :=
  { State.reset with sys :=
    { (State.reset.sys.put F.TILE_CORE_PWR_STATE 0 0 0).put F.TILE_CACHE_CTL_L1D_STATE 2 0 0 with
      harts := [(0, { Hart.cold with
        pc := 0x0FFC
        l1i := [⟨0x40, 0, 1, false, 15, 0⟩]
        l1d := [⟨0x80, 0, 3, false, 15, 0⟩] })] } }

/-- The AMO at 0x1000. -/
def amoAhead : Ins := ⟨0, 0x1000, false, []⟩

/-- Which entries of hart 0's reorder buffer are done after a step. -/
def doneAfter : Host.Outcome State Fault Refusal → List Bool
  | .next t => (t.sys.hart 0).rob.map Uop.done
  | _ => []

/-- Refutes O24: the AMO enters behind an instruction that has not entered yet, so it is not bound and waits. -/
theorem not_coreAccesses : ¬ Obligations.CoreAccesses := by
  intro h
  obtain ⟨-, -, hamo, -⟩ := h
  obtain ⟨t, ht, hrob, -⟩ := hamo beforeAmo amoAhead [⟨0x1000, 4, some 0x1000, 0, false, false, none, none⟩] .add 0x2008 true 5 7 false false
    ⟨0x2008, 8, none, 0, false, false, none, none⟩ ⟨0x2008, 8, some 0x2008, 0, false, false, none, none⟩ 0x2008 ⟨0x80, 0, 3, false, 15, 0⟩
    (by decide) (by decide) (by decide) (by decide) (by decide) (by decide) (by decide) (by decide +kernel) (by decide)
  have hdone : (t.sys.hart 0).rob.map Uop.done = [true] := by
    have hproj := congrArg (List.map fun p => p.2.2.2.1) hrob
    rwa [List.map_map] at hproj
  have hwaits : doneAfter (exec (.amo amoAhead (.op .add) 0x2008 true 5 7 false false) beforeAmo) = [false] := by decide +kernel
  rw [ht] at hwaits
  exact absurd (hdone.symm.trans hwaits) (by decide)

end Sys2Proof.Machine
end

section
/-!
PROOFS. Two statements about the Retriever that do not hold where RTV_ENG_STATUS names another channel than the one the engine serves: the
grains of a request come off the credit of the channel that the register names (R485).
-/
namespace Sys2Proof.Machine

/-- Engine 0 serves channel 0 of kennel 2 with a FILL of 9 bytes, and its register names channel 5, which has credit. -/
def namesOtherChannel : State :=
  let s : Sys := { State.reset.sys with
    conf := { State.reset.sys.conf with
      kennels := [(2, { KennelRec.none with enabled := true, sliceMask := 2 })]
      tiles := [(1, ⟨2, 15, true⟩)]
      ilv := [⟨0, false, 1, 0, 1, 0, 2 ^ 30, 0⟩] }
    engs := [(0, { EngSt.idle with job := some ⟨0, .run, [], [], false, 0⟩ })]
    rtv := [(0, { RtvChan.idle with desc := some ⟨2, true, 7, 9, 0x55, 0x103, 0x400, 0, 0, false, 0, none⟩ })] }
  { State.reset with sys :=
    ((((((s.put F.RTV_CH_BIND_VALID 1 0).put F.RTV_CH_BIND_KENNEL 2 0).put F.RTV_CH_STATUS_STATE chActive 0).put F.RTV_CH_CTL_ENABLE 1 0).put
      F.RTV_ENG_STATUS_CHANNEL 5 0).put F.RTV_CH_STATUS_CREDIT 10 5).onStop 64 (fun t => { t with mem := [(2, 9)] }) }

/-- The credit of channel 5 after a step. -/
def creditAfter : Host.Outcome State Fault Refusal → Nat
  | .next t => t.sys.rf F.RTV_CH_STATUS_CREDIT 5
  | _ => 0

/-- Where RTV_CH_STATUS of channel 5 is as it was, so is its credit. -/
theorem creditAfter_of_frame {t : State} {but : RK → Bool} {parts : List Part} (h : namesOtherChannel.sys.Frame t.sys but parts)
    (hb : but ⟨.RTV_CH_STATUS, 5, 0⟩ = false) : creditAfter (.next t) = 10 := by
  have hcredit : namesOtherChannel.sys.rf F.RTV_CH_STATUS_CREDIT 5 = 10 := by decide
  exact (h.rf F.RTV_CH_STATUS_CREDIT 5 0 hb).trans hcredit

/-- Refutes O50: the FILL's write takes a grain off the credit of channel 5, which the statement leaves unchanged. -/
theorem not_descriptors : ¬ Obligations.Descriptors := by
  intro h
  obtain ⟨-, hfill, -⟩ := h
  obtain ⟨t, ht, -, -, hframe⟩ := hfill namesOtherChannel 0 ⟨0, .run, [], [], false, 0⟩ ⟨2, true, 7, 9, 0x55, 0x103, 0x400, 0, 0, false, 0, none⟩
    4 0x103 9 (by decide) (by decide) (by decide) (by decide) (by decide) (by decide) (by decide) (by decide) (by decide) (by decide)
  have hkept := creditAfter_of_frame hframe.1.2 rfl
  have hspent : creditAfter (exec (.fill 0) namesOtherChannel) = 9 := by decide +kernel
  rw [ht] at hspent
  exact absurd (hkept.symm.trans hspent) (by decide)

/-- Refutes O51: the abort's record takes a grain off the credit of channel 5. -/
theorem not_channelControl : ¬ Obligations.ChannelControl := by
  intro h
  obtain ⟨-, -, -, -, -, -, -, habort, -⟩ := h
  obtain ⟨t, ht, -, -, -, -, -, hframe⟩ := habort namesOtherChannel (.tether 0) 0 0
    ⟨2, true, 7, 9, 0x55, 0x103, 0x400, 0, 0, false, 0, none⟩ 0 ⟨0, .run, [], [], false, 0⟩ (by decide) (by decide) (by decide) (by decide)
    (by decide) (by decide)
  have hkept := creditAfter_of_frame hframe.1.2 rfl
  have hspent : creditAfter (exec (.chAbort (.tether 0) 0 0) namesOtherChannel) = 9 := by decide +kernel
  rw [ht] at hspent
  exact absurd (hkept.symm.trans hspent) (by decide)

end Sys2Proof.Machine
end

section
/-!
PROOFS. A statement about the endpoint that does not hold: what its link's queue holds after PERST# falls (R468, R595), when a request that is
outstanding on the link was forwarded for one of the queue's own writes.
-/
namespace Sys2Proof.Machine

/-- A write to memory in the endpoint's queue that still waits for line 5. -/
def waitingWrite : InReq := ⟨0, .write, 0x140, 8, 2, false, false, 1, false, [], [5], false, none, 0⟩

/-- Port 0 is an endpoint whose link is UP; a read that is outstanding on the link names that write as its requester. -/
def endpointUp : State :=
  let s : Sys := { State.reset.sys with
    conf := { State.reset.sys.conf with ports := [(0, ⟨3, 0, 6, [2], 0⟩)] }
    links := [((0, 0), { LinkSt.cold with out := [⟨.peer 0 0 0, .mem, 0, 8⟩], inq := [waitingWrite] })] }
  { State.reset with sys := s.put F.IOP_LINK_STATUS_STATE lkUp 0 0 }

/-- The requests in the endpoint's queue after a step. -/
def queueAfter : Host.Outcome State Fault Refusal → List InReq
  | .next t => (t.sys.link 0 0).inq
  | _ => []

/-- Refutes O48: the read's end makes the write go on, and it leaves the queue, where the statement has it stay as a posted request. -/
theorem not_endpointPort : ¬ Obligations.EndpointPort := by
  intro h
  obtain ⟨-, -, -, -, -, -, -, -, -, -, -, -, hperst, -⟩ := h
  obtain ⟨t, ht, -, -, -, hqueue, -⟩ := hperst endpointUp 0 (by decide) (by decide) (by decide)
  have hempty : queueAfter (exec (.perstInput 0 false) endpointUp) = [] := by decide +kernel
  rw [ht] at hempty
  exact absurd (hqueue.symm.trans hempty) (by decide)

end Sys2Proof.Machine
end

section
/-!
PROOFS. The statement about TLSYNC and WFS that does not hold: a core that waits may leave CS0 at once (R563, R565), and the clock of its domain, where
it is stopped, then starts again (R431).
-/
namespace Sys2Proof.Machine

/-- Hart 0 runs in M-mode with CS2 requested, and the clock of its domain 15 is stopped. -/
def waitsUnclocked : State :=
  { State.reset with sys :=
    ({ (State.reset.sys.put F.TILE_CORE_PWR_STATE 0 0 0).put F.ICN_DOM_CFG_CLK_STOPPED 1 15 with
      harts := [(0, { Hart.cold with priv := 3 })] }).onCpwr 0 (fun c => { c with req := 2 }) }

/-- Whether the clock of domain 15 is stopped after a step. -/
def clockStoppedAfter : Host.Outcome State Fault Refusal → Bool
  | .next t => t.sys.on F.ICN_DOM_CFG_CLK_STOPPED 15
  | _ => true

/-- Refutes O21: ICN_DOM_CFG, which the statement has no change of, shows that the clock runs again. -/
theorem not_skohalWaits : ¬ Obligations.SkohalWaits := by
  intro h
  obtain ⟨-, hwaits, -⟩ := h
  obtain ⟨t, ht, -, -, -, hframe, -⟩ := hwaits waitsUnclocked 0 1 0 (by decide) (by decide) (by decide) (by decide)
  have hstarted : clockStoppedAfter (exec (.wfs 0 1 0) waitsUnclocked) = false := by decide +kernel
  rw [ht] at hstarted
  have hkept : t.sys.on F.ICN_DOM_CFG_CLK_STOPPED 15 = waitsUnclocked.sys.on F.ICN_DOM_CFG_CLK_STOPPED 15 :=
    congrArg (· == 1) (Sys.Frame.rf hframe.2 F.ICN_DOM_CFG_CLK_STOPPED 15 0 rfl)
  exact absurd (hkept.symm.trans hstarted) (by decide)

end Sys2Proof.Machine
end

section
/-!
SUPPORT. A hart's CSRs, its changes of mode and world, and its retirement (R130, R131, R148): what each leaves as it was.
-/
namespace Sys2Proof.Machine

/-! ## CSRs of one hart -/

section
variable (t : Hart) (n m lo wd lo' wd' v : Nat)

theorem Hart.csrGet_csrSet (w : Word) : (t.csrSet n w).csrGet m = if n = m then w else t.csrGet m := by
  split
  · next h => rw [h]; exact Bank.getD_set_self ..
  · next h => exact Bank.getD_set_other _ _ _ _ _ h

theorem Hart.csrGet_cput : (t.cput n lo wd v).csrGet m = if n = m then fput (t.csrGet n) lo wd v else t.csrGet m := t.csrGet_csrSet n m _

theorem Hart.cf_csrSet (w : Word) (h : n ≠ m) : (t.csrSet n w).cf m lo wd = t.cf m lo wd := by
  unfold Hart.cf
  rw [Hart.csrGet_csrSet, if_neg h]

theorem Hart.cf_cput_same (h : lo + wd ≤ 64) : (t.cput n lo wd v).cf n lo wd = v % 2 ^ wd := by
  unfold Hart.cf
  rw [Hart.csrGet_cput, if_pos rfl, fget_fput_same _ _ _ _ h]

/-- Another field, of the same CSR or of another. -/
theorem Hart.cf_cput_other (h : n ≠ m ∨ lo' + wd' ≤ 64 ∧ (lo + wd ≤ lo' ∨ lo' + wd' ≤ lo)) : (t.cput n lo wd v).cf m lo' wd' = t.cf m lo' wd' := by
  unfold Hart.cf
  rw [Hart.csrGet_cput]
  by_cases hn : n = m
  · obtain ⟨hw, hd⟩ := h.resolve_left (not_not_intro hn)
    rw [if_pos hn, fget_fput_other _ _ _ _ _ _ hw hd, hn]
  · rw [if_neg hn]

end

section
variable {s t : Hart} {parts : List HPart} {csrs : List Nat}

/-- A CSR that counting does not touch. -/
theorem Hart.Keeps.csrGet_eq (h : s.Keeps t parts csrs) (n : Nat) (hn : csrs.contains n = false) (hk : csrKept n = 0xFFFFFFFFFFFFFFFF) : t.csrGet n = s.csrGet n := by
  have hkept := h.2 n hn
  have hones : (0xFFFFFFFFFFFFFFFF : Word) = BitVec.allOnes 64 := by decide
  rwa [hk, hones, BitVec.and_allOnes, BitVec.and_allOnes] at hkept

theorem Hart.Keeps.cf_eq (h : s.Keeps t parts csrs) (n lo wd : Nat) (hn : csrs.contains n = false) (hk : csrKept n = 0xFFFFFFFFFFFFFFFF) : t.cf n lo wd = s.cf n lo wd := by
  unfold Hart.cf
  rw [h.csrGet_eq n hn hk]

/-- A CSR that is listed is written. -/
theorem Hart.Keeps.csrSet (t : Hart) (n : Nat) (w : Word) (h : csrs.contains n = true) : t.Keeps (t.csrSet n w) parts csrs := by
  refine ⟨fun q _ => ?_, fun m hm => ?_⟩
  · cases q <;> first | exact rfl | exact ⟨rfl, rfl⟩ | exact ⟨rfl, rfl, rfl⟩ | exact ⟨rfl, rfl, rfl, rfl, rfl, rfl⟩
  · rw [Hart.csrGet_csrSet, if_neg]
    rintro rfl
    rw [h] at hm
    exact Bool.noConfusion hm

theorem Hart.Keeps.cput (t : Hart) (n lo wd v : Nat) (h : csrs.contains n = true) : t.Keeps (t.cput n lo wd v) parts csrs := .csrSet t n _ h

theorem Hart.Keeps.set_mode (t : Hart) (p : Nat) (v : Bool) (h : parts.contains .mode = true) : t.Keeps { t with priv := p, virt := v } parts csrs :=
  .of_part rfl h (by intro q hq; cases q <;> first | exact absurd rfl hq | exact rfl | exact ⟨rfl, rfl⟩ | exact ⟨rfl, rfl, rfl⟩ | exact ⟨rfl, rfl, rfl, rfl, rfl, rfl⟩)

theorem Hart.Keeps.set_pred (t : Hart) (p) (i) (r) (h : parts.contains .pred = true) : t.Keeps { t with pred := p, hist := i, streams := r } parts csrs :=
  .of_part rfl h (by intro q hq; cases q <;> first | exact absurd rfl hq | exact rfl | exact ⟨rfl, rfl⟩ | exact ⟨rfl, rfl, rfl⟩ | exact ⟨rfl, rfl, rfl, rfl, rfl, rfl⟩)

end

/-! ## Flushes -/

section
variable {h : Nat} {but : RK → Bool} {parts : List Part} (s : Sys)

theorem Sys.predFlush_frame {hp : List HPart} {csrs : List Nat} (hpred : hp.contains .pred = true) : Sys.FrameHart h s (s.predFlush h) but parts hp csrs :=
  Sys.FrameHart.trans (.onHart s _ (.set_pred _ _ _ _ hpred)) (Sys.hpm_frame _ _)

/-- The fill-buffer entries that a flush drops. -/
def Hart.flushed (t : Hart) (instrOnly : Bool) : List SfbEnt := t.sfb.filter (fun e => !e.dead && (e.instr || !instrOnly))

theorem Sys.sfbFlush_eq (b : Bool) : s.sfbFlush h b = (s.each ((s.hart h).flushed b) (fun s e => s.sfbDrop h e)).onHart h (fun t => { t with
    rob := t.rob.map (fun u => if ((s.hart h).flushed b).any (fun e => !e.instr && u.sfb.contains e.line) then { u with sfb := [], done := false } else u) }) := rfl

theorem Sys.sfbDrops_frame (l : List SfbEnt) : Sys.FrameHart h s (s.each l (fun s e => s.sfbDrop h e)) grainReg stopParts [.sfb] [] :=
  .each s l _ fun t e _ => t.sfbDrop_frame e

theorem Sys.sfbFlush_squashes (b : Bool) : Sys.Squashes h s (s.sfbFlush h b) := by
  rw [Sys.sfbFlush_eq]
  exact ((s.sfbDrops_frame _).mono (fun _ h => h) (List.Subset.refl _) (by decide) (List.Subset.refl _)).trans (.onHart _ _ (.set_rob _ _ rfl))

/-! ## An empty reorder buffer -/

theorem Sys.rob_sfbFlush_nil (b : Bool) (hr : (s.hart h).rob = []) : ((s.sfbFlush h b).hart h).rob = [] := by
  rw [Sys.sfbFlush_eq, Sys.hart_onHart_self]
  have hkept : ((s.each ((s.hart h).flushed b) (fun s e => s.sfbDrop h e)).hart h).rob = (s.hart h).rob := (s.sfbDrops_frame _).2.1 .rob rfl
  exact congrArg (List.map _) (hkept.trans hr)

theorem Sys.rob_hpm (code : Nat) : ((s.hpm h code).hart h).rob = (s.hart h).rob := (Sys.hpm_frame s code (but := grainReg) (parts := []) (hp := []) (csrs := [])).2.1 .rob rfl

theorem Sys.rob_predFlush : ((s.predFlush h).hart h).rob = (s.hart h).rob := (s.predFlush_frame (but := grainReg) (parts := []) (hp := [.pred]) (csrs := []) rfl).2.1 .rob rfl

theorem Sys.rob_when_nil {c : Bool} {f : Sys → Sys} (hr : (s.hart h).rob = []) (hf : ((f s).hart h).rob = []) : ((s.when c f).hart h).rob = [] := by
  cases c with
  | false => exact hr
  | true => exact hf

/-- A squash keeps the instructions before its place. -/
theorem Sys.rob_squash (i : Nat) : ((s.squash h i).hart h).rob = (s.hart h).rob.take i := by
  have hsweep (u : Sys) : ((u.sfbSweep h).hart h).rob = (u.hart h).rob := (u.sfbDrops_frame _).2.1 .rob rfl
  have hwhen (u : Sys) (c : Bool) : ((u.when c (fun s => s.hpm h 0x44)).hart h).rob = (u.hart h).rob := by
    cases c with
    | false => rfl
    | true => exact u.rob_hpm 0x44
  refine Eq.trans (hsweep _) (Eq.trans (hwhen _ _) ?_)
  exact congrArg Hart.rob (Bank.getD_set_self ..)

/-! ## Changes of mode and world -/

/-- The hart with the mode that it changes to, in the state before the flushes of the change. -/
def Sys.modeSet (s : Sys) (h priv : Nat) (virt world : Bool) : Sys :=
  (s.onHart h (fun t => { t with priv := priv, virt := virt, late := [] })).put F.tlworld_WORLD (b2n (world && !s.on F.tlworld_NOSEC h)) h

variable (priv : Nat) (virt world : Bool)

/-- The flushes of a change. -/
def Sys.modeFlush (s : Sys) (h : Nat) (wChg flush pflush : Bool) : Sys :=
  ((s.when wChg (fun s => s.hpm h 0x53)).when flush (fun s => s.sfbFlush h false)).when pflush (fun s => s.predFlush h)

theorem Sys.modeFlush_squashes (a b c : Bool) : Sys.Squashes h s (s.modeFlush h a b c) :=
  ((Sys.FrameHart.when s a _ fun _ => s.hpm_frame 0x53).trans (.when _ b _ fun _ => Sys.sfbFlush_squashes _ _)).trans
    (.when _ c _ fun _ => Sys.predFlush_frame _ rfl)

theorem Sys.rob_modeFlush_nil (a b c : Bool) (hr : (s.hart h).rob = []) : ((s.modeFlush h a b c).hart h).rob = [] := by
  have h1 := s.rob_when_nil (c := a) (f := fun s => s.hpm h 0x53) hr ((s.rob_hpm _).trans hr)
  have h2 := Sys.rob_when_nil _ (c := b) (f := fun s => s.sfbFlush h false) h1 (Sys.rob_sfbFlush_nil _ _ h1)
  exact Sys.rob_when_nil _ h2 ((Sys.rob_predFlush _).trans h2)

theorem Sys.modeTo_eq : ∃ a b c, s.modeTo h priv virt world = (s.modeSet h priv virt world).modeFlush h a b c := ⟨_, _, _, rfl⟩

/-- The registers that a change of mode or world may change: tlworld, and what sending changes. -/
abbrev modeReg (h : Nat) : RK → Bool := fun k => grainReg k || (k.reg == .tlworld && k.i == h)

theorem Sys.hart_modeSet : (s.modeSet h priv virt world).hart h = { s.hart h with priv := priv, virt := virt, late := [] } :=
  s.hart_onHart_self h (fun t => { t with priv := priv, virt := virt, late := [] })

theorem Sys.modeSet_frame : Sys.FrameHart h s (s.modeSet h priv virt world) (modeReg h) parts [.mode, .late] [] := by
  have hput (u : Sys) (v : Nat) : Sys.FrameHart h u (u.put F.tlworld_WORLD v h) (modeReg h) [] [.mode, .late] [] :=
    Sys.FrameHart.of_frame (.put _ _ _ _ _ (by simp)) rfl
  refine Sys.FrameHart.trans (.onHart s (fun t => { t with priv := priv, virt := virt, late := [] }) ?_)
    ((hput _ _).mono (fun _ h => h) (List.nil_subset _) (List.Subset.refl _) (List.Subset.refl _))
  exact (Hart.Keeps.set_mode (s.hart h) priv virt rfl).trans (.set_late _ [] rfl)

/-- The fields of tlworld that the flushes of a change leave. -/
theorem Sys.Squashes.tlworld {s t : Sys} (a : Sys.Squashes h s t) (f : Fld) (hf : f.reg = .tlworld) (i : Nat) : t.rf f i = s.rf f i :=
  Sys.Frame.rf a.1.1 f i 0 (by rw [hf]; rfl)

theorem Sys.modeTo_frame : Sys.FrameHart h s (s.modeTo h priv virt world) (modeReg h) stopParts [.mode, .late, .rob, .sfb, .pred] [] := by
  obtain ⟨a, b, c, hto⟩ := s.modeTo_eq (h := h) priv virt world
  rw [hto]
  exact ((s.modeSet_frame priv virt world).mono (fun _ h => h) (List.Subset.refl _) (by decide) (List.Subset.refl _)).trans
    ((Sys.modeFlush_squashes _ a b c).mono (fun _ h => by simp [h]) (List.Subset.refl _) (by decide) (List.Subset.refl _))

theorem Sys.rob_modeTo_nil (hr : (s.hart h).rob = []) : ((s.modeTo h priv virt world).hart h).rob = [] := by
  obtain ⟨a, b, c, hto⟩ := s.modeTo_eq (h := h) priv virt world
  rw [hto]
  exact Sys.rob_modeFlush_nil _ a b c ((congrArg Hart.rob (s.hart_modeSet priv virt world)).trans hr)

/-- What a change of mode and world sets: the mode, the world below NOSEC, and no late write. -/
theorem Sys.modeTo_sets : ((s.modeTo h priv virt world).hart h).priv = priv ∧ ((s.modeTo h priv virt world).hart h).virt = virt ∧
    ((s.modeTo h priv virt world).hart h).late = [] ∧ (s.modeTo h priv virt world).worldS h = (world && !s.on F.tlworld_NOSEC h) ∧
    (s.modeTo h priv virt world).rf F.tlworld_PWORLD h = s.rf F.tlworld_PWORLD h := by
  obtain ⟨a, b, c, hto⟩ := s.modeTo_eq (h := h) priv virt world
  have hflush := Sys.modeFlush_squashes (h := h) (s.modeSet h priv virt world) a b c
  have hset := s.hart_modeSet (h := h) priv virt world
  obtain ⟨hpriv, hvirt⟩ := hflush.2.1 .mode rfl
  rw [hto]
  refine ⟨hpriv.trans (congrArg Hart.priv hset), hvirt.trans (congrArg Hart.virt hset), Eq.trans (hflush.2.1 .late rfl) (congrArg Hart.late hset), ?_, ?_⟩
  · refine (congrArg (· == 1) (hflush.tlworld F.tlworld_WORLD rfl h)).trans ?_
    refine (congrArg (· == 1) (Sys.rf_put_self _ F.tlworld_WORLD _ h 0 (by decide))).trans ?_
    cases world && !s.on F.tlworld_NOSEC h <;> rfl
  · exact (hflush.tlworld F.tlworld_PWORLD rfl h).trans (Sys.rf_put_bits _ _ _ _ _ _ _ _ (by decide))

/-! ## Retirement -/

theorem Sys.retired_frame : Sys.FrameHart h s (s.retired h) (fun _ => false) [.freeCount] [.late] [] := by
  refine Sys.FrameHart.trans ?_ ((Sys.hpm_frame _ 0x01).trans (Sys.hpm_frame _ 0x02))
  refine Sys.FrameHart.trans (.onHart s _ ?_) (.of_frame (.usedFree _ rfl) rfl)
  exact ((Hart.keeps_csrSet (by simp [csrKept, csrMinstret])).trans (Hart.keeps_csrSet (by simp [csrKept, csrMcycle]))).trans (.set_late _ _ rfl)

/-- No late write becomes one by a retirement. -/
theorem Sys.late_retired_nil (hl : (s.hart h).late = []) : ((s.retired h).hart h).late = [] := by
  have hhpm (u : Sys) (code : Nat) : ((u.hpm h code).hart h).late = (u.hart h).late := (Sys.hpm_frame u code (but := grainReg) (parts := []) (hp := []) (csrs := [])).2.1 .late rfl
  refine (hhpm _ _).trans ((hhpm _ _).trans ?_)
  refine (congrArg Hart.late (Bank.getD_set_self ..)).trans ?_
  exact congrArg (fun l => List.filter _ (List.map _ l)) hl

end

end Sys2Proof.Machine
end

section
/-!
SUPPORT. Traps (R130, R202): the hart that each of the three destinations makes, and what a trap leaves as it was.
-/
namespace Sys2Proof.Machine

/-! ## The hart at its new mode -/

section
variable {h : Nat} {hp : List HPart} {csrs : List Nat} (s : Sys) (t : Hart) (priv : Nat) (virt world : Bool)

/-- What a change of mode and world may change of its hart. -/
abbrev modeParts : List HPart := [.mode, .late, .rob, .sfb, .pred]

/-- The hart is replaced, and then changes mode and world. -/
def Sys.enter (s : Sys) (h : Nat) (t : Hart) (priv : Nat) (virt world : Bool) : Sys := (s.hartTo h t).modeTo h priv virt world

theorem Sys.hart_hartTo : (s.hartTo h t).hart h = t := Bank.getD_set_self ..

theorem Sys.hartTo_frame {but : RK → Bool} {parts : List Part} (hk : (s.hart h).Keeps t hp csrs) : Sys.FrameHart h s (s.hartTo h t) but parts hp csrs :=
  .onHart s (fun _ => t) hk

theorem Sys.enter_at : Sys.FrameAt Sys.hart .harts h s (s.enter h t priv virt world) (modeReg h) stopParts :=
  Sys.FrameAt.trans ⟨.set_harts s _ rfl, fun _ hg => s.hart_onHart_other h (fun _ => t) hg⟩ (Sys.modeTo_frame _ priv virt world).1

/-- The hart is the one that is given, but for its mode and what the flushes change. -/
theorem Sys.enter_keeps : t.Keeps ((s.enter h t priv virt world).hart h) modeParts [] := by
  have hmode := (Sys.modeTo_frame (h := h) (s.hartTo h t) priv virt world).2
  rwa [Sys.hart_hartTo] at hmode

theorem Sys.enter_frame (hk : (s.hart h).Keeps t hp csrs) (hm : modeParts ⊆ hp) : Sys.FrameHart h s (s.enter h t priv virt world) (modeReg h) stopParts hp csrs :=
  ⟨s.enter_at t priv virt world, hk.trans ((s.enter_keeps t priv virt world).mono hm (List.nil_subset _))⟩

theorem Sys.enter_sets : ((s.enter h t priv virt world).hart h).priv = priv ∧ ((s.enter h t priv virt world).hart h).virt = virt ∧
    ((s.enter h t priv virt world).hart h).late = [] ∧ (s.enter h t priv virt world).worldS h = (world && !s.on F.tlworld_NOSEC h) ∧
    (s.enter h t priv virt world).rf F.tlworld_PWORLD h = s.rf F.tlworld_PWORLD h := Sys.modeTo_sets _ priv virt world

theorem Sys.enter_rob (hr : t.rob = []) : ((s.enter h t priv virt world).hart h).rob = [] :=
  Sys.rob_modeTo_nil _ priv virt world ((congrArg Hart.rob (s.hart_hartTo t)).trans hr)

end

/-! ## Entry to M-mode -/

section
variable {h : Nat} {hp : List HPart} {csrs : List Nat} (s : Sys) (t : Hart)

/-- The hart is replaced and enters M-mode and world S; tlworld saves its world. -/
def Sys.enterM (s : Sys) (h : Nat) (t : Hart) : Sys := ((s.hartTo h t).put F.tlworld_PWORLD (b2n (s.worldS h)) h).modeTo h 3 false true

theorem Sys.hart_put_hartTo (f : Fld) (v : Nat) : ((s.hartTo h t).put f v h).hart h = t := s.hart_hartTo t

theorem Sys.enterM_frame (hk : (s.hart h).Keeps t hp csrs) (hm : modeParts ⊆ hp) : Sys.FrameHart h s (s.enterM h t) (modeReg h) stopParts hp csrs := by
  have hput (u : Sys) (v : Nat) : Sys.FrameHart h u (u.put F.tlworld_PWORLD v h) (modeReg h) [] hp csrs := Sys.FrameHart.of_frame (.put _ _ _ _ _ (by simp)) rfl
  exact ((s.hartTo_frame t hk).trans ((hput _ _).mono (fun _ h => h) (List.nil_subset _) (List.Subset.refl _) (List.Subset.refl _))).trans
    ((Sys.modeTo_frame _ 3 false true).mono (fun _ h => h) (List.Subset.refl _) hm (List.nil_subset _))

theorem Sys.enterM_keeps : t.Keeps ((s.enterM h t).hart h) modeParts [] := by
  have hmode := (Sys.modeTo_frame (h := h) ((s.hartTo h t).put F.tlworld_PWORLD (b2n (s.worldS h)) h) 3 false true).2
  rwa [Sys.hart_put_hartTo] at hmode

theorem Sys.enterM_sets : ((s.enterM h t).hart h).priv = 3 ∧ ((s.enterM h t).hart h).virt = false ∧ ((s.enterM h t).hart h).late = [] ∧
    (s.enterM h t).worldS h = !s.on F.tlworld_NOSEC h ∧ (s.enterM h t).rf F.tlworld_PWORLD h = b2n (s.worldS h) := by
  obtain ⟨hpriv, hvirt, hlate, hworld, hpworld⟩ := Sys.modeTo_sets (h := h) ((s.hartTo h t).put F.tlworld_PWORLD (b2n (s.worldS h)) h) 3 false true
  refine ⟨hpriv, hvirt, hlate, hworld.trans ?_, hpworld.trans ?_⟩
  · exact congrArg (fun v => !(v == 1)) (Sys.rf_put_bits _ F.tlworld_PWORLD F.tlworld_NOSEC _ _ _ _ _ (by decide))
  · exact (Sys.rf_put_self _ F.tlworld_PWORLD _ h 0 (by decide)).trans (Nat.mod_eq_of_lt (b2n_lt _))

theorem Sys.enterM_rob (hr : t.rob = []) : ((s.enterM h t).hart h).rob = [] :=
  Sys.rob_modeTo_nil _ 3 false true ((congrArg Hart.rob (s.hart_put_hartTo t _ _)).trans hr)

end

/-! ## What a trap begins with -/

section
variable {h : Nat} (s : Sys)

/-- Every unretired instruction is squashed, the reservation ends, and the hart waits for nothing. -/
def Sys.trapStart (s : Sys) (h : Nat) : Sys := (s.squash h 0).onHart h (fun t => { t with resv := none, wait := .run, fwalk := [] })

theorem Sys.hart_trapStart : (s.trapStart h).hart h = { (s.squash h 0).hart h with resv := none, wait := .run, fwalk := [] } :=
  Sys.hart_onHart_self _ h (fun t => { t with resv := none, wait := .run, fwalk := [] })

/-- What a trap begins with changes of the hart. -/
abbrev startParts : List HPart := [.rob, .sfb, .pred, .resv, .wait, .fwalk]

theorem Sys.trapStart_frame : Sys.FrameHart h s (s.trapStart h) grainReg stopParts startParts [] := by
  refine ((s.squash_squashes 0).mono (fun _ h => h) (List.Subset.refl _) (by decide) (List.Subset.refl _)).trans (.onHart _ _ ?_)
  exact (((Hart.Keeps.set_resv _ none rfl).trans (.set_wait _ .run rfl)).trans (.set_fwalk _ [] rfl))

theorem Sys.trapStart_rob : ((s.trapStart h).hart h).rob = [] :=
  (congrArg Hart.rob s.hart_trapStart).trans ((s.rob_squash 0).trans (List.take_zero ..))

theorem Sys.trapStart_resv : ((s.trapStart h).hart h).resv = none := congrArg Hart.resv s.hart_trapStart
theorem Sys.trapStart_wait : ((s.trapStart h).hart h).wait = .run := congrArg Hart.wait s.hart_trapStart

theorem Sys.trapStart_csr (n : Nat) (hk : csrKept n = 0xFFFFFFFFFFFFFFFF) : ((s.trapStart h).hart h).csrGet n = (s.hart h).csrGet n :=
  s.trapStart_frame.2.csrGet_eq n rfl hk

theorem Sys.trapStart_cf (n lo wd : Nat) (hk : csrKept n = 0xFFFFFFFFFFFFFFFF) : ((s.trapStart h).hart h).cf n lo wd = (s.hart h).cf n lo wd :=
  s.trapStart_frame.2.cf_eq n lo wd rfl hk

theorem Sys.trapStart_mode : ((s.trapStart h).hart h).priv = (s.hart h).priv ∧ ((s.trapStart h).hart h).virt = (s.hart h).virt := s.trapStart_frame.2.1 .mode rfl

theorem Sys.trapStart_on (f : Fld) (hf : f.reg = .tlworld) (i : Nat) : (s.trapStart h).on f i = s.on f i :=
  congrArg (· == 1) (Sys.Frame.rf s.trapStart_frame.1.1 f i 0 (by rw [hf]; rfl))

end

/-! ## The destinations -/

section
variable (t : Hart) (code : Nat) (intr : Bool) (pc : Word) (tval tval2 : Nat) (gva : Bool)

/-- mstatus on entry to M-mode: MPP, MPV, MPIE and MIE. -/
def Hart.stackM (t : Hart) (priv : Nat) (virt : Bool) : Hart :=
  (((t.cput mstatus 11 2 priv).cput mstatus 39 1 (b2n virt)).cput mstatus 7 1 (t.cf mstatus 3 1)).cput mstatus 3 1 0

/-- mstatus on entry to HS-mode: SPP, SPIE and SIE. -/
def Hart.stackHs (t : Hart) (priv : Nat) : Hart := ((t.cput mstatus 8 1 (min 1 priv)).cput mstatus 5 1 (t.cf mstatus 1 1)).cput mstatus 1 1 0

/-- vsstatus on entry to VS-mode. -/
def Hart.stackVs (t : Hart) (priv : Nat) : Hart := ((t.cput vsstatus 8 1 priv).cput vsstatus 5 1 (t.cf vsstatus 1 1)).cput vsstatus 1 1 0

theorem Hart.stackM_keeps (priv : Nat) (virt : Bool) {parts : List HPart} {csrs : List Nat} (h : csrs.contains mstatus = true) :
    t.Keeps (t.stackM priv virt) parts csrs :=
  (((Hart.Keeps.cput _ _ _ _ _ h).trans (.cput _ _ _ _ _ h)).trans (.cput _ _ _ _ _ h)).trans (.cput _ _ _ _ _ h)

theorem Hart.stackHs_keeps (priv : Nat) {parts : List HPart} {csrs : List Nat} (h : csrs.contains mstatus = true) : t.Keeps (t.stackHs priv) parts csrs :=
  ((Hart.Keeps.cput _ _ _ _ _ h).trans (.cput _ _ _ _ _ h)).trans (.cput _ _ _ _ _ h)

theorem Hart.stackVs_keeps (priv : Nat) {parts : List HPart} {csrs : List Nat} (h : csrs.contains vsstatus = true) : t.Keeps (t.stackVs priv) parts csrs :=
  ((Hart.Keeps.cput _ _ _ _ _ h).trans (.cput _ _ _ _ _ h)).trans (.cput _ _ _ _ _ h)

theorem Hart.stackM_sets (priv : Nat) (virt : Bool) : (t.stackM priv virt).cf mstatus 11 2 = priv % 4 ∧ (t.stackM priv virt).cf mstatus 39 1 = b2n virt ∧
    (t.stackM priv virt).cf mstatus 7 1 = t.cf mstatus 3 1 ∧ (t.stackM priv virt).cf mstatus 3 1 = 0 := by
  have hother (u : Hart) (lo wd v lo' wd' : Nat) (h : lo' + wd' ≤ 64 ∧ (lo + wd ≤ lo' ∨ lo' + wd' ≤ lo)) : (u.cput mstatus lo wd v).cf mstatus lo' wd' = u.cf mstatus lo' wd' :=
    u.cf_cput_other _ _ _ _ _ _ _ (.inr h)
  unfold Hart.stackM
  refine ⟨?_, ?_, ?_, ?_⟩
  · rw [hother _ 3 _ _ 11 _ (by decide), hother _ 7 _ _ 11 _ (by decide), hother _ 39 _ _ 11 _ (by decide), Hart.cf_cput_same _ _ _ _ _ (by decide)]
    rfl
  · rw [hother _ 3 _ _ 39 _ (by decide), hother _ 7 _ _ 39 _ (by decide), Hart.cf_cput_same _ _ _ _ _ (by decide), Nat.mod_eq_of_lt (b2n_lt virt)]
  · rw [hother _ 3 _ _ 7 _ (by decide), Hart.cf_cput_same _ _ _ _ _ (by decide)]
    exact fget_mod ..
  · exact Hart.cf_cput_same _ _ _ _ _ (by decide)

theorem Hart.stackHs_sets (priv : Nat) : (t.stackHs priv).cf mstatus 8 1 = min 1 priv ∧ (t.stackHs priv).cf mstatus 5 1 = t.cf mstatus 1 1 ∧
    (t.stackHs priv).cf mstatus 1 1 = 0 := by
  have hother (u : Hart) (lo wd v lo' wd' : Nat) (h : lo' + wd' ≤ 64 ∧ (lo + wd ≤ lo' ∨ lo' + wd' ≤ lo)) : (u.cput mstatus lo wd v).cf mstatus lo' wd' = u.cf mstatus lo' wd' :=
    u.cf_cput_other _ _ _ _ _ _ _ (.inr h)
  unfold Hart.stackHs
  refine ⟨?_, ?_, ?_⟩
  · rw [hother _ 1 _ _ 8 _ (by decide), hother _ 5 _ _ 8 _ (by decide), Hart.cf_cput_same _ _ _ _ _ (by decide)]
    omega
  · rw [hother _ 1 _ _ 5 _ (by decide), Hart.cf_cput_same _ _ _ _ _ (by decide)]
    exact fget_mod ..
  · exact Hart.cf_cput_same _ _ _ _ _ (by decide)

theorem Hart.stackVs_sets (priv : Nat) : (t.stackVs priv).cf vsstatus 8 1 = priv % 2 ∧ (t.stackVs priv).cf vsstatus 5 1 = t.cf vsstatus 1 1 ∧
    (t.stackVs priv).cf vsstatus 1 1 = 0 := by
  have hother (u : Hart) (lo wd v lo' wd' : Nat) (h : lo' + wd' ≤ 64 ∧ (lo + wd ≤ lo' ∨ lo' + wd' ≤ lo)) : (u.cput vsstatus lo wd v).cf vsstatus lo' wd' = u.cf vsstatus lo' wd' :=
    u.cf_cput_other _ _ _ _ _ _ _ (.inr h)
  unfold Hart.stackVs
  refine ⟨?_, ?_, ?_⟩
  · rw [hother _ 1 _ _ 8 _ (by decide), hother _ 5 _ _ 8 _ (by decide), Hart.cf_cput_same _ _ _ _ _ (by decide)]
    rfl
  · rw [hother _ 1 _ _ 5 _ (by decide), Hart.cf_cput_same _ _ _ _ _ (by decide)]
    exact fget_mod ..
  · exact Hart.cf_cput_same _ _ _ _ _ (by decide)

theorem Hart.stackM_csr (priv : Nat) (virt : Bool) {n : Nat} (hn : mstatus ≠ n) : (t.stackM priv virt).csrGet n = t.csrGet n := by
  simp [Hart.stackM, Hart.csrGet_cput, hn]

theorem Hart.stackHs_csr (priv : Nat) {n : Nat} (hn : mstatus ≠ n) : (t.stackHs priv).csrGet n = t.csrGet n := by
  simp [Hart.stackHs, Hart.csrGet_cput, hn]

theorem Hart.stackVs_csr (priv : Nat) {n : Nat} (hn : vsstatus ≠ n) : (t.stackVs priv).csrGet n = t.csrGet n := by
  simp [Hart.stackVs, Hart.csrGet_cput, hn]

/-- The registers that name the trap to M-mode: mepc, mcause, mtval, mtval2 and mtinst. -/
def Hart.causeM : Hart :=
  ((((t.csrSet 0x341 pc).csrSet 0x342 (causeWord intr code)).csrSet 0x343 (BitVec.ofNat 64 tval)).csrSet 0x34B (BitVec.ofNat 64 (tval2 / 4))).csrSet 0x34A 0

/-- The registers that name the trap to HS-mode. -/
def Hart.causeHs : Hart :=
  ((((t.csrSet 0x141 pc).csrSet 0x142 (causeWord intr code)).csrSet 0x143 (BitVec.ofNat 64 tval)).csrSet 0x643 (BitVec.ofNat 64 (tval2 / 4))).csrSet 0x64A 0

/-- The registers that name the trap to VS-mode. -/
def Hart.causeVs : Hart := ((t.csrSet 0x241 pc).csrSet 0x242 (causeWord intr code)).csrSet 0x243 (BitVec.ofNat 64 tval)

/-- hstatus on entry to HS-mode: SPVP, SPV and GVA. -/
def Hart.hyperHs (t : Hart) (gva : Bool) : Hart :=
  let u := if t.virt then t.cput hstatus 8 1 t.priv else t
  (u.cput hstatus 7 1 (b2n u.virt)).cput hstatus 6 1 (b2n gva)

theorem Hart.hyperHs_eq (t : Hart) (gva : Bool) :
    t.hyperHs gva = ((if t.virt then t.cput hstatus 8 1 t.priv else t).cput hstatus 7 1 (b2n t.virt)).cput hstatus 6 1 (b2n gva) := by
  have hvirt : (if t.virt then t.cput hstatus 8 1 t.priv else t).virt = t.virt := by split <;> rfl
  unfold Hart.hyperHs
  dsimp only
  rw [hvirt]

/-- The hart at another pc. -/
def Hart.atPc (t : Hart) (pc : Word) : Hart := { t with pc := pc }

theorem Hart.csrGet_atPc (n : Nat) : (t.atPc pc).csrGet n = t.csrGet n := rfl
theorem Hart.cf_atPc (n lo wd : Nat) : (t.atPc pc).cf n lo wd = t.cf n lo wd := rfl
theorem Hart.pc_atPc : (t.atPc pc).pc = pc := rfl
theorem Hart.atPc_keeps {parts : List HPart} {csrs : List Nat} (h : parts.contains .pc = true) : t.Keeps (t.atPc pc) parts csrs := .set_pc t pc h

/-- The hart that a trap to M-mode makes, before its mode. -/
def Hart.trapM : Hart :=
  let c := t.causeM code intr pc tval tval2
  let u := (c.stackM c.priv c.virt).cput mstatus 38 1 (b2n gva)
  u.atPc (tvecPc (u.csrGet 0x305) intr code)

/-- The hart that a trap to HS-mode makes, before its mode. -/
def Hart.trapHs : Hart :=
  let c := t.causeHs code intr pc tval tval2
  let u := (c.stackHs c.priv).hyperHs gva
  u.atPc (tvecPc (u.csrGet 0x105) intr code)

/-- The hart that a trap to VS-mode makes, before its mode. -/
def Hart.trapVs : Hart :=
  let c := t.causeVs code intr pc tval
  let u := c.stackVs c.priv
  u.atPc (tvecPc (u.csrGet 0x205) intr code)

theorem Hart.causeM_mode : (t.causeM code intr pc tval tval2).priv = t.priv ∧ (t.causeM code intr pc tval tval2).virt = t.virt := ⟨rfl, rfl⟩
theorem Hart.causeHs_mode : (t.causeHs code intr pc tval tval2).priv = t.priv ∧ (t.causeHs code intr pc tval tval2).virt = t.virt := ⟨rfl, rfl⟩
theorem Hart.causeVs_mode : (t.causeVs code intr pc tval).priv = t.priv := rfl

theorem Hart.trapM_eq : t.trapM code intr pc tval tval2 gva = (((t.causeM code intr pc tval tval2).stackM t.priv t.virt).cput mstatus 38 1 (b2n gva)).atPc
    (tvecPc ((((t.causeM code intr pc tval tval2).stackM t.priv t.virt).cput mstatus 38 1 (b2n gva)).csrGet 0x305) intr code) := by
  unfold Hart.trapM
  dsimp only
  rw [(t.causeM_mode code intr pc tval tval2).1, (t.causeM_mode code intr pc tval tval2).2]

theorem Hart.trapHs_eq : t.trapHs code intr pc tval tval2 gva = (((t.causeHs code intr pc tval tval2).stackHs t.priv).hyperHs gva).atPc
    (tvecPc ((((t.causeHs code intr pc tval tval2).stackHs t.priv).hyperHs gva).csrGet 0x105) intr code) := by
  unfold Hart.trapHs
  dsimp only
  rw [(t.causeHs_mode code intr pc tval tval2).1]

theorem Hart.trapVs_eq : t.trapVs code intr pc tval = ((t.causeVs code intr pc tval).stackVs t.priv).atPc
    (tvecPc (((t.causeVs code intr pc tval).stackVs t.priv).csrGet 0x205) intr code) := by
  unfold Hart.trapVs
  dsimp only
  rw [t.causeVs_mode code intr pc tval]

theorem Hart.trapM_keeps : t.Keeps (t.trapM code intr pc tval tval2 gva) [.pc] [0x300, 0x341, 0x342, 0x343, 0x34A, 0x34B] := by
  rw [Hart.trapM_eq]
  refine Hart.Keeps.trans (t := t.causeM code intr pc tval tval2) ?_ ?_
  · exact ((((Hart.Keeps.csrSet _ _ _ rfl).trans (.csrSet _ _ _ rfl)).trans (.csrSet _ _ _ rfl)).trans (.csrSet _ _ _ rfl)).trans (.csrSet _ _ _ rfl)
  · exact ((Hart.stackM_keeps _ t.priv t.virt rfl).trans (.cput _ mstatus 38 1 (b2n gva) rfl)).trans (Hart.atPc_keeps _ _ rfl)

theorem Hart.hyperHs_keeps {parts : List HPart} {csrs : List Nat} (h : csrs.contains hstatus = true) : t.Keeps (t.hyperHs gva) parts csrs := by
  rw [Hart.hyperHs_eq]
  refine Hart.Keeps.trans ?_ ((Hart.Keeps.cput _ hstatus 7 1 _ h).trans (.cput _ hstatus 6 1 _ h))
  exact .ite (.cput _ _ _ _ _ h) (.refl t)

theorem Hart.trapHs_keeps : t.Keeps (t.trapHs code intr pc tval tval2 gva) [.pc] [0x300, 0x600, 0x141, 0x142, 0x143, 0x643, 0x64A] := by
  rw [Hart.trapHs_eq]
  refine Hart.Keeps.trans (t := t.causeHs code intr pc tval tval2) ?_ ?_
  · exact ((((Hart.Keeps.csrSet _ _ _ rfl).trans (.csrSet _ _ _ rfl)).trans (.csrSet _ _ _ rfl)).trans (.csrSet _ _ _ rfl)).trans (.csrSet _ _ _ rfl)
  · exact ((Hart.stackHs_keeps _ t.priv rfl).trans (Hart.hyperHs_keeps _ gva rfl)).trans (Hart.atPc_keeps _ _ rfl)

theorem Hart.trapVs_keeps : t.Keeps (t.trapVs code intr pc tval) [.pc] [0x200, 0x241, 0x242, 0x243] := by
  rw [Hart.trapVs_eq]
  refine Hart.Keeps.trans (t := t.causeVs code intr pc tval) ?_ ?_
  · exact ((Hart.Keeps.csrSet _ _ _ rfl).trans (.csrSet _ _ _ rfl)).trans (.csrSet _ _ _ rfl)
  · exact (Hart.stackVs_keeps _ t.priv rfl).trans (Hart.atPc_keeps _ _ rfl)

/-! ## What the hart of a destination holds -/

theorem Hart.causeM_sets : (t.causeM code intr pc tval tval2).csrGet 0x341 = pc ∧ (t.causeM code intr pc tval tval2).csrGet 0x342 = causeWord intr code ∧
    (t.causeM code intr pc tval tval2).csrGet 0x343 = BitVec.ofNat 64 tval ∧ (t.causeM code intr pc tval tval2).csrGet 0x34B = BitVec.ofNat 64 (tval2 / 4) ∧
    (t.causeM code intr pc tval tval2).csrGet 0x34A = 0 ∧ (t.causeM code intr pc tval tval2).csrGet mstatus = t.csrGet mstatus ∧
    (t.causeM code intr pc tval tval2).csrGet 0x305 = t.csrGet 0x305 := by
  simp [Hart.causeM, Hart.csrGet_csrSet, mstatus]

theorem Hart.causeHs_sets : (t.causeHs code intr pc tval tval2).csrGet 0x141 = pc ∧ (t.causeHs code intr pc tval tval2).csrGet 0x142 = causeWord intr code ∧
    (t.causeHs code intr pc tval tval2).csrGet 0x143 = BitVec.ofNat 64 tval ∧ (t.causeHs code intr pc tval tval2).csrGet mstatus = t.csrGet mstatus ∧
    (t.causeHs code intr pc tval tval2).csrGet 0x105 = t.csrGet 0x105 := by
  simp [Hart.causeHs, Hart.csrGet_csrSet, mstatus]

theorem Hart.causeVs_sets : (t.causeVs code intr pc tval).csrGet 0x241 = pc ∧ (t.causeVs code intr pc tval).csrGet 0x242 = causeWord intr code ∧
    (t.causeVs code intr pc tval).csrGet 0x243 = BitVec.ofNat 64 tval ∧ (t.causeVs code intr pc tval).csrGet vsstatus = t.csrGet vsstatus ∧
    (t.causeVs code intr pc tval).csrGet 0x205 = t.csrGet 0x205 := by
  simp [Hart.causeVs, Hart.csrGet_csrSet, vsstatus]

theorem Hart.trapM_csr {n : Nat} (hn : mstatus ≠ n) : (t.trapM code intr pc tval tval2 gva).csrGet n = (t.causeM code intr pc tval tval2).csrGet n :=
  by rw [Hart.trapM_eq, Hart.csrGet_atPc, Hart.csrGet_cput, if_neg hn, Hart.stackM_csr _ _ _ hn]

theorem Hart.trapHs_csr {n : Nat} (hn : mstatus ≠ n) (hn' : hstatus ≠ n) : (t.trapHs code intr pc tval tval2 gva).csrGet n = (t.causeHs code intr pc tval tval2).csrGet n := by
  have hhyper (u : Hart) : (u.hyperHs gva).csrGet n = u.csrGet n := by
    rw [Hart.hyperHs_eq]
    rw [Hart.csrGet_cput, if_neg hn', Hart.csrGet_cput, if_neg hn']
    split
    · exact (Hart.csrGet_cput ..).trans (if_neg hn')
    · rfl
  rw [Hart.trapHs_eq, Hart.csrGet_atPc, hhyper, Hart.stackHs_csr _ _ hn]

theorem Hart.trapVs_csr {n : Nat} (hn : vsstatus ≠ n) : (t.trapVs code intr pc tval).csrGet n = (t.causeVs code intr pc tval).csrGet n := by
  rw [Hart.trapVs_eq, Hart.csrGet_atPc, Hart.stackVs_csr _ _ hn]

theorem Hart.trapM_pc : (t.trapM code intr pc tval tval2 gva).pc = tvecPc ((t.trapM code intr pc tval tval2 gva).csrGet 0x305) intr code := by
  rw [Hart.trapM_eq, Hart.pc_atPc, Hart.csrGet_atPc]

theorem Hart.trapHs_pc : (t.trapHs code intr pc tval tval2 gva).pc = tvecPc ((t.trapHs code intr pc tval tval2 gva).csrGet 0x105) intr code := by
  rw [Hart.trapHs_eq, Hart.pc_atPc, Hart.csrGet_atPc]

theorem Hart.trapVs_pc : (t.trapVs code intr pc tval).pc = tvecPc ((t.trapVs code intr pc tval).csrGet 0x205) intr code := by
  rw [Hart.trapVs_eq, Hart.pc_atPc, Hart.csrGet_atPc]

theorem Hart.hyperHs_cf (lo wd : Nat) : (t.hyperHs gva).cf mstatus lo wd = t.cf mstatus lo wd := by
  have hput (u : Hart) (b v : Nat) : (u.cput hstatus b 1 v).cf mstatus lo wd = u.cf mstatus lo wd := Hart.cf_cput_other _ _ _ _ _ _ _ _ (.inl (by decide))
  rw [Hart.hyperHs_eq]
  rw [hput, hput]
  split
  · exact hput _ _ _
  · rfl

theorem Hart.hyperHs_spv : (t.hyperHs gva).cf hstatus 7 1 = b2n t.virt := by
  rw [Hart.hyperHs_eq]
  rw [Hart.cf_cput_other _ _ _ _ _ _ _ _ (.inr (by decide)), Hart.cf_cput_same _ _ _ _ _ (by decide)]
  exact Nat.mod_eq_of_lt (b2n_lt t.virt)

/-- The hart of a trap to M-mode: mepc, mcause, mtval, mtval2, mtinst, MPP, MPV, MPIE, MIE and the vector. -/
theorem Hart.trapM_sets : (t.trapM code intr pc tval tval2 gva).csrGet 0x341 = pc ∧ (t.trapM code intr pc tval tval2 gva).csrGet 0x342 = causeWord intr code ∧
    (t.trapM code intr pc tval tval2 gva).csrGet 0x343 = BitVec.ofNat 64 tval ∧ (t.trapM code intr pc tval tval2 gva).csrGet 0x34B = BitVec.ofNat 64 (tval2 / 4) ∧
    (t.trapM code intr pc tval tval2 gva).cf mstatus 11 2 = t.priv % 4 ∧ (t.trapM code intr pc tval tval2 gva).cf mstatus 39 1 = b2n t.virt ∧
    (t.trapM code intr pc tval tval2 gva).cf mstatus 7 1 = t.cf mstatus 3 1 ∧ (t.trapM code intr pc tval tval2 gva).cf mstatus 3 1 = 0 ∧
    (t.trapM code intr pc tval tval2 gva).pc = tvecPc (t.csrGet 0x305) intr code := by
  obtain ⟨hpc, hcause, hval, hval2, -, hstatus, hvec⟩ := t.causeM_sets code intr pc tval tval2
  obtain ⟨hmpp, hmpv, hmpie, hmie⟩ := (t.causeM code intr pc tval tval2).stackM_sets t.priv t.virt
  have hcsr {n : Nat} (hn : mstatus ≠ n) := t.trapM_csr code intr pc tval tval2 gva hn
  have hcf {lo wd : Nat} (hl : lo + wd ≤ 64 ∧ (38 + 1 ≤ lo ∨ lo + wd ≤ 38)) : (t.trapM code intr pc tval tval2 gva).cf mstatus lo wd =
      ((t.causeM code intr pc tval tval2).stackM t.priv t.virt).cf mstatus lo wd := by
    rw [Hart.trapM_eq, Hart.cf_atPc, Hart.cf_cput_other _ _ _ _ _ _ _ _ (.inr hl)]
  refine ⟨(hcsr (by decide)).trans hpc, (hcsr (by decide)).trans hcause, (hcsr (by decide)).trans hval, (hcsr (by decide)).trans hval2, (hcf (by decide)).trans hmpp,
    (hcf (by decide)).trans hmpv, (hcf (by decide)).trans (hmpie.trans ?_), (hcf (by decide)).trans hmie, ?_⟩
  · exact congrArg (fget · 3 1) hstatus
  · exact (t.trapM_pc code intr pc tval tval2 gva).trans (congrArg (tvecPc · intr code) ((hcsr (by decide)).trans hvec))

/-- The hart of a trap to HS-mode: sepc, scause, stval, SPP, SPV, SPIE, SIE and the vector. -/
theorem Hart.trapHs_sets : (t.trapHs code intr pc tval tval2 gva).csrGet 0x141 = pc ∧ (t.trapHs code intr pc tval tval2 gva).csrGet 0x142 = causeWord intr code ∧
    (t.trapHs code intr pc tval tval2 gva).csrGet 0x143 = BitVec.ofNat 64 tval ∧ (t.trapHs code intr pc tval tval2 gva).cf mstatus 8 1 = min 1 t.priv ∧
    (t.trapHs code intr pc tval tval2 gva).cf Machine.hstatus 7 1 = b2n t.virt ∧ (t.trapHs code intr pc tval tval2 gva).cf mstatus 5 1 = t.cf mstatus 1 1 ∧
    (t.trapHs code intr pc tval tval2 gva).cf mstatus 1 1 = 0 ∧ (t.trapHs code intr pc tval tval2 gva).pc = tvecPc (t.csrGet 0x105) intr code := by
  obtain ⟨hpc, hcause, hval, hstatus, hvec⟩ := t.causeHs_sets code intr pc tval tval2
  obtain ⟨hspp, hspie, hsie⟩ := (t.causeHs code intr pc tval tval2).stackHs_sets t.priv
  have hvirt : ((t.causeHs code intr pc tval tval2).stackHs t.priv).virt = t.virt :=
    ((Hart.stackHs_keeps _ t.priv (parts := []) (csrs := [0x300]) rfl).1 .mode rfl).2
  have hcsr {n : Nat} (hn : mstatus ≠ n) (hn' : Machine.hstatus ≠ n) := t.trapHs_csr code intr pc tval tval2 gva hn hn'
  have hcf (lo : Nat) : (t.trapHs code intr pc tval tval2 gva).cf mstatus lo 1 = ((t.causeHs code intr pc tval tval2).stackHs t.priv).cf mstatus lo 1 := by
    rw [Hart.trapHs_eq, Hart.cf_atPc, Hart.hyperHs_cf]
  refine ⟨(hcsr (by decide) (by decide)).trans hpc, (hcsr (by decide) (by decide)).trans hcause, (hcsr (by decide) (by decide)).trans hval, (hcf 8).trans hspp, ?_,
    (hcf 5).trans (hspie.trans (congrArg (fget · 1 1) hstatus)), (hcf 1).trans hsie, ?_⟩
  · rw [Hart.trapHs_eq, Hart.cf_atPc, Hart.hyperHs_spv]
    exact congrArg b2n hvirt
  · exact (t.trapHs_pc code intr pc tval tval2 gva).trans (congrArg (tvecPc · intr code) ((hcsr (by decide) (by decide)).trans hvec))

/-- The hart of a trap to VS-mode: vsepc, vscause, vstval, SPP, SPIE, SIE and the vector. -/
theorem Hart.trapVs_sets : (t.trapVs code intr pc tval).csrGet 0x241 = pc ∧ (t.trapVs code intr pc tval).csrGet 0x242 = causeWord intr code ∧
    (t.trapVs code intr pc tval).csrGet 0x243 = BitVec.ofNat 64 tval ∧ (t.trapVs code intr pc tval).cf vsstatus 8 1 = t.priv % 2 ∧
    (t.trapVs code intr pc tval).cf vsstatus 5 1 = t.cf vsstatus 1 1 ∧ (t.trapVs code intr pc tval).cf vsstatus 1 1 = 0 ∧
    (t.trapVs code intr pc tval).pc = tvecPc (t.csrGet 0x205) intr code := by
  obtain ⟨hpc, hcause, hval, hstatus, hvec⟩ := t.causeVs_sets code intr pc tval
  obtain ⟨hspp, hspie, hsie⟩ := (t.causeVs code intr pc tval).stackVs_sets t.priv
  have hcsr {n : Nat} (hn : vsstatus ≠ n) := t.trapVs_csr code intr pc tval hn
  have hcf (lo : Nat) : (t.trapVs code intr pc tval).cf vsstatus lo 1 = ((t.causeVs code intr pc tval).stackVs t.priv).cf vsstatus lo 1 := by
    rw [Hart.trapVs_eq, Hart.cf_atPc]
  exact ⟨(hcsr (by decide)).trans hpc, (hcsr (by decide)).trans hcause, (hcsr (by decide)).trans hval, (hcf 8).trans hspp,
    (hcf 5).trans (hspie.trans (congrArg (fget · 1 1) hstatus)), (hcf 1).trans hsie,
    (t.trapVs_pc code intr pc tval).trans (congrArg (tvecPc · intr code) ((hcsr (by decide)).trans hvec))⟩

end

/-! ## Traps -/

section
variable {h : Nat} (s : Sys) (code : Nat) (pc : Word) (tval tval2 : Nat) (gva : Bool)

/-- A trap to M-mode. -/
def Sys.toM (s : Sys) (h code : Nat) (intr : Bool) (pc : Word) (tval tval2 : Nat) (gva : Bool) : Sys :=
  (s.trapStart h).enterM h (((s.trapStart h).hart h).trapM code intr pc tval tval2 gva)

/-- A trap to HS-mode. -/
def Sys.toHs (s : Sys) (h code : Nat) (intr : Bool) (pc : Word) (tval tval2 : Nat) (gva : Bool) : Sys :=
  (s.trapStart h).enter h (((s.trapStart h).hart h).trapHs code intr pc tval tval2 gva) 1 false ((s.trapStart h).worldS h)

/-- A trap to VS-mode. -/
def Sys.toVs (s : Sys) (h code : Nat) (intr : Bool) (pc : Word) (tval : Nat) : Sys :=
  (s.trapStart h).enter h (((s.trapStart h).hart h).trapVs code intr pc tval) 1 true ((s.trapStart h).worldS h)

/-- The code that VS-mode is told of an interrupt or an exception. -/
def vsCode (intr : Bool) (code : Nat) : Nat := if intr && (code == 2 || code == 6 || code == 10) then code - 1 else code

/-- A delegation register passes a cause on. -/
def Hart.delegates (t : Hart) (intr : Bool) (code n m : Nat) : Bool := fget (t.csrGet (if intr then n else m)) code 1 == 1

theorem Sys.trap_cases (intr : Bool) : s.trap h code intr pc tval tval2 gva =
    if decide (((s.trapStart h).hart h).priv < 3) && ((s.trapStart h).hart h).delegates intr code 0x303 0x302 then
      if ((s.trapStart h).hart h).virt && ((s.trapStart h).hart h).delegates intr code 0x603 0x602 then s.toVs h (vsCode intr code) intr pc tval
      else s.toHs h code intr pc tval tval2 gva
    else s.toM h code intr pc tval tval2 gva := by
  conv => lhs; unfold Sys.trap
  extract_lets u t tv deleg vcode
  have hu : u = s.trapStart h := rfl
  have htv : tv = BitVec.ofNat 64 tval := rfl
  have hdeleg : ∀ n m, deleg n m = t.delegates intr code n m := fun _ _ => rfl
  have ht : t = (s.trapStart h).hart h := rfl
  have hcode : vcode = vsCode intr code := rfl
  clear_value u tv deleg t vcode
  subst hu htv ht hcode
  simp only [hdeleg]
  split
  · split
    · rfl
    · rfl
  · rfl

theorem Sys.delegates_trapStart (intr : Bool) (n m : Nat) (hk : csrKept (if intr then n else m) = 0xFFFFFFFFFFFFFFFF) :
    ((s.trapStart h).hart h).delegates intr code n m = (s.hart h).delegates intr code n m :=
  congrArg (fun w => fget w code 1 == 1) (s.trapStart_csr _ hk)

theorem Sys.trap_toM (intr : Bool) (hd : (s.hart h).priv = 3 ∨ (s.hart h).delegates intr code 0x303 0x302 = false) :
    s.trap h code intr pc tval tval2 gva = s.toM h code intr pc tval tval2 gva := by
  rw [Sys.trap_cases, s.trapStart_mode.1, s.delegates_trapStart _ _ _ _ (by cases intr <;> decide), if_neg]
  rcases hd with hd | hd
  · simp [hd]
  · simp [hd]

theorem Sys.trap_toHs (hp : (s.hart h).priv < 3) (hd : (s.hart h).delegates false code 0x303 0x302 = true)
    (hh : (s.hart h).virt = false ∨ (s.hart h).delegates false code 0x603 0x602 = false) :
    s.trap h code false pc tval tval2 gva = s.toHs h code false pc tval tval2 gva := by
  rw [Sys.trap_cases, s.trapStart_mode.1, s.trapStart_mode.2, s.delegates_trapStart _ _ _ _ (by decide), s.delegates_trapStart _ _ _ _ (by decide), hd,
    decide_eq_true hp, if_pos (Bool.and_self true), if_neg]
  rcases hh with hh | hh
  · simp [hh]
  · simp [hh]

theorem Sys.trap_toVs (hp : (s.hart h).priv < 3) (hd : (s.hart h).delegates false code 0x303 0x302 = true) (hv : (s.hart h).virt = true)
    (hh : (s.hart h).delegates false code 0x603 0x602 = true) : s.trap h code false pc tval tval2 gva = s.toVs h code false pc tval := by
  rw [Sys.trap_cases, s.trapStart_mode.1, s.trapStart_mode.2, s.delegates_trapStart _ _ _ _ (by decide), s.delegates_trapStart _ _ _ _ (by decide), hd, hv, hh,
    decide_eq_true hp, if_pos (Bool.and_self true), if_pos (Bool.and_self true)]
  rfl

/-! ## What a trap leaves as it was -/

/-- What a trap may change of its hart. -/
abbrev trapParts : List HPart := [.pc, .mode, .late, .rob, .pred, .sfb, .resv, .wait, .fwalk]

theorem Sys.trapStart_trap : Sys.FrameHart h s (s.trapStart h) (modeReg h) stopParts trapParts [] :=
  s.trapStart_frame.mono (fun _ hk => by simp [hk]) (List.Subset.refl _) (by decide) (List.Subset.refl _)

theorem Sys.toM_frame (intr : Bool) : Sys.FrameHart h s (s.toM h code intr pc tval tval2 gva) (modeReg h) stopParts trapParts [0x300, 0x341, 0x342, 0x343, 0x34A, 0x34B] := by
  refine (s.trapStart_trap.mono (fun _ h => h) (List.Subset.refl _) (List.Subset.refl _) (List.nil_subset _)).trans ?_
  exact Sys.enterM_frame _ _ ((Hart.trapM_keeps _ code intr pc tval tval2 gva).mono (by decide) (by decide)) (by decide)

theorem Sys.toHs_frame (intr : Bool) :
    Sys.FrameHart h s (s.toHs h code intr pc tval tval2 gva) (modeReg h) stopParts trapParts [0x300, 0x600, 0x141, 0x142, 0x143, 0x643, 0x64A] := by
  refine (s.trapStart_trap.mono (fun _ h => h) (List.Subset.refl _) (List.Subset.refl _) (List.nil_subset _)).trans ?_
  exact Sys.enter_frame _ _ 1 false _ ((Hart.trapHs_keeps _ code intr pc tval tval2 gva).mono (by decide) (by decide)) (by decide)

theorem Sys.toVs_frame (intr : Bool) : Sys.FrameHart h s (s.toVs h code intr pc tval) (modeReg h) stopParts trapParts [0x200, 0x241, 0x242, 0x243] := by
  refine (s.trapStart_trap.mono (fun _ h => h) (List.Subset.refl _) (List.Subset.refl _) (List.nil_subset _)).trans ?_
  exact Sys.enter_frame _ _ 1 true _ ((Hart.trapVs_keeps _ code intr pc tval).mono (by decide) (by decide)) (by decide)


end

end Sys2Proof.Machine
end

section
/-!
SUPPORT. WCALL, WRET and mret (R130, R132, R133): the hart that each makes, and what it leaves as it was.
-/
namespace Sys2Proof.Machine

/-! ## The scrub of WRET -/

theorem Bank.get?_filter {κ α : Type} [DecidableEq κ] (l : Bank κ α) (p : κ → Bool) (k : κ) :
    Bank.get? (l.filter (fun q => p q.1)) k = if p k then Bank.get? l k else none := by
  induction l with
  | nil => exact (ite_self _).symm
  | cons q l ih =>
    by_cases hk : q.1 = k
    · cases hp : p k with
      | true => simp [List.filter, hk, hp, Bank.get?]
      | false => simpa [List.filter, hk, hp, Bank.get?] using ih
    · cases hp : p q.1 with
      | true => simpa [List.filter, hp, Bank.get?, hk] using ih
      | false => simpa [List.filter, hp, Bank.get?, hk] using ih

section
variable (t : Hart)

/-- The hart with no register but x10 to x15. -/
def Hart.argsOnly (t : Hart) : Hart := { t with x := t.x.filter (fun p => decide (10 ≤ p.1 ∧ p.1 ≤ 15)), v := [] }

theorem Hart.xGet_argsOnly (n : Nat) : t.argsOnly.xGet n = if 10 ≤ n ∧ n ≤ 15 then t.xGet n else 0 := by
  have hget := Bank.get?_filter t.x (fun n => decide (10 ≤ n ∧ n ≤ 15)) n
  unfold Hart.xGet Hart.argsOnly Bank.getD
  dsimp only
  rw [hget]
  by_cases hn : 10 ≤ n ∧ n ≤ 15
  · simp [hn]
  · simp [hn]

theorem Hart.scrub_eq : t.scrub = if (t.argsOnly.csrSet 0x008 0).cf mstatus 9 2 ≠ 0 then (t.argsOnly.csrSet 0x008 0).cput mstatus 9 2 3 else t.argsOnly.csrSet 0x008 0 := rfl

theorem Hart.argsOnly_keeps {csrs : List Nat} : t.Keeps t.argsOnly [.x, .v] csrs :=
  (Hart.Keeps.set_x t _ rfl).trans (.set_v _ [] rfl)

theorem Hart.scrub_keeps : t.Keeps t.scrub [.x, .v] [0x008, 0x300] := by
  rw [Hart.scrub_eq]
  have hargs : t.Keeps (t.argsOnly.csrSet 0x008 0) [.x, .v] [0x008, 0x300] := t.argsOnly_keeps.trans (.csrSet _ _ _ rfl)
  exact .ite (hargs.trans (.cput _ _ _ _ _ rfl)) hargs

theorem Hart.scrub_cf (lo wd : Nat) (h : lo + wd ≤ 64 ∧ (9 + 2 ≤ lo ∨ lo + wd ≤ 9)) : t.scrub.cf mstatus lo wd = t.cf mstatus lo wd := by
  have hargs : (t.argsOnly.csrSet 0x008 0).cf mstatus lo wd = t.cf mstatus lo wd := (Hart.cf_csrSet _ _ _ _ _ _ (by decide)).trans rfl
  rw [Hart.scrub_eq]
  split
  · exact (Hart.cf_cput_other _ _ _ _ _ _ _ _ (.inr h)).trans hargs
  · exact hargs

theorem Hart.scrub_sets : (∀ n, t.scrub.xGet n = if 10 ≤ n ∧ n ≤ 15 then t.xGet n else 0) ∧ t.scrub.v = [] ∧ t.scrub.csrGet 0x008 = 0 ∧
    t.scrub.cf mstatus 9 2 = if t.cf mstatus 9 2 = 0 then 0 else 3 := by
  have hargs : (t.argsOnly.csrSet 0x008 0).cf mstatus 9 2 = t.cf mstatus 9 2 := (Hart.cf_csrSet _ _ _ _ _ _ (by decide)).trans rfl
  have hzero : (t.argsOnly.csrSet 0x008 0).csrGet 0x008 = 0 := (Hart.csrGet_csrSet ..).trans (if_pos rfl)
  have hx (n : Nat) : (t.argsOnly.csrSet 0x008 0).xGet n = if 10 ≤ n ∧ n ≤ 15 then t.xGet n else 0 := t.xGet_argsOnly n
  rw [Hart.scrub_eq, hargs]
  by_cases hvs : t.cf mstatus 9 2 = 0
  · rw [if_neg (not_not_intro hvs), if_pos hvs]
    exact ⟨hx, rfl, hzero, hargs.trans hvs⟩
  · rw [if_pos hvs, if_neg hvs]
    refine ⟨hx, rfl, ?_, Hart.cf_cput_same _ _ _ _ _ (by decide)⟩
    rw [Hart.csrGet_cput, if_neg (by decide), hzero]

/-! ## The hart of an mret -/

/-- mstatus after mret: MIE from MPIE, MPIE 1, MPP and MPV 0, and MPRV 0 below M-mode. -/
def Hart.unstackM (t : Hart) : Hart :=
  let p := t.cf mstatus 11 2
  let u := ((t.cput mstatus 3 1 (t.cf mstatus 7 1)).cput mstatus 7 1 1).cput mstatus 11 2 0
  let u := u.cput mstatus 39 1 0
  if p ≠ 3 then u.cput mstatus 17 1 0 else u

/-- The hart with nothing unretired, at the pc of mepc. -/
def Hart.restart (t : Hart) : Hart := { t with pc := (t.csrGet 0x341 >>> 1) <<< 1, rob := [] }

theorem Hart.restart_keeps {csrs : List Nat} : t.Keeps t.restart [.pc, .rob] csrs := (Hart.Keeps.set_pc t ((t.csrGet 0x341 >>> 1) <<< 1) rfl).trans (.set_rob _ [] rfl)

theorem Hart.unstackM_keeps {parts : List HPart} : t.Keeps t.unstackM parts [0x300] := by
  have hput (u : Hart) (lo wd v : Nat) : u.Keeps (u.cput mstatus lo wd v) parts [0x300] := .cput _ _ _ _ _ rfl
  have hbase := (((hput t 3 1 (t.cf mstatus 7 1)).trans (hput _ 7 1 1)).trans (hput _ 11 2 0)).trans (hput _ 39 1 0)
  exact .ite (hbase.trans (hput _ 17 1 0)) hbase

theorem Hart.unstackM_csr {n : Nat} (hn : mstatus ≠ n) : t.unstackM.csrGet n = t.csrGet n := by
  unfold Hart.unstackM
  dsimp only
  split
  · simp [Hart.csrGet_cput, hn]
  · simp [Hart.csrGet_cput, hn]

theorem Hart.unstackM_sets : t.unstackM.cf mstatus 3 1 = t.cf mstatus 7 1 ∧ t.unstackM.cf mstatus 7 1 = 1 ∧ t.unstackM.cf mstatus 11 2 = 0 ∧
    t.unstackM.cf mstatus 39 1 = 0 ∧ t.unstackM.cf mstatus 9 2 = t.cf mstatus 9 2 := by
  have hother (u : Hart) (lo wd v lo' wd' : Nat) (h : lo' + wd' ≤ 64 ∧ (lo + wd ≤ lo' ∨ lo' + wd' ≤ lo)) : (u.cput mstatus lo wd v).cf mstatus lo' wd' = u.cf mstatus lo' wd' :=
    u.cf_cput_other _ _ _ _ _ _ _ (.inr h)
  have hmprv (u : Hart) (p lo wd : Nat) (h : lo + wd ≤ 64 ∧ (18 ≤ lo ∨ lo + wd ≤ 17)) :
      (if p ≠ 3 then u.cput mstatus 17 1 0 else u).cf mstatus lo wd = u.cf mstatus lo wd := by
    split
    · exact hother u 17 1 0 lo wd h
    · rfl
  unfold Hart.unstackM
  dsimp only
  refine ⟨?_, ?_, ?_, ?_, ?_⟩
  · rw [hmprv _ _ 3 1 (by decide), hother _ 39 _ _ 3 _ (by decide), hother _ 11 _ _ 3 _ (by decide), hother _ 7 _ _ 3 _ (by decide), Hart.cf_cput_same _ _ _ _ _ (by decide)]
    exact fget_mod ..
  · rw [hmprv _ _ 7 1 (by decide), hother _ 39 _ _ 7 _ (by decide), hother _ 11 _ _ 7 _ (by decide), Hart.cf_cput_same _ _ _ _ _ (by decide)]
    rfl
  · rw [hmprv _ _ 11 2 (by decide), hother _ 39 _ _ 11 _ (by decide), Hart.cf_cput_same _ _ _ _ _ (by decide)]
    rfl
  · rw [hmprv _ _ 39 1 (by decide), Hart.cf_cput_same _ _ _ _ _ (by decide)]
    rfl
  · rw [hmprv _ _ 9 2 (by decide), hother _ 39 _ _ 9 _ (by decide), hother _ 11 _ _ 9 _ (by decide), hother _ 7 _ _ 9 _ (by decide), hother _ 3 _ _ 9 _ (by decide)]

end

/-! ## mret -/

theorem HPart.Same.symm {q : HPart} {s t : Hart} (h : q.Same s t) : q.Same t s := by
  cases q with
  | mode => exact ⟨h.1.symm, h.2.symm⟩
  | pred => exact ⟨h.1.symm, h.2.1.symm, h.2.2.symm⟩
  | tlb =>
    obtain ⟨h1, h2, h3, h4, h5, h6⟩ := h
    exact ⟨h1.symm, h2.symm, h3.symm, h4.symm, h5.symm, h6.symm⟩
  | _ => exact Eq.symm h

section
variable {h : Nat} (s : Sys)

/-- What a return from M-mode may change of its hart. -/
abbrev returnParts : List HPart := [.pc, .mode, .late, .rob, .pred, .sfb]

theorem Sys.mretTo_eq : s.mretTo h = (s.squash h 0).enter h (s.hart h).unstackM.restart ((s.hart h).cf mstatus 11 2)
    ((s.hart h).cf mstatus 39 1 == 1 && (s.hart h).cf mstatus 11 2 != 3)
    (if (s.hart h).cf mstatus 11 2 = 3 then ((s.squash h 0).hartTo h (s.hart h).unstackM.restart).worldS h
      else ((s.squash h 0).hartTo h (s.hart h).unstackM.restart).on F.tlworld_RWORLD h) := by
  conv => lhs; unfold Sys.mretTo
  rfl

theorem Sys.mretTo_frame : Sys.FrameHart h s (s.mretTo h) (modeReg h) stopParts returnParts [0x300] := by
  rw [Sys.mretTo_eq]
  have hsquash : Sys.FrameAt Sys.hart .harts h s (s.squash h 0) (modeReg h) stopParts :=
    (s.squash_squashes 0).1.mono (fun _ hk => by simp [hk]) (List.Subset.refl _)
  refine ⟨hsquash.trans (Sys.enter_at ..), ?_⟩
  have hset : (s.hart h).Keeps (s.hart h).unstackM.restart returnParts [0x300] :=
    (Hart.unstackM_keeps _).trans ((Hart.restart_keeps _).mono (by decide) (List.Subset.refl _))
  exact hset.trans ((Sys.enter_keeps ..).mono (by decide) (List.nil_subset _))

/-- What mret restores: the pc, the mode, the world below M-mode, and mstatus. -/
theorem Sys.mretTo_sets : ((s.mretTo h).hart h).pc = ((s.hart h).csrGet 0x341 >>> 1) <<< 1 ∧ ((s.mretTo h).hart h).priv = (s.hart h).cf mstatus 11 2 ∧
    ((s.mretTo h).hart h).virt = ((s.hart h).cf mstatus 39 1 == 1 && (s.hart h).cf mstatus 11 2 != 3) ∧
    ((s.hart h).cf mstatus 11 2 ≠ 3 → (s.mretTo h).worldS h = (s.on F.tlworld_RWORLD h && !s.on F.tlworld_NOSEC h)) ∧
    ((s.mretTo h).hart h).cf mstatus 3 1 = (s.hart h).cf mstatus 7 1 ∧ ((s.mretTo h).hart h).cf mstatus 7 1 = 1 ∧
    ((s.mretTo h).hart h).cf mstatus 11 2 = 0 ∧ ((s.mretTo h).hart h).cf mstatus 39 1 = 0 ∧
    ((s.mretTo h).hart h).cf mstatus 9 2 = (s.hart h).cf mstatus 9 2 := by
  obtain ⟨hmie, hmpie, hmpp, hmpv, hvs⟩ := (s.hart h).unstackM_sets
  have hflag (f : Fld) (hf : f.reg = .tlworld) : (s.squash h 0).on f h = s.on f h := congrArg (· == 1) ((s.squash_squashes 0).tlworld f hf h)
  have hmepc : (s.hart h).unstackM.csrGet 0x341 = (s.hart h).csrGet 0x341 := Hart.unstackM_csr _ (by decide)
  rw [Sys.mretTo_eq]
  generalize hworld : (if (s.hart h).cf mstatus 11 2 = 3 then ((s.squash h 0).hartTo h (s.hart h).unstackM.restart).worldS h
      else ((s.squash h 0).hartTo h (s.hart h).unstackM.restart).on F.tlworld_RWORLD h) = w
  have hkeeps := (s.squash h 0).enter_keeps (h := h) (s.hart h).unstackM.restart ((s.hart h).cf mstatus 11 2)
    ((s.hart h).cf mstatus 39 1 == 1 && (s.hart h).cf mstatus 11 2 != 3) w
  obtain ⟨hpriv, hvirt, -, hw, -⟩ := (s.squash h 0).enter_sets (h := h) (s.hart h).unstackM.restart ((s.hart h).cf mstatus 11 2)
    ((s.hart h).cf mstatus 39 1 == 1 && (s.hart h).cf mstatus 11 2 != 3) w
  have hcf (lo wd : Nat) := hkeeps.cf_eq mstatus lo wd rfl (by decide)
  refine ⟨?_, hpriv, hvirt, fun hp => ?_, (hcf 3 1).trans hmie, (hcf 7 1).trans hmpie, (hcf 11 2).trans hmpp, (hcf 39 1).trans hmpv, (hcf 9 2).trans hvs⟩
  · exact Eq.trans (hkeeps.1 .pc rfl) (congrArg (fun (w : Word) => (w >>> 1) <<< 1) hmepc)
  · rw [hw, ← hworld, if_neg hp, hflag F.tlworld_NOSEC rfl]
    exact congrArg (· && _) (hflag F.tlworld_RWORLD rfl)

/-- mret, retired. -/
def Sys.mreturn (s : Sys) (h : Nat) : Sys := (s.mretTo h).retired h

theorem Sys.mreturn_frame : Sys.FrameHart h s (s.mreturn h) (modeReg h) sentParts returnParts [0x300] :=
  (s.mretTo_frame.mono (fun _ h => h) (by decide) (List.Subset.refl _) (List.Subset.refl _)).trans
    ((Sys.retired_frame _).mono (by simp) (by decide) (by decide) (List.nil_subset _))

theorem Sys.mreturn_sets : ((s.mreturn h).hart h).pc = ((s.hart h).csrGet 0x341 >>> 1) <<< 1 ∧ ((s.mreturn h).hart h).priv = (s.hart h).cf mstatus 11 2 ∧
    ((s.mreturn h).hart h).virt = ((s.hart h).cf mstatus 39 1 == 1 && (s.hart h).cf mstatus 11 2 != 3) ∧
    ((s.hart h).cf mstatus 11 2 ≠ 3 → (s.mreturn h).worldS h = (s.on F.tlworld_RWORLD h && !s.on F.tlworld_NOSEC h)) ∧
    ((s.mreturn h).hart h).cf mstatus 3 1 = (s.hart h).cf mstatus 7 1 ∧ ((s.mreturn h).hart h).cf mstatus 7 1 = 1 ∧
    ((s.mreturn h).hart h).cf mstatus 11 2 = 0 ∧ ((s.mreturn h).hart h).cf mstatus 39 1 = 0 ∧
    ((s.mreturn h).hart h).cf mstatus 9 2 = (s.hart h).cf mstatus 9 2 := by
  obtain ⟨hpc, hpriv, hvirt, hworld, hmie, hmpie, hmpp, hmpv, hvs⟩ := s.mretTo_sets (h := h)
  have hret := (s.mretTo h).retired_frame (h := h)
  have hcf (lo wd : Nat) := hret.2.cf_eq mstatus lo wd rfl (by decide)
  obtain ⟨hp, hv⟩ := hret.2.1 .mode rfl
  exact ⟨Eq.trans (hret.2.1 .pc rfl) hpc, hp.trans hpriv, hv.trans hvirt, fun h3 => (congrArg (· == 1) (Sys.Frame.rf hret.1.1 F.tlworld_WORLD h 0 rfl)).trans (hworld h3),
    (hcf 3 1).trans hmie, (hcf 7 1).trans hmpie, (hcf 11 2).trans hmpp, (hcf 39 1).trans hmpv, (hcf 9 2).trans hvs⟩

/-- WRET with SCRUB set is mret of the scrubbed hart. -/
theorem Sys.wret_eq (hr : s.ready h = true) (hp : (s.hart h).priv = 3) (hn : s.on F.tlworld_NOSEC h = false) (hpath : s.on F.tlworld_PATH h = true)
    (hscrub : s.on F.tlworld_SCRUB h = true) : s.wret h = (s.onHart h Hart.scrub).mreturn h := by
  unfold Sys.wret
  rw [if_pos hr, if_neg (by simp [hp, hn, hpath]), hscrub]
  rfl

theorem Sys.scrubbed_frame {but : RK → Bool} {parts : List Part} : Sys.FrameHart h s (s.onHart h Hart.scrub) but parts [.x, .v] [0x008, 0x300] :=
  .onHart s Hart.scrub (s.hart h).scrub_keeps

/-! ## WCALL -/

/-- The hart of a WCALL before its mode: as for a trap, with cause 24, at the vector. -/
def Hart.called (t : Hart) (vec : Word) : Hart :=
  let c := ((((t.csrSet 0x341 t.pc).csrSet 0x342 24).csrSet 0x343 0).csrSet 0x34B 0).csrSet 0x34A 0
  (c.stackM c.priv c.virt).atPc vec

theorem Hart.called_eq (t : Hart) (vec : Word) :
    t.called vec = ((((((t.csrSet 0x341 t.pc).csrSet 0x342 24).csrSet 0x343 0).csrSet 0x34B 0).csrSet 0x34A 0).stackM t.priv t.virt).atPc vec := rfl

theorem Hart.called_keeps (t : Hart) (vec : Word) : t.Keeps (t.called vec) [.pc] [0x300, 0x341, 0x342, 0x343, 0x34A, 0x34B] := by
  rw [Hart.called_eq]
  refine Hart.Keeps.trans ?_ ((Hart.stackM_keeps _ t.priv t.virt rfl).trans (Hart.atPc_keeps _ _ rfl))
  exact ((((Hart.Keeps.csrSet _ _ _ rfl).trans (.csrSet _ _ _ rfl)).trans (.csrSet _ _ _ rfl)).trans (.csrSet _ _ _ rfl)).trans (.csrSet _ _ _ rfl)

theorem Hart.called_sets (t : Hart) (vec : Word) : (t.called vec).csrGet 0x341 = t.pc ∧ (t.called vec).csrGet 0x342 = 24 ∧ (t.called vec).csrGet 0x343 = 0 ∧
    (t.called vec).csrGet 0x34B = 0 ∧ (t.called vec).csrGet 0x34A = 0 ∧ (t.called vec).cf mstatus 11 2 = t.priv % 4 ∧
    (t.called vec).cf mstatus 39 1 = b2n t.virt ∧ (t.called vec).cf mstatus 7 1 = t.cf mstatus 3 1 ∧ (t.called vec).cf mstatus 3 1 = 0 := by
  rw [Hart.called_eq]
  simp only [Hart.csrGet_atPc, Hart.cf_atPc]
  generalize hc : (((((t.csrSet 0x341 t.pc).csrSet 0x342 24).csrSet 0x343 0).csrSet 0x34B 0).csrSet 0x34A 0) = c
  obtain ⟨hmpp, hmpv, hmpie, hmie⟩ := c.stackM_sets t.priv t.virt
  have hcsr (n : Nat) (hn : mstatus ≠ n) := c.stackM_csr t.priv t.virt hn
  have hst : c.cf mstatus 3 1 = t.cf mstatus 3 1 := by simp [← hc, Hart.cf_csrSet, mstatus]
  rw [hcsr _ (by decide), hcsr _ (by decide), hcsr _ (by decide), hcsr _ (by decide), hcsr _ (by decide)]
  refine ⟨?_, ?_, ?_, ?_, ?_, hmpp, hmpv, hmpie.trans hst, hmie⟩ <;> simp [← hc, Hart.csrGet_csrSet]

/-- The block in which a WCALL changes the mode. -/
def Sys.callStart (s : Sys) (h : Nat) : Sys := ((s.hartTo h ((s.hart h).called (s.rd ⟨.tlwvec, h, 0⟩))).squash h 0).put F.tlworld_PWORLD (b2n (s.worldS h)) h

theorem Sys.wcall_eq (hr : s.ready h = true) (hn : s.on F.tlworld_NOSEC h = false) (hp : s.on F.tlworld_PATH h = true) (hv : (s.hart h).virt = false)
    (h0 : (s.hart h).priv ≠ 0) : s.wcall h = ((s.callStart h).modeTo h 3 false true).retired h := by
  unfold Sys.wcall
  rw [if_pos hr]
  dsimp only
  rw [hn, hp, hv, if_neg (by simp [h0]), if_neg (by decide)]
  rfl

theorem Sys.callStart_frame : Sys.FrameHart h s (s.callStart h) (modeReg h) stopParts [.pc, .rob, .sfb, .pred] [0x300, 0x341, 0x342, 0x343, 0x34A, 0x34B] := by
  have hput (u : Sys) (v : Nat) : Sys.FrameHart h u (u.put F.tlworld_PWORLD v h) (modeReg h) [] [] [] := Sys.FrameHart.of_frame (.put _ _ _ _ _ (by simp)) rfl
  refine ((s.hartTo_frame ((s.hart h).called (s.rd ⟨.tlwvec, h, 0⟩)) ((Hart.called_keeps ..).mono (by decide) (List.Subset.refl _))).trans ?_).trans
    ((hput _ _).mono (fun _ h => h) (List.nil_subset _) (List.nil_subset _) (List.nil_subset _))
  exact (Sys.squash_squashes _ 0).mono (fun _ hk => by simp [hk]) (List.Subset.refl _) (by decide) (List.nil_subset _)

theorem Sys.callStart_keeps : ((s.hart h).called (s.rd ⟨.tlwvec, h, 0⟩)).Keeps ((s.callStart h).hart h) [.rob, .sfb, .pred] [] := by
  have hsquash := (Sys.squash_squashes (h := h) (s.hartTo h ((s.hart h).called (s.rd ⟨.tlwvec, h, 0⟩))) 0).2
  rwa [Sys.hart_hartTo] at hsquash

theorem Sys.callStart_tlworld : (s.callStart h).on F.tlworld_NOSEC h = s.on F.tlworld_NOSEC h ∧ (s.callStart h).rf F.tlworld_PWORLD h = b2n (s.worldS h) := by
  refine ⟨congrArg (· == 1) ?_, (Sys.rf_put_self _ F.tlworld_PWORLD _ h 0 (by decide)).trans (Nat.mod_eq_of_lt (b2n_lt _))⟩
  exact (Sys.rf_put_bits _ F.tlworld_PWORLD F.tlworld_NOSEC _ _ _ _ _ (by decide)).trans ((Sys.squash_squashes _ 0).tlworld F.tlworld_NOSEC rfl h)

end

end Sys2Proof.Machine
end

section
/-!
PROOFS. WCALL, WRET, mret, traps and interrupts (R130 to R133, R202, R203).
-/
namespace Sys2Proof.Machine

section
variable {h : Nat} (s : Sys)

theorem causeWord_false (code : Nat) : causeWord false code = BitVec.ofNat 64 code := by simp [causeWord, b2n]

theorem causeWord_true (code : Nat) : causeWord true code = BitVec.ofNat 64 (code + 2 ^ 63) := by simp [causeWord, b2n]

theorem Word.ofNat_toNat_div_four (w : Word) : BitVec.ofNat 64 (w.toNat / 4) = w >>> 2 := by
  refine BitVec.eq_of_toNat_eq ?_
  rw [BitVec.toNat_ofNat, BitVec.toNat_ushiftRight, Nat.shiftRight_eq_div_pow]
  omega

/-! ## What a trap makes of its hart -/

/-- A trap to M-mode: the mode and the world, the registers that name it, mstatus, and the pc. -/
theorem Sys.toM_sets (code : Nat) (intr : Bool) (pc : Word) (tval tval2 : Nat) (gva : Bool) {t : Sys} (ht : t = s.toM h code intr pc tval tval2 gva) :
    ((t.hart h).priv = 3 ∧ (t.hart h).virt = false ∧ t.worldS h = !(s.on F.tlworld_NOSEC h) ∧ t.rf F.tlworld_PWORLD h = b2n (s.worldS h)) ∧
    ((t.hart h).csrGet 0x341 = pc ∧ (t.hart h).csrGet 0x342 = causeWord intr code ∧ (t.hart h).csrGet 0x343 = BitVec.ofNat 64 tval ∧
      (t.hart h).csrGet 0x34B = BitVec.ofNat 64 (tval2 / 4)) ∧
    ((t.hart h).cf mstatus 11 2 = (s.hart h).priv % 4 ∧ (t.hart h).cf mstatus 39 1 = b2n (s.hart h).virt ∧
      (t.hart h).cf mstatus 7 1 = (s.hart h).cf mstatus 3 1 ∧ (t.hart h).cf mstatus 3 1 = 0) ∧
    (t.hart h).pc = tvecPc ((s.hart h).csrGet 0x305) intr code ∧ (t.hart h).resv = none ∧ (t.hart h).rob = [] := by
  subst ht
  generalize hu : (s.trapStart h).hart h = u
  obtain ⟨hpc, hcause, hval, hval2, hmpp, hmpv, hmpie, hmie, hvec⟩ := u.trapM_sets code intr pc tval tval2 gva
  obtain ⟨hpriv, hvirt, -, hworld, hpworld⟩ := (s.trapStart h).enterM_sets (h := h) (u.trapM code intr pc tval tval2 gva)
  have hkeeps := (s.trapStart h).enterM_keeps (h := h) (u.trapM code intr pc tval tval2 gva)
  have hset := u.trapM_keeps code intr pc tval tval2 gva
  have hto : s.toM h code intr pc tval tval2 gva = (s.trapStart h).enterM h (u.trapM code intr pc tval tval2 gva) := by rw [← hu]; rfl
  have hcsr (n : Nat) (hk : csrKept n = 0xFFFFFFFFFFFFFFFF) := hkeeps.csrGet_eq n rfl hk
  have hcf (lo wd : Nat) := hkeeps.cf_eq mstatus lo wd rfl (by decide)
  obtain ⟨hup, huv⟩ := s.trapStart_mode (h := h)
  rw [hu] at hup huv
  rw [hto]
  refine ⟨⟨hpriv, hvirt, hworld.trans ?_, hpworld.trans ?_⟩, ⟨(hcsr _ (by decide)).trans hpc, (hcsr _ (by decide)).trans hcause, (hcsr _ (by decide)).trans hval,
    (hcsr _ (by decide)).trans hval2⟩, ⟨?_, ?_, (hcf 7 1).trans (hmpie.trans ?_), (hcf 3 1).trans hmie⟩, ?_, ?_, Sys.enterM_rob _ _ ?_⟩
  · rw [s.trapStart_on F.tlworld_NOSEC rfl]
  · exact congrArg b2n (s.trapStart_on F.tlworld_WORLD rfl h)
  · rw [hcf, hmpp, hup]
  · rw [hcf, hmpv, huv]
  · rw [← hu, s.trapStart_cf _ _ _ (by decide)]
  · refine Eq.trans (hkeeps.1 .pc rfl) (hvec.trans ?_)
    rw [← hu, s.trapStart_csr _ (by decide)]
  · refine Eq.trans (hkeeps.1 .resv rfl) (Eq.trans (hset.1 .resv rfl) ?_)
    rw [← hu, s.trapStart_resv]
  · refine Eq.trans (hset.1 .rob rfl) ?_
    rw [← hu, s.trapStart_rob]

/-- A trap to HS-mode. -/
theorem Sys.toHs_sets (code : Nat) (pc : Word) (tval tval2 : Nat) (gva : Bool) {t : Sys} (ht : t = s.toHs h code false pc tval tval2 gva) :
    ((t.hart h).priv = 1 ∧ (t.hart h).virt = false ∧ t.worldS h = (s.worldS h && !s.on F.tlworld_NOSEC h)) ∧
    ((t.hart h).csrGet 0x141 = pc ∧ (t.hart h).csrGet 0x142 = BitVec.ofNat 64 code ∧ (t.hart h).csrGet 0x143 = BitVec.ofNat 64 tval) ∧
    ((t.hart h).cf mstatus 8 1 = min 1 (s.hart h).priv ∧ (t.hart h).cf hstatus 7 1 = b2n (s.hart h).virt ∧
      (t.hart h).cf mstatus 5 1 = (s.hart h).cf mstatus 1 1 ∧ (t.hart h).cf mstatus 1 1 = 0) ∧
    (t.hart h).pc = ((s.hart h).csrGet 0x105 >>> 2) <<< 2 := by
  subst ht
  generalize hu : (s.trapStart h).hart h = u
  obtain ⟨hpc, hcause, hval, hspp, hspv, hspie, hsie, hvec⟩ := u.trapHs_sets code false pc tval tval2 gva
  obtain ⟨hpriv, hvirt, -, hworld, -⟩ := (s.trapStart h).enter_sets (h := h) (u.trapHs code false pc tval tval2 gva) 1 false ((s.trapStart h).worldS h)
  have hkeeps := (s.trapStart h).enter_keeps (h := h) (u.trapHs code false pc tval tval2 gva) 1 false ((s.trapStart h).worldS h)
  have hto : s.toHs h code false pc tval tval2 gva =
      (s.trapStart h).enter h (u.trapHs code false pc tval tval2 gva) 1 false ((s.trapStart h).worldS h) := by rw [← hu]; rfl
  have hcsr (n : Nat) (hk : csrKept n = 0xFFFFFFFFFFFFFFFF) := hkeeps.csrGet_eq n rfl hk
  have hcf (n lo : Nat) (hk : csrKept n = 0xFFFFFFFFFFFFFFFF) := hkeeps.cf_eq n lo 1 rfl hk
  obtain ⟨hup, huv⟩ := s.trapStart_mode (h := h)
  rw [hu] at hup huv
  rw [hto]
  refine ⟨⟨hpriv, hvirt, hworld.trans ?_⟩, ⟨(hcsr _ (by decide)).trans hpc, (hcsr _ (by decide)).trans (hcause.trans (causeWord_false code)), (hcsr _ (by decide)).trans hval⟩,
    ⟨?_, ?_, (hcf _ 5 (by decide)).trans (hspie.trans ?_), (hcf _ 1 (by decide)).trans hsie⟩, ?_⟩
  · rw [s.trapStart_on F.tlworld_NOSEC rfl]
    exact congrArg (· && _) (s.trapStart_on F.tlworld_WORLD rfl h)
  · rw [hcf _ _ (by decide), hspp, hup]
  · rw [hcf _ _ (by decide), hspv, huv]
  · rw [← hu, s.trapStart_cf _ _ _ (by decide)]
  · refine Eq.trans (hkeeps.1 .pc rfl) (hvec.trans ?_)
    rw [← hu, s.trapStart_csr _ (by decide)]
    rfl

/-- A trap to VS-mode of an exception. -/
theorem Sys.toVs_sets (code : Nat) (pc : Word) (tval : Nat) {t : Sys} (ht : t = s.toVs h code false pc tval) :
    ((t.hart h).priv = 1 ∧ (t.hart h).virt = true) ∧
    ((t.hart h).csrGet 0x241 = pc ∧ (t.hart h).csrGet 0x242 = BitVec.ofNat 64 code ∧ (t.hart h).csrGet 0x243 = BitVec.ofNat 64 tval) ∧
    ((t.hart h).cf vsstatus 8 1 = (s.hart h).priv % 2 ∧ (t.hart h).cf vsstatus 5 1 = (s.hart h).cf vsstatus 1 1 ∧ (t.hart h).cf vsstatus 1 1 = 0) ∧
    (t.hart h).pc = ((s.hart h).csrGet 0x205 >>> 2) <<< 2 := by
  subst ht
  generalize hu : (s.trapStart h).hart h = u
  obtain ⟨hpc, hcause, hval, hspp, hspie, hsie, hvec⟩ := u.trapVs_sets code false pc tval
  obtain ⟨hpriv, hvirt, -, -, -⟩ := (s.trapStart h).enter_sets (h := h) (u.trapVs code false pc tval) 1 true ((s.trapStart h).worldS h)
  have hkeeps := (s.trapStart h).enter_keeps (h := h) (u.trapVs code false pc tval) 1 true ((s.trapStart h).worldS h)
  have hto : s.toVs h code false pc tval = (s.trapStart h).enter h (u.trapVs code false pc tval) 1 true ((s.trapStart h).worldS h) := by rw [← hu]; rfl
  have hcsr (n : Nat) (hk : csrKept n = 0xFFFFFFFFFFFFFFFF) := hkeeps.csrGet_eq n rfl hk
  have hcf (lo : Nat) := hkeeps.cf_eq vsstatus lo 1 rfl (by decide)
  have hup := (s.trapStart_mode (h := h)).1
  rw [hu] at hup
  rw [hto]
  refine ⟨⟨hpriv, hvirt⟩, ⟨(hcsr _ (by decide)).trans hpc, (hcsr _ (by decide)).trans (hcause.trans (causeWord_false code)), (hcsr _ (by decide)).trans hval⟩,
    ⟨?_, (hcf 5).trans (hspie.trans ?_), (hcf 1).trans hsie⟩, ?_⟩
  · rw [hcf, hspp, hup]
  · rw [← hu, s.trapStart_cf _ _ _ (by decide)]
  · refine Eq.trans (hkeeps.1 .pc rfl) (hvec.trans ?_)
    rw [← hu, s.trapStart_csr _ (by decide)]
    rfl

/-! ## The commands -/

theorem Sys.trapEntry_eq (cause : Nat) (tval tval2 : Word) (hr : s.ready h = true) : s.trapEntry h cause tval tval2 = s.trap h cause false (s.hart h).pc tval.toNat tval2.toNat
    ((s.hart h).virt && [0, 1, 4, 5, 6, 7, 12, 13, 15, 20, 21, 23].contains cause) := if_pos hr

/-- An illegal or a virtual instruction is the trap of its cause with tval 0. -/
theorem Sys.trapEntry_raise (cause : Nat) (hr : s.ready h = true) (hc : [0, 1, 4, 5, 6, 7, 12, 13, 15, 20, 21, 23].contains cause = false) :
    s.trapEntry h cause 0 0 = s.raiseAt h cause := by
  rw [s.trapEntry_eq cause 0 0 hr, hc, Bool.and_false]
  rfl

theorem Sys.delegates_of (t : Hart) (intr : Bool) (code n m v : Nat) (hv : fget (t.csrGet (if intr then n else m)) code 1 = v) : t.delegates intr code n m = (v == 1) :=
  congrArg (· == 1) hv

/-- An interrupt is taken at once where nothing is unretired. -/
theorem M.interrupt_eq (x : M) (code : Nat) (hr : x.sys.runs h = true) (hrob : (x.sys.hart h).rob = []) (hi : x.sys.intrNow h = some code) :
    x.interrupt h = x.on (fun s => s.trap h code true (s.hart h).pc 0 0 false) := by
  unfold Sys.runs at hr
  simp only [Bool.and_eq_true, beq_iff_eq, Bool.not_eq_true'] at hr
  obtain ⟨⟨⟨hcs0, hheel⟩, hhalt⟩, hwait⟩ := hr
  unfold M.interrupt
  dsimp only
  rw [if_neg (by simp [hcs0, hhalt, hheel]), hi, hwait]
  dsimp only
  rw [hrob]
  simp only [List.length_nil, List.range_zero, List.reverse_nil, List.find?_nil, List.any_nil, Bool.false_eq_true, if_false, hrob]
  rw [hi]

theorem State.onlyHart_sent {s : State} {y : Sys} {g : Nat} {hp : List HPart} {csrs : List Nat} (hf : Sys.FrameHart g s.sys y (modeReg g) stopParts hp csrs) :
    s.OnlyHart (s.withSys y) g (modeReg g) sentParts hp csrs :=
  State.onlyHart_withSys (hf.mono (fun _ h => h) (by decide) (List.Subset.refl _) (List.Subset.refl _))

end

theorem onSys_congr {f g : Sys → Sys} {s : State} (h : f s.sys = g s.sys) : onSys f s = onSys g s := by
  unfold onSys onSysAny
  rw [h]

/-- Settles O22: each destination of a trap, and each return, is the hart it makes with the flushes of its change of mode. -/
theorem monitor : Obligations.Monitor := by
  refine ⟨?wcall, ?unavailable, ?wcallVirt, ?wret, ?mret, ?mretBelow, ?trapM, ?trapHs, ?trapVs, ?interrupt⟩
  case wcall =>
    intro s h hl hr hn hp hv h0
    refine completes_onSys _ _ s _ hl rfl ?_
    rw [s.sys.wcall_eq hr hn hp hv h0, State.withSys_sys]
    have hstart := s.sys.callStart_frame (h := h.val)
    have hcall := s.sys.callStart_keeps (h := h.val)
    obtain ⟨hnosec, hpworld⟩ := s.sys.callStart_tlworld (h := h.val)
    obtain ⟨hmepc, hcause, hval, hval2, hinst, hmpp, hmpv, hmpie, hmie⟩ := (s.sys.hart h).called_sets (s.sys.rd ⟨.tlwvec, h, 0⟩)
    have hpc : ((s.sys.hart h).called (s.sys.rd ⟨.tlwvec, h, 0⟩)).pc = s.sys.rd ⟨.tlwvec, h, 0⟩ := Hart.pc_atPc ..
    generalize (s.sys.hart h).called (s.sys.rd ⟨.tlwvec, h, 0⟩) = c at *
    generalize s.sys.callStart h = u at *
    have hmode := u.modeTo_frame (h := h.val) 3 false true
    obtain ⟨hpriv, hvirt, -, hworld, hpw⟩ := u.modeTo_sets (h := h.val) 3 false true
    generalize u.modeTo h 3 false true = m at *
    have hret := m.retired_frame (h := h.val)
    have hkeeps : c.Keeps ((m.retired h).hart h) modeParts [] :=
      ((hcall.mono (by decide) (List.Subset.refl _)).trans hmode.2).trans (hret.2.mono (by decide) (List.Subset.refl _))
    have hcsr (n : Nat) (hk : csrKept n = 0xFFFFFFFFFFFFFFFF) := hkeeps.csrGet_eq n rfl hk
    have hcf (lo wd : Nat) := hkeeps.cf_eq mstatus lo wd rfl (by decide)
    have hmodes := hret.2.1 .mode rfl
    have hreg (f : Fld) : (m.retired h).rf f h = m.rf f h := Sys.Frame.rf hret.1.1 f h 0 rfl
    refine ⟨Eq.trans (hkeeps.1 .pc rfl) hpc, hmodes.1.trans hpriv, hmodes.2.trans hvirt, (hcsr _ (by decide)).trans hmepc, (hcsr _ (by decide)).trans hcause,
      (hcsr _ (by decide)).trans hval, (hcsr _ (by decide)).trans hval2, (hcsr _ (by decide)).trans hinst, (hcf 11 2).trans hmpp,
      (hcf 39 1).trans (hmpv.trans (congrArg b2n hv)), (hcf 7 1).trans hmpie, (hcf 3 1).trans hmie, (hreg F.tlworld_PWORLD).trans (hpw.trans hpworld), ?_, ?_⟩
    · refine (congrArg (· == 1) (hreg F.tlworld_WORLD)).trans (hworld.trans ?_)
      rw [hnosec, hn]
      rfl
    · refine State.onlyHart_withSys (Sys.FrameHart.trans (t := m) ?_ (hret.mono (by simp) (by decide) (by decide) (List.nil_subset _)))
      exact (hstart.mono (fun _ h => h) (by decide) (by decide) (List.Subset.refl _)).trans
        (hmode.mono (fun _ h => h) (by decide) (by decide) (List.nil_subset _))
  case unavailable =>
    intro s h hl hr hun
    have hwcall : s.sys.wcall h = s.sys.trapEntry h 2 0 0 := by
      rw [Sys.trapEntry_raise _ 2 hr (by decide)]
      unfold Sys.wcall
      rw [if_pos hr]
      exact if_pos (by rcases hun with hun | hun <;> simp [hun])
    have hwret : s.sys.wret h = s.sys.trapEntry h 2 0 0 := by
      rw [Sys.trapEntry_raise _ 2 hr (by decide)]
      unfold Sys.wret
      rw [if_pos hr]
      exact if_pos (by rcases hun with hun | hun <;> simp [hun])
    exact ⟨onSys_congr (f := fun s => s.wcall h) (g := fun s => s.trapEntry h (2 : Fin 64) 0 0) hwcall, onSys_congr (f := fun s => s.wret h) (g := fun s => s.trapEntry h (2 : Fin 64) 0 0) hwret⟩
  case wcallVirt =>
    intro s h hl hr hn hp hv
    have hwcall : s.sys.wcall h = s.sys.trapEntry h 22 0 0 := by
      rw [Sys.trapEntry_raise _ 22 hr (by decide)]
      unfold Sys.wcall
      rw [if_pos hr]
      dsimp only
      rw [if_neg (by simp [hn, hp, hv]), if_pos hv]
      rfl
    exact onSys_congr (f := fun s => s.wcall h) (g := fun s => s.trapEntry h (22 : Fin 64) 0 0) hwcall
  case wret =>
    intro s h hl hr hp hn hpath hscrub
    refine completes_onSys _ _ s _ hl rfl ?_
    rw [s.sys.wret_eq hr hp hn hpath hscrub, State.withSys_sys]
    have hself : (s.sys.onHart h Hart.scrub).hart h = (s.sys.hart h).scrub := s.sys.hart_onHart_self h Hart.scrub
    obtain ⟨hx, hv, hvstart, hvs⟩ := (s.sys.hart h).scrub_sets
    obtain ⟨hpc, hpriv, -, hworld, hmie, -, -, -, hkept⟩ := (s.sys.onHart h Hart.scrub).mreturn_sets (h := h.val)
    have hret := (s.sys.onHart h Hart.scrub).mreturn_frame (h := h.val)
    have hmpp : (s.sys.hart h).scrub.cf mstatus 11 2 = (s.sys.hart h).cf mstatus 11 2 := Hart.scrub_cf _ 11 2 (by decide)
    rw [hself] at hpc hpriv hworld hmie hkept
    have hparts := hret.2
    rw [hself] at hparts
    have hxs (n : Nat) : (((s.sys.onHart h Hart.scrub).mreturn h).hart h).xGet n = (s.sys.hart h).scrub.xGet n := by
      unfold Hart.xGet
      rw [show (((s.sys.onHart h Hart.scrub).mreturn h).hart h).x = (s.sys.hart h).scrub.x from hparts.1 .x rfl]
    refine ⟨fun i => (hxs i).trans (hx i), Eq.trans (hparts.1 .v rfl) hv, Eq.trans (hparts.1 .f rfl) ((s.sys.hart h).scrub_keeps.1 .f rfl),
      (hparts.csrGet_eq _ rfl (by decide)).trans hvstart, hpc.trans ?_, hpriv.trans hmpp, fun h3 => (hworld (hmpp ▸ h3)).trans ?_, hmie.trans ?_, hkept.trans hvs, ?_⟩
    · rw [(s.sys.hart h).scrub_keeps.csrGet_eq 0x341 rfl (by decide)]
    · exact (congrArg (fun b => _ && !b) hn).trans (Bool.and_true _)
    · exact Hart.scrub_cf _ 7 1 (by decide)
    · refine State.onlyHart_withSys (s.sys.scrubbed_frame.mono (fun _ h => h) (List.Subset.refl _) (by decide) (by decide) |>.trans ?_)
      exact hret.mono (fun _ h => h) (List.Subset.refl _) (by decide) (by decide)
  case mret =>
    intro s h hl hr hp
    refine completes_onSys _ _ s _ hl rfl ?_
    have hto : s.sys.mret h = s.sys.mreturn h := by
      unfold Sys.mret
      rw [if_pos hr]
      exact if_neg (not_not_intro hp)
    rw [hto, State.withSys_sys]
    obtain ⟨hpc, hpriv, hvirt, hworld, hmie, hmpie, hmpp, hmpv, -⟩ := s.sys.mreturn_sets (h := h.val)
    exact ⟨hpc, hpriv, hvirt, hworld, hmie, hmpie, hmpp, hmpv, State.onlyHart_withSys s.sys.mreturn_frame⟩
  case mretBelow =>
    intro s h hl hr hp
    have hmret : s.sys.mret h = s.sys.trapEntry h 2 0 0 := by
      rw [Sys.trapEntry_raise _ 2 hr (by decide)]
      unfold Sys.mret
      rw [if_pos hr]
      exact if_pos hp
    exact onSys_congr (f := fun s => s.mret h) (g := fun s => s.trapEntry h (2 : Fin 64) 0 0) hmret
  case trapM =>
    intro s h cause tval tval2 hl hr hd
    refine completes_onSys _ _ s _ hl rfl ?_
    have hdeleg : (s.sys.hart h).priv = 3 ∨ (s.sys.hart h).delegates false cause.val 0x303 0x302 = false :=
      hd.imp_right fun hz => Sys.delegates_of _ _ _ _ _ 0 hz
    rw [s.sys.trapEntry_eq cause tval tval2 hr, Sys.trap_toM _ _ _ _ _ _ _ hdeleg, State.withSys_sys]
    have hframe := s.sys.toM_frame (h := h.val) cause.val (s.sys.hart h).pc tval.toNat tval2.toNat
      ((s.sys.hart h).virt && [0, 1, 4, 5, 6, 7, 12, 13, 15, 20, 21, 23].contains cause.val) false
    obtain ⟨⟨hpriv, hvirt, hworld, hpworld⟩, ⟨hmepc, hcause, hval, hval2⟩, ⟨hmpp, hmpv, hmpie, hmie⟩, hpc, hresv, hrob⟩ :=
      Sys.toM_sets s.sys cause.val false (s.sys.hart h).pc tval.toNat tval2.toNat _ rfl
    exact ⟨hpriv, hvirt, hworld, hpworld, hmepc, hcause.trans (causeWord_false _), hval.trans (BitVec.ofNat_toNat ..|>.trans (BitVec.setWidth_eq _)),
      hval2.trans (Word.ofNat_toNat_div_four tval2), hmpp, hmpv, hmpie, hmie, hpc, hresv, hrob, State.onlyHart_sent hframe⟩
  case trapHs =>
    intro s h cause tval tval2 hl hr hp hd hh
    refine completes_onSys _ _ s _ hl rfl ?_
    have hguest : (s.sys.hart h).virt = false ∨ (s.sys.hart h).delegates false cause.val 0x603 0x602 = false :=
      hh.imp_right fun hz => Sys.delegates_of _ _ _ _ _ 0 hz
    rw [s.sys.trapEntry_eq cause tval tval2 hr, Sys.trap_toHs _ _ _ _ _ _ hp (Sys.delegates_of _ false _ _ _ 1 hd) hguest, State.withSys_sys]
    have hframe := s.sys.toHs_frame (h := h.val) cause.val (s.sys.hart h).pc tval.toNat tval2.toNat
      ((s.sys.hart h).virt && [0, 1, 4, 5, 6, 7, 12, 13, 15, 20, 21, 23].contains cause.val) false
    obtain ⟨⟨hpriv, hvirt, hworld⟩, ⟨hsepc, hcause, hval⟩, ⟨hspp, hspv, hspie, hsie⟩, hpc⟩ :=
      Sys.toHs_sets s.sys cause.val (s.sys.hart h).pc tval.toNat tval2.toNat _ rfl
    exact ⟨hpriv, hvirt, hworld, hsepc, hcause, hval.trans (BitVec.ofNat_toNat ..|>.trans (BitVec.setWidth_eq _)), hspp, hspv, hspie, hsie, hpc,
      State.onlyHart_sent hframe⟩
  case trapVs =>
    intro s h cause tval tval2 hl hr hp hv hd hh
    refine completes_onSys _ _ s _ hl rfl ?_
    rw [s.sys.trapEntry_eq cause tval tval2 hr,
      Sys.trap_toVs _ _ _ _ _ _ hp (Sys.delegates_of _ false _ _ _ 1 hd) hv (Sys.delegates_of _ false _ _ _ 1 hh), State.withSys_sys]
    have hframe := s.sys.toVs_frame (h := h.val) cause.val (s.sys.hart h).pc tval.toNat false
    obtain ⟨⟨hpriv, hvirt⟩, ⟨hsepc, hcause, hval⟩, ⟨hspp, hspie, hsie⟩, hpc⟩ := Sys.toVs_sets s.sys cause.val (s.sys.hart h).pc tval.toNat rfl
    exact ⟨hpriv, hvirt, hsepc, hcause, hval.trans (BitVec.ofNat_toNat ..|>.trans (BitVec.setWidth_eq _)), hspp, hspie, hsie, hpc, State.onlyHart_sent hframe⟩
  case interrupt =>
    intro s h code hl hr hrob hi hd
    refine completes_on hl rfl (M.interrupt_eq s.ctx code hr hrob hi) ?_
    have hdeleg : (s.sys.hart h).priv = 3 ∨ (s.sys.hart h).delegates true code 0x303 0x302 = false :=
      hd.imp_right fun hz => Sys.delegates_of _ _ _ _ _ 0 hz
    rw [Sys.trap_toM _ _ _ _ _ _ _ hdeleg, State.withSys_sys]
    have hframe := s.sys.toM_frame (h := h.val) code (s.sys.hart h).pc 0 0 false true
    obtain ⟨⟨hpriv, hvirt, -, -⟩, ⟨hmepc, hcause, -, -⟩, ⟨-, -, hmpie, hmie⟩, hpc, -, -⟩ := Sys.toM_sets s.sys code true (s.sys.hart h).pc 0 0 false rfl
    exact ⟨hpriv, hvirt, hmepc, hcause.trans (causeWord_true _), hmpie, hmie, hpc, State.onlyHart_sent hframe⟩

end Sys2Proof.Machine
end

section
/-!
SUPPORT. Frames that speak of one link, a link's wires, and the write of IOP_LINK_CTL (R403, R452, R467).
-/
namespace Sys2Proof.Machine

/-! ## One link -/

section
variable {p j : Nat} {s t : Sys} {but : RK → Bool} {parts : List Part}

/-- A link by its port and place. -/
def Sys.linkAt (s : Sys) (k : Nat × Nat) : LinkSt := s.link k.1 k.2

/-- Of the links only one changes. -/
abbrev Sys.FrameLink (p j : Nat) (s t : Sys) (but : RK → Bool) (parts : List Part) : Prop := Sys.FrameAt Sys.linkAt .links (p, j) s t but parts

theorem Sys.link_of_links (h : t.links = s.links) (p j : Nat) : t.link p j = s.link p j := by
  unfold Sys.link
  rw [h]

theorem Sys.FrameLink.of_frame (h : s.Frame t but parts) (hp : parts.contains .links = false) : Sys.FrameLink p j s t but parts :=
  Sys.FrameAt.of_frame (fun h => funext fun k => Sys.link_of_links h k.1 k.2) h hp

@[simp] theorem Sys.link_onLink_self (s : Sys) (p j : Nat) (f : LinkSt → LinkSt) : (s.onLink p j f).link p j = f (s.link p j) := Bank.getD_set_self ..

theorem Sys.link_onLink_other (s : Sys) (p j : Nat) (f : LinkSt → LinkSt) {q i : Nat} (h : (q, i) ≠ (p, j)) : (s.onLink p j f).link q i = s.link q i :=
  Bank.getD_set_other _ _ _ _ _ h.symm

theorem Sys.FrameLink.onLink (s : Sys) (f : LinkSt → LinkSt) : Sys.FrameLink p j s (s.onLink p j f) but parts :=
  ⟨.set_links s _ rfl, fun _ hk => s.link_onLink_other p j f hk⟩

theorem Sys.FrameLink.put (s : Sys) (f : Fld) (v q i : Nat) (h : but ⟨f.reg, q, i⟩ = true) : Sys.FrameLink p j s (s.put f v q i) but parts :=
  ⟨.put s f v q i h, fun _ _ => rfl⟩

theorem Sys.FrameLink.other (h : Sys.FrameLink p j s t but parts) (q i : Nat) (hq : (q, i) ≠ (p, j)) : t.link q i = s.link q i := h.2 (q, i) hq

theorem State.onlyLink_withSys {s : State} {y : Sys} (h : Sys.FrameLink p j s.sys y but parts) : s.OnlyLink (s.withSys y) p j but parts :=
  ⟨State.only_withSys h.1, fun q i hq => h.2 (q, i) hq⟩

/-- A write that takes effect changes, beside the access, what its register's write changes. -/
theorem Sys.Touched.link {y : Sys} {r : Resp} (h : s.Touched t) (hy : Sys.FrameLink p j t y but parts) (hb : ∀ k, csStatus k = true → but k = true)
    (hp : accessParts ⊆ parts) : Sys.FrameLink p j s (y.answer r) but parts :=
  ⟨h.frame_write hy.1 hb (fun _ hq => List.mem_cons_of_mem _ (hp hq)), fun k hk => (hy.2 k hk).trans (Sys.link_of_links (h.part .links rfl) k.1 k.2)⟩

theorem Sys.Touched.link_eq (h : s.Touched t) (p j : Nat) : t.link p j = s.link p j := Sys.link_of_links (h.part .links rfl) p j

end

/-! ## Wires -/

section
variable (s : Sys) (p j : Nat)

/-- What a link's wires change: the register that shows them and the request lines that they lead to. -/
abbrev wireReg (p j : Nat) (k : RK) : Bool := k == ⟨.IOP_LINK_INTX, p, j⟩ || lineReg k

theorem Sys.intxSync_frame : s.Frame (s.intxSync p j) (wireReg p j) [.icn] :=
  ((Sys.Frame.put s _ _ _ _ (by simp)).trans (.when _ _ _ fun _ => .put _ _ _ _ _ (by simp))).trans
    (Sys.icnSync_frame_of _ _ fun k hk => by simp [hk])

theorem Sys.link_intxSync (q i : Nat) : (s.intxSync p j).link q i = s.link q i := Sys.link_of_links ((s.intxSync_frame p j).2 .links rfl) q i

theorem Sys.intxTo_frame (m : Nat) : Sys.FrameLink p j s (s.intxTo p j m) (wireReg p j) [.icn] :=
  Sys.FrameAt.trans (Sys.FrameLink.onLink s _) (Sys.FrameLink.of_frame (Sys.intxSync_frame _ p j) rfl)

theorem Sys.link_intxTo (m : Nat) : (s.intxTo p j m).link p j = { s.link p j with wires := m } :=
  (Sys.link_intxSync _ p j p j).trans (s.link_onLink_self p j _)

/-- A field of a link's other registers. -/
theorem Sys.rf_intxSync (f : Fld) (q i : Nat) (hf : wireReg p j ⟨f.reg, q, i⟩ = false) : (s.intxSync p j).rf f q i = s.rf f q i :=
  (s.intxSync_frame p j).rf f q i hf

theorem Sys.rf_intxTo (m : Nat) (f : Fld) (q i : Nat) (hf : wireReg p j ⟨f.reg, q, i⟩ = false) : (s.intxTo p j m).rf f q i = s.rf f q i :=
  (s.intxTo_frame p j m).1.rf f q i hf

end

/-! ## Power requests -/

section
variable (s : Sys) (p j : Nat)

/-- The link is powered off: its wires fall, and it shows no speed, width or CXL; an endpoint's status follows. -/
def Sys.linkOff (s : Sys) (p j : Nat) : Sys :=
  let s := (s.intxTo p j 0).lkTo p j lkOff
  let s := ((s.put F.IOP_LINK_STATUS_SPEED 0 p j).put F.IOP_LINK_STATUS_WIDTH 0 p j).put F.IOP_LINK_STATUS_CXL 0 p j
  if s.isEp p then (s.put F.IOP_EP_STATUS_LINK_UP 0 p).put F.IOP_EP_INTX_SENT 0 p else s

theorem Sys.linkPower_on : s.linkPower p j false =
    (s.onLink p j (fun l => { l with off := false })).when (s.lkState p j == lkOff && s.role p != 0) (fun s => s.lkTo p j lkReset) := by
  unfold Sys.linkPower
  dsimp only
  have hst : (s.onLink p j (fun l => { l with off := false })).lkState p j = s.lkState p j := rfl
  have hrole : (s.onLink p j (fun l => { l with off := false })).role p = s.role p := rfl
  rw [hst, hrole]
  by_cases hh : s.lkState p j = lkHeel
  · rw [if_pos hh, hh]
    rfl
  · rw [if_neg hh, if_neg (by decide)]
    by_cases ho : s.lkState p j = lkOff
    · simp [ho, Sys.when]
    · simp [ho, Sys.when]

theorem Sys.linkPower_off (hh : s.lkState p j ≠ lkHeel) (ho : s.lkState p j ≠ lkOff) :
    s.linkPower p j true = (s.onLink p j (fun l => { l with off := true })).linkOff p j :=
  (if_neg hh).trans ((if_pos rfl).trans (if_neg ho))

/-- The registers of an endpoint that follow its link. -/
abbrev epReg (p : Nat) (k : RK) : Bool := oneReg p [.IOP_EP_STATUS, .IOP_EP_INTX] k

/-- What powering a link changes. -/
abbrev powerReg (p j : Nat) (k : RK) : Bool := k == ⟨.IOP_LINK_STATUS, p, j⟩ || wireReg p j k || epReg p k

theorem Sys.linkOff_frame : Sys.FrameLink p j s (s.linkOff p j) (powerReg p j) [.icn] := by
  have hst (u : Sys) (f : Fld) (hf : f.reg = .IOP_LINK_STATUS) (v : Nat) : Sys.FrameLink p j u (u.put f v p j) (powerReg p j) [.icn] :=
    .put u f v p j (by simp [powerReg, hf])
  have hep (u : Sys) (f : Fld) (hf : f.reg = .IOP_EP_STATUS ∨ f.reg = .IOP_EP_INTX) (v : Nat) : Sys.FrameLink p j u (u.put f v p) (powerReg p j) [.icn] :=
    .put u f v p 0 (by rcases hf with hf | hf <;> simp [powerReg, epReg, oneReg, hf])
  have hwires : Sys.FrameLink p j s (s.intxTo p j 0) (powerReg p j) [.icn] := (s.intxTo_frame p j 0).mono (fun k hk => by simp [powerReg, hk]) (List.Subset.refl _)
  refine Sys.FrameAt.trans (Sys.FrameAt.trans (Sys.FrameAt.trans (Sys.FrameAt.trans (Sys.FrameAt.trans hwires (hst _ F.IOP_LINK_STATUS_STATE rfl lkOff))
    (hst _ F.IOP_LINK_STATUS_SPEED rfl 0)) (hst _ F.IOP_LINK_STATUS_WIDTH rfl 0)) (hst _ F.IOP_LINK_STATUS_CXL rfl 0)) ?_
  exact .ite (fun _ => Sys.FrameAt.trans (hep _ F.IOP_EP_STATUS_LINK_UP (.inl rfl) _) (hep _ F.IOP_EP_INTX_SENT (.inr rfl) _)) fun _ => .refl _

theorem Sys.link_linkOff : (s.linkOff p j).link p j = { s.link p j with wires := 0 } := by
  refine Eq.trans ?_ (s.link_intxTo p j 0)
  unfold Sys.linkOff
  dsimp only
  split <;> rfl

/-- A field of IOP_LINK_STATUS after an endpoint's registers have followed. -/
theorem Sys.linkOff_shows : (s.linkOff p j).lkState p j = lkOff ∧ (s.linkOff p j).rf F.IOP_LINK_STATUS_SPEED p j = 0 ∧ (s.linkOff p j).rf F.IOP_LINK_STATUS_WIDTH p j = 0 := by
  have hep (u : Sys) (f : Fld) (hf : f.reg = .IOP_LINK_STATUS) :
      (if u.isEp p then (u.put F.IOP_EP_STATUS_LINK_UP 0 p).put F.IOP_EP_INTX_SENT 0 p else u).rf f p j = u.rf f p j := by
    split
    · exact (Sys.rf_put_reg _ F.IOP_EP_INTX_SENT f _ _ _ _ _ (by rw [hf]; decide)).trans (Sys.rf_put_reg _ F.IOP_EP_STATUS_LINK_UP f _ _ _ _ _ (by rw [hf]; decide))
    · rfl
  unfold Sys.linkOff Sys.lkState
  dsimp only
  rw [hep _ _ rfl, hep _ _ rfl, hep _ _ rfl]
  refine ⟨?_, ?_, ?_⟩
  · rw [Sys.rf_put_bits _ F.IOP_LINK_STATUS_CXL _ _ _ _ _ _ (by decide), Sys.rf_put_bits _ F.IOP_LINK_STATUS_WIDTH _ _ _ _ _ _ (by decide),
      Sys.rf_put_bits _ F.IOP_LINK_STATUS_SPEED _ _ _ _ _ _ (by decide)]
    exact Sys.rf_put_self _ _ _ _ _ (by decide)
  · rw [Sys.rf_put_bits _ F.IOP_LINK_STATUS_CXL _ _ _ _ _ _ (by decide), Sys.rf_put_bits _ F.IOP_LINK_STATUS_WIDTH _ _ _ _ _ _ (by decide)]
    exact Sys.rf_put_self _ _ _ _ _ (by decide)
  · rw [Sys.rf_put_bits _ F.IOP_LINK_STATUS_CXL _ _ _ _ _ _ (by decide)]
    exact Sys.rf_put_self _ _ _ _ _ (by decide)

end

/-! ## The write of IOP_LINK_CTL -/

section
variable (s : Sys) (p j : Nat) (v : Word)

/-- The fields that a write of IOP_LINK_CTL stores at once. -/
def Sys.ctlFields (s : Sys) (p j : Nat) (v : Word) : Sys :=
  [F.IOP_LINK_CTL_IDLE_L1, F.IOP_LINK_CTL_CPL_TO, F.IOP_LINK_CTL_INTX_EN, F.IOP_LINK_CTL_P2P_EN, F.IOP_LINK_CTL_PERST_REL].foldl
    (fun s f => s.put f (fget v f.lo f.wd) p j) s

theorem Sys.ctlFields_eq : s.ctlFields p j v = ((((s.put F.IOP_LINK_CTL_IDLE_L1 (fget v 32 8) p j).put F.IOP_LINK_CTL_CPL_TO (fget v 2 2) p j).put
    F.IOP_LINK_CTL_INTX_EN (fget v 1 1) p j).put F.IOP_LINK_CTL_P2P_EN (fget v 0 1) p j).put F.IOP_LINK_CTL_PERST_REL (fget v 61 1) p j := rfl

theorem Sys.ctlFields_frame {parts : List Part} : s.Frame (s.ctlFields p j v) (fun k => k == ⟨.IOP_LINK_CTL, p, j⟩) parts := by
  have hput (u : Sys) (f : Fld) (n : Nat) (hf : f.reg = .IOP_LINK_CTL) : u.Frame (u.put f n p j) (fun k => k == ⟨.IOP_LINK_CTL, p, j⟩) parts :=
    .put u f n p j (by rw [hf]; exact beq_self_eq_true _)
  rw [Sys.ctlFields_eq]
  exact ((((hput _ _ _ rfl).trans (hput _ _ _ rfl)).trans (hput _ _ _ rfl)).trans (hput _ _ _ rfl)).trans (hput _ _ _ rfl)

theorem Sys.ctlFields_perst : (s.ctlFields p j v).rf F.IOP_LINK_CTL_PERST_REL p j = fget v 61 1 := by
  rw [Sys.ctlFields_eq, Sys.rf_put_self _ _ _ _ _ (by decide)]
  exact fget_mod ..

/-- A field of IOP_LINK_CTL that the write does not store. -/
theorem Sys.ctlFields_other (f : Fld) (hb : 40 ≤ f.lo ∧ f.lo + f.wd ≤ 61 ∨ 62 ≤ f.lo ∧ f.lo + f.wd ≤ 64) :
    (s.ctlFields p j v).rf f p j = s.rf f p j := by
  have hput (u : Sys) (g : Fld) (n : Nat) (h : g.lo + g.wd ≤ 40 ∨ g.lo = 61 ∧ g.wd = 1) : (u.put g n p j).rf f p j = u.rf f p j :=
    Sys.rf_put_bits u g f n p j p j ⟨by omega, by omega⟩
  rw [Sys.ctlFields_eq, hput _ F.IOP_LINK_CTL_PERST_REL _ (.inr ⟨rfl, rfl⟩), hput _ F.IOP_LINK_CTL_P2P_EN _ (.inl (by decide)),
    hput _ F.IOP_LINK_CTL_INTX_EN _ (.inl (by decide)), hput _ F.IOP_LINK_CTL_CPL_TO _ (.inl (by decide)), hput _ F.IOP_LINK_CTL_IDLE_L1 _ (.inl (by decide))]

/-- The write starts training: PERST_REL of a root link in RESET, RETRAIN in DOWN, DPC_RELEASE in CONTAINED. -/
def Sys.ctlTrains (s : Sys) (p j : Nat) (v : Word) : Bool :=
  (s.isRoot p && s.hasLink p j && s.lkState p j == lkReset && fget v 61 1 == 1) || (fget v 63 1 == 1 && s.lkState p j == lkDown) ||
    (fget v 62 1 == 1 && s.lkState p j == lkContained)

/-- The link trains under a condition. -/
def Sys.trainWhen (s : Sys) (p j : Nat) (c : Bool) : Sys := s.when c (fun s => s.lkTo p j lkTraining)

theorem Sys.linkCtlWrite_eq : s.linkCtlWrite p j v =
    (((((s.ctlFields p j v).onLink p j (fun l => { l with perst := fget v 61 1 == 0 })).trainWhen p j
      (s.isRoot p && s.hasLink p j && s.lkState p j == lkReset && fget v 61 1 == 1)).trainWhen p j (fget v 63 1 == 1 && s.lkState p j == lkDown)).trainWhen p j
      (fget v 62 1 == 1 && s.lkState p j == lkContained)).intxSync p j := by
  have hst : (s.ctlFields p j v).lkState p j = s.lkState p j := (s.ctlFields_frame p j v (parts := [])).rf F.IOP_LINK_STATUS_STATE p j rfl
  rw [← hst]
  rfl

theorem Sys.trainWhen_frame (c : Bool) {parts : List Part} : s.Frame (s.trainWhen p j c) (lkReg p j) parts := .when _ _ _ fun _ => s.lkTo_frame p j _

theorem Sys.trainWhen_state (c : Bool) : (s.trainWhen p j c).lkState p j = if c then lkTraining else s.lkState p j := by
  cases c with
  | false => rfl
  | true => exact Sys.rf_put_self _ _ _ _ _ (by decide)

/-- A field of IOP_LINK_STATUS other than STATE. -/
theorem Sys.trainWhen_other (c : Bool) (f : Fld) (hb : 4 ≤ f.lo ∧ f.lo + f.wd ≤ 64) : (s.trainWhen p j c).rf f p j = s.rf f p j := by
  cases c with
  | false => rfl
  | true => exact Sys.rf_put_bits _ _ _ _ _ _ _ _ ⟨hb.2, .inl hb.1⟩

/-- The registers of a link that a write of its IOP_LINK_CTL changes. -/
abbrev linkCtlReg (p j : Nat) (k : RK) : Bool := k == ⟨.IOP_LINK_CTL, p, j⟩ || k == ⟨.IOP_LINK_STATUS, p, j⟩ || wireReg p j k

theorem Sys.linkCtlWrite_frame : Sys.FrameLink p j s (s.linkCtlWrite p j v) (linkCtlReg p j) [.icn] := by
  have htrain (u : Sys) (c : Bool) : Sys.FrameLink p j u (u.trainWhen p j c) (linkCtlReg p j) [.icn] :=
    Sys.FrameLink.of_frame ((u.trainWhen_frame p j c).regs_mono fun k hk => by rw [lkReg] at hk; simp [linkCtlReg, hk]) rfl
  have hfields : Sys.FrameLink p j s (s.ctlFields p j v) (linkCtlReg p j) [.icn] :=
    Sys.FrameLink.of_frame ((s.ctlFields_frame p j v).regs_mono fun k hk => by simp [linkCtlReg, hk]) rfl
  have hsync (u : Sys) : Sys.FrameLink p j u (u.intxSync p j) (linkCtlReg p j) [.icn] :=
    Sys.FrameLink.of_frame ((u.intxSync_frame p j).regs_mono fun k hk => by rw [linkCtlReg, hk, Bool.or_true]) rfl
  rw [Sys.linkCtlWrite_eq]
  exact Sys.FrameAt.trans (Sys.FrameAt.trans (Sys.FrameAt.trans (Sys.FrameAt.trans (Sys.FrameAt.trans hfields (Sys.FrameLink.onLink _ _)) (htrain _ _)) (htrain _ _)) (htrain _ _)) (hsync _)

theorem Sys.linkCtlWrite_state : (s.linkCtlWrite p j v).lkState p j = if s.ctlTrains p j v then lkTraining else s.lkState p j := by
  have hst : ((s.ctlFields p j v).onLink p j (fun l => { l with perst := fget v 61 1 == 0 })).lkState p j = s.lkState p j :=
    (s.ctlFields_frame p j v (parts := [])).rf F.IOP_LINK_STATUS_STATE p j rfl
  rw [Sys.linkCtlWrite_eq]
  unfold Sys.ctlTrains
  refine (Sys.rf_intxSync _ p j F.IOP_LINK_STATUS_STATE p j (by simp [lineReg])).trans ?_
  refine (Sys.trainWhen_state ..).trans ?_
  rw [Sys.trainWhen_state, Sys.trainWhen_state, hst]
  generalize (s.isRoot p && s.hasLink p j && s.lkState p j == lkReset && fget v 61 1 == 1) = a
  generalize (fget v 63 1 == 1 && s.lkState p j == lkDown) = b
  generalize (fget v 62 1 == 1 && s.lkState p j == lkContained) = c
  cases a <;> cases b <;> cases c <;> rfl

theorem Sys.linkCtlWrite_link : (s.linkCtlWrite p j v).link p j = { s.link p j with perst := fget v 61 1 == 0 } := by
  have htrain (u : Sys) (c : Bool) : (u.trainWhen p j c).link p j = u.link p j := by cases c <;> rfl
  rw [Sys.linkCtlWrite_eq, Sys.link_intxSync, htrain, htrain, htrain, Sys.link_onLink_self]
  rfl

/-- A field of IOP_LINK_CTL is what the write stores. -/
theorem Sys.linkCtlWrite_ctl (f : Fld) (hf : f.reg = .IOP_LINK_CTL) : (s.linkCtlWrite p j v).rf f p j = (s.ctlFields p j v).rf f p j := by
  have htrain (u : Sys) (c : Bool) : (u.trainWhen p j c).rf f p j = u.rf f p j :=
    (u.trainWhen_frame p j c (parts := [])).rf f p j (by rw [hf]; simp [lkReg])
  rw [Sys.linkCtlWrite_eq, Sys.rf_intxSync _ p j f p j (by rw [hf]; simp [lineReg]), htrain, htrain, htrain]
  rfl

/-- A field of IOP_LINK_STATUS other than STATE is as it was. -/
theorem Sys.linkCtlWrite_status (f : Fld) (hf : f.reg = .IOP_LINK_STATUS) (hb : 4 ≤ f.lo ∧ f.lo + f.wd ≤ 64) : (s.linkCtlWrite p j v).rf f p j = s.rf f p j := by
  rw [Sys.linkCtlWrite_eq, Sys.rf_intxSync _ p j f p j (by rw [hf]; simp [lineReg]), Sys.trainWhen_other _ _ _ _ f hb, Sys.trainWhen_other _ _ _ _ f hb,
    Sys.trainWhen_other _ _ _ _ f hb]
  exact (s.ctlFields_frame p j v (parts := [])).rf f p j (by rw [hf]; simp)

/-! ## The requested power state -/

/-- A request of a link's power that is applied: what was deferred is dropped, PWR_REQ shows it, and the link follows. -/
def Sys.linkReq (s : Sys) (p j : Nat) (v : Word) : Sys :=
  ((s.reqDrop (80 + p) ⟨.IOP_LINK_CTL, p, j⟩).put F.IOP_LINK_CTL_PWR_REQ (fget v 56 1) p j).linkPower p j (fget v 56 1 == 1)

theorem M.reqWrite_link (x : M) (secure : Bool) (kennel : Nat) (h : secure = true ∨ x.sys.holdCount (80 + p) = 0) :
    x.reqWrite ⟨.IOP_LINK_CTL, p, j⟩ v secure kennel = x.on (fun s => s.linkReq p j v) := by
  unfold M.reqWrite
  exact if_neg (by rcases h with h | h <;> simp [h])

theorem Sys.reqDrop_frame (st : Nat) (k : RK) : s.Frame (s.reqDrop st k) (fun k => k.reg == .PWR_SHOLD) [.pwr] :=
  (Sys.Frame.set_pwr s _ rfl).trans (.put _ _ _ _ _ rfl)

theorem linkReg_of {k : RK} (h : linkCtlReg p j k = true ∨ k.reg = .PWR_SHOLD) : linkReg p j k = true := by
  rcases h with h | h
  · simp only [linkCtlReg, wireReg, Bool.or_eq_true, beq_iff_eq] at h
    unfold linkReg
    rcases h with (h | h) | h | h
    · rw [h]
      simp
    · rw [h]
      simp
    · rw [h]
      simp
    · rw [h]
      simp
  · unfold linkReg
    rw [h]
    simp

/-- What a request finds before the link follows. -/
def Sys.linkAsked (s : Sys) (p j : Nat) (v : Word) : Sys := (s.reqDrop (80 + p) ⟨.IOP_LINK_CTL, p, j⟩).put F.IOP_LINK_CTL_PWR_REQ (fget v 56 1) p j

theorem Sys.linkAsked_frame : Sys.FrameLink p j s (s.linkAsked p j v) (linkReg p j) [.pwr, .icn] := by
  have hput (u : Sys) : Sys.FrameLink p j u (u.put F.IOP_LINK_CTL_PWR_REQ (fget v 56 1) p j) (linkReg p j) [.pwr, .icn] := .put u _ _ p j (by simp [linkReg])
  refine Sys.FrameAt.trans (Sys.FrameLink.of_frame ((s.reqDrop_frame (80 + p) ⟨.IOP_LINK_CTL, p, j⟩).mono (fun k hk => ?_) (by decide)) rfl) (hput _)
  exact linkReg_of p j (.inr (beq_iff_eq.mp hk))

theorem Sys.linkAsked_status (f : Fld) (hf : f.reg = .IOP_LINK_STATUS) : (s.linkAsked p j v).rf f p j = s.rf f p j :=
  (Sys.rf_put_reg _ F.IOP_LINK_CTL_PWR_REQ f _ _ _ _ _ (by rw [hf]; decide)).trans ((s.reqDrop_frame (80 + p) ⟨.IOP_LINK_CTL, p, j⟩).rf f p j (by rw [hf]; rfl))

theorem Sys.linkAsked_req : (s.linkAsked p j v).rf F.IOP_LINK_CTL_PWR_REQ p j = fget v 56 1 :=
  (Sys.rf_put_self _ _ _ _ _ (by decide)).trans (fget_mod ..)

theorem Sys.linkAsked_ctl (f : Fld) (hf : f.reg = .IOP_LINK_CTL) (hb : 57 ≤ f.lo ∧ f.lo + f.wd ≤ 64) : (s.linkAsked p j v).rf f p j = s.rf f p j :=
  (Sys.rf_put_bits _ F.IOP_LINK_CTL_PWR_REQ f _ _ _ _ _ ⟨hb.2, .inl hb.1⟩).trans ((s.reqDrop_frame (80 + p) ⟨.IOP_LINK_CTL, p, j⟩).rf f p j (by rw [hf]; rfl))

/-- The link as a request for power leaves it: out of OFF it comes to RESET. -/
theorem Sys.linkReq_on (hv : fget v 56 1 = 0) : s.linkReq p j v =
    ((s.linkAsked p j v).onLink p j (fun l => { l with off := false })).when (s.lkState p j == lkOff && s.role p != 0) (fun s => s.lkTo p j lkReset) := by
  unfold Sys.linkReq
  have hst : (s.linkAsked p j v).lkState p j = s.lkState p j := s.linkAsked_status p j v F.IOP_LINK_STATUS_STATE rfl
  have hfalse : (fget v 56 1 == 1) = false := by rw [hv]; rfl
  rw [hfalse]
  refine (Sys.linkPower_on ..).trans ?_
  rw [← hst]
  rfl

/-- The link as a request for no power leaves it. -/
theorem Sys.linkReq_off (hv : fget v 56 1 = 1) (hh : s.lkState p j ≠ lkHeel) (ho : s.lkState p j ≠ lkOff) :
    s.linkReq p j v = ((s.linkAsked p j v).onLink p j (fun l => { l with off := true })).linkOff p j := by
  have hst : (s.linkAsked p j v).lkState p j = s.lkState p j := s.linkAsked_status p j v F.IOP_LINK_STATUS_STATE rfl
  have htrue : (fget v 56 1 == 1) = true := by rw [hv]; rfl
  unfold Sys.linkReq
  rw [htrue]
  exact Sys.linkPower_off _ p j (by rwa [← hst] at hh) (by rwa [← hst] at ho)

end

end Sys2Proof.Machine
end

section
/-!
PROOFS. The states of a link (R465 to R469).
-/
namespace Sys2Proof.Machine

/-! ## Writes of IOP_LINK_CTL that take effect -/

section
variable {s t : Sys} {p j : Nat} {v : Word}

/-- What a write of IOP_LINK_CTL does whose power request is applied. -/
def Sys.linkWrite (s : Sys) (p j : Nat) (v : Word) : Sys := (s.linkReq p j v).linkCtlWrite p j v

theorem Sys.role_of_conf (h : t.conf = s.conf) (p : Nat) : t.role p = s.role p := by
  unfold Sys.role
  rw [h]

theorem Sys.ctlTrains_of (hc : t.conf = s.conf) (hs : t.lkState p j = s.lkState p j) : t.ctlTrains p j v = s.ctlTrains p j v := by
  unfold Sys.ctlTrains Sys.isRoot Sys.hasLink Sys.role
  rw [hc, hs]

theorem Sys.linkWrite_frame (hv : fget v 56 1 = 0) : Sys.FrameLink p j s (s.linkWrite p j v) (linkReg p j) [.pwr, .icn] := by
  have hctl : Sys.FrameLink p j (s.linkReq p j v) (s.linkWrite p j v) (linkReg p j) [.pwr, .icn] :=
    (Sys.linkCtlWrite_frame _ p j v).mono (fun k hk => linkReg_of p j (.inl hk)) (by decide)
  refine Sys.FrameAt.trans ?_ hctl
  rw [s.linkReq_on p j v hv]
  refine Sys.FrameAt.trans (Sys.FrameAt.trans (s.linkAsked_frame p j v) (Sys.FrameLink.onLink _ _)) (.when _ _ _ fun _ => ?_)
  exact Sys.FrameLink.put _ _ _ _ _ (by simp [linkReg])

theorem Sys.linkReq_link (hv : fget v 56 1 = 0) : (s.linkReq p j v).link p j = { s.link p j with off := false } := by
  rw [s.linkReq_on p j v hv]
  have hwhen (u : Sys) (c : Bool) : (u.when c (fun s => s.lkTo p j lkReset)).link p j = u.link p j := by cases c <;> rfl
  rw [hwhen, Sys.link_onLink_self]
  rfl

theorem Sys.linkWrite_link (hv : fget v 56 1 = 0) : (s.linkWrite p j v).link p j = { s.link p j with off := false, perst := fget v 61 1 == 0 } := by
  refine (Sys.linkCtlWrite_link _ p j v).trans ?_
  rw [Sys.linkReq_link hv]

/-- Out of OFF the write only trains the link. -/
theorem Sys.linkWrite_state (hv : fget v 56 1 = 0) (ho : s.lkState p j ≠ lkOff) :
    (s.linkWrite p j v).lkState p j = if s.ctlTrains p j v then lkTraining else s.lkState p j := by
  have hreq : s.linkReq p j v = (s.linkAsked p j v).onLink p j (fun l => { l with off := false }) := by
    rw [s.linkReq_on p j v hv, beq_eq_false_iff_ne.mpr ho]
    rfl
  have hst : (s.linkReq p j v).lkState p j = s.lkState p j := by
    rw [hreq]
    exact s.linkAsked_status p j v F.IOP_LINK_STATUS_STATE rfl
  have hconf : (s.linkReq p j v).conf = s.conf := by
    rw [hreq]
    exact ((s.linkAsked_frame p j v).1.2 .conf rfl : (s.linkAsked p j v).conf = s.conf)
  refine (Sys.linkCtlWrite_state _ p j v).trans ?_
  rw [Sys.ctlTrains_of hconf hst, hst]

/-- A link in OFF comes to RESET. -/
theorem Sys.linkWrite_fromOff (hv : fget v 56 1 = 0) (ho : s.lkState p j = lkOff) (hr : s.role p ≠ 0) (hu : fget v 61 3 = 0) :
    (s.linkWrite p j v).lkState p j = lkReset := by
  have hst : (s.linkReq p j v).lkState p j = lkReset := by
    have hout : (lkOff == lkOff && true) = true := rfl
    rw [s.linkReq_on p j v hv, ho, bne_iff_ne.mpr hr, hout, Sys.when_true]
    exact Sys.rf_put_self _ F.IOP_LINK_STATUS_STATE lkReset p j (by decide)
  have hbit : fget v 61 1 = 0 := by
    rw [fget_eq_div] at hu ⊢
    omega
  have hnone : (s.linkReq p j v).ctlTrains p j v = false := by
    unfold Sys.ctlTrains
    rw [hst, hbit]
    simp [lkReset, lkDown, lkContained]
  refine (Sys.linkCtlWrite_state _ p j v).trans ?_
  rw [hnone, hst]
  rfl

/-- The fields of IOP_LINK_CTL above PERST_REL's are kept, and PWR_REQ shows the request. -/
theorem Sys.linkWrite_ctl (hv : fget v 56 1 = 0) : (s.linkWrite p j v).rf F.IOP_LINK_CTL_PERST_REL p j = fget v 61 1 ∧
    (s.linkWrite p j v).rf F.IOP_LINK_CTL_RETRAIN p j = s.rf F.IOP_LINK_CTL_RETRAIN p j ∧ (s.linkWrite p j v).rf F.IOP_LINK_CTL_PWR_REQ p j = 0 := by
  have hreq (f : Fld) (hf : f.reg = .IOP_LINK_CTL) : (s.linkReq p j v).rf f p j = (s.linkAsked p j v).rf f p j := by
    rw [s.linkReq_on p j v hv, Sys.rf_when]
    split
    · exact Sys.rf_put_reg _ F.IOP_LINK_STATUS_STATE f _ _ _ _ _ (by rw [hf]; decide)
    · rfl
  have hctl (f : Fld) (hf : f.reg = .IOP_LINK_CTL) := (s.linkReq p j v).linkCtlWrite_ctl p j v f hf
  refine ⟨(hctl _ rfl).trans (Sys.ctlFields_perst ..), ?_, ?_⟩
  · refine (hctl _ rfl).trans ((Sys.ctlFields_other _ _ _ _ _ (by decide)).trans ((hreq _ rfl).trans ?_))
    exact s.linkAsked_ctl p j v F.IOP_LINK_CTL_RETRAIN rfl (by decide)
  · exact (hctl _ rfl).trans ((Sys.ctlFields_other _ _ _ _ _ (by decide)).trans ((hreq _ rfl).trans ((s.linkAsked_req p j v).trans hv)))

/-- What a write that powers the link off changes. -/
theorem Sys.linkWriteOff (hv : fget v 56 1 = 1) (hh : s.lkState p j ≠ lkHeel) (ho : s.lkState p j ≠ lkOff) (hu : fget v 61 3 = 1) :
    Sys.FrameLink p j s (s.linkWrite p j v) (fun k => linkReg p j k || epReg p k) [.pwr, .icn] ∧ (s.linkWrite p j v).lkState p j = lkOff ∧
    (s.linkWrite p j v).rf F.IOP_LINK_CTL_PWR_REQ p j = 1 ∧ ((s.linkWrite p j v).link p j).off = true ∧ ((s.linkWrite p j v).link p j).wires = 0 ∧
    (s.linkWrite p j v).rf F.IOP_LINK_STATUS_SPEED p j = 0 ∧ (s.linkWrite p j v).rf F.IOP_LINK_STATUS_WIDTH p j = 0 := by
  have hreq := s.linkReq_off p j v hv hh ho
  obtain ⟨hst, hspeed, hwidth⟩ := ((s.linkAsked p j v).onLink p j (fun l => { l with off := true })).linkOff_shows p j
  have hlink := ((s.linkAsked p j v).onLink p j (fun l => { l with off := true })).link_linkOff p j
  have hframe := ((s.linkAsked p j v).onLink p j (fun l => { l with off := true })).linkOff_frame p j
  rw [← hreq] at hst hspeed hwidth hlink hframe
  rw [Sys.link_onLink_self] at hlink
  have hself := (s.linkReq p j v).linkCtlWrite_link p j v
  rw [hlink] at hself
  have hbits : fget v 62 1 = 0 ∧ fget v 63 1 = 0 := by
    simp only [fget_eq_div] at hu ⊢
    omega
  have hnone : (s.linkReq p j v).ctlTrains p j v = false := by
    unfold Sys.ctlTrains
    rw [hst, hbits.1, hbits.2]
    simp [lkReset, lkOff]
  refine ⟨?_, ?_, ?_, congrArg LinkSt.off hself, congrArg LinkSt.wires hself, (Sys.linkCtlWrite_status _ p j v F.IOP_LINK_STATUS_SPEED rfl (by decide)).trans hspeed,
    (Sys.linkCtlWrite_status _ p j v F.IOP_LINK_STATUS_WIDTH rfl (by decide)).trans hwidth⟩
  · refine Sys.FrameAt.trans (t := s.linkReq p j v) (Sys.FrameAt.trans (t := (s.linkAsked p j v).onLink p j (fun l => { l with off := true })) ?_ ?_) ?_
    · exact (Sys.FrameAt.trans (s.linkAsked_frame p j v) (Sys.FrameLink.onLink _ _)).mono (fun k hk => by simp [hk]) (List.Subset.refl _)
    · refine hframe.mono (fun k hk => ?_) (by decide)
      simp only [powerReg, Bool.or_eq_true] at hk ⊢
      rcases hk with (hk | hk) | hk
      · exact .inl (linkReg_of p j (.inl (by simp [linkCtlReg, hk])))
      · exact .inl (linkReg_of p j (.inl (by rw [linkCtlReg, Bool.or_eq_true]; exact .inr (by simpa [wireReg] using hk))))
      · exact .inr hk
    · exact (Sys.linkCtlWrite_frame _ p j v).mono (fun k hk => by rw [linkReg_of p j (.inl hk)]; rfl) (by decide)
  · refine (Sys.linkCtlWrite_state _ p j v).trans ?_
    rw [hnone, hst]
    rfl
  · refine (Sys.linkCtlWrite_ctl _ p j v F.IOP_LINK_CTL_PWR_REQ rfl).trans ((Sys.ctlFields_other _ _ _ _ _ (by decide)).trans ?_)
    rw [hreq]
    refine Eq.trans ?_ ((s.linkAsked_req p j v).trans hv)
    exact (Sys.linkOff_frame _ p j).1.rf F.IOP_LINK_CTL_PWR_REQ p j (by simp [powerReg, wireReg, lineReg, epReg, oneReg])

end

/-- A write of IOP_LINK_CTL that takes effect, from world S or with no hold count. -/
theorem State.Takes.linkCtl {s : State} {c : Instr} {req : Requester} {p : Fin 8} {j : Fin 4} {w : Word} {q : State → Prop} (ht : s.Takes c)
    (ha : Instr.access c = some ⟨req, ⟨.IOP_LINK_CTL, p, j⟩, some w, none⟩) (hc : exec c s = onM (fun x => x.rowWrite req ⟨.IOP_LINK_CTL, p, j⟩ w none) s)
    (hold : (s.sys.whoIs req).1.secure = true ∨ s.sys.holdCount (80 + p.val) = 0)
    (hq : ∀ t, s.sys.Touched t → q (s.withSys ((t.linkWrite p j w).answer (.done 0)))) : Completes c s q := by
  refine ht.completes (fun t => t.linkWrite p j w) ha hc (fun _ => rfl) (fun t h => ?_) hq
  have ho : s.sys.offsetOf ⟨.IOP_LINK_CTL, p, j⟩ = 0x3000100 + p * 0x40000 + j * 0x40 := rfl
  have hheld : (s.sys.whoIs req).1.secure = true ∨ t.holdCount (80 + p.val) = 0 := hold.imp_right fun hz => (h.rf F.PWR_SHOLD_COUNT _ 0 (by decide)).trans hz
  rw [ho]
  refine (M.regWrite_device _ _ _ _ rfl (by omega)).trans ?_
  have hreq := M.reqWrite_link p j w ⟨s.mem, t, []⟩ (s.sys.whoIs req).1.secure (s.sys.whoIs req).1.kennel hheld
  exact congrArg (fun x : M => x.on (fun s => s.linkCtlWrite p j w)) hreq

end Sys2Proof.Machine
end

section
/-!
PROOFS. What happens to a link: it comes up, is lost, sleeps and wakes (R465, R467 to R469).
-/
namespace Sys2Proof.Machine

/-! ## A link that comes up -/

section
variable {p : Nat} {s t u : Sys}

/-- What an endpoint's signals to the host change: the registers that show them, and the link when it leaves L1. -/
abbrev signalReg (p : Nat) (k : RK) : Bool := oneReg p [.IOP_EP_STATUS, .IOP_EP_INTX, .IOP_EP_MSI] k || k == ⟨.IOP_LINK_STATUS, p, 0⟩

/-- A change by an endpoint's signals: links that are UP stay so, and show what they showed. -/
def Sys.Signals (p : Nat) (s t : Sys) : Prop :=
  Sys.FrameLink p 0 s t (signalReg p) [] ∧ (∀ (f : Fld) (j : Nat), f.reg = .IOP_LINK_STATUS → 4 ≤ f.lo → f.lo + f.wd ≤ 64 → t.rf f p j = s.rf f p j) ∧
  (∀ j, s.lkState p j = lkUp → t.lkState p j = lkUp) ∧ t.rf F.IOP_EP_STATUS_LINK_UP p = s.rf F.IOP_EP_STATUS_LINK_UP p

theorem Sys.Signals.refl (s : Sys) : s.Signals p s := ⟨.refl s, fun _ _ _ _ _ => rfl, fun _ h => h, rfl⟩

theorem Sys.Signals.trans (h : Sys.Signals p s t) (g : Sys.Signals p t u) : Sys.Signals p s u :=
  ⟨h.1.trans g.1, fun f j hf hl hw => (g.2.1 f j hf hl hw).trans (h.2.1 f j hf hl hw), fun j hj => g.2.2.1 j (h.2.2.1 j hj), g.2.2.2.trans h.2.2.2⟩

theorem Sys.Signals.ite {c : Prop} [Decidable c] (ht : Sys.Signals p s t) (hu : Sys.Signals p s u) : Sys.Signals p s (if c then t else u) := by
  split
  · exact ht
  · exact hu

theorem Sys.Signals.foldl {β : Type} (l : List β) (f : Sys → β → Sys) (h : ∀ s b, Sys.Signals p s (f s b)) (s : Sys) : Sys.Signals p s (l.foldl f s) := by
  induction l generalizing s with
  | nil => exact .refl s
  | cons b l ih => exact (h s b).trans (ih (f s b))

/-- A register of the endpoint that shows no link. -/
theorem Sys.Signals.put (s : Sys) (f : Fld) (v : Nat) (hf : f.reg = .IOP_EP_INTX ∨ f.reg = .IOP_EP_MSI) : Sys.Signals p s (s.put f v p) := by
  have hne {g : Fld} (hg : g.reg = .IOP_LINK_STATUS ∨ g.reg = .IOP_EP_STATUS) (j : Nat) : (s.put f v p).rf g p j = s.rf g p j :=
    Sys.rf_put_reg _ f g _ _ _ _ _ (by rcases hf with hf | hf <;> rcases hg with hg | hg <;> rw [hf, hg] <;> decide)
  exact ⟨.put s f v p 0 (by rcases hf with hf | hf <;> simp [signalReg, oneReg, hf]), fun g j hg _ _ => hne (.inl hg) j, fun j hj => (hne (.inl rfl) j).trans hj, hne (.inr rfl) 0⟩

theorem Sys.Signals.lkSend (s : Sys) (x : Tlp) : Sys.Signals p s (s.lkSend p 0 x) := by
  have hsent : Sys.Signals p s (s.onLink p 0 (fun l => { l with tx := x })) := ⟨Sys.FrameLink.onLink s _, fun _ _ _ _ _ => rfl, fun _ h => h, rfl⟩
  have hto : s.lkSend p 0 x = (s.onLink p 0 (fun l => { l with tx := x })).when (s.lkState p 0 == lkL1) (fun s => s.lkTo p 0 lkUp) := rfl
  rw [hto]
  refine hsent.trans ?_
  generalize s.onLink p 0 (fun l => { l with tx := x }) = u
  cases s.lkState p 0 == lkL1 with
  | false => exact .refl u
  | true =>
    refine ⟨Sys.FrameLink.put (but := signalReg p) u F.IOP_LINK_STATUS_STATE lkUp p 0 (by simp), fun f j hf hl hw => ?_, fun j hj => ?_, ?_⟩
    · exact Sys.rf_put_bits u F.IOP_LINK_STATUS_STATE f _ _ _ _ _ ⟨hw, .inl hl⟩
    · by_cases h0 : j = 0
      · rw [h0]
        exact Sys.rf_put_self u F.IOP_LINK_STATUS_STATE lkUp p 0 (by decide)
      · exact (Sys.rf_put_other u F.IOP_LINK_STATUS_STATE F.IOP_LINK_STATUS_STATE lkUp p 0 p j (.inl fun e => h0 (RK.mk.inj e).2.2.symm)).trans hj
    · exact Sys.rf_put_reg u F.IOP_LINK_STATUS_STATE F.IOP_EP_STATUS_LINK_UP _ _ _ _ _ (by decide)

theorem Sys.Signals.epIntx (s : Sys) : Sys.Signals p s (s.epIntx p) :=
  .ite ((Sys.Signals.put s F.IOP_EP_INTX_SENT _ (.inl rfl)).trans (.lkSend _ _)) (.refl s)

theorem Sys.Signals.epMsi (s : Sys) : Sys.Signals p s (s.epMsi p) := by
  refine .ite (.foldl _ _ (fun s v => ?_) s) (.refl s)
  exact .ite ((Sys.Signals.put s F.IOP_EP_MSI_PENDING _ (.inr rfl)).trans (.lkSend _ _)) (.refl s)

end

section
variable (s : Sys) (p j speed width : Nat) (cxl : Bool)

/-- The link comes up at a speed and width. -/
def Sys.linkRaised (s : Sys) (p j speed width : Nat) (cxl : Bool) : Sys :=
  (((s.lkTo p j lkUp).put F.IOP_LINK_STATUS_SPEED speed p j).put F.IOP_LINK_STATUS_WIDTH width p j).put F.IOP_LINK_STATUS_CXL (b2n cxl) p j

theorem Sys.linkUpEvent_eq (hl : s.hasLink p j = true) (ht : s.lkState p j = lkTraining) (hh : s.heeled = false) : s.linkUpEvent p j speed width cxl =
    let u := s.linkRaised p j (min speed (s.conf.port p).maxGen) (min width (laneOf (s.conf.port p).bifurc j).2) (cxl && s.role p == 2)
    if s.isEp p then ((u.put F.IOP_EP_STATUS_LINK_UP 1 p).epIntx p).epMsi p else u :=
  if_pos (by simp [hl, ht, hh])

theorem Sys.linkRaised_frame {parts : List Part} : s.Frame (s.linkRaised p j speed width cxl) (lkReg p j) parts := by
  have hput (u : Sys) (f : Fld) (v : Nat) (hf : f.reg = .IOP_LINK_STATUS) : u.Frame (u.put f v p j) (lkReg p j) parts := .put u f v p j (by rw [hf]; simp [lkReg])
  exact (((hput _ _ _ rfl).trans (hput _ _ _ rfl)).trans (hput _ _ _ rfl)).trans (hput _ _ _ rfl)

theorem Sys.linkRaised_shows (hw : width < 32) : (s.linkRaised p j speed width cxl).lkState p j = lkUp ∧
    (s.linkRaised p j speed width cxl).rf F.IOP_LINK_STATUS_SPEED p j = speed % 8 ∧ (s.linkRaised p j speed width cxl).rf F.IOP_LINK_STATUS_WIDTH p j = width ∧
    (s.linkRaised p j speed width cxl).rf F.IOP_LINK_STATUS_CXL p j = b2n cxl := by
  unfold Sys.linkRaised Sys.lkState
  refine ⟨?_, ?_, ?_, ?_⟩
  · rw [Sys.rf_put_bits _ F.IOP_LINK_STATUS_CXL _ _ _ _ _ _ (by decide), Sys.rf_put_bits _ F.IOP_LINK_STATUS_WIDTH _ _ _ _ _ _ (by decide),
      Sys.rf_put_bits _ F.IOP_LINK_STATUS_SPEED _ _ _ _ _ _ (by decide)]
    exact Sys.rf_put_self _ _ _ _ _ (by decide)
  · rw [Sys.rf_put_bits _ F.IOP_LINK_STATUS_CXL _ _ _ _ _ _ (by decide), Sys.rf_put_bits _ F.IOP_LINK_STATUS_WIDTH _ _ _ _ _ _ (by decide)]
    exact Sys.rf_put_self _ _ _ _ _ (by decide)
  · rw [Sys.rf_put_bits _ F.IOP_LINK_STATUS_CXL _ _ _ _ _ _ (by decide)]
    exact (Sys.rf_put_self _ _ _ _ _ (by decide)).trans (Nat.mod_eq_of_lt hw)
  · exact (Sys.rf_put_self _ _ _ _ _ (by decide)).trans (Nat.mod_eq_of_lt (b2n_lt cxl))

end

/-! ## A link's log -/

section
variable (s : Sys) (p j c : Nat) (addr : Option Nat) (r : Nat)

/-- The address that a log records, or that it records none. -/
def Sys.logAddr (s : Sys) (p j : Nat) (addr : Option Nat) : Sys :=
  (s.put F.IOP_LINK_ERRADDR_ADDR ((addr.map (· / 4)).getD 0) p j).put F.IOP_LINK_ERRADDR_ADDR_VALID (b2n addr.isSome) p j

/-- A log takes an event. -/
def Sys.logTake (s : Sys) (p j c : Nat) (addr : Option Nat) (r : Nat) : Sys :=
  ((((s.put F.IOP_LINK_ERR_VALID 1 p j).put F.IOP_LINK_ERR_UE (b2n (some c != some 8)) p j).put F.IOP_LINK_ERR_REQ_ID r p j).put F.IOP_LINK_ERR_CAUSE c p j).logAddr p j addr

theorem Sys.linkLog_eq : s.linkLog p j (some c) addr r =
    if !s.on F.IOP_LINK_ERR_VALID p j || (some c != some 8 && !s.on F.IOP_LINK_ERR_UE p j) then (s.bump F.IOP_LINK_ERR_COUNT p j).logTake p j c addr r
    else if some c != some 8 then (s.bump F.IOP_LINK_ERR_COUNT p j).put F.IOP_LINK_ERR_OVERFLOW 1 p j else s.bump F.IOP_LINK_ERR_COUNT p j := by
  cases addr <;> rfl

/-- A free log takes the event. -/
theorem Sys.linkLog_free (hv : s.rf F.IOP_LINK_ERR_VALID p j = 0) : s.linkLog p j (some c) addr r = (s.bump F.IOP_LINK_ERR_COUNT p j).logTake p j c addr r := by
  have htake : s.on F.IOP_LINK_ERR_VALID p j = false := beq_eq_false_iff_ne.mpr (by rw [hv]; decide)
  rw [Sys.linkLog_eq, htake]
  rfl

theorem Sys.logAddr_err (f : Fld) (hf : f.reg = .IOP_LINK_ERR) : (s.logAddr p j addr).rf f p j = s.rf f p j :=
  (Sys.rf_put_reg _ F.IOP_LINK_ERRADDR_ADDR_VALID f _ _ _ _ _ (by rw [hf]; decide)).trans (Sys.rf_put_reg _ F.IOP_LINK_ERRADDR_ADDR f _ _ _ _ _ (by rw [hf]; decide))

theorem Sys.logTake_valid : (s.logTake p j c addr r).rf F.IOP_LINK_ERR_VALID p j = 1 := by
  unfold Sys.logTake
  rw [Sys.logAddr_err _ _ _ _ _ rfl, Sys.rf_put_bits _ F.IOP_LINK_ERR_CAUSE _ _ _ _ _ _ (by decide), Sys.rf_put_bits _ F.IOP_LINK_ERR_REQ_ID _ _ _ _ _ _ (by decide),
    Sys.rf_put_bits _ F.IOP_LINK_ERR_UE _ _ _ _ _ _ (by decide)]
  exact Sys.rf_put_self _ _ _ _ _ (by decide)

theorem Sys.logTake_cause : (s.logTake p j c addr r).rf F.IOP_LINK_ERR_CAUSE p j = c % 32 := by
  unfold Sys.logTake
  rw [Sys.logAddr_err _ _ _ _ _ rfl]
  exact Sys.rf_put_self _ _ _ _ _ (by decide)

theorem Sys.logTake_addr (a : Nat) : (s.logTake p j c (some a) r).rf F.IOP_LINK_ERRADDR_ADDR p j = a / 4 % 2 ^ F.IOP_LINK_ERRADDR_ADDR.wd ∧
    (s.logTake p j c (some a) r).rf F.IOP_LINK_ERRADDR_ADDR_VALID p j = 1 := by
  refine ⟨?_, Sys.rf_put_self _ _ _ _ _ (by decide)⟩
  exact (Sys.rf_put_bits _ F.IOP_LINK_ERRADDR_ADDR_VALID _ _ _ _ _ _ (by decide)).trans (Sys.rf_put_self _ _ _ _ _ (by decide))

/-- An uncorrected event is valid in the log, whether it is the one that the log shows or not. -/
theorem Sys.linkLog_valid (hc : c ≠ 8) : (s.linkLog p j (some c) addr r).rf F.IOP_LINK_ERR_VALID p j = 1 := by
  have hue : (some c != some 8) = true := bne_iff_ne.mpr fun e => hc (Option.some.inj e)
  rw [Sys.linkLog_eq, if_pos hue]
  split
  · exact Sys.logTake_valid ..
  · next htaken =>
    have hvalid : s.rf F.IOP_LINK_ERR_VALID p j = 1 := by
      simp only [Bool.or_eq_true, Bool.not_eq_true', not_or, Bool.not_eq_false] at htaken
      exact eq_of_beq htaken.1
    rw [Sys.rf_put_bits _ F.IOP_LINK_ERR_OVERFLOW _ _ _ _ _ _ (by decide)]
    exact (Sys.rf_put_bits _ F.IOP_LINK_ERR_COUNT _ _ _ _ _ _ (by decide)).trans hvalid

theorem Sys.linkLog_cause (hv : s.rf F.IOP_LINK_ERR_VALID p j = 0) : (s.linkLog p j (some c) addr r).rf F.IOP_LINK_ERR_CAUSE p j = c % 32 := by
  rw [s.linkLog_free p j c addr r hv]
  exact Sys.logTake_cause ..

end

/-! ## A link that is lost -/

section
variable (s : Sys) (p j : Nat)

/-- A requester's outbound request ends with all ones or an error (R468). -/
def Sys.outLost (s : Sys) (o : OutReq) : Sys := match o.kind with | .mem => s.outEnd o 0 false true | _ => s.outEnd o (allOnes o.n) false false

theorem Sys.outAnswer_frame (w : Source) (pa n data : Nat) (poison err : Bool) {but : RK → Bool} {parts : List Part} (h : parts.contains .msgs = true) :
    s.Frame (s.outAnswer w pa n data poison err) but parts := by
  cases w <;> exact .set_msgs s _ h

/-- The end of a requester's own request answers it. -/
theorem Sys.outEnd_frame {o : OutReq} {w : Source} (ho : o.by_ = .src w) (data : Nat) (poison err : Bool) {but : RK → Bool} {parts : List Part}
    (h : parts.contains .msgs = true) : s.Frame (s.outEnd o data poison err) but parts := by
  unfold Sys.outEnd
  rw [ho]
  cases o.kind with
  | cfgWrite => cases w with
    | core c => exact .refl s
    | _ => exact s.outAnswer_frame _ _ _ _ _ _ h
  | _ => exact s.outAnswer_frame _ _ _ _ _ _ h

theorem Sys.outLost_frame {o : OutReq} {w : Source} (ho : o.by_ = .src w) {but : RK → Bool} : s.Frame (s.outLost o) but [.msgs] := by
  unfold Sys.outLost
  split
  · exact s.outEnd_frame ho _ _ _ rfl
  · exact s.outEnd_frame ho _ _ _ rfl

/-- The state in which the link's requests have ended. -/
def Sys.linkCut (s : Sys) (p j : Nat) : Sys := (s.onLink p j (fun l => { l with out := [], inq := l.inq.filter (fun r => r.kind.posted) })).each (s.link p j).out Sys.outLost

/-- The state in which the link shows nothing any more. -/
def Sys.linkBlank (s : Sys) (p j : Nat) : Sys :=
  let s := (s.put F.IOP_LINK_STATUS_SPEED 0 p j).put F.IOP_LINK_STATUS_WIDTH 0 p j
  let s := if s.isEp p then (s.put F.IOP_EP_STATUS_LINK_UP 0 p).put F.IOP_EP_INTX_SENT 0 p else s
  s.put F.IOP_LINK_STATUS_CXL 0 p j

theorem Sys.linkEnd_eq : s.linkEnd p j = (((s.linkCut p j).linkBlank p j).intxTo p j 0).showLink p j := rfl

/-- The registers that the end of a link's traffic changes. -/
abbrev endReg (p j : Nat) (k : RK) : Bool := k == ⟨.IOP_LINK_STATUS, p, j⟩ || wireReg p j k || epReg p k

variable (hsrc : ∀ o ∈ (s.link p j).out, ∃ w, o.by_ = .src w)

include hsrc in
theorem Sys.linkCut_frame {but : RK → Bool} : Sys.FrameLink p j s (s.linkCut p j) but [.msgs] :=
  Sys.FrameAt.trans (Sys.FrameLink.onLink s _) (.each _ _ _ fun t o ho => Sys.FrameLink.of_frame ((hsrc o ho).elim fun _ hw => t.outLost_frame hw) rfl)

include hsrc in
theorem Sys.linkCut_link : (s.linkCut p j).link p j = { s.link p j with out := [], inq := (s.link p j).inq.filter (fun r => r.kind.posted) } := by
  have heach : ((s.onLink p j (fun l => { l with out := [], inq := l.inq.filter (fun r => r.kind.posted) })).Frame (s.linkCut p j) (fun _ => false) [.msgs]) :=
    .each _ _ _ fun t o ho => (hsrc o ho).elim fun _ hw => t.outLost_frame hw
  exact (Sys.link_of_links (heach.2 .links rfl) p j).trans (s.link_onLink_self p j _)

theorem Sys.linkBlank_frame {parts : List Part} : s.Frame (s.linkBlank p j) (endReg p j) parts := by
  have hst (u : Sys) (f : Fld) (v : Nat) (hf : f.reg = .IOP_LINK_STATUS) : u.Frame (u.put f v p j) (endReg p j) parts :=
    .put u f v p j (by rw [hf]; simp [endReg])
  have hep (u : Sys) (f : Fld) (v : Nat) (hf : f.reg = .IOP_EP_STATUS ∨ f.reg = .IOP_EP_INTX) : u.Frame (u.put f v p) (endReg p j) parts :=
    .put u f v p 0 (by rcases hf with hf | hf <;> simp [endReg, epReg, oneReg, hf])
  refine Sys.Frame.trans (Sys.Frame.trans ((hst s F.IOP_LINK_STATUS_SPEED 0 rfl).trans (hst _ F.IOP_LINK_STATUS_WIDTH 0 rfl)) ?_) (hst _ F.IOP_LINK_STATUS_CXL 0 rfl)
  exact .ite (fun _ => (hep _ F.IOP_EP_STATUS_LINK_UP 0 (.inl rfl)).trans (hep _ F.IOP_EP_INTX_SENT 0 (.inr rfl))) fun _ => .refl _

theorem Sys.linkBlank_speed : (s.linkBlank p j).rf F.IOP_LINK_STATUS_SPEED p j = 0 := by
  have hep (u : Sys) : (if u.isEp p then (u.put F.IOP_EP_STATUS_LINK_UP 0 p).put F.IOP_EP_INTX_SENT 0 p else u).rf F.IOP_LINK_STATUS_SPEED p j =
      u.rf F.IOP_LINK_STATUS_SPEED p j := by
    split
    · exact (Sys.rf_put_reg _ F.IOP_EP_INTX_SENT _ _ _ _ _ _ (by decide)).trans (Sys.rf_put_reg _ F.IOP_EP_STATUS_LINK_UP _ _ _ _ _ _ (by decide))
    · rfl
  unfold Sys.linkBlank
  dsimp only
  rw [Sys.rf_put_bits _ F.IOP_LINK_STATUS_CXL _ _ _ _ _ _ (by decide), hep, Sys.rf_put_bits _ F.IOP_LINK_STATUS_WIDTH _ _ _ _ _ _ (by decide)]
  exact Sys.rf_put_self _ _ _ _ _ (by decide)

theorem Sys.link_linkBlank : (s.linkBlank p j).link p j = s.link p j := Sys.link_of_links ((s.linkBlank_frame p j (parts := [])).2 .links rfl) p j

include hsrc in
theorem Sys.linkEnd_frame : Sys.FrameLink p j s (s.linkEnd p j) (endReg p j) [.msgs, .icn] := by
  rw [Sys.linkEnd_eq]
  refine Sys.FrameAt.trans (Sys.FrameAt.trans (Sys.FrameAt.trans ((s.linkCut_frame p j hsrc).mono (fun _ h => h) (by decide))
    (Sys.FrameLink.of_frame (Sys.linkBlank_frame _ p j) rfl)) ((Sys.intxTo_frame _ p j 0).mono (fun k hk => ?_) (by decide))) ?_
  · simp only [endReg, Bool.or_eq_true] at hk ⊢
    exact .inl (.inr hk)
  · refine Sys.FrameLink.of_frame ((Sys.showLink_frame _ p j).regs_mono fun k hk => ?_) rfl
    rw [lkReg] at hk
    simp [endReg, hk]

include hsrc in
/-- What is left of the link: nothing outstanding, the posted requests, no wire, and what it shows. -/
theorem Sys.linkEnd_shows : (s.linkEnd p j).link p j = { s.link p j with out := [], inq := (s.link p j).inq.filter (fun r => r.kind.posted), wires := 0 } ∧
    (s.linkEnd p j).rf F.IOP_LINK_STATUS_SPEED p j = 0 ∧ (s.linkEnd p j).rf F.IOP_LINK_STATUS_OB_IDLE p j = 1 := by
  have hlink : (((s.linkCut p j).linkBlank p j).intxTo p j 0).link p j =
      { s.link p j with out := [], inq := (s.link p j).inq.filter (fun r => r.kind.posted), wires := 0 } := by
    rw [Sys.link_intxTo, Sys.link_linkBlank, s.linkCut_link p j hsrc]
  rw [Sys.linkEnd_eq]
  refine ⟨Eq.trans rfl hlink, ?_, ?_⟩
  · refine (Sys.rf_put_bits _ F.IOP_LINK_STATUS_OB_IDLE _ _ _ _ _ _ (by decide)).trans ((Sys.rf_put_bits _ F.IOP_LINK_STATUS_INB_IDLE _ _ _ _ _ _ (by decide)).trans ?_)
    exact (Sys.rf_intxTo _ p j 0 F.IOP_LINK_STATUS_SPEED p j (by simp [lineReg])).trans (Sys.linkBlank_speed _ p j)
  · refine (Sys.rf_put_self _ F.IOP_LINK_STATUS_OB_IDLE _ p j (by decide)).trans ?_
    have hout : ((((s.linkCut p j).linkBlank p j).intxTo p j 0).link p j).out = [] := congrArg LinkSt.out hlink
    rw [hout]
    rfl

/-- A link is lost: its traffic ends, it takes a state, and its log and source tell. -/
def Sys.linkDrop (s : Sys) (p j st c o : Nat) : Sys := (((s.linkEnd p j).lkTo p j st).linkLog p j (some c) none 0).raise (srcPort p o) j

theorem Sys.linkEvent_lost (dpc : Bool) (ev : LinkEvent) (hl : s.hasLink p j = true) (hh : s.heeled = false) (hu : s.linkUp p j = true)
    (hev : ev = .lost ∨ (dpc = true ∧ (ev = .fatal ∨ ev = .datapath))) :
    s.linkEvent p j ev dpc = s.linkDrop p j (if dpc then lkContained else lkDown) (if dpc then 9 else 10) (if dpc then 4 else 3) := by
  unfold Sys.linkEvent
  rw [hl, hh, if_neg (by decide)]
  dsimp only
  rw [hu]
  rcases hev with rfl | ⟨rfl, rfl | rfl⟩
  · cases dpc <;> rfl
  · rfl
  · rfl

include hsrc in
theorem Sys.linkDrop_shows (st c o : Nat) (hst : st < 16) (hc : c ≠ 8 ∧ c < 32) : (s.linkDrop p j st c o).lkState p j = st ∧
    (s.linkDrop p j st c o).link p j = { s.link p j with out := [], inq := (s.link p j).inq.filter (fun r => r.kind.posted), wires := 0 } ∧
    (s.linkDrop p j st c o).rf F.IOP_LINK_STATUS_SPEED p j = 0 ∧ (s.linkDrop p j st c o).rf F.IOP_LINK_STATUS_OB_IDLE p j = 1 ∧
    (s.linkDrop p j st c o).rf F.IOP_LINK_ERR_VALID p j = 1 ∧ (s.rf F.IOP_LINK_ERR_VALID p j = 0 → (s.linkDrop p j st c o).rf F.IOP_LINK_ERR_CAUSE p j = c) ∧
    (s.linkDrop p j st c o).fcr.events.contains ⟨srcPort p o, j⟩ = true ∧ (∀ q i, (q, i) ≠ (p, j) → (s.linkDrop p j st c o).link q i = s.link q i) := by
  obtain ⟨hlink, hspeed, hidle⟩ := s.linkEnd_shows p j hsrc
  have hend := s.linkEnd_frame p j hsrc
  have hlog := (((s.linkEnd p j).lkTo p j st).linkLog_frame p j (some c) none 0)
  have hlinks (q i : Nat) : (s.linkDrop p j st c o).link q i = (s.linkEnd p j).link q i := Sys.link_of_links (hlog.2 .links rfl) q i
  have hstatus (f : Fld) (hf : f.reg = .IOP_LINK_STATUS) : (s.linkDrop p j st c o).rf f p j = ((s.linkEnd p j).lkTo p j st).rf f p j :=
    hlog.rf f p j (by rw [hf]; simp [logReg])
  refine ⟨?_, (hlinks p j).trans hlink, ?_, ?_, Sys.linkLog_valid _ p j c none 0 hc.1, fun hv => ?_, ?_, fun q i hq => (hlinks q i).trans (hend.other q i hq)⟩
  · exact (hstatus F.IOP_LINK_STATUS_STATE rfl).trans ((Sys.rf_put_self _ _ _ _ _ (by decide)).trans (Nat.mod_eq_of_lt hst))
  · exact (hstatus F.IOP_LINK_STATUS_SPEED rfl).trans ((Sys.rf_put_bits _ F.IOP_LINK_STATUS_STATE _ _ _ _ _ _ (by decide)).trans hspeed)
  · exact (hstatus F.IOP_LINK_STATUS_OB_IDLE rfl).trans ((Sys.rf_put_bits _ F.IOP_LINK_STATUS_STATE _ _ _ _ _ _ (by decide)).trans hidle)
  · refine (Sys.linkLog_cause _ p j c none 0 ?_).trans (Nat.mod_eq_of_lt hc.2)
    refine (Sys.rf_put_reg _ F.IOP_LINK_STATUS_STATE _ _ _ _ _ _ (by decide)).trans ((hend.1.rf F.IOP_LINK_ERR_VALID p j ?_).trans hv)
    simp [endReg, wireReg, lineReg, epReg, oneReg]
  · exact List.contains_iff_mem.mpr (List.mem_append_right _ (List.mem_singleton_self _))

end

/-- The access's own status is among the registers that a write of IOP_LINK_CTL may change. -/
theorem linkReg_csStatus {p j : Nat} (k : RK) (h : csStatus k = true) : linkReg p j k = true := by
  simp only [csStatus] at h
  simp [linkReg, h]

/-- Settles O49. -/
theorem linkStates : Obligations.LinkStates := by
  refine ⟨?perst, ?retrain, ?dpc, ?off, ?on, ?up, ?lost, ?fatal, ?entry, ?exit, ?hot⟩
  case perst =>
    intro s req p j v ht hv hold hroot hlink hst
    refine ht.linkCtl rfl rfl hold fun t h => ?_
    have hoff : fget (fput v 61 1 1) 56 1 = 0 := (fget_fput_other _ _ _ _ _ _ (by decide) (by decide)).trans hv
    have hset : fget (fput v 61 1 1) 61 1 = 1 := fget_fput_same _ _ _ _ (by decide)
    have hts : t.lkState p j = lkReset := (h.rf F.IOP_LINK_STATUS_STATE _ _ (by decide)).trans hst
    have htrains : t.ctlTrains p j (fput v 61 1 1) = true := by
      have hconf : t.conf = s.sys.conf := h.part .conf rfl
      have hr : t.isRoot p = true := by rw [← hroot]; unfold Sys.isRoot Sys.role; rw [hconf]
      have hh : t.hasLink p j = true := by rw [← hlink]; unfold Sys.hasLink Sys.role; rw [hconf]
      unfold Sys.ctlTrains
      rw [hr, hh, hts, hset]
      rfl
    have hstate := t.linkWrite_state (v := fput v 61 1 1) hoff (by rw [hts]; decide)
    rw [htrains] at hstate
    refine ⟨hstate, (Sys.linkWrite_ctl hoff).1.trans hset, ?_,
      State.onlyLink_withSys (h.link ((Sys.linkWrite_frame hoff).mono (fun _ h => h) (by decide)) linkReg_csStatus (by decide))⟩
    refine (congrArg LinkSt.perst (t.linkWrite_link hoff)).trans ?_
    rw [hset]
    rfl
  case retrain =>
    intro s req p j v ht hv hold hst
    refine ht.linkCtl rfl rfl hold fun t h => ?_
    have hoff : fget (fput v 63 1 1) 56 1 = 0 := (fget_fput_other _ _ _ _ _ _ (by decide) (by decide)).trans hv
    have hset : fget (fput v 63 1 1) 63 1 = 1 := fget_fput_same _ _ _ _ (by decide)
    have hts : t.lkState p j = lkDown := (h.rf F.IOP_LINK_STATUS_STATE _ _ (by decide)).trans hst
    have htrains : t.ctlTrains p j (fput v 63 1 1) = true := by simp [Sys.ctlTrains, hts, hset]
    have hstate := t.linkWrite_state (v := fput v 63 1 1) hoff (by rw [hts]; decide)
    rw [htrains] at hstate
    exact ⟨hstate, (Sys.linkWrite_ctl hoff).2.1.trans (h.rf _ _ _ (by decide)),
      State.onlyLink_withSys (h.link ((Sys.linkWrite_frame hoff).mono (fun _ h => h) (by decide)) linkReg_csStatus (by decide))⟩
  case dpc =>
    intro s req p j v ht hv hold hst
    refine ht.linkCtl rfl rfl hold fun t h => ?_
    have hoff : fget (fput v 62 1 1) 56 1 = 0 := (fget_fput_other _ _ _ _ _ _ (by decide) (by decide)).trans hv
    have hset : fget (fput v 62 1 1) 62 1 = 1 := fget_fput_same _ _ _ _ (by decide)
    have hts : t.lkState p j = lkContained := (h.rf F.IOP_LINK_STATUS_STATE _ _ (by decide)).trans hst
    have htrains : t.ctlTrains p j (fput v 62 1 1) = true := by simp [Sys.ctlTrains, hts, hset]
    have hstate := t.linkWrite_state (v := fput v 62 1 1) hoff (by rw [hts]; decide)
    rw [htrains] at hstate
    exact ⟨hstate, State.onlyLink_withSys (h.link ((Sys.linkWrite_frame hoff).mono (fun _ h => h) (by decide)) linkReg_csStatus (by decide))⟩
  case off =>
    intro s req p j v ht hold hv hheel hnot hu
    refine ht.linkCtl rfl rfl hold fun t h => ?_
    have hts : t.lkState p j = s.sys.lkState p j := h.rf F.IOP_LINK_STATUS_STATE _ _ (by decide)
    obtain ⟨hframe, hstate, hreq, hoff, hwires, hspeed, hwidth⟩ := t.linkWriteOff (p := p.val) (j := j.val) hv (by rwa [hts]) (by rwa [hts]) hu
    refine ⟨hstate, hreq, hoff, hwires, hspeed, hwidth, State.onlyLink_withSys (h.link (hframe.mono (fun _ h => h) (by decide)) (fun k hk => ?_) (by decide))⟩
    rw [linkReg_csStatus k hk]
    rfl
  case on =>
    intro s req p j v ht hold hv hu hst hrole
    refine ht.linkCtl rfl rfl hold fun t h => ?_
    have hts : t.lkState p j = lkOff := (h.rf F.IOP_LINK_STATUS_STATE _ _ (by decide)).trans hst
    have hr : t.role p ≠ 0 := by rwa [Sys.role_of_conf (h.part .conf rfl)]
    exact ⟨Sys.linkWrite_fromOff hv hts hr hu, (Sys.linkWrite_ctl hv).2.2, congrArg LinkSt.off (Sys.linkWrite_link hv),
      State.onlyLink_withSys (h.link ((Sys.linkWrite_frame hv).mono (fun _ h => h) (by decide)) linkReg_csStatus (by decide))⟩
  case up =>
    intro s p j speed width cxl hl hlink hst hheel
    refine completes_onSys _ _ s _ hl rfl ?_
    rw [s.sys.linkUpEvent_eq p j speed width cxl hlink hst hheel, State.withSys_sys]
    dsimp only
    have hwidth : min width.val (laneOf (s.sys.conf.port p).bifurc j).2 < 32 := by omega
    obtain ⟨hup, hspeed, hw, hcxl⟩ := s.sys.linkRaised_shows p j (min speed (s.sys.conf.port p).maxGen) (min width.val (laneOf (s.sys.conf.port p).bifurc j).2)
      (cxl && s.sys.role p == 2) hwidth
    have hframe := s.sys.linkRaised_frame p j (min speed (s.sys.conf.port p).maxGen) (min width.val (laneOf (s.sys.conf.port p).bifurc j).2)
      (cxl && s.sys.role p == 2) (parts := [])
    generalize s.sys.linkRaised p j (min speed (s.sys.conf.port p).maxGen) (min width.val (laneOf (s.sys.conf.port p).bifurc j).2) (cxl && s.sys.role p == 2) = u at *
    by_cases hep : s.sys.isEp p = true
    · rw [if_pos hep, hep]
      have hshow : Sys.FrameLink p 0 u (u.put F.IOP_EP_STATUS_LINK_UP 1 p) (signalReg p) [] := .put u _ _ _ _ (by simp [oneReg])
      have hother (f : Fld) (hf : f.reg = .IOP_LINK_STATUS) (i : Nat) : (u.put F.IOP_EP_STATUS_LINK_UP 1 p).rf f p i = u.rf f p i :=
        Sys.rf_put_reg u F.IOP_EP_STATUS_LINK_UP f _ _ _ _ _ (by rw [hf]; decide)
      have hone : (u.put F.IOP_EP_STATUS_LINK_UP 1 p).rf F.IOP_EP_STATUS_LINK_UP p = 1 := Sys.rf_put_self _ _ _ _ _ (by decide)
      obtain ⟨hsig, hkept, hstays, hshown⟩ := (Sys.Signals.epIntx (p := p) (u.put F.IOP_EP_STATUS_LINK_UP 1 p)).trans (.epMsi _)
      have hfield (f : Fld) (hf : f.reg = .IOP_LINK_STATUS) (h4 : 4 ≤ f.lo) (h64 : f.lo + f.wd ≤ 64) := (hkept f j hf h4 h64).trans (hother f hf j)
      refine ⟨hstays j ((hother F.IOP_LINK_STATUS_STATE rfl j).trans hup), (hfield F.IOP_LINK_STATUS_SPEED rfl (by decide) (by decide)).trans hspeed,
        (hfield F.IOP_LINK_STATUS_WIDTH rfl (by decide) (by decide)).trans hw, (hfield F.IOP_LINK_STATUS_CXL rfl (by decide) (by decide)).trans hcxl,
        fun _ => hshown.trans hone, State.onlyLink_withSys (Sys.FrameAt.trans (t := u) ?_ ((Sys.FrameAt.trans hshow hsig).mono (fun k hk => ?_) (by decide)))⟩
      · exact Sys.FrameLink.of_frame (hframe.regs_mono fun k hk => by rw [lkReg] at hk; simp [hk]) rfl
      · exact Bool.or_eq_true_iff.mpr (.inr hk)
    · have hnot := Bool.eq_false_of_not_eq_true hep
      rw [if_neg hep, hnot]
      refine ⟨hup, hspeed, hw, hcxl, fun h => absurd h Bool.false_ne_true, State.onlyLink_withSys (Sys.FrameLink.of_frame (hframe.regs_mono fun k hk => ?_) rfl)⟩
      rw [lkReg] at hk
      simp [hk]
  case lost =>
    intro s p j ev dpc hl hlink hheel hup hev hsrcs
    have hsrc : ∀ o ∈ (s.sys.link p j).out, ∃ w, o.by_ = .src w := fun o ho => by
      have hby := List.all_eq_true.mp hsrcs o ho
      cases hw : o.by_ with
      | src w => exact ⟨w, rfl⟩
      | peer q k i => rw [hw] at hby; exact absurd hby Bool.false_ne_true
    refine completes_onSys _ _ s _ hl rfl ?_
    rw [s.sys.linkEvent_lost p j dpc ev hlink hheel hup hev, State.withSys_sys]
    obtain ⟨hst, hself, hspeed, hidle, hvalid, hcause, hevent, hothers⟩ := s.sys.linkDrop_shows p j hsrc (if dpc then lkContained else lkDown) (if dpc then 9 else 10)
      (if dpc then 4 else 3) (by cases dpc <;> decide) (by cases dpc <;> decide)
    exact ⟨hst, congrArg LinkSt.out hself, congrArg LinkSt.wires hself, congrArg LinkSt.inq hself, hspeed, hidle, hvalid, hcause, hevent, hothers⟩
  case fatal =>
    intro s p j hl hlink hheel hup
    refine completes_onSys _ _ s _ hl rfl ?_
    have hto : s.sys.linkEvent p j .fatal false = s.sys.raise (srcPort p 2) j := by
      unfold Sys.linkEvent
      rw [hlink, hheel, if_neg (by decide)]
      dsimp only
      rw [hup]
      rfl
    rw [hto, State.withSys_sys]
    exact ⟨rfl, List.contains_iff_mem.mpr (List.mem_append_right _ (List.mem_singleton_self _)), State.only_withSys (.raise _ _ _ rfl)⟩
  case entry =>
    intro s p j hl hst hidle hout hinq
    refine completes_onSys _ _ s _ hl rfl ?_
    have hto : s.sys.l1Entry p j = s.sys.lkTo p j lkL1 := if_pos (by simp [hst, hidle, hout, hinq])
    rw [hto, State.withSys_sys]
    exact ⟨Sys.rf_put_self _ _ _ _ _ (by decide), State.only_withSys (Sys.lkTo_frame ..)⟩
  case exit =>
    intro s p j hl hst
    refine completes_onSys _ _ s _ hl rfl ?_
    have hto : s.sys.l1Exit p j = s.sys.lkTo p j lkUp := if_pos hst
    rw [hto, State.withSys_sys]
    exact ⟨Sys.rf_put_self _ _ _ _ _ (by decide), State.only_withSys (Sys.lkTo_frame ..)⟩
  case hot =>
    intro s p j hl hr
    refine completes_onSys _ _ s _ hl rfl ?_
    have hto : s.sys.hotResetEnd p j = (s.sys.onLink p j (fun l => { l with reset := .none, perst := false })).lkTo p j lkTraining := if_pos hr
    rw [hto, State.withSys_sys]
    refine ⟨Sys.rf_put_self _ _ _ _ _ (by decide), s.sys.link_onLink_self p j (fun l => { l with reset := .none, perst := false }), State.onlyLink_withSys 
      (Sys.FrameAt.trans (Sys.FrameLink.onLink s.sys (fun l => { l with reset := .none, perst := false })) ?_)⟩
    exact Sys.FrameLink.of_frame (Sys.lkTo_frame _ p j _) rfl

end Sys2Proof.Machine
end

section
/-!
SUPPORT. The request lines of the interrupt concentrator (R417, R418): what following the sources leaves of the lines' registers, when two states
have the same candidates for a claim, and which candidate a claim takes.
-/
namespace Sys2Proof.Machine

/-- What every step of a fold keeps, the fold keeps. -/
theorem Sys.each_keeps {α : Type} {P : Sys → Prop} {s : Sys} {l : List α} {f : Sys → α → Sys} (h0 : P s) (h : ∀ t, ∀ a ∈ l, P t → P (f t a)) :
    P (s.each l f) := by
  unfold Sys.each
  induction l generalizing s with
  | nil => exact h0
  | cons a l ih => exact ih (h s a List.mem_cons_self h0) fun t b hb => h t b (List.mem_cons_of_mem a hb)

/-! ## The same sources -/

/-- Two states hold the same entries for all registers but those of a set. -/
def Sys.EntriesBut (s t : Sys) (but : RK → Bool) : Prop := t.regs.filter (fun p => !but p.1) = s.regs.filter (fun p => !but p.1)

/-- Two states in which the sources of a domain stand alike: they differ in the bits of request lines above the threshold, and in admissions of
sources that are not pending. -/
structure Sys.SameSources (d : Nat) (s t : Sys) : Prop where
  frame : s.Frame t lineReg [.icn]
  entries : s.EntriesBut t lineReg
  holdoff : t.icn.holdoff = s.icn.holdoff
  admitted : ∀ id, s.srcPending d id = true → t.icn.admitted.contains (d, id) = s.icn.admitted.contains (d, id)
  thresholds : ∀ k, fget (t.rd k) 0 4 = fget (s.rd k) 0 4

theorem Bank.filter_set {κ α : Type} [DecidableEq κ] (p : κ → Bool) (l : Bank κ α) (k : κ) (v : α) (h : p k = false) :
    (Bank.set l k v).filter (fun x => p x.1) = l.filter (fun x => p x.1) := by
  induction l with
  | nil => simp [Bank.set, h]
  | cons x l ih =>
    obtain ⟨k', v'⟩ := x
    by_cases hk : k' = k
    · subst hk
      simp [Bank.set, h]
    · simp only [Bank.set, hk, if_false, List.filter_cons, ih]

theorem Sys.EntriesBut.wr (s : Sys) (k : RK) (w : Word) {but : RK → Bool} (h : but k = true) : s.EntriesBut (s.wr k w) but :=
  Bank.filter_set (fun x => !but x) s.regs k w (by simp [h])

theorem Sys.EntriesBut.trans {s t u : Sys} {but : RK → Bool} (h : s.EntriesBut t but) (g : t.EntriesBut u but) : s.EntriesBut u but := Eq.trans g h

/-- What is collected from the entries of the other registers. -/
theorem Sys.EntriesBut.filterMap {s t : Sys} {but : RK → Bool} (h : s.EntriesBut t but) {α : Type} (f : RK × Word → Option α)
    (hf : ∀ p, but p.1 = true → f p = none) : t.regs.filterMap f = s.regs.filterMap f := by
  have key : ∀ l : List (RK × Word), l.filterMap f = (l.filter (fun p => !but p.1)).filterMap f := by
    intro l
    rw [List.filterMap_filter]
    refine List.filterMap_congr fun p _ => ?_
    by_cases hp : but p.1 = true
    · simp [hp, hf p hp]
    · simp [hp]
  rw [key, key s.regs]
  exact congrArg _ h

section
variable {s t u : Sys} {d : Nat} (h : s.SameSources d t)
include h

theorem Sys.SameSources.rf_eq (f : Fld) (i j : Nat) (hf : lineReg ⟨f.reg, 0, 0⟩ = false) : t.rf f i j = s.rf f i j := h.frame.rf f i j hf

theorem Sys.SameSources.on_eq (f : Fld) (i j : Nat) (hf : lineReg ⟨f.reg, 0, 0⟩ = false) : t.on f i j = s.on f i j := by
  unfold Sys.on
  rw [h.rf_eq f i j hf]

theorem Sys.SameSources.conf : t.conf = s.conf := h.frame.2 .conf rfl
theorem Sys.SameSources.span : t.span = s.span := h.frame.2 .span rfl
theorem Sys.SameSources.links : t.links = s.links := h.frame.2 .links rfl

theorem Sys.SameSources.hartKennel (i : Nat) : t.hartKennel i = s.hartKennel i := by
  unfold Sys.hartKennel Sys.tileKennel
  rw [h.conf]

theorem Sys.SameSources.srcIds (d' : Nat) : t.srcIds d' = s.srcIds d' := by
  refine h.entries.filterMap _ fun p hp => if_neg ?_
  rintro ⟨hreg, -⟩
  simp [lineReg, hreg] at hp

theorem Sys.SameSources.residents (d' v : Nat) : t.residents d' v = s.residents d' v := by
  unfold Sys.residents
  simp only [h.hartKennel]
  refine h.entries.filterMap _ fun p hp => if_neg ?_
  rintro ⟨hreg, -⟩
  simp [lineReg, hreg] at hp

theorem Sys.SameSources.srcPresent (id : Nat) : t.srcPresent d id = s.srcPresent d id := by
  unfold Sys.srcPresent Sys.domOn
  rw [h.on_eq _ _ _ rfl, h.rf_eq _ _ _ rfl]

theorem Sys.SameSources.srcLevel (id : Nat) : t.srcLevel d id = s.srcLevel d id := by
  unfold Sys.srcLevel
  rw [h.on_eq _ _ _ rfl]

theorem Sys.SameSources.srcInput (id : Nat) : t.srcInput d id = s.srcInput d id := by
  have hname : ∀ p j w, t.intxName p j w = s.intxName p j w := by
    intro p j w
    unfold Sys.intxName
    split <;> exact h.rf_eq _ _ _ rfl
  unfold Sys.srcInput Sys.wireDrives Sys.intxDrives Sys.linkKennel
  simp (disch := decide) only [h.on_eq, h.rf_eq, h.conf, h.links, h.srcPresent, hname]

theorem Sys.SameSources.srcPending (id : Nat) : t.srcPending d id = s.srcPending d id := by
  unfold Sys.srcPending
  rw [h.srcLevel, h.srcInput, h.on_eq _ _ _ rfl]

theorem Sys.SameSources.srcCtxs (id : Nat) : t.srcCtxs d id = s.srcCtxs d id := by
  unfold Sys.srcCtxs Sys.ctxKey Sys.srcHart
  simp (disch := decide) only [h.on_eq, h.rf_eq, h.conf, h.residents, h.hartKennel]

theorem Sys.SameSources.srcEligible (id : Nat) : t.srcEligible d id = s.srcEligible d id := by
  unfold Sys.srcEligible Sys.grpHeld Sys.grpFenced Sys.spanLocked
  rw [h.srcPresent, h.srcPending, h.on_eq _ _ _ rfl, h.rf_eq F.ICN_SRC_PRIORITY _ _ rfl, h.on_eq F.ICN_SRC_ACTIVE _ _ rfl,
    h.on_eq F.ICN_SRC_ROUTE_OFF _ _ rfl, h.rf_eq F.ICN_SRC_GROUP _ _ rfl, h.on_eq F.ICN_GRP_FENCE _ _ rfl, h.holdoff, h.span, h.conf]
  cases hp : s.srcPending d id with
  | false => simp
  | true => rw [h.admitted id hp]

theorem Sys.SameSources.heeled : t.heeled = s.heeled := h.on_eq _ _ _ rfl

theorem Sys.SameSources.srcBetter (a b : Nat) : t.srcBetter d a b = s.srcBetter d a b := by
  unfold Sys.srcBetter
  simp (disch := decide) only [h.rf_eq]

/-- The same sources give the same candidate for a claim. -/
theorem Sys.SameSources.bestFor (k : RK) : t.bestFor d k = s.bestFor d k := by
  unfold Sys.bestFor
  simp only [h.heeled, h.srcIds, h.srcEligible, h.srcCtxs, h.rf_eq F.ICN_SRC_PRIORITY d _ rfl, h.thresholds, h.srcBetter]

theorem Sys.SameSources.trans (g : t.SameSources d u) : s.SameSources d u where
  frame := h.frame.trans g.frame
  entries := h.entries.trans g.entries
  holdoff := g.holdoff.trans h.holdoff
  admitted id hp := (g.admitted id ((h.srcPending id).trans hp)).trans (h.admitted id hp)
  thresholds k := (g.thresholds k).trans (h.thresholds k)

end

theorem Sys.SameSources.refl (d : Nat) (s : Sys) : s.SameSources d s where
  frame := .refl s
  entries := rfl
  holdoff := rfl
  admitted _ _ := rfl
  thresholds _ := rfl

/-- A write of a request line's register that keeps the threshold. -/
theorem Sys.SameSources.wr (d : Nat) (s : Sys) (k : RK) (w : Word) (hk : lineReg k = true) (hw : fget w 0 4 = fget (s.rd k) 0 4) :
    s.SameSources d (s.wr k w) where
  frame := .wr s k w hk
  entries := .wr s k w hk
  holdoff := rfl
  admitted _ _ := rfl
  thresholds k' := by
    by_cases e : k = k'
    · subst e
      rw [Sys.rd_wr_self, hw]
    · rw [Sys.rd_wr_other s k k' w e]

/-! ## The lines follow the sources -/

/-- The sources of a domain that are not pending lose their admission (R423). -/
def Sys.admitPending (s : Sys) (d : Nat) : Sys :=
  { s with icn := { s.icn with admitted := s.icn.admitted.filter (fun p => p.1 ≠ d || s.srcPending d p.2) } }

theorem Sys.admitPending_same (s : Sys) (d : Nat) : s.SameSources d (s.admitPending d) where
  frame := .set_icn s _ rfl
  entries := rfl
  holdoff := rfl
  admitted id hp := by
    rw [Bool.eq_iff_iff, List.contains_iff_mem, List.contains_iff_mem]
    exact List.mem_filter.trans (and_iff_left (by simp [hp]))
  thresholds _ := rfl

/-- A request line's word as it follows its sources. -/
def lineWord (on : Bool) (w : Word) : Word := fput (fput w 63 1 (b2n on)) 62 1 (if on && fget w 63 1 == 0 then 1 else fget w 62 1)

theorem lineWord_threshold (on : Bool) (w : Word) : fget (lineWord on w) 0 4 = fget w 0 4 := by
  unfold lineWord
  rw [fget_fput_other _ 62 1 _ 0 4 (by decide) (by decide), fget_fput_other _ 63 1 _ 0 4 (by decide) (by decide)]

/-- Neither a request line nor its PRESENTED stands. -/
def quiet (w : Word) : Prop := fget w 62 1 = 0 ∧ fget w 63 1 = 0

theorem quiet_iff (w : Word) : quiet w ↔ fget w 62 2 = 0 := by
  unfold quiet
  rw [fget_eq_div, fget_eq_div, fget_eq_div]
  omega

/-- A line without sources that shows nothing goes on showing nothing. -/
theorem quiet_lineWord {w : Word} (h : quiet w) : quiet (lineWord false w) := by
  have e : lineWord false w = fput (fput w 63 1 0) 62 1 0 := by simp [lineWord, h.1, b2n]
  rw [e]
  refine ⟨fget_fput_self _ 62 1 0 (by decide) (by decide), ?_⟩
  rw [fget_fput_other _ 62 1 _ 63 1 (by decide) (by decide)]
  exact fget_fput_self _ 63 1 0 (by decide) (by decide)

theorem Sys.syncLine_eq (s : Sys) (d : Nat) (k : RK) : s.syncLine d k = s.wr k (lineWord (s.bestFor d k).isSome (s.rd k)) := rfl

theorem Sys.syncLine_same (s : Sys) (d : Nat) (k : RK) (hk : lineReg k = true) : s.SameSources d (s.syncLine d k) :=
  .wr d s k _ hk (lineWord_threshold _ _)

/-- A domain whose clock runs: its lines are brought up to its sources, one after the other. -/
theorem Sys.icnSync_eq (s : Sys) (d : Nat) (h : s.on F.ICN_DOM_CFG_CLK_STOPPED d = false) :
    ∃ ks : List RK, (∀ k ∈ ks, lineReg k = true) ∧ s.icnSync d = (s.admitPending d).each ks (fun t k => t.syncLine d k) := by
  refine ⟨_, ?_, if_neg (by simp [h])⟩
  intro k hk
  obtain hk | hk := List.mem_append.mp (List.mem_eraseDups.mp hk)
  · obtain ⟨id, -, hk⟩ := List.mem_flatMap.mp hk
    exact Sys.srcCtxs_line _ d id hk
  · obtain ⟨p, -, hp⟩ := List.mem_filterMap.mp hk
    simp only [Option.ite_none_right_eq_some, Option.some.injEq] at hp
    obtain ⟨⟨-, hreg⟩, rfl⟩ := hp
    simp only [lineReg, Bool.or_eq_true, beq_iff_eq]
    tauto

/-- Following the sources leaves them as they stand. -/
theorem Sys.icnSync_same (s : Sys) (d : Nat) : s.SameSources d (s.icnSync d) := by
  cases h : s.on F.ICN_DOM_CFG_CLK_STOPPED d with
  | true =>
    have e : s.icnSync d = s := if_pos h
    rw [e]
    exact .refl d s
  | false =>
    obtain ⟨ks, hks, e⟩ := s.icnSync_eq d h
    rw [e]
    exact Sys.each_keeps (P := fun t => s.SameSources d t) (s.admitPending_same d) fun t k hk g => g.trans (t.syncLine_same d k (hks k hk))

/-- A quiet line without a source to claim stays quiet. -/
theorem Sys.quiet_icnSync (s : Sys) (d : Nat) (k : RK) (hb : s.bestFor d k = none) (hq : quiet (s.rd k)) : quiet ((s.icnSync d).rd k) := by
  cases h : s.on F.ICN_DOM_CFG_CLK_STOPPED d with
  | true =>
    have e : s.icnSync d = s := if_pos h
    rw [e]
    exact hq
  | false =>
    obtain ⟨ks, hks, e⟩ := s.icnSync_eq d h
    rw [e]
    refine (Sys.each_keeps (P := fun t => s.SameSources d t ∧ quiet (t.rd k)) ⟨s.admitPending_same d, hq⟩ fun t k' hk' g => ?_).2
    obtain ⟨hsame, hquiet⟩ := g
    refine ⟨hsame.trans (t.syncLine_same d k' (hks k' hk')), ?_⟩
    rw [Sys.syncLine_eq]
    by_cases e : k' = k
    · subst e
      rw [Sys.rd_wr_self, hsame.bestFor, hb]
      exact quiet_lineWord hquiet
    · rw [Sys.rd_wr_other t k' k _ e]
      exact hquiet

/-- A source that has lost its admission stays without it. -/
theorem Sys.icnSync_admitted (s : Sys) (d id : Nat) (h : s.icn.admitted.contains (d, id) = false) : (s.icnSync d).icn.admitted.contains (d, id) = false := by
  cases hc : s.on F.ICN_DOM_CFG_CLK_STOPPED d with
  | true =>
    have e : s.icnSync d = s := if_pos hc
    rw [e]
    exact h
  | false =>
    obtain ⟨ks, -, e⟩ := s.icnSync_eq d hc
    rw [e]
    refine Sys.each_keeps (P := fun t => t.icn.admitted.contains (d, id) = false) ?_ fun t k _ g => g
    rw [Bool.eq_false_iff, Ne, List.contains_iff_mem] at h ⊢
    exact fun hm => h (List.mem_filter.mp hm).1

/-! ## The candidate that a claim takes -/

/-- The sources that a claim of a context may return (R418). -/
def Sys.claimable (s : Sys) (d : Nat) (k : RK) (id : Nat) : Bool :=
  s.srcEligible d id && (s.srcCtxs d id).contains k && decide (s.rf F.ICN_SRC_PRIORITY d id > fget (s.rd k) 0 4)

/-- A claim takes the better of what it has and the next candidate. -/
def Sys.pick (s : Sys) (d : Nat) (acc : Option Nat) (id : Nat) : Option Nat :=
  match acc with
  | none => some id
  | some a => if s.srcBetter d id a then some id else some a

theorem Sys.bestFor_eq (s : Sys) (d : Nat) (k : RK) : s.bestFor d k =
    if s.heeled && d != 15 then none else ((s.srcIds d).filter (s.claimable d k)).foldl (s.pick d) none := rfl

/-- No source to claim. -/
theorem Sys.bestFor_none (s : Sys) (d : Nat) (k : RK) (h : ∀ j ∈ s.srcIds d, s.claimable d k j = false) : s.bestFor d k = none := by
  rw [Sys.bestFor_eq, List.filter_eq_nil_iff.mpr fun j hj => by simp [h j hj]]
  exact ite_self none

/-- Of two different sources not both are better. -/
theorem Sys.srcBetter_asymm {s : Sys} {d a b : Nat} (h : s.srcBetter d a b = true) : s.srcBetter d b a = false := by
  simp only [Sys.srcBetter, Bool.or_eq_true, Bool.and_eq_true, decide_eq_true_eq] at h
  simp only [Sys.srcBetter, Bool.or_eq_false_iff, Bool.and_eq_false_iff, decide_eq_false_iff_not]
  omega

/-- Among candidates that are all `id` or worse, `id` is what is picked once it has come. -/
theorem Sys.foldl_pick {s : Sys} {d id : Nat} (l : List Nat) (h : ∀ j ∈ l, j = id ∨ s.srcBetter d id j = true) (acc : Option Nat)
    (hacc : acc = some id ∨ id ∈ l ∧ ∀ a, acc = some a → s.srcBetter d id a = true) : l.foldl (s.pick d) acc = some id := by
  induction l generalizing acc with
  | nil => exact hacc.resolve_right fun g => List.not_mem_nil g.1
  | cons j l ih =>
    refine ih (fun x hx => h x (List.mem_cons_of_mem j hx)) _ ?_
    have hj := h j List.mem_cons_self
    rcases hacc with rfl | ⟨hin, ha⟩
    · refine .inl ?_
      rcases hj with rfl | hj
      · exact ite_self _
      · exact if_neg (by simp [Sys.srcBetter_asymm hj])
    · rcases hj with rfl | hj
      · refine .inl ?_
        cases acc with
        | none => rfl
        | some a => exact if_pos (ha a rfl)
      · have hin' : id ∈ l := by
          refine (List.mem_cons.mp hin).resolve_left fun e => ?_
          subst e
          exact absurd hj (by simp [Sys.srcBetter_asymm hj])
        refine .inr ⟨hin', fun a he => ?_⟩
        cases acc with
        | none => exact Option.some.inj he ▸ hj
        | some b =>
          simp only [Sys.pick] at he
          split at he
          · exact Option.some.inj he ▸ hj
          · exact Option.some.inj he ▸ ha b rfl

/-- Only a source that software has touched has a priority. -/
theorem Sys.mem_srcIds {s : Sys} {d id : Nat} (h : s.rf F.ICN_SRC_PRIORITY d id ≠ 0) : id ∈ s.srcIds d := by
  have hkey : ∀ l : Bank RK Word, Bank.get? l ⟨.ICN_SRC, d, id⟩ ≠ none → ∃ w, (⟨.ICN_SRC, d, id⟩, w) ∈ l := by
    intro l
    induction l with
    | nil => exact fun g => absurd rfl g
    | cons x l ih =>
      obtain ⟨k, v⟩ := x
      intro g
      by_cases e : k = ⟨.ICN_SRC, d, id⟩
      · exact ⟨v, e ▸ List.mem_cons_self⟩
      · simp only [Bank.get?, e, if_false] at g
        obtain ⟨w, hw⟩ := ih g
        exact ⟨w, List.mem_cons_of_mem _ hw⟩
  obtain ⟨w, hw⟩ := hkey s.regs fun e => h (by
    have hr : s.rd ⟨.ICN_SRC, d, id⟩ = Reg.coldWord .ICN_SRC := by
      unfold Sys.rd Bank.getD
      rw [e]
      rfl
    show fget (s.rd ⟨.ICN_SRC, d, id⟩) _ _ = 0
    rw [hr]
    decide)
  exact List.mem_filterMap.mpr ⟨_, hw, if_pos ⟨rfl, rfl⟩⟩

/-- The source that a claim takes: claimable, and better than every other that is. -/
theorem Sys.bestFor_some (s : Sys) (d : Nat) (k : RK) (id : Nat) (hh : s.heeled = false ∨ d = 15) (hc : s.claimable d k id = true)
    (hb : ∀ j ∈ s.srcIds d, s.claimable d k j = true → j = id ∨ s.srcBetter d id j = true) : s.bestFor d k = some id := by
  have hin : id ∈ s.srcIds d := by
    refine Sys.mem_srcIds ?_
    simp only [Sys.claimable, Bool.and_eq_true, decide_eq_true_eq] at hc
    omega
  rw [Sys.bestFor_eq, if_neg (by rcases hh with hh | hh <;> simp [hh])]
  refine Sys.foldl_pick _ (fun j hj => ?_) none (.inr ⟨List.mem_filter.mpr ⟨hin, hc⟩, fun a ha => nomatch ha⟩)
  obtain ⟨hj, hcj⟩ := List.mem_filter.mp hj
  exact hb j hj hcj

end Sys2Proof.Machine
end

section
/-!
PROOFS. Claim and complete (O45): accesses of the registers of a context, while the clock of its domain runs.
-/
namespace Sys2Proof.Machine

/-! ## Accesses of the registers of a domain whose clock runs -/

/-- The clock runs already: an access finds the part as the identification of the requester leaves it. -/
theorem Sys.opened_running {s : Sys} {a : Access} {d : Nat} (hd : s.domOf a.key = some d) (hc : s.on F.ICN_DOM_CFG_CLK_STOPPED d = false) :
    s.Known (s.opened a) := by
  have hk : s.Known (s.whoIs a.req).2 := s.whoIs_known a.req
  have hd' : (s.whoIs a.req).2.domOf a.key = some d := by
    rw [hk]
    exact hd
  have hc' : (s.whoIs a.req).2.on F.ICN_DOM_CFG_CLK_STOPPED d = false := by
    rw [hk]
    exact hc
  have e : s.opened a = (s.whoIs a.req).2 := by
    unfold Sys.opened
    simp only [hd']
    exact if_pos (by simp [hc'])
  rw [e]
  exact hk

/-- A read that takes effect, of a register of a domain whose clock runs, completes with what its register's read gives. -/
theorem State.Takes.icnRead {s : State} {c : Instr} {req : Requester} {k : RK} {d : Nat} {p : State → Prop} (ht : s.Takes c)
    (ha : Instr.access c = some ⟨req, k, none, none⟩) (hc : exec c s = onM (fun x => x.rowRead req k) s) (hd : s.sys.domOf k = some d)
    (hrun : s.sys.on F.ICN_DOM_CFG_CLK_STOPPED d = false)
    (hp : ∀ t, s.sys.Known t → t.present k.canon = true → p (s.withSys ((t.regRead k.canon).2.answer (.done (t.regRead k.canon).1)))) : Completes c s p := by
  obtain ⟨hl, a, hmem, htakes⟩ := ht
  rw [ha] at hmem
  cases hmem
  refine ⟨_, ?_, hp _ (Sys.opened_running hd hrun) htakes.2.1⟩
  rw [hc, onM_live _ s hl]
  exact congrArg (fun x => Host.Outcome.next (s.after x)) (Sys.Takes.read rfl htakes)

theorem Sys.Known.touched {s o : Sys} (h : s.Known o) : s.Touched o := by
  refine ⟨?_, fun k _ => h.rd k⟩
  rw [h]

/-! ### The apply point -/

theorem Sys.meshNote_entries (s : Sys) (f : Fld) (off k : Nat) (w : Bool) (h : f.reg = .SYS_CS_STATUS) : s.EntriesBut (s.meshNote f off k w) csStatus := by
  have e : ∀ (t : Sys) (g : Fld) (v i j : Nat), g.reg = .SYS_CS_STATUS → t.EntriesBut (t.put g v i j) csStatus := by
    intro t g v i j hg
    exact .wr _ _ _ (by simp [csStatus, hg])
  unfold Sys.meshNote Sys.bump
  exact ((((e _ _ _ _ _ h).trans (e _ _ _ _ _ rfl)).trans (e _ _ _ _ _ rfl)).trans (e _ _ _ _ _ rfl)).trans (e _ _ _ _ _ rfl)

theorem Sys.tetherApply_entries (s : Sys) (k : RK) (off : Nat) : s.EntriesBut (s.tetherApply k off) csStatus := by
  unfold Sys.tetherApply
  generalize List.find? (fun (m : RK × Nat × Bool) => decide (m.1 = k.canon)) s.stations.meshMark = o
  cases o with
  | none => rfl
  | some m => exact s.meshNote_entries _ off m.2.1 m.2.2 rfl

theorem Sys.meshApply_entries (s : Sys) (k : RK) (off kn : Nat) (w : Bool) : s.EntriesBut (s.meshApply k off kn w).2 csStatus := by
  unfold Sys.meshApply
  split
  · exact s.meshNote_entries _ off _ _ rfl
  · rfl

/-- What a write that takes effect starts from: the requester's marks, by its path. -/
def Sys.pathed (s : Sys) (a : Access) : Sys :=
  let w := (s.whoIs a.req).1
  let off := s.offsetOf a.key
  if w.tether then (s.opened a).tetherApply a.key.canon off else ((s.opened a).meshApply a.key.canon off w.kennel w.secure).2

theorem Sys.pathed_marked (s : Sys) (a : Access) : (s.opened a).Marked (s.pathed a) := by
  unfold Sys.pathed
  dsimp only
  split
  · exact Sys.tetherApply_marked ..
  · exact Sys.meshApply_marked ..

theorem Sys.pathed_entries (s : Sys) (a : Access) : (s.opened a).EntriesBut (s.pathed a) csStatus := by
  unfold Sys.pathed
  dsimp only
  split
  · exact Sys.tetherApply_entries ..
  · exact Sys.meshApply_entries ..

/-- A write that takes effect is its register's write on what the apply point leaves. -/
theorem Sys.Takes.write_pathed {s : State} {a : Access} {v : Word} (hw : a.write = some v) (ht : s.sys.Takes a) :
    s.ctx.rowAccess a.req a.key a.write a.fwd =
      ((⟨s.mem, s.sys.pathed a, []⟩ : M).regWrite (s.sys.whoIs a.req).1 a.key.canon (s.sys.offsetOf a.key) v a.fwd).on
        (fun s => s.answer (.done 0)) := by
  obtain ⟨ha, -, -, hm⟩ := ht
  have hm := hm (by simp [hw])
  rw [ha.rowAccess, hw]
  unfold Sys.pathed
  generalize hof : s.sys.offsetOf a.key = off
  generalize hwho : (s.sys.whoIs a.req).1 = w at hm ⊢
  have key : (⟨s.mem, (s.sys.whoIs a.req).2, []⟩ : M).regPerform w a.key off 8 (some v) a.fwd =
      if w.tether then ((⟨s.mem, (s.sys.opened a).tetherApply a.key.canon off, []⟩ : M).regWrite w a.key.canon off v a.fwd).on
        (fun s => s.answer (.done 0))
      else match (s.sys.opened a).meshApply a.key.canon off w.kennel w.secure with
        | (false, t) => ⟨s.mem, t.answer (.done 0), []⟩
        | (true, t) => ((⟨s.mem, t, []⟩ : M).regWrite w a.key.canon off v a.fwd).on (fun s => s.answer (.done 0)) := rfl
  rw [key]
  cases hte : w.tether
  · have hb : ((s.sys.opened a).meshApply a.key.canon off w.kennel w.secure).1 = true := by
      unfold Sys.meshApply
      rw [RK.canon_canon, hm hte]
      rfl
    dsimp only
    generalize (s.sys.opened a).meshApply a.key.canon off w.kennel w.secure = r at hb ⊢
    obtain ⟨b, t⟩ := r
    simp only at hb
    subst hb
    simp only [hte, Bool.false_eq_true, if_false]
  · simp only [hte, if_true]

section
variable {s t : Sys} (h : s.Touched t)
include h

theorem Sys.Touched.conf_eq : t.conf = s.conf := h.part .conf rfl

theorem Sys.Touched.hartKennel (i : Nat) : t.hartKennel i = s.hartKennel i := by
  unfold Sys.hartKennel Sys.tileKennel
  rw [h.conf_eq]

theorem Sys.Touched.srcPresent (d id : Nat) : t.srcPresent d id = s.srcPresent d id := by
  unfold Sys.srcPresent Sys.domOn
  rw [h.on _ _ _ (by decide), h.rf _ _ _ (by decide)]

theorem Sys.Touched.icnPresent (k : RK) : t.icnPresent k = s.icnPresent k := by
  unfold Sys.icnPresent
  rw [h.hartKennel, h.rf _ _ _ (by decide), h.srcPresent]

theorem Sys.Touched.domOf (k : RK) : t.domOf k = s.domOf k := by
  unfold Sys.domOf
  rw [h.hartKennel]

theorem Sys.Touched.residents (he : s.EntriesBut t csStatus) (d v : Nat) : t.residents d v = s.residents d v := by
  unfold Sys.residents
  simp only [h.hartKennel]
  refine he.filterMap _ fun p hp => if_neg ?_
  rintro ⟨hreg, -⟩
  simp [csStatus, hreg] at hp

end

/-- A write at an offset of the interrupt concentrator's pages. -/
theorem M.regWrite_icn (x : M) (w : Who) {k : RK} {off : Nat} (v : Word) (fwd : Option Nat) (hp : x.sys.present k = true)
    (ho : 0x100000 ≤ off ∧ off < 0x200000) : x.regWrite w k off v fwd = x.on (fun s => s.icnWrite w k v) := by
  unfold M.regWrite
  rw [hp]
  exact (if_neg (by decide)).trans ((if_neg (by omega)).trans (if_pos ho.2))

/-- A command that is one write of a register of a domain whose clock runs completes with what the interrupt concentrator's write leaves. -/
theorem State.Takes.icnWrite {s : State} {c : Instr} {req : Requester} {k : RK} {v : Word} {d : Nat} {p : State → Prop} (ht : s.Takes c)
    (ha : Instr.access c = some ⟨req, k, some v, none⟩) (hc : exec c s = onM (fun x => x.rowWrite req k v) s) (hd : s.sys.domOf k = some d)
    (hrun : s.sys.on F.ICN_DOM_CFG_CLK_STOPPED d = false) (hcanon : k.canon = k) (hpres : ∀ t : Sys, t.present k = t.icnPresent k)
    (hoff : 0x100000 ≤ s.sys.offsetOf k ∧ s.sys.offsetOf k < 0x200000)
    (hp : ∀ t, s.sys.Touched t → s.sys.EntriesBut t csStatus → t.domOf k = some d →
      p (s.withSys ((t.icnWrite (s.sys.whoIs req).1 k v).answer (.done 0)))) : Completes c s p := by
  obtain ⟨hl, a, hmem, htakes⟩ := ht
  rw [ha] at hmem
  cases hmem
  have hknown : s.sys.Known (s.sys.opened ⟨req, k, some v, none⟩) := Sys.opened_running hd hrun
  have htouch := hknown.marked (s.sys.pathed_marked ⟨req, k, some v, none⟩)
  have hent : s.sys.EntriesBut (s.sys.pathed ⟨req, k, some v, none⟩) csStatus := by
    refine Sys.EntriesBut.trans ?_ (s.sys.pathed_entries _)
    unfold Sys.EntriesBut
    rw [hknown]
  refine ⟨_, ?_, hp _ htouch hent ((htouch.domOf k).trans hd)⟩
  rw [hc, onM_live _ s hl]
  have hopen : (s.sys.opened ⟨req, k, some v, none⟩).present k = true := (congrArg _ hcanon.symm).trans htakes.2.1
  have hpresent : (s.sys.pathed ⟨req, k, some v, none⟩).present k = true := by
    rw [hpres, htouch.icnPresent, ← hknown.touched.icnPresent, ← hpres]
    exact hopen
  have hrow := Sys.Takes.write_pathed rfl htakes
  rw [hcanon] at hrow
  refine (congrArg (fun x => Host.Outcome.next (s.after x)) hrow).trans ?_
  rw [M.regWrite_icn _ _ v none hpresent hoff]
  rfl

/-! ## Claims -/

section
variable (s : Sys) (d : Nat) (k : RK) (id : Nat)

/-- The claimed context shows neither its line nor PRESENTED. -/
def Sys.lineClear : Sys := s.wr k (fput (fput (s.rd k) 62 1 0) 63 1 0)

theorem quiet_cleared (w : Word) : quiet (fput (fput w 62 1 0) 63 1 0) := by
  refine ⟨?_, fget_fput_self _ 63 1 0 (by decide) (by decide)⟩
  rw [fget_fput_other _ 63 1 _ 62 1 (by decide) (by decide)]
  exact fget_fput_self _ 62 1 0 (by decide) (by decide)

theorem Sys.lineClear_same (hk : lineReg k = true) : s.SameSources d (s.lineClear k) := by
  refine .wr d s k _ hk ?_
  rw [fget_fput_other _ 63 1 _ 0 4 (by decide) (by decide), fget_fput_other _ 62 1 _ 0 4 (by decide) (by decide)]

theorem Sys.lineClear_quiet : quiet ((s.lineClear k).rd k) := by
  unfold Sys.lineClear
  rw [Sys.rd_wr_self]
  exact quiet_cleared _

theorem Sys.icnClaim_none (h : s.bestFor d k = none) :
    s.icnClaim d k = (if fget (s.rd k) 62 1 = 1 then 4095 else 0, (s.lineClear k).icnSync d) := by
  unfold Sys.icnClaim
  rw [h]
  rfl

/-- The claimed source is active, an edge source no longer pending, and not admitted any more. -/
def Sys.srcTaken : Sys :=
  let t := (((s.put F.ICN_SRC_ACTIVE 1 d id).unadmit d id)).lineClear k
  if s.srcLevel d id then t else t.put F.ICN_SRC_PENDING 0 d id

/-- The hold-off of the claimed source's group begins (R422). -/
def Sys.holdoffBegin (t : Sys) : Sys :=
  let g := s.rf F.ICN_SRC_GROUP d id
  let h := s.rf F.ICN_GRP_HOLDOFF d g
  if h = 0 then t else { t with icn := { t.icn with holdoff := Bank.set t.icn.holdoff (d, g) (s.span.now + (h * s.spanS + 63) / 64) } }

theorem Sys.icnClaim_some (h : s.bestFor d k = some id) : s.icnClaim d k = (id, (s.holdoffBegin d id (s.srcTaken d k id)).icnSync d) := by
  unfold Sys.icnClaim
  rw [h]
  rfl

/-- The registers of a source's entry and of the request lines. -/
abbrev claimReg (d id : Nat) (q : RK) : Bool := q.reg == .ICN_SRC && q.i == d && q.j == id || lineReg q

theorem Sys.rf_lineClear (hk : lineReg k = true) (f : Fld) (i j : Nat) (hf : lineReg ⟨f.reg, i, j⟩ = false) : (s.lineClear k).rf f i j = s.rf f i j :=
  (s.lineClear_same 0 k hk).frame.rf f i j hf

theorem Sys.thresholds_put (f : Fld) (v i j : Nat) (hf : lineReg ⟨f.reg, i, j⟩ = false) (q : RK) (hq : lineReg q = true) :
    (s.put f v i j).rd q = s.rd q := by
  refine Sys.rd_put_other s f v i j q fun e => ?_
  rw [e, hq] at hf
  exact Bool.noConfusion hf

theorem Sys.srcTaken_frame (hk : lineReg k = true) : s.Frame (s.srcTaken d k id) (claimReg d id) [.icn] := by
  have hclear : s.Frame (((s.put F.ICN_SRC_ACTIVE 1 d id).unadmit d id).lineClear k) (claimReg d id) [.icn] :=
    ((Sys.Frame.put s _ _ _ _ (by simp)).trans (Sys.unadmit_frame _ d id)).trans (.wr _ _ _ (by simp [hk]))
  unfold Sys.srcTaken
  exact .ite (fun _ => hclear) fun _ => hclear.trans (.put _ _ _ _ _ (by simp))

theorem Sys.srcTaken_active (hk : lineReg k = true) : (s.srcTaken d k id).rf F.ICN_SRC_ACTIVE d id = 1 := by
  have hclear : (((s.put F.ICN_SRC_ACTIVE 1 d id).unadmit d id).lineClear k).rf F.ICN_SRC_ACTIVE d id = 1 :=
    (Sys.rf_lineClear _ k hk _ _ _ rfl).trans (s.rf_put_self F.ICN_SRC_ACTIVE 1 d id (by decide))
  unfold Sys.srcTaken
  split
  · exact hclear
  · rw [Sys.rf_put_bits _ F.ICN_SRC_PENDING _ _ _ _ _ _ (by decide)]
    exact hclear

theorem Sys.srcTaken_pending (h : s.srcLevel d id = false) : (s.srcTaken d k id).rf F.ICN_SRC_PENDING d id = 0 := by
  unfold Sys.srcTaken
  rw [h]
  exact Sys.rf_put_self _ F.ICN_SRC_PENDING 0 d id (by decide)

theorem Sys.srcTaken_icn : (s.srcTaken d k id).icn = (s.unadmit d id).icn := by
  unfold Sys.srcTaken
  dsimp only
  split <;> rfl

theorem Sys.unadmit_admitted : (s.unadmit d id).icn.admitted.contains (d, id) = false := by
  rw [Bool.eq_false_iff, Ne, List.contains_iff_mem]
  intro h
  simp [Sys.unadmit] at h

theorem Sys.srcTaken_thresholds (hk : lineReg k = true) (q : RK) (hq : lineReg q = true) :
    fget ((s.srcTaken d k id).rd q) 0 4 = fget (s.rd q) 0 4 := by
  have hclear : fget ((((s.put F.ICN_SRC_ACTIVE 1 d id).unadmit d id).lineClear k).rd q) 0 4 = fget (s.rd q) 0 4 :=
    ((Sys.lineClear_same _ d k hk).thresholds q).trans (congrArg (fget · 0 4) (s.thresholds_put F.ICN_SRC_ACTIVE 1 d id rfl q hq))
  unfold Sys.srcTaken
  split
  · exact hclear
  · rw [Sys.thresholds_put _ F.ICN_SRC_PENDING 0 d id rfl q hq]
    exact hclear

theorem Sys.holdoffBegin_frame (t : Sys) {but : RK → Bool} : t.Frame (s.holdoffBegin d id t) but [.icn] :=
  .ite (fun _ => .refl t) fun _ => .set_icn t _ rfl

theorem Sys.rd_holdoffBegin (t : Sys) (q : RK) : (s.holdoffBegin d id t).rd q = t.rd q := (s.holdoffBegin_frame d id t (but := fun _ => false)).1 q rfl

theorem Sys.holdoffBegin_admitted (t : Sys) : (s.holdoffBegin d id t).icn.admitted = t.icn.admitted := by
  unfold Sys.holdoffBegin
  dsimp only
  split <;> rfl

theorem Sys.holdoffBegin_holdoff (t : Sys) : (s.holdoffBegin d id t).icn.holdoff =
    if s.rf F.ICN_GRP_HOLDOFF d (s.rf F.ICN_SRC_GROUP d id) = 0 then t.icn.holdoff
    else Bank.set t.icn.holdoff (d, s.rf F.ICN_SRC_GROUP d id)
      (s.span.now + (s.rf F.ICN_GRP_HOLDOFF d (s.rf F.ICN_SRC_GROUP d id) * s.spanS + 63) / 64) := by
  unfold Sys.holdoffBegin
  dsimp only
  split <;> rfl

end

/-- Every threshold is as it was: what the statements say of it. -/
theorem Sys.thresholds_all {s t : Sys} (h : ∀ q, lineReg q = true → fget (t.rd q) 0 4 = fget (s.rd q) 0 4) :
    s.regs.all (fun q => !lineReg q.1 || fget (t.rd q.1) 0 4 == fget (s.rd q.1) 0 4) = true := by
  refine List.all_eq_true.mpr fun q _ => ?_
  cases hq : lineReg q.1 with
  | false => rfl
  | true => simpa using h q.1 hq

theorem ClaimCtx.thresh_line (c : ClaimCtx) : lineReg c.claim.thresh = true := by cases c <;> rfl

/-- A read of a claim register is the claim of its context. -/
theorem Sys.regRead_claim (t : Sys) (c : ClaimCtx) (d : Nat) (hp : t.present c.claim = true) (hd : t.domOf c.claim = some d) :
    t.regRead c.claim = (BitVec.ofNat 64 (t.icnClaim d c.claim.thresh).1, (t.icnClaim d c.claim.thresh).2) := by
  unfold Sys.regRead
  rw [hp, hd]
  cases c <;> rfl

theorem Sys.Known.bestFor {s o : Sys} (h : s.Known o) (d : Nat) (k : RK) : o.bestFor d k = s.bestFor d k := by
  rw [h]
  rfl

theorem Sys.Known.srcLevel {s o : Sys} (h : s.Known o) (d id : Nat) : o.srcLevel d id = s.srcLevel d id := by
  rw [h]
  rfl

theorem Sys.Known.domOf {s o : Sys} (h : s.Known o) (k : RK) : o.domOf k = s.domOf k := by
  rw [h]
  rfl

theorem ClaimCtx.claim_canon (c : ClaimCtx) : c.claim.canon = c.claim := by cases c <;> rfl
theorem ClaimCtx.thresh_canon (c : ClaimCtx) : c.claim.thresh.canon = c.claim.thresh := by cases c <;> rfl

/-- The outcome of a claim, of a domain whose clock runs. -/
theorem State.Takes.icnClaim {s : State} {req : Requester} {ctx : ClaimCtx} {d : Nat} {p : State → Prop} (ht : s.Takes (.icnClaim req ctx))
    (hd : s.sys.domOf ctx.claim = some d) (hrun : s.sys.on F.ICN_DOM_CFG_CLK_STOPPED d = false)
    (hp : ∀ o, s.sys.Known o → p (s.withSys ((o.icnClaim d ctx.claim.thresh).2.answer (.done (BitVec.ofNat 64 (o.icnClaim d ctx.claim.thresh).1))))) :
    Completes (.icnClaim req ctx) s p := by
  refine ht.icnRead rfl rfl hd hrun fun o ho hpres => ?_
  rw [ctx.claim_canon] at hpres ⊢
  rw [o.regRead_claim ctx d hpres ((ho.domOf _).trans hd)]
  exact hp o ho

/-! ## Writes -/

theorem ClaimCtx.offset_claim (s : Sys) (c : ClaimCtx) : 0x100000 ≤ s.offsetOf c.claim ∧ s.offsetOf c.claim < 0x200000 := by
  cases c <;> simp only [ClaimCtx.claim, Sys.offsetOf, Reg.place] <;> omega

theorem ClaimCtx.offset_thresh (s : Sys) (c : ClaimCtx) : 0x100000 ≤ s.offsetOf c.claim.thresh ∧ s.offsetOf c.claim.thresh < 0x200000 := by
  cases c <;> simp only [ClaimCtx.claim, RK.thresh, Sys.offsetOf, Reg.place] <;> omega

theorem Sys.offset_gctx (s : Sys) (h : Fin 256) (g : Fin 8) : 0x100000 ≤ s.offsetOf ⟨.ICN_GCTX, h, g⟩ ∧ s.offsetOf ⟨.ICN_GCTX, h, g⟩ < 0x200000 := by
  simp only [Sys.offsetOf, Reg.place]
  omega

theorem fget_setWidth (id : BitVec 12) : fget (id.setWidth 64) 0 12 = id.toNat := by
  rw [fget_eq_div, BitVec.toNat_setWidth]
  have := id.isLt
  omega

/-- The outcome of a complete, of a domain whose clock runs. -/
theorem State.Takes.icnComplete {s : State} {req : Requester} {ctx : ClaimCtx} {id : BitVec 12} {d : Nat} {p : State → Prop}
    (ht : s.Takes (.icnComplete req ctx id)) (hd : s.sys.domOf ctx.claim = some d) (hrun : s.sys.on F.ICN_DOM_CFG_CLK_STOPPED d = false)
    (hp : ∀ t, s.sys.Touched t → p (s.withSys ((t.icnComplete d id.toNat).answer (.done 0)))) : Completes (.icnComplete req ctx id) s p := by
  refine ht.icnWrite rfl rfl hd hrun ctx.claim_canon (fun t => by cases ctx <;> rfl) (ctx.offset_claim _) fun t h _ hdt => ?_
  have hw : t.icnWrite (s.sys.whoIs req).1 ctx.claim (id.setWidth 64) = t.icnComplete d id.toNat := by
    rw [← fget_setWidth id]
    unfold Sys.icnWrite
    rw [hdt]
    cases ctx <;> rfl
  rw [hw]
  exact hp t h

/-- The request lines after a domain's write: the thresholds that the write itself keeps are as they were. -/
theorem Sys.Touched.thresholds {s t : Sys} (h : s.Touched t) (q : RK) (hq : lineReg q = true) : t.rd q = s.rd q := by
  refine h.2 q fun e => ?_
  rw [lineReg, e] at hq
  exact absurd hq (by decide)

theorem Sys.Touched.frame_icn {s t y : Sys} (h : s.Touched t) {but : RK → Bool} {r : Resp} (hy : t.Frame y but [.icn]) :
    s.Frame (y.answer r) (fun q => but q || csStatus q) (.icn :: accessParts) :=
  h.frame_write (hy.mono (fun k hk => by simp [hk]) (by decide)) (fun k hk => by simp [hk]) (by decide)

/-- A state of the domain's registers that may be written on: a write of ICN_GCTX, of a domain whose clock runs. -/
theorem State.Takes.icnGctx {s : State} {req : Requester} {h : Fin 256} {g : Fin 8} {v : Word} {p : State → Prop} (ht : s.Takes (.icnGctxWrite req h g v))
    (hrun : s.sys.on F.ICN_DOM_CFG_CLK_STOPPED (s.sys.hartKennel h) = false)
    (hp : ∀ t, s.sys.Touched t → (∀ d n, t.residents d n = s.sys.residents d n) → p (s.withSys ((t.gctxWrite h g v).answer (.done 0)))) :
    Completes (.icnGctxWrite req h g v) s p :=
  ht.icnWrite rfl rfl rfl hrun rfl (fun _ => rfl) (s.sys.offset_gctx h g) fun t htouch hent _ => hp t htouch (htouch.residents hent)

/-- Settles O45. -/
theorem claimComplete : Obligations.ClaimComplete := by
  unfold Obligations.ClaimComplete
  refine ⟨?claim, ?empty, ?complete, ?error, ?threshold, ?twice, ?resident, ?read, ?waits⟩
  case claim =>
    intro s req ctx d id ht hd hrun hh helig hctx hprio hbest
    refine ht.icnClaim hd hrun fun o ho => ?_
    have hk := ctx.thresh_line
    generalize ctx.claim.thresh = k at hctx hprio hbest hk ⊢
    have hfound : o.bestFor d k = some id := by
      refine (ho.bestFor d k).trans (s.sys.bestFor_some d k id hh (by simp [Sys.claimable, helig, List.contains_iff_mem.mp hctx, hprio]) fun j hj hc => ?_)
      have := List.all_eq_true.mp hbest j hj
      simp only [Sys.claimable, Bool.and_eq_true] at hc
      rw [hc.1.1, hc.1.2] at this
      simpa using this
    rw [o.icnClaim_some d k id hfound]
    have hsame := (o.holdoffBegin d id (o.srcTaken d k id)).icnSync_same d
    refine ⟨rfl, ?_, fun hl => ?_, ?_, ?_, Sys.thresholds_all fun q hq => ?_, State.only_withSys ?_⟩
    · exact (hsame.rf_eq F.ICN_SRC_ACTIVE d id rfl).trans
        (((o.holdoffBegin_frame d id _ (but := fun _ => false)).rf _ _ _ rfl).trans (o.srcTaken_active d k id hk))
    · exact (hsame.rf_eq F.ICN_SRC_PENDING d id rfl).trans
        (((o.holdoffBegin_frame d id _ (but := fun _ => false)).rf _ _ _ rfl).trans (o.srcTaken_pending d k id ((ho.srcLevel d id).trans hl)))
    · refine Sys.icnSync_admitted _ d id ?_
      rw [o.holdoffBegin_admitted, o.srcTaken_icn]
      exact o.unadmit_admitted d id
    · refine hsame.holdoff.trans ?_
      rw [o.holdoffBegin_holdoff, o.srcTaken_icn, ho.rf, ho.rf]
      rw [ho]
      rfl
    · refine (hsame.thresholds q).trans ?_
      rw [Sys.rd_holdoffBegin, o.srcTaken_thresholds d k id hk q hq, ho.rd]
    · have hreg : ∀ q, lineReg q = true → claimReg d id q = true := fun q hq => by simp [hq]
      exact ((((ho.frame.parts_mono (by decide)).trans ((o.srcTaken_frame d k id hk).parts_mono (by decide))).trans
        (o.holdoffBegin_frame d id _ |>.parts_mono (by decide))).trans (hsame.frame.mono hreg (by decide))).trans (.answer _ _ rfl)
  case empty =>
    intro s req ctx d ht hd hrun hnone
    refine ht.icnClaim hd hrun fun o ho => ?_
    have hk := ctx.thresh_line
    generalize ctx.claim.thresh = k at hnone hk ⊢
    have hfound : o.bestFor d k = none := by
      refine (ho.bestFor d k).trans (s.sys.bestFor_none d k fun j hj => ?_)
      have hj := List.all_eq_true.mp hnone j hj
      exact Bool.not_eq_true' _ ▸ hj
    rw [o.icnClaim_none d k hfound]
    have hclear := o.lineClear_same d k hk
    have hsame := hclear.trans ((o.lineClear k).icnSync_same d)
    refine ⟨?_, (quiet_iff _).mp (Sys.quiet_icnSync _ d k ((hclear.bestFor k).trans hfound) (o.lineClear_quiet k)), ?_,
      Sys.thresholds_all fun q _ => ?_, State.only_withSys ?_⟩
    · rw [← ho.rd]
      show Resp.done _ = Resp.done _
      split <;> rfl
    · refine hsame.holdoff.trans ?_
      rw [ho]
    · exact (hsame.thresholds q).trans (by rw [ho.rd])
    · exact ((ho.frame.parts_mono (by decide)).trans (hsame.frame.parts_mono (by decide))).trans (.answer _ _ rfl)
  case complete =>
    intro s req ctx id d ht hd hrun hpres hact
    refine ht.icnComplete hd hrun fun t h => ?_
    have hto : t.icnComplete d id.toNat = (t.put F.ICN_SRC_ACTIVE 0 d id.toNat).icnSync d :=
      if_pos (by simp [h.srcPresent, hpres, Sys.on, h.rf F.ICN_SRC_ACTIVE _ _ (by decide), hact])
    rw [hto]
    have hsame := (t.put F.ICN_SRC_ACTIVE 0 d id.toNat).icnSync_same d
    refine ⟨rfl, ?_, ?_, Sys.thresholds_all fun q hq => ?_, State.only_withSys (h.frame_icn (but := claimReg d id.toNat) ?_)⟩
    · exact (hsame.rf_eq F.ICN_SRC_ACTIVE _ _ rfl).trans (t.rf_put_self F.ICN_SRC_ACTIVE 0 d _ (by decide))
    · exact (hsame.rf_eq F.ICN_SRC_PENDING _ _ rfl).trans
        ((t.rf_put_bits F.ICN_SRC_ACTIVE F.ICN_SRC_PENDING 0 _ _ _ _ (by decide)).trans (h.rf _ _ _ (by decide)))
    · refine (hsame.thresholds q).trans ?_
      rw [Sys.thresholds_put _ F.ICN_SRC_ACTIVE 0 _ _ rfl q hq, h.thresholds q hq]
    · exact (Sys.Frame.put t _ _ _ _ (by simp)).trans (hsame.frame.regs_mono fun q hq => by simp [hq])
  case error =>
    intro s req ctx id d ht hd hrun hnot
    refine ht.icnComplete hd hrun fun t h => ?_
    have hto : t.icnComplete d id.toNat = t.put F.ICN_DOM_STATUS_COMPLETE_ERR 1 d := by
      refine if_neg ?_
      rw [h.srcPresent, h.on _ _ _ (by decide), Sys.on]
      rcases hnot with e | e <;> simp [e]
    rw [hto]
    refine ⟨rfl, t.rf_put_self F.ICN_DOM_STATUS_COMPLETE_ERR 1 d 0 (by decide), ?_, State.only_withSys (h.frame_write ?_ ?_ ?_)⟩
    · refine (Sys.rd_wr_self t ⟨.ICN_DOM_STATUS, d, 0⟩ _).trans ?_
      exact congrArg (fput · 2 1 1) (h.2 ⟨.ICN_DOM_STATUS, d, 0⟩ fun e => by cases e)
    · exact .put t _ _ _ _ (by simp [oneReg])
    · intro k hk
      simp [hk]
    · exact List.Subset.refl _
  case threshold =>
    intro s req ctx v d ht hd hrun
    have hk := ctx.thresh_line
    have hdk : s.sys.domOf ctx.claim.thresh = some d := by
      rw [← hd]
      cases ctx <;> rfl
    refine ht.icnWrite rfl rfl hdk hrun ctx.thresh_canon (fun t => by cases ctx <;> rfl) (ctx.offset_thresh _) fun t h _ hdt => ?_
    have hw : t.icnWrite (s.sys.whoIs req).1 ctx.claim.thresh v = t.threshWrite d ctx.claim.thresh v := by
      unfold Sys.icnWrite
      rw [hdt]
      cases ctx <;> rfl
    rw [hw]
    generalize ctx.claim.thresh = k at hk ⊢
    have hsame := (t.wr k (fput (t.rd k) 0 4 (fget v 0 4))).icnSync_same d
    refine ⟨rfl, ?_, List.all_eq_true.mpr fun q _ => ?_, State.only_withSys (h.frame_icn (but := lineReg) ?_)⟩
    · refine (hsame.thresholds k).trans ?_
      rw [Sys.rd_wr_self]
      exact fget_fput_self _ 0 4 _ (by decide) (fget_lt v 0 4)
    · by_cases hq : lineReg q.1 = true
      · by_cases e : q.1 = k
        · simp [e]
        · have hrd := hsame.thresholds q.1
          rw [Sys.rd_wr_other t k q.1 _ (Ne.symm e), h.thresholds q.1 hq] at hrd
          simp only [hq, Bool.or_eq_true, beq_iff_eq]
          exact .inr hrd
      · simp [hq]
    · exact (Sys.Frame.wr t k _ hk).trans hsame.frame
  case twice =>
    intro s req h g v ht hrun hres hother
    refine ht.icnGctx hrun fun t htouch hresid => ?_
    have hto : t.gctxWrite h g v = t.put F.ICN_DOM_STATUS_GCTX_ERR 1 (s.sys.hartKennel h) := by
      have hcond : fget v 63 1 = 1 ∧ (t.residents (t.hartKennel h) (fget v 0 10)).any (fun k => k ≠ ⟨.ICN_CTX_THRESH, h, g⟩) := by
        rw [hresid, htouch.hartKennel]
        exact ⟨hres, by simpa [bne_iff_ne] using hother⟩
      rw [← htouch.hartKennel]
      exact if_pos hcond
    rw [hto]
    refine ⟨rfl, t.rf_put_self F.ICN_DOM_STATUS_GCTX_ERR 1 _ 0 (by decide), State.only_withSys (htouch.frame_write ?_ ?_ ?_)⟩
    · exact .put t _ _ _ _ (by simp [oneReg])
    · intro k hk
      simp [hk]
    · exact List.Subset.refl _
  case resident =>
    intro s req h g v ht hrun hfree
    refine ht.icnGctx hrun fun t htouch hresid => ?_
    have hto : t.gctxWrite h g v =
        ((t.put F.ICN_GCTX_RESIDENT (fget v 63 1) h g).put F.ICN_GCTX_VCPU (fget v 0 10) h g).icnSync (t.hartKennel h) := by
      refine if_neg ?_
      rw [hresid, htouch.hartKennel]
      rintro ⟨hres, hany⟩
      rcases hfree with e | e
      · omega
      · simp only [List.any_eq_true, decide_eq_true_eq] at hany
        obtain ⟨k, hk, hne⟩ := hany
        exact hne (by simpa using List.all_eq_true.mp e k hk)
    rw [hto]
    have hsame := ((t.put F.ICN_GCTX_RESIDENT (fget v 63 1) h g).put F.ICN_GCTX_VCPU (fget v 0 10) h g).icnSync_same (t.hartKennel h)
    refine ⟨rfl, ?_, ?_, Sys.thresholds_all fun q hq => ?_,
      State.only_withSys (htouch.frame_icn (but := fun q => q == ⟨.ICN_GCTX, h, g⟩ || lineReg q) ?_)⟩
    · refine (hsame.rf_eq F.ICN_GCTX_RESIDENT _ _ rfl).trans ?_
      rw [Sys.rf_put_bits _ F.ICN_GCTX_VCPU _ _ _ _ _ _ (by decide)]
      exact (t.rf_put_self F.ICN_GCTX_RESIDENT _ _ _ (by decide)).trans (fget_mod v 63 1)
    · refine (hsame.rf_eq F.ICN_GCTX_VCPU _ _ rfl).trans ?_
      exact (Sys.rf_put_self _ F.ICN_GCTX_VCPU _ _ _ (by decide)).trans (fget_mod v 0 10)
    · refine (hsame.thresholds q).trans ?_
      rw [Sys.thresholds_put _ F.ICN_GCTX_VCPU _ _ _ rfl q hq, Sys.thresholds_put _ F.ICN_GCTX_RESIDENT _ _ _ rfl q hq, htouch.thresholds q hq]
    · exact ((Sys.Frame.put t _ _ _ _ (by simp)).trans (.put _ _ _ _ _ (by simp))).trans (hsame.frame.regs_mono fun q hq => by simp [hq])
  case read =>
    intro s req h g ht hrun
    refine ht.icnRead rfl rfl rfl hrun fun o ho hpres => ?_
    have hread : o.regRead ⟨.ICN_GCTX, h, g⟩ = (o.rd ⟨.ICN_GCTX, h, g⟩, o.wr ⟨.ICN_GCTX, h, g⟩ (accClear rows_ICN_GCTX (o.rd ⟨.ICN_GCTX, h, g⟩))) := by
      have hpres : o.present ⟨.ICN_GCTX, h, g⟩ = true := hpres
      unfold Sys.regRead
      rw [hpres]
      rfl
    have hclear : ∀ w, accClear rows_ICN_GCTX w = w := fun w => rfl
    rw [hclear] at hread
    show _ ∧ _
    rw [show (⟨.ICN_GCTX, h, g⟩ : RK).canon = ⟨.ICN_GCTX, h, g⟩ from rfl, hread, ho.rd]
    refine ⟨rfl, State.only_withSys ((ho.frame.trans ⟨fun k _ => ?_, fun q _ => by cases q <;> rfl⟩).trans (.answer _ _ rfl))⟩
    by_cases e : (⟨.ICN_GCTX, h, g⟩ : RK) = k
    · subst e
      rw [Sys.rd_wr_self, ho.rd]
    · exact Sys.rd_wr_other _ _ _ _ e
  case waits =>
    intro s req h g hl hadmits hposts hrun
    have ho : s.sys.Known (s.sys.opened ⟨req, ⟨.ICN_GCTX, h, g⟩, none, none⟩) := Sys.opened_running rfl hrun
    refine ⟨_, (onM_live _ s hl).trans (congrArg (fun x => Host.Outcome.next (s.after x)) hadmits.rowAccess), ?_⟩
    generalize hoff : s.sys.offsetOf (Access.mk req ⟨.ICN_GCTX, h, g⟩ none none).key = off
    have hperform : (⟨s.mem, (s.sys.whoIs req).2, []⟩ : M).regPerform (s.sys.whoIs req).1 ⟨.ICN_GCTX, h, g⟩ off 8 none none =
        ⟨s.mem, (s.sys.opened ⟨req, ⟨.ICN_GCTX, h, g⟩, none, none⟩).answer .waiting, []⟩ := by
      refine if_pos ?_
      show (s.sys.opened ⟨req, ⟨.ICN_GCTX, h, g⟩, none, none⟩).readWaits ⟨.ICN_GCTX, h, g⟩ = true
      unfold Sys.readWaits
      rw [ho.touched.hartKennel, show _ = _ from ho.touched.part .icn rfl]
      simpa using hposts
    show _ ∧ _
    rw [hperform]
    exact ⟨rfl, State.only_after rfl (ho.frame.trans (.answer _ _ rfl))⟩

end Sys2Proof.Machine
end

section
/-!
SUPPORT. Outbound requests of a root port (R443 to R445): the request of a command, the link that takes it, and what is sent, refused or logged.
-/
namespace Sys2Proof.Machine

/-! ## What a link sends -/

section
variable (s : Sys) (p j : Nat)

theorem Sys.link_when_lkTo (c : Bool) (st q i : Nat) : (s.when c (fun s => s.lkTo p j st)).link q i = s.link q i := by cases c <;> rfl

theorem Sys.link_lkSend (x : Tlp) : (s.lkSend p j x).link p j = { s.link p j with tx := x } :=
  (Sys.link_when_lkTo _ p j _ _ p j).trans (s.link_onLink_self p j (fun l => { l with tx := x }))

theorem Sys.link_showLink (q i : Nat) : (s.showLink p j).link q i = s.link q i := rfl

theorem Sys.linkUp_iff : s.linkUp p j = true ↔ s.lkState p j = lkUp ∨ s.lkState p j = lkL1 := by
  unfold Sys.linkUp Sys.lkState
  simp

/-- A link that is UP or in L1 is UP once it has woken. -/
theorem Sys.lkState_woken (h : s.linkUp p j = true) : (s.when (s.lkState p j == lkL1) (fun s => s.lkTo p j lkUp)).lkState p j = lkUp := by
  rcases (s.linkUp_iff p j).mp h with e | e
  · rw [e]
    exact e
  · rw [e]
    exact Sys.rf_put_self s F.IOP_LINK_STATUS_STATE lkUp p j (by decide)

theorem Sys.lkState_lkSend (x : Tlp) (h : s.linkUp p j = true) : (s.lkSend p j x).lkState p j = lkUp :=
  Sys.lkState_woken (s.onLink p j (fun l => { l with tx := x })) p j h

theorem Sys.lkState_showLink : (s.showLink p j).lkState p j = s.lkState p j :=
  (Sys.rf_put_bits _ F.IOP_LINK_STATUS_OB_IDLE F.IOP_LINK_STATUS_STATE _ _ _ _ _ (by decide)).trans
    (Sys.rf_put_bits _ F.IOP_LINK_STATUS_INB_IDLE _ _ _ _ _ _ (by decide))

theorem Sys.outIdle_showLink : (s.showLink p j).rf F.IOP_LINK_STATUS_OB_IDLE p j = b2n (s.link p j).out.isEmpty :=
  (Sys.rf_put_self _ F.IOP_LINK_STATUS_OB_IDLE _ _ _ (by decide)).trans (Nat.mod_eq_of_lt (b2n_lt _))

theorem Sys.inIdle_showLink : (s.showLink p j).rf F.IOP_LINK_STATUS_INB_IDLE p j = b2n (s.link p j).inq.isEmpty :=
  (Sys.rf_put_bits _ F.IOP_LINK_STATUS_OB_IDLE F.IOP_LINK_STATUS_INB_IDLE _ _ _ _ _ (by decide)).trans
    ((Sys.rf_put_self _ F.IOP_LINK_STATUS_INB_IDLE _ _ _ (by decide)).trans (Nat.mod_eq_of_lt (b2n_lt _)))

theorem Sys.lkSend_frameLink (x : Tlp) {parts : List Part} : Sys.FrameLink p j s (s.lkSend p j x) (lkReg p j) parts := by
  refine Sys.FrameAt.trans (Sys.FrameLink.onLink s (fun l => { l with tx := x })) (.when _ _ _ fun _ => ?_)
  exact ⟨Sys.lkTo_frame _ p j lkUp, fun _ _ => rfl⟩

theorem Sys.showLink_frameLink {parts : List Part} : Sys.FrameLink p j s (s.showLink p j) (lkReg p j) parts :=
  ⟨s.showLink_frame p j, fun _ _ => rfl⟩

/-- A request that is to be answered goes out on the link. -/
def Sys.linkAsk (s : Sys) (p j : Nat) (o : OutReq) (x : Tlp) : Sys := ((s.onLink p j (fun l => { l with out := l.out ++ [o] })).lkSend p j x).showLink p j

variable (o : OutReq) (x : Tlp)

theorem Sys.link_linkAsk : (s.linkAsk p j o x).link p j = { s.link p j with out := (s.link p j).out ++ [o], tx := x } := by
  unfold Sys.linkAsk
  rw [Sys.link_showLink, Sys.link_lkSend, Sys.link_onLink_self]

theorem Sys.lkState_linkAsk (h : s.linkUp p j = true) : (s.linkAsk p j o x).lkState p j = lkUp :=
  (Sys.lkState_showLink _ p j).trans (Sys.lkState_lkSend (s.onLink p j (fun l => { l with out := l.out ++ [o] })) p j x h)

theorem Sys.outIdle_linkAsk : (s.linkAsk p j o x).rf F.IOP_LINK_STATUS_OB_IDLE p j = 0 := by
  have h := Sys.outIdle_showLink ((s.onLink p j (fun l => { l with out := l.out ++ [o] })).lkSend p j x) p j
  rw [Sys.link_lkSend, Sys.link_onLink_self] at h
  exact h.trans (by simp [b2n])

theorem Sys.linkAsk_frame {parts : List Part} : Sys.FrameLink p j s (s.linkAsk p j o x) (lkReg p j) parts :=
  Sys.FrameAt.trans (Sys.FrameAt.trans (Sys.FrameLink.onLink s _) (Sys.lkSend_frameLink _ p j x)) (Sys.showLink_frameLink _ p j)

/-- An event of a known cause changes the log's registers alone. -/
theorem Sys.linkLog_frame_known (c : Nat) (addr : Option Nat) (r : Nat) {parts : List Part} : s.Frame (s.linkLog p j (some c) addr r) (logReg p j) parts := by
  have own (f : Fld) (v : Nat) (u : Sys) (h : f.reg = .IOP_LINK_ERR ∨ f.reg = .IOP_LINK_ERRADDR) : u.Frame (u.put f v p j) (logReg p j) parts :=
    .put u f v p j (by obtain h | h := h <;> simp [logReg, h])
  have htake (u : Sys) : u.Frame (u.logTake p j c addr r) (logReg p j) parts :=
    (((((own F.IOP_LINK_ERR_VALID 1 u (.inl rfl)).trans (own F.IOP_LINK_ERR_UE _ _ (.inl rfl))).trans (own F.IOP_LINK_ERR_REQ_ID _ _ (.inl rfl))).trans
      (own F.IOP_LINK_ERR_CAUSE _ _ (.inl rfl))).trans (own F.IOP_LINK_ERRADDR_ADDR _ _ (.inr rfl))).trans (own F.IOP_LINK_ERRADDR_ADDR_VALID _ _ (.inr rfl))
  have hbump : s.Frame (s.bump F.IOP_LINK_ERR_COUNT p j) (logReg p j) parts := own F.IOP_LINK_ERR_COUNT _ s (.inl rfl)
  rw [Sys.linkLog_eq]
  exact .ite (fun _ => hbump.trans (htake _)) fun _ => .ite (fun _ => hbump.trans (own F.IOP_LINK_ERR_OVERFLOW _ _ (.inl rfl))) fun _ => hbump

theorem Sys.linkLog_links (c addr : Option Nat) (r : Nat) : (s.linkLog p j c addr r).links = s.links := (s.linkLog_frame p j c addr r).2 .links rfl
theorem Sys.linkLog_msgs (c addr : Option Nat) (r : Nat) : (s.linkLog p j c addr r).msgs = s.msgs := (s.linkLog_frame p j c addr r).2 .msgs rfl

theorem Sys.linkLog_addr (c a r : Nat) (ha : a < 2 ^ 52) (hv : s.rf F.IOP_LINK_ERR_VALID p j = 0) :
    (s.linkLog p j (some c) (some a) r).rf F.IOP_LINK_ERRADDR_ADDR p j = a / 4 ∧ (s.linkLog p j (some c) (some a) r).rf F.IOP_LINK_ERRADDR_ADDR_VALID p j = 1 := by
  rw [s.linkLog_free p j c (some a) r hv]
  obtain ⟨haddr, hvalid⟩ := (s.bump F.IOP_LINK_ERR_COUNT p j).logTake_addr p j c r a
  refine ⟨haddr.trans (Nat.mod_eq_of_lt ?_), hvalid⟩
  show a / 4 < 2 ^ 62
  omega

end

/-! ## Answers -/

section
variable (s t : Sys) (w : Source) (pa n data : Nat) (poison err : Bool)

/-- An answer is added to the messages, and to nothing else. -/
theorem Sys.outAnswer_msgs (h : t.msgs = s.msgs) : (t.outAnswer w pa n data poison err).msgs = (s.outAnswer w pa n data poison err).msgs := by
  unfold Sys.outAnswer
  cases w <;> exact congrArg (· ++ [_]) h

theorem Sys.rf_outAnswer (f : Fld) (i k : Nat) : (t.outAnswer w pa n data poison err).rf f i k = t.rf f i k := by cases w <;> rfl
theorem Sys.links_outAnswer : (t.outAnswer w pa n data poison err).links = t.links := by cases w <;> rfl

theorem Sys.outAccepted_frame {but : RK → Bool} {parts : List Part} (h : parts.contains .msgs = true) : s.Frame (s.outAccepted w pa err) but parts := by
  cases w with
  | engine e => exact .set_msgs s _ h
  | _ => exact .refl s

theorem Sys.rf_outAccepted (f : Fld) (i k : Nat) : (t.outAccepted w pa err).rf f i k = t.rf f i k := by cases w <;> rfl
theorem Sys.links_outAccepted : (t.outAccepted w pa err).links = t.links := by cases w <;> rfl

end

/-! ## The request of a command -/

section
variable (s : Sys) (w : ReqSrc) (wr : Bool) (pa n data : Nat)

/-- Taking a request from the messages leaves all else. -/
theorem Sys.takeIo_eq : ∃ ms, (s.takeIo w wr pa n data).2 = { s with msgs := ms } := by
  unfold Sys.takeIo
  dsimp only
  split
  · exact ⟨_, rfl⟩
  · exact ⟨s.msgs, rfl⟩

/-- The part once the request of a command is taken. -/
def Sys.ioTaken (s : Sys) (w : ReqSrc) (wr : Bool) (pa n data : Nat) : Sys := (s.takeIo w wr pa n data).2

theorem Sys.ioTaken_frame {but : RK → Bool} : s.Frame (s.ioTaken w wr pa n data) but [.msgs] := by
  obtain ⟨ms, h⟩ := s.takeIo_eq w wr pa n data
  unfold Sys.ioTaken
  rw [h]
  exact .set_msgs s ms rfl

end

theorem Sys.isEp_of_isRoot {s : Sys} {p : Nat} (h : s.isRoot p = true) : s.isEp p = false := by
  simp only [Sys.isRoot, Bool.or_eq_true, beq_iff_eq] at h
  simp only [Sys.isEp, Bool.and_eq_false_iff, beq_eq_false_iff_ne]
  exact .inl (by omega)

theorem Sys.portOfPa_window {s : Sys} {pa p : Nat} (hr : regionOf pa = .window s.socket) (hp : s.portOfPa pa = some p) :
    (pa - portWindow s.socket 0) / 0x100000000000 = p := by
  unfold Sys.portOfPa at hp
  rw [hr] at hp
  simpa using hp

section
variable (s : Sys) (w : ReqSrc) (pa n data p j : Nat) (peer : Option (BitVec 512)) (hr : regionOf pa = .window s.socket)
  (hp : s.portOfPa pa = some p) (hroot : s.isRoot p = true)
include hr hp hroot

/-- The offset of an address in its port's window. -/
abbrev winOffset (k pa : Nat) : Nat := (pa - portWindow k 0) % 0x100000000000

/-- A read of a window that a link holds: refused by the owner rule, or by a link that is shut, or sent. -/
theorem Sys.outRead_link (hl : s.linkOfOffset p (winOffset s.socket pa) = some j) : s.outRead w pa n peer =
    let q := (s.takeIo w false pa n 0).1
    let u := s.ioTaken w false pa n 0
    if !s.linkAdmits p j q.2.1 q.2.2.1 false then (u.linkLog p j (some cObRefused) (some pa) 0).outAnswer q.1 pa q.2.2.2.1 0 false true
    else if s.linkShut p j then u.outAnswer q.1 pa q.2.2.2.1 0 false true
    else u.linkAsk p j ⟨.src q.1, .mem, pa, q.2.2.2.1⟩ (.memRead (winOffset s.socket pa) q.2.2.2.1) := by
  have hport := Sys.portOfPa_window hr hp
  have hep := Sys.isEp_of_isRoot hroot
  obtain ⟨ms, hu⟩ := s.takeIo_eq w false pa n 0
  unfold Sys.outRead Sys.ioTaken
  generalize s.takeIo w false pa n 0 = q at hu ⊢
  obtain ⟨⟨src, k, sec, n, d, poison⟩, u⟩ := q
  simp only at hu
  subst hu
  have hsock : ({ s with msgs := ms } : Sys).socket = s.socket := rfl
  have hroot' : ({ s with msgs := ms } : Sys).isRoot p = true := hroot
  have hep' : ({ s with msgs := ms } : Sys).isEp p = false := hep
  have hl' : ({ s with msgs := ms } : Sys).linkOfOffset p ((pa - portWindow s.socket 0) % 0x100000000000) = some j := hl
  simp only [hr, hsock, hport, hroot', hep', hl', ne_eq, not_true, if_false, Bool.false_eq_true, if_true, Bool.false_and, Bool.or_false]
  rfl

/-- A write of a window that a link holds. -/
theorem Sys.outWrite_link (hl : s.linkOfOffset p (winOffset s.socket pa) = some j) : s.outWrite w pa n data =
    let q := (s.takeIo w true pa n data).1
    let u := s.ioTaken w true pa n data
    if !s.linkAdmits p j q.2.1 q.2.2.1 false then (u.linkLog p j (some cObRefused) (some pa) 0).outAccepted q.1 pa true
    else if s.linkShut p j then (u.linkLog p j none (some pa) 0).outAccepted q.1 pa true
    else (u.lkSend p j (.memWrite (winOffset s.socket pa) q.2.2.2.1 q.2.2.2.2.1 q.2.2.2.2.2)).outAccepted q.1 pa false := by
  have hport := Sys.portOfPa_window hr hp
  have hep := Sys.isEp_of_isRoot hroot
  obtain ⟨ms, hu⟩ := s.takeIo_eq w true pa n data
  unfold Sys.outWrite Sys.ioTaken
  generalize s.takeIo w true pa n data = q at hu ⊢
  obtain ⟨⟨src, k, sec, n, d, poison⟩, u⟩ := q
  simp only at hu
  subst hu
  have hsock : ({ s with msgs := ms } : Sys).socket = s.socket := rfl
  have hroot' : ({ s with msgs := ms } : Sys).isRoot p = true := hroot
  have hep' : ({ s with msgs := ms } : Sys).isEp p = false := hep
  have hl' : ({ s with msgs := ms } : Sys).linkOfOffset p ((pa - portWindow s.socket 0) % 0x100000000000) = some j := hl
  simp only [hr, hsock, hport, hroot', hep', hl', ne_eq, not_true, if_false, Bool.false_eq_true, if_true, Bool.false_and]
  rfl

/-- A write of a window that no link holds is logged at the port's link 0. -/
theorem Sys.outWrite_none (hl : s.linkOfOffset p (winOffset s.socket pa) = none) : s.outWrite w pa n data =
    ((s.ioTaken w true pa n data).linkLog p 0 (some cUrDecode) (some pa) 0).outAccepted (s.takeIo w true pa n data).1.1 pa true := by
  have hport := Sys.portOfPa_window hr hp
  have hep := Sys.isEp_of_isRoot hroot
  obtain ⟨ms, hu⟩ := s.takeIo_eq w true pa n data
  unfold Sys.outWrite Sys.ioTaken
  generalize s.takeIo w true pa n data = q at hu ⊢
  obtain ⟨⟨src, k, sec, n, d, poison⟩, u⟩ := q
  simp only at hu
  subst hu
  have hsock : ({ s with msgs := ms } : Sys).socket = s.socket := rfl
  have hroot' : ({ s with msgs := ms } : Sys).isRoot p = true := hroot
  have hep' : ({ s with msgs := ms } : Sys).isEp p = false := hep
  have hl' : ({ s with msgs := ms } : Sys).linkOfOffset p ((pa - portWindow s.socket 0) % 0x100000000000) = none := hl
  simp only [hr, hsock, hport, hroot', hep', hl', ne_eq, not_true, if_false, Bool.false_eq_true, if_true]

end

end Sys2Proof.Machine
end

section
/-!
SUPPORT. Configuration accesses of a root port (R440, R443 to R445): the parts of a configuration address, the port's header, and the link of a bus.
-/
namespace Sys2Proof.Machine

/-! ## Configuration addresses -/

theorem nget_eq (n lo wd : Nat) : nget n lo wd = n / 2 ^ lo % 2 ^ wd := by rw [nget, Nat.shiftRight_eq_div_pow]

/-- The configuration space of a socket. -/
theorem regionOf_ecam {pa z : Nat} (h : regionOf pa = .ecam z) : z < 2 ∧ portSegment z 0 ≤ pa := by
  unfold portSegment
  simp only [regionOf, ite_eq_iff, reduceCtorEq, and_false, false_or, or_false, Region.ecam.injEq] at h
  omega

/-- The parts of an address of configuration space do not depend on where the space lies. -/
theorem cfgParts_eq {s : Sys} {pa p : Nat} (hr : regionOf pa = .ecam s.socket) (hp : s.portOfPa pa = some p) :
    cfgParts s.socket pa = (p, nget pa 20 8, nget pa 15 5, nget pa 12 3, nget pa 0 12) := by
  have hport : (pa - portSegment s.socket 0) / 0x10000000 = p := by
    unfold Sys.portOfPa at hp
    rw [hr] at hp
    simpa using hp
  obtain ⟨-, hle⟩ := regionOf_ecam hr
  unfold portSegment at hport hle
  unfold cfgParts portSegment
  simp only [nget_eq, Prod.mk.injEq]
  generalize s.socket = z at hport hle ⊢
  refine ⟨hport, ?_, ?_, ?_, ?_⟩ <;> omega

/-- An address of a root port's header. -/
theorem cfgParts_header {pa j dw : Nat} (hj : j < 4) (hdw : dw < 16) (h : pa % 0x10000000 = j * 2 ^ 15 + 4 * dw + pa % 4) :
    nget pa 20 8 = 0 ∧ nget pa 15 5 = j ∧ nget pa 12 3 = 0 ∧ nget pa 0 12 = 4 * dw + pa % 4 := by
  simp only [nget_eq]
  refine ⟨?_, ?_, ?_, ?_⟩ <;> omega

section
variable (s : Sys) (w : ReqSrc) (pa n data p j : Nat) (peer : Option (BitVec 512)) (hr : regionOf pa = .ecam s.socket)
  (hp : s.portOfPa pa = some p) (hroot : s.isRoot p = true)
include hr hp hroot

/-- A read of a doubleword of the header that governs the link. -/
theorem Sys.cfgRead_header (dw : Nat) (hj : j < 4) (hdw : [6, 8, 9, 10, 11, 15].contains dw = true) (hpa : pa % 0x10000000 = j * 2 ^ 15 + 4 * dw + pa % 4)
    (hlink : s.hasLink p j = true) (hn : (s.takeIo w false pa n 0).1.2.2.2.1 = n) (h4 : n ≤ 4) (hal : pa % n = 0)
    (hadm : s.linkAdmits p j (s.takeIo w false pa n 0).1.2.1 (s.takeIo w false pa n 0).1.2.2.1 true = true) :
    s.cfgRead w pa n peer = (s.ioTaken w false pa n 0).usedFree.outAnswer (s.takeIo w false pa n 0).1.1 pa n
      (nget (s.hdr p j dw) (8 * (pa % 4)) (8 * n)) false false := by
  have hlt : dw < 16 ∧ dw ≠ 1 ∧ ∃ m, hdrMask dw = some m := by
    simp only [List.contains_iff_mem, List.mem_cons, List.not_mem_nil, or_false] at hdw
    rcases hdw with rfl | rfl | rfl | rfl | rfl | rfl <;> exact ⟨by decide, by decide, _, rfl⟩
  obtain ⟨hlt, hne, m, hmask⟩ := hlt
  obtain ⟨hbus, hdev, hfn, hreg⟩ := cfgParts_header hj hlt hpa
  have hparts := cfgParts_eq hr hp
  rw [hbus, hdev, hfn, hreg] at hparts
  have hdiv : (4 * dw + pa % 4) / 4 = dw := by omega
  have hmod : (4 * dw + pa % 4) % 4 = pa % 4 := by omega
  obtain ⟨ms, hu⟩ := s.takeIo_eq w false pa n 0
  unfold Sys.cfgRead Sys.ioTaken
  generalize s.takeIo w false pa n 0 = q at hu hn hadm ⊢
  split
  next src k sec n' d poison u =>
  simp only at hu hn hadm
  subst hu hn
  have hroot' : ({ s with msgs := ms } : Sys).isRoot p = true := hroot
  have hlink' : ({ s with msgs := ms } : Sys).hasLink p j = true := hlink
  have hadm' : ({ s with msgs := ms } : Sys).linkAdmits p j k sec true = true := hadm
  extract_lets ok fail
  rw [hr]
  split
  next z hz =>
    cases hz
    rw [if_neg (fun h => h rfl), if_neg (by simp [Nat.not_lt.mpr h4, hal])]
    split
    next p' b dv fn reg heq =>
    rw [hparts] at heq
    cases heq
    rw [if_neg (by simp [hroot']), if_pos rfl, if_neg (by simp [hj, hlink']), if_neg (by simp [hadm']), hdiv, hmask]
    split
    next =>
      extract_lets v v'
      have hv : v' = v := if_neg hne
      rw [hmod, hv]
      rfl
    next h => cases h
  next h => exact absurd rfl (h _)

/-- A read of a bus behind a link. -/
theorem Sys.cfgRead_bus (hb : nget pa 20 8 ≠ 0) (hl : s.linkOfBus p (nget pa 20 8) = some j) (hn : (s.takeIo w false pa n 0).1.2.2.2.1 = n)
    (h4 : n ≤ 4) (hal : pa % n = 0) (hadm : s.linkAdmits p j (s.takeIo w false pa n 0).1.2.1 (s.takeIo w false pa n 0).1.2.2.1 true = true)
    (hopen : s.linkShut p j = false) : s.cfgRead w pa n peer = (s.ioTaken w false pa n 0).linkAsk p j ⟨.src (s.takeIo w false pa n 0).1.1, .cfgRead, pa, n⟩
      (.cfgRead (nget pa 20 8 != nget (s.hdr p j 6) 8 8) (pa % 0x10000000) n) := by
  have hparts := cfgParts_eq hr hp
  obtain ⟨ms, hu⟩ := s.takeIo_eq w false pa n 0
  unfold Sys.cfgRead Sys.ioTaken
  generalize s.takeIo w false pa n 0 = q at hu hn hadm ⊢
  split
  next src k sec n' d poison u =>
  simp only at hu hn hadm
  subst hu hn
  have hroot' : ({ s with msgs := ms } : Sys).isRoot p = true := hroot
  have hl' : ({ s with msgs := ms } : Sys).linkOfBus p (nget pa 20 8) = some j := hl
  have hadm' : ({ s with msgs := ms } : Sys).linkAdmits p j k sec true = true := hadm
  have hopen' : ({ s with msgs := ms } : Sys).linkShut p j = false := hopen
  extract_lets ok fail
  rw [hr]
  split
  next z hz =>
    cases hz
    rw [if_neg (fun h => h rfl), if_neg (by simp [Nat.not_lt.mpr h4, hal])]
    split
    next p' b dv fn reg heq =>
    rw [hparts] at heq
    cases heq
    rw [if_neg (by simp [hroot']), if_neg hb, hl']
    split
    next h => cases h
    next i hi =>
      cases hi
      rw [if_neg (by simp [hadm']), if_neg (by simp [hopen'])]
      rfl
  next h => exact absurd rfl (h _)

/-- A write of the header. -/
theorem Sys.cfgWrite_header (dw off : Nat) (hj : j < 4) (hdw : dw < 16) (hoff : pa % 4 = off) (hpa : pa % 0x10000000 = j * 2 ^ 15 + 4 * dw + pa % 4)
    (hlink : s.hasLink p j = true) (h4 : n ≤ 4) (hal : pa % n = 0) {src : Source} {k : Nat} {sec : Bool}
    (hq : (s.takeIo w true pa n data).1 = (src, k, sec, n, data, false)) (hadm : s.linkAdmits p j k sec true = true) :
    s.cfgWrite w pa n data = (s.ioTaken w true pa n data).hdrWrite p j dw off n data := by
  obtain ⟨hbus, hdev, hfn, hreg⟩ := cfgParts_header hj hdw hpa
  have hparts := cfgParts_eq hr hp
  rw [hbus, hdev, hfn, hreg, hoff] at hparts
  have hdiv : (4 * dw + off) / 4 = dw := by omega
  have hmod : (4 * dw + off) % 4 = off := by omega
  obtain ⟨ms, hu⟩ := s.takeIo_eq w true pa n data
  unfold Sys.cfgWrite Sys.ioTaken
  generalize s.takeIo w true pa n data = q at hu hq ⊢
  split
  next src' k' sec' n' d _ u =>
  simp only [Prod.mk.injEq] at hu hq
  obtain ⟨rfl, rfl, rfl, rfl, rfl, rfl⟩ := hq
  subst hu
  have hroot' : ({ s with msgs := ms } : Sys).isRoot p = true := hroot
  have hlink' : ({ s with msgs := ms } : Sys).hasLink p j = true := hlink
  have hadm' : ({ s with msgs := ms } : Sys).linkAdmits p j k' sec' true = true := hadm
  rw [hr]
  split
  next z hz =>
    cases hz
    have hsock : ({ s with msgs := ms } : Sys).socket = s.socket := rfl
    rw [if_neg (by simp [Nat.not_lt.mpr h4, hal, hsock])]
    split
    next p' b dv fn reg heq =>
    rw [hparts] at heq
    cases heq
    rw [if_neg (by simp [hroot']), if_pos rfl, if_neg (by simp [hj, hlink']), if_neg (by simp [hadm']), hdiv, hmod]
  next h => exact absurd rfl (h _)

end

/-! ## The header -/

section
variable (s : Sys) (p j dw off n data : Nat)

/-- The header's doubleword after a write of some of its bytes. -/
def hdrWord (old m off n data : Nat) : Nat :=
  let lanes := (2 ^ (8 * n) - 1) * 2 ^ (8 * off)
  ((old - (old &&& lanes)) ||| ((data * 2 ^ (8 * off)) &&& lanes)) &&& m

/-- A doubleword of the header takes a value. -/
def Sys.hdrPut (s : Sys) (p j dw v : Nat) : Sys := s.onLink p j (fun l => { l with cfg := Bank.set l.cfg dw v })

theorem Sys.hdrWrite_eq {m : Nat} (hm : hdrMask dw = some m) : s.hdrWrite p j dw off n data =
    (s.hdrPut p j dw (hdrWord (s.hdr p j dw) m off n data)).put F.IOP_LINK_STATUS_BME
      (b2n ((s.hdrPut p j dw (hdrWord (s.hdr p j dw) m off n data)).rootBme p j)) p j := by
  unfold Sys.hdrWrite
  rw [hm]
  rfl

theorem Sys.link_hdrPut (v : Nat) : (s.hdrPut p j dw v).link p j = { s.link p j with cfg := Bank.set (s.link p j).cfg dw v } :=
  s.link_onLink_self p j (fun l => { l with cfg := Bank.set l.cfg dw v })

theorem Sys.hdr_hdrPut_self (v : Nat) : (s.hdrPut p j dw v).hdr p j dw = v := by
  unfold Sys.hdr
  rw [Sys.link_hdrPut]
  exact Bank.getD_set_self ..

theorem Sys.hdr_hdrPut_other (v d : Nat) (h : d ≠ dw) : (s.hdrPut p j dw v).hdr p j d = s.hdr p j d := by
  unfold Sys.hdr
  rw [Sys.link_hdrPut]
  exact Bank.getD_set_other _ _ _ _ _ (Ne.symm h)

theorem Sys.hdrPut_frame (v : Nat) {but : RK → Bool} {parts : List Part} : Sys.FrameLink p j s (s.hdrPut p j dw v) but parts := Sys.FrameLink.onLink s _

variable {m : Nat} (hm : hdrMask dw = some m)
include hm

theorem Sys.hdr_hdrWrite (d : Nat) : (s.hdrWrite p j dw off n data).hdr p j d = if d = dw then hdrWord (s.hdr p j dw) m off n data else s.hdr p j d := by
  rw [s.hdrWrite_eq p j dw off n data hm]
  show (s.hdrPut p j dw (hdrWord (s.hdr p j dw) m off n data)).hdr p j d = _
  split
  · next e => rw [e, Sys.hdr_hdrPut_self]
  · next e => exact Sys.hdr_hdrPut_other _ _ _ _ _ _ e

theorem Sys.link_hdrWrite : (s.hdrWrite p j dw off n data).link p j =
    { s.link p j with cfg := Bank.set (s.link p j).cfg dw (hdrWord (s.hdr p j dw) m off n data) } := by
  rw [s.hdrWrite_eq p j dw off n data hm]
  exact Sys.link_hdrPut ..

theorem Sys.bme_hdrWrite : (s.hdrWrite p j dw off n data).rf F.IOP_LINK_STATUS_BME p j = b2n ((s.hdrWrite p j dw off n data).rootBme p j) := by
  rw [s.hdrWrite_eq p j dw off n data hm]
  exact (Sys.rf_put_self _ _ _ _ _ (by decide)).trans (Nat.mod_eq_of_lt (b2n_lt _))

theorem Sys.hdrWrite_frame {parts : List Part} : Sys.FrameLink p j s (s.hdrWrite p j dw off n data) (lkReg p j) parts := by
  rw [s.hdrWrite_eq p j dw off n data hm]
  exact Sys.FrameAt.trans (s.hdrPut_frame p j dw (hdrWord (s.hdr p j dw) m off n data)) (Sys.FrameLink.put _ _ _ _ _ (by simp [lkReg]))

end

/-- What a write of the low `n` bytes leaves of the bits below them. -/
theorem hdrWord_testBit (old m n data i : Nat) : (hdrWord old m 0 n data).testBit i = ((if i < 8 * n then data.testBit i else old.testBit i) && m.testBit i) := by
  unfold hdrWord
  have hkeep : old - (old &&& ((2 ^ (8 * n) - 1) * 2 ^ (8 * 0))) = old / 2 ^ (8 * n) * 2 ^ (8 * n) := by
    rw [Nat.mul_zero, Nat.pow_zero, Nat.mul_one, Nat.and_two_pow_sub_one_eq_mod]
    have := Nat.div_add_mod' old (2 ^ (8 * n))
    omega
  dsimp only
  rw [hkeep, Nat.mul_zero, Nat.pow_zero, Nat.mul_one, Nat.mul_one, Nat.and_two_pow_sub_one_eq_mod, Nat.testBit_and, Nat.testBit_or,
    Nat.testBit_mul_two_pow, Nat.testBit_mod_two_pow, Nat.testBit_div_two_pow]
  by_cases h : i < 8 * n
  · simp [h, Nat.not_le.mpr h]
  · simp [h, Nat.not_lt.mp h]

/-- A write of a whole doubleword stores its writable bits. -/
theorem hdrWord_whole (old m data : Nat) (hm : m < 2 ^ 32) : hdrWord old m 0 4 data = (data % 2 ^ 32) &&& m := by
  apply Nat.eq_of_testBit_eq
  intro i
  rw [hdrWord_testBit, Nat.testBit_and, Nat.testBit_mod_two_pow]
  by_cases h : i < 32
  · simp [h]
  · have : m.testBit i = false := Nat.testBit_lt_two_pow (Nat.lt_of_lt_of_le hm (Nat.pow_le_pow_right (by decide) (Nat.not_lt.mp h)))
    simp [this]

/-- The bits of a number with one bit set or cleared. -/
theorem testBit_setBit (m i k : Nat) (v : Bool) : (setBit m i v).testBit k = if k = i then v else m.testBit k := by
  cases v with
  | true =>
    have h : setBit m i true = m ||| 2 ^ i := rfl
    rw [h, Nat.testBit_or, Nat.testBit_two_pow]
    by_cases e : k = i
    · simp [e]
    · simp [e, Ne.symm e]
  | false =>
    by_cases e : k = i
    · rw [if_pos e, e, ← bit_eq_testBit, bit_setBit_false]
    · rw [if_neg e]
      have hset : setBit m i false = m - (m.testBit i).toNat * 2 ^ i := congrArg (m - ·) (Nat.and_two_pow m i)
      rw [hset]
      cases hb : m.testBit i with
      | false => simp
      | true =>
        have hl : m % 2 ^ i < 2 ^ i := Nat.mod_lt _ (Nat.two_pow_pos i)
        have hodd : m / 2 ^ i % 2 = 1 := by
          rw [Nat.testBit_eq_decide_div_mod_eq] at hb
          exact of_decide_eq_true hb
        have hm : m = 2 ^ i * (2 * (m / 2 ^ i / 2) + 1) + m % 2 ^ i := by
          have hq : 2 * (m / 2 ^ i / 2) + 1 = m / 2 ^ i := by omega
          rw [hq, Nat.div_add_mod]
        have hsub : m - 2 ^ i = 2 ^ i * (2 * (m / 2 ^ i / 2)) + m % 2 ^ i := by
          have hmul : 2 ^ i * (2 * (m / 2 ^ i / 2) + 1) = 2 ^ i * (2 * (m / 2 ^ i / 2)) + 2 ^ i := by ring
          omega
        have hone : Bool.toNat true * 2 ^ i = 2 ^ i := Nat.one_mul _
        rw [hone, hsub]
        conv_rhs => rw [hm]
        rw [Nat.testBit_two_pow_mul_add _ hl, Nat.testBit_two_pow_mul_add _ hl]
        split
        · rfl
        · next hk =>
          obtain ⟨d, hd⟩ : ∃ d, k - i = d + 1 := ⟨k - i - 1, by omega⟩
          have h1 : 2 * (m / 2 ^ i / 2) / 2 = m / 2 ^ i / 2 := by omega
          have h2 : (2 * (m / 2 ^ i / 2) + 1) / 2 = m / 2 ^ i / 2 := by omega
          rw [hd, Nat.testBit_succ, Nat.testBit_succ, h1, h2]

theorem bit_setBit (m i k : Nat) (v : Bool) : bit (setBit m i v) k = if k = i then v else bit m k := by
  rw [bit_eq_testBit, testBit_setBit, bit_eq_testBit]

end Sys2Proof.Machine
end

section
/-!
SUPPORT. Inbound requests of a root port (R447 to R453): what becomes of a request that enters an empty queue, and of one that is refused.
-/
namespace Sys2Proof.Machine

/-! ## Requests that are sent -/

section
variable (s : Sys) {r : Req}

/-- The grains of a request are taken at its stop. -/
def Sys.charged (s : Sys) (i : Nat) (r : Req) : Sys :=
  s.onStop i (fun t => { t with
    mem := Bank.set t.mem r.kennel (Bank.getD t.mem r.kennel 0 - r.charge.1), inj := t.inj - (if i < 64 then r.charge.2 else 0) })

/-- A stop that runs short of a kennel's grains asks for a chunk. -/
def Sys.asksChunk (s : Sys) (i : Nat) (r : Req) : Sys :=
  s.when (decide (Bank.getD (s.stop i).mem r.kennel 0 < 64) && !(s.stop i).asked.contains r.kennel && decide (0 < r.charge.1))
    (fun s => s.onStop i (fun t => { t with asked := r.kennel :: t.asked }))

/-- The departure of a request that no engine makes. -/
theorem Sys.depart_io {i n : Nat} (hr : ∀ e, r.who ≠ .engine e) (hh : s.homeFor r = some n) :
    s.depart i r = ({ s.charged i r with msgs := s.msgs ++ [Msg.req n r] } : Sys).asksChunk i r := by
  unfold Sys.depart
  rw [hh]
  cases hw : r.who with
  | engine e => exact absurd hw (hr e)
  | _ => rfl

theorem Sys.depart_none {i : Nat} (hh : s.homeFor r = none) : s.depart i r = s := by
  unfold Sys.depart
  rw [hh]

theorem Sys.depart_frame_io (i : Nat) (hr : ∀ e, r.who ≠ .engine e) {but : RK → Bool} {parts : List Part} (hs : parts.contains .stops = true)
    (hm : parts.contains .msgs = true) : s.Frame (s.depart i r) but parts := by
  cases hh : s.homeFor r with
  | none =>
    rw [s.depart_none hh]
    exact .refl s
  | some n =>
    rw [s.depart_io hr hh]
    exact ((s.onStop_frame i _ hs).trans (.set_msgs _ _ hm)).trans (.when _ _ _ fun _ => Sys.onStop_frame _ i _ hs)

/-- A request that no engine makes changes no credit of the Retriever. -/
theorem Sys.send_frame_io (hr : ∀ e, r.who ≠ .engine e) : s.Frame (s.send r) grainReg stopParts := by
  refine .ite (fun _ => .ite (fun _ => .refl s) fun _ => .set_msgs s _ rfl) fun _ => ?_
  split
  · refine .ite (fun _ => .ite (fun _ => .refl s) fun _ => s.onStop_frame _ _ rfl) fun _ => ?_
    exact (s.depart_frame_io _ hr rfl rfl).trans (Sys.showStop_frame _ _ rfl)
  · exact .ite (fun _ => .refl s) fun _ => (s.onStop_frame _ _ rfl).trans (Sys.showStop_frame _ _ rfl)

end

/-- Nothing under way, and nothing held at a stop, is lost. -/
def Sys.Grows (s t : Sys) : Prop := (∀ m ∈ s.msgs, m ∈ t.msgs) ∧ ∀ i, ∀ r ∈ (s.stop i).held, r ∈ (t.stop i).held

section
variable {s t u : Sys}

theorem Sys.Grows.refl (s : Sys) : s.Grows s := ⟨fun _ h => h, fun _ _ h => h⟩
theorem Sys.Grows.trans (h : s.Grows t) (g : t.Grows u) : s.Grows u := ⟨fun m hm => g.1 m (h.1 m hm), fun i r hr => g.2 i r (h.2 i r hr)⟩

theorem Sys.Grows.onStop (s : Sys) (i : Nat) (f : Stop → Stop) (hf : ∀ r ∈ (s.stop i).held, r ∈ (f (s.stop i)).held) : s.Grows (s.onStop i f) := by
  refine ⟨fun _ h => h, fun k r hr => ?_⟩
  by_cases e : k = i
  · subst e
    rw [Sys.stop_onStop_self]
    exact hf r hr
  · rw [Sys.stop_onStop_other (h := e)]
    exact hr

theorem Sys.Grows.showStop (s : Sys) (i : Nat) : s.Grows (s.showStop i) :=
  ⟨fun m hm => by rw [Sys.msgs_showStop]; exact hm, fun k r hr => by rw [Sys.stop_showStop]; exact hr⟩

theorem Sys.Grows.add (s : Sys) (m : Msg) : s.Grows { s with msgs := s.msgs ++ [m] } := ⟨fun _ h => List.mem_append_left _ h, fun _ _ h => h⟩

/-- A request is under way to its home, held at its stop, or answered with an error because it has no home. -/
def Sys.Carries (s : Sys) (r : Req) : Prop := (∃ n, Msg.req n r ∈ s.msgs) ∨ r.errorMsg ∈ s.msgs ∨ r ∈ (s.stop r.who.stop).held

theorem Sys.Carries.grows {r : Req} (h : s.Carries r) (g : s.Grows t) : t.Carries r := by
  rcases h with ⟨n, h⟩ | h | h
  · exact .inl ⟨n, g.1 _ h⟩
  · exact .inr (.inl (g.1 _ h))
  · exact .inr (.inr (g.2 _ _ h))

end

section
variable (s : Sys) {r : Req} (hr : ∀ e, r.who ≠ .engine e)
include hr

theorem Sys.depart_carries (i : Nat) (hh : (s.homeFor r).isNone = false) : s.Grows (s.depart i r) ∧ ∃ n, Msg.req n r ∈ (s.depart i r).msgs := by
  cases hn : s.homeFor r with
  | none =>
    rw [hn] at hh
    exact Bool.noConfusion hh
  | some n =>
    have hcharge : s.Grows (s.charged i r) := .onStop s i _ fun _ h => h
    have hsent : s.Grows { s.charged i r with msgs := s.msgs ++ [Msg.req n r] } := hcharge.trans (.add (s.charged i r) _)
    have hasks (u : Sys) : u.Grows (u.asksChunk i r) := by
      unfold Sys.asksChunk Sys.when
      split
      · exact .onStop u i _ fun _ h => h
      · exact .refl u
    rw [s.depart_io hr hn]
    exact ⟨hsent.trans (hasks _), n, (hasks _).1 _ (List.mem_append_right _ (List.mem_singleton_self _))⟩

/-- A request that is no prefetch is not lost. -/
theorem Sys.send_carries (hp : r.isPrefetch = false) : s.Grows (s.send r) ∧ (s.send r).Carries r := by
  unfold Sys.send
  dsimp only
  rw [hp]
  have hheld (u : Sys) (f : Stop → Stop) (hf : (f (u.stop r.who.stop)).held = (u.stop r.who.stop).held ++ [r]) :
      u.Grows (u.onStop r.who.stop f) ∧ (u.onStop r.who.stop f).Carries r := by
    refine ⟨.onStop u _ _ fun q hq => ?_, .inr (.inr ?_)⟩
    · rw [hf]
      exact List.mem_append_left _ hq
    · rw [Sys.stop_onStop_self, hf]
      exact List.mem_append_right _ (List.mem_singleton_self _)
  cases hh : (s.homeFor r).isNone with
  | true => exact ⟨.add s _, .inr (.inl (List.mem_append_right _ (List.mem_singleton_self _)))⟩
  | false =>
    simp only [Bool.false_eq_true, if_false]
    split
    · split
      · exact hheld s _ rfl
      · obtain ⟨hgrow, n, hn⟩ := s.depart_carries hr r.who.stop hh
        exact ⟨hgrow.trans (.showStop _ _), (Sys.Carries.grows (.inl ⟨n, hn⟩) (.showStop _ _))⟩
    · next w _ =>
      obtain ⟨hgrow, hcarry⟩ := hheld s (fun t => { t with
        held := t.held ++ [r], asked := if w = .mem ∧ !t.asked.contains r.kennel then r.kennel :: t.asked else t.asked }) rfl
      exact ⟨hgrow.trans (.showStop _ _), hcarry.grows (.showStop _ _)⟩

end

/-! ## A request enters an empty queue -/

section
variable (s : Sys) (p j : Nat) (r : InReq)

/-- The request that a line of an inbound request makes. -/
def InReq.lineReq (p j : Nat) (r : InReq) (l : Nat) : Req :=
  let (b, m) := inLine r.addr r.n l
  let q : Req := { kind := if r.kind = .read then .devRd else .devWr, line := l, who := .port p j, kennel := r.kennel, secure := r.secure }
  if r.kind = .read then q
  else { q with data := partOf r.data r.addr l b m, mask := BitVec.ofNat 64 ((2 ^ m - 1) * 2 ^ (b % 64)), poison := r.poison }

theorem Sys.inSend_eq : s.inSend p j r = s.each r.todo (fun s l => s.send (r.lineReq p j l)) := rfl

theorem InReq.lineReq_read (l : Nat) (h : r.kind = .read) :
    r.lineReq p j l = { kind := .devRd, line := l, who := .port p j, kennel := r.kennel, secure := r.secure } := by
  unfold InReq.lineReq
  rw [h]
  rfl

theorem InReq.lineReq_write (l : Nat) (h : r.kind ≠ .read) :
    r.lineReq p j l =
      { kind := .devWr, line := l, who := .port p j, kennel := r.kennel, secure := r.secure,
        data := partOf r.data r.addr l (inLine r.addr r.n l).1 (inLine r.addr r.n l).2,
        mask := BitVec.ofNat 64 ((2 ^ (inLine r.addr r.n l).2 - 1) * 2 ^ ((inLine r.addr r.n l).1 % 64)), poison := r.poison } := by
  unfold InReq.lineReq
  simp only [if_neg h]

theorem InReq.lineReq_noEngine (l e : Nat) : (r.lineReq p j l).who ≠ .engine e := by
  by_cases h : r.kind = .read
  · rw [r.lineReq_read p j l h]
    exact fun h => by cases h
  · rw [r.lineReq_write p j l h]
    exact fun h => by cases h

theorem InReq.lineReq_noPrefetch (l : Nat) : (r.lineReq p j l).isPrefetch = false := by
  by_cases h : r.kind = .read
  · rw [r.lineReq_read p j l h]
    rfl
  · rw [r.lineReq_write p j l h]
    rfl

theorem Sys.inSend_frame_io : s.Frame (s.inSend p j r) grainReg stopParts := .each s _ _ fun t l _ => t.send_frame_io (r.lineReq_noEngine p j l)

theorem Sys.inSend_carries : s.Grows (s.inSend p j r) ∧ ∀ l ∈ r.todo, (s.inSend p j r).Carries (r.lineReq p j l) := by
  rw [Sys.inSend_eq]
  unfold Sys.each
  generalize r.todo = ls
  induction ls generalizing s with
  | nil => exact ⟨.refl s, fun l hl => absurd hl List.not_mem_nil⟩
  | cons a ls ih =>
    obtain ⟨hgrow, hcarry⟩ := s.send_carries (r.lineReq_noEngine p j a) (r.lineReq_noPrefetch p j a)
    obtain ⟨hgrow', hcarry'⟩ := ih (s.send (r.lineReq p j a))
    refine ⟨hgrow.trans hgrow', fun l hl => ?_⟩
    rcases List.mem_cons.mp hl with rfl | hl
    · exact hcarry.grows hgrow'
    · exact hcarry' l hl

/-- A request is put into the link's empty queue under the next number. -/
def Sys.inQueued (s : Sys) (p j : Nat) (r : InReq) : Sys :=
  s.onLink p j (fun l => { l with inq := l.inq ++ [{ r with id := (s.link p j).nextId }], nextId := (s.link p j).nextId + 1 })

/-- A request whose lines have all been sent. -/
def InReq.sent (r : InReq) : InReq := { r with todo := [], waits := r.todo }

/-- A request of memory in the queue, with its lines sent. -/
def Sys.inSent (s : Sys) (p j : Nat) (r : InReq) : Sys :=
  let q : InReq := { r with id := (s.link p j).nextId }
  (((s.inQueued p j r).inTo p j q.sent).inSend p j q).showLink p j

theorem Sys.link_inQueued (hq : (s.link p j).inq = []) : (s.inQueued p j r).link p j =
    { s.link p j with inq := [{ r with id := (s.link p j).nextId }], nextId := (s.link p j).nextId + 1 } := by
  unfold Sys.inQueued
  rw [Sys.link_onLink_self, hq]
  rfl

theorem Sys.resetGo_none (h : (s.link p j).reset = .none) : s.resetGo p j = s := if_neg (by simp [h])

theorem Sys.inPump_one (hq : (s.link p j).inq.map (·.id) = [n]) : s.inPump p j = ((s.inStep p j n).showLink p j).resetGo p j := by
  unfold Sys.inPump
  rw [hq]
  rfl

theorem Sys.inPut_eq : s.inPut p j r = (s.inQueued p j r).inPump p j := rfl

/-- A request of memory at the head of the queue has its lines sent, and waits for their answers. -/
theorem Sys.inStep_memory {q : InReq} {id : Nat} (hfind : (s.link p j).inq.find? (fun r => r.id = id) = some q)
    (hfirst : (s.link p j).inq.takeWhile (fun r => r.id ≠ id) = []) (hk : q.kind = .read ∨ q.kind = .write) (htodo : q.todo ≠ []) (hwaits : q.waits = [])
    (hafter : (((s.inTo p j q.sent).inSend p j q).link p j).inq.find? (fun r => r.id = id) = some q.sent) :
    s.inStep p j id = (s.inTo p j q.sent).inSend p j q := by
  have hempty : q.todo.isEmpty = false := by simpa using htodo
  unfold Sys.inStep
  rw [hfind, hfirst]
  dsimp only
  rcases hk with hk | hk
  · rw [hk]
    dsimp only
    have hsent : ({ q with kind := .read, todo := [], waits := q.todo } : InReq) = q.sent := by rw [← hk]; rfl
    rw [hempty, if_neg (by decide), hsent, hafter]
    exact if_neg (by simp [InReq.sent, htodo])
  · rw [hk]
    dsimp only
    have hsent : ({ q with kind := .write, todo := [], waits := q.waits ++ q.todo } : InReq) = q.sent := by rw [← hk, hwaits]; rfl
    rw [hempty, if_neg (by simp), hsent, hafter]
    exact if_neg (by simp [InReq.sent, htodo])

/-- A request of memory that enters an empty queue has its lines sent. -/
theorem Sys.inPut_memory (hq : (s.link p j).inq = []) (hreset : (s.link p j).reset = .none) (hk : r.kind = .read ∨ r.kind = .write) (htodo : r.todo ≠ [])
    (hwaits : r.waits = []) : s.inPut p j r = s.inSent p j r ∧
      (s.inSent p j r).link p j = { s.link p j with inq := [({ r with id := (s.link p j).nextId } : InReq).sent], nextId := (s.link p j).nextId + 1 } := by
  have hqueue := s.link_inQueued p j r hq
  have hto : ((s.inQueued p j r).inTo p j ({ r with id := (s.link p j).nextId } : InReq).sent).link p j =
      { s.link p j with inq := [({ r with id := (s.link p j).nextId } : InReq).sent], nextId := (s.link p j).nextId + 1 } := by
    unfold Sys.inTo
    rw [Sys.link_onLink_self, hqueue]
    simp [InReq.sent]
  have hsend : (((s.inQueued p j r).inTo p j ({ r with id := (s.link p j).nextId } : InReq).sent).inSend p j { r with id := (s.link p j).nextId }).link p j =
      { s.link p j with inq := [({ r with id := (s.link p j).nextId } : InReq).sent], nextId := (s.link p j).nextId + 1 } :=
    (Sys.link_of_links ((Sys.inSend_frame_io _ p j _).2 .links rfl) p j).trans hto
  have hstep : (s.inQueued p j r).inStep p j (s.link p j).nextId =
      ((s.inQueued p j r).inTo p j ({ r with id := (s.link p j).nextId } : InReq).sent).inSend p j { r with id := (s.link p j).nextId } := by
    refine Sys.inStep_memory _ p j ?_ ?_ hk htodo hwaits ?_
    · rw [hqueue]
      simp
    · rw [hqueue]
      simp
    · rw [hsend]
      simp [InReq.sent]
  refine ⟨?_, hsend⟩
  rw [Sys.inPut_eq, Sys.inPump_one _ p j (n := (s.link p j).nextId) (by rw [hqueue]; rfl), hstep]
  refine Sys.resetGo_none _ p j ?_
  rw [Sys.link_showLink, hsend]
  exact hreset

theorem Sys.inSent_frame : Sys.FrameLink p j s (s.inSent p j r) (fun k => k == ⟨.IOP_LINK_STATUS, p, j⟩ || grainReg k) stopParts := by
  have hqueued : Sys.FrameLink p j s (s.inQueued p j r) (fun k => k == ⟨.IOP_LINK_STATUS, p, j⟩ || grainReg k) stopParts := Sys.FrameLink.onLink s _
  have hto (u : Sys) (q : InReq) : Sys.FrameLink p j u (u.inTo p j q) (fun k => k == ⟨.IOP_LINK_STATUS, p, j⟩ || grainReg k) stopParts :=
    Sys.FrameLink.onLink u _
  have hsend (u : Sys) (q : InReq) : Sys.FrameLink p j u (u.inSend p j q) (fun k => k == ⟨.IOP_LINK_STATUS, p, j⟩ || grainReg k) stopParts :=
    Sys.FrameLink.of_frame ((u.inSend_frame_io p j q).regs_mono fun k hk => by simp [hk]) rfl
  have hshow (u : Sys) : Sys.FrameLink p j u (u.showLink p j) (fun k => k == ⟨.IOP_LINK_STATUS, p, j⟩ || grainReg k) stopParts :=
    (u.showLink_frameLink p j).mono (fun k hk => by rw [lkReg] at hk; simp [hk]) (List.Subset.refl _)
  exact Sys.FrameAt.trans (Sys.FrameAt.trans (Sys.FrameAt.trans hqueued (hto _ _)) (hsend _ _)) (hshow _)

/-- A message of a device at the head of the queue goes to the concentrator. -/
theorem Sys.inPut_msg {d n : Nat} (hq : (s.link p j).inq = []) (hreset : (s.link p j).reset = .none) (hk : r.kind = .msg d n) :
    s.inPut p j r = (((s.inQueued p j r).inDel p j { r with id := (s.link p j).nextId }).icnMessage d n r.secure).showLink p j ∧
    ((s.inQueued p j r).inDel p j { r with id := (s.link p j).nextId }).link p j = { s.link p j with nextId := (s.link p j).nextId + 1 } := by
  have hqueue := s.link_inQueued p j r hq
  have hdel : ((s.inQueued p j r).inDel p j { r with id := (s.link p j).nextId }).link p j = { s.link p j with nextId := (s.link p j).nextId + 1 } := by
    unfold Sys.inDel
    rw [Sys.link_onLink_self, hqueue]
    simp [hq]
  have hstep : (s.inQueued p j r).inStep p j (s.link p j).nextId =
      ((s.inQueued p j r).inDel p j { r with id := (s.link p j).nextId }).icnMessage d n r.secure := by
    have hfind : ((s.inQueued p j r).link p j).inq.find? (fun q => q.id = (s.link p j).nextId) = some { r with id := (s.link p j).nextId } := by
      rw [hqueue]
      simp
    have hfirst : ((s.inQueued p j r).link p j).inq.takeWhile (fun q => q.id ≠ (s.link p j).nextId) = [] := by
      rw [hqueue]
      simp
    unfold Sys.inStep
    rw [hfind, hfirst]
    dsimp only
    rw [hk]
    rfl
  refine ⟨?_, hdel⟩
  rw [Sys.inPut_eq, Sys.inPump_one _ p j (n := (s.link p j).nextId) (by rw [hqueue]; rfl), hstep]
  refine Sys.resetGo_none _ p j ?_
  rw [Sys.link_showLink, Sys.link_of_links ((Sys.icnMessage_frame _ d n r.secure).2 .links rfl) p j, hdel]
  exact hreset

end

/-! ## What a link takes -/

section
variable (s : Sys) (p j : Nat) (write : Bool) (a n data : Nat) (ep ro bad : Bool) (reqId : Nat)

/-- The request of a device as the port takes it. -/
def Sys.inReqOf (s : Sys) (p j : Nat) (write : Bool) (a n data : Nat) (ep ro : Bool) (reqId : Nat) : InReq :=
  ⟨0, if write then .write else .read, a, n, s.linkKennel p j, s.linkSecure p j, ro, if write then data else 0, ep && write, rangeLines a n, [], false, none, reqId⟩

/-- A refused request: logged, and answered when it is a read. -/
def Sys.inNo (s : Sys) (p j : Nat) (write : Bool) (a reqId c : Nat) : Sys := (s.lkWake p j).inRefuse p j c write a reqId

theorem Sys.link_lkWake (q i : Nat) : (s.lkWake p j).link q i = s.link q i := Sys.link_when_lkTo s p j _ _ q i
theorem Sys.linkKennel_lkWake : (s.lkWake p j).linkKennel p j = s.linkKennel p j := by unfold Sys.lkWake Sys.when; split <;> rfl
theorem Sys.linkSecure_lkWake : (s.lkWake p j).linkSecure p j = s.linkSecure p j := by unfold Sys.lkWake Sys.when; split <;> rfl

theorem Sys.rootBme_lkWake : (s.lkWake p j).rootBme p j = s.rootBme p j := by
  unfold Sys.rootBme Sys.hdr
  rw [Sys.link_lkWake]

theorem Sys.lkWake_frame {parts : List Part} : s.Frame (s.lkWake p j) (lkReg p j) parts := .when _ _ _ fun _ => s.lkTo_frame p j _

theorem Sys.linkTakes_up (h : s.linkTakes p j = true) : s.linkUp p j = true := by
  simp only [Sys.linkTakes, Bool.and_eq_true] at h
  exact h.1.2

theorem Sys.lkState_lkWake (h : s.linkTakes p j = true) : (s.lkWake p j).lkState p j = lkUp := s.lkState_woken p j (s.linkTakes_up p j h)

variable (hroot : s.isRoot p = true) (htakes : s.linkTakes p j = true) (hn : n ≠ 0) (hreset : (s.link p j).reset = .none)
include hroot htakes hn hreset

/-- Without Bus Master Enable a request of a device is refused, and a write counted (R453). -/
theorem Sys.inbound_noBme (hb : s.rootBme p j = false) : s.inbound p j write a n data ep ro bad reqId =
    (s.inNo p j write a reqId cBme).when write (fun s => s.bump F.IOP_LINK_STATUS_BME_DROP p j) := by
  unfold Sys.inbound
  rw [hroot, htakes]
  dsimp only
  rw [if_neg (by simp [hn]), s.link_lkWake, s.rootBme_lkWake, hb, if_neg (by simp [hreset]), if_pos (by decide)]
  rfl

/-- A read that is ill, or of no address that a device reaches, is refused. -/
theorem Sys.inbound_refused (h : s.rootBme p j = false ∨ bad = true ∨ (match regionOf a with | .dram _ | .cxl _ | .window _ => false | _ => true) = true) :
    ∃ c, c ≠ 8 ∧ s.inbound p j false a n data ep ro bad reqId = s.inNo p j false a reqId c := by
  cases hb : s.rootBme p j with
  | false => exact ⟨cBme, by decide, s.inbound_noBme p j false a n data ep ro bad reqId hroot htakes hn hreset hb⟩
  | true =>
    unfold Sys.inbound
    rw [hroot, htakes]
    dsimp only
    rw [if_neg (by simp [hn]), s.link_lkWake, s.rootBme_lkWake, hb, if_neg (by simp [hreset]), if_neg (by simp)]
    cases hbad : bad with
    | true => exact ⟨cUrDecode, by decide, if_pos rfl⟩
    | false =>
      rw [if_neg (by simp)]
      by_cases hmsi : (decide (0xFE00000000000 ≤ a) && decide (a < 0xFE00000001000)) = true
      · exact ⟨cMsiPage, by decide, (if_pos hmsi).trans (if_neg (by simp))⟩
      · rw [if_neg hmsi]
        rw [hb, hbad] at h
        have hregion := (h.resolve_left (by simp)).resolve_left (by simp)
        cases hr : regionOf a with
        | dram z => rw [hr] at hregion; exact absurd hregion (by simp)
        | cxl z => rw [hr] at hregion; exact absurd hregion (by simp)
        | window z => rw [hr] at hregion; exact absurd hregion (by simp)
        | _ => exact ⟨cUrDecode, by decide, rfl⟩

variable (hb : s.rootBme p j = true)
include hb

/-- A request of DRAM enters the queue. -/
theorem Sys.inbound_dram {z : Nat} (hr : regionOf a = .dram z) : s.inbound p j write a n data ep ro false reqId =
    (s.lkWake p j).inPut p j (s.inReqOf p j write a n data ep ro reqId) := by
  have hlow : a < 0x100000000000 := by
    simp only [regionOf, ite_eq_iff, reduceCtorEq, and_false, or_false] at hr
    omega
  unfold Sys.inbound
  rw [hroot, htakes]
  dsimp only
  rw [if_neg (by simp [hn]), s.link_lkWake, s.rootBme_lkWake, hb, if_neg (by simp [hreset]), if_neg (by simp), if_neg (by simp),
    if_neg (by simp; omega), hr, s.linkKennel_lkWake, s.linkSecure_lkWake]
  rfl

/-- A write of the message page of the right size is a message of the link's domain (R450). -/
theorem Sys.inbound_msi {off : Nat} (hoff : off < 0x1000) (hsize : (n = 4 ∨ n = 8) ∧ off % n = 0) :
    s.inbound p j true (0xFE00000000000 + off) n data ep ro false reqId =
    (s.lkWake p j).inPut p j { s.inReqOf p j true (0xFE00000000000 + off) n data ep ro reqId with kind := .msg (s.linkKennel p j) (data % 4096), todo := [] } := by
  have hal : (0xFE00000000000 + off) % n = 0 := by rcases hsize.1 with h | h <;> rw [h] at hsize ⊢ <;> omega
  unfold Sys.inbound
  rw [hroot, htakes]
  dsimp only
  rw [if_neg (by simp [hn]), s.link_lkWake, s.rootBme_lkWake, hb, if_neg (by simp [hreset]), if_neg (by simp), if_neg (by simp),
    if_pos (by simp; omega), if_pos (by simpa [hal] using hsize.1), s.linkKennel_lkWake, s.linkSecure_lkWake]
  rfl

/-- Any other write of the message page is refused. -/
theorem Sys.inbound_msiBad {off : Nat} (hoff : off < 0x1000) (hsize : (n ≠ 4 ∧ n ≠ 8) ∨ off % n ≠ 0) :
    s.inbound p j true (0xFE00000000000 + off) n data ep ro false reqId = s.inNo p j true (0xFE00000000000 + off) reqId cMsiPage := by
  have hill : ¬ (((true && (n = 4 || n = 8)) && (0xFE00000000000 + off) % n = 0) = true) := by
    simp only [Bool.true_and, Bool.and_eq_true, Bool.or_eq_true, decide_eq_true_eq]
    rintro ⟨h | h, hal⟩ <;> rw [h] at hsize hal <;> omega
  unfold Sys.inbound
  rw [hroot, htakes]
  dsimp only
  rw [if_neg (by simp [hn]), s.link_lkWake, s.rootBme_lkWake, hb, if_neg (by simp [hreset]), if_neg (by simp), if_neg (by simp),
    if_pos (by simp; omega), if_neg hill]
  rfl

end

end Sys2Proof.Machine
end

section
/-!
SUPPORT. The ends of outbound requests of a root port (R445), while no link has an inbound request waiting; and messages on a link's wires (R452).
-/
namespace Sys2Proof.Machine

/-! ## Links with nothing waiting -/

theorem Bank.mem_of_get? {κ α : Type} [DecidableEq κ] {l : Bank κ α} {k : κ} {v : α} (h : Bank.get? l k = some v) : (k, v) ∈ l := by
  induction l with
  | nil => cases h
  | cons x l ih =>
    obtain ⟨k', v'⟩ := x
    by_cases e : k' = k
    · simp only [Bank.get?, e, if_true, Option.some.injEq] at h
      rw [e, h]
      exact List.mem_cons_self
    · simp only [Bank.get?, e, if_false] at h
      exact List.mem_cons_of_mem _ (ih h)

theorem Bank.mem_set {κ α : Type} [DecidableEq κ] {l : Bank κ α} {k : κ} {v : α} {x : κ × α} (h : x ∈ Bank.set l k v) : x = (k, v) ∨ x ∈ l := by
  induction l with
  | nil => exact .inl (List.mem_singleton.mp h)
  | cons y l ih =>
    obtain ⟨k', v'⟩ := y
    by_cases e : k' = k
    · simp only [Bank.set, e, if_true] at h
      exact (List.mem_cons.mp h).imp_right (List.mem_cons_of_mem _)
    · simp only [Bank.set, e, if_false] at h
      rcases List.mem_cons.mp h with h | h
      · exact .inr (h ▸ List.mem_cons_self)
      · exact (ih h).imp_right (List.mem_cons_of_mem _)

/-- A link with no inbound request and no reset under way. -/
def LinkSt.Quiet (l : LinkSt) : Prop := l.inq = [] ∧ l.reset = .none

/-- No link has an inbound request waiting or a reset under way. -/
def Sys.LinksQuiet (s : Sys) : Prop := ∀ q ∈ s.links, q.2.Quiet

theorem Sys.linksQuiet_of_all {s : Sys} (h : s.links.all (fun q => q.2.inq.isEmpty && q.2.reset == .none) = true) : s.LinksQuiet := by
  intro q hq
  have := List.all_eq_true.mp h q hq
  simpa [LinkSt.Quiet] using this

section
variable {s t : Sys} (h : s.LinksQuiet)
include h

theorem Sys.LinksQuiet.link (p j : Nat) : (s.link p j).Quiet := by
  unfold Sys.link Bank.getD
  cases hg : Bank.get? s.links (p, j) with
  | none => exact ⟨rfl, rfl⟩
  | some l => exact h _ (Bank.mem_of_get? hg)

theorem Sys.LinksQuiet.onLink (p j : Nat) (f : LinkSt → LinkSt) (hf : (f (s.link p j)).Quiet) : (s.onLink p j f).LinksQuiet := by
  intro q hq
  rcases Bank.mem_set hq with rfl | hq
  · exact hf
  · exact h q hq

theorem Sys.LinksQuiet.of_links (ht : t.links = s.links) : t.LinksQuiet := by
  intro q hq
  rw [ht] at hq
  exact h q hq

theorem Sys.LinksQuiet.inPump (p j : Nat) : s.inPump p j = s.showLink p j := by
  obtain ⟨hq, hr⟩ := h.link p j
  unfold Sys.inPump
  rw [hq]
  exact Sys.resetGo_none _ p j hr

/-- With nothing waiting at any link, the links show what they have, and nothing else happens. -/
theorem Sys.LinksQuiet.inPumpAll {parts : List Part} : s.Frame s.inPumpAll (fun k => k.reg == .IOP_LINK_STATUS) parts := by
  have hkeep : s.inPumpAll.links = s.links ∧ s.Frame s.inPumpAll (fun k => k.reg == .IOP_LINK_STATUS) parts := by
    unfold Sys.inPumpAll
    refine Sys.each_keeps (P := fun t => t.links = s.links ∧ s.Frame t (fun k => k.reg == .IOP_LINK_STATUS) parts) ⟨rfl, .refl s⟩ fun t k _ ht => ?_
    rw [(h.of_links ht.1).inPump]
    exact ⟨ht.1, ht.2.trans ((t.showLink_frame k.1 k.2).regs_mono fun q hq => by rw [lkReg, beq_iff_eq] at hq; rw [hq]; rfl)⟩
  exact hkeep.2

theorem Sys.LinksQuiet.inPumpAll_links : s.inPumpAll.links = s.links := (h.inPumpAll (parts := [])).2 .links rfl
theorem Sys.LinksQuiet.inPumpAll_msgs : s.inPumpAll.msgs = s.msgs := (h.inPumpAll (parts := [])).2 .msgs rfl

end

/-! ## The end of a request -/

section
variable (s : Sys) (p j place : Nat) {o : OutReq} {w : Source}

/-- An outstanding request of the link is gone. -/
def Sys.outGone (s : Sys) (p j i : Nat) : Sys := (s.onLink p j (fun l => { l with out := l.out.eraseIdx i })).showLink p j

theorem Sys.link_outGone : (s.outGone p j place).link p j = { s.link p j with out := (s.link p j).out.eraseIdx place } :=
  s.link_onLink_self p j (fun l => { l with out := l.out.eraseIdx place })

theorem Sys.outGone_frame {parts : List Part} : Sys.FrameLink p j s (s.outGone p j place) (lkReg p j) parts :=
  Sys.FrameAt.trans (Sys.FrameLink.onLink s _) (Sys.showLink_frameLink _ p j)

theorem Sys.outEnd_src (ho : o.by_ = .src w) (hk : o.kind ≠ .cfgWrite) (data : Nat) (poison err : Bool) :
    s.outEnd o data poison err = s.outAnswer w o.pa o.n data poison err := by
  unfold Sys.outEnd
  rw [ho]
  cases hkind : o.kind with
  | cfgWrite => exact absurd hkind hk
  | mem => rfl
  | cfgRead => rfl

/-- What the end of a request leaves, when its answer is `u`: the link, the message, and the frame. -/
structure Sys.Ended (s : Sys) (p j place : Nat) (w : Source) (pa n data : Nat) (poison err : Bool) (but : RK → Bool) (parts : List Part) (t : Sys) : Prop where
  out : (t.link p j).out = (s.link p j).out.eraseIdx place
  msgs : t.msgs = (s.outAnswer w pa n data poison err).msgs
  frame : Sys.FrameLink p j s t but parts

/-- The end of a request, after which the links go on. -/
theorem Sys.LinksQuiet.ended {s u : Sys} (h : s.LinksQuiet) {p j place pa n data : Nat} {w : Source} {poison err : Bool} {but : RK → Bool} {parts : List Part}
    (hu : (s.outGone p j place).Frame u but parts) (hp : parts.contains .links = false ∧ parts.contains .msgs = false)
    (hb : ∀ k, k.reg == .IOP_LINK_STATUS → but k = true) :
    s.Ended p j place w pa n data poison err but (.msgs :: parts) (u.outAnswer w pa n data poison err).inPumpAll := by
  have hgone : (s.outGone p j place).LinksQuiet := h.onLink p j (fun l => { l with out := l.out.eraseIdx place }) (h.link p j)
  have hulinks : u.links = (s.outGone p j place).links := hu.2 .links hp.1
  have hquiet : (u.outAnswer w pa n data poison err).LinksQuiet := hgone.of_links ((Sys.links_outAnswer ..).trans hulinks)
  refine ⟨?_, ?_, ?_⟩
  · rw [Sys.link_of_links hquiet.inPumpAll_links, Sys.link_of_links ((Sys.links_outAnswer ..).trans hulinks), Sys.link_outGone]
  · refine hquiet.inPumpAll_msgs.trans (Sys.outAnswer_msgs s u w pa n data poison err ?_)
    exact (show u.msgs = (s.outGone p j place).msgs from hu.2 .msgs hp.2).trans rfl
  · refine Sys.FrameAt.trans ((s.outGone_frame p j place).mono (fun k hk => hb k ?_) (List.Subset.refl _)) ?_
    · rw [lkReg, beq_iff_eq] at hk
      rw [hk]
      rfl
    · have hparts : (Part.msgs :: parts).contains .links = false := by
        simp only [List.contains_cons, Bool.or_eq_false_iff]
        exact ⟨rfl, hp.1⟩
      refine Sys.FrameLink.of_frame (((hu.parts_mono (List.subset_cons_self _ _)).trans (Sys.outAnswer_frame u w pa n data poison err ?_)).trans
        (hquiet.inPumpAll.regs_mono hb)) hparts
      simp

end

section
variable {s u : Sys} {p j place : Nat}

/-- The links' going on after the end of a request leaves every register but IOP_LINK_STATUS. -/
theorem Sys.LinksQuiet.ended_rf (h : s.LinksQuiet) {pa n data : Nat} {w : Source} {poison err : Bool} {but : RK → Bool} {parts : List Part} (hu : (s.outGone p j place).Frame u but parts)
    (hp : parts.contains .links = false) (f : Fld) (hf : f.reg ≠ .IOP_LINK_STATUS) (i k : Nat) : (u.outAnswer w pa n data poison err).inPumpAll.rf f i k = u.rf f i k := by
  have hgone : (s.outGone p j place).LinksQuiet := h.onLink p j (fun l => { l with out := l.out.eraseIdx place }) (h.link p j)
  have hquiet : (u.outAnswer w pa n data poison err).LinksQuiet := hgone.of_links ((Sys.links_outAnswer ..).trans (hu.2 .links hp))
  exact ((hquiet.inPumpAll (parts := [])).rf f i k (by simpa using hf)).trans (Sys.rf_outAnswer ..)

/-- An error log keeps to the registers that the end of a request may change. -/
theorem Sys.outGone_log (c : Nat) (a : Option Nat) (r : Nat) {parts : List Part} : (s.outGone p j place).Frame ((s.outGone p j place).linkLog p j (some c) a r)
    (fun k => k.reg == .IOP_LINK_STATUS || k == ⟨.IOP_LINK_ERR, p, j⟩ || k == ⟨.IOP_LINK_ERRADDR, p, j⟩) parts :=
  (Sys.linkLog_frame_known _ p j c a r).regs_mono fun k hk => by
    rw [Bool.or_assoc]
    exact Bool.or_eq_true_iff.mpr (.inr hk)

theorem Sys.rf_outGone (f : Fld) (hf : f.reg ≠ .IOP_LINK_STATUS) (i k : Nat) : (s.outGone p j place).rf f i k = s.rf f i k :=
  (s.outGone_frame p j place (parts := [])).1.rf f i k (by simp [lkReg, hf])

/-- What a completion does for the request that it ends. -/
def Sys.cplEnded (s : Sys) (p j i : Nat) (c : CplResult) (o : OutReq) : Sys :=
  match c, o.kind with
  | .ok d, _ => (s.outGone p j i).outEnd o (lineField d 0 (8 * o.n)) false false
  | .poisoned, .mem => (s.outGone p j i).outEnd o 0 true false
  | .poisoned, _ => ((s.outGone p j i).linkLog p j (some cPoisonRx) (some o.pa) 0).outEnd o (allOnes o.n) false false
  | .unsupported, .mem => (s.outGone p j i).outEnd o 0 false true
  | .unsupported, _ => ((s.outGone p j i).linkLog p j none (some o.pa) 0).outEnd o (allOnes o.n) false false
  | .retry visible, .cfgRead => if visible && o.pa % 4096 = 0 then ((s.outGone p j i).usedFree).outEnd o (1 + s.freeVal 16 * 2 ^ 16) false false else s
  | .retry _, _ => s

theorem Sys.pcieCpl_eq {c : CplResult} {o : OutReq} (hout : (s.link p j).out[place]? = some o) (hup : s.linkUp p j = true) (hh : s.heeled = false) :
    s.pcieCpl p j place c = (s.cplEnded p j place c o).inPumpAll := by
  unfold Sys.pcieCpl
  rw [hout]
  dsimp only
  rw [if_neg (by simp [hup, hh])]
  rfl

/-- The timeout of a request ends it with its error, logged. -/
theorem Sys.cplTimeout_eq {o : OutReq} {w : Source} (hout : (s.link p j).out[place]? = some o) (ho : o.by_ = .src w) (hk : o.kind ≠ .cfgWrite) (hh : s.heeled = false) :
    s.cplTimeout p j place = (((s.outGone p j place).linkLog p j (some cCplTimeout) (some o.pa) 0).outAnswer w o.pa o.n
      (if o.kind = .mem then 0 else allOnes o.n) false (o.kind = .mem)).inPumpAll := by
  unfold Sys.cplTimeout
  rw [hout]
  dsimp only
  rw [if_neg (by simp [hh]), Sys.outEnd_src _ ho hk, Sys.outEnd_src _ ho hk]
  cases hkind : o.kind with
  | mem => rfl
  | cfgRead => rfl
  | cfgWrite => exact absurd hkind hk

end

/-! ## Wires -/

section
variable (s : Sys) (p j w : Nat) (level : Bool)

/-- A message on a link that is UP sets its wire. -/
theorem Sys.intxMessage_eq (hroot : s.isRoot p = true) (htakes : s.linkTakes p j = true) (hreset : (s.link p j).reset = .none) :
    s.intxMessage p j w level = (s.lkWake p j).intxTo p j (setBit (s.link p j).wires w level) := by
  have hl := htakes
  simp only [Sys.linkTakes, Bool.and_eq_true] at hl
  exact if_pos (by simp [hroot, hl.1.1, hl.1.2, hreset])

theorem Sys.wires_intxTo (m : Nat) : (s.intxTo p j m).rf F.IOP_LINK_INTX_WIRES p j = m % 16 := by
  unfold Sys.intxTo Sys.intxSync
  dsimp only
  rw [(Sys.icnSync_frame _ _).rf F.IOP_LINK_INTX_WIRES p j rfl]
  have hput (u : Sys) (c : Bool) : (u.when c (fun s => s.put F.IOP_LINK_INTX_ERR 1 p j)).rf F.IOP_LINK_INTX_WIRES p j = u.rf F.IOP_LINK_INTX_WIRES p j := by
    cases c with
    | false => rfl
    | true => exact Sys.rf_put_bits _ F.IOP_LINK_INTX_ERR _ _ _ _ _ _ (by decide)
  rw [hput]
  refine (Sys.rf_put_self _ F.IOP_LINK_INTX_WIRES _ _ _ (by decide)).trans ?_
  rw [Sys.link_onLink_self]
  rfl

/-- The names of the sources and the enable are as they were. -/
theorem Sys.intxName_intxTo (m k : Nat) : (s.intxTo p j m).intxName p j k = s.intxName p j k := by
  have hput (u : Sys) (c : Bool) (g : Fld) (hg : g.reg = .IOP_LINK_INTX ∧ g.lo + g.wd ≤ 48) :
      ((u.put F.IOP_LINK_INTX_WIRES m p j).when c (fun s => s.put F.IOP_LINK_INTX_ERR 1 p j)).rf g p j = u.rf g p j := by
    have hw : (u.put F.IOP_LINK_INTX_WIRES m p j).rf g p j = u.rf g p j := Sys.rf_put_bits _ F.IOP_LINK_INTX_WIRES _ _ _ _ _ _ ⟨by omega, .inr hg.2⟩
    cases c with
    | false => exact hw
    | true => exact (Sys.rf_put_bits _ F.IOP_LINK_INTX_ERR _ _ _ _ _ _ ⟨by omega, .inr (by show g.lo + g.wd ≤ 63; omega)⟩).trans hw
  have hkeep (g : Fld) (hg : g.reg = .IOP_LINK_INTX ∧ g.lo + g.wd ≤ 48) : (s.intxTo p j m).rf g p j = s.rf g p j := by
    unfold Sys.intxTo Sys.intxSync
    dsimp only
    rw [(Sys.icnSync_frame _ _).rf g p j (by rw [hg.1]; rfl), Sys.link_onLink_self, hput _ _ g hg]
    rfl
  unfold Sys.intxName
  split <;> exact hkeep _ ⟨rfl, by decide⟩

theorem Bank.mem_set_self {κ α : Type} [DecidableEq κ] (l : Bank κ α) (k : κ) (v : α) : (k, v) ∈ Bank.set l k v := by
  induction l with
  | nil => exact List.mem_singleton_self _
  | cons x l ih =>
    obtain ⟨k', v'⟩ := x
    by_cases e : k' = k
    · simp [Bank.set, e]
    · simp only [Bank.set, e, if_false]
      exact List.mem_cons_of_mem _ ih

/-- A level source that an enabled wire of the link names is pending while the wire stands. -/
theorem Sys.srcPending_wire {m k : Nat} (hk : k < 4) (hm : bit m k = true) (hen : s.on F.IOP_LINK_CTL_INTX_EN p j = true)
    (hname : 16 ≤ s.intxName p j k) (hlevel : s.srcLevel (s.linkKennel p j) (s.intxName p j k) = true) :
    (s.intxTo p j m).srcPending (s.linkKennel p j) (s.intxName p j k) = true := by
  have hframe := (s.intxTo_frame p j m).1
  have hl : (s.intxTo p j m).srcLevel (s.linkKennel p j) (s.intxName p j k) = true := by
    refine Eq.trans ?_ hlevel
    unfold Sys.srcLevel Sys.on
    rw [hframe.rf F.ICN_SRC_TYPE _ _ (by simp [wireReg, lineReg])]
  have hconf : (s.intxTo p j m).conf = s.conf := hframe.2 .conf rfl
  have hdrives : (s.intxTo p j m).intxDrives (s.linkKennel p j) (s.intxName p j k) = true := by
    have hkey : ((p, j), { s.link p j with wires := m }) ∈ (s.intxTo p j m).links := by
      have hlinks : (s.intxTo p j m).links = Bank.set s.links (p, j) { s.link p j with wires := m } := (Sys.intxSync_frame _ p j).2 .links rfl
      rw [hlinks]
      exact Bank.mem_set_self _ _ _
    refine List.any_eq_true.mpr ⟨_, hkey, ?_⟩
    have hon : (s.intxTo p j m).on F.IOP_LINK_CTL_INTX_EN p j = true := by
      rw [← hen, Sys.on, Sys.on, hframe.rf F.IOP_LINK_CTL_INTX_EN p j (by simp [wireReg, lineReg])]
    have hkennel : (s.intxTo p j m).linkKennel p j = s.linkKennel p j := by
      unfold Sys.linkKennel
      rw [hconf]
    have hwire : bit ((s.intxTo p j m).rf F.IOP_LINK_INTX_WIRES p j) k = true := by
      rw [s.wires_intxTo, bit_eq_testBit, show (16 : Nat) = 2 ^ 4 from rfl, Nat.testBit_mod_two_pow, ← bit_eq_testBit, hm, Bool.and_true]
      exact decide_eq_true hk
    simp only [hon, hkennel, beq_self_eq_true, Bool.true_and]
    refine List.any_eq_true.mpr ⟨k, List.mem_range.mpr hk, ?_⟩
    simp [hwire, s.intxName_intxTo]
  unfold Sys.srcPending Sys.srcInput
  rw [hl, if_pos rfl, if_neg (by omega), if_neg (by omega), hdrives]
  simp [hname]

end

end Sys2Proof.Machine
end

section
/-!
SUPPORT. What a device's request leaves at its port: the queue and the requests sent (R447), the log of a refusal, and a message (R450).
-/
namespace Sys2Proof.Machine

theorem rangeLines_ne_nil {a n : Nat} (h : n ≠ 0) : rangeLines a n ≠ [] := by
  unfold rangeLines
  rw [if_neg h]
  simp [below]

section
variable (s : Sys) (p j : Nat) (r : InReq)

theorem Sys.lkState_inSent : (s.inSent p j r).lkState p j = s.lkState p j :=
  (Sys.lkState_showLink ..).trans ((Sys.inSend_frame_io _ p j _).rf F.IOP_LINK_STATUS_STATE p j rfl)

theorem Sys.inIdle_inSent (h : ((s.inSent p j r).link p j).inq ≠ []) : (s.inSent p j r).rf F.IOP_LINK_STATUS_INB_IDLE p j = 0 := by
  refine (Sys.inIdle_showLink ..).trans ?_
  have hne : (((s.inQueued p j r).inTo p j ({ r with id := (s.link p j).nextId } : InReq).sent).inSend p j { r with id := (s.link p j).nextId }
      |>.link p j).inq ≠ [] := h
  generalize Sys.link _ p j = l at hne ⊢
  cases hq : l.inq with
  | nil => exact absurd hq hne
  | cons a b => rfl

theorem Sys.Carries.showLink {s : Sys} {q : Req} (h : s.Carries q) (p j : Nat) : (s.showLink p j).Carries q := h

/-- No line of a request that has been sent is lost. -/
theorem Sys.inSent_carries (l : Nat) (hl : l ∈ r.todo) : (s.inSent p j r).Carries (r.lineReq p j l) :=
  ((Sys.inSend_carries _ p j { r with id := (s.link p j).nextId }).2 l hl).showLink p j

variable (a n data : Nat) (ep ro : Bool) (reqId : Nat) (write : Bool)

/-- A request of DRAM at a link with an empty queue: it is in the queue, its lines are on their way, and the link is UP. -/
theorem Sys.inbound_sent (hroot : s.isRoot p = true) (htakes : s.linkTakes p j = true) (hn : n ≠ 0) (hreset : (s.link p j).reset = .none)
    (hb : s.rootBme p j = true) {z : Nat} (hr : regionOf a = .dram z) (hq : (s.link p j).inq = []) {t : Sys}
    (ht : t = s.inbound p j write a n data ep ro false reqId) :
    t.link p j = { s.link p j with
      inq := [({ s.inReqOf p j write a n data ep ro reqId with id := (s.link p j).nextId } : InReq).sent]
      nextId := (s.link p j).nextId + 1 } ∧
    t.lkState p j = lkUp ∧ t.rf F.IOP_LINK_STATUS_INB_IDLE p j = 0 ∧
    (∀ l ∈ rangeLines a n, t.Carries ((s.inReqOf p j write a n data ep ro reqId).lineReq p j l)) ∧
    Sys.FrameLink p j s t (fun k => k == ⟨.IOP_LINK_STATUS, p, j⟩ || grainReg k) sentParts := by
  rw [s.inbound_dram p j write a n data ep ro reqId hroot htakes hn hreset hb hr] at ht
  have hwake := s.link_lkWake p j p j
  obtain ⟨hput, hlink⟩ := (s.lkWake p j).inPut_memory p j (s.inReqOf p j write a n data ep ro reqId) (by rw [hwake]; exact hq) (by rw [hwake]; exact hreset)
    (by unfold Sys.inReqOf; cases write <;> simp) (rangeLines_ne_nil hn) rfl
  rw [hput] at ht
  rw [hwake] at hlink
  subst ht
  refine ⟨hlink, ((s.lkWake p j).lkState_inSent p j _).trans (s.lkState_lkWake p j htakes), (s.lkWake p j).inIdle_inSent p j _ ?_,
    fun l hl => (s.lkWake p j).inSent_carries p j (s.inReqOf p j write a n data ep ro reqId) l hl, ?_⟩
  · rw [hlink]
    simp
  · refine Sys.FrameAt.trans (Sys.FrameLink.of_frame ((s.lkWake_frame p j).regs_mono fun k hk => ?_) rfl)
      (((s.lkWake p j).inSent_frame p j _).mono (fun _ h => h) (by decide))
    rw [lkReg] at hk
    simp [hk]

end

section
variable (s : Sys) (p j c a r : Nat)

theorem Sys.linkLog_reqId (hr : r < 65536) (hv : s.rf F.IOP_LINK_ERR_VALID p j = 0) :
    (s.linkLog p j (some c) (some a) r).rf F.IOP_LINK_ERR_REQ_ID p j = r := by
  rw [s.linkLog_free p j c (some a) r hv]
  unfold Sys.logTake
  rw [Sys.logAddr_err _ _ _ _ _ rfl, Sys.rf_put_bits _ F.IOP_LINK_ERR_CAUSE _ _ _ _ _ _ (by decide)]
  exact (Sys.rf_put_self _ _ _ _ _ (by decide)).trans (Nat.mod_eq_of_lt hr)

theorem Sys.rf_lkWake (f : Fld) (hf : f.reg ≠ .IOP_LINK_STATUS) (q i : Nat) : (s.lkWake p j).rf f q i = s.rf f q i :=
  (s.lkWake_frame p j (parts := [])).rf f q i (by simp [lkReg, hf])

theorem Sys.rf_lkWake_drop : (s.lkWake p j).rf F.IOP_LINK_STATUS_BME_DROP p j = s.rf F.IOP_LINK_STATUS_BME_DROP p j := by
  unfold Sys.lkWake
  cases s.lkState p j == lkL1 with
  | false => rfl
  | true => exact Sys.rf_put_bits _ F.IOP_LINK_STATUS_STATE _ _ _ _ _ _ (by decide)

theorem Sys.links_lkWake : (s.lkWake p j).links = s.links := (s.lkWake_frame p j (parts := [])).2 .links rfl

/-- A refused write is logged. -/
theorem Sys.inNo_write : s.inNo p j true a r c = (s.lkWake p j).linkLog p j (some c) (some a) r := rfl

/-- A refused read is logged and answered. -/
theorem Sys.inNo_read : s.inNo p j false a r c = ((s.lkWake p j).linkLog p j (some c) (some a) r).lkSend p j .unsupported := rfl

theorem Sys.refusal_frame {parts : List Part} : s.Frame ((s.lkWake p j).linkLog p j (some c) (some a) r)
    (fun k => k == ⟨.IOP_LINK_STATUS, p, j⟩ || k == ⟨.IOP_LINK_ERR, p, j⟩ || k == ⟨.IOP_LINK_ERRADDR, p, j⟩) parts :=
  ((s.lkWake_frame p j).regs_mono fun k hk => by rw [lkReg] at hk; simp [hk]).trans
    ((Sys.linkLog_frame_known _ p j c _ r).regs_mono fun k hk => by rw [Bool.or_assoc]; exact Bool.or_eq_true_iff.mpr (.inr hk))

end

/-! ## Messages -/

section
variable {s u : Sys} {d id : Nat} (sec : Bool)

/-- A change of a link leaves the sources of a domain. -/
theorem Sys.srcPresent_frame {but : RK → Bool} {parts : List Part} (h : s.Frame u but parts) (hb : ∀ k, k.reg = .ICN_DOM_CFG → but k = false) :
    u.srcPresent d id = s.srcPresent d id := by
  unfold Sys.srcPresent Sys.domOn Sys.on
  rw [h.rf _ _ _ (hb _ rfl), h.rf _ _ _ (hb _ rfl)]

theorem Sys.srcLevel_frame {but : RK → Bool} {parts : List Part} (h : s.Frame u but parts) (hb : but ⟨.ICN_SRC, d, id⟩ = false) :
    u.srcLevel d id = s.srcLevel d id := by
  unfold Sys.srcLevel Sys.on
  rw [h.rf F.ICN_SRC_TYPE d id hb]

/-- A message for a source that takes it makes it pending. -/
theorem Sys.pending_takeMessage (h : s.srcPresent d id = true ∧ 16 ≤ id ∧ s.srcLevel d id = false ∧ (sec = true ∨ s.on F.ICN_SRC_SEC d id = false)) :
    (s.takeMessage d id sec).rf F.ICN_SRC_PENDING d id = 1 := by
  obtain ⟨hp, hid, hl, hs⟩ := h
  have hto : s.takeMessage d id sec = (s.put F.ICN_SRC_PENDING 1 d id).icnSync d := by
    refine (if_pos ?_).trans (if_pos (by simp [hp, hl]))
    rcases hs with hs | hs <;> simp [hp, hid, hl, hs]
  rw [hto, (Sys.icnSync_frame _ d).rf F.ICN_SRC_PENDING d id rfl]
  exact Sys.rf_put_self _ _ _ _ _ (by decide)

/-- Any other message is dropped and counted. -/
theorem Sys.dropped_takeMessage (h : ¬ (s.srcPresent d id = true ∧ 16 ≤ id ∧ s.srcLevel d id = false ∧ (sec = true ∨ s.on F.ICN_SRC_SEC d id = false))) :
    (s.takeMessage d id sec).rf F.ICN_DOM_STATUS_MSG_DROP d = min 0xFFFF (s.rf F.ICN_DOM_STATUS_MSG_DROP d + 1) := by
  have hto : s.takeMessage d id sec = s.msgDrop d := by
    refine if_neg fun hc => h ?_
    simp only [Bool.and_eq_true, Bool.or_eq_true, decide_eq_true_eq, Bool.not_eq_true'] at hc
    exact ⟨hc.1.1.1, hc.1.1.2, hc.1.2, hc.2⟩
  rw [hto]
  exact Sys.rf_bump _ _ _ _ (by decide)

end

section
variable (s : Sys) (p j : Nat) (r : InReq) {d id : Nat}

/-- The registers that a device's message may change: its link's state, and what a message may change. -/
def msiReg (p j d id : Nat) (k : RK) : Bool := k == ⟨.IOP_LINK_STATUS, p, j⟩ || lineReg k || k == ⟨.ICN_SRC, d, id⟩ || oneReg d [.ICN_DOM_STATUS] k

theorem msiReg_of_msgReg {k : RK} (h : msgReg d id k = true) : msiReg p j d id k = true := by
  simp only [msgReg, srcReg, Bool.or_eq_true, beq_iff_eq] at h
  rcases h with (h | rfl) | rfl
  · simp [msiReg, h]
  · simp [msiReg]
  · simp [msiReg, oneReg]

/-- A device's message at a link with an empty queue reaches its domain, whose clock runs: its source is pending, or it is counted. -/
theorem Sys.inPut_taken (hr : r.kind = .msg d id) (hq : (s.link p j).inq = []) (hreset : (s.link p j).reset = .none) (hclk : s.on F.ICN_DOM_CFG_CLK_STOPPED d = false)
    (hin : s.icn.inReset.contains d = false) {t : Sys} (ht : t = (s.lkWake p j).inPut p j r) :
    (t.link p j).inq = [] ∧
    (if s.srcPresent d id = true ∧ 16 ≤ id ∧ s.srcLevel d id = false ∧ (r.secure = true ∨ s.on F.ICN_SRC_SEC d id = false) then t.rf F.ICN_SRC_PENDING d id = 1
      else t.rf F.ICN_DOM_STATUS_MSG_DROP d = min 0xFFFF (s.rf F.ICN_DOM_STATUS_MSG_DROP d + 1)) ∧
    Sys.FrameLink p j s t (msiReg p j d id) [.icn] := by
  have hwake := s.link_lkWake p j p j
  obtain ⟨hput, hlink⟩ := (s.lkWake p j).inPut_msg p j r (by rw [hwake]; exact hq) (by rw [hwake]; exact hreset) hr
  rw [hput] at ht
  rw [hwake] at hlink
  have hframe : Sys.FrameLink p j s (((s.lkWake p j).inQueued p j r).inDel p j { r with id := ((s.lkWake p j).link p j).nextId }) (lkReg p j) [] :=
    Sys.FrameAt.trans (Sys.FrameAt.trans (Sys.FrameLink.of_frame (s.lkWake_frame p j) rfl) (Sys.FrameLink.onLink _ _)) (Sys.FrameLink.onLink _ _)
  rw [hwake] at hframe ht
  generalize ((s.lkWake p j).inQueued p j r).inDel p j { r with id := (s.link p j).nextId } = u at hframe ht hlink
  have hu := hframe.1
  have huclk : u.on F.ICN_DOM_CFG_CLK_STOPPED d = false := by
    rw [← hclk, Sys.on, Sys.on, hu.rf _ _ _ (by simp [lkReg])]
  have huicn : u.icn = s.icn := hu.2 .icn rfl
  have hmsg : u.icnMessage d id r.secure = u.takeMessage d id r.secure := if_neg (by rw [huclk, huicn, hin]; simp)
  rw [hmsg] at ht
  have htake := u.takeMessage_frame d id r.secure
  have hlinks : (u.takeMessage d id r.secure).link p j = u.link p j := Sys.link_of_links (htake.2 .links rfl) p j
  have hshow (f : Fld) (i : Nat) (k : Nat) (hf : f.reg ≠ .IOP_LINK_STATUS) : t.rf f i k = (u.takeMessage d id r.secure).rf f i k := by
    rw [ht]
    exact ((u.takeMessage d id r.secure).showLink_frame p j (parts := [])).rf f i k (by simp [lkReg, hf])
  have hpresent : u.srcPresent d id = s.srcPresent d id := Sys.srcPresent_frame hu fun k hk => beq_eq_false_iff_ne.mpr fun e => by rw [e] at hk; cases hk
  have hlevel : u.srcLevel d id = s.srcLevel d id := Sys.srcLevel_frame hu (by simp [lkReg])
  have hsec : u.on F.ICN_SRC_SEC d id = s.on F.ICN_SRC_SEC d id := by rw [Sys.on, Sys.on, hu.rf _ _ _ (by simp [lkReg])]
  refine ⟨?_, ?_, ?_⟩
  · rw [ht, Sys.link_showLink, hlinks, hlink]
    exact hq
  · rw [← hpresent, ← hlevel, ← hsec]
    split
    · next hc => exact (hshow _ _ _ (by decide)).trans (Sys.pending_takeMessage _ hc)
    · next hc =>
      refine (hshow _ _ _ (by decide)).trans ((Sys.dropped_takeMessage _ hc).trans ?_)
      rw [hu.rf F.ICN_DOM_STATUS_MSG_DROP d 0 (by simp [lkReg])]
  · rw [ht]
    refine Sys.FrameAt.trans (Sys.FrameAt.trans (hframe.mono (fun k hk => ?_) (List.nil_subset _))
      (Sys.FrameLink.of_frame (htake.regs_mono fun k hk => msiReg_of_msgReg p j hk) rfl)) ((Sys.showLink_frameLink _ p j).mono (fun k hk => ?_) (List.Subset.refl _))
    · rw [lkReg] at hk
      simp [msiReg, hk]
    · rw [lkReg] at hk
      simp [msiReg, hk]

end

end Sys2Proof.Machine
end

section
/-!
PROOFS. Requests of a root port in both directions (O47).
-/
namespace Sys2Proof.Machine

theorem Sys.atPort_free {s : Sys} {p : Nat} (f : Sys → Sys) (h : s.portHeld p = false) : s.atPort (some p) f = f s := if_neg (by simp [h])

theorem Sys.linkShut_open {s : Sys} {p j : Nat} (hu : s.linkUp p j = true) (hr : (s.link p j).reset = .none) : s.linkShut p j = false := by
  simp [Sys.linkShut, hu, hr]

theorem Sys.ioTaken_links (s : Sys) (w : ReqSrc) (wr : Bool) (pa n data : Nat) : (s.ioTaken w wr pa n data).links = s.links :=
  (s.ioTaken_frame w wr pa n data (but := fun _ => false)).2 .links rfl

theorem Sys.link_ioTaken (s : Sys) (w : ReqSrc) (wr : Bool) (pa n data q i : Nat) : (s.ioTaken w wr pa n data).link q i = s.link q i :=
  Sys.link_of_links (s.ioTaken_links w wr pa n data) q i

theorem Sys.rf_ioTaken (s : Sys) (w : ReqSrc) (wr : Bool) (pa n data : Nat) (f : Fld) (i j : Nat) : (s.ioTaken w wr pa n data).rf f i j = s.rf f i j :=
  (s.ioTaken_frame w wr pa n data (but := fun _ => false)).rf f i j rfl

theorem Sys.linkUp_ioTaken (s : Sys) (w : ReqSrc) (wr : Bool) (pa n data p j : Nat) : (s.ioTaken w wr pa n data).linkUp p j = s.linkUp p j := by
  unfold Sys.linkUp
  rw [Sys.rf_ioTaken]

/-- The frame of what a link does once the request of its command is taken. -/
theorem Sys.ioTaken_link {s t : Sys} {w : ReqSrc} {wr : Bool} {pa n data p j : Nat} {but : RK → Bool} {parts : List Part} (hp : Part.msgs ∈ parts)
    (h : Sys.FrameLink p j (s.ioTaken w wr pa n data) t but parts) : Sys.FrameLink p j s t but parts :=
  Sys.FrameAt.trans (Sys.FrameLink.of_frame (s.ioTaken_frame w wr pa n data) rfl |>.mono (fun _ h => h) (by simpa using hp)) h

theorem lkReg_eq {p j : Nat} {k : RK} (h : lkReg p j k = true) : (k == ⟨.IOP_LINK_STATUS, p, j⟩) = true := h
theorem logReg_eq {p j : Nat} {k : RK} (h : logReg p j k = true) : (k == ⟨.IOP_LINK_ERR, p, j⟩ || k == ⟨.IOP_LINK_ERRADDR, p, j⟩) = true := h

theorem hdrMask_some {dw m : Nat} (h : hdrMask dw = some m) : dw < 16 ∧ m < 2 ^ 32 := by
  unfold hdrMask at h
  split at h <;> simp at h <;> omega

/-- The writes of a header leave all but their doubleword. -/
theorem Sys.hdrWrite_all {s : Sys} {p j dw off n data m : Nat} (hm : hdrMask dw = some m) :
    (below 16).all (fun d => d == dw || (s.hdrWrite p j dw off n data).hdr p j d == s.hdr p j d) = true := by
  refine List.all_eq_true.mpr fun d _ => ?_
  rw [Sys.hdr_hdrWrite _ _ _ _ _ _ _ hm]
  by_cases e : d = dw
  · simp [e]
  · simp [e]

/-- A configuration write of the header, once the request of its command is taken. -/
theorem Sys.hdrWrite_taken {s : Sys} {w : ReqSrc} {pa k d p j dw off n data m : Nat} (hm : hdrMask dw = some m) :
    Sys.FrameLink p j s ((s.ioTaken w true pa k d).hdrWrite p j dw off n data) (fun k => k == ⟨.IOP_LINK_STATUS, p, j⟩) [.msgs] :=
  Sys.ioTaken_link (List.mem_singleton_self _) ((Sys.hdrWrite_frame _ p j dw off n data hm).mono (fun _ hk => lkReg_eq hk) (List.Subset.refl _))

theorem b2n_testBit (n i : Nat) : b2n (n.testBit i) = n / 2 ^ i % 2 := by
  rw [Nat.testBit_eq_decide_div_mod_eq, b2n]
  have := Nat.mod_two_eq_zero_or_one (n / 2 ^ i)
  rcases this with h | h <;> simp [h]

/-- A port's segment of a socket's configuration space. -/
theorem portSegment_region {z p j : Nat} (hz : z < 2) (hp : p < 8) (hj : j < 4) : regionOf (portSegment z p + j * 2 ^ 15 + 4) = .ecam z := by
  unfold portSegment regionOf
  have hlow : ¬ 0xF000000000000 + z * 0x100000000 + p * 0x10000000 + j * 2 ^ 15 + 4 < 0xF000000000000 := by omega
  rw [if_neg (by omega), if_neg (by omega), if_neg (by omega), if_neg (by omega), if_neg (by omega), if_neg (by omega), if_neg hlow]
  rcases Nat.lt_succ_iff_lt_or_eq.mp hz with h | rfl
  · have h0 : z = 0 := by omega
    rw [h0, if_pos (by omega)]
  · rw [if_neg (by omega), if_neg (by omega), if_pos (by omega)]

theorem Sys.portOfPa_ecam {s : Sys} {pa : Nat} (h : regionOf pa = .ecam s.socket) : s.portOfPa pa = some ((pa - portSegment s.socket 0) / 0x10000000) := by
  unfold Sys.portOfPa
  generalize regionOf pa = r at h
  subst h
  exact if_pos rfl

theorem portSegment_port {z p j : Nat} (hj : j < 4) : (portSegment z p + j * 2 ^ 15 + 4 - portSegment z 0) / 0x10000000 = p := by
  unfold portSegment
  omega

theorem Sys.portOfPa_segment {s : Sys} {p j : Nat} (hz : s.socket < 2) (hp : p < 8) (hj : j < 4) :
    s.portOfPa (portSegment s.socket p + j * 2 ^ 15 + 4) = some p :=
  (Sys.portOfPa_ecam (portSegment_region hz hp hj)).trans (congrArg some (portSegment_port hj))

theorem portSegment_low {z p j : Nat} (hj : j < 4) : (portSegment z p + j * 2 ^ 15 + 4) % 0x10000000 = j * 2 ^ 15 + 4 := by
  unfold portSegment
  omega

theorem portSegment_aligned {z p j : Nat} : (portSegment z p + j * 2 ^ 15 + 4) % 4 = 0 := by
  unfold portSegment
  omega

theorem bit_setBit_self (m k : Nat) (b : Bool) : bit (setBit m k b) k = b := by
  rw [bit_eq_testBit, testBit_setBit, if_pos rfl]

theorem bit_setBit_low (m k : Nat) (b : Bool) (h : k < 4) : bit (setBit m k b % 16) k = b := by
  rw [bit_eq_testBit, show (16 : Nat) = 2 ^ 4 from rfl, Nat.testBit_mod_two_pow, testBit_setBit, if_pos rfl, decide_eq_true h, Bool.true_and]

theorem setBit_others (m k : Nat) (b : Bool) : (below 4).all (fun w => w == k || bit (setBit m k b) w == bit m w) = true := by
  refine List.all_eq_true.mpr fun w _ => ?_
  by_cases e : w = k
  · simp [e]
  · rw [bit_eq_testBit, bit_eq_testBit, testBit_setBit, if_neg e]
    simp

theorem Sys.intxName_lkWake (s : Sys) (p j k : Nat) : (s.lkWake p j).intxName p j k = s.intxName p j k := by
  unfold Sys.intxName
  split <;> exact Sys.rf_lkWake s p j _ (by decide) _ _

/-- A wire of a link that wakes for its message. -/
theorem Sys.wireSet (s : Sys) (p j k : Nat) (b : Bool) :
    (((s.lkWake p j).intxTo p j (setBit (s.link p j).wires k b)).link p j).wires = setBit (s.link p j).wires k b ∧
    ((s.lkWake p j).intxTo p j (setBit (s.link p j).wires k b)).rf F.IOP_LINK_INTX_WIRES p j = setBit (s.link p j).wires k b % 16 ∧
    Sys.FrameLink p j s ((s.lkWake p j).intxTo p j (setBit (s.link p j).wires k b))
      (fun k => k == ⟨.IOP_LINK_STATUS, p, j⟩ || k == ⟨.IOP_LINK_INTX, p, j⟩ || lineReg k) [.icn] := by
  refine ⟨?_, Sys.wires_intxTo .., ?_⟩
  · rw [Sys.link_intxTo, Sys.link_lkWake]
  · refine Sys.FrameAt.trans (Sys.FrameLink.of_frame ((s.lkWake_frame p j).regs_mono fun k hk => ?_) rfl)
      ((Sys.intxTo_frame _ p j _).mono (fun k hk => ?_) (List.Subset.refl _))
    · rw [lkReg] at hk
      simp [hk]
    · rw [wireReg] at hk
      simp only [Bool.or_eq_true] at hk ⊢
      tauto

/-- Settles O47: each command is rewritten to the operations of its link, whose frames give what stays. -/
theorem portRequests : Obligations.PortRequests := by
  unfold Obligations.PortRequests
  refine ⟨?read, ?refused, ?write, ?unmapped, ?header, ?bus, ?cfgWrite, ?bme, ?cplMem, ?cplCfg, ?timeout, ?inRead, ?inWrite, ?noBme, ?inRefused, ?msi, ?msiBad,
    ?assert, ?deassert, ?ptm⟩
  case read =>
    intro s who pa n peer p j hl hr hp hheld hroot hlink hadm hup hreset
    unfold State.ioOf at hadm ⊢
    refine completes_onSys _ _ s _ hl rfl ?_
    rw [hp, Sys.atPort_free _ hheld, s.sys.outRead_link who pa.toNat n p j peer hr hp hroot hlink]
    dsimp only
    rw [if_neg (by simpa using hadm), if_neg (by simp [Sys.linkShut_open hup hreset]), State.withSys_sys]
    generalize hu : s.sys.ioTaken who false pa.toNat n 0 = u
    have hulink : u.link p j = s.sys.link p j := by rw [← hu, Sys.link_ioTaken]
    have huup : u.linkUp p j = true := by rw [← hu, Sys.linkUp_ioTaken]; exact hup
    generalize Tlp.memRead _ _ = x
    have hto := u.link_linkAsk p j ⟨.src (s.sys.takeIo who false pa.toNat n 0).1.1, .mem, pa.toNat, (s.sys.takeIo who false pa.toNat n 0).1.2.2.2.1⟩ x
    rw [hulink] at hto
    refine ⟨(congrArg LinkSt.out hto).trans rfl, (congrArg LinkSt.tx hto).trans rfl, u.lkState_linkAsk p j _ x huup, u.outIdle_linkAsk p j _ x, (congrArg LinkSt.inq hto).trans rfl,
      State.onlyLink_withSys ?_⟩
    rw [← hu]
    exact Sys.ioTaken_link (List.mem_singleton_self _) ((Sys.linkAsk_frame _ p j _ x).mono (fun k hk => lkReg_eq hk) (List.Subset.refl _))
  case refused =>
    intro s who pa n peer p j hl hr hp hheld hroot hlink hadm
    unfold State.ioOf at hadm ⊢
    refine completes_onSys _ _ s _ hl rfl ?_
    rw [hp, Sys.atPort_free _ hheld, s.sys.outRead_link who pa.toNat n p j peer hr hp hroot hlink]
    dsimp only
    have hnot : (!s.sys.linkAdmits p j (s.sys.takeIo who false pa.toNat n 0).1.2.1 (s.sys.takeIo who false pa.toNat n 0).1.2.2.1 false) = true := by rw [hadm]; rfl
    rw [if_pos hnot, State.withSys_sys]
    have hframe := s.sys.ioTaken_frame who false pa.toNat n 0 (but := logReg p j)
    have hlog := (s.sys.ioTaken who false pa.toNat n 0).linkLog_frame_known p j cObRefused (some pa.toNat) 0 (parts := [.msgs])
    refine ⟨?_, ?_, ?_, fun hv => ⟨?_, ?_⟩, State.only_withSys ?_⟩
    · exact Sys.outAnswer_msgs _ _ _ _ _ _ _ _ (Sys.linkLog_msgs ..)
    · exact (Sys.links_outAnswer ..).trans ((Sys.linkLog_links ..).trans (Sys.ioTaken_links ..))
    · exact (Sys.rf_outAnswer ..).trans (Sys.linkLog_valid _ p j cObRefused _ _ (by decide))
    · exact (Sys.rf_outAnswer ..).trans (Sys.linkLog_cause _ p j cObRefused _ _ ((Sys.rf_ioTaken ..).trans hv))
    · exact (Sys.rf_outAnswer ..).trans (Sys.linkLog_addr _ p j cObRefused _ _ pa.isLt ((Sys.rf_ioTaken ..).trans hv)).1
    · exact ((hframe.trans hlog).trans (Sys.outAnswer_frame _ _ _ _ _ _ _ rfl)).regs_mono fun k hk => logReg_eq hk
  case write =>
    intro s who pa n data p j hl hr hp hheld hroot hlink hadm hup hreset
    unfold State.ioOf at hadm ⊢
    refine completes_onSys _ _ s _ hl rfl ?_
    rw [hp, Sys.atPort_free _ hheld, s.sys.outWrite_link who pa.toNat n (data.toNat % 2 ^ (8 * n.val)) p j hr hp hroot hlink]
    dsimp only
    rw [if_neg (by simpa using hadm), if_neg (by simp [Sys.linkShut_open hup hreset]), State.withSys_sys]
    generalize hu : s.sys.ioTaken who true pa.toNat n (data.toNat % 2 ^ (8 * n.val)) = u
    have hulink : u.link p j = s.sys.link p j := by rw [← hu, Sys.link_ioTaken]
    have huup : u.linkUp p j = true := by rw [← hu, Sys.linkUp_ioTaken]; exact hup
    generalize Tlp.memWrite _ _ _ _ = x
    have hto := (Sys.link_of_links (Sys.links_outAccepted (u.lkSend p j x) (s.sys.takeIo who true pa.toNat n (data.toNat % 2 ^ (8 * n.val))).1.1 pa.toNat false) p j).trans
      (u.link_lkSend p j x)
    rw [hulink] at hto
    refine ⟨(congrArg LinkSt.tx hto).trans rfl, (congrArg LinkSt.out hto).trans rfl, (congrArg LinkSt.inq hto).trans rfl,
      (Sys.rf_outAccepted ..).trans (u.lkState_lkSend p j x huup), State.onlyLink_withSys ?_⟩
    rw [← hu]
    refine Sys.ioTaken_link (List.mem_singleton_self _) (Sys.FrameAt.trans
      ((Sys.lkSend_frameLink _ p j x).mono (fun k hk => lkReg_eq hk) (List.Subset.refl _)) (Sys.FrameLink.of_frame (Sys.outAccepted_frame _ _ _ _ rfl) rfl))
  case unmapped =>
    intro s who pa n data p hl hr hp hheld hroot hlink
    refine completes_onSys _ _ s _ hl rfl ?_
    rw [hp, Sys.atPort_free _ hheld, s.sys.outWrite_none who pa.toNat n (data.toNat % 2 ^ (8 * n.val)) p hr hp hroot hlink, State.withSys_sys]
    have hframe := s.sys.ioTaken_frame who true pa.toNat n (data.toNat % 2 ^ (8 * n.val)) (but := logReg p 0)
    have hlog := (s.sys.ioTaken who true pa.toNat n (data.toNat % 2 ^ (8 * n.val))).linkLog_frame_known p 0 cUrDecode (some pa.toNat) 0 (parts := [.msgs])
    refine ⟨?_, fun hv => ?_, State.only_withSys ?_⟩
    · exact (Sys.rf_outAccepted ..).trans (Sys.linkLog_valid _ p 0 cUrDecode _ _ (by decide))
    · obtain ⟨haddr, hvalid⟩ := Sys.linkLog_addr (s.sys.ioTaken who true pa.toNat n (data.toNat % 2 ^ (8 * n.val))) p 0 cUrDecode pa.toNat 0 pa.isLt
        ((Sys.rf_ioTaken ..).trans hv)
      refine ⟨(Sys.rf_outAccepted ..).trans (Sys.linkLog_cause _ p 0 cUrDecode _ _ ((Sys.rf_ioTaken ..).trans hv)), (Sys.rf_outAccepted ..).trans haddr,
        (Sys.rf_outAccepted ..).trans hvalid⟩
    · exact ((hframe.trans hlog).trans (Sys.outAccepted_frame _ _ _ _ rfl)).regs_mono fun k hk => logReg_eq hk
  case header =>
    intro s who pa size peer p j dw hl hr hp hheld hroot hlink hn h4 hal hpa hdw hadm
    unfold State.ioOf at hadm hn ⊢
    refine completes_onSys _ _ s _ hl rfl ?_
    rw [hp, Sys.atPort_free _ hheld, s.sys.cfgRead_header who pa.toNat size.bytes p j peer hr hp hroot dw j.isLt hdw hpa hlink hn h4 hal hadm, State.withSys_sys]
    refine ⟨Sys.outAnswer_msgs _ _ _ _ _ _ _ _ rfl, State.only_withSys ?_⟩
    exact (((s.sys.ioTaken_frame ..).parts_mono (by decide)).trans (.usedFree _ rfl)).trans (Sys.outAnswer_frame _ _ _ _ _ _ _ rfl)
  case bus =>
    intro s who pa size peer p j hl hr hp hheld hroot hn h4 hal hb hlink hadm hup hreset
    unfold State.ioOf at hadm hn ⊢
    refine completes_onSys _ _ s _ hl rfl ?_
    rw [hp, Sys.atPort_free _ hheld,
      s.sys.cfgRead_bus who pa.toNat size.bytes p j peer hr hp hroot hb hlink hn h4 hal hadm (Sys.linkShut_open hup hreset), State.withSys_sys]
    generalize hu : s.sys.ioTaken who false pa.toNat size.bytes 0 = u
    have hulink : u.link p j = s.sys.link p j := by rw [← hu, Sys.link_ioTaken]
    have huup : u.linkUp p j = true := by rw [← hu, Sys.linkUp_ioTaken]; exact hup
    generalize Tlp.cfgRead _ _ _ = x
    have hto := u.link_linkAsk p j ⟨.src (s.sys.takeIo who false pa.toNat size.bytes 0).1.1, .cfgRead, pa.toNat, size.bytes⟩ x
    rw [hulink] at hto
    refine ⟨(congrArg LinkSt.out hto).trans rfl, (congrArg LinkSt.tx hto).trans rfl, u.lkState_linkAsk p j _ x huup, State.onlyLink_withSys ?_⟩
    rw [← hu]
    exact Sys.ioTaken_link (List.mem_singleton_self _) ((Sys.linkAsk_frame _ p j _ x).mono (fun k hk => lkReg_eq hk) (List.Subset.refl _))
  case cfgWrite =>
    intro s who pa size data p j dw m hl hr hp hheld hroot hlink hq hsize hpa hm hadm
    refine completes_onSys _ _ s _ hl rfl ?_
    have hal : pa.toNat % 4 = 0 := by omega
    rw [show size.bytes = 4 from congrArg Size.bytes hsize] at hq ⊢
    obtain ⟨hdw, hm32⟩ := hdrMask_some hm
    rw [hp, Sys.atPort_free _ hheld, s.sys.cfgWrite_header who pa.toNat 4 data.toNat p j hr hp hroot dw 0 j.isLt hdw hal (by rw [hpa, hal, Nat.add_zero]) hlink (by decide)
        hal hq hadm,
      State.withSys_sys]
    have hhdr : (s.sys.ioTaken who true pa.toNat 4 data.toNat).hdr p j = s.sys.hdr p j := by
      funext d
      unfold Sys.hdr
      rw [Sys.link_ioTaken]
    have hself : ((s.sys.ioTaken who true pa.toNat 4 data.toNat).hdrWrite p j dw 0 4 data.toNat).hdr p j dw = (data.toNat % 2 ^ 32) &&& m := by
      rw [Sys.hdr_hdrWrite _ _ _ _ _ _ _ hm, if_pos rfl, hdrWord_whole _ _ _ hm32]
    refine ⟨hself, ?_, ?_, ?_, State.onlyLink_withSys (Sys.hdrWrite_taken hm)⟩
    · have hall := Sys.hdrWrite_all (s := s.sys.ioTaken who true pa.toNat 4 data.toNat) (p := p) (j := j) (off := 0) (n := 4) (data := data.toNat) hm
      rw [hhdr] at hall
      exact hall
    · rintro rfl
      have hm1 : m = 0x547 := (Option.some.inj hm).symm
      refine (Sys.bme_hdrWrite _ p j 1 0 4 data.toNat hm).trans ?_
      rw [Sys.rootBme, hself, bit_eq_testBit, Nat.testBit_and, Nat.testBit_mod_two_pow, hm1, fget_eq_div, pow_one,
        ← b2n_testBit, show Nat.testBit 1351 2 = true by decide, Bool.and_true]
      simp
    · rw [Sys.link_hdrWrite _ p j dw 0 4 data.toNat hm, Sys.link_ioTaken]
  case bme =>
    intro s who p j hl hroot hlink hsock hq hadm
    refine completes_onSys _ _ s _ hl rfl ?_
    have hm : hdrMask 1 = some 0x547 := rfl
    have hr := portSegment_region hsock p.isLt j.isLt
    have hp := Sys.portOfPa_segment (s := s.sys) hsock p.isLt j.isLt
    have hmod := portSegment_low (z := s.sys.socket) (p := p) j.isLt
    have hal := portSegment_aligned (z := s.sys.socket) (p := p) (j := j)
    have hto : s.sys.bmeClear who p j = (s.sys.ioTaken who true (portSegment s.sys.socket p + j.val * 2 ^ 15 + 4) 2
        (setBit (s.sys.hdr p j 1 % 65536) 2 false)).hdrWrite p j 1 0 2 (setBit (s.sys.hdr p j 1 % 65536) 2 false) :=
      s.sys.cfgWrite_header who _ 2 _ p j hr hp hroot 1 0 j.isLt (by decide) hal (hmod.trans (by rw [hal])) hlink (by decide)
        (Nat.mod_eq_zero_of_dvd ((by decide : 2 ∣ 4).trans (Nat.dvd_of_mod_eq_zero hal))) hq hadm
    rw [hto, State.withSys_sys]
    generalize hpa : portSegment s.sys.socket p + j.val * 2 ^ 15 + 4 = pa
    generalize hd : setBit (s.sys.hdr p j 1 % 65536) 2 false = d
    have hhdr : (s.sys.ioTaken who true pa 2 d).hdr p j = s.sys.hdr p j := by
      funext i
      unfold Sys.hdr
      rw [Sys.link_ioTaken]
    have hself : ((s.sys.ioTaken who true pa 2 d).hdrWrite p j 1 0 2 d).hdr p j 1 = hdrWord (s.sys.hdr p j 1) 0x547 0 2 d := by
      rw [Sys.hdr_hdrWrite _ _ _ _ _ _ _ hm, if_pos rfl, hhdr]
    have hclear : ((s.sys.ioTaken who true pa 2 d).hdrWrite p j 1 0 2 d).rootBme p j = false := by
      rw [Sys.rootBme, hself, bit_eq_testBit, hdrWord_testBit, if_pos (by decide), ← hd, testBit_setBit, if_pos rfl, Bool.false_and]
    have hlk := Sys.link_hdrWrite (s.sys.ioTaken who true pa 2 d) p j 1 0 2 d hm
    rw [Sys.link_ioTaken] at hlk
    refine ⟨hclear, (Sys.bme_hdrWrite _ p j 1 0 2 d hm).trans (by rw [hclear]; rfl), ?_, ?_, (congrArg LinkSt.inq hlk).trans rfl,
      (congrArg LinkSt.out hlk).trans rfl, State.onlyLink_withSys (Sys.hdrWrite_taken hm)⟩
    · have hall := Sys.hdrWrite_all (s := s.sys.ioTaken who true pa 2 d) (p := p) (j := j) (off := 0) (n := 2) (data := d) hm
      rw [hhdr] at hall
      exact hall
    · rw [hself, bit_eq_testBit, hdrWord_testBit, if_pos (by decide), ← hd, testBit_setBit, if_neg (by decide), bit_eq_testBit,
        show (65536 : Nat) = 2 ^ 16 from rfl, Nat.testBit_mod_two_pow]
      have hkept : Nat.testBit 0x547 1 = true := by decide
      simpa using fun _ => hkept
  case cplMem =>
    intro s p j place c o w hl hout hby hkind hup hheel hquiet hf ht
    refine completes_onSys _ _ s _ hl rfl ?_
    have hkc : o.kind ≠ .cfgWrite := by rw [hkind]; decide
    have hends (d : Nat) (po er : Bool) := (Sys.linksQuiet_of_all hquiet).ended (w := w) (pa := o.pa) (n := o.n) (data := d) (poison := po) (err := er)
      (but := fun k => k.reg == .IOP_LINK_STATUS) (parts := []) (.refl (s.sys.outGone p j place)) ⟨rfl, rfl⟩ (fun _ hk => hk)
    rw [Sys.pcieCpl_eq hout hup hheel]
    unfold Sys.cplEnded
    rw [hkind]
    cases c with
    | ok d =>
      obtain ⟨hgone, hmsgs, hframe⟩ := hends (lineField d 0 (8 * o.n)) false false
      dsimp only
      rw [Sys.outEnd_src _ hby hkc, State.withSys_sys]
      exact ⟨hgone, hmsgs, State.onlyLink_withSys hframe⟩
    | poisoned =>
      obtain ⟨hgone, hmsgs, hframe⟩ := hends 0 true false
      dsimp only
      rw [Sys.outEnd_src _ hby hkc, State.withSys_sys]
      exact ⟨hgone, hmsgs, State.onlyLink_withSys hframe⟩
    | unsupported =>
      obtain ⟨hgone, hmsgs, hframe⟩ := hends 0 false true
      dsimp only
      rw [Sys.outEnd_src _ hby hkc, State.withSys_sys]
      exact ⟨hgone, hmsgs, State.onlyLink_withSys hframe⟩
    | retry v => cases v <;> contradiction
  case cplCfg =>
    intro s p j place c o w hl hout hby hkind hup hheel hquiet hf ht
    refine completes_onSys _ _ s _ hl rfl ?_
    have hkc : o.kind ≠ .cfgWrite := by rw [hkind]; decide
    have hq := Sys.linksQuiet_of_all hquiet
    rw [Sys.pcieCpl_eq hout hup hheel]
    unfold Sys.cplEnded
    rw [hkind]
    cases c with
    | ok d =>
      obtain ⟨hgone, hmsgs, hframe⟩ := hq.ended (w := w) (pa := o.pa) (n := o.n) (data := lineField d 0 (8 * o.n)) (poison := false) (err := false)
        (but := fun k => k.reg == .IOP_LINK_STATUS || k == ⟨.IOP_LINK_ERR, p, j⟩ || k == ⟨.IOP_LINK_ERRADDR, p, j⟩) (parts := [.freeCount])
        (.refl (s.sys.outGone p j place)) ⟨rfl, rfl⟩ (fun k hk => by simp [hk])
      dsimp only
      rw [Sys.outEnd_src _ hby hkc, State.withSys_sys]
      exact ⟨hgone, hmsgs, nofun, State.onlyLink_withSys hframe⟩
    | poisoned =>
      have hlog := s.sys.outGone_log (p := p) (j := j) (place := place) cPoisonRx (some o.pa) 0 (parts := [.freeCount])
      obtain ⟨hgone, hmsgs, hframe⟩ := hq.ended (w := w) (pa := o.pa) (n := o.n) (data := allOnes o.n) (poison := false) (err := false) hlog ⟨rfl, rfl⟩
        (fun k hk => by simp [hk])
      have hrf (f : Fld) (hf : f.reg ≠ .IOP_LINK_STATUS) := hq.ended_rf (w := w) (pa := o.pa) (n := o.n) (data := allOnes o.n) (poison := false) (err := false)
        hlog rfl f hf p j
      dsimp only
      rw [Sys.outEnd_src _ hby hkc, State.withSys_sys]
      refine ⟨hgone, hmsgs, fun _ => ⟨?_, fun hv => ?_⟩, State.onlyLink_withSys hframe⟩
      · exact (hrf F.IOP_LINK_ERR_VALID (by decide)).trans (Sys.linkLog_valid _ p j cPoisonRx _ _ (by decide))
      · exact (hrf F.IOP_LINK_ERR_CAUSE (by decide)).trans (Sys.linkLog_cause _ p j cPoisonRx _ _ ((Sys.rf_outGone _ (by decide) _ _).trans hv))
    | unsupported =>
      have hlog := (s.sys.outGone p j place).linkLog_frame p j none (some o.pa) 0
      obtain ⟨hgone, hmsgs, hframe⟩ := hq.ended (w := w) (pa := o.pa) (n := o.n) (data := allOnes o.n) (poison := false) (err := false)
        (but := fun k => k.reg == .IOP_LINK_STATUS || k == ⟨.IOP_LINK_ERR, p, j⟩ || k == ⟨.IOP_LINK_ERRADDR, p, j⟩)
        (hlog.regs_mono fun k hk => by rw [Bool.or_assoc]; exact Bool.or_eq_true_iff.mpr (.inr hk)) ⟨rfl, rfl⟩ (fun k hk => by simp [hk])
      dsimp only
      rw [Sys.outEnd_src _ hby hkc, State.withSys_sys]
      exact ⟨hgone, hmsgs, nofun, State.onlyLink_withSys hframe⟩
    | retry v => cases v <;> contradiction
  case timeout =>
    intro s p j place o w hl hout hby hkc hheel hquiet
    refine completes_onSys _ _ s _ hl rfl ?_
    have hq := Sys.linksQuiet_of_all hquiet
    have hlog := s.sys.outGone_log (p := p) (j := j) (place := place) cCplTimeout (some o.pa) 0 (parts := [])
    obtain ⟨hgone, hmsgs, hframe⟩ := hq.ended (w := w) (pa := o.pa) (n := o.n) (data := if o.kind = .mem then 0 else allOnes o.n) (poison := false)
      (err := o.kind = .mem) hlog ⟨rfl, rfl⟩ (fun k hk => by simp [hk])
    have hrf (f : Fld) (hf : f.reg ≠ .IOP_LINK_STATUS) := hq.ended_rf (w := w) (pa := o.pa) (n := o.n) (data := if o.kind = .mem then 0 else allOnes o.n)
      (poison := false) (err := o.kind = .mem) hlog rfl f hf p j
    rw [Sys.cplTimeout_eq hout hby hkc hheel, State.withSys_sys]
    refine ⟨hgone, hmsgs.trans ?_, ?_, fun hv => ?_, State.onlyLink_withSys hframe⟩
    · by_cases hm : o.kind = .mem <;> simp [hm, allOnes]
    · exact (hrf F.IOP_LINK_ERR_VALID (by decide)).trans (Sys.linkLog_valid _ p j cCplTimeout _ _ (by decide))
    · exact (hrf F.IOP_LINK_ERR_CAUSE (by decide)).trans (Sys.linkLog_cause _ p j cCplTimeout _ _ ((Sys.rf_outGone _ (by decide) _ _).trans hv))
  case inRead =>
    intro s p j a n ro reqId z hl hheld hroot htakes hn hreset hb hr hq
    refine completes_onSys _ _ s _ hl rfl ?_
    rw [Sys.atPort_free _ hheld, State.withSys_sys]
    generalize ht : s.sys.inbound p j false a.toNat n 0 false ro false reqId.toNat = t
    obtain ⟨hlink, hstate, hidle, hcarry, hframe⟩ := s.sys.inbound_sent p j a.toNat n 0 false ro reqId.toNat false hroot htakes hn hreset hb hr hq ht.symm
    refine ⟨(congrArg LinkSt.inq hlink).trans rfl, hstate, hidle, (congrArg LinkSt.out hlink).trans rfl, (congrArg LinkSt.tx hlink).trans rfl,
      List.all_eq_true.mpr fun l hmem => ?_, State.onlyLink_withSys hframe⟩
    have hreq := hcarry l hmem
    rw [InReq.lineReq_read p j _ l rfl] at hreq
    rcases hreq with ⟨m, hreq⟩ | hreq | hreq
    · exact Bool.or_eq_true_iff.mpr (.inl (List.any_eq_true.mpr ⟨_, hreq, by simp⟩))
    · exact Bool.or_eq_true_iff.mpr (.inl (List.any_eq_true.mpr ⟨_, hreq, by simp [Req.errorMsg]⟩))
    · exact Bool.or_eq_true_iff.mpr (.inr (List.any_eq_true.mpr ⟨_, hreq, by simp⟩))
  case inWrite =>
    intro s p j a n data e ro reqId z hl hheld hroot htakes hn hreset hb hr hq
    refine completes_onSys _ _ s _ hl rfl ?_
    rw [Sys.atPort_free _ hheld, State.withSys_sys]
    generalize ht : s.sys.inbound p j true a.toNat n data e ro false reqId.toNat = t
    obtain ⟨hlink, hstate, hidle, hcarry, hframe⟩ := s.sys.inbound_sent p j a.toNat n data e ro reqId.toNat true hroot htakes hn hreset hb hr hq ht.symm
    have hpoison : (s.sys.inReqOf p j true a.toNat n data e ro reqId.toNat).poison = e := Bool.and_true e
    refine ⟨(congrArg LinkSt.inq hlink).trans ?_, hstate, hidle, (congrArg LinkSt.tx hlink).trans rfl,
      List.all_eq_true.mpr fun l hmem => ?_, State.onlyLink_withSys hframe⟩
    · simp [Sys.inReqOf, InReq.sent]
    · have hreq := hcarry l hmem
      rw [InReq.lineReq_write p j _ l (by simp [Sys.inReqOf]), hpoison] at hreq
      rcases hreq with ⟨m, hreq⟩ | hreq | hreq
      · exact Bool.or_eq_true_iff.mpr (.inl (List.any_eq_true.mpr ⟨_, hreq, by simp⟩))
      · exact Bool.or_eq_true_iff.mpr (.inl (List.any_eq_true.mpr ⟨_, hreq, by simp [Req.errorMsg]⟩))
      · exact Bool.or_eq_true_iff.mpr (.inr (List.any_eq_true.mpr ⟨_, hreq, by simp⟩))
  case noBme =>
    intro s p j a n data e ro bad reqId hl hheld hroot htakes hn hreset hb
    refine completes_onSys _ _ s _ hl rfl ?_
    rw [Sys.atPort_free _ hheld, s.sys.inbound_noBme p j true a.toNat n data e ro bad reqId.toNat hroot htakes hn hreset hb, Sys.when_true, Sys.inNo_write,
      State.withSys_sys]
    have hframe := s.sys.refusal_frame p j cBme a.toNat reqId.toNat (parts := [])
    have hbump (u : Sys) (f : Fld) (hf : f.reg = .IOP_LINK_ERR) : (u.bump F.IOP_LINK_STATUS_BME_DROP p j).rf f p j = u.rf f p j :=
      Sys.rf_put_reg _ F.IOP_LINK_STATUS_BME_DROP f _ _ _ _ _ (by rw [hf]; decide)
    have hdrop : ((s.sys.lkWake p j).linkLog p j (some cBme) (some a.toNat) reqId.toNat).rf F.IOP_LINK_STATUS_BME_DROP p j =
        s.sys.rf F.IOP_LINK_STATUS_BME_DROP p j :=
      ((Sys.linkLog_frame_known _ p j cBme _ _ (parts := [])).rf F.IOP_LINK_STATUS_BME_DROP p j (by simp [logReg])).trans (s.sys.rf_lkWake_drop p j)
    refine ⟨(Sys.linkLog_links ..).trans (Sys.links_lkWake ..), ?_, ?_, fun hv => ?_, State.only_withSys (hframe.trans (.bump _ _ _ _ (by simp)))⟩
    · exact (Sys.rf_bump _ F.IOP_LINK_STATUS_BME_DROP p j (by decide)).trans (by rw [hdrop]; rfl)
    · exact (hbump _ _ rfl).trans (Sys.linkLog_valid _ p j cBme _ _ (by decide))
    · exact (hbump _ _ rfl).trans (Sys.linkLog_cause _ p j cBme _ _ ((Sys.rf_lkWake _ p j _ (by decide) _ _).trans hv))
  case inRefused =>
    intro s p j a n ro bad reqId hl hheld hroot htakes hn hreset hno
    refine completes_onSys _ _ s _ hl rfl ?_
    obtain ⟨c, hc, hto⟩ := s.sys.inbound_refused p j a.toNat n 0 false ro bad reqId.toNat hroot htakes hn hreset hno
    rw [Sys.atPort_free _ hheld, hto, Sys.inNo_read, State.withSys_sys]
    have hframe := s.sys.refusal_frame p j c a.toNat reqId.toNat (parts := [])
    have hlink := Sys.link_lkSend ((s.sys.lkWake p j).linkLog p j (some c) (some a.toNat) reqId.toNat) p j .unsupported
    rw [Sys.link_of_links ((Sys.linkLog_links ..).trans (Sys.links_lkWake ..)) p j] at hlink
    have hsend := Sys.lkSend_frameLink ((s.sys.lkWake p j).linkLog p j (some c) (some a.toNat) reqId.toNat) p j .unsupported (parts := [])
    have hrf (f : Fld) (hf : f.reg = .IOP_LINK_ERR) := hsend.1.rf f p j (by simp [lkReg, hf])
    refine ⟨(congrArg LinkSt.tx hlink).trans rfl, (congrArg LinkSt.inq hlink).trans rfl, ?_, fun hv => ?_, State.onlyLink_withSys ?_⟩
    · exact (hrf _ rfl).trans (Sys.linkLog_valid _ p j c _ _ hc)
    · exact (hrf _ rfl).trans (Sys.linkLog_reqId _ p j c _ _ reqId.isLt ((Sys.rf_lkWake _ p j _ (by decide) _ _).trans hv))
    · exact Sys.FrameAt.trans (Sys.FrameLink.of_frame hframe rfl) (hsend.mono (fun k hk => by rw [lkReg] at hk; simp [hk]) (List.Subset.refl _))
  case msi =>
    intro s p j off n data reqId hl hheld hroot htakes hsize hal hreset hb hq hclk hin
    refine completes_onSys _ _ s _ hl rfl ?_
    have hn : n.val ≠ 0 := by omega
    rw [Sys.atPort_free _ hheld,
      s.sys.inbound_msi p j n data false false reqId.toNat hroot htakes hn hreset hb off.isLt ⟨hsize, hal⟩, State.withSys_sys]
    generalize ht : (s.sys.lkWake p j).inPut p j
      { s.sys.inReqOf p j true (0xFE00000000000 + off.toNat) n data false false reqId.toNat with kind := .msg (s.sys.linkKennel p j) (data % 4096), todo := [] } = t
    obtain ⟨hempty, htaken, hframe⟩ := s.sys.inPut_taken p j _ rfl hq hreset hclk hin ht.symm
    exact ⟨hempty, htaken, State.onlyLink_withSys hframe⟩
  case msiBad =>
    intro s p j off n data reqId hl hheld hroot htakes hn hill hreset hb
    refine completes_onSys _ _ s _ hl rfl ?_
    rw [Sys.atPort_free _ hheld, s.sys.inbound_msiBad p j n data false false reqId.toNat hroot htakes hn hreset hb off.isLt hill, Sys.inNo_write, State.withSys_sys]
    refine ⟨(Sys.linkLog_links ..).trans (Sys.links_lkWake ..), Sys.linkLog_valid _ p j cMsiPage _ _ (by decide), fun hv => ?_,
      State.only_withSys (s.sys.refusal_frame p j cMsiPage _ reqId.toNat)⟩
    exact Sys.linkLog_cause _ p j cMsiPage _ _ ((Sys.rf_lkWake _ p j _ (by decide) _ _).trans hv)
  case assert =>
    intro s p j wire hl hroot htakes hreset
    refine completes_onSys _ _ s _ hl rfl ?_
    rw [s.sys.intxMessage_eq p j wire true hroot htakes hreset, State.withSys_sys]
    obtain ⟨hlink, hwires, hframe⟩ := s.sys.wireSet p j wire true
    refine ⟨?_, ?_, ?_, fun hen _ hname hlevel => ?_, State.onlyLink_withSys hframe⟩
    · rw [hlink]
      exact bit_setBit_self ..
    · rw [hlink]
      exact setBit_others ..
    · rw [hwires]
      exact bit_setBit_low _ _ _ wire.isLt
    · have hkennel := s.sys.linkKennel_lkWake p j
      have hwname : (s.sys.lkWake p j).intxName p j wire = s.sys.intxName p j wire := s.sys.intxName_lkWake p j wire
      have hpend := (s.sys.lkWake p j).srcPending_wire p j (m := setBit (s.sys.link p j).wires wire true) wire.isLt (bit_setBit_self ..)
        (by rw [Sys.on, Sys.rf_lkWake _ _ _ _ (by decide)]; exact hen) (by rw [hwname]; exact hname)
        (by rw [hwname, hkennel, Sys.srcLevel_frame (s.sys.lkWake_frame p j (parts := [])) (by simp [lkReg])]; exact hlevel)
      rw [hwname, hkennel] at hpend
      exact hpend
  case deassert =>
    intro s p j wire hl hroot htakes hreset
    refine completes_onSys _ _ s _ hl rfl ?_
    rw [s.sys.intxMessage_eq p j wire false hroot htakes hreset, State.withSys_sys]
    obtain ⟨hlink, hwires, hframe⟩ := s.sys.wireSet p j wire false
    refine ⟨?_, ?_, ?_, State.onlyLink_withSys hframe⟩
    · rw [hlink]
      exact bit_setBit_self ..
    · rw [hwires]
      exact bit_setBit_low _ _ _ wire.isLt
    · rw [hlink]
      exact setBit_others ..
  case ptm =>
    intro s p j hl hroot htakes
    refine completes_onSys _ _ s _ hl rfl ?_
    have hto : s.sys.ptm p j = s.sys.lkSend p j (.ptm (s.sys.span.now * 25 / 32)) := if_pos (by rw [hroot, htakes]; rfl)
    rw [hto, State.withSys_sys]
    exact ⟨congrArg LinkSt.tx (s.sys.link_lkSend p j _), s.sys.lkState_lkSend p j _ (s.sys.linkTakes_up p j htakes),
      State.onlyLink_withSys ((s.sys.lkSend_frameLink p j _).mono (fun k hk => lkReg_eq hk) (List.Subset.refl _))⟩

end Sys2Proof.Machine
end

section
/-!
SUPPORT. A request that a home agent serves (R308): what its slice is when the request's access begins, or when its snoops are sent.
-/
namespace Sys2Proof.Machine

/-! ## What transactions read of their slice -/

/-- A slice holds what it held, and the registers and the map are as they were. -/
structure Sys.SameHome (n : Nat) (s y : Sys) : Prop where
  sectors : (y.slice n).sectors = (s.slice n).sectors
  sf : (y.slice n).sf = (s.slice n).sf
  epoch : (y.slice n).epoch = (s.slice n).epoch
  session : (y.slice n).session = (s.slice n).session
  buckets : (y.slice n).buckets = (s.slice n).buckets
  resv : (y.slice n).resv = (s.slice n).resv
  regs : ∀ f i j, y.rf f i j = s.rf f i j
  conf : y.conf = s.conf

section
variable {n : Nat} {s y z : Sys} (h : s.SameHome n y)
include h

theorem Sys.SameHome.trans (g : y.SameHome n z) : s.SameHome n z :=
  ⟨g.sectors.trans h.sectors, g.sf.trans h.sf, g.epoch.trans h.epoch, g.session.trans h.session, g.buckets.trans h.buckets, g.resv.trans h.resv,
    fun f i j => (g.regs f i j).trans (h.regs f i j), g.conf.trans h.conf⟩

theorem Sys.SameHome.slState : y.slState n = s.slState n := h.regs _ _ _

theorem Sys.SameHome.sfGet (l : Nat) : y.sfGet n l = s.sfGet n l := by
  unfold Sys.sfGet
  rw [h.sf]

theorem Sys.SameHome.sector (l : Nat) : y.sector n l = s.sector n l := by
  unfold Sys.sector
  rw [Sys.llcUp_of_state h.slState, h.sectors]

theorem Sys.SameHome.llcLine (l : Nat) : y.llcLine n l = s.llcLine n l := by
  unfold Sys.llcLine
  rw [h.sector]

theorem Sys.SameHome.tokenOk (r : Req) : y.tokenOk n r = s.tokenOk n r := by
  unfold Sys.tokenOk
  dsimp only
  rw [h.session, h.buckets, h.slState]

theorem Sys.SameHome.foreign (l : Nat) : y.foreign l = s.foreign l := by
  unfold Sys.foreign Sys.socket
  rw [h.regs]

theorem Sys.SameHome.snoopsFor (r : Req) : y.snoopsFor n r = s.snoopsFor n r := by
  unfold Sys.snoopsFor
  rw [h.sfGet, h.tokenOk, h.resv]

theorem Sys.SameHome.needsData (r : Req) : y.needsData n r = s.needsData n r := by
  unfold Sys.needsData
  rw [h.sfGet, h.tokenOk, h.resv]

end

theorem Sys.SameHome.refl (n : Nat) (s : Sys) : s.SameHome n s := ⟨rfl, rfl, rfl, rfl, rfl, rfl, fun _ _ _ => rfl, rfl⟩

/-- What changes no slice, no register and no map. -/
theorem Sys.SameHome.of_frame {n : Nat} {s y : Sys} {parts : List Part} (h : s.Frame y (fun _ => false) parts) (hs : parts.contains .slices = false)
    (hc : parts.contains .conf = false) : s.SameHome n y := by
  have hslice : y.slice n = s.slice n := congrFun (Sys.slice_of_slices (h.2 .slices hs)) n
  exact ⟨by rw [hslice], by rw [hslice], by rw [hslice], by rw [hslice], by rw [hslice], by rw [hslice], fun f i j => h.rf f i j rfl, h.2 .conf hc⟩

/-- A change of a slice's transactions, held entries and owner-table cache. -/
theorem Sys.SameHome.onSlice {n : Nat} {s : Sys} {f : Slice → Slice} (hf : ∀ z, f z = { z with txns := (f z).txns, goHeld := (f z).goHeld, oc := (f z).oc }) :
    s.SameHome n (s.onSlice n f) := by
  have hself := s.slice_onSlice_self n f
  rw [hf] at hself
  exact ⟨by rw [hself], by rw [hself], by rw [hself], by rw [hself], by rw [hself], by rw [hself], fun _ _ _ => rfl, rfl⟩

/-! ## A slice's own entry -/

theorem Bank.findSome?_set {κ α β : Type} [DecidableEq κ] (l : Bank κ α) (k : κ) (v : α) (f : κ → Option β) (h : Bank.get? l k = none → f k = none) :
    List.findSome? (fun p => f p.1) (Bank.set l k v) = List.findSome? (fun p => f p.1) l := by
  induction l with
  | nil => simp [Bank.set, h rfl]
  | cons x l ih =>
    obtain ⟨k', v'⟩ := x
    by_cases e : k' = k
    · subst e
      simp [Bank.set, List.findSome?_cons]
    · simp only [Bank.set, e, if_false, List.findSome?_cons]
      rw [ih fun hn => h (by simpa only [Bank.get?, e, if_false] using hn)]

theorem Sys.llcLine_onSlice (s : Sys) (n m l : Nat) (f : Slice → Slice) (hf : (f (s.slice n)).sectors = (s.slice n).sectors) :
    (s.onSlice n f).llcLine m l = s.llcLine m l := by
  have hsec : ((s.onSlice n f).slice m).sectors = (s.slice m).sectors := by
    by_cases e : m = n
    · rw [e, Sys.slice_onSlice_self, hf]
    · rw [Sys.slice_onSlice_other (h := e)]
  unfold Sys.llcLine Sys.sector
  rw [hsec]
  rfl

theorem Sys.llcLine_absent {s : Sys} {n l : Nat} (h : Bank.get? s.slices n = none) : s.llcLine n l = none := by
  have hs : s.slice n = .empty := by
    unfold Sys.slice Bank.getD
    rw [h]
    rfl
  have hnone : s.sector n l = none := by
    unfold Sys.sector
    rw [hs]
    split <;> rfl
  unfold Sys.llcLine
  rw [hnone]

/-- What a coherent read finds does not depend on transactions. -/
theorem M.peek_onSlice (x : M) (n l : Nat) (f : Slice → Slice) (hf : (f (x.sys.slice n)).sectors = (x.sys.slice n).sectors) :
    (x.on (fun s => s.onSlice n f)).peek l = x.peek l := by
  have hfind : (x.sys.onSlice n f).slices.findSome? (fun p => (x.sys.onSlice n f).llcLine p.1 l) = x.sys.slices.findSome? (fun p => x.sys.llcLine p.1 l) := by
    have hfun : (fun p : Nat × Slice => (x.sys.onSlice n f).llcLine p.1 l) = fun p => x.sys.llcLine p.1 l := by
      funext p
      exact x.sys.llcLine_onSlice n p.1 l f hf
    rw [hfun]
    exact Bank.findSome?_set _ _ _ (fun k => x.sys.llcLine k l) fun h => Sys.llcLine_absent h
  unfold M.peek
  rw [show (x.on (fun s => s.onSlice n f)).sys.slices.findSome? (fun p => (x.on (fun s => s.onSlice n f)).sys.llcLine p.1 l) =
    x.sys.slices.findSome? (fun p => x.sys.llcLine p.1 l) from hfind]
  rfl

/-! ## The check of a request -/

section
variable (x : M) (n pa : Nat) (install : Bool)

/-- The byte found: from the slice's cache, else from memory, unless it is poison there. -/
theorem M.ownByte_fst : (x.ownByte n pa install).1 =
    match (x.sys.slice n).oc.find? (fun e => e.line = x.sys.ownAddr pa / 64) with
    | some e => some (lineByte e.data (x.sys.ownAddr pa % 64))
    | none => if (x.peek (x.sys.ownAddr pa / 64)).2 then none else some (lineByte (x.peek (x.sys.ownAddr pa / 64)).1 (x.sys.ownAddr pa % 64)) := by
  unfold M.ownByte
  dsimp only
  cases (x.sys.slice n).oc.find? (fun e => e.line = x.sys.ownAddr pa / 64) with
  | some e => rfl
  | none =>
    dsimp only
    cases (x.peek (x.sys.ownAddr pa / 64)).2 <;> rfl

/-- Finding it changes no more than the slice's cache, and that only where it installs. -/
theorem M.ownByte_snd : (x.ownByte n pa install).2 = x ∨
    install = true ∧ ∃ g : Slice → Slice, (∀ z, g z = { z with oc := (g z).oc }) ∧ (x.ownByte n pa install).2 = x.on (fun s => s.onSlice n g) := by
  unfold M.ownByte
  dsimp only
  split
  · next e _ =>
    cases install with
    | false => exact .inl rfl
    | true => exact .inr ⟨rfl, _, fun _ => rfl, rfl⟩
  · split
    · exact .inl rfl
    · cases install with
      | false => exact .inl rfl
      | true => exact .inr ⟨rfl, _, fun _ => rfl, rfl⟩

variable (r : Req)

/-- A check changes no more than the slice's owner-table cache, and that not for RD_SPEC (R387). -/
theorem M.check_snd : (x.check n r).2 = x ∨
    r.kind ≠ .rdSpec ∧ ∃ g : Slice → Slice, (∀ z, g z = { z with oc := (g z).oc }) ∧ (x.check n r).2 = x.on (fun s => s.onSlice n g) := by
  unfold M.check
  dsimp only
  split
  · exact .inl rfl
  · split
    · split
      · exact .inl rfl
      · split
        · exact .inl rfl
        · split <;> exact .inl rfl
    · have h := x.ownByte_snd n (64 * r.line) (r.kind != .rdSpec)
      generalize x.ownByte n (64 * r.line) (r.kind != .rdSpec) = q at h
      obtain ⟨b, y⟩ := q
      have h' : y = x ∨ r.kind ≠ .rdSpec ∧ ∃ g : Slice → Slice, (∀ z, g z = { z with oc := (g z).oc }) ∧ y = x.on (fun s => s.onSlice n g) := by
        simpa using h
      cases b <;> exact h'

/-- The outcome of a check (R383, R385, R397). -/
def M.checked (z : M) (n : Nat) (r : Req) : Check :=
  match z.sys.cxlLink (64 * r.line) with
  | some (p, j) =>
    if ((z.sys.conf.port p).kennels[j]?).getD 0xFF ≠ r.kennel then .deny 1
    else if worldOk (bit (z.sys.conf.port p).world j) r.secure
      then .ok (b2n (bit (z.sys.conf.port p).world j) * 128 + ((z.sys.conf.port p).kennels[j]?).getD 0xFF * 8 + 1) else .deny 2
  | none =>
    if r.who.device then
      match z.sys.conf.locate (64 * r.line) with
      | none => .deny 0
      | some (m, _, _) =>
        let rs := (below 32).map (fun i => Bank.getD z.sys.regionNow (m, i) (0, 0))
        if rs.any (fun e => regionAdmits e.1 e.2 (64 * r.line) r.kennel r.secure r.kind.writes) then .ok (b2n false * 128 + r.kennel * 8 + 1)
        else if rs.any (fun e => regionAdmits e.1 e.2 (64 * r.line) r.kennel true true || regionAdmits e.1 e.2 (64 * r.line) r.kennel true false) then .deny 2
        else .deny 0
    else
      match (z.ownByte n (64 * r.line) (r.kind != .rdSpec)).1 with
      | some b => checkByte b r.kennel r.secure
      | none => .deny 3

theorem M.check_fst : (x.check n r).1 = x.checked n r := by
  unfold M.check M.checked
  dsimp only
  cases x.sys.cxlLink (64 * r.line) with
  | some p => rfl
  | none =>
    dsimp only
    cases r.who.device with
    | true =>
      cases x.sys.conf.locate (64 * r.line) with
      | none => rfl
      | some m =>
        simp only [if_true]
        split
        · rfl
        · split <;> rfl
    | false =>
      simp only [Bool.false_eq_true, if_false]
      generalize x.ownByte n (64 * r.line) (r.kind != .rdSpec) = q
      obtain ⟨b, y⟩ := q
      cases b <;> rfl

/-- A check asks nothing of the slice's transactions. -/
theorem M.check_onSlice (f : Slice → Slice) (hs : (f (x.sys.slice n)).sectors = (x.sys.slice n).sectors) (ho : (f (x.sys.slice n)).oc = (x.sys.slice n).oc) :
    ((x.on (fun s => s.onSlice n f)).check n r).1 = (x.check n r).1 := by
  have hbyte : ((x.on (fun s => s.onSlice n f)).ownByte n (64 * r.line) (r.kind != .rdSpec)).1 = (x.ownByte n (64 * r.line) (r.kind != .rdSpec)).1 := by
    rw [M.ownByte_fst, M.ownByte_fst, x.peek_onSlice n _ f hs]
    rw [show ((x.on (fun s => s.onSlice n f)).sys.slice n).oc = (x.sys.slice n).oc from (congrArg Slice.oc (Sys.slice_onSlice_self _ n f)).trans ho]
    rfl
  rw [M.check_fst, M.check_fst]
  unfold M.checked
  rw [hbyte]
  rfl

end

end Sys2Proof.Machine
end

section
/-!
SUPPORT. A request at a slice that is ON with nothing under way: it enters, passes its check, and has its access or its snoops (R304, R308).
-/
namespace Sys2Proof.Machine

/-! ## Changes of the transactions alone -/

/-- Of the context no more changes than a slice's transactions, held entries and owner-table cache. -/
structure M.Kept (n : Nat) (x y : M) : Prop where
  ops : y.ops = x.ops
  frame : Sys.FrameSlice n x.sys y.sys (fun _ => false) []
  home : x.sys.SameHome n y.sys
  others : ∀ p ∈ y.sys.slices, p.1 = n ∨ p ∈ x.sys.slices

section
variable {n : Nat} {x y z : M}

theorem M.Kept.refl (n : Nat) (x : M) : M.Kept n x x := ⟨rfl, .refl _, .refl _ _, fun _ h => .inr h⟩

theorem M.Kept.trans (h : M.Kept n x y) (g : M.Kept n y z) : M.Kept n x z :=
  ⟨g.ops.trans h.ops, h.frame.trans g.frame, h.home.trans g.home, fun p hp => (g.others p hp).elim .inl (h.others p)⟩

theorem M.Kept.onSlice (x : M) {f : Slice → Slice} (hf : ∀ z, f z = { z with txns := (f z).txns, goHeld := (f z).goHeld, oc := (f z).oc }) :
    M.Kept n x (x.on (fun s => s.onSlice n f)) :=
  ⟨rfl, Sys.FrameSlice.onSlice _ _, Sys.SameHome.onSlice hf, fun p hp => (Bank.mem_set hp).imp_left fun e => by rw [e]⟩

theorem M.Kept.check (x : M) (n : Nat) (r : Req) : M.Kept n x (x.check n r).2 := by
  rcases x.check_snd n r with h | ⟨-, g, hg, h⟩
  · rw [h]
    exact .refl n x
  · rw [h]
    refine .onSlice x fun z => ?_
    rw [hg z]

end

/-- More messages under way. -/
def Sys.addMsgs (s : Sys) (ms : List Msg) : Sys := { s with msgs := s.msgs ++ ms }

theorem Sys.addMsgs_frame (s : Sys) (ms : List Msg) {but : RK → Bool} {parts : List Part} (h : parts.contains .msgs = true) : s.Frame (s.addMsgs ms) but parts :=
  .set_msgs s _ h

theorem Sys.slice_addMsgs (s : Sys) (ms : List Msg) (n : Nat) : (s.addMsgs ms).slice n = s.slice n := rfl
theorem Sys.msgs_addMsgs (s : Sys) (ms : List Msg) : (s.addMsgs ms).msgs = s.msgs ++ ms := rfl
theorem Sys.slState_addMsgs (s : Sys) (ms : List Msg) (n : Nat) : (s.addMsgs ms).slState n = s.slState n := rfl
theorem M.ops_on (x : M) (f : Sys → Sys) : (x.on f).ops = x.ops := rfl
theorem M.sys_on (x : M) (f : Sys → Sys) : (x.on f).sys = f x.sys := rfl
theorem M.on_on (x : M) (f g : Sys → Sys) : (x.on f).on g = x.on (fun s => g (f s)) := rfl
theorem M.post_eq (x : M) (m : Msg) : x.post m = x.on (fun s => s.addMsgs [m]) := rfl

/-! ## Where a line's transactions stop -/

section
variable (x : M) (n l : Nat)

/-- After the transactions of a line have run: reads take the credits that are free, and the slice's registers follow it. -/
def M.finish (x : M) (n : Nat) : M := (((x.sys.slice n).txns.filter (fun t => t.st = .memory)).foldl (fun x t => x.sendRead n t) x).on (fun s => s.showHa n)

theorem M.settle_eq : x.settle n l = (x.runLine n l 193).finish n := rfl

theorem M.runLine_empty (fuel : Nat) (h : (x.sys.slice n).txns = []) : x.runLine n l fuel = x := by
  cases fuel with
  | zero => rfl
  | succ k =>
    unfold M.runLine
    rw [h]
    exact if_pos (by simp)

theorem M.runLine_busy (fuel : Nat) (h : x.sys.lineBusy n l = true) : x.runLine n l fuel = x := by
  cases fuel with
  | zero => rfl
  | succ k =>
    unfold M.runLine
    exact if_pos (by simp [h])

theorem Sys.lineBusy_one {s : Sys} {n l : Nat} {t : Txn} (h : (s.slice n).txns = [t]) (hl : t.req.line = l) (hst : t.st ≠ .waitLine) : s.lineBusy n l = true := by
  unfold Sys.lineBusy
  rw [h]
  simp [hl, hst]

theorem M.finish_empty (h : (x.sys.slice n).txns = []) : x.finish n = x.on (fun s => s.showHa n) := by
  unfold M.finish
  rw [h]
  rfl

theorem M.finish_one {t : Txn} (h : (x.sys.slice n).txns = [t]) (hst : t.st ≠ .memory) : x.finish n = x.on (fun s => s.showHa n) := by
  unfold M.finish
  rw [h, List.filter_cons_of_neg (by simpa using hst)]
  rfl

theorem M.settle_empty (h : (x.sys.slice n).txns = []) : x.settle n l = x.on (fun s => s.showHa n) := by
  rw [M.settle_eq, M.runLine_empty x n l _ h, M.finish_empty x n h]

theorem M.settle_one {t : Txn} (h : (x.sys.slice n).txns = [t]) (hl : t.req.line = l) (hw : t.st ≠ .waitLine) (hm : t.st ≠ .memory) :
    x.settle n l = x.on (fun s => s.showHa n) := by
  rw [M.settle_eq, M.runLine_busy x n l _ (Sys.lineBusy_one h hl hw), M.finish_one x n h hm]

theorem M.toMemory_empty (h : (x.sys.slice n).txns = []) : x.toMemory n l = x := by
  unfold M.toMemory
  rw [h]
  rfl

theorem M.toMemory_one {t : Txn} (h : (x.sys.slice n).txns = [t]) (hm : t.st ≠ .memory) : x.toMemory n l = x := by
  unfold M.toMemory
  rw [h, List.find?_cons_of_neg (by simpa using fun _ => hm)]
  rfl

end

/-! ## A request is accepted -/

/-- A slice that is ON with nothing under way, at which a request is to be served: it passes its check with byte `b`, and no other slice has its
line. -/
structure M.Serves (x : M) (n b : Nat) (r : Req) : Prop where
  state : x.sys.slState n = slOn
  heeled : x.sys.heeled = false
  txns : (x.sys.slice n).txns = []
  sf : (x.sys.slice n).sf.length < 16
  room : x.sys.roomFor n r = true
  check : (x.check n r).1 = .ok b
  home : r.who.device = true ∨ (x.sys.conf.homeOf (nget b 3 4) (64 * r.line)).all (· == n) = true
  others : x.sys.slices.all (fun p => p.1 == n || (x.sys.sfGet p.1 r.line).isNone && (x.sys.llcLine p.1 r.line).isNone) = true

/-- A transaction that waits for its line. -/
def Req.waiting (r : Req) : Txn := ⟨r, .waitLine, r.pool, [], none, none, 0, false⟩

/-- Another than the requester holds the line in E or M. -/
def Sys.exElsewhere (s : Sys) (n : Nat) (r : Req) : Bool :=
  (s.sfGet n r.line).any (fun (e : SfEnt) => (e.st == 1 || e.st == 3) && e.holders.any (fun h => some h ≠ r.who.holder))

/-- A transaction whose snoops are answered by these holders. -/
def Req.active (r : Req) (b : Nat) (ex : Bool) (hs : List Holder) : Txn := ⟨r, .snoop, r.pool, hs, none, none, b, ex⟩

/-- The request's entry in the transaction table. -/
def M.entered (x : M) (n : Nat) (r : Req) : M :=
  x.on (fun s => s.onSlice n (fun z => { z with txns := z.txns ++ [r.waiting], goHeld := z.goHeld.erase (r.who.stop, r.kennel) }))

/-- A slice's only transaction. -/
def M.only (x : M) (n : Nat) (u : Txn) : M := x.on (fun s => s.onSlice n (fun z => { z with txns := [u] }))

theorem M.txns_only (x : M) (n : Nat) (u : Txn) : ((x.only n u).sys.slice n).txns = [u] := congrArg Slice.txns (Sys.slice_onSlice_self x.sys n _)

section
variable {x : M} {n b : Nat} {r : Req} (h : x.Serves n b r)
include h

theorem M.Serves.accept : x.accept n r = (x.entered n r).settle n r.line := by
  unfold M.accept
  rw [h.heeled, h.state, h.txns]
  dsimp only
  rw [if_neg (by simp), if_neg (by simp), if_neg (by decide), if_neg (by decide)]
  split
  · next t ht => simp at ht
  · exact if_pos h.room

omit h in
theorem M.entered_kept (x : M) (n : Nat) (r : Req) : M.Kept n x (x.entered n r) := .onSlice x fun _ => rfl

theorem M.Serves.entered_txns : ((x.entered n r).sys.slice n).txns = [r.waiting] := by
  refine (congrArg Slice.txns (Sys.slice_onSlice_self x.sys n _)).trans ?_
  rw [h.txns]
  rfl

/-- The context after the check. -/
def M.passed (x : M) (n : Nat) (r : Req) : M := ((x.entered n r).check n r).2

omit h in
theorem M.passed_entered (x : M) (n : Nat) (r : Req) : ((x.passed n r).sys.slice n).txns = ((x.entered n r).sys.slice n).txns := by
  unfold M.passed
  rcases (x.entered n r).check_snd n r with e | ⟨-, g, hg, e⟩
  · rw [e]
  · rw [e]
    refine (congrArg Slice.txns (Sys.slice_onSlice_self _ n g)).trans ?_
    rw [hg]

omit h in
theorem M.passed_kept (x : M) (n : Nat) (r : Req) : M.Kept n x (x.passed n r) := (M.entered_kept x n r).trans (.check _ n r)

theorem M.Serves.passed_txns : ((x.passed n r).sys.slice n).txns = [r.waiting] := (M.passed_entered x n r).trans h.entered_txns

omit h in
/-- RD_SPEC installs nothing in the owner-table cache. -/
theorem M.passed_oc (x : M) (n : Nat) (hk : r.kind = .rdSpec) : ((x.passed n r).sys.slice n).oc = (x.sys.slice n).oc := by
  unfold M.passed
  rcases (x.entered n r).check_snd n r with e | ⟨hne, -⟩
  · rw [e]
    exact (congrArg Slice.oc (Sys.slice_onSlice_self x.sys n _)).trans rfl
  · exact absurd hk hne

/-- No other slice has anything of the line to move. -/
theorem M.Serves.passed_pull : (x.passed n r).pullLine n r.line = x.passed n r := by
  have hk := (M.passed_kept x n r)
  unfold M.pullLine
  rw [List.find?_eq_none.mpr fun p hp => ?_]
  by_cases e : p.1 = n
  · simp [e]
  · rcases hk.others p hp with hn | hmem
    · exact absurd hn e
    · have hall := List.all_eq_true.mp h.others p hmem
      simp only [beq_iff_eq, e, Bool.or_eq_true, Bool.and_eq_true, false_or] at hall
      have hslice : (x.passed n r).sys.slice p.1 = x.sys.slice p.1 := hk.frame.2 p.1 e
      have hsf : (x.passed n r).sys.sfGet p.1 r.line = x.sys.sfGet p.1 r.line := by
        unfold Sys.sfGet
        rw [hslice]
      have hllc : (x.passed n r).sys.llcLine p.1 r.line = x.sys.llcLine p.1 r.line := by
        unfold Sys.llcLine Sys.sector
        rw [hslice, Sys.llcUp_of_state (hk.home.regs _ _ _)]
      rw [hsf, hllc, Option.isSome_eq_false_iff.mpr hall.1, Option.isSome_eq_false_iff.mpr hall.2]
      simp

/-- What the only transaction's snoops, or their absence, lead to. -/
theorem M.Serves.activate : (x.entered n r).activate n r.line =
    match x.sys.snoopsFor n r with
    | some (k, hs) => ((x.passed n r).only n (r.active b (x.sys.exElsewhere n r) hs)).on (fun s => s.addMsgs (hs.map (fun g => Msg.snoop n k r.line g)))
    | none => (((x.passed n r).only n (r.active b (x.sys.exElsewhere n r) [])).access n (r.active b (x.sys.exElsewhere n r) [])).toMemory n r.line := by
  have hidle : (x.entered n r).sys.lineBusy n r.line = false := by
    unfold Sys.lineBusy
    rw [h.entered_txns]
    simp [Req.waiting]
  have hchk : (x.entered n r).check n r = (.ok b, x.passed n r) := by
    have hfst : ((x.entered n r).check n r).1 = .ok b := (M.check_onSlice x n r _ rfl rfl).trans h.check
    rw [← hfst]
    rfl
  have hk := (M.passed_kept x n r)
  have hhome : ((x.passed n r).sys.conf.homeOf (nget b 3 4) (64 * r.line)).isSome = true →
      ((x.passed n r).sys.conf.homeOf (nget b 3 4) (64 * r.line) != some n) = true → (!r.who.device) = false := by
    rw [hk.home.conf]
    intro hsome hne
    rcases h.home with hd | hall
    · rw [hd]
      rfl
    · obtain ⟨v, hv⟩ := Option.isSome_iff_exists.mp hsome
      rw [hv] at hall hne
      simp only [Option.all_some, beq_iff_eq] at hall
      rw [hall] at hne
      simp at hne
  have hupd (u : Txn) : (x.passed n r).on (fun s => s.onSlice n (fun z => { z with txns := z.txns.map (fun v => if v = r.waiting then u else v) })) =
      (x.passed n r).only n u := by
    have hself : ((x.passed n r).sys.slice n).txns.map (fun v => if v = r.waiting then u else v) = [u] := by
      rw [h.passed_txns]
      simp
    unfold M.only M.on Sys.onSlice
    dsimp only
    rw [hself]
  unfold M.activate
  rw [hidle, h.entered_txns]
  simp only [Bool.false_eq_true, if_false, Req.waiting, List.find?_cons_of_pos, decide_true]
  rw [hchk]
  dsimp only
  rw [if_neg (by
    simp only [Bool.and_eq_true, not_and]
    intro hc hd
    rw [hhome hc.1 hc.2] at hd
    exact Bool.noConfusion hd)]
  rw [h.passed_pull, hk.home.snoopsFor, hk.home.sfGet]
  cases x.sys.snoopsFor n r with
  | none =>
    dsimp only
    exact congrArg (fun z : M => (z.access n _).toMemory n r.line) (hupd _)
  | some q =>
    obtain ⟨k, hs⟩ := q
    dsimp only
    exact congrArg (fun z : M => z.on _) (hupd _)

/-- The request has its outcome in its activation. -/
theorem M.Serves.accept_run : x.accept n r = (((x.entered n r).activate n r.line).runLine n r.line 192).finish n := by
  have hidle : (x.entered n r).sys.lineBusy n r.line = false := by
    unfold Sys.lineBusy
    rw [h.entered_txns]
    simp [Req.waiting]
  have hstep : (x.entered n r).runLine n r.line 193 = ((x.entered n r).activate n r.line).runLine n r.line 192 := by
    rw [M.runLine]
    exact if_neg (by rw [hidle, h.entered_txns]; simp)
  rw [h.accept, M.settle_eq, hstep]

/-- A request without snoops, whose access ends its transaction or leaves it waiting for a write. -/
theorem M.Serves.accept_quiet (hs : x.sys.snoopsFor n r = none) {z : M}
    (hz : ((x.passed n r).only n (r.active b (x.sys.exElsewhere n r) [])).access n (r.active b (x.sys.exElsewhere n r) []) = z)
    (hdone : (z.sys.slice n).txns = [] ∨ ∃ v, (z.sys.slice n).txns = [v] ∧ v.req.line = r.line ∧ v.st = .writing) :
    x.accept n r = z.on (fun s => s.showHa n) := by
  rw [h.accept_run, h.activate, hs]
  dsimp only
  rw [hz]
  rcases hdone with hz | ⟨v, hz, hl, hst⟩
  · rw [z.toMemory_empty n _ hz, z.runLine_empty n _ _ hz, z.finish_empty n hz]
  · rw [z.toMemory_one n _ hz (by rw [hst]; decide), z.runLine_busy n _ _ (Sys.lineBusy_one hz hl (by rw [hst]; decide)), z.finish_one n hz (by rw [hst]; decide)]

/-- A request that waits for its snoops. -/
theorem M.Serves.accept_snoops {k : Snoop} {hs : List Holder} (hq : x.sys.snoopsFor n r = some (k, hs)) : x.accept n r =
    (((x.passed n r).only n (r.active b (x.sys.exElsewhere n r) hs)).on (fun s => s.addMsgs (hs.map (fun g => Msg.snoop n k r.line g)))).on
      (fun s => s.showHa n) := by
  rw [h.accept_run, h.activate, hq]
  dsimp only
  generalize hy : ((x.passed n r).only n (r.active b (x.sys.exElsewhere n r) hs)).on (fun s => s.addMsgs (hs.map (fun g => Msg.snoop n k r.line g))) = y
  have hone : (y.sys.slice n).txns = [r.active b (x.sys.exElsewhere n r) hs] := by
    rw [← hy]
    exact (x.passed n r).txns_only n _
  rw [y.runLine_busy n _ _ (Sys.lineBusy_one (l := r.line) hone rfl nofun), y.finish_one n hone nofun]

end

/-! ## The command that brings a request -/

theorem takeMsg_pred {p : Msg → Bool} {l rest : List Msg} {m : Msg} (h : takeMsg p l = some (m, rest)) : p m = true := by
  induction l generalizing rest with
  | nil => cases h
  | cons a l ih =>
    unfold takeMsg at h
    by_cases hp : p a = true
    · rw [if_pos hp] at h
      obtain ⟨rfl, -⟩ := Prod.mk.inj (Option.some.inj h)
      exact hp
    · rw [if_neg hp] at h
      obtain ⟨q, hq, he⟩ := Option.map_eq_some_iff.mp h
      obtain ⟨rfl, -⟩ := Prod.mk.inj he
      exact ih hq

/-- The request under way, or where there is none `q`. -/
def M.takeReq (x : M) (n : Nat) (kind : ReqKind) (l : Nat) (src : Source) (q : Req) : Req × M :=
  match takeMsg (Msg.isReq n kind l src) x.sys.msgs with
  | some (.req _ r, rest) => (r, { x with sys := { x.sys with msgs := rest } })
  | _ => (q, x)

/-- A request of this kind, line and requester, and a context in which what decides a service core's world and the messages under way may be
other. -/
def M.Brings (x : M) (kind : ReqKind) (l : Nat) (src : Source) (q : Req × M) : Prop :=
  q.1.kind = kind ∧ q.1.line = l ∧ q.1.who = src ∧ q.2.ops = x.ops ∧ x.sys.Frame q.2.sys (fun _ => false) [.msgs, .freeCount, .drm]

theorem M.Brings.takeReq {x y : M} {n l : Nat} {kind : ReqKind} {src : Source} {q : Req} (h : x.Brings kind l src (q, y)) :
    x.Brings kind l src (y.takeReq n kind l src q) := by
  unfold M.takeReq
  split
  · next m r rest hm =>
    obtain ⟨-, -, -, hops, hframe⟩ := h
    have hreq := takeMsg_pred hm
    simp only [Msg.isReq, Bool.and_eq_true, beq_iff_eq] at hreq
    exact ⟨hreq.1.1.2, hreq.1.2, hreq.2, hops, hframe.trans (.set_msgs _ _ rfl)⟩
  · exact h

theorem Sys.drmWorld_frame (s : Sys) (d : Nat) : s.Frame (s.drmWorld d).2 (fun _ => false) [.msgs, .freeCount, .drm] := by
  unfold Sys.drmWorld
  split
  · exact .refl s
  · split
    · exact .refl s
    · exact (Sys.Frame.set_drm s _ rfl).trans (.usedFree _ rfl)

/-- What arrives at a home agent. -/
theorem M.arriving_brings (x : M) (n : Nat) (w : ReqSrc) {mk : Req → Req} (hmk : ∀ q : Req, (mk q).kind = q.kind ∧ (mk q).line = q.line ∧ (mk q).who = q.who)
    (kind : ReqKind) (line : Line) : x.Brings kind line.toNat (x.sys.srcOf w).1 (x.arriving n w mk kind line) := by
  have hq (k : Nat) (sec : Bool) (y : M) (hy : y.ops = x.ops ∧ x.sys.Frame y.sys (fun _ => false) [.msgs, .freeCount, .drm]) :
      x.Brings kind line.toNat (x.sys.srcOf w).1
        (y.takeReq n kind line.toNat (x.sys.srcOf w).1 (mk { kind := kind, line := line.toNat, who := (x.sys.srcOf w).1, kennel := k, secure := sec })) := by
    obtain ⟨hk, hl, hw⟩ := hmk { kind := kind, line := line.toNat, who := (x.sys.srcOf w).1, kennel := k, secure := sec }
    exact .takeReq ⟨hk, hl, hw, hy.1, hy.2⟩
  have hsame (k : Nat) (sec : Bool) := hq k sec x ⟨rfl, .refl _⟩
  cases w with
  | derrum d => exact hq 15 (x.sys.drmWorld d).1 ({ x with sys := (x.sys.drmWorld d).2 } : M) ⟨rfl, x.sys.drmWorld_frame d⟩
  | core h => exact hsame _ _
  | port p j => exact hsame _ _
  | engine e => exact hsame _ _
  | peer k sec dev => exact hsame _ _

end Sys2Proof.Machine
end

section
/-!
SUPPORT. A slice at which a request has its access, the snoop filter's entries, and the answers with data (R298, R300, R311).
-/
namespace Sys2Proof.Machine

/-! ## The slice at the access -/

/-- Against the state in which a request arrived, of the context only what brought the request, and of the slice only transactions, held entries
and owner-table cache, have changed. -/
structure State.Serving (s : State) (x : M) (n : Nat) (us : List Txn) (y : M) : Prop where
  ops : y.ops = []
  frame : Sys.FrameSlice n s.sys y.sys (fun _ => false) serveParts
  home : s.sys.SameHome n y.sys
  msgs : y.sys.msgs = x.sys.msgs
  txns : (y.sys.slice n).txns = us

section
variable {s : State} {x y z : M} {n : Nat} {us vs : List Txn} {r : Req}

theorem State.Serving.kept (h : s.Serving x n us y) (hk : M.Kept n y z) (ht : (z.sys.slice n).txns = vs) : s.Serving x n vs z :=
  ⟨hk.ops.trans h.ops, h.frame.trans (hk.frame.mono (fun _ h => h) (List.nil_subset _)), h.home.trans hk.home, (show z.sys.msgs = y.sys.msgs from hk.frame.1.2 .msgs rfl).trans h.msgs, ht⟩

/-- The context in which the request arrived. -/
theorem State.serving_brings {kind : ReqKind} {l : Nat} {src : Source} (h : s.ctx.Brings kind l src (r, x)) : s.Serving x n (x.sys.slice n).txns x := by
  obtain ⟨-, -, -, hops, hframe⟩ := h
  exact ⟨hops, .of_frame (hframe.parts_mono (by decide)) rfl, .of_frame hframe rfl rfl, rfl, rfl⟩

theorem M.kept_only (y : M) (n : Nat) (u : Txn) : M.Kept n y (y.only n u) := .onSlice y fun _ => rfl

theorem M.kept_free (y : M) (n : Nat) (u : Txn) : M.Kept n y (y.txnFree n u) := .onSlice y fun _ => rfl

theorem State.Serving.free {u : Txn} (h : s.Serving x n [u] y) : s.Serving x n [] (y.txnFree n u) := by
  refine h.kept (y.kept_free n u) ((congrArg Slice.txns (Sys.slice_onSlice_self y.sys n _)).trans ?_)
  rw [h.txns]
  simp

end

theorem serveReg_of_sliceReg {n : Nat} {k : RK} (h : sliceReg n k = true) : serveReg n k = true := by
  rw [sliceReg] at h
  rw [serveReg, h, Bool.true_or]

/-! ## Commands that bring a request -/

/-- After its access the slice's only transaction is gone, or waits for memory to take a write. -/
def M.Idle (z : M) (n l : Nat) : Prop := (z.sys.slice n).txns = [] ∨ ∃ v, (z.sys.slice n).txns = [v] ∧ v.req.line = l ∧ v.st = .writing

section
variable {s : State} {c : Instr} {n b : Nat} {w : ReqSrc} {mk : Req → Req} {kind : ReqKind} {line : Line} (hs : s.Serves c n b)
  (hc : exec c s = onM (fun x => x.arrive n w mk kind line) s) (ha : s.asked c = s.ctx.arriving n w mk kind line)
  (hmk : ∀ q : Req, (mk q).kind = q.kind ∧ (mk q).line = q.line ∧ (mk q).who = q.who) {p : State → Prop}

theorem State.Serves.split (hs : s.Serves c n b) : s.Live ∧ (s.asked c).2.Serves n b (s.asked c).1 := by
  obtain ⟨hl, h1, h2, h3, h4, h5, h6, h7, h8⟩ := hs
  exact ⟨hl, h1, h2, h3, h4, h5, h6, h7, h8⟩

include hs hc ha hmk

/-- A command whose request a home agent accepts. -/
theorem State.Serves.completes (hp : ∀ r x, s.asked c = (r, x) → s.ctx.Brings kind line.toNat (s.sys.srcOf w).1 (r, x) → x.Serves n b r → p (s.after (x.accept n r))) :
    Completes c s p := by
  obtain ⟨hl, hx⟩ := hs.split
  refine completes_onM c _ s p hl hc ?_
  have hb := s.ctx.arriving_brings n w hmk kind line
  rw [← ha] at hb
  have harr : s.ctx.arrive n w mk kind line = (s.asked c).2.accept n (s.asked c).1 := by rw [ha]; rfl
  rw [harr]
  exact hp _ _ rfl hb hx

/-- A request without snoops: what its access leaves, with the slice's registers following. -/
theorem State.Serves.quiet
    (hp : ∀ r x y, s.asked c = (r, x) → r.kind = kind → r.line = line.toNat → r.who = (s.sys.srcOf w).1 → (s.sys.slice n).sf.length < 16 →
      s.Serving x n [r.active b (s.sys.exElsewhere n r) []] y → (r.kind = .rdSpec → (y.sys.slice n).oc = (s.sys.slice n).oc) →
      s.sys.snoopsFor n r = none ∧ ∃ z, y.access n (r.active b (s.sys.exElsewhere n r) []) = z ∧ z.Idle n r.line ∧ p (s.after (z.on (fun s => s.showHa n)))) :
    Completes c s p := by
  refine hs.completes hc ha hmk fun r x hq hb hx => ?_
  have hserve := State.serving_brings (n := n) hb
  obtain ⟨hk, hl, hw, -, hframe⟩ := hb
  have hex : x.sys.exElsewhere n r = s.sys.exElsewhere n r := by
    unfold Sys.exElsewhere
    rw [hserve.home.sfGet]
  have hy : s.Serving x n [r.active b (s.sys.exElsewhere n r) []] ((x.passed n r).only n (r.active b (x.sys.exElsewhere n r) [])) := by
    rw [hex]
    exact hserve.kept ((M.passed_kept x n r).trans (M.kept_only _ n _)) (M.txns_only _ n _)
  have hoc (hspec : r.kind = .rdSpec) : (((x.passed n r).only n (r.active b (x.sys.exElsewhere n r) [])).sys.slice n).oc = (s.sys.slice n).oc := by
    refine (congrArg Slice.oc (Sys.slice_onSlice_self (x.passed n r).sys n _)).trans ((M.passed_oc x n hspec).trans ?_)
    exact congrArg Slice.oc (congrFun (Sys.slice_of_slices (hframe.2 .slices rfl)) n)
  obtain ⟨hnone, z, hz, hdone, hfinal⟩ := hp r x _ hq hk hl hw (hserve.home.sf ▸ hx.sf) hy hoc
  rw [hx.accept_quiet (hserve.home.snoopsFor r ▸ hnone) (by rw [hex]; rw [hex] at hz; exact hz) hdone]
  exact hfinal

/-- A request that sends snoops and waits for their answers. -/
theorem State.Serves.snooping
    (hp : ∀ r x, s.asked c = (r, x) → r.kind = kind → r.line = line.toNat → r.who = (s.sys.srcOf w).1 → ∃ k hs, s.sys.snoopsFor n r = some (k, hs) ∧
      ∀ t : State, t.sys.msgs = x.sys.msgs ++ hs.map (fun g => Msg.snoop n k line.toNat g) → (t.sys.slice n).txns = [r.active b (s.sys.exElsewhere n r) hs] →
        (t.sys.slice n).sf = (s.sys.slice n).sf → s.OnlySlice t n (serveReg n) serveParts → p t) :
    Completes c s p := by
  refine hs.completes hc ha hmk fun r x hq hb hx => ?_
  have hserve := State.serving_brings (n := n) hb
  obtain ⟨hk, hl, hw, -, hframe⟩ := hb
  have hex : x.sys.exElsewhere n r = s.sys.exElsewhere n r := by
    unfold Sys.exElsewhere
    rw [hserve.home.sfGet]
  obtain ⟨k, gs, hsn, hfinal⟩ := hp r x hq hk hl hw
  rw [hx.accept_snoops (hserve.home.snoopsFor r ▸ hsn)]
  have hy : s.Serving x n [r.active b (s.sys.exElsewhere n r) gs] ((x.passed n r).only n (r.active b (x.sys.exElsewhere n r) gs)) := by
    rw [hex]
    exact hserve.kept ((M.passed_kept x n r).trans (M.kept_only _ n _)) (M.txns_only _ n _)
  generalize (x.passed n r).only n (r.active b (x.sys.exElsewhere n r) gs) = y at hy
  rw [← hl] at hfinal
  generalize gs.map (fun g => Msg.snoop n k r.line g) = ms at hfinal ⊢
  have hshow := Sys.SliceWork.showHa (y.sys.addMsgs ms) n
  have hslice : ((y.sys.addMsgs ms).showHa n).slice n = y.sys.slice n := (Sys.slice_showHa _ n n).trans (Sys.slice_addMsgs ..)
  have hm : ((y.sys.addMsgs ms).showHa n).msgs = (y.sys.addMsgs ms).msgs := hshow.1.2 .msgs rfl
  have hframe : Sys.FrameSlice n s.sys ((y.sys.addMsgs ms).showHa n) (serveReg n) serveParts :=
    (hy.frame.mono nofun (List.Subset.refl _)).trans ((Sys.FrameSlice.of_frame (y.sys.addMsgs_frame ms rfl) rfl).trans
      (hshow.mono (fun k hk => serveReg_of_sliceReg hk) (List.nil_subset _)))
  have hend : (y.on (fun s => s.addMsgs ms)).on (fun s => s.showHa n) = y.on (fun s => (s.addMsgs ms).showHa n) := rfl
  rw [hend]
  refine hfinal (s.after (y.on (fun s => (s.addMsgs ms).showHa n))) (hm.trans ?_) ?_ ?_ ?_
  · rw [Sys.msgs_addMsgs, hy.msgs]
  · exact (congrArg Slice.txns hslice).trans hy.txns
  · exact (congrArg Slice.sf hslice).trans hy.home.sf
  · exact State.onlySlice_after ((M.ops_on y _).trans hy.ops) hframe

end

end Sys2Proof.Machine
end

section
/-!
SUPPORT. The snoop filter's entries, and the answers of a home agent with data (R298, R300, R310, R311).
-/
namespace Sys2Proof.Machine

/-! ## Entries -/

/-- A line's entry is written. -/
def Sys.sfSet (s : Sys) (n : Nat) (e : SfEnt) : Sys := s.onSlice n (fun t => { t with sf := e :: t.sf.filter (fun f => f.line ≠ e.line) })

/-- A line is one holder's in E or M: its entry, an epoch event, and no reservation of it (R300, R305, R310). -/
def Sys.owned (s : Sys) (n l : Nat) (e : SfEnt) : Sys := ((s.sfSet n e).epochUp n l).clearResv n l

section
variable (s : Sys) (n l : Nat) (e : SfEnt)

theorem Sys.slice_sfSet : (s.sfSet n e).slice n = { s.slice n with sf := e :: (s.slice n).sf.filter (fun f => f.line ≠ e.line) } := Sys.slice_onSlice_self ..

theorem Sys.sfGet_of_slice {t : Sys} (h : (t.slice n).sf = e :: (s.slice n).sf.filter (fun f => f.line ≠ e.line)) (hl : e.line = l) : t.sfGet n l = some e := by
  unfold Sys.sfGet
  rw [h, List.find?_cons_of_pos (by simpa using hl)]

/-- The epoch after an event of the slice. -/
def Slice.nextEpoch (z : Slice) : Nat := (z.epoch + 1) % 2 ^ 48

theorem Sys.slice_epochUp : (s.epochUp n l).slice n = { s.slice n with
    epoch := (s.slice n).nextEpoch
    session := if (s.slice n).nextEpoch = 0 then ((s.slice n).session + 1) % 256 else (s.slice n).session
    buckets := Bank.set (s.slice n).buckets (bucketOf l) (s.slice n).nextEpoch } := Sys.slice_onSlice_self ..

theorem Sys.slice_clearResv : (s.clearResv n l).slice n = { s.slice n with resv := (s.slice n).resv.filter (fun p => p.2 ≠ l) } := Sys.slice_onSlice_self ..

theorem Sys.slice_owned : (s.owned n l e).slice n = { s.slice n with
    sf := e :: (s.slice n).sf.filter (fun f => f.line ≠ e.line)
    epoch := (s.slice n).nextEpoch
    session := if (s.slice n).nextEpoch = 0 then ((s.slice n).session + 1) % 256 else (s.slice n).session
    buckets := Bank.set (s.slice n).buckets (bucketOf l) (s.slice n).nextEpoch
    resv := (s.slice n).resv.filter (fun p => p.2 ≠ l) } := by
  unfold Sys.owned
  rw [Sys.slice_clearResv, Sys.slice_epochUp, Sys.slice_sfSet]
  rfl

theorem Sys.sfSet_frame {but : RK → Bool} {parts : List Part} : Sys.FrameSlice n s (s.sfSet n e) but parts := Sys.FrameSlice.onSlice s _
theorem Sys.epochUp_frame {but : RK → Bool} {parts : List Part} : Sys.FrameSlice n s (s.epochUp n l) but parts := Sys.FrameSlice.onSlice s _
theorem Sys.clearResv_frame {but : RK → Bool} {parts : List Part} : Sys.FrameSlice n s (s.clearResv n l) but parts := Sys.FrameSlice.onSlice s _

theorem Sys.owned_frame {but : RK → Bool} {parts : List Part} : Sys.FrameSlice n s (s.owned n l e) but parts :=
  Sys.FrameAt.trans (Sys.FrameAt.trans (s.sfSet_frame n e) (Sys.epochUp_frame _ n l)) (Sys.clearResv_frame _ n l)

end

/-- A set of the snoop filter that is not full gives up no entry. -/
theorem M.sfPut_free {x : M} {n k : Nat} {e : SfEnt} (h : ((x.sys.slice n).sf.filter (fun f => sfSet f.line = sfSet e.line ∧ f.line ≠ e.line)).length < 16) :
    x.sfPut n k e = x.on (fun s => s.sfSet n e) := by
  unfold M.sfPut
  dsimp only
  rw [if_pos h]
  rfl

theorem M.sfPut_room {x : M} {n k : Nat} {e : SfEnt} (h : (x.sys.slice n).sf.length < 16) : x.sfPut n k e = x.on (fun s => s.sfSet n e) :=
  M.sfPut_free (Nat.lt_of_le_of_lt (List.length_filter_le _ _) h)

/-! ## Before the answer -/

/-- The memory grain that a request did not need is given back (R321). -/
def M.repaid (x : M) (r : Req) (ddr : Bool) : M :=
  if !ddr && decide (0 < r.charge.1) && r.kind != .ncAmo then x.on (fun s => s.refund r.who r.kennel) else x

section
variable (x : M) (r : Req) (ddr : Bool)

theorem M.repaid_ops : (x.repaid r ddr).ops = x.ops := by unfold M.repaid; split <;> rfl

theorem M.repaid_frame : x.sys.Frame (x.repaid r ddr).sys (fun k => k.reg == .SYS_QOS_LEDGER) [.stops] := by
  unfold M.repaid
  split
  · exact (x.sys.refund_frame r.who r.kennel).regs_mono fun k hk => by
      simp only [oneReg, List.contains_cons, List.contains_nil, Bool.or_false, Bool.and_eq_true, beq_iff_eq] at hk
      simp [hk.1]
  · exact .refl _

theorem M.repaid_slice (n : Nat) : (x.repaid r ddr).sys.slice n = x.sys.slice n := congrFun (Sys.slice_of_slices ((x.repaid_frame r ddr).2 .slices rfl)) n
theorem M.repaid_msgs : (x.repaid r ddr).sys.msgs = x.sys.msgs := (x.repaid_frame r ddr).2 .msgs rfl

theorem M.repaid_foreign (l : Nat) : (x.repaid r ddr).sys.foreign l = x.sys.foreign l := by
  unfold Sys.foreign Sys.socket
  rw [(x.repaid_frame r ddr).rf _ _ _ rfl]

theorem serveReg_ledger {n : Nat} {k : RK} (h : (k.reg == .SYS_QOS_LEDGER) = true) : serveReg n k = true := by
  rw [serveReg, h, Bool.or_true]

end

/-! ## Answers with data -/

/-- The fill that answers a transaction of a core, with the token of the slice's epoch. -/
def Txn.fill (u : Txn) (n h : Nat) (z : Slice) (k : FillKind) (d : BitVec 512) (p : Bool) (g : Nat) : Msg :=
  .fill ⟨h, u.req.line, k, d, p, u.byte / 8, g, ⟨n, z.session, z.epoch⟩, u.wasEx, u.req.first, 0, false, 0⟩

/-- A fill's kind and grant for a request that becomes its line's only holder. -/
def ReqKind.grantsOwn : ReqKind → Option (FillKind × Nat)
  | .rdShared => some (.shared, 2)
  | .bind => some (.bindData, 2)
  | .rdOwn | .upgrade => some (.own, 3)
  | .pfRd | .pfWr => some (.pf, 2)
  | _ => none

section
variable {x : M} {n : Nat} {u : Txn} {d : BitVec 512} {p ddr : Bool}

/-- A core's request of a line without an entry makes it the line's only holder. -/
theorem M.answerData_own {h g : Nat} {fk : FillKind} (hw : u.req.who = .core h) (he : x.sys.sfGet n u.req.line = none) (hk : u.req.kind.grantsOwn = some (fk, g))
    (hroom : (x.sys.slice n).sf.length < 16) : x.answerData n u d p false ddr =
    ((x.repaid u.req ddr).on (fun s => s.owned n u.req.line (sfEx u.req.line (nget u.byte 3 4) (x.sys.foreign u.req.line) (.core h)))).post
      (u.fill n h (x.sys.slice n) fk d p g) := by
  have hput (e : SfEnt) : (x.repaid u.req ddr).sfPut n u.req.kennel e = (x.repaid u.req ddr).on (fun s => s.sfSet n e) :=
    M.sfPut_room (by rw [M.repaid_slice]; exact hroom)
  have hown := congrArg (fun z : M => (z.on (fun s => (s.epochUp n u.req.line).clearResv n u.req.line)).post (u.fill n h (x.sys.slice n) fk d p g))
    (hput (sfEx u.req.line (nget u.byte 3 4) ((x.repaid u.req ddr).sys.foreign u.req.line) (.core h)))
  rw [← x.repaid_foreign u.req ddr u.req.line]
  refine Eq.trans ?_ hown
  obtain ⟨⟨kind, l, who, k, sec, first, data, mask, dirty, poison, tok, noBind, amo, dword⟩, st, pool, waits, got, offerOf, byte, wasEx⟩ := u
  dsimp only at hw he hk
  subst hw
  unfold M.answerData
  dsimp only
  rw [he]
  cases kind <;> simp only [ReqKind.grantsOwn, Option.some.injEq, Prod.mk.injEq, reduceCtorEq] at hk <;> obtain ⟨rfl, rfl⟩ := hk <;> rfl

/-- The answer of a request that leaves the snoop filter alone. -/
def Txn.plain (u : Txn) (n : Nat) (z : Slice) (d : BitVec 512) (p : Bool) : Msg :=
  match u.req.kind, u.req.who with
  | .rdSpec, .core h => u.fill n h z .spec d p 0
  | .ncRd, .core h | .ncLr, .core h => u.fill n h z .nc d p 0
  | _, w => .reply w u.req.line d p false

/-- The request is one that is answered with data and leaves the snoop filter alone. -/
def ReqKind.readsOnly (k : ReqKind) : Bool := [.rdSpec, .ncRd, .ncLr, .devRd].contains k

theorem M.answerData_plain (hk : u.req.kind.readsOnly = true) : x.answerData n u d p false ddr = (x.repaid u.req ddr).post (u.plain n (x.sys.slice n) d p) := by
  obtain ⟨⟨kind, l, who, k, sec, first, data, mask, dirty, poison, tok, noBind, amo, dword⟩, st, pool, waits, got, offerOf, byte, wasEx⟩ := u
  dsimp only at hk
  unfold M.answerData
  dsimp only
  have hcase : kind = .rdSpec ∨ kind = .ncRd ∨ kind = .ncLr ∨ kind = .devRd := by simpa [ReqKind.readsOnly] using hk
  rcases hcase with rfl | rfl | rfl | rfl <;> cases who <;> rfl

end

/-! ## What the state shows when the slice's registers follow it -/

section
variable {s : State} {x y z : M} {n : Nat} {us : List Txn}

theorem Sys.sector_of_slice {s t : Sys} {n : Nat} (hs : t.slState n = s.slState n) (h : t.slice n = s.slice n) (l : Nat) : t.sector n l = s.sector n l := by
  unfold Sys.sector
  rw [Sys.llcUp_of_state hs, h]

theorem Sys.llcLine_of_slice {s t : Sys} {n : Nat} (hs : t.slState n = s.slState n) (h : t.slice n = s.slice n) (l : Nat) : t.llcLine n l = s.llcLine n l := by
  unfold Sys.llcLine
  rw [Sys.sector_of_slice hs h]

/-- The end of a request's service: beside what its access left, only the registers that follow the slice change. -/
structure State.Served (s : State) (n : Nat) (z : M) (parts : List Part) (t : State) : Prop where
  msgs : t.sys.msgs = z.sys.msgs
  slice : t.sys.slice n = z.sys.slice n
  state : t.sys.slState n = z.sys.slState n
  chan : t.sys.chan = z.sys.chan
  only : s.OnlySlice t n (serveReg n) parts

theorem State.Serving.served (hy : s.Serving x n us y) (hops : z.ops = y.ops) {parts : List Part} (hf : Sys.FrameSlice n y.sys z.sys (serveReg n) parts)
    (hp : serveParts ⊆ parts) : s.Served n z parts (s.after (z.on (fun s => s.showHa n))) := by
  have hshow := Sys.SliceWork.showHa z.sys n
  have hframe : Sys.FrameSlice n s.sys (z.sys.showHa n) (serveReg n) parts :=
    (hy.frame.mono nofun hp).trans (hf.trans (hshow.mono (fun k hk => serveReg_of_sliceReg hk) (List.nil_subset _)))
  refine ⟨hshow.1.2 .msgs rfl, Sys.slice_showHa _ n n, Sys.slState_showHa _ n n, Sys.chan_of_chans (hshow.1.2 .chans rfl), ?_⟩
  exact State.onlySlice_after (x := z.on (fun s => s.showHa n)) ((M.ops_on z _).trans (hops.trans hy.ops)) hframe

section
variable {t : State} {parts : List Part} (h : s.Served n z parts t)
include h

theorem State.Served.sfGet (l : Nat) : t.sys.sfGet n l = z.sys.sfGet n l := by
  unfold Sys.sfGet
  rw [h.slice]

theorem State.Served.sector (l : Nat) : t.sys.sector n l = z.sys.sector n l := Sys.sector_of_slice h.state h.slice l
theorem State.Served.llcLine (l : Nat) : t.sys.llcLine n l = z.sys.llcLine n l := Sys.llcLine_of_slice h.state h.slice l

end

theorem M.ops_post (x : M) (m : Msg) : (x.post m).ops = x.ops := rfl
theorem M.sys_post (x : M) (m : Msg) : (x.post m).sys = x.sys.addMsgs [m] := rfl

theorem M.post_frame (x : M) (m : Msg) (n : Nat) : Sys.FrameSlice n x.sys (x.post m).sys (serveReg n) serveParts :=
  Sys.FrameSlice.of_frame (x.sys.addMsgs_frame [m] rfl) rfl

theorem M.repaid_served (x : M) (r : Req) (ddr : Bool) (n : Nat) : Sys.FrameSlice n x.sys (x.repaid r ddr).sys (serveReg n) serveParts :=
  Sys.FrameSlice.of_frame (((x.repaid_frame r ddr).regs_mono fun _ hk => serveReg_ledger hk).parts_mono (by decide)) rfl

/-- A request answered without a change of its slice. -/
theorem State.Serving.answered (hy : s.Serving x n us y) (r : Req) (ddr : Bool) (m : Msg) :
    s.Served n ((y.repaid r ddr).post m) serveParts (s.after (((y.repaid r ddr).post m).on (fun s => s.showHa n))) ∧
    ((y.repaid r ddr).post m).sys.slice n = y.sys.slice n ∧ ((y.repaid r ddr).post m).sys.msgs = x.sys.msgs ++ [m] := by
  have hframe := (y.repaid_served r ddr n).trans ((y.repaid r ddr).post_frame m n)
  refine ⟨hy.served (z := (y.repaid r ddr).post m) ((M.ops_post ..).trans (y.repaid_ops r ddr)) hframe (List.Subset.refl _), ?_, ?_⟩
  · rw [M.sys_post, Sys.slice_addMsgs, M.repaid_slice]
  · rw [M.sys_post, Sys.msgs_addMsgs, M.repaid_msgs, hy.msgs]

/-- A request whose requester becomes its line's only holder. -/
def M.granted (y : M) (n l : Nat) (r : Req) (ddr : Bool) (e : SfEnt) (m : Msg) : M := ((y.repaid r ddr).on (fun s => s.owned n l e)).post m

theorem State.Serving.granted (hy : s.Serving x n us y) (r : Req) (ddr : Bool) (l : Nat) (e : SfEnt) (m : Msg) :
    s.Served n (y.granted n l r ddr e m) serveParts (s.after ((y.granted n l r ddr e m).on (fun s => s.showHa n))) ∧
    (y.granted n l r ddr e m).sys.slice n = { y.sys.slice n with
      sf := e :: (y.sys.slice n).sf.filter (fun f => f.line ≠ e.line)
      epoch := (y.sys.slice n).nextEpoch
      session := if (y.sys.slice n).nextEpoch = 0 then ((y.sys.slice n).session + 1) % 256 else (y.sys.slice n).session
      buckets := Bank.set (y.sys.slice n).buckets (bucketOf l) (y.sys.slice n).nextEpoch
      resv := (y.sys.slice n).resv.filter (fun p => p.2 ≠ l) } ∧
    (y.granted n l r ddr e m).sys.msgs = x.sys.msgs ++ [m] := by
  have hframe := (y.repaid_served r ddr n).trans (((y.repaid r ddr).sys.owned_frame n l e).trans (((y.repaid r ddr).on (fun s => s.owned n l e)).post_frame m n))
  have hops : (y.granted n l r ddr e m).ops = y.ops := (M.ops_post ..).trans ((M.ops_on ..).trans (y.repaid_ops r ddr))
  refine ⟨hy.served (z := y.granted n l r ddr e m) hops hframe (List.Subset.refl _), ?_, ?_⟩
  · unfold M.granted
    rw [M.sys_post, Sys.slice_addMsgs, M.sys_on, Sys.slice_owned, M.repaid_slice]
  · unfold M.granted
    rw [M.sys_post, Sys.msgs_addMsgs, M.sys_on]
    exact congrArg (· ++ [m]) ((y.repaid_msgs r ddr).trans hy.msgs)

end

end Sys2Proof.Machine
end

section
/-!
SUPPORT. The accesses that are answered from the LLC (R300): a request that is granted its line, and one that only reads it.
-/
namespace Sys2Proof.Machine

/-! ## No snoops -/

section
variable {s : Sys} {n : Nat} {r : Req}

theorem Sys.snoopsFor_none (he : s.sfGet n r.line = none) : s.snoopsFor n r = none := by
  unfold Sys.snoopsFor
  rw [he]

/-- A line in SH, or with no entry, is read without snoops. -/
theorem Sys.snoopsFor_shared (he : (s.sfGet n r.line).all (fun e => e.st == 2) = true) (hk : r.kind.readsOnly = true) : s.snoopsFor n r = none := by
  cases hg : s.sfGet n r.line with
  | none => exact Sys.snoopsFor_none hg
  | some e =>
    rw [hg] at he
    have hst : e.st = 2 := by simpa using he
    have hcase : r.kind = .rdSpec ∨ r.kind = .ncRd ∨ r.kind = .ncLr ∨ r.kind = .devRd := by simpa [ReqKind.readsOnly] using hk
    unfold Sys.snoopsFor
    rw [hg]
    dsimp only
    rcases hcase with h | h | h | h <;> rw [h] <;> simp [hst]

theorem Sys.exElsewhere_none (he : s.sfGet n r.line = none) : s.exElsewhere n r = false := by
  unfold Sys.exElsewhere
  rw [he]
  rfl

theorem Sys.exElsewhere_shared (he : (s.sfGet n r.line).all (fun e => e.st == 2) = true) : s.exElsewhere n r = false := by
  unfold Sys.exElsewhere
  cases hg : s.sfGet n r.line with
  | none => rfl
  | some e =>
    rw [hg] at he
    have hst : e.st = 2 := by simpa using he
    simp [hst]

end

/-! ## Accesses -/

/-- The request writes its line at the home agent. -/
def ReqKind.writesLine (k : ReqKind) : Bool := [.ncWr, .ncAmo, .ncSc, .devWr].contains k

/-- The request asks for its line's data, and for nothing before it. -/
def ReqKind.asksData (k : ReqKind) : Bool := [.rdShared, .rdOwn, .rdSpec, .ncRd, .devRd].contains k

theorem ReqKind.asksData_iff {k : ReqKind} : k.asksData = true ↔ k = .rdShared ∨ k = .rdOwn ∨ k = .rdSpec ∨ k = .ncRd ∨ k = .devRd := by
  simp [ReqKind.asksData]

section
variable {y : M} {n : Nat} {u : Txn} {d : BitVec 512} {p : Bool}

/-- With its data at hand a request that does not write is answered. -/
theorem M.withData_read (hk : u.req.kind.writesLine = false) (fromMem ddr : Bool) :
    y.withData n u d p fromMem ddr = (y.txnFree n u).answerData n u d p fromMem ddr := by
  unfold M.withData
  split
  · next h => rw [h] at hk; exact absurd hk (by decide)
  · next h => rw [h] at hk; exact absurd hk (by decide)
  · next h => rw [h] at hk; exact absurd hk (by decide)
  · next h => rw [h] at hk; exact absurd hk (by decide)
  · rfl

theorem M.withData_write (hk : u.req.kind.writesLine = true) (fromMem ddr : Bool) : y.withData n u d p fromMem ddr = y.writeTxn n u d p := by
  have hcase : u.req.kind = .ncWr ∨ u.req.kind = .ncAmo ∨ u.req.kind = .ncSc ∨ u.req.kind = .devWr := by simpa [ReqKind.writesLine] using hk
  unfold M.withData
  rcases hcase with h | h | h | h <;> rw [h]

theorem Sys.needsData_asks {s : Sys} {r : Req} (hk : r.kind.asksData = true) : s.needsData n r = true := by
  unfold Sys.needsData
  rcases ReqKind.asksData_iff.mp hk with h | h | h | h | h <;> rw [h]

variable (hg : u.got = none)
include hg

/-- A request for data takes the LLC's, or waits for memory. -/
theorem M.access_asks (hk : u.req.kind.asksData = true) : y.access n u =
    match y.sys.llcLine n u.req.line with
    | some (d, p) => y.withData n u d p false false
    | none => y.on (fun s => s.onSlice n (fun z => { z with txns := z.txns.map (fun v => if v = u then { u with st := .memory } else v) })) := by
  have hlr : (u.req.kind == ReqKind.ncLr) = false := by
    rcases ReqKind.asksData_iff.mp hk with h | h | h | h | h <;> rw [h] <;> rfl
  unfold M.access
  rw [hg]
  dsimp only
  rw [hlr]
  rcases ReqKind.asksData_iff.mp hk with h | h | h | h | h <;> rw [h] <;> dsimp only <;>
    rw [if_neg Bool.false_ne_true, Sys.needsData_asks hk, if_pos rfl] <;> rfl

variable (hd : y.sys.llcLine n u.req.line = some (d, p))
include hd

/-- A request that may be granted its line is answered with the LLC's data where the line has no entry. -/
theorem M.access_grant {fg : FillKind × Nat} (he : y.sys.sfGet n u.req.line = none) (hk : u.req.kind.grantsOwn = some fg)
    (htok : u.req.kind = .bind → y.sys.tokenOk n u.req = false) : y.access n u = (y.txnFree n u).answerData n u d p false false := by
  have hread : u.req.kind.writesLine = false := by
    generalize u.req.kind = k at hk
    cases k with
    | ncWr => cases hk
    | ncAmo => cases hk
    | ncSc => cases hk
    | devWr => cases hk
    | _ => rfl
  rw [← M.withData_read hread]
  by_cases hask : u.req.kind.asksData = true
  · rw [M.access_asks hg hask, hd]
  · unfold M.access
    rw [hg]
    dsimp only
    generalize hkind : u.req.kind = k at hk htok hask
    cases k with
    | upgrade =>
      have hneeds : y.sys.needsData n u.req = true := by
        unfold Sys.needsData
        rw [hkind, he]
        rfl
      dsimp only
      rw [hneeds, if_pos rfl, hd]
      rfl
    | bind =>
      dsimp only
      rw [htok rfl, if_neg (by simp), hd]
      rfl
    | pfRd =>
      dsimp only
      rw [he, hd]
    | pfWr =>
      dsimp only
      rw [he, hd]
    | rdShared => exact absurd rfl hask
    | rdOwn => exact absurd rfl hask
    | _ => cases hk

end

/-! ## Commands answered from the LLC -/

section
variable {s : State} {c : Instr} {n : Fin 64} {b : Nat} {w : ReqSrc} {mk : Req → Req} {kind : ReqKind} {line : Line} {d : BitVec 512} {p : Bool}

/-- What a core's request leaves that made it its line's only holder. -/
structure State.Granted (s : State) (c : Instr) (n h l b : Nat) (fk : FillKind) (g : Nat) (d : BitVec 512) (p : Bool) (t : State) : Prop where
  msgs : t.sys.msgs = (s.asked c).2.sys.msgs ++ [.fill ⟨h, l, fk, d, p, b / 8, g, ⟨n, (s.sys.slice n).session, (s.sys.slice n).epoch⟩, false,
    (s.asked c).1.first, 0, false, 0⟩]
  entry : t.sys.sfGet n l = some (sfEx l (nget b 3 4) (s.sys.foreign l) (.core h))
  txns : (t.sys.slice n).txns = []
  epoch : (t.sys.slice n).epoch = ((s.sys.slice n).epoch + 1) % 2 ^ 48
  bucket : Bank.getD (t.sys.slice n).buckets (bucketOf l) 0 = (t.sys.slice n).epoch
  resv : (t.sys.slice n).resv = (s.sys.slice n).resv.filter (fun q => q.2 ≠ l)
  sectors : (t.sys.slice n).sectors = (s.sys.slice n).sectors
  only : s.OnlySlice t n (serveReg n) serveParts

/-- A core's request of a line that has no entry and that the LLC holds (R300). -/
theorem State.Serves.grants {h : Fin 256} (hs : s.Serves c n b) (hc : exec c s = onM (fun x => x.arrive n (.core h) mk kind line) s)
    (ha : s.asked c = s.ctx.arriving n (.core h) mk kind line) (hmk : ∀ q : Req, (mk q).kind = q.kind ∧ (mk q).line = q.line ∧ (mk q).who = q.who)
    {fk : FillKind} {g : Nat} (hgrant : kind.grantsOwn = some (fk, g)) (he : s.sys.sfGet n line.toNat = none) (hd : s.sys.llcLine n line.toNat = some (d, p))
    (htok : kind = .bind → s.sys.tokenOk n (s.asked c).1 = false) {q : State → Prop}
    (hq : ∀ t, s.Granted c n h line.toNat b fk g d p t → q t) : Completes c s q := by
  refine hs.quiet hc ha hmk fun r x y hqq hk hl hw hroom hy _ => ?_
  have her : s.sys.sfGet n r.line = none := by rw [hl]; exact he
  refine ⟨Sys.snoopsFor_none her, _, rfl, ?_⟩
  rw [Sys.exElsewhere_none her] at hy ⊢
  generalize hu : r.active b false [] = u at hy ⊢
  have hur : u.req = r := by rw [← hu]; rfl
  have hfree := hy.free
  have haccess : y.access n u = (y.txnFree n u).answerData n u d p false false := by
    refine M.access_grant (by rw [← hu]; rfl) ?_ ?_ (fg := (fk, g)) ?_ fun hb => ?_
    · rw [hur, hy.home.llcLine, hl, hd]
    · rw [hur, hy.home.sfGet, her]
    · rw [hur, hk, hgrant]
    · rw [hur, hk] at hb
      rw [hur, hy.home.tokenOk]
      have hr := htok hb
      rw [hqq] at hr
      exact hr
  have hanswer : (y.txnFree n u).answerData n u d p false false =
      (y.txnFree n u).granted n r.line r false (sfEx r.line (nget b 3 4) (s.sys.foreign r.line) (.core h)) (u.fill n h ((y.txnFree n u).sys.slice n) fk d p g) := by
    rw [M.answerData_own (h := h) (by rw [hur]; exact hw) (by rw [hur, hfree.home.sfGet, her]) (by rw [hur, hk, hgrant]) ?_, hur, hfree.home.foreign, ← hu]
    · rfl
    · rw [hfree.home.sf]
      exact hroom
  rw [haccess, hanswer]
  obtain ⟨hend, hslice, hmsgs⟩ := hfree.granted r false r.line (sfEx r.line (nget b 3 4) (s.sys.foreign r.line) (.core h))
    (u.fill n h ((y.txnFree n u).sys.slice n) fk d p g)
  generalize (y.txnFree n u).granted n r.line r false (sfEx r.line (nget b 3 4) (s.sys.foreign r.line) (.core h))
    (u.fill n h ((y.txnFree n u).sys.slice n) fk d p g) = z at hend hslice hmsgs
  have hends := hend.slice.trans hslice
  have hepoch : ((y.txnFree n u).sys.slice n).nextEpoch = ((s.sys.slice n).epoch + 1) % 2 ^ 48 := by
    unfold Slice.nextEpoch
    rw [hfree.home.epoch]
  have hfill : u.fill n h ((y.txnFree n u).sys.slice n) fk d p g =
      .fill ⟨h, line.toNat, fk, d, p, b / 8, g, ⟨n, (s.sys.slice n).session, (s.sys.slice n).epoch⟩, false, r.first, 0, false, 0⟩ := by
    unfold Txn.fill
    rw [hfree.home.session, hfree.home.epoch, hur, hl, ← hu]
    rfl
  rw [hfill] at hmsgs
  refine ⟨.inl ((congrArg Slice.txns hslice).trans hfree.txns), hq _ ⟨?_, ?_, ?_, ?_, ?_, ?_, ?_, hend.only⟩⟩
  · rw [hqq]
    exact hend.msgs.trans hmsgs
  · rw [hend.sfGet, ← hl]
    exact Sys.sfGet_of_slice (y.txnFree n u).sys n r.line _ (congrArg Slice.sf hslice) rfl
  · exact (congrArg Slice.txns hends).trans hfree.txns
  · exact (congrArg Slice.epoch hends).trans hepoch
  · rw [hends, ← hl]
    exact Bank.getD_set_self ..
  · refine (congrArg Slice.resv hends).trans ?_
    rw [← hl, ← hfree.home.resv]
  · exact (congrArg Slice.sectors hends).trans hfree.home.sectors

end

end Sys2Proof.Machine
end

section
/-!
PROOFS. The reads a home agent serves (O31).
-/
namespace Sys2Proof.Machine

section
variable {s : State} {c : Instr} {n : Fin 64} {b : Nat} {w : ReqSrc} {mk : Req → Req} {kind : ReqKind} {line : Line} {d : BitVec 512} {p : Bool}

/-- What a request leaves that was answered and changed nothing of its slice. -/
structure State.Read (s : State) (c : Instr) (n : Nat) (m : Msg) (t : State) : Prop where
  msgs : t.sys.msgs = (s.asked c).2.sys.msgs ++ [m]
  txns : (t.sys.slice n).txns = []
  sf : (t.sys.slice n).sf = (s.sys.slice n).sf
  epoch : (t.sys.slice n).epoch = (s.sys.slice n).epoch
  buckets : (t.sys.slice n).buckets = (s.sys.slice n).buckets
  resv : (t.sys.slice n).resv = (s.sys.slice n).resv
  sectors : (t.sys.slice n).sectors = (s.sys.slice n).sectors
  only : s.OnlySlice t n (serveReg n) serveParts

theorem State.Serving.read {x y : M} (hfree : s.Serving x n [] y) (r : Req) (ddr : Bool) (m : Msg) {q : Req} (hq : s.asked c = (q, x)) :
    s.Read c n m (s.after (((y.repaid r ddr).post m).on (fun s => s.showHa n))) ∧
    (s.after (((y.repaid r ddr).post m).on (fun s => s.showHa n))).sys.slice n = y.sys.slice n := by
  obtain ⟨hend, hslice, hmsgs⟩ := hfree.answered r ddr m
  have hends := hend.slice.trans hslice
  refine ⟨⟨?_, ?_, ?_, ?_, ?_, ?_, ?_, hend.only⟩, hends⟩
  · rw [hq]
    exact hend.msgs.trans hmsgs
  · exact (congrArg Slice.txns hends).trans hfree.txns
  · exact (congrArg Slice.sf hends).trans hfree.home.sf
  · exact (congrArg Slice.epoch hends).trans hfree.home.epoch
  · exact (congrArg Slice.buckets hends).trans hfree.home.buckets
  · exact (congrArg Slice.resv hends).trans hfree.home.resv
  · exact (congrArg Slice.sectors hends).trans hfree.home.sectors

theorem Txn.plain_home {u : Txn} {n : Nat} {z v : Slice} (hs : z.session = v.session) (he : z.epoch = v.epoch) (d : BitVec 512) (p : Bool) :
    u.plain n z d p = u.plain n v d p := by
  unfold Txn.plain Txn.fill
  rw [hs, he]

/-- A read of a line in SH or without an entry, of which the LLC has the data. -/
theorem State.Serves.reads (hs : s.Serves c n b) (hc : exec c s = onM (fun x => x.arrive n w mk kind line) s)
    (ha : s.asked c = s.ctx.arriving n w mk kind line) (hmk : ∀ q : Req, (mk q).kind = q.kind ∧ (mk q).line = q.line ∧ (mk q).who = q.who)
    (hread : kind.readsOnly = true) (hlr : kind ≠ .ncLr) (he : (s.sys.sfGet n line.toNat).all (fun e => e.st == 2) = true)
    (hd : s.sys.llcLine n line.toNat = some (d, p)) {q : State → Prop}
    (hq : ∀ t r, (s.asked c).1 = r → r.kind = kind → r.line = line.toNat → r.who = (s.sys.srcOf w).1 →
      s.Read c n ((r.active b false []).plain n (s.sys.slice n) d p) t → (kind = .rdSpec → (t.sys.slice n).oc = (s.sys.slice n).oc) → q t) : Completes c s q := by
  refine hs.quiet hc ha hmk fun r x y hqq hk hl hw _ hy hoc => ?_
  have her : (s.sys.sfGet n r.line).all (fun e => e.st == 2) = true := by rw [hl]; exact he
  have hasks : r.kind.asksData = true := by
    rw [hk]
    have hcase : kind = .rdSpec ∨ kind = .ncRd ∨ kind = .ncLr ∨ kind = .devRd := by simpa [ReqKind.readsOnly] using hread
    rcases hcase with h | h | h | h
    · rw [h]; rfl
    · rw [h]; rfl
    · exact absurd h hlr
    · rw [h]; rfl
  refine ⟨Sys.snoopsFor_shared her (by rw [hk]; exact hread), _, rfl, ?_⟩
  rw [Sys.exElsewhere_shared her] at hy ⊢
  generalize hu : r.active b false [] = u at hy ⊢
  have hur : u.req = r := by rw [← hu]; rfl
  have hfree := hy.free
  have hnw : u.req.kind.writesLine = false := by
    rw [hur]
    rcases ReqKind.asksData_iff.mp hasks with h | h | h | h | h <;> rw [h] <;> rfl
  have haccess : y.access n u = ((y.txnFree n u).repaid r false).post (u.plain n (s.sys.slice n) d p) := by
    rw [M.access_asks (by rw [← hu]; rfl) (by rw [hur]; exact hasks), hur, hy.home.llcLine, hl, hd]
    refine (M.withData_read hnw false false).trans ?_
    rw [M.answerData_plain (by rw [hur, hk]; exact hread), hur, Txn.plain_home hfree.home.session hfree.home.epoch]
  rw [haccess]
  obtain ⟨hend, hslice⟩ := hfree.read r false (u.plain n (s.sys.slice n) d p) hqq
  refine ⟨.inl ((congrArg Slice.txns (hfree.answered r false _).2.1).trans hfree.txns), hq _ r (by rw [hqq]) hk hl hw (by rw [hu]; exact hend) fun hspec => ?_⟩
  rw [hslice]
  refine (congrArg Slice.oc (Sys.slice_onSlice_self y.sys n _)).trans ?_
  exact hoc (hk.trans hspec)

end

/-! ## A line that another holds -/

theorem SfEnt.holders_one {e : SfEnt} (h : e.st = 1) : e.holders ≠ [] := by
  unfold SfEnt.holders
  rw [h]
  simp

section
variable {s : Sys} {n : Nat} {r : Req} {e : SfEnt} (he : s.sfGet n r.line = some e) (hst : e.st = 1)
  (hother : e.holders.filter (fun h => some h ≠ r.who.holder) = e.holders)
include he hst hother

theorem Sys.exElsewhere_held : s.exElsewhere n r = true := by
  unfold Sys.exElsewhere
  rw [he]
  obtain ⟨g, hg⟩ := List.exists_mem_of_ne_nil _ (SfEnt.holders_one hst)
  rw [← hother] at hg
  obtain ⟨hg, hne⟩ := List.mem_filter.mp hg
  simp only [Option.any_some, hst, beq_self_eq_true, Bool.true_or, Bool.true_and]
  exact List.any_eq_true.mpr ⟨g, hg, hne⟩

/-- The snoop that a read of a line of another makes. -/
def ReqKind.readSnoop : ReqKind → Option Snoop
  | .rdShared => some .share
  | .rdOwn => some .inv
  | .ncRd => some .peek
  | _ => none

theorem Sys.snoopsFor_held {k : Snoop} (hk : r.kind.readSnoop = some k) : s.snoopsFor n r = some (k, e.holders) := by
  have hnone : e.holders.isEmpty = false := by simpa using SfEnt.holders_one hst
  unfold Sys.snoopsFor
  rw [he]
  dsimp only
  rw [hother, hst, hnone]
  generalize r.kind = kind at hk
  cases kind with
  | rdShared => cases hk; rfl
  | rdOwn => cases hk; rfl
  | ncRd => cases hk; rfl
  | _ => cases hk

end

/-- A prefetch of a line that another holds in E or M is answered without data (R255). -/
theorem M.access_pfHeld {y : M} {n : Nat} {u : Txn} {e : SfEnt} (hk : u.req.kind = .pfRd) (hg : u.got = none) (he : y.sys.sfGet n u.req.line = some e) (hst : e.st = 1) :
    y.access n u = (y.txnFree n u).post u.req.errorMsg := by
  unfold M.access
  rw [hg]
  dsimp only
  rw [hk]
  dsimp only
  rw [he]
  exact if_neg (by rw [hst]; decide)

/-! ## Reservations -/

/-- A core reserves a block: its other reservation ends, and the oldest of a full table (R305). -/
def Sys.reserve (s : Sys) (n h l : Nat) : Sys := s.onSlice n (fun z =>
  { z with resv := (if (z.resv.filter (fun p => p.1 ≠ h)).length < 64 then z.resv.filter (fun p => p.1 ≠ h) else (z.resv.filter (fun p => p.1 ≠ h)).drop 1) ++ [(h, l)] })

theorem Sys.resv_reserve (s : Sys) (n h l : Nat) : ((s.reserve n h l).slice n).resv =
    (if ((s.slice n).resv.filter (fun p => p.1 ≠ h)).length < 64 then (s.slice n).resv.filter (fun p => p.1 ≠ h)
      else ((s.slice n).resv.filter (fun p => p.1 ≠ h)).drop 1) ++ [(h, l)] := congrArg Slice.resv (Sys.slice_onSlice_self s n _)

theorem M.access_ncLr {y : M} {n h : Nat} {u : Txn} {d : BitVec 512} {p : Bool} (hk : u.req.kind = .ncLr) (hw : u.req.who = .core h) (hg : u.got = none)
    (hd : y.sys.llcLine n u.req.line = some (d, p)) :
    y.access n u = (((y.on (fun s => s.reserve n h u.req.line)).txnFree n u).repaid u.req false).post (u.plain n ((y.on (fun s => s.reserve n h u.req.line)).txnFree n u |>.sys.slice n) d p) := by
  have hd' : (y.on (fun s => s.reserve n h u.req.line)).sys.llcLine n u.req.line = some (d, p) := (y.sys.llcLine_onSlice n n u.req.line _ rfl).trans hd
  have hneeds : (y.on (fun s => s.reserve n h u.req.line)).sys.needsData n u.req = true := by
    unfold Sys.needsData
    rw [hk]
  rw [← M.answerData_plain (by rw [hk]; rfl)]
  refine Eq.trans ?_ (M.withData_read (by rw [hk]; rfl) false false)
  generalize hz : y.on (fun s => s.reserve n h u.req.line) = z at hd' hneeds
  unfold M.access
  rw [hg]
  dsimp only
  rw [hk, hw]
  dsimp only
  rw [if_pos (show (ReqKind.ncLr == ReqKind.ncLr) = true from rfl)]
  have hz' : (y.on fun s => s.onSlice n fun z => { z with
      resv := (if (z.resv.filter (fun p => p.1 ≠ h)).length < 64 then z.resv.filter (fun p => p.1 ≠ h) else (z.resv.filter (fun p => p.1 ≠ h)).drop 1) ++
        [(h, u.req.line)] }) = z := hz
  rw [hz', hneeds, if_pos rfl, hd']
  rfl

end Sys2Proof.Machine
end

section
/-!
SUPPORT. A read that goes to memory: the read sent to its channel, once (R308, R328, R335).
-/
namespace Sys2Proof.Machine

theorem maskBits_lt {m i : Nat} (h : i ∈ maskBits m) : i < 16 := List.mem_range.mp (List.mem_filter.mp h).1

theorem IlvRec.chans_lt {v : IlvRec} {i : Nat} (h : i ∈ v.chans) : i < 16 := by
  unfold IlvRec.chans at h
  split at h
  · exact maskBits_lt (List.mem_filter.mp h).1
  · exact maskBits_lt h

/-- A line's channel is one of the sixteen. -/
theorem Conf.locate_lt {c : Conf} {pa m ca : Nat} {mir : Bool} (h : c.locate pa = some (m, ca, mir)) : m < 16 := by
  unfold Conf.locate at h
  obtain ⟨v, -, hv⟩ := Option.map_eq_some_iff.mp h
  have hm : (v.locate pa).1 = m := congrArg Prod.fst hv
  rw [← hm]
  unfold IlvRec.locate
  dsimp only
  cases hg : v.chans[foldU ((pa - v.base) / v.granuleBytes) % v.parts]? with
  | none => exact (by decide : 0 < 16)
  | some i => exact IlvRec.chans_lt (List.mem_of_getElem? hg)

/-- A read of a line is sent to a channel. -/
def Sys.readSent (s : Sys) (m ca n l : Nat) : Sys := s.onChan m (fun ch => { ch with fwd := ch.fwd ++ [⟨l, ca, n, 0⟩] })

section
variable {x : M} {n m ca : Nat} {u : Txn}

theorem Sys.readsAt_zero {s : Sys} {n i : Nat} (h : s.readsAt n i = 0) (l : Nat) :
    ((s.chan i).fwd ++ (s.chan i).readQ ++ (s.chan i).issued).any (fun q => q.slice = n ∧ q.line = l) = false ∧
    (s.chan i).done.any (fun d => d.slice = n ∧ d.line = l) = false := by
  unfold Sys.readsAt at h
  dsimp only at h
  obtain ⟨hq, hd⟩ := Nat.add_eq_zero_iff.mp h
  rw [List.length_eq_zero_iff, List.filter_eq_nil_iff] at hq hd
  refine ⟨List.any_eq_false.mpr fun q hm => ?_, List.any_eq_false.mpr fun d hm => ?_⟩
  · have := hq q hm
    simp only [decide_eq_true_eq] at this ⊢
    exact fun h => this h.1
  · have := hd d hm
    simp only [decide_eq_true_eq] at this ⊢
    exact fun h => this h.1

/-- With no read of the slice under way the read is sent. -/
theorem M.sendRead_first (hloc : x.sys.conf.locate (64 * u.req.line) = some (m, ca, false)) (h0 : ∀ i, i < 16 → x.sys.readsAt n i = 0) :
    x.sendRead n u = x.on (fun s => s.readSent m ca n u.req.line) := by
  have hchan : x.sys.readChan m ca false = m := if_neg Bool.false_ne_true
  have hunder : (below 16).any (fun i => ((x.sys.chan i).fwd ++ (x.sys.chan i).readQ ++ (x.sys.chan i).issued).any (fun q => q.slice = n ∧ q.line = u.req.line) ||
      (x.sys.chan i).done.any (fun d => d.slice = n ∧ d.line = u.req.line)) = false := by
    refine List.any_eq_false.mpr fun i hi => ?_
    obtain ⟨h1, h2⟩ := Sys.readsAt_zero (h0 i (List.mem_range.mp hi)) u.req.line
    rw [h1, h2]
    decide
  unfold M.sendRead
  dsimp only
  rw [hloc]
  dsimp only
  rw [hchan, hunder, h0 m (Conf.locate_lt hloc)]
  rfl

/-- A read under way is not sent again. -/
theorem M.sendRead_again (hloc : x.sys.conf.locate (64 * u.req.line) = some (m, ca, false)) {q : MRead} (hq : q ∈ (x.sys.chan m).fwd)
    (hs : q.slice = n ∧ q.line = u.req.line) : x.sendRead n u = x := by
  have hunder : (below 16).any (fun i => ((x.sys.chan i).fwd ++ (x.sys.chan i).readQ ++ (x.sys.chan i).issued).any (fun q => q.slice = n ∧ q.line = u.req.line) ||
      (x.sys.chan i).done.any (fun d => d.slice = n ∧ d.line = u.req.line)) = true := by
    refine List.any_eq_true.mpr ⟨m, List.mem_range.mpr (Conf.locate_lt hloc), Bool.or_eq_true_iff.mpr (.inl (List.any_eq_true.mpr ⟨q, ?_, by simpa using hs⟩))⟩
    exact List.mem_append_left _ (List.mem_append_left _ hq)
  unfold M.sendRead
  dsimp only
  rw [hloc]
  dsimp only
  rw [hunder]
  rfl

end

section
variable {s : State} {c : Instr} {n : Fin 64} {b m ca : Nat} {w : ReqSrc} {mk : Req → Req} {kind : ReqKind} {line : Line}

/-- A transaction that waits for memory. -/
def Txn.inMemory (u : Txn) : Txn := { u with st := .memory }

/-- A read without the line in the LLC goes to the line's channel. -/
theorem State.Serves.toMemory (hs : s.Serves c n b) (hc : exec c s = onM (fun x => x.arrive n w mk kind line) s)
    (ha : s.asked c = s.ctx.arriving n w mk kind line) (hmk : ∀ q : Req, (mk q).kind = q.kind ∧ (mk q).line = q.line ∧ (mk q).who = q.who)
    (hask : kind.asksData = true) (he : s.sys.sfGet n line.toNat = none) (hd : s.sys.llcLine n line.toNat = none) (hf : s.sys.foreign line.toNat = false)
    (hloc : s.sys.conf.locate (64 * line.toNat) = some (m, ca, false)) (h0 : ∀ i, i < 16 → s.sys.readsAt n i = 0) {q : State → Prop}
    (hq : ∀ t, t.sys.msgs = (s.asked c).2.sys.msgs → (t.sys.chan m).fwd = (s.sys.chan m).fwd ++ [⟨line.toNat, ca, n, 0⟩] →
      (t.sys.slice n).txns.map (fun v => (v.req, v.st)) = [((s.asked c).1, .memory)] → (∀ i, i ≠ m → t.sys.chan i = s.sys.chan i) →
      s.OnlySlice t n (serveReg n) (.chans :: serveParts) → q t) : Completes c s q := by
  refine hs.completes hc ha hmk fun r x hqq hb hx => ?_
  have hserve := State.serving_brings (n := n) hb
  obtain ⟨hk, hl, hw, -, hframe⟩ := hb
  have hsn : x.sys.snoopsFor n r = none := Sys.snoopsFor_none (by rw [hserve.home.sfGet, hl]; exact he)
  rw [hx.accept_run, hx.activate, hsn]
  dsimp only
  generalize hu : r.active b (x.sys.exElsewhere n r) [] = u
  have hur : u.req = r := by rw [← hu]; rfl
  have hy : s.Serving x n [u] ((x.passed n r).only n u) := hserve.kept ((M.passed_kept x n r).trans (M.kept_only _ n _)) (M.txns_only _ n _)
  generalize (x.passed n r).only n u = y at hy
  -- the access leaves the transaction waiting for memory
  have haccess : y.access n u = y.on (fun s => s.onSlice n (fun z => { z with txns := z.txns.map (fun v => if v = u then { u with st := .memory } else v) })) := by
    rw [M.access_asks (by rw [← hu]; rfl) (by rw [hur, hk]; exact hask), hur, hy.home.llcLine, hl, hd]
  have hz : s.Serving x n [u.inMemory] (y.access n u) := by
    rw [haccess]
    refine hy.kept (.onSlice y fun _ => rfl) ((congrArg Slice.txns (Sys.slice_onSlice_self y.sys n _)).trans ?_)
    rw [hy.txns]
    simp [Txn.inMemory]
  generalize y.access n u = z at hz
  have hreq : u.inMemory.req = r := by rw [← hu]; rfl
  have hzchan : z.sys.chan = s.sys.chan := Sys.chan_of_chans (hz.frame.1.2 .chans rfl)
  have hzloc : z.sys.conf.locate (64 * u.inMemory.req.line) = some (m, ca, false) := by rw [hz.home.conf, hreq, hl, hloc]
  have hread : ∀ i, i < 16 → z.sys.readsAt n i = 0 := by
    intro i hi
    have := h0 i hi
    unfold Sys.readsAt at this ⊢
    rw [hzchan]
    exact this
  -- its read is sent, once
  have hsend : z.toMemory n r.line = z.on (fun s => s.readSent m ca n r.line) := by
    have hfind : [u.inMemory].find? (fun t => t.req.line = r.line ∧ t.st = .memory) = some u.inMemory := by
      simp [hreq, show u.inMemory.st = .memory from rfl]
    unfold M.toMemory
    rw [hz.txns, hfind]
    dsimp only
    rw [hz.home.foreign, hl, hf, ← hl, if_neg Bool.false_ne_true, ← hreq, hzloc]
    exact (if_pos rfl).trans (M.sendRead_first hzloc hread)
  rw [hsend]
  generalize hv : z.on (fun s => s.readSent m ca n r.line) = v
  have hvtx : (v.sys.slice n).txns = [u.inMemory] := by
    rw [← hv]
    exact hz.txns
  have hvchan : v.sys.chan m = { s.sys.chan m with fwd := (s.sys.chan m).fwd ++ [⟨r.line, ca, n, 0⟩] } := by
    rw [← hv, M.sys_on]
    unfold Sys.readSent
    rw [Sys.chan_onChan_self, hzchan]
  have hagain : v.sendRead n u.inMemory = v := by
    refine M.sendRead_again (m := m) (ca := ca) ?_ (q := ⟨r.line, ca, n, 0⟩) ?_ ⟨rfl, by rw [hreq]⟩
    · rw [← hv]
      exact hzloc
    · rw [hvchan]
      exact List.mem_append_right _ (List.mem_singleton_self _)
  have hfin : v.finish n = v.on (fun s => s.showHa n) := by
    unfold M.finish
    rw [hvtx, List.filter_cons_of_pos (by simp [Txn.inMemory])]
    simp only [List.filter_nil, List.foldl_cons, List.foldl_nil, hagain]
  rw [v.runLine_busy n _ _ (Sys.lineBusy_one (l := r.line) hvtx (by rw [hreq]) nofun), hfin]
  have hsent : Sys.FrameSlice n z.sys v.sys (serveReg n) (.chans :: serveParts) := by
    rw [← hv]
    exact Sys.FrameSlice.of_frame (.set_chans _ _ rfl) rfl
  have hvops : v.ops = z.ops := by rw [← hv]; rfl
  have hvmsgs : v.sys.msgs = z.sys.msgs := by rw [← hv]; rfl
  have hend := hz.served hvops hsent (List.subset_cons_self _ _)
  refine hq _ ?_ ?_ ?_ (fun i hi => ?_) hend.only
  · rw [hqq]
    exact hend.msgs.trans (hvmsgs.trans hz.msgs)
  · rw [hend.chan, hvchan, hl]
  · rw [hend.slice, hvtx, hqq, ← hreq]
    rfl
  · rw [hend.chan, ← hv, M.sys_on]
    refine (Sys.chan_onChan_other _ _ _ hi).trans ?_
    rw [hzchan]

end

end Sys2Proof.Machine
end

section
/-!
PROOFS. The reads of a home agent (O31).
-/
namespace Sys2Proof.Machine

theorem keepsReq_id (q : Req) : (id q).kind = q.kind ∧ (id q).line = q.line ∧ (id q).who = q.who := ⟨rfl, rfl, rfl⟩

theorem keepsReq_first (f : Nat) (q : Req) : ({ q with first := f } : Req).kind = q.kind ∧ ({ q with first := f } : Req).line = q.line ∧
    ({ q with first := f } : Req).who = q.who := ⟨rfl, rfl, rfl⟩

theorem Req.pool_core {r : Req} {h : Nat} (hw : r.who = .core h) (hk : r.kind = .rdShared ∨ r.kind = .rdOwn) : r.pool = .general := by
  unfold Req.pool
  rw [hw]
  rcases hk with h | h <;> rw [h]

/-- Settles O31: each read from its access, answered with the LLC's data, from a holder's answer, or from memory. -/
theorem homeReads : Obligations.HomeReads := by
  unfold Obligations.HomeReads
  refine ⟨?rdShared, ?rdOwn, ?rdSpec, ?pfRd, ?pfWr, ?pfHeld, ?ncRd, ?devRd, ?ncLr, ?shareHeld, ?ownHeld, ?ncHeld, ?memory⟩
  case rdShared =>
    intro s n h line first b d p hs he hd
    exact hs.grants rfl rfl (keepsReq_first first) rfl he hd nofun fun t g => ⟨g.msgs, g.entry, g.txns, g.epoch, g.sectors, g.only⟩
  case rdOwn =>
    intro s n h line first b d p hs he hd
    exact hs.grants rfl rfl (keepsReq_first first) rfl he hd nofun fun t g => ⟨g.msgs, g.entry, g.txns, g.epoch, g.bucket, g.resv, g.only⟩
  case rdSpec =>
    intro s n h line first b d p hs he hd
    refine hs.reads rfl rfl (keepsReq_first first) rfl (by decide) he hd fun t r hr hk hl hw g hoc => ⟨?_, g.sf, g.epoch, g.buckets, hoc rfl, g.txns, g.only⟩
    refine g.msgs.trans ?_
    rw [hr]
    unfold Txn.plain Txn.fill Req.active
    dsimp only
    rw [hk, hw, hl]
    rfl
  case pfRd =>
    intro s n h line b d p hs he hd
    exact hs.grants rfl rfl keepsReq_id rfl he hd nofun fun t g => ⟨g.msgs, g.entry, g.sectors, g.only⟩
  case pfWr =>
    intro s n h line b d p hs he hd
    exact hs.grants rfl rfl keepsReq_id rfl he hd nofun fun t g => ⟨g.msgs, g.entry, g.sectors, g.only⟩
  case pfHeld =>
    intro s n h line b e hs hheld
    refine hs.quiet rfl rfl keepsReq_id fun r x y hqq hk hl hw _ hy _ => ?_
    rw [hqq] at hheld ⊢
    obtain ⟨he, hst, hother⟩ := hheld
    have hnone : s.sys.snoopsFor n r = none := by
      unfold Sys.snoopsFor
      rw [he]
      dsimp only
      rw [hk]
    refine ⟨hnone, _, rfl, ?_⟩
    generalize hu : r.active b (s.sys.exElsewhere n r) [] = u at hy ⊢
    have hur : u.req = r := by rw [← hu]; rfl
    rw [M.access_pfHeld (e := e) (by rw [hur]; exact hk) (by rw [← hu]; rfl) (by rw [hur, hy.home.sfGet]; exact he) hst]
    obtain ⟨hend, -⟩ := hy.free.read r true u.req.errorMsg hqq
    refine ⟨.inl ((congrArg Slice.txns (hy.free.answered r true _).2.1).trans hy.free.txns), ?_, hend.sf, hend.only⟩
    refine hend.msgs.trans ?_
    rw [hqq, hur]
    unfold Req.errorMsg
    rw [hw, hk, hl]
    rfl
  case ncRd =>
    intro s n w line b d p hs he hd
    refine hs.reads rfl rfl keepsReq_id rfl (by decide) he hd fun t r hr hk hl hw g hoc => ⟨?_, g.sf, g.epoch, g.only⟩
    refine g.msgs.trans ?_
    rw [hr]
    unfold Txn.plain Txn.fill Req.active
    dsimp only
    rw [hk, hw, hl]
    cases w <;> rfl
  case devRd =>
    intro s n w line b d p hs he hd
    refine hs.reads rfl rfl keepsReq_id rfl (by decide) he hd fun t r hr hk hl hw g hoc => ⟨?_, g.sf, g.epoch, g.only⟩
    refine g.msgs.trans ?_
    rw [hr]
    unfold Txn.plain Req.active
    dsimp only
    rw [hk, hl]
  case ncLr =>
    intro s n h line b d p hs he hd
    refine hs.quiet rfl rfl keepsReq_id fun r x y hqq hk hl hw _ hy _ => ?_
    have her : (s.sys.sfGet n r.line).all (fun e => e.st == 2) = true := by rw [hl]; exact he
    refine ⟨Sys.snoopsFor_shared her (by rw [hk]; rfl), _, rfl, ?_⟩
    rw [Sys.exElsewhere_shared her] at hy ⊢
    generalize hu : r.active b false [] = u at hy ⊢
    have hur : u.req = r := by rw [← hu]; rfl
    rw [M.access_ncLr (h := h) (by rw [hur]; exact hk) (by rw [hur]; exact hw) (by rw [← hu]; rfl) (by rw [hur, hy.home.llcLine, hl]; exact hd), hur]
    -- the slice with the reservation made and the transaction gone
    have hfree : ((y.on (fun s => s.reserve n h r.line)).txnFree n u).sys.slice n = { y.sys.slice n with
        txns := []
        resv := ((y.sys.reserve n h r.line).slice n).resv } := by
      refine (Sys.slice_onSlice_self _ n _).trans ?_
      have htx : ((y.on (fun s => s.reserve n h r.line)).sys.slice n).txns = [u] := (congrArg Slice.txns (Sys.slice_onSlice_self y.sys n _)).trans hy.txns
      rw [htx, List.erase_cons_head]
      unfold M.on Sys.reserve
      dsimp only
      rw [Sys.slice_onSlice_self]
    have hframe : Sys.FrameSlice n y.sys ((y.on (fun s => s.reserve n h r.line)).txnFree n u).sys (serveReg n) serveParts :=
      Sys.FrameAt.trans (Sys.FrameSlice.onSlice y.sys _) (Sys.FrameSlice.onSlice _ _)
    have hops : ((y.on (fun s => s.reserve n h r.line)).txnFree n u).ops = y.ops := rfl
    have hm0 : ((y.on (fun s => s.reserve n h r.line)).txnFree n u).sys.msgs = y.sys.msgs := rfl
    generalize (y.on (fun s => s.reserve n h r.line)).txnFree n u = y' at hfree hframe hops hm0 ⊢
    have hfill : u.plain n (y'.sys.slice n) d p =
        .fill ⟨h, line.toNat, .nc, d, p, b / 8, 0, ⟨n, (s.sys.slice n).session, (s.sys.slice n).epoch⟩, false, r.first, 0, false, 0⟩ := by
      rw [Txn.plain_home (v := s.sys.slice n) (by rw [hfree]; exact hy.home.session) (by rw [hfree]; exact hy.home.epoch), ← hu]
      unfold Txn.plain Txn.fill Req.active
      dsimp only
      rw [hk, hw, hl]
      rfl
    rw [hfill]
    generalize hm : Msg.fill ⟨h, line.toNat, .nc, d, p, b / 8, 0, ⟨n, (s.sys.slice n).session, (s.sys.slice n).epoch⟩, false, r.first, 0, false, 0⟩ = m
    have hend := hy.served (z := (y'.repaid r false).post m) ((M.ops_post ..).trans ((y'.repaid_ops r false).trans hops))
      (hframe.trans ((y'.repaid_served r false n).trans ((y'.repaid r false).post_frame m n))) (List.Subset.refl _)
    have hslice : ((y'.repaid r false).post m).sys.slice n = y'.sys.slice n := by rw [M.sys_post, Sys.slice_addMsgs, M.repaid_slice]
    have hresv : ((s.after (((y'.repaid r false).post m).on (fun s => s.showHa n))).sys.slice n).resv =
        (if ((s.sys.slice n).resv.filter (fun p => p.1 ≠ h.val)).length < 64 then (s.sys.slice n).resv.filter (fun p => p.1 ≠ h.val)
          else ((s.sys.slice n).resv.filter (fun p => p.1 ≠ h.val)).drop 1) ++ [(h.val, r.line)] := by
      rw [hend.slice, hslice, hfree, Sys.resv_reserve, hy.home.resv]
    refine ⟨.inl (by rw [hslice, hfree]), ?_, ?_, ?_, fun hlen => ?_, hend.only⟩
    · rw [hqq]
      refine hend.msgs.trans ?_
      rw [M.sys_post, Sys.msgs_addMsgs, M.repaid_msgs, hm0, hy.msgs, ← hm]
    · rw [hresv, hl]
      simp
    · rw [hresv, hl]
      refine List.all_eq_true.mpr fun q hmem => ?_
      have hcore (l : List (Nat × Nat)) (hl : q ∈ l.filter (fun p => p.1 ≠ h.val)) : q.1 ≠ h.val := by simpa using (List.mem_filter.mp hl).2
      rcases List.mem_append.mp hmem with hmem | hmem
      · split at hmem
        · simpa using Or.inl (hcore _ hmem)
        · simpa using Or.inl (hcore _ (List.mem_of_mem_drop hmem))
      · simp [List.mem_singleton.mp hmem]
    · rw [hresv, List.length_append]
      have hle := List.length_filter_le (fun p : Nat × Nat => decide (p.1 ≠ h.val)) (s.sys.slice n).resv
      generalize (s.sys.slice n).resv.filter (fun p => decide (p.1 ≠ h.val)) = l at hle ⊢
      split
      · rw [List.length_singleton]
        omega
      · rw [List.length_drop, List.length_singleton]
        omega
  case shareHeld =>
    intro s n h line first b e hs hheld
    refine hs.snooping rfl rfl (keepsReq_first first) fun r x hqq hk hl hw => ?_
    rw [hqq] at hheld ⊢
    obtain ⟨he, hst, hother⟩ := hheld
    refine ⟨.share, e.holders, Sys.snoopsFor_held he hst hother (by rw [hk]; rfl), fun t hm ht hsf hframe => ⟨hm, ?_, hsf, hframe⟩⟩
    rw [ht, Sys.exElsewhere_held he hst hother, Req.active, Req.pool_core hw (.inl hk)]
  case ownHeld =>
    intro s n h line first b e hs hheld
    refine hs.snooping rfl rfl (keepsReq_first first) fun r x hqq hk hl hw => ?_
    rw [hqq] at hheld ⊢
    obtain ⟨he, hst, hother⟩ := hheld
    refine ⟨.inv, e.holders, Sys.snoopsFor_held he hst hother (by rw [hk]; rfl), fun t hm ht hsf hframe => ⟨hm, ?_, hframe⟩⟩
    rw [ht, Sys.exElsewhere_held he hst hother, Req.active, Req.pool_core hw (.inr hk)]
  case ncHeld =>
    intro s n w line b e hs hheld
    refine hs.snooping rfl rfl keepsReq_id fun r x hqq hk hl hw => ?_
    rw [hqq] at hheld ⊢
    obtain ⟨he, hst, hother⟩ := hheld
    refine ⟨.peek, e.holders, Sys.snoopsFor_held he hst hother (by rw [hk]; rfl), fun t hm ht hsf hframe => ⟨hm, ?_, hframe⟩⟩
    rw [ht]
    rfl
  case memory =>
    intro s n h line first b m ca hs he hd hf hloc h0
    have hreads : ∀ i, i < 16 → s.sys.readsAt n i = 0 := fun i hi => by simpa using List.all_eq_true.mp h0 i (List.mem_range.mpr hi)
    exact hs.toMemory rfl rfl (keepsReq_first first) rfl he hd hf hloc hreads fun t h1 h2 h3 h4 h5 => ⟨h1, h2, h3, h4, h5⟩

end Sys2Proof.Machine
end

section
/-!
PROOFS. The requests that bring or move no data to their requester, and BIND (O32).
-/
namespace Sys2Proof.Machine

/-! ## Lines of the LLC and entries -/

section
variable {s t : Sys} {n l : Nat}

/-- A line's own sub-block, cleared, is not found. -/
theorem Sys.llcLine_cleared (ht : (t.slice n).sectors = ((s.llcClear n l).slice n).sectors) : t.llcLine n l = none := by
  have hsec : t.sector n l = ({ t with slices := (s.llcClear n l).slices } : Sys).sector n l := by
    unfold Sys.sector
    rw [ht]
    rfl
  have hall := Sys.sector_llcClear (t := { t with slices := (s.llcClear n l).slices }) (s := s) (n := n) (l := l) rfl
  unfold Sys.llcLine
  rw [hsec]
  cases hs : ({ t with slices := (s.llcClear n l).slices } : Sys).sector n l with
  | none => rfl
  | some f =>
    rw [hs] at hall
    have hv : bit f.v (l % 4) = false := by simpa using hall
    dsimp only
    rw [hv]
    rfl

theorem Sys.llcClear_frame (s : Sys) (n l : Nat) {but : RK → Bool} {parts : List Part} : Sys.FrameSlice n s (s.llcClear n l) but parts := Sys.FrameSlice.onSlice s _

/-- Clearing a line's sub-block changes the sectors alone. -/
theorem Sys.slice_llcClear : (s.llcClear n l).slice n = { s.slice n with sectors := ((s.llcClear n l).slice n).sectors } := by
  unfold Sys.llcClear
  rw [Sys.slice_onSlice_self]

end

/-- A line that its requester is to hold as zeros (R271): gone from the LLC, and the requester's in M. -/
def Sys.zeroed (s : Sys) (n l : Nat) (e : SfEnt) : Sys := (((s.llcClear n l).epochUp n l).clearResv n l).sfSet n e

theorem Sys.slice_zeroed (s : Sys) (n l : Nat) (e : SfEnt) : (s.zeroed n l e).slice n = { s.slice n with
    sectors := ((s.llcClear n l).slice n).sectors
    sf := e :: (s.slice n).sf.filter (fun f => f.line ≠ e.line)
    epoch := (s.slice n).nextEpoch
    session := if (s.slice n).nextEpoch = 0 then ((s.slice n).session + 1) % 256 else (s.slice n).session
    buckets := Bank.set (s.slice n).buckets (bucketOf l) (s.slice n).nextEpoch
    resv := (s.slice n).resv.filter (fun p => p.2 ≠ l) } := by
  unfold Sys.zeroed
  rw [Sys.slice_sfSet, Sys.slice_clearResv, Sys.slice_epochUp, Sys.slice_llcClear]
  rfl

theorem Sys.zeroed_frame (s : Sys) (n l : Nat) (e : SfEnt) {but : RK → Bool} {parts : List Part} : Sys.FrameSlice n s (s.zeroed n l e) but parts :=
  Sys.FrameAt.trans (Sys.FrameAt.trans (Sys.FrameAt.trans (s.llcClear_frame n l) (Sys.epochUp_frame _ n l)) (Sys.clearResv_frame _ n l)) (Sys.sfSet_frame _ n e)

section
variable {y : M} {n h : Nat} {u : Txn}

theorem M.access_ownZero (hk : u.req.kind = .ownZero) (hw : u.req.who = .core h) (hg : u.got = none) (hroom : (y.sys.slice n).sf.length < 16) :
    y.access n u = ((y.on (fun s => s.zeroed n u.req.line (sfEx u.req.line (nget u.byte 3 4) (y.sys.foreign u.req.line) (.core h)))).txnFree n u).post
      (.grant h u.req.line (u.byte / 8) true) := by
  have hput (e : SfEnt) : (y.on (fun s => ((s.llcClear n u.req.line).epochUp n u.req.line).clearResv n u.req.line)).sfPut n u.req.kennel e =
      (y.on (fun s => ((s.llcClear n u.req.line).epochUp n u.req.line).clearResv n u.req.line)).on (fun s => s.sfSet n e) := by
    refine M.sfPut_room ?_
    rw [M.sys_on, Sys.slice_clearResv, Sys.slice_epochUp, Sys.slice_llcClear]
    exact hroom
  unfold M.access
  rw [hg]
  dsimp only
  rw [hk, hw]
  dsimp only [Source.holder]
  exact congrArg (fun z : M => (z.txnFree n u).post (.grant h u.req.line (u.byte / 8) true)) (hput _)

end

/-- A cleared, freed slice: the transaction ends after a change of the slice. -/
theorem M.slice_txnFree {y : M} {n : Nat} {u : Txn} (h : (y.sys.slice n).txns = [u]) : (y.txnFree n u).sys.slice n = { y.sys.slice n with txns := [] } := by
  refine (Sys.slice_onSlice_self y.sys n _).trans ?_
  rw [h, List.erase_cons_head]

theorem M.free_frame (y : M) (n : Nat) (u : Txn) {but : RK → Bool} {parts : List Part} : Sys.FrameSlice n y.sys (y.txnFree n u).sys but parts := Sys.FrameSlice.onSlice _ _

/-- A change of a slice that leaves its transactions, the messages under way and the slice's state. -/
structure Sys.SliceChange (n : Nat) (y z : Sys) : Prop where
  frame : Sys.FrameSlice n y z (fun _ => false) []
  txns : (z.slice n).txns = (y.slice n).txns

section
variable {s : State} {x y : M} {n : Nat} {u : Txn} {f : Sys → Sys} (hy : s.Serving x n [u] y) (hf : Sys.SliceChange n y.sys (f y.sys))
include hy hf

/-- A request that changes its slice and ends. -/
theorem State.Serving.changed :
    s.Served n ((y.on f).txnFree n u) serveParts (s.after (((y.on f).txnFree n u).on (fun s => s.showHa n))) ∧
    ((y.on f).txnFree n u).sys.slice n = { (f y.sys).slice n with txns := [] } ∧ ((y.on f).txnFree n u).sys.msgs = x.sys.msgs ∧
    ((y.on f).txnFree n u).sys.slState n = s.sys.slState n := by
  have hframe := hf.frame.trans ((y.on f).free_frame n u)
  refine ⟨hy.served (z := (y.on f).txnFree n u) rfl (hframe.mono nofun (List.nil_subset _)) (List.Subset.refl _), M.slice_txnFree (hf.txns.trans hy.txns), ?_, ?_⟩
  · exact (show ((y.on f).txnFree n u).sys.msgs = y.sys.msgs from hframe.1.2 .msgs rfl).trans hy.msgs
  · exact (hframe.1.rf F.TILE_SLICE_STATUS_STATE n 0 rfl).trans hy.home.slState

/-- A request that changes its slice, ends, and is answered. -/
theorem State.Serving.changedPost (m : Msg) :
    s.Served n (((y.on f).txnFree n u).post m) serveParts (s.after ((((y.on f).txnFree n u).post m).on (fun s => s.showHa n))) ∧
    (((y.on f).txnFree n u).post m).sys.slice n = { (f y.sys).slice n with txns := [] } ∧ (((y.on f).txnFree n u).post m).sys.msgs = x.sys.msgs ++ [m] ∧
    (((y.on f).txnFree n u).post m).sys.slState n = s.sys.slState n := by
  obtain ⟨-, hslice, hmsgs, hstate⟩ := hy.changed hf
  have hframe := (hf.frame.trans ((y.on f).free_frame n u)).mono (but' := serveReg n) (parts' := serveParts) nofun (List.nil_subset _)
  generalize hv : (y.on f).txnFree n u = v at hslice hmsgs hstate hframe ⊢
  have hops : v.ops = y.ops := by rw [← hv]; rfl
  refine ⟨hy.served (z := v.post m) hops (hframe.trans (v.post_frame m n)) (List.Subset.refl _), ?_, ?_, ?_⟩
  · rw [M.sys_post, Sys.slice_addMsgs, hslice]
  · rw [M.sys_post, Sys.msgs_addMsgs, hmsgs]
  · rw [M.sys_post, Sys.slState_addMsgs, hstate]

end

/-! ## Shared lines -/

theorem holders_shared {e : SfEnt} {i c : Nat} (hst : e.st = 2) (hi : i < 64) (hb : bit e.tiles.toNat i = true) (hc : c < 4) : Holder.core (4 * i + c) ∈ e.holders := by
  unfold SfEnt.holders
  rw [hst]
  refine List.mem_append_left _ (List.mem_append_left _ (List.mem_flatMap.mpr ⟨i, List.mem_filter.mpr ⟨List.mem_range.mpr hi, hb⟩, ?_⟩))
  exact List.mem_map.mpr ⟨c, List.mem_range.mpr hc, rfl⟩

/-- A shared line of a core's tile has other holders: the other cores of the tile. -/
theorem others_shared {e : SfEnt} {h : Nat} (hst : e.st = 2) (hh : h < 256) (hb : bit e.tiles.toNat (h / 4) = true) :
    (e.holders.filter (fun g => g ≠ .core h)).isEmpty = false := by
  have hmem := holders_shared (c := (h + 1) % 4) hst (by omega) hb (by omega)
  have hne : Holder.core (4 * (h / 4) + (h + 1) % 4) ≠ .core h := fun e => by
    have := Holder.core.inj e
    omega
  have hin : Holder.core (4 * (h / 4) + (h + 1) % 4) ∈ e.holders.filter (fun g => g ≠ .core h) := List.mem_filter.mpr ⟨hmem, by simpa using hne⟩
  simpa using List.ne_nil_of_mem hin

theorem bit_share {v : BitVec 64} {i : Nat} (hi : i < 64) : bit (v ||| (1#64 <<< i)).toNat i = true := by
  rw [bit_eq_testBit, BitVec.testBit_toNat, BitVec.getLsbD_or, BitVec.getLsbD_shiftLeft]
  simp [hi]

theorem SfEnt.share_core (e : SfEnt) {h : Nat} (hh : h < 256) : (e.share (.core h)).st = 2 ∧ bit (e.share (.core h)).tiles.toNat (h / 4) = true ∧
    (e.share (.core h)).line = e.line := ⟨rfl, bit_share (by omega), rfl⟩

/-! ## Offers and drops -/

/-- A slice that takes an offered line: the line's sector is `e` now, an event of the epoch where the data was dirty, and the offerer's entry is gone. -/
def Sys.offered (s : Sys) (n l : Nat) (e : Sector) (up drop : Bool) : Sys :=
  ((s.onSlice n (fun t => { t with sectors := e :: t.sectors.filter (fun f => f.q ≠ e.q) })).when up (fun s => s.epochUp n l)).when drop (fun s => s.sfDel n l)

section
variable (s : Sys) (n l : Nat)

theorem Sys.slice_sfDel : (s.sfDel n l).slice n = { s.slice n with sf := (s.slice n).sf.filter (fun e => e.line ≠ l) } := Sys.slice_onSlice_self ..

theorem Sys.sfDel_frame {but : RK → Bool} {parts : List Part} : Sys.FrameSlice n s (s.sfDel n l) but parts := Sys.FrameSlice.onSlice s _

theorem Sys.slice_offered (e : Sector) (up drop : Bool) : (s.offered n l e up drop).slice n = { s.slice n with
    sectors := e :: (s.slice n).sectors.filter (fun f => f.q ≠ e.q)
    sf := if drop then (s.slice n).sf.filter (fun e => e.line ≠ l) else (s.slice n).sf
    epoch := if up then (s.slice n).nextEpoch else (s.slice n).epoch
    session := if up ∧ (s.slice n).nextEpoch = 0 then ((s.slice n).session + 1) % 256 else (s.slice n).session
    buckets := if up then Bank.set (s.slice n).buckets (bucketOf l) (s.slice n).nextEpoch else (s.slice n).buckets } := by
  unfold Sys.offered
  cases up <;> cases drop <;> simp [Sys.slice_sfDel, Sys.slice_epochUp, Sys.slice_onSlice_self, Slice.nextEpoch]

theorem Sys.offered_change (e : Sector) (up drop : Bool) : Sys.SliceChange n s (s.offered n l e up drop) where
  frame := by
    have hput : Sys.FrameSlice n s (s.onSlice n (fun t => { t with sectors := e :: t.sectors.filter (fun f => f.q ≠ e.q) })) (fun _ => false) [] := .onSlice s _
    exact (hput.trans (.when _ up _ fun _ => Sys.epochUp_frame _ n l)).trans (.when _ drop _ fun _ => Sys.sfDel_frame _ n l)
  txns := by rw [Sys.slice_offered]

theorem Sys.dropped_change (drop : Bool) : Sys.SliceChange n s (s.when drop (fun s => s.sfDel n l)) where
  frame := .when _ drop _ fun _ => Sys.sfDel_frame _ n l
  txns := by
    cases drop with
    | false => rfl
    | true => rw [Sys.when_true, Sys.slice_sfDel]

end

section
variable {y : M} {n h : Nat} {u : Txn} (hw : u.req.who = .core h) (hg : u.got = none)
include hw hg

/-- The entry of a line in E or M is this core's. -/
def SfEnt.heldBy (e : SfEnt) (h : Nat) : Bool := decide (e.st = 1 ∧ e.owner = h)

theorem M.access_cleanDrop (hk : u.req.kind = .cleanDrop) : y.access n u =
    (y.on (fun s => s.when ((y.sys.sfGet n u.req.line).any (fun e => e.heldBy h)) (fun s => s.sfDel n u.req.line))).txnFree n u := by
  unfold M.access
  rw [hg]
  dsimp only
  rw [hk, hw]
  cases y.sys.sfGet n u.req.line with
  | none => rfl
  | some e =>
    rw [Option.any_some, SfEnt.heldBy]
    by_cases hown : e.st = 1 ∧ e.owner = h
    · simp only [hown, and_self, decide_true, if_true]
      rfl
    · simp only [hown, decide_false, if_false]
      rfl

theorem M.access_offer {e : Sector} (hk : u.req.kind = .offer) (hsec : y.sys.sector n u.req.line = some e) (hv : bit e.v (u.req.line % 4) = false) :
    y.access n u = (y.on (fun s => s.offered n u.req.line (e.fill (u.req.line % 4) u.req.data u.req.dirty u.req.poison false) (u.req.dirty || u.req.poison)
      ((y.sys.sfGet n u.req.line).any (fun e => e.heldBy h)))).txnFree n u := by
  have hsf (s : Sys) (hs : (s.slice n).sf = (y.sys.slice n).sf) : s.sfGet n u.req.line = y.sys.sfGet n u.req.line := by
    unfold Sys.sfGet
    rw [hs]
  unfold M.access M.settleOffer
  rw [hg]
  dsimp only
  rw [hk, hw, hsec]
  dsimp only
  rw [hv]
  generalize hup : (u.req.dirty || u.req.poison) = up
  generalize hput : y.on (fun s => s.onSlice n (fun t =>
    { t with sectors := e.fill (u.req.line % 4) u.req.data u.req.dirty u.req.poison false :: t.sectors.filter (fun f => f.q ≠ e.q) })) = x
  have hx : (x.sys.slice n).sf = (y.sys.slice n).sf := by
    rw [← hput, M.sys_on, Sys.slice_onSlice_self]
  have hend : (y.on (fun s => s.offered n u.req.line (e.fill (u.req.line % 4) u.req.data u.req.dirty u.req.poison false) up
      ((y.sys.sfGet n u.req.line).any (fun e => e.heldBy h)))) =
      (x.on (fun s => s.when up (fun s => s.epochUp n u.req.line))).on
        (fun s => s.when ((y.sys.sfGet n u.req.line).any (fun e => e.heldBy h)) (fun s => s.sfDel n u.req.line)) := by
    rw [← hput]
    rfl
  rw [hend]
  have hepoch : (if up = true then x.on (fun s => s.epochUp n u.req.line) else x) = x.on (fun s => s.when up (fun s => s.epochUp n u.req.line)) := by
    cases up <;> rfl
  have hget : (x.on (fun s => s.when up (fun s => s.epochUp n u.req.line))).sys.sfGet n u.req.line = y.sys.sfGet n u.req.line := by
    refine hsf _ ?_
    rw [M.sys_on, ← hx]
    cases up with
    | false => rfl
    | true => rw [Sys.when_true, Sys.slice_epochUp]
  simp only [Bool.false_eq_true, if_false]
  rw [hepoch, hget]
  cases y.sys.sfGet n u.req.line with
  | none => rfl
  | some f =>
    rw [Option.any_some, SfEnt.heldBy]
    by_cases hown : f.st = 1 ∧ f.owner = h
    · simp only [hown, and_self, decide_true, if_true]
      rfl
    · simp only [hown, decide_false, if_false]
      rfl

/-- A BIND whose token stands makes the requester a sharer (R311). -/
theorem M.access_bindOk (hk : u.req.kind = .bind) (htok : y.sys.tokenOk n u.req = true) (hroom : (y.sys.slice n).sf.length < 16) :
    y.access n u = ((y.on (fun s => s.sfSet n (((y.sys.sfGet n u.req.line).getD (sfShare u.req.line (nget u.byte 3 4) (y.sys.foreign u.req.line) [])).share
      (.core h)))).txnFree n u).post (.bindOk h u.req.line) := by
  unfold M.access
  rw [hg]
  dsimp only
  rw [hk, hw]
  dsimp only
  rw [htok, if_pos rfl]
  rw [M.sfPut_room hroom]
  cases y.sys.sfGet n u.req.line <;> rfl

end

end Sys2Proof.Machine
end

section
/-!
PROOFS. The grants without data, BIND, OFFER and CLEAN_DROP (O32).
-/
namespace Sys2Proof.Machine

/-! ## What the state shows of a slice after it -/

section
variable {s t : Sys} {n l i : Nat} {e : Sector}

theorem Sys.sector_head {rest : List Sector} (hup : t.llcUp n = true) (ht : (t.slice n).sectors = e :: rest) (hq : e.q = l / 4) : t.sector n l = some e := by
  rw [Sys.sector_up hup, ht, List.find?_cons_of_pos (by simpa using hq)]

theorem Sys.llcLine_sector (h : t.sector n l = some e) (hv : bit e.v (l % 4) = true) : t.llcLine n l = some ((e.data[l % 4]?).getD 0, bit e.p (l % 4)) := by
  unfold Sys.llcLine
  rw [h]
  exact if_pos hv

section
variable (e) (i) (data : BitVec 512) (dm pm keep : Bool)

theorem Sector.fill_v : bit (e.fill i data dm pm keep).v i = true := bit_setBit_self e.v i true
theorem Sector.fill_d : bit (e.fill i data dm pm keep).d i = (dm || pm || (keep && bit e.d i)) := bit_setBit_self e.d i _
theorem Sector.fill_p : bit (e.fill i data dm pm keep).p i = (pm || (keep && bit e.p i)) := bit_setBit_self e.p i _

theorem Sector.fill_data (hl : i < e.data.length) : ((e.fill i data dm pm keep).data[i]?).getD 0 = data := by
  show ((e.data.set i data)[i]?).getD 0 = data
  rw [List.getElem?_set_self hl]
  rfl

end

theorem Sys.sfGet_line {e : SfEnt} (h : s.sfGet n l = some e) : e.line = l := by
  simpa using List.find?_some h

theorem Sys.sfGet_deleted (h : (t.slice n).sf = (s.slice n).sf.filter (fun e => e.line ≠ l)) : t.sfGet n l = none := by
  unfold Sys.sfGet
  rw [h, List.find?_eq_none]
  intro e he
  simpa using (List.mem_filter.mp he).2

end

/-- Holders other than a core. -/
theorem holders_others (e : SfEnt) {r : Req} {h : Nat} (hw : r.who = .core h) :
    e.holders.filter (fun g => some g ≠ r.who.holder) = e.holders.filter (fun g => g ≠ .core h) := by
  rw [hw]
  refine List.filter_congr fun g _ => ?_
  simp [Source.holder]

/-- Settles O32: the snoops of an upgrade, the grants, BIND with its token and without, an offer and a drop. -/
theorem homeGrants : Obligations.HomeGrants := by
  unfold Obligations.HomeGrants
  refine ⟨?upgradeShared, ?upgradeNone, ?ownZero, ?bindOk, ?bindData, ?offer, ?cleanDrop⟩
  case upgradeShared =>
    intro s n h line b e hs he hst hb
    refine hs.snooping rfl rfl keepsReq_id fun r x hqq hk hl hw => ?_
    have hothers := holders_others e hw
    refine ⟨.inv, e.holders.filter (fun g => g ≠ .core h), ?_, fun t hm ht _ hframe => ⟨?_, ?_, hframe⟩⟩
    · unfold Sys.snoopsFor
      rw [hl, he]
      dsimp only
      rw [hk, hothers]
      dsimp only
      rw [others_shared hst h.isLt hb, if_neg Bool.false_ne_true]
    · rw [hqq]
      exact hm
    · rw [ht, hqq]
      rfl
  case upgradeNone =>
    intro s n h line b d p hs he hd
    exact hs.grants rfl rfl keepsReq_id rfl he hd nofun fun t g => ⟨g.msgs, g.entry, g.only⟩
  case ownZero =>
    intro s n h line b hs he
    refine hs.quiet rfl rfl keepsReq_id fun r x y hqq hk hl hw hroom hy _ => ?_
    have hnone : s.sys.snoopsFor n r = none := by
      unfold Sys.snoopsFor
      rw [hl]
      cases hg : s.sys.sfGet n line.toNat with
      | none => rfl
      | some e =>
        rw [hg] at he
        simp only [Option.all_some, Bool.and_eq_true, beq_iff_eq] at he
        dsimp only
        rw [hk, holders_others e hw, he.2]
        simp
    refine ⟨hnone, _, rfl, ?_⟩
    generalize hu : r.active b (s.sys.exElsewhere n r) [] = u at hy ⊢
    have hur : u.req = r := by rw [← hu]; rfl
    rw [M.access_ownZero (h := h) (by rw [hur]; exact hk) (by rw [hur]; exact hw) (by rw [← hu]; rfl) (by rw [hy.home.sf]; exact hroom), hur, hy.home.foreign, hl]
    have hbyte : u.byte = b := by rw [← hu]; rfl
    rw [hbyte]
    generalize he' : sfEx line.toNat (nget b 3 4) (s.sys.foreign line.toNat) (.core h) = e
    have hel : e.line = line.toNat := by rw [← he']; rfl
    have hchange : Sys.SliceChange n y.sys (y.sys.zeroed n line.toNat e) := ⟨y.sys.zeroed_frame n line.toNat e, by rw [Sys.slice_zeroed]⟩
    obtain ⟨hend, hslice, hmsgs, -⟩ := hy.changedPost (f := fun s => s.zeroed n line.toNat e) hchange (.grant h line.toNat (b / 8) true)
    rw [Sys.slice_zeroed] at hslice
    have hends := hend.slice.trans hslice
    refine ⟨.inl (congrArg Slice.txns hslice), ?_, ?_, ?_, ?_, ?_, hend.only⟩
    · rw [hqq]
      exact hend.msgs.trans hmsgs
    · exact Sys.sfGet_of_slice y.sys n line.toNat e (congrArg Slice.sf hends) hel
    · exact Sys.llcLine_cleared (s := y.sys) ((congrArg Slice.sectors hends).trans rfl)
    · refine (congrArg Slice.epoch hends).trans ?_
      show (y.sys.slice n).nextEpoch = _
      rw [Slice.nextEpoch, hy.home.epoch]
    · refine (congrArg Slice.resv hends).trans ?_
      rw [← hy.home.resv]
  case bindOk =>
    intro s n h line token b hs he htok
    refine hs.quiet rfl rfl keepsReq_id fun r x y hqq hk hl hw hroom hy _ => ?_
    rw [hqq] at htok
    have hnone : s.sys.snoopsFor n r = none := by
      unfold Sys.snoopsFor
      cases s.sys.sfGet n r.line with
      | none => rfl
      | some e =>
        dsimp only
        rw [hk]
        exact if_pos htok
    refine ⟨hnone, _, rfl, ?_⟩
    generalize hu : r.active b (s.sys.exElsewhere n r) [] = u at hy ⊢
    have hur : u.req = r := by rw [← hu]; rfl
    rw [M.access_bindOk (h := h) (by rw [hur]; exact hw) (by rw [← hu]; rfl) (by rw [hur]; exact hk) (by rw [hur, hy.home.tokenOk]; exact htok)
      (by rw [hy.home.sf]; exact hroom), hur, hl, hy.home.sfGet]
    generalize hf : (s.sys.sfGet n line.toNat).getD (sfShare line.toNat (nget u.byte 3 4) (y.sys.foreign line.toNat) []) = f
    have hfl : f.line = line.toNat := by
      rw [← hf]
      cases hg : s.sys.sfGet n line.toNat with
      | none => rfl
      | some e => exact Sys.sfGet_line hg
    obtain ⟨hst, htile, hline⟩ := f.share_core h.isLt
    generalize f.share (.core h) = e at hst htile hline
    have hchange : Sys.SliceChange n y.sys (y.sys.sfSet n e) := ⟨y.sys.sfSet_frame n e, by rw [Sys.slice_sfSet]⟩
    obtain ⟨hend, hslice, hmsgs, -⟩ := hy.changedPost (f := fun s => s.sfSet n e) hchange (.bindOk h line.toNat)
    rw [Sys.slice_sfSet] at hslice
    have hends := hend.slice.trans hslice
    refine ⟨.inl (congrArg Slice.txns hslice), ?_, ?_, ?_, hend.only⟩
    · rw [hqq]
      exact hend.msgs.trans hmsgs
    · rw [Sys.sfGet_of_slice y.sys n line.toNat e (congrArg Slice.sf hends) (hline.trans hfl), Option.map_some, hst, htile]
    · exact (congrArg Slice.epoch hends).trans hy.home.epoch
  case bindData =>
    intro s n h line token b d p hs he htok hd
    exact hs.grants rfl rfl keepsReq_id rfl he hd (fun _ => htok) fun t g => ⟨g.msgs, g.entry, g.only⟩
  case offer =>
    intro s n h line data dirty poison b hs hsec hsf
    refine hs.quiet rfl rfl keepsReq_id fun r x y hqq hk hl hw hroom hy _ => ?_
    rw [hqq]
    have hnone : s.sys.snoopsFor n r = none := by
      unfold Sys.snoopsFor
      cases s.sys.sfGet n r.line with
      | none => rfl
      | some e =>
        dsimp only
        rw [hk]
    refine ⟨hnone, _, rfl, ?_⟩
    generalize hu : r.active b (s.sys.exElsewhere n r) [] = u at hy ⊢
    have hur : u.req = r := by rw [← hu]; rfl
    obtain ⟨e, hsec, hdata⟩ := Option.map_eq_some_iff.mp hsec
    obtain ⟨hlen, hv⟩ := Prod.mk.inj hdata
    rw [M.access_offer (h := h) (e := e) (by rw [hur]; exact hw) (by rw [← hu]; rfl) (by rw [hur]; exact hk) (by rw [hur, hy.home.sector, hl]; exact hsec)
      (by rw [hur, hl]; exact hv), hur, hl, hy.home.sfGet]
    have hfq : (e.fill (line.toNat % 4) r.data r.dirty r.poison false).q = line.toNat / 4 := Sys.sector_q (e := e) hsec
    have hfv := e.fill_v (line.toNat % 4) r.data r.dirty r.poison false
    have hfd := e.fill_d (line.toNat % 4) r.data r.dirty r.poison false
    have hfp := e.fill_p (line.toNat % 4) r.data r.dirty r.poison false
    have hfdata := e.fill_data (line.toNat % 4) r.data r.dirty r.poison false (by rw [hlen]; exact Nat.mod_lt _ (by decide))
    generalize e.fill (line.toNat % 4) r.data r.dirty r.poison false = f at hfq hfv hfd hfp hfdata
    generalize hdrop : (s.sys.sfGet n line.toNat).any (fun e => e.heldBy h) = drop
    generalize hup : (r.dirty || r.poison) = up
    obtain ⟨hend, hslice, hmsgs, hstate⟩ := hy.changed (f := fun s => s.offered n line.toNat f up drop) (y.sys.offered_change n line.toNat f up drop)
    rw [Sys.slice_offered] at hslice
    have hends := hend.slice.trans hslice
    have hsector : ∀ t : State, s.Served n ((y.on (fun s => s.offered n line.toNat f up drop)).txnFree n u) serveParts t → t.sys.sector n line.toNat = some f := by
      intro t ht
      refine Sys.sector_head ?_ (congrArg Slice.sectors (ht.slice.trans hslice)) hfq
      rw [Sys.llcUp_of_state (ht.state.trans hstate)]
      exact Sys.llcUp_of_sector hsec
    refine ⟨.inl (congrArg Slice.txns hslice), ?_, ?_, ?_, ?_, ?_, ?_, hend.only⟩
    · cases hg : s.sys.sfGet n line.toNat with
      | none =>
        rw [hg] at hdrop
        subst hdrop
        unfold Sys.sfGet at hg ⊢
        rw [hends]
        simpa [hy.home.sf] using hg
      | some e' =>
        rw [hg] at hsf hdrop
        have hown : drop = true := by
          rw [← hdrop]
          simpa [SfEnt.heldBy] using hsf
        subst hown
        exact Sys.sfGet_deleted (s := y.sys) (congrArg Slice.sf hends)
    · rw [Sys.llcLine_sector (hsector _ hend) hfv, hfdata, hfp]
      simp
    · rw [hsector _ hend, Option.map_some, hfd]
      simp [← hup]
    · exact hend.msgs.trans hmsgs
    · exact congrArg Slice.txns hends
    · refine (congrArg Slice.epoch hends).trans ?_
      rw [← hup]
      show (if _ then (y.sys.slice n).nextEpoch else (y.sys.slice n).epoch) = _
      rw [Slice.nextEpoch, hy.home.epoch]
  case cleanDrop =>
    intro s n h line b hs
    refine hs.quiet rfl rfl keepsReq_id fun r x y hqq hk hl hw hroom hy _ => ?_
    have hnone : s.sys.snoopsFor n r = none := by
      unfold Sys.snoopsFor
      cases s.sys.sfGet n r.line with
      | none => rfl
      | some e =>
        dsimp only
        rw [hk]
    refine ⟨hnone, _, rfl, ?_⟩
    generalize hu : r.active b (s.sys.exElsewhere n r) [] = u at hy ⊢
    have hur : u.req = r := by rw [← hu]; rfl
    rw [M.access_cleanDrop (h := h) (by rw [hur]; exact hw) (by rw [← hu]; rfl) (by rw [hur]; exact hk), hur, hl, hy.home.sfGet]
    generalize hdrop : (s.sys.sfGet n line.toNat).any (fun e => e.heldBy h) = drop
    obtain ⟨hend, hslice, hmsgs, -⟩ := hy.changed (f := fun s => s.when drop (fun s => s.sfDel n line.toNat)) (y.sys.dropped_change n line.toNat drop)
    have hends := hend.slice.trans hslice
    refine ⟨.inl (congrArg Slice.txns hslice), ?_, congrArg Slice.txns hends, ?_, ?_, hend.only⟩
    · have hsf : ((s.after (((y.on (fun s => s.when drop (fun s => s.sfDel n line.toNat))).txnFree n u).on (fun s => s.showHa n))).sys.slice n).sf =
          (if drop then (s.sys.slice n).sf.filter (fun f => f.line ≠ line.toNat) else (s.sys.slice n).sf) := by
        rw [hends, ← hy.home.sf]
        cases drop with
        | false => rfl
        | true => rw [Sys.when_true, Sys.slice_sfDel]; rfl
      rw [hsf, ← hdrop]
      cases s.sys.sfGet n line.toNat with
      | none => rfl
      | some e => simp [SfEnt.heldBy]
    · rw [hends, ← hy.home.epoch]
      cases drop with
      | false => rfl
      | true => rw [Sys.when_true, Sys.slice_sfDel]
    · rw [hqq]
      exact hend.msgs.trans hmsgs

end Sys2Proof.Machine
end

section
/-!
SUPPORT. Maintenance requests at a home agent, and the writes of a line to its channel (R270, R300, R335).
-/
namespace Sys2Proof.Machine

/-! ## Changes of a slice -/

/-- An event of R310 of a line, after which no reservation of it stands. -/
def Sys.eventAt (s : Sys) (n l : Nat) : Sys := (s.epochUp n l).clearResv n l

/-- A line is gone from its slice: neither data nor an entry (R270). -/
def Sys.purged (s : Sys) (n l : Nat) : Sys := ((s.eventAt n l).llcClear n l).sfDel n l

/-- A sector in which a line is valid, clean there, with the data that memory takes. -/
def Sector.washed (l : Nat) (data : BitVec 512) (e : Sector) : Sector :=
  if e.q = l / 4 ∧ bit e.v (l % 4) then
    { e with
        data := e.data.set (l % 4) data
        d := setBit e.d (l % 4) false
        p := setBit e.p (l % 4) false }
  else e

theorem Sector.washed_q (l : Nat) (data : BitVec 512) (e : Sector) : (e.washed l data).q = e.q := by
  unfold Sector.washed
  split <;> rfl

theorem Sector.washed_self {l : Nat} {data : BitVec 512} {e : Sector} (hq : e.q = l / 4) (hv : bit e.v (l % 4) = true) : e.washed l data =
    { e with
        data := e.data.set (l % 4) data
        d := setBit e.d (l % 4) false
        p := setBit e.p (l % 4) false } := if_pos ⟨hq, hv⟩

/-- A line's sub-block that is valid becomes clean. -/
def Sys.cleaned (s : Sys) (n l : Nat) (data : BitVec 512) : Sys := s.onSlice n (fun z => { z with sectors := z.sectors.map (Sector.washed l data) })

section
variable (s : Sys) (n l : Nat)

theorem Sys.slice_eventAt : (s.eventAt n l).slice n = { s.slice n with
    epoch := (s.slice n).nextEpoch
    session := if (s.slice n).nextEpoch = 0 then ((s.slice n).session + 1) % 256 else (s.slice n).session
    buckets := Bank.set (s.slice n).buckets (bucketOf l) (s.slice n).nextEpoch
    resv := (s.slice n).resv.filter (fun p => p.2 ≠ l) } := by
  unfold Sys.eventAt
  rw [Sys.slice_clearResv, Sys.slice_epochUp]

theorem Sys.eventAt_frame {but : RK → Bool} {parts : List Part} : Sys.FrameSlice n s (s.eventAt n l) but parts :=
  Sys.FrameAt.trans (s.epochUp_frame n l) (Sys.clearResv_frame _ n l)

theorem Sys.slice_purged : (s.purged n l).slice n = { (s.eventAt n l).slice n with
    sectors := (((s.eventAt n l).llcClear n l).slice n).sectors
    sf := (s.slice n).sf.filter (fun e => e.line ≠ l) } := by
  unfold Sys.purged
  rw [Sys.slice_sfDel, Sys.slice_llcClear, Sys.slice_eventAt]

theorem Sys.purged_change : Sys.SliceChange n s (s.purged n l) where
  frame := Sys.FrameAt.trans (Sys.FrameAt.trans (s.eventAt_frame n l) (Sys.llcClear_frame _ n l)) (Sys.sfDel_frame _ n l)
  txns := by rw [Sys.slice_purged, Sys.slice_eventAt]

theorem Sys.slice_cleaned (d : BitVec 512) : (s.cleaned n l d).slice n = { s.slice n with sectors := ((s.cleaned n l d).slice n).sectors } := by
  unfold Sys.cleaned
  rw [Sys.slice_onSlice_self]

theorem Sys.cleanedAt_change (d : BitVec 512) : Sys.SliceChange n s ((s.eventAt n l).cleaned n l d) where
  frame := Sys.FrameAt.trans (s.eventAt_frame n l) (Sys.FrameSlice.onSlice _ _)
  txns := by rw [Sys.slice_cleaned, Sys.slice_eventAt]

end

/-! ## A write to a channel -/

/-- A line is on its way to a channel's controller. -/
def Sys.writeSent (s : Sys) (m n l : Nat) (data : BitVec 512) (poison : Bool) : Sys := s.onChan m (fun ch => { ch with mwr := ch.mwr ++ [⟨l, n, data, poison⟩] })

theorem M.sendWrite_located {x : M} {n l m ca : Nat} (d : BitVec 512) (p : Bool) (h : x.sys.conf.locate (64 * l) = some (m, ca, false)) :
    x.sendWrite n l d p = x.on (fun s => s.writeSent m n l d p) := by
  unfold M.sendWrite
  rw [h]
  rfl

/-- A transaction waits for its write's acceptance. -/
def M.awaits (x : M) (n : Nat) (u v : Txn) : M := x.on (fun s => s.onSlice n (fun z => { z with txns := z.txns.map (fun w => if w = u then v else w) }))

/-- What a request leaves whose line goes to a channel. -/
structure State.Sent (s : State) (x : M) (n l m : Nat) (us : List Txn) (data : BitVec 512) (poison : Bool) (y : Sys) (z : M) (t : State) : Prop where
  served : s.Served n z (.chans :: serveParts) t
  slice : z.sys.slice n = { y.slice n with txns := us }
  msgs : t.sys.msgs = x.sys.msgs
  mwr : (t.sys.chan m).mwr = (s.sys.chan m).mwr ++ [⟨l, n, data, poison⟩]
  others : ∀ c, c ≠ m → t.sys.chan c = s.sys.chan c
  state : z.sys.slState n = s.sys.slState n

theorem State.Serving.sent {s : State} {x y : M} {n l m ca : Nat} {u : Txn} {f : Sys → Sys} (hy : s.Serving x n [u] y) (hf : Sys.SliceChange n y.sys (f y.sys))
    (hloc : s.sys.conf.locate (64 * l) = some (m, ca, false)) (d : BitVec 512) (p : Bool) (v : Txn) :
    s.Sent x n l m [v] d p (f y.sys) (((y.on f).sendWrite n l d p).awaits n u v)
      (s.after ((((y.on f).sendWrite n l d p).awaits n u v).on (fun s => s.showHa n))) := by
  have hconf : (y.on f).sys.conf = s.sys.conf := (show (f y.sys).conf = y.sys.conf from hf.frame.1.2 .conf rfl).trans hy.home.conf
  rw [M.sendWrite_located d p (by rw [hconf]; exact hloc)]
  have hsent : Sys.FrameSlice n (f y.sys) ((f y.sys).writeSent m n l d p) (serveReg n) (.chans :: serveParts) :=
    Sys.FrameSlice.of_frame (.set_chans _ _ rfl) rfl
  have hwait : Sys.FrameSlice n ((f y.sys).writeSent m n l d p) (((y.on f).on (fun s => s.writeSent m n l d p)).awaits n u v).sys (serveReg n)
      (.chans :: serveParts) := Sys.FrameSlice.onSlice _ _
  have hframe := (hf.frame.mono (but' := serveReg n) (parts' := .chans :: serveParts) nofun (List.nil_subset _)).trans (hsent.trans hwait)
  have hslice : (((y.on f).on (fun s => s.writeSent m n l d p)).awaits n u v).sys.slice n = { (f y.sys).slice n with txns := [v] } := by
    refine (Sys.slice_onSlice_self _ n _).trans ?_
    have htx : (((f y.sys).writeSent m n l d p).slice n).txns = [u] := hf.txns.trans hy.txns
    have hmap : (((f y.sys).writeSent m n l d p).slice n).txns.map (fun w => if w = u then v else w) = [v] := by
      rw [htx]
      simp
    exact congrArg (fun us => { (f y.sys).slice n with txns := us }) hmap
  have hmsgs : (((y.on f).on (fun s => s.writeSent m n l d p)).awaits n u v).sys.msgs = x.sys.msgs :=
    (show (f y.sys).msgs = y.sys.msgs from hf.frame.1.2 .msgs rfl).trans hy.msgs
  have hstate : (((y.on f).on (fun s => s.writeSent m n l d p)).awaits n u v).sys.slState n = s.sys.slState n :=
    (hf.frame.1.rf F.TILE_SLICE_STATUS_STATE n 0 rfl).trans hy.home.slState
  have hchan : (((y.on f).on (fun s => s.writeSent m n l d p)).awaits n u v).sys.chan = ((f y.sys).writeSent m n l d p).chan := rfl
  have hfchan : (f y.sys).chan = s.sys.chan := (Sys.chan_of_chans (hf.frame.1.2 .chans rfl)).trans (Sys.chan_of_chans (hy.frame.1.2 .chans rfl))
  generalize hz : ((y.on f).on (fun s => s.writeSent m n l d p)).awaits n u v = z at hframe hslice hmsgs hstate hchan ⊢
  have hops : z.ops = y.ops := by rw [← hz]; rfl
  have hend := hy.served (z := z) hops hframe (List.subset_cons_self _ _)
  refine ⟨hend, hslice, hend.msgs.trans hmsgs, ?_, fun c hc => ?_, hstate⟩
  · rw [hend.chan, hchan]
    unfold Sys.writeSent
    rw [Sys.chan_onChan_self, hfchan]
  · rw [hend.chan, hchan]
    unfold Sys.writeSent
    rw [Sys.chan_onChan_other _ _ _ hc, hfchan]

/-! ## Accesses -/

/-- The LLC's data of a line that is dirty there. -/
def Sys.dirtyLine (s : Sys) (n l : Nat) : Option (BitVec 512 × Bool) :=
  match s.sector n l with
  | some e => if bit e.d (l % 4) then some ((e.data[l % 4]?).getD 0, bit e.p (l % 4)) else none
  | none => none

theorem Sys.dirtyLine_some {s : Sys} {n l : Nat} {d : BitVec 512} {p : Bool} (h : s.dirtyLine n l = some (d, p)) :
    ∃ e, s.sector n l = some e ∧ bit e.d (l % 4) = true ∧ (e.data[l % 4]?).getD 0 = d ∧ bit e.p (l % 4) = p := by
  unfold Sys.dirtyLine at h
  cases hs : s.sector n l with
  | none =>
    rw [hs] at h
    cases h
  | some e =>
    rw [hs] at h
    dsimp only at h
    by_cases hb : bit e.d (l % 4) = true
    · rw [if_pos hb] at h
      obtain ⟨h1, h2⟩ := Prod.mk.inj (Option.some.inj h)
      exact ⟨e, rfl, hb, h1, h2⟩
    · rw [if_neg hb] at h
      cases h

theorem Sys.dirtyLine_of_sector {s : Sys} {n l : Nat} {e : Sector} (h : s.sector n l = some e) (hb : bit e.d (l % 4) = true) :
    s.dirtyLine n l = some ((e.data[l % 4]?).getD 0, bit e.p (l % 4)) := by
  unfold Sys.dirtyLine
  rw [h]
  exact if_pos hb

theorem Sys.dirtyLine_none {s : Sys} {n l : Nat} (h : (s.sector n l).all (fun e => !bit e.d (l % 4)) = true) : s.dirtyLine n l = none := by
  unfold Sys.dirtyLine
  cases hs : s.sector n l with
  | none => rfl
  | some e =>
    rw [hs] at h
    exact if_neg (by simpa using h)

theorem Sys.SameHome.dirtyLine {s y : Sys} {n : Nat} (h : s.SameHome n y) (l : Nat) : y.dirtyLine n l = s.dirtyLine n l := by
  unfold Sys.dirtyLine
  rw [h.sector]

/-- A transaction that waits for memory to take its line. -/
def Txn.toWrite (u : Txn) (g : Option (BitVec 512 × Bool)) : Txn := { u with st := .writing, got := g }

section
variable {y : M} {n : Nat} {u : Txn} (hg : u.got = none)
include hg

theorem M.access_cmoCheck (hk : u.req.kind = .cmoCheck) : y.access n u = (y.txnFree n u).post (u.req.doneMsg false 0) := by
  unfold M.access
  rw [hg]
  dsimp only
  rw [hk]

theorem M.access_cmoInval (hk : u.req.kind = .cmoInval) :
    y.access n u = ((y.on (fun s => s.purged n u.req.line)).txnFree n u).post (u.req.doneMsg false 0) := by
  unfold M.access
  rw [hg]
  dsimp only
  rw [hk]
  exact (if_pos (by decide)).trans rfl

variable (hd : u.req.dirty = false)
include hd

theorem M.access_cmoFlush (hk : u.req.kind = .cmoFlush) : y.access n u =
    match y.sys.dirtyLine n u.req.line with
    | some (d, p) =>
      if ((y.on (fun s => s.purged n u.req.line)).sendWrite n u.req.line d p).sys.conf.locate (64 * u.req.line) |>.isSome then
        ((y.on (fun s => s.purged n u.req.line)).sendWrite n u.req.line d p).awaits n u (u.toWrite none)
      else (((y.on (fun s => s.purged n u.req.line)).sendWrite n u.req.line d p).txnFree n u).post (u.req.doneMsg false 0)
    | none => ((y.on (fun s => s.purged n u.req.line)).txnFree n u).post (u.req.doneMsg false 0) := by
  unfold M.access
  rw [hg]
  dsimp only
  rw [hk, hd]
  exact (if_neg (by decide)).trans rfl

theorem M.access_cmoClean (hk : u.req.kind = .cmoClean) {d : BitVec 512} {p : Bool} (hdl : y.sys.dirtyLine n u.req.line = some (d, p)) : y.access n u =
    if ((y.on (fun s => (s.eventAt n u.req.line).cleaned n u.req.line d)).sendWrite n u.req.line d p).sys.conf.locate (64 * u.req.line) |>.isSome then
      ((y.on (fun s => (s.eventAt n u.req.line).cleaned n u.req.line d)).sendWrite n u.req.line d p).awaits n u (u.toWrite none)
    else (((y.on (fun s => (s.eventAt n u.req.line).cleaned n u.req.line d)).sendWrite n u.req.line d p).txnFree n u).post (u.req.doneMsg false 0) := by
  obtain ⟨e, hs, hb, rfl, rfl⟩ := Sys.dirtyLine_some hdl
  unfold M.access
  rw [hg]
  dsimp only
  rw [hk, hd, hs]
  dsimp only
  simp only [hb, if_true, Bool.false_eq_true, if_false, Option.none_or]
  exact (if_neg (by decide)).trans rfl

end

end Sys2Proof.Machine
end

section
/-!
PROOFS. Maintenance and non-allocating writes at a home slice (O33).
-/
namespace Sys2Proof.Machine

/-! ## Writes of a line -/

theorem Sys.sector_of_sectors {s t : Sys} {n : Nat} (hs : t.slState n = s.slState n) (h : (t.slice n).sectors = (s.slice n).sectors) (l : Nat) :
    t.sector n l = s.sector n l := by
  unfold Sys.sector
  rw [Sys.llcUp_of_state hs, h]

theorem Sys.llcLine_of_sectors {s t : Sys} {n : Nat} (hs : t.slState n = s.slState n) (h : (t.slice n).sectors = (s.slice n).sectors) (l : Nat) :
    t.llcLine n l = s.llcLine n l := by
  unfold Sys.llcLine
  rw [Sys.sector_of_sectors hs h]

theorem Sys.sector_of_llcLine {s : Sys} {n l : Nat} {d : BitVec 512} {p : Bool} (h : s.llcLine n l = some (d, p)) :
    ∃ e, s.sector n l = some e ∧ bit e.v (l % 4) = true ∧ (e.data[l % 4]?).getD 0 = d ∧ bit e.p (l % 4) = p := by
  unfold Sys.llcLine at h
  cases hs : s.sector n l with
  | none =>
    rw [hs] at h
    cases h
  | some e =>
    rw [hs] at h
    dsimp only at h
    by_cases hb : bit e.v (l % 4) = true
    · rw [if_pos hb] at h
      obtain ⟨h1, h2⟩ := Prod.mk.inj (Option.some.inj h)
      exact ⟨e, rfl, hb, h1, h2⟩
    · rw [if_neg hb] at h
      cases h

/-- No holder is left of a line that is written, and no reservation (R300, R305). -/
def Sys.unheld (s : Sys) (n l : Nat) : Sys := (s.sfDel n l).eventAt n l

/-- A sector takes the data of a line that lies in it. -/
def Sector.takes (l : Nat) (data : BitVec 512) (poison : Bool) (e : Sector) : Sector := if e.q = l / 4 then e.fill (l % 4) data true poison false else e

/-- A line's data goes into its sub-block. -/
def Sys.filled (s : Sys) (n l : Nat) (data : BitVec 512) (poison : Bool) : Sys :=
  s.onSlice n (fun t => { t with sectors := t.sectors.map (Sector.takes l data poison) })

section
variable (s : Sys) (n l : Nat)

theorem Sys.slice_unheld : (s.unheld n l).slice n = { s.slice n with
    sf := (s.slice n).sf.filter (fun e => e.line ≠ l)
    epoch := (s.slice n).nextEpoch
    session := if (s.slice n).nextEpoch = 0 then ((s.slice n).session + 1) % 256 else (s.slice n).session
    buckets := Bank.set (s.slice n).buckets (bucketOf l) (s.slice n).nextEpoch
    resv := (s.slice n).resv.filter (fun p => p.2 ≠ l) } := by
  unfold Sys.unheld
  rw [Sys.slice_eventAt, Sys.slice_sfDel]
  rfl

theorem Sys.unheld_frame {but : RK → Bool} {parts : List Part} : Sys.FrameSlice n s (s.unheld n l) but parts :=
  Sys.FrameAt.trans (s.sfDel_frame n l) (Sys.eventAt_frame _ n l)

theorem Sys.sectors_unheld : ((s.unheld n l).slice n).sectors = (s.slice n).sectors := by rw [Sys.slice_unheld]

theorem Sys.sector_unheld (k : Nat) : (s.unheld n l).sector n k = s.sector n k := Sys.sector_of_sectors (s := s) (t := s.unheld n l) (n := n) rfl (s.sectors_unheld n l) k
theorem Sys.llcLine_unheld (k : Nat) : (s.unheld n l).llcLine n k = s.llcLine n k := Sys.llcLine_of_sectors (s := s) (t := s.unheld n l) (n := n) rfl (s.sectors_unheld n l) k

variable (d : BitVec 512) (p : Bool)

theorem Sys.slice_filled : (s.filled n l d p).slice n = { s.slice n with sectors := (s.slice n).sectors.map (Sector.takes l d p) } := Sys.slice_onSlice_self ..

theorem Sector.takes_q (e : Sector) : (e.takes l d p).q = e.q := by
  unfold Sector.takes
  split <;> rfl

theorem Sys.sector_filled (t : Sys) (hs : t.slState n = s.slState n) (ht : (t.slice n).sectors = (s.slice n).sectors.map (Sector.takes l d p)) {e : Sector}
    (he : s.sector n l = some e) : t.sector n l = some (e.fill (l % 4) d true p false) := by
  rw [Sys.sector_map hs _ (Sector.takes_q l d p) ht, he, Option.map_some]
  exact congrArg some (if_pos (Sys.sector_q he))

theorem Sys.filledAt_change : Sys.SliceChange n s ((s.unheld n l).filled n l d p) where
  frame := Sys.FrameAt.trans (s.unheld_frame n l) (Sys.FrameSlice.onSlice _ _)
  txns := by rw [Sys.slice_filled, Sys.slice_unheld]

theorem Sys.clearedAt_change : Sys.SliceChange n s ((s.unheld n l).llcClear n l) where
  frame := Sys.FrameAt.trans (s.unheld_frame n l) (Sys.llcClear_frame _ n l)
  txns := by rw [Sys.slice_llcClear, Sys.slice_unheld]

end

section
variable {y : M} {n : Nat} {u : Txn} {d : BitVec 512} {p : Bool}

/-- A write of part of a line that the LLC has goes into the sub-block. -/
theorem M.writeTxn_part (hm : u.req.mask ≠ BitVec.allOnes 64) (hd : (y.sys.llcLine n u.req.line).isSome = true) : y.writeTxn n u d p =
    ((y.on (fun s => (s.unheld n u.req.line).filled n u.req.line (u.req.written d p).1 (u.req.written d p).2.1)).txnFree n u).post
      (u.req.doneMsg false (u.req.written d p).2.2) := by
  obtain ⟨⟨d0, p0⟩, hd⟩ := Option.isSome_iff_exists.mp hd
  obtain ⟨e, he, -⟩ := Sys.sector_of_llcLine hd
  generalize hx : y.on (fun s => s.unheld n u.req.line) = x
  have hline : (x.sys.llcLine n u.req.line).isSome = true := by
    rw [← hx, M.sys_on, Sys.llcLine_unheld, hd]
    rfl
  have hsec : (x.sys.sector n u.req.line).isSome = true := by
    rw [← hx, M.sys_on, Sys.sector_unheld, he]
    rfl
  have hwhole : (u.req.mask == BitVec.allOnes 64) = false := beq_eq_false_iff_ne.mpr hm
  have hback : x.writeBack n u.req.line (u.req.written d p).1 (u.req.written d p).2.1 =
      y.on (fun s => (s.unheld n u.req.line).filled n u.req.line (u.req.written d p).1 (u.req.written d p).2.1) := by
    unfold M.writeBack
    rw [if_pos hsec, ← hx]
    rfl
  unfold M.writeTxn
  dsimp only
  rw [hwhole, Bool.false_and, if_neg Bool.false_ne_true, show y.on (fun s => ((s.sfDel n u.req.line).epochUp n u.req.line).clearResv n u.req.line) = x from hx,
    if_pos hline, hback]

/-- A core's write of a whole line clears the sub-block and goes to the line's channel. -/
theorem M.writeTxn_whole (hm : u.req.mask = BitVec.allOnes 64) (hw : u.req.who.device = false) (hloc : (y.sys.conf.locate (64 * u.req.line)).isSome = true) :
    y.writeTxn n u d p = ((y.on (fun s => (s.unheld n u.req.line).llcClear n u.req.line)).sendWrite n u.req.line (u.req.written d p).1 (u.req.written d p).2.1).awaits n u
      (u.toWrite (some (BitVec.ofNat 512 (u.req.written d p).2.2, false))) := by
  have hnone : ((y.on (fun s => (s.unheld n u.req.line).llcClear n u.req.line)).sys.llcLine n u.req.line).isSome = false := by
    rw [M.sys_on, Sys.llcLine_cleared (s := y.sys.unheld n u.req.line) rfl]
    rfl
  unfold M.writeTxn
  dsimp only
  rw [hm, hw]
  rw [beq_self_eq_true, Bool.true_and, show (!false) = true from rfl]
  rw [if_pos (rfl : true = true)]
  exact (if_neg fun h => Bool.false_ne_true (hnone.symm.trans h)).trans (if_pos hloc)

variable (hg : u.got = none)
include hg

theorem M.access_write (hk : u.req.kind = .ncWr ∨ u.req.kind = .devWr ∨ u.req.kind = .ncAmo) (hn : y.sys.needsData n u.req = true)
    (hd : y.sys.llcLine n u.req.line = some (d, p)) : y.access n u = y.writeTxn n u d p := by
  have hwith : y.withData n u d p false false = y.writeTxn n u d p := M.withData_write (by rcases hk with h | h | h <;> rw [h] <;> rfl) false false
  have hlr : (u.req.kind == ReqKind.ncLr) = false := by rcases hk with h | h | h <;> rw [h] <;> rfl
  rw [← hwith]
  unfold M.access
  rw [hg]
  dsimp only
  rw [hlr]
  rcases hk with h | h | h <;> rw [h] <;> dsimp only <;> rw [if_neg Bool.false_ne_true, hn, if_pos rfl, hd] <;> rfl

theorem M.access_whole (hk : u.req.kind = .ncWr) (hm : u.req.mask = BitVec.allOnes 64) : y.access n u = y.writeTxn n u 0 false := by
  have hn : y.sys.needsData n u.req = false := by
    unfold Sys.needsData
    rw [hk, hm]
    rfl
  unfold M.access
  rw [hg]
  dsimp only
  rw [hk, show (ReqKind.ncWr == ReqKind.ncLr) = false from rfl]
  dsimp only
  rw [if_neg Bool.false_ne_true, hn]
  rfl

variable {h : Nat} (hw : u.req.who = .core h) (hk : u.req.kind = .ncSc)
include hw hk

theorem M.access_sc (hr : (y.sys.slice n).resv.contains (h, u.req.line) = true) (hd : y.sys.llcLine n u.req.line = some (d, p)) :
    y.access n u = y.writeTxn n u d p := by
  unfold M.access
  rw [hg]
  dsimp only
  rw [hk, hw]
  dsimp only
  rw [hr, hd]
  rfl

/-- The reservations of a core are gone. -/
def Sys.released (s : Sys) (n h : Nat) : Sys := s.onSlice n (fun z => { z with resv := z.resv.filter (fun p => p.1 ≠ h) })

theorem M.access_scFails (hr : (y.sys.slice n).resv.contains (h, u.req.line) = false) :
    y.access n u = ((y.on (fun s => s.released n h)).txnFree n u).post (u.req.doneMsg false 1) := by
  unfold M.access
  rw [hg]
  dsimp only
  rw [hk, hw]
  dsimp only
  rw [hr]
  rfl

end

/-! ## Commands that write -/

section
variable {s : State} {c : Instr} {n : Fin 64} {b : Nat} {w : ReqSrc} {mk : Req → Req} {kind : ReqKind} {line : Line} {d : BitVec 512} {p : Bool}

/-- What a write leaves that went into the LLC. -/
structure State.Written (s : State) (c : Instr) (n l : Nat) (d : BitVec 512) (p : Bool) (t : State) : Prop where
  line : t.sys.llcLine n l = some (((s.asked c).1.written d p).1, ((s.asked c).1.written d p).2.1)
  dirty : (t.sys.sector n l).map (fun f => bit f.d (l % 4)) = some true
  msgs : t.sys.msgs = (s.asked c).2.sys.msgs ++ [(s.asked c).1.doneMsg false ((s.asked c).1.written d p).2.2]
  epoch : (t.sys.slice n).epoch = ((s.sys.slice n).epoch + 1) % 2 ^ 48
  resv : (t.sys.slice n).resv = (s.sys.slice n).resv.filter (fun q => q.2 ≠ l)
  only : s.OnlySlice t n (serveReg n) serveParts

/-- A request that writes part of a line that has no entry and that the LLC holds. -/
theorem State.Serves.writes (hs : s.Serves c n b) (hc : exec c s = onM (fun x => x.arrive n w mk kind line) s)
    (ha : s.asked c = s.ctx.arriving n w mk kind line) (hmk : ∀ q : Req, (mk q).kind = q.kind ∧ (mk q).line = q.line ∧ (mk q).who = q.who)
    (he : s.sys.sfGet n line.toNat = none) (hd : s.sys.llcLine n line.toNat = some (d, p)) (hm : (s.asked c).1.mask ≠ BitVec.allOnes 64)
    (hlen : (s.sys.sector n line.toNat).all (fun e => e.data.length == 4) = true)
    (hacc : ∀ (y : M) (u : Txn), u.req = (s.asked c).1 → u.req.kind = kind → u.req.line = line.toNat → u.req.who = (s.sys.srcOf w).1 → u.got = none →
      s.sys.SameHome n y.sys → y.access n u = y.writeTxn n u d p) {q : State → Prop}
    (hq : ∀ t, (s.asked c).1.kind = kind → s.Written c n line.toNat d p t → q t) : Completes c s q := by
  refine hs.quiet hc ha hmk fun r x y hqq hk hl hw _ hy _ => ?_
  refine ⟨Sys.snoopsFor_none (by rw [hl]; exact he), _, rfl, ?_⟩
  generalize hu : r.active b (s.sys.exElsewhere n r) [] = u at hy ⊢
  have hur : u.req = r := by rw [← hu]; rfl
  have hra : (s.asked c).1 = r := by rw [hqq]
  rw [hacc y u (hur.trans hra.symm) (by rw [hur]; exact hk) (by rw [hur]; exact hl) (by rw [hur]; exact hw) (by rw [← hu]; rfl) hy.home]
  have hyd : y.sys.llcLine n u.req.line = some (d, p) := by rw [hy.home.llcLine, hur, hl, hd]
  rw [M.writeTxn_part (by rw [hur, ← hra]; exact hm) (by rw [hyd]; rfl), hur, hl]
  obtain ⟨hend, hslice, hmsgs, hstate⟩ := hy.changedPost (f := fun s => (s.unheld n line.toNat).filled n line.toNat (r.written d p).1 (r.written d p).2.1)
    (y.sys.filledAt_change n line.toNat _ _) (r.doneMsg false (r.written d p).2.2)
  rw [Sys.slice_filled, Sys.slice_unheld] at hslice
  have hends := hend.slice.trans hslice
  obtain ⟨e, hsec, -⟩ := Sys.sector_of_llcLine hd
  have hlen4 : e.data.length = 4 := by
    rw [hsec] at hlen
    simpa using hlen
  have hsector := Sys.sector_filled s.sys n line.toNat (r.written d p).1 (r.written d p).2.1 _ (hend.state.trans hstate)
    ((congrArg Slice.sectors hends).trans (congrArg (List.map _) hy.home.sectors)) hsec
  refine ⟨.inl (congrArg Slice.txns hslice), hq _ (hra ▸ hk) ⟨?_, ?_, ?_, ?_, ?_, hend.only⟩⟩
  · rw [Sys.llcLine_sector hsector (Sector.fill_v ..), Sector.fill_data _ _ _ _ _ _ (by rw [hlen4]; exact Nat.mod_lt _ (by decide)), Sector.fill_p, hra]
    simp
  · rw [hsector, Option.map_some, Sector.fill_d]
    rfl
  · rw [hqq]
    exact hend.msgs.trans hmsgs
  · refine (congrArg Slice.epoch hends).trans ?_
    show (y.sys.slice n).nextEpoch = _
    rw [Slice.nextEpoch, hy.home.epoch]
  · refine (congrArg Slice.resv hends).trans ?_
    rw [← hy.home.resv]

/-- A write's bytes over the line's. -/
theorem Req.written_merge {r : Req} (hk : r.kind ≠ .ncAmo) : (r.written d p).1 = mergeLine d r.data r.mask ∧ (r.written d p).2.2 = 0 := by
  unfold Req.written
  dsimp only
  split
  · next h => exact absurd h hk
  · exact ⟨rfl, rfl⟩

theorem Req.written_amo {r : Req} (hk : r.kind = .ncAmo) : (r.written d p).2.1 = p := by
  unfold Req.written
  dsimp only
  rw [hk]

theorem Sys.needsData_part {s : Sys} {r : Req} (hk : r.kind = .ncWr ∨ r.kind = .devWr) (hm : r.mask ≠ BitVec.allOnes 64) : s.needsData n r = true := by
  have hne : (r.mask != BitVec.allOnes 64) = true := bne_iff_ne.mpr hm
  unfold Sys.needsData
  rcases hk with h | h <;> rw [h] <;> exact hne

end

theorem Sys.snoopsFor_check {s : Sys} {n : Nat} {r : Req} (hk : r.kind = .cmoCheck) : s.snoopsFor n r = none := by
  unfold Sys.snoopsFor
  cases s.sfGet n r.line with
  | none => rfl
  | some e =>
    dsimp only
    rw [hk]

theorem Sys.snoopsFor_sc {s : Sys} {n h : Nat} {r : Req} (hk : r.kind = .ncSc) (hw : r.who = .core h) (hr : (s.slice n).resv.contains (h, r.line) = false) :
    s.snoopsFor n r = none := by
  unfold Sys.snoopsFor
  cases s.sfGet n r.line with
  | none => rfl
  | some e =>
    dsimp only
    rw [hk]
    refine if_neg fun hany => ?_
    obtain ⟨q, hq, hdec⟩ := List.any_eq_true.mp hany
    obtain ⟨h1, h2⟩ := of_decide_eq_true hdec
    rw [hw] at h1
    have hqe : q = (h, r.line) := Prod.ext (Source.core.inj h1).symm h2
    rw [hqe] at hq
    exact Bool.false_ne_true (hr.symm.trans (List.contains_iff_mem.mpr hq))

/-- Settles O33: maintenance, and the writes of a part and of the whole of a line. -/
theorem homeWrites : Obligations.HomeWrites := by
  unfold Obligations.HomeWrites
  refine ⟨?check, ?inval, ?flushDirty, ?flushClean, ?clean, ?part, ?whole, ?device, ?amo, ?sc, ?scFails⟩
  case check =>
    intro s n w line b hs
    refine hs.quiet rfl rfl keepsReq_id fun r x y hqq hk hl hw _ hy _ => ?_
    refine ⟨Sys.snoopsFor_check hk, _, rfl, ?_⟩
    generalize hu : r.active b (s.sys.exElsewhere n r) [] = u at hy ⊢
    have hur : u.req = r := by rw [← hu]; rfl
    rw [M.access_cmoCheck (by rw [← hu]; rfl) (by rw [hur]; exact hk), hur, hqq]
    obtain ⟨hend, -⟩ := hy.free.read r true (r.doneMsg false 0) hqq
    refine ⟨.inl ((congrArg Slice.txns (hy.free.answered r true _).2.1).trans hy.free.txns), ?_, hend.sf, hend.sectors, hend.epoch, hend.only⟩
    have hm := hend.msgs
    rw [hqq] at hm
    exact hm
  case inval =>
    intro s n w line b hs he
    refine hs.quiet rfl rfl keepsReq_id fun r x y hqq hk hl hw _ hy _ => ?_
    refine ⟨Sys.snoopsFor_none (by rw [hl]; exact he), _, rfl, ?_⟩
    generalize hu : r.active b (s.sys.exElsewhere n r) [] = u at hy ⊢
    have hur : u.req = r := by rw [← hu]; rfl
    rw [M.access_cmoInval (by rw [← hu]; rfl) (by rw [hur]; exact hk), hur, hl, hqq]
    obtain ⟨hend, hslice, hmsgs, -⟩ := hy.changedPost (f := fun s => s.purged n line.toNat) (y.sys.purged_change n line.toNat) (r.doneMsg false 0)
    rw [Sys.slice_purged, Sys.slice_eventAt] at hslice
    have hends := hend.slice.trans hslice
    refine ⟨.inl (congrArg Slice.txns hslice), hend.msgs.trans hmsgs, ?_, ?_, ?_, hend.only⟩
    · exact Sys.llcLine_cleared (s := y.sys.eventAt n line.toNat) ((congrArg Slice.sectors hends).trans rfl)
    · refine (congrArg Slice.epoch hends).trans ?_
      show (y.sys.slice n).nextEpoch = _
      rw [Slice.nextEpoch, hy.home.epoch]
    · refine (congrArg Slice.resv hends).trans ?_
      rw [← hy.home.resv]
  case flushDirty =>
    intro s n w line data b m ca e hs he hdirty hsec hbit hloc
    refine hs.quiet rfl rfl (fun _ => ⟨rfl, rfl, rfl⟩) fun r x y hqq hk hl hw _ hy _ => ?_
    rw [hqq] at hdirty ⊢
    refine ⟨Sys.snoopsFor_none (by rw [hl]; exact he), _, rfl, ?_⟩
    generalize hu : r.active b (s.sys.exElsewhere n r) [] = u at hy ⊢
    have hur : u.req = r := by rw [← hu]; rfl
    have hdl : y.sys.dirtyLine n line.toNat = some ((e.data[line.toNat % 4]?).getD 0, bit e.p (line.toNat % 4)) := by
      rw [hy.home.dirtyLine]
      exact Sys.dirtyLine_of_sector hsec hbit
    have hchange := y.sys.purged_change n line.toNat
    have hconf : (((y.on (fun s => s.purged n line.toNat)).sendWrite n line.toNat ((e.data[line.toNat % 4]?).getD 0) (bit e.p (line.toNat % 4))).sys.conf.locate
        (64 * line.toNat)).isSome = true := by
      have hc : (y.on (fun s => s.purged n line.toNat)).sys.conf = s.sys.conf :=
        (show (y.sys.purged n line.toNat).conf = y.sys.conf from hchange.frame.1.2 .conf rfl).trans hy.home.conf
      rw [M.sendWrite_located _ _ (by rw [hc]; exact hloc)]
      show ((y.on (fun s => s.purged n line.toNat)).sys.conf.locate (64 * line.toNat)).isSome = true
      rw [hc, hloc]
      rfl
    rw [M.access_cmoFlush (by rw [← hu]; rfl) (by rw [hur]; exact hdirty) (by rw [hur]; exact hk), hur, hl, hdl]
    dsimp only
    rw [if_pos hconf]
    have hsent := hy.sent (f := fun s => s.purged n line.toNat) hchange hloc ((e.data[line.toNat % 4]?).getD 0) (bit e.p (line.toNat % 4)) (u.toWrite none)
    have hslice := hsent.slice
    rw [Sys.slice_purged, Sys.slice_eventAt] at hslice
    have hends := hsent.served.slice.trans hslice
    refine ⟨.inr ⟨u.toWrite none, congrArg Slice.txns hslice, (congrArg Req.line hur).trans hl, rfl⟩, hsent.msgs, hsent.mwr, ?_, ?_, ?_, hsent.others, hsent.served.only⟩
    · exact Sys.llcLine_cleared (s := y.sys.eventAt n line.toNat) ((congrArg Slice.sectors hends).trans rfl)
    · rw [hends]
      exact congrArg (fun q => [(q, TxnSt.writing)]) hur
    · refine (congrArg Slice.epoch hends).trans ?_
      show (y.sys.slice n).nextEpoch = _
      rw [Slice.nextEpoch, hy.home.epoch]
  case flushClean =>
    intro s n w line data b hs he hdirty hclean
    refine hs.quiet rfl rfl (fun _ => ⟨rfl, rfl, rfl⟩) fun r x y hqq hk hl hw _ hy _ => ?_
    rw [hqq] at hdirty ⊢
    refine ⟨Sys.snoopsFor_none (by rw [hl]; exact he), _, rfl, ?_⟩
    generalize hu : r.active b (s.sys.exElsewhere n r) [] = u at hy ⊢
    have hur : u.req = r := by rw [← hu]; rfl
    have hdl : y.sys.dirtyLine n line.toNat = none := by
      rw [hy.home.dirtyLine]
      exact Sys.dirtyLine_none hclean
    rw [M.access_cmoFlush (by rw [← hu]; rfl) (by rw [hur]; exact hdirty) (by rw [hur]; exact hk), hur, hl, hdl]
    dsimp only
    obtain ⟨hend, hslice, hmsgs, -⟩ := hy.changedPost (f := fun s => s.purged n line.toNat) (y.sys.purged_change n line.toNat) (r.doneMsg false 0)
    rw [Sys.slice_purged, Sys.slice_eventAt] at hslice
    have hends := hend.slice.trans hslice
    refine ⟨.inl (congrArg Slice.txns hslice), hend.msgs.trans hmsgs, ?_, congrArg Slice.txns hends, hend.only⟩
    exact Sys.llcLine_cleared (s := y.sys.eventAt n line.toNat) ((congrArg Slice.sectors hends).trans rfl)
  case clean =>
    intro s n w line data b m ca e hs he hdirty hsec hbit hv hlen hloc
    refine hs.quiet rfl rfl (fun _ => ⟨rfl, rfl, rfl⟩) fun r x y hqq hk hl hw _ hy _ => ?_
    rw [hqq] at hdirty ⊢
    refine ⟨Sys.snoopsFor_none (by rw [hl]; exact he), _, rfl, ?_⟩
    generalize hu : r.active b (s.sys.exElsewhere n r) [] = u at hy ⊢
    have hur : u.req = r := by rw [← hu]; rfl
    have hdl : y.sys.dirtyLine n line.toNat = some ((e.data[line.toNat % 4]?).getD 0, bit e.p (line.toNat % 4)) := by
      rw [hy.home.dirtyLine]
      exact Sys.dirtyLine_of_sector hsec hbit
    generalize hd : (e.data[line.toNat % 4]?).getD 0 = d at hdl ⊢
    generalize hp : bit e.p (line.toNat % 4) = p at hdl ⊢
    have hchange := y.sys.cleanedAt_change n line.toNat d
    have hconf : (((y.on (fun s => (s.eventAt n line.toNat).cleaned n line.toNat d)).sendWrite n line.toNat d p).sys.conf.locate (64 * line.toNat)).isSome = true := by
      have hc : (y.on (fun s => (s.eventAt n line.toNat).cleaned n line.toNat d)).sys.conf = s.sys.conf :=
        (show ((y.sys.eventAt n line.toNat).cleaned n line.toNat d).conf = y.sys.conf from hchange.frame.1.2 .conf rfl).trans hy.home.conf
      rw [M.sendWrite_located _ _ (by rw [hc]; exact hloc)]
      show ((y.on (fun s => (s.eventAt n line.toNat).cleaned n line.toNat d)).sys.conf.locate (64 * line.toNat)).isSome = true
      rw [hc, hloc]
      rfl
    rw [M.access_cmoClean (by rw [← hu]; rfl) (by rw [hur]; exact hdirty) (by rw [hur]; exact hk) (d := d) (p := p) (by rw [hur, hl]; exact hdl), hur, hl, if_pos hconf]
    have hsent := hy.sent (f := fun s => (s.eventAt n line.toNat).cleaned n line.toNat d) hchange hloc d p (u.toWrite none)
    have hslice := hsent.slice
    rw [Sys.slice_cleaned, Sys.slice_eventAt] at hslice
    have hends := hsent.served.slice.trans hslice
    -- the sector afterwards
    have hsector := Sys.sector_map (l := line.toNat) (hsent.served.state.trans hsent.state) (Sector.washed line.toNat d) (Sector.washed_q line.toNat d)
      ((congrArg Slice.sectors hends).trans ((congrArg Slice.sectors (Sys.slice_onSlice_self (y.sys.eventAt n line.toNat) n _)).trans
        (congrArg (List.map (Sector.washed line.toNat d)) ((congrArg Slice.sectors (Sys.slice_eventAt ..)).trans hy.home.sectors))))
    rw [hsec, Option.map_some, Sector.washed_self (Sys.sector_q hsec) hv] at hsector
    refine ⟨.inr ⟨u.toWrite none, congrArg Slice.txns hslice, (congrArg Req.line hur).trans hl, rfl⟩, hsent.msgs, hsent.mwr, ?_, ?_, ?_, hsent.served.only⟩
    · rw [Sys.llcLine_sector hsector hv]
      show some (((e.data.set (line.toNat % 4) d)[line.toNat % 4]?).getD 0, bit (setBit e.p (line.toNat % 4) false) (line.toNat % 4)) = _
      rw [List.getElem?_set_self (by rw [hlen]; exact Nat.mod_lt _ (by decide)), bit_setBit_self]
      rfl
    · rw [hsector]
      exact congrArg some (bit_setBit_self e.d (line.toNat % 4) false)
    · exact (congrArg Slice.sf hends).trans hy.home.sf
  case part =>
    intro s n h line data mask b d p hs he hd hm hlen
    refine hs.writes rfl rfl (fun _ => ⟨rfl, rfl, rfl⟩) he hd hm hlen (fun y u hr hk hl _ hg hy => ?_) fun t hk ht => ?_
    · exact M.access_write hg (.inl hk) (Sys.needsData_part (.inl hk) (by rw [hr]; exact hm)) (by rw [hy.llcLine, hl]; exact hd)
    · obtain ⟨hd', hr'⟩ := Req.written_merge (d := d) (p := p) (r := (s.asked (.ncWr n (.core h) line data mask)).1) (by rw [hk]; decide)
      exact ⟨by rw [ht.line, Option.map_some, hd'], ht.dirty, by rw [ht.msgs, hr'], ht.epoch, ht.only⟩
  case whole =>
    intro s n h line data mask b m ca hs he hm hloc
    refine hs.quiet rfl rfl (fun _ => ⟨rfl, rfl, rfl⟩) fun r x y hqq hk hl hw _ hy _ => ?_
    rw [hqq] at hm ⊢
    refine ⟨Sys.snoopsFor_none (by rw [hl]; exact he), _, rfl, ?_⟩
    generalize hu : r.active b (s.sys.exElsewhere n r) [] = u at hy ⊢
    have hur : u.req = r := by rw [← hu]; rfl
    have hyloc : (y.sys.conf.locate (64 * u.req.line)).isSome = true := by
      rw [hy.home.conf, hur, hl, hloc]
      rfl
    rw [M.access_whole (by rw [← hu]; rfl) (by rw [hur]; exact hk) (by rw [hur]; exact hm),
      M.writeTxn_whole (by rw [hur]; exact hm) (by rw [hur, hw]; rfl) hyloc, hur, hl]
    have hsent := hy.sent (f := fun s => (s.unheld n line.toNat).llcClear n line.toNat) (y.sys.clearedAt_change n line.toNat) hloc (r.written 0 false).1
      (r.written 0 false).2.1 (u.toWrite (some (BitVec.ofNat 512 (r.written 0 false).2.2, false)))
    have hslice := hsent.slice
    rw [Sys.slice_llcClear, Sys.slice_unheld] at hslice
    have hends := hsent.served.slice.trans hslice
    refine ⟨.inr ⟨u.toWrite _, congrArg Slice.txns hslice, (congrArg Req.line hur).trans hl, rfl⟩, ?_, ?_, hsent.msgs, ?_, hsent.others, hsent.served.only⟩
    · exact Sys.llcLine_cleared (s := y.sys.unheld n line.toNat) ((congrArg Slice.sectors hends).trans rfl)
    · rw [hsent.mwr, List.map_append, (Req.written_merge (by rw [hk]; decide)).1, hm]
      rfl
    · rw [hends]
      exact congrArg (fun q => [(q, TxnSt.writing)]) hur
  case device =>
    intro s n w line data mask b d p hs he hd hm hlen
    refine hs.writes rfl rfl (fun _ => ⟨rfl, rfl, rfl⟩) he hd hm hlen (fun y u hr hk hl _ hg hy => ?_) fun t hk ht => ?_
    · exact M.access_write hg (.inr (.inl hk)) (Sys.needsData_part (.inr hk) (by rw [hr]; exact hm)) (by rw [hy.llcLine, hl]; exact hd)
    · obtain ⟨hd', hr'⟩ := Req.written_merge (d := d) (p := p) (r := (s.asked (.devWr n w line data mask)).1) (by rw [hk]; decide)
      exact ⟨by rw [ht.line, Option.map_some, hd'], by rw [ht.msgs, hr'], ht.epoch, ht.only⟩
  case amo =>
    intro s n h line op dword data mask b d p hs he hd hm hlen
    refine hs.writes rfl rfl (fun _ => ⟨rfl, rfl, rfl⟩) he hd hm hlen (fun y u hr hk hl _ hg hy => ?_) fun t hk ht => ?_
    · have hneeds : y.sys.needsData n u.req = true := by
        unfold Sys.needsData
        rw [hk]
      exact M.access_write hg (.inr (.inr hk)) hneeds (by rw [hy.llcLine, hl]; exact hd)
    · exact ⟨by rw [ht.line, Req.written_amo hk], ht.msgs, ht.epoch, ht.only⟩
  case sc =>
    intro s n h line data mask b d p hs he hd hr hm hlen
    refine hs.writes rfl rfl (fun _ => ⟨rfl, rfl, rfl⟩) he hd hm hlen (fun y u _ hk hl hw hg hy => ?_) fun t hk ht => ?_
    · exact M.access_sc hg hw hk (by rw [hy.resv, hl]; exact hr) (by rw [hy.llcLine, hl]; exact hd)
    · obtain ⟨hd', hr'⟩ := Req.written_merge (d := d) (p := p) (r := (s.asked (.ncSc n (.core h) line data mask)).1) (by rw [hk]; decide)
      exact ⟨by rw [ht.line, Option.map_some, hd'], by rw [ht.msgs, hr'], ht.resv, ht.only⟩
  case scFails =>
    intro s n h line data mask b hs hr
    refine hs.quiet rfl rfl (fun _ => ⟨rfl, rfl, rfl⟩) fun r x y hqq hk hl hw _ hy _ => ?_
    refine ⟨Sys.snoopsFor_sc hk hw (by rw [hl]; exact hr), _, rfl, ?_⟩
    generalize hu : r.active b (s.sys.exElsewhere n r) [] = u at hy ⊢
    have hur : u.req = r := by rw [← hu]; rfl
    rw [M.access_scFails (h := h) (by rw [← hu]; rfl) (by rw [hur]; exact hw) (by rw [hur]; exact hk) (by rw [hy.home.resv, hur, hl]; exact hr), hur, hqq]
    have hrel : (y.sys.released n h).slice n = { y.sys.slice n with resv := (y.sys.slice n).resv.filter (fun p => p.1 ≠ h.val) } := Sys.slice_onSlice_self ..
    have hchange : Sys.SliceChange n y.sys (y.sys.released n h) := ⟨Sys.FrameSlice.onSlice _ _, by rw [hrel]⟩
    obtain ⟨hend, hslice, hmsgs, -⟩ := hy.changedPost (f := fun s => s.released n h) hchange (r.doneMsg false 1)
    rw [hrel] at hslice
    have hends := hend.slice.trans hslice
    refine ⟨.inl (congrArg Slice.txns hslice), (congrArg Slice.sectors hends).trans hy.home.sectors, (congrArg Slice.sf hends).trans hy.home.sf,
      hend.msgs.trans hmsgs, ?_, hend.only⟩
    refine (congrArg Slice.resv hends).trans ?_
    rw [← hy.home.resv]

end Sys2Proof.Machine
end

section
/-!
SUPPORT. A home agent takes a snoop's answer (R304, R308): the transaction it answers, and what the slice holds after its access.
-/
namespace Sys2Proof.Machine

/-! ## The answer is taken -/

/-- Other messages are under way. -/
def M.left (x : M) (ms : List Msg) : M := x.on (fun s => { s with msgs := ms })

/-- A transaction after a core's answer. -/
def Txn.answered (t : Txn) (h : Nat) (a : Answer) : Txn :=
  { t with
    waits := t.waits.erase (.core h)
    got := match a with | .data d => some (d, false) | .poison => some (0, true) | _ => t.got
    offerOf := match a with | .offered => some h | _ => t.offerOf }

section
variable {x : M} {n h l : Nat} {sel : Answer → Bool} {a : Answer} {peer : Option Answer} {rest : List Msg} {t : Txn}
  (hm : takeMsg (Msg.isAck n (.core h) l sel) x.sys.msgs = some (.ack n l (.core h) a, rest)) (ht : (x.sys.slice n).txns = [t])
  (hl : t.req.line = l) (hst : t.st = .snoop) (hw : t.waits.contains (.core h) = true)
include hm ht hl hst hw

theorem M.answer_taken : x.answer n (.core h) l sel peer =
    (if (t.answered h a).waits.isEmpty && (t.answered h a).offerOf.isNone then (((x.left rest).only n (t.answered h a)).access n (t.answered h a)).toMemory n l
      else (x.left rest).only n (t.answered h a)).settle n l := by
  have honly : (x.left rest).on (fun s => s.onSlice n (fun z => { z with txns := z.txns.map (fun v => if v = t then t.answered h a else v) })) =
      (x.left rest).only n (t.answered h a) := by
    have hself : (x.sys.slice n).txns.map (fun v => if v = t then t.answered h a else v) = [t.answered h a] := by
      rw [ht]
      simp
    unfold M.on Sys.onSlice
    dsimp only
    rw [show ((x.left rest).sys.slice n).txns.map (fun v => if v = t then t.answered h a else v) = [t.answered h a] from hself]
    rfl
  unfold M.answer
  dsimp only
  rw [hm]
  dsimp only
  rw [show (Sys.slice { x.sys with msgs := rest } n).txns = [t] from ht, List.find?_cons_of_pos (by simp only [hl, hst, hw, and_self, decide_true]), ← honly]
  cases a <;> rfl

end

/-! ## What a slice's work leaves -/

/-- Against a state only one slice, the registers that follow it, and these parts have changed, and that slice is in the state it was in. -/
structure State.Steps (s : State) (n : Nat) (parts : List Part) (y : M) : Prop where
  ops : y.ops = []
  frame : Sys.FrameSlice n s.sys y.sys (serveReg n) parts
  state : y.sys.slState n = s.sys.slState n

section
variable {s : State} {n : Nat} {parts : List Part} {y : M} {f : Sys → Sys} {u : Txn}

theorem State.steps_answered (s : State) (n : Nat) (rest : List Msg) (t : Txn) (h : parts.contains .msgs = true) : s.Steps n parts ((s.ctx.left rest).only n t) :=
  have hleft : Sys.FrameSlice n s.sys (s.ctx.left rest).sys (serveReg n) [.msgs] := Sys.FrameSlice.of_frame (.set_msgs s.sys rest rfl) rfl
  have hsub : [.msgs] ⊆ parts := List.cons_subset.mpr ⟨List.contains_iff_mem.mp h, List.nil_subset _⟩
  ⟨rfl, (hleft.mono (fun _ hk => hk) hsub).trans (Sys.FrameSlice.onSlice _ _), rfl⟩

theorem State.Steps.on (hy : s.Steps n parts y) (hf : Sys.FrameSlice n y.sys (f y.sys) (fun _ => false) []) : s.Steps n parts (y.on f) :=
  ⟨(M.ops_on y f).trans hy.ops, hy.frame.trans (hf.mono nofun (List.nil_subset _)), (hf.1.rf F.TILE_SLICE_STATUS_STATE n 0 rfl).trans hy.state⟩

theorem State.Steps.free (hy : s.Steps n parts y) : s.Steps n parts (y.txnFree n u) := hy.on (y.free_frame n u)

theorem State.Steps.post (hy : s.Steps n serveParts y) (m : Msg) : s.Steps n serveParts (y.post m) :=
  ⟨(M.ops_post y m).trans hy.ops, hy.frame.trans (y.post_frame m n), by rw [M.sys_post, Sys.slState_addMsgs]; exact hy.state⟩

theorem State.Steps.repaid (hy : s.Steps n serveParts y) (r : Req) (ddr : Bool) : s.Steps n serveParts (y.repaid r ddr) :=
  ⟨(y.repaid_ops r ddr).trans hy.ops, hy.frame.trans (y.repaid_served r ddr n),
    ((y.repaid_frame r ddr).rf F.TILE_SLICE_STATUS_STATE n 0 rfl).trans hy.state⟩

theorem State.Steps.served (hy : s.Steps n parts y) : s.Served n y parts (s.after (y.on (fun s => s.showHa n))) := by
  have hshow := Sys.SliceWork.showHa y.sys n
  refine ⟨hshow.1.2 .msgs rfl, Sys.slice_showHa _ n n, Sys.slState_showHa _ n n, Sys.chan_of_chans (hshow.1.2 .chans rfl), ?_⟩
  exact State.onlySlice_after (x := y.on (fun s => s.showHa n)) ((M.ops_on y _).trans hy.ops)
    (hy.frame.trans (hshow.mono (fun _ hk => serveReg_of_sliceReg hk) (List.nil_subset _)))

end

section
variable (y : M) (n : Nat)

theorem M.slice_only (u : Txn) : (y.only n u).sys.slice n = { y.sys.slice n with txns := [u] } := Sys.slice_onSlice_self ..
theorem M.slice_free (u : Txn) : (y.txnFree n u).sys.slice n = { y.sys.slice n with txns := (y.sys.slice n).txns.erase u } := Sys.slice_onSlice_self ..
theorem M.slice_post (m : Msg) : (y.post m).sys.slice n = y.sys.slice n := rfl
theorem M.msgs_post (m : Msg) : (y.post m).sys.msgs = y.sys.msgs ++ [m] := rfl
theorem M.msgs_free (u : Txn) : (y.txnFree n u).sys.msgs = y.sys.msgs := rfl
theorem M.slice_left (ms : List Msg) : (y.left ms).sys.slice n = y.sys.slice n := rfl
theorem M.msgs_only (u : Txn) (ms : List Msg) : ((y.left ms).only n u).sys.msgs = ms := rfl

/-- A slice with one transaction, which ends. -/
theorem M.slice_onlyFree (u : Txn) : ((y.only n u).txnFree n u).sys.slice n = { y.sys.slice n with txns := [] } := by
  rw [M.slice_free, M.slice_only]
  simp

end

/-! ## Accesses and answers -/

section
variable {y : M} {n : Nat} {u : Txn} {d : BitVec 512} {p : Bool}

/-- A holder's data goes into the LLC, and answers a read (R300). -/
theorem M.access_got (hg : u.got = some (d, p)) (hk : u.req.kind = .rdShared ∨ u.req.kind = .ncRd) (hsec : (y.sys.sector n u.req.line).isSome = true) :
    y.access n u = ((y.on (fun s => s.filled n u.req.line d p)).txnFree n u).answerData n u d p false false := by
  have hask : u.req.kind.asksData = true := by rcases hk with h | h <;> rw [h] <;> rfl
  have hread : u.req.kind.writesLine = false := by rcases hk with h | h <;> rw [h] <;> rfl
  have hback : y.writeBack n u.req.line d p = y.on (fun s => s.filled n u.req.line d p) := by
    unfold M.writeBack
    rw [if_pos hsec]
    rfl
  have hback' : (if ((u.req.kind == ReqKind.ownZero || u.req.kind == ReqKind.cmoInval) || u.req.kind == ReqKind.cmoFlush || u.req.kind == ReqKind.cmoClean) = true then y
      else y.writeBack n u.req.line d p) = y.on (fun s => s.filled n u.req.line d p) := by
    rw [if_neg (by rcases hk with h | h <;> rw [h] <;> decide), hback]
  have hlr : (u.req.kind == ReqKind.ncLr) = false := by rcases hk with h | h <;> rw [h] <;> rfl
  have hneeds := Sys.needsData_asks (s := (y.on (fun s => s.filled n u.req.line d p)).sys) (n := n) hask
  rw [← M.withData_read hread]
  unfold M.access
  rw [hg]
  dsimp only
  rw [hback', hlr]
  rcases hk with h | h <;> rw [h] <;> dsimp only <;> rw [if_neg Bool.false_ne_true, hneeds] <;> rfl

/-- The entry of a line that one more core shares. -/
def SfEnt.withSharer (f : SfEnt) (u : Txn) (proxy : Bool) (g : Nat) : SfEnt :=
  ((if f.st = 2 then f else sfShare u.req.line (nget u.byte 3 4) proxy (f.holders.filter (fun h => some h ≠ some (.core g)))).share (.core g))

theorem M.sfPut_present {x : M} {n k : Nat} {e f : SfEnt} (hl : (x.sys.slice n).sf.length ≤ 16) (hf : x.sys.sfGet n e.line = some f) :
    x.sfPut n k e = x.on (fun s => s.sfSet n e) := by
  refine M.sfPut_free (Nat.lt_of_lt_of_le ?_ hl)
  refine List.length_filter_lt_length_iff_exists.mpr ⟨f, List.mem_of_find?_eq_some hf, ?_⟩
  simp [Sys.sfGet_line hf]

/-- A core's read of a line that another holds, or that is in SH (R300). -/
theorem M.answerData_share {f : SfEnt} {g : Nat} (hk : u.req.kind = .rdShared) (hw : u.req.who = .core g) (he : y.sys.sfGet n u.req.line = some f)
    (hline : (f.withSharer u (y.sys.foreign u.req.line) g).line = u.req.line) (hlen : (y.sys.slice n).sf.length ≤ 16)
    (hne : ((f.holders.filter (fun h => some h ≠ some (.core g))).isEmpty && f.st == 1) = false) (ddr : Bool) :
    y.answerData n u d p false ddr = ((y.repaid u.req ddr).on (fun s => s.sfSet n (f.withSharer u (y.sys.foreign u.req.line) g))).post
      (u.fill n g (y.sys.slice n) .shared d p 1) := by
  have hput : (y.repaid u.req ddr).sfPut n u.req.kennel (f.withSharer u (y.sys.foreign u.req.line) g) =
      (y.repaid u.req ddr).on (fun s => s.sfSet n (f.withSharer u (y.sys.foreign u.req.line) g)) := by
    refine M.sfPut_present (f := f) (by rw [M.repaid_slice]; exact hlen) ?_
    unfold Sys.sfGet
    rw [M.repaid_slice, hline]
    exact he
  have hend := congrArg (fun z : M => z.post (u.fill n g (y.sys.slice n) .shared d p 1)) hput
  refine Eq.trans ?_ hend
  rw [← y.repaid_foreign u.req ddr u.req.line]
  obtain ⟨⟨kind, l, who, k, sec, first, data, mask, dirty, poison, tok, noBind, amo, dword⟩, st, pool, waits, got, offerOf, byte, wasEx⟩ := u
  dsimp only at hk hw he
  subst hk hw
  unfold M.answerData
  dsimp only
  rw [he]
  exact if_neg fun h => Bool.false_ne_true (hne.symm.trans h)

/-- A hart's counter of fills from memory (R149). -/
def M.counted (x : M) (g : Nat) (fromMem : Bool) : M := if fromMem then x.on (fun s => s.hpm g 0x18) else x

section
variable (x : M) (g : Nat) (fromMem : Bool)

theorem M.counted_ops : (x.counted g fromMem).ops = x.ops := by unfold M.counted; split <;> rfl

theorem M.counted_frame {but : RK → Bool} {parts : List Part} {hp : List HPart} {csrs : List Nat} :
    Sys.FrameHart g x.sys (x.counted g fromMem).sys but parts hp csrs := by
  unfold M.counted
  split
  · exact Sys.hpm_frame _ _
  · exact .refl _

theorem M.counted_slice (n : Nat) : (x.counted g fromMem).sys.slice n = x.sys.slice n :=
  congrFun (Sys.slice_of_slices ((M.counted_frame x g fromMem (but := fun _ => false) (parts := []) (hp := []) (csrs := [])).1.1.2 .slices rfl)) n

theorem M.counted_foreign (l : Nat) : (x.counted g fromMem).sys.foreign l = x.sys.foreign l := by
  unfold Sys.foreign Sys.socket
  rw [(M.counted_frame x g fromMem (but := fun _ => false) (parts := []) (hp := []) (csrs := [])).1.1.rf _ _ _ rfl]

end

/-- A core that is to own its line becomes its only holder, whoever held it. -/
theorem M.answerData_rdOwn {g : Nat} (hk : u.req.kind = .rdOwn) (hw : u.req.who = .core g) (fromMem ddr : Bool)
    (hfree : ((y.sys.slice n).sf.filter (fun f => sfSet f.line = sfSet u.req.line ∧ f.line ≠ u.req.line)).length < 16) :
    y.answerData n u d p fromMem ddr =
      (((y.repaid u.req ddr).counted g fromMem).on (fun s => s.owned n u.req.line (sfEx u.req.line (nget u.byte 3 4) (y.sys.foreign u.req.line) (.core g)))).post
        (u.fill n g (y.sys.slice n) .own d p 3) := by
  have hput (e : SfEnt) (he : e.line = u.req.line) : ((y.repaid u.req ddr).counted g fromMem).sfPut n u.req.kennel e =
      ((y.repaid u.req ddr).counted g fromMem).on (fun s => s.sfSet n e) := by
    refine M.sfPut_free ?_
    rw [M.counted_slice, M.repaid_slice, he]
    exact hfree
  have hown := congrArg (fun z : M => (z.on (fun s => (s.epochUp n u.req.line).clearResv n u.req.line)).post (u.fill n g (y.sys.slice n) .own d p 3))
    (hput (sfEx u.req.line (nget u.byte 3 4) (((y.repaid u.req ddr).counted g fromMem).sys.foreign u.req.line) (.core g)) rfl)
  rw [← y.repaid_foreign u.req ddr u.req.line, ← M.counted_foreign _ g fromMem]
  refine Eq.trans ?_ hown
  obtain ⟨⟨kind, l, who, k, sec, first, data, mask, dirty, poison, tok, noBind, amo, dword⟩, st, pool, waits, got, offerOf, byte, wasEx⟩ := u
  dsimp only at hk hw
  subst hk hw
  unfold M.answerData
  dsimp only
  cases fromMem <;> rfl

end

/-! ## Answers that change the entry -/

/-- A core's read, answered with its line shared. -/
def M.shared (v : M) (n : Nat) (r : Req) (e : SfEnt) (m : Msg) : M := ((v.repaid r false).on (fun s => s.sfSet n e)).post m

section
variable {s : State} {v : M} {n : Nat} (r : Req) (e : SfEnt) (m : Msg) (l : Nat)

theorem M.shared_slice : (v.shared n r e m).sys.slice n = { v.sys.slice n with sf := e :: (v.sys.slice n).sf.filter (fun f => f.line ≠ e.line) } := by
  unfold M.shared
  rw [M.slice_post, M.sys_on, Sys.slice_sfSet, M.repaid_slice]

theorem M.shared_msgs : (v.shared n r e m).sys.msgs = v.sys.msgs ++ [m] := congrArg (· ++ [m]) (v.repaid_msgs r false)

theorem State.Steps.shared (hv : s.Steps n serveParts v) : s.Steps n serveParts (v.shared n r e m) :=
  ((hv.repaid r false).on (Sys.sfSet_frame _ n e)).post m

theorem M.granted_slice : (v.granted n l r false e m).sys.slice n = { v.sys.slice n with
    sf := e :: (v.sys.slice n).sf.filter (fun f => f.line ≠ e.line)
    epoch := (v.sys.slice n).nextEpoch
    session := if (v.sys.slice n).nextEpoch = 0 then ((v.sys.slice n).session + 1) % 256 else (v.sys.slice n).session
    buckets := Bank.set (v.sys.slice n).buckets (bucketOf l) (v.sys.slice n).nextEpoch
    resv := (v.sys.slice n).resv.filter (fun p => p.2 ≠ l) } := by
  unfold M.granted
  rw [M.slice_post, M.sys_on, Sys.slice_owned, M.repaid_slice]

theorem M.granted_msgs : (v.granted n l r false e m).sys.msgs = v.sys.msgs ++ [m] := congrArg (· ++ [m]) (v.repaid_msgs r false)

theorem State.Steps.granted (hv : s.Steps n serveParts v) : s.Steps n serveParts (v.granted n l r false e m) :=
  ((hv.repaid r false).on (Sys.owned_frame _ n l e)).post m

end

/-! ## A controller's answer -/

/-- A channel's answer is taken from it. -/
def Sys.doneTaken (s : Sys) (m : Nat) (d : MDone) : Sys := s.onChan m (fun c => { c with done := c.done.erase d })

/-- A core is answered with its line from memory, as its only holder. -/
def M.fetched (v : M) (n h : Nat) (r : Req) (ddr : Bool) (e : SfEnt) (m : Msg) : M := (((v.repaid r ddr).counted h true).on (fun s => s.owned n r.line e)).post m

section
variable (v : M) (n h : Nat) (r : Req) (ddr : Bool) (e : SfEnt) (m : Msg)

theorem M.fetched_ops : (v.fetched n h r ddr e m).ops = v.ops := (M.counted_ops _ h true).trans (v.repaid_ops r ddr)

theorem M.fetched_slice : (v.fetched n h r ddr e m).sys.slice n = ((v.on (fun s => s.owned n r.line e)).sys.slice n) := by
  unfold M.fetched
  rw [M.slice_post, M.sys_on, M.sys_on, Sys.slice_owned, Sys.slice_owned, M.counted_slice, M.repaid_slice]

theorem M.counted_parts (x : M) : x.sys.Frame (x.counted h true).sys (fun _ => false) [.harts] :=
  (M.counted_frame x h true (but := fun _ => false) (parts := []) (hp := []) (csrs := [])).1.1

theorem Sys.owned_parts (s : Sys) (n l : Nat) (e : SfEnt) : s.Frame (s.owned n l e) (fun _ => false) [.slices] := (s.owned_frame n l e (parts := [])).1

theorem M.fetched_msgs : (v.fetched n h r ddr e m).sys.msgs = v.sys.msgs ++ [m] := by
  have hcount : ((v.repaid r ddr).counted h true).sys.msgs = (v.repaid r ddr).sys.msgs := (M.counted_parts h _).2 .msgs rfl
  have hown : (((v.repaid r ddr).counted h true).sys.owned n r.line e).msgs = ((v.repaid r ddr).counted h true).sys.msgs := (Sys.owned_parts ..).2 .msgs rfl
  unfold M.fetched
  rw [M.msgs_post, M.sys_on, hown, hcount, M.repaid_msgs]

theorem M.fetched_chan : (v.fetched n h r ddr e m).sys.chan = v.sys.chan := by
  have hcount : ((v.repaid r ddr).counted h true).sys.chan = (v.repaid r ddr).sys.chan := Sys.chan_of_chans ((M.counted_parts h _).2 .chans rfl)
  have hown : (((v.repaid r ddr).counted h true).sys.owned n r.line e).chan = ((v.repaid r ddr).counted h true).sys.chan :=
    Sys.chan_of_chans ((Sys.owned_parts ..).2 .chans rfl)
  have hpost : ((((v.repaid r ddr).counted h true).on (fun s => s.owned n r.line e)).post m).sys.chan =
      (((v.repaid r ddr).counted h true).sys.owned n r.line e).chan := rfl
  unfold M.fetched
  rw [hpost, hown, hcount]
  exact Sys.chan_of_chans ((v.repaid_frame r ddr).2 .chans rfl)

theorem M.fetched_frame : Sys.FrameHart h v.sys (v.fetched n h r ddr e m).sys (serveReg n) (.slices :: .chans :: serveParts) [] [] := by
  have hrep : v.sys.Frame (v.repaid r ddr).sys (serveReg n) (.slices :: .chans :: serveParts) :=
    ((v.repaid_frame r ddr).regs_mono fun _ hk => serveReg_ledger hk).parts_mono (by decide)
  have hown := (((v.repaid r ddr).counted h true).sys.owned_frame n r.line e (but := serveReg n) (parts := .chans :: serveParts)).1
  have hpost := (((v.repaid r ddr).counted h true).sys.owned n r.line e).addMsgs_frame [m] (but := serveReg n) (parts := .slices :: .chans :: serveParts) rfl
  exact Sys.FrameHart.trans (.of_frame hrep rfl) (Sys.FrameHart.trans (M.counted_frame _ h true) (.of_frame (Sys.Frame.trans hown hpost) rfl))

end

section
variable {x : M} {n h l m : Nat} {t : Txn} {d : MDone} (ht : (x.sys.slice n).txns = [t]) (hl : t.req.line = l) (hst : t.st = .memory)
  (hchan : (below 16).find? (fun m => (x.sys.chan m).done.any (fun d => d.slice = n ∧ d.line = l)) = some m) (hdone : (x.sys.chan m).done = [d])
  (hd : d.slice = n ∧ d.line = l) (herr : d.err = false)
include ht hl hst hchan hdone hd herr

/-- The answer of the controller that has it. -/
theorem M.memDone_found : x.memDone n l none = ((x.on (fun s => s.doneTaken m d)).withData n t d.data d.poison true d.ddr).settle n l := by
  have hfind : (x.sys.chan m).done.find? (fun d => decide (d.slice = n ∧ d.line = l)) = some d := by
    rw [hdone, List.find?_cons_of_pos (by simp [hd])]
  unfold M.memDone
  rw [ht, List.find?_cons_of_pos (by simp [hl, hst])]
  dsimp only
  rw [hchan]
  dsimp only
  rw [hfind]
  dsimp only
  rw [herr, if_neg Bool.false_ne_true]
  rfl

end

end Sys2Proof.Machine
end

section
/-!
PROOFS. The answers that a home agent takes (O35).
-/
namespace Sys2Proof.Machine

section
variable {s : State} {c : Instr} {n h l : Nat} {sel : Answer → Bool} {a : Answer} {peer : Option Answer} {rest : List Msg} {t0 : Txn} {p : State → Prop}

/-- The context in which an answer has been taken. -/
def State.taken (s : State) (n : Nat) (rest : List Msg) (u : Txn) : M := (s.ctx.left rest).only n u

theorem State.steps_taken {parts : List Part} (s : State) (n : Nat) (rest : List Msg) (u : Txn) (h : parts.contains .msgs = true) :
    s.Steps n parts (s.taken n rest u) := s.steps_answered n rest u h

section
variable (s n) (rest : List Msg) (u : Txn)

theorem State.taken_slice : (s.taken n rest u).sys.slice n = { s.sys.slice n with txns := [u] } := M.slice_only ..
theorem State.taken_sf : ((s.taken n rest u).sys.slice n).sf = (s.sys.slice n).sf := by rw [State.taken_slice]
theorem State.taken_sectors : ((s.taken n rest u).sys.slice n).sectors = (s.sys.slice n).sectors := by rw [State.taken_slice]

theorem State.taken_sfGet (l : Nat) : (s.taken n rest u).sys.sfGet n l = s.sys.sfGet n l := by
  unfold Sys.sfGet
  rw [State.taken_sf]

theorem State.taken_sector (l : Nat) : (s.taken n rest u).sys.sector n l = s.sys.sector n l := by
  refine Sys.sector_of_sectors ?_ (s.taken_sectors n rest u) l
  rfl
theorem State.taken_llcLine (l : Nat) : (s.taken n rest u).sys.llcLine n l = s.sys.llcLine n l := by
  refine Sys.llcLine_of_sectors ?_ (s.taken_sectors n rest u) l
  rfl
theorem State.taken_foreign (l : Nat) : (s.taken n rest u).sys.foreign l = s.sys.foreign l := rfl
theorem State.taken_msgs : (s.taken n rest u).sys.msgs = rest := rfl

theorem State.taken_free : ((s.taken n rest u).txnFree n u).sys.slice n = { s.sys.slice n with txns := [] } := M.slice_onlyFree ..

end

variable (hlive : s.Live) (hc : exec c s = onM (fun x => x.answer n (.core h) l sel peer) s)
  (hm : takeMsg (Msg.isAck n (.core h) l sel) s.sys.msgs = some (.ack n l (.core h) a, rest)) (ht : (s.sys.slice n).txns = [t0])
  (hl : t0.req.line = l) (hst : t0.st = .snoop) (hw : t0.waits.contains (.core h) = true)
include hlive hc hm ht hl hst hw

/-- An answer that is not the last one its transaction waits for. -/
theorem State.completes_waits (hmore : ((t0.answered h a).waits.isEmpty && (t0.answered h a).offerOf.isNone) = false)
    (hp : ∀ t, s.Served n (s.taken n rest (t0.answered h a)) [.msgs] t → p t) : Completes c s p := by
  refine completes_onM c _ s p hlive hc ?_
  rw [M.answer_taken (x := s.ctx) hm ht hl hst hw, hmore, if_neg Bool.false_ne_true,
    M.settle_one _ n l (M.txns_only _ n (t0.answered h a)) hl (by rw [show (t0.answered h a).st = .snoop from hst]; decide)
      (by rw [show (t0.answered h a).st = .snoop from hst]; decide)]
  exact hp _ (s.steps_taken n rest _ rfl).served

/-- The last answer, after which the transaction has its access and ends. -/
theorem State.completes_last (hdone : ((t0.answered h a).waits.isEmpty && (t0.answered h a).offerOf.isNone) = true) {z : M}
    (hz : (s.taken n rest (t0.answered h a)).access n (t0.answered h a) = z) (hend : (z.sys.slice n).txns = []) (hstep : s.Steps n serveParts z)
    (hp : ∀ t, s.Served n z serveParts t → p t) : Completes c s p := by
  refine completes_onM c _ s p hlive hc ?_
  rw [M.answer_taken (x := s.ctx) hm ht hl hst hw, hdone, if_pos rfl, show ((s.ctx.left rest).only n (t0.answered h a)).access n (t0.answered h a) = z from hz,
    M.toMemory_empty _ n l hend, M.settle_empty _ n l hend]
  exact hp _ hstep.served

end

theorem bit_shared {v w : BitVec 64} {i : Nat} (h : bit v.toNat i = true) : bit (v ||| w).toNat i = true := by
  rw [bit_eq_testBit, BitVec.testBit_toNat] at h ⊢
  rw [BitVec.getLsbD_or, h, Bool.true_or]

/-- The last holder's answer, without an offer. -/
theorem Txn.answered_last {t : Txn} {h : Nat} {a : Answer} (hw : t.waits = [.core h]) (ho : t.offerOf = none) (ha : a ≠ .offered) :
    ((t.answered h a).waits.isEmpty && (t.answered h a).offerOf.isNone) = true := by
  unfold Txn.answered
  rw [hw, ho]
  cases a with
  | offered => exact absurd rfl ha
  | _ => simp

theorem sfEx_holders (l k : Nat) (proxy : Bool) (h : Fin 256) : (sfEx l k proxy (.core h)).holders = [.core h] := by
  show [if 0x100 ≤ h.val then Holder.engine (h.val - 0x100) else .core h.val] = _
  rw [if_neg (by omega)]

/-- A controller's answer makes a core the only holder of the line that it asked to own. -/
theorem memDone_grants (s : State) (n : Fin 64) (h : Fin 256) (line : Line) (m : Fin 16) (t0 : Txn) (d : MDone) (hlive : s.Live) (ht : (s.sys.slice n).txns = [t0])
    (hk : t0.req.kind = .rdOwn) (hl : t0.req.line = line.toNat) (hw : t0.req.who = .core h) (hst : t0.st = .memory) (hlen : (s.sys.slice n).sf.length < 16)
    (hchan : (below 16).find? (fun m => (s.sys.chan m).done.any (fun d => d.slice = n.val ∧ d.line = line.toNat)) = some m.val) (hdone : (s.sys.chan m).done = [d])
    (hds : d.slice = n.val) (hdl : d.line = line.toNat) (herr : d.err = false) : Completes (.memDone n line none) s (fun t =>
      (t.sys.chan m).done = [] ∧ (t.sys.slice n).txns = [] ∧
      t.sys.msgs = s.sys.msgs ++ [.fill ⟨h, line.toNat, .own, d.data, d.poison, t0.byte / 8, 3, ⟨n, (s.sys.slice n).session, (s.sys.slice n).epoch⟩,
      t0.wasEx, t0.req.first, 0, false, 0⟩] ∧ s.OnlyHart t h (serveReg n) (.slices :: .chans :: serveParts) [] []) := by
  refine completes_onM _ _ s _ hlive rfl ?_
  generalize hv : (s.ctx.on (fun s => s.doneTaken m d)).txnFree n t0 = v
  have hvslice : v.sys.slice n = { s.sys.slice n with txns := [] } := by
    rw [← hv, M.slice_free, M.sys_on, show (s.ctx.sys.doneTaken m d).slice n = s.sys.slice n from rfl, ht]
    simp
  have hvchan : v.sys.chan m = { s.sys.chan m with done := (s.sys.chan m).done.erase d } := by
    rw [← hv]
    exact Sys.chan_onChan_self s.sys m (fun c => { c with done := c.done.erase d })
  have hvframe : s.sys.Frame v.sys (serveReg n) (.slices :: .chans :: serveParts) := by
    rw [← hv]
    exact Sys.Frame.trans (.set_chans s.sys _ rfl) (.set_slices _ _ rfl)
  have hvops : v.ops = [] := by rw [← hv]; rfl
  have hvmsgs : v.sys.msgs = s.sys.msgs := by rw [← hv]; rfl
  have hroom : ((v.sys.slice n).sf.filter (fun f => sfSet f.line = sfSet t0.req.line ∧ f.line ≠ t0.req.line)).length < 16 := by
    rw [hvslice]
    exact Nat.lt_of_le_of_lt (List.length_filter_le _ _) hlen
  generalize hE : sfEx t0.req.line (nget t0.byte 3 4) (v.sys.foreign t0.req.line) (.core h) = E
  generalize hm' : t0.fill n h (v.sys.slice n) .own d.data d.poison 3 = msg
  have hrun : s.ctx.memDone n line.toNat none = (v.fetched n h t0.req d.ddr E msg).settle n line.toNat := by
    rw [M.memDone_found (x := s.ctx) ht hl hst hchan hdone ⟨hds, hdl⟩ herr, M.withData_read (by rw [hk]; rfl), hv, M.answerData_rdOwn hk hw true d.ddr hroom, hE, hm']
    rfl
  have hslice := v.fetched_slice n h t0.req d.ddr E msg
  rw [M.sys_on, Sys.slice_owned, hvslice] at hslice
  have hshow := Sys.SliceWork.showHa (v.fetched n h t0.req d.ddr E msg).sys n
  rw [hrun, M.settle_empty _ n line.toNat (by rw [hslice])]
  refine ⟨?_, ?_, ?_, ?_⟩
  · refine (congrArg Chan.done (congrFun (Sys.chan_of_chans (hshow.1.2 .chans rfl)) m)).trans ?_
    rw [M.fetched_chan, hvchan, hdone]
    simp
  · refine (congrArg Slice.txns (Sys.slice_showHa _ n n)).trans ?_
    rw [hslice]
  · refine (show _ = _ from hshow.1.2 .msgs rfl).trans ?_
    rw [M.fetched_msgs, hvmsgs, ← hm']
    unfold Txn.fill
    rw [hvslice, hl]
  · have hshowed := hshow.1.mono (but' := serveReg n) (parts' := .slices :: .chans :: serveParts) (fun _ hk => serveReg_of_sliceReg hk) (by decide)
    exact State.onlyHart_after (x := (v.fetched n h t0.req d.ddr E msg).on (fun s => s.showHa n)) ((M.ops_on ..).trans ((M.fetched_ops v n h t0.req d.ddr E msg).trans hvops))
      (Sys.FrameHart.trans (.of_frame hvframe rfl) (Sys.FrameHart.trans (v.fetched_frame n h t0.req d.ddr E msg) (.of_frame hshowed rfl)))

/-- Settles O35: the answers with data, without, with poison and with an offer, a controller's answer, and a timeout. -/
theorem snoopAnswers : Obligations.SnoopAnswers := by
  unfold Obligations.SnoopAnswers
  refine ⟨?data, ?clean, ?none, ?more, ?poison, ?offered, ?memory, ?timeout⟩
  case data =>
    intro s n h g line rest t0 e d hlive hm ht hk hl hw hst hwaits hoff hne he hsec hlen hdata hp
    have hwc : t0.waits.contains (.core h) = true := by rw [hwaits]; simp
    have hdone := Txn.answered_last (a := .data d) hwaits hoff nofun
    generalize hu : t0.answered h (.data d) = u at hdone
    have hur : u.req = t0.req := by rw [← hu]; rfl
    have hy := s.steps_taken n rest u (parts := serveParts) rfl
    have hsecy : (s.taken n rest u).sys.sector n line.toNat = some e := by rw [State.taken_sector]; exact hsec
    -- the access: the data into the LLC, and the read answered
    generalize hv : ((s.taken n rest u).on (fun s => s.filled n line.toNat d false)).txnFree n u = v
    have hvslice : v.sys.slice n = { s.sys.slice n with
        txns := []
        sectors := (s.sys.slice n).sectors.map (Sector.takes line.toNat d false) } := by
      rw [← hv, M.slice_free, M.sys_on, Sys.slice_filled, State.taken_slice]
      simp
    have hvstep : s.Steps n serveParts v := by
      rw [← hv]
      exact (hy.on (Sys.FrameSlice.onSlice _ _)).free
    have hvmsgs : v.sys.msgs = rest := by rw [← hv]; rfl
    have hvfor : v.sys.foreign line.toNat = s.sys.foreign line.toNat := by rw [← hv]; rfl
    have hvsf : v.sys.sfGet n u.req.line = some (sfEx line.toNat t0.req.kennel false (.core h)) := by
      unfold Sys.sfGet
      rw [hvslice, hur, hl]
      exact he
    generalize hf : sfEx line.toNat t0.req.kennel false (.core h) = f at hvsf
    have hfst : f.st = 1 := by rw [← hf]; rfl
    have hothers : f.holders.filter (fun q => some q ≠ some (.core g.val)) = [.core h.val] := by
      rw [← hf, sfEx_holders]
      simpa using fun e => hne (Fin.ext e)
    generalize hE : f.withSharer u (v.sys.foreign u.req.line) g = E
    have hEq : E = (sfShare u.req.line (nget u.byte 3 4) (v.sys.foreign u.req.line) [.core h]).share (.core g) := by
      rw [← hE]
      unfold SfEnt.withSharer
      rw [if_neg (by rw [hfst]; decide), hothers]
    have hEl : E.line = line.toNat := by
      rw [hEq]
      exact (congrArg Req.line hur).trans hl
    generalize hm' : u.fill n g (v.sys.slice n) .shared d false 1 = m
    have hacc : (s.taken n rest u).access n u = v.shared n u.req E m := by
      rw [M.access_got (d := d) (p := false) (by rw [← hu]; rfl) (by rw [hur]; exact .inl hk) (by rw [hur, hl, hsecy]; rfl), hur, hl, hv]
      rw [M.answerData_share (g := g) (f := f) (by rw [hur]; exact hk) (by rw [hur]; exact hw) hvsf (by rw [hE, hEl, hur, hl]) (by rw [hvslice]; exact hlen)
        (by rw [hothers]; rfl) false, hE, hm', hur]
      rfl
    refine State.completes_last (a := .data d) (z := v.shared n u.req E m) hlive rfl hm ht hl hst hwc (by rw [hu]; exact hdone) (by rw [hu]; exact hacc)
      (by rw [M.shared_slice, hvslice]) (hvstep.shared u.req E m) fun t hend => ?_
    have hends := hend.slice.trans (M.shared_slice u.req E m)
    rw [hvslice] at hends
    have hstate : t.sys.slState n = s.sys.slState n := hend.state.trans (hvstep.shared u.req E m).state
    have hsector := Sys.sector_filled s.sys n line.toNat d false t.sys hstate (congrArg Slice.sectors hends) hsec
    refine ⟨?_, ?_, ?_, congrArg Slice.txns hends, ?_, hend.only⟩
    · rw [Sys.llcLine_sector hsector (Sector.fill_v ..), Sector.fill_data _ _ _ _ _ _ (by rw [hdata]; exact Nat.mod_lt _ (by decide)), Sector.fill_p]
      rfl
    · rw [hsector, Option.map_some, Sector.fill_d]
      rfl
    · rw [hend.msgs, M.shared_msgs, hvmsgs, ← hm']
      unfold Txn.fill
      rw [hvslice, hur, hl, ← hu]
      rfl
    · rw [Sys.sfGet_of_slice s.sys n line.toNat E (congrArg Slice.sf hends) hEl, Option.map_some, hEq]
      have hbase : bit (sfShare u.req.line (nget u.byte 3 4) (v.sys.foreign u.req.line) [.core h]).tiles.toNat (h / 4) = true := bit_share (v := 0) (by omega)
      exact congrArg some (Prod.ext rfl (Prod.ext (bit_shared hbase) (bit_share (by omega))))
  case clean =>
    intro s n h g line rest t0 e d p hlive hm ht hk hl hw hst hwaits hoff hgot he hst2 hlen hd
    have hwc : t0.waits.contains (.core h) = true := by rw [hwaits]; simp
    have hdone := Txn.answered_last (a := .clean) hwaits hoff nofun
    generalize hu : t0.answered h .clean = u at hdone
    have hur : u.req = t0.req := by rw [← hu]; rfl
    generalize hv : (s.taken n rest u).txnFree n u = v
    have hvslice : v.sys.slice n = { s.sys.slice n with txns := [] } := by rw [← hv, State.taken_free]
    have hvstep : s.Steps n serveParts v := by
      rw [← hv]
      exact (s.steps_taken n rest u rfl).free
    have hvmsgs : v.sys.msgs = rest := by rw [← hv]; rfl
    have hvsf : v.sys.sfGet n u.req.line = some e := by
      unfold Sys.sfGet
      rw [hvslice, hur, hl]
      exact he
    have hE : e.withSharer u (v.sys.foreign u.req.line) g = e.share (.core g) := by
      unfold SfEnt.withSharer
      rw [if_pos hst2]
    have hEl : (e.share (.core g)).line = line.toNat := Sys.sfGet_line (e := e) he
    generalize hm' : u.fill n g (v.sys.slice n) .shared d p 1 = m
    have hacc : (s.taken n rest u).access n u = v.shared n u.req (e.share (.core g)) m := by
      rw [M.access_asks (by rw [← hu]; exact hgot) (by rw [hur, hk]; rfl), State.taken_llcLine, hur, hl, hd]
      dsimp only
      rw [M.withData_read (by rw [hur, hk]; rfl), hv, M.answerData_share (g := g) (f := e) (by rw [hur]; exact hk) (by rw [hur]; exact hw) hvsf (by rw [hE, hEl, hur, hl])
        (by rw [hvslice]; exact hlen) (by rw [hst2, show ((2 : Nat) == 1) = false from rfl, Bool.and_false]) false, hE, hm', hur]
      rfl
    refine State.completes_last (a := .clean) (z := v.shared n u.req (e.share (.core g)) m) hlive rfl hm ht hl hst hwc (by rw [hu]; exact hdone) (by rw [hu]; exact hacc)
      (by rw [M.shared_slice, hvslice]) (hvstep.shared u.req _ m) fun t hend => ?_
    have hends := hend.slice.trans (M.shared_slice u.req (e.share (.core g)) m)
    rw [hvslice] at hends
    refine ⟨?_, congrArg Slice.txns hends, hend.only⟩
    rw [hend.msgs, M.shared_msgs, hvmsgs, ← hm']
    unfold Txn.fill
    rw [hvslice, hur, hl, ← hu]
    rfl
  case none =>
    intro s n h g line rest t0 d p hlive hm ht hk hl hw hst hwaits hoff hgot he hlen hd
    have hwc : t0.waits.contains (.core h) = true := by rw [hwaits]; simp
    have hdone := Txn.answered_last (a := .none) hwaits hoff nofun
    generalize hu : t0.answered h .none = u at hdone
    have hur : u.req = t0.req := by rw [← hu]; rfl
    have hub : u.byte = t0.byte := by rw [← hu]; rfl
    generalize hv : (s.taken n rest u).txnFree n u = v
    have hvslice : v.sys.slice n = { s.sys.slice n with txns := [] } := by rw [← hv, State.taken_free]
    have hvstep : s.Steps n serveParts v := by
      rw [← hv]
      exact (s.steps_taken n rest u rfl).free
    have hvmsgs : v.sys.msgs = rest := by rw [← hv]; rfl
    have hvfor : v.sys.foreign line.toNat = s.sys.foreign line.toNat := by rw [← hv]; rfl
    obtain ⟨f, hf⟩ := Option.isSome_iff_exists.mp he
    have hroom : ((v.sys.slice n).sf.filter (fun f => sfSet f.line = sfSet u.req.line ∧ f.line ≠ u.req.line)).length < 16 := by
      rw [hvslice, hur, hl]
      refine Nat.lt_of_lt_of_le (List.length_filter_lt_length_iff_exists.mpr ⟨f, List.mem_of_find?_eq_some hf, ?_⟩) hlen
      simp [Sys.sfGet_line hf]
    generalize hm' : u.fill n g (v.sys.slice n) .own d p 3 = m
    generalize hE : sfEx line.toNat (nget t0.byte 3 4) (s.sys.foreign line.toNat) (.core g) = E
    have hEl : E.line = line.toNat := by rw [← hE]; rfl
    have hacc : (s.taken n rest u).access n u = v.granted n line.toNat u.req false E m := by
      rw [M.access_asks (by rw [← hu]; exact hgot) (by rw [hur, hk]; rfl), State.taken_llcLine, hur, hl, hd]
      dsimp only
      rw [M.withData_read (by rw [hur, hk]; rfl), hv, M.answerData_rdOwn (g := g) (by rw [hur]; exact hk) (by rw [hur]; exact hw) false false hroom, hm', hur, hl, hub,
        hvfor, hE]
      rfl
    refine State.completes_last (a := .none) (z := v.granted n line.toNat u.req false E m) hlive rfl hm ht hl hst hwc (by rw [hu]; exact hdone) (by rw [hu]; exact hacc)
      (by rw [M.granted_slice, hvslice]) (hvstep.granted u.req E m line.toNat) fun t hend => ?_
    have hends := hend.slice.trans (M.granted_slice u.req E m line.toNat)
    rw [hvslice] at hends
    refine ⟨?_, congrArg Slice.txns hends, Sys.sfGet_of_slice s.sys n line.toNat E (congrArg Slice.sf hends) hEl, hend.only⟩
    rw [hend.msgs, M.granted_msgs, hvmsgs, ← hm']
    unfold Txn.fill
    rw [hvslice, hur, hl, ← hu]
    rfl
  case more =>
    intro s n h line rest t0 u us hlive hm ht hl hst hwaits
    have hwc : t0.waits.contains (.core h) = true := by rw [hwaits]; simp
    have herase : t0.waits.erase (.core h) = u :: us := by rw [hwaits, List.erase_cons_head]
    have hmore : ((t0.answered h .none).waits.isEmpty && (t0.answered h .none).offerOf.isNone) = false := by
      show ((t0.waits.erase (.core h)).isEmpty && _) = false
      rw [herase]
      rfl
    refine State.completes_waits hlive rfl hm ht hl hst hwc hmore fun t hend => ⟨hend.msgs, ?_, hend.only⟩
    rw [hend.slice, State.taken_slice]
    unfold Txn.answered
    rw [herase]
  case poison =>
    intro s n h g line rest t0 hlive hm ht hk hl hw hst hwaits hoff hsec
    have hwc : t0.waits.contains (.core h) = true := by rw [hwaits]; simp
    have hdone := Txn.answered_last (a := .poison) hwaits hoff nofun
    generalize hu : t0.answered h .poison = u at hdone
    have hur : u.req = t0.req := by rw [← hu]; rfl
    obtain ⟨e, hsec⟩ := Option.isSome_iff_exists.mp hsec
    have hsecy : (s.taken n rest u).sys.sector n line.toNat = some e := by rw [State.taken_sector]; exact hsec
    generalize hv : ((s.taken n rest u).on (fun s => s.filled n line.toNat 0 true)).txnFree n u = v
    have hvslice : v.sys.slice n = { s.sys.slice n with
        txns := []
        sectors := (s.sys.slice n).sectors.map (Sector.takes line.toNat 0 true) } := by
      rw [← hv, M.slice_free, M.sys_on, Sys.slice_filled, State.taken_slice]
      simp
    have hvstep : s.Steps n serveParts v := by
      rw [← hv]
      exact ((s.steps_taken n rest u rfl).on (Sys.FrameSlice.onSlice _ _)).free
    have hvmsgs : v.sys.msgs = rest := by rw [← hv]; rfl
    have hacc : (s.taken n rest u).access n u = (v.repaid u.req false).post (u.plain n (v.sys.slice n) 0 true) := by
      rw [M.access_got (d := 0) (p := true) (by rw [← hu]; rfl) (by rw [hur]; exact .inr hk) (by rw [hur, hl, hsecy]; rfl), hur, hl, hv,
        M.answerData_plain (by rw [hur, hk]; rfl), hur]
    have hfill : u.plain n (v.sys.slice n) 0 true = u.fill n g (v.sys.slice n) .nc 0 true 0 := by
      unfold Txn.plain
      rw [hur, hk, hw]
    rw [hfill] at hacc
    have hstep := (hvstep.repaid u.req false).post (u.fill n g (v.sys.slice n) .nc 0 true 0)
    have hslice : ((v.repaid u.req false).post (u.fill n g (v.sys.slice n) .nc 0 true 0)).sys.slice n = v.sys.slice n := M.repaid_slice ..
    have hmsgs : ((v.repaid u.req false).post (u.fill n g (v.sys.slice n) .nc 0 true 0)).sys.msgs = rest ++ [u.fill n g (v.sys.slice n) .nc 0 true 0] :=
      congrArg (· ++ [u.fill n g (v.sys.slice n) .nc 0 true 0]) ((v.repaid_msgs u.req false).trans hvmsgs)
    generalize (v.repaid u.req false).post (u.fill n g (v.sys.slice n) .nc 0 true 0) = z at hacc hstep hslice hmsgs
    rw [hvslice] at hslice
    refine State.completes_last (a := .poison) (z := z) hlive rfl hm ht hl hst hwc (by rw [hu]; exact hdone) (by rw [hu]; exact hacc) (by rw [hslice]) hstep
      fun t hend => ?_
    have hends := hend.slice.trans hslice
    have hsector := Sys.sector_filled s.sys n line.toNat 0 true t.sys (hend.state.trans hstep.state) (congrArg Slice.sectors hends) hsec
    refine ⟨?_, congrArg Slice.txns hends, ?_, hend.only⟩
    · rw [hend.msgs, hmsgs, List.map_append]
      unfold Txn.fill
      rw [hur, hl]
      rfl
    · rw [Sys.llcLine_sector hsector (Sector.fill_v ..), Option.map_some, Sector.fill_p]
      rfl
  case offered =>
    intro s n h line rest t0 hlive hm ht hl hst hwaits
    have hwc : t0.waits.contains (.core h) = true := by rw [hwaits]; simp
    have herase : t0.waits.erase (.core h) = [] := by rw [hwaits, List.erase_cons_head]
    refine State.completes_waits hlive rfl hm ht hl hst hwc (Bool.and_false _) fun t hend => ⟨hend.msgs, ?_, hend.only⟩
    rw [hend.slice, State.taken_slice]
    unfold Txn.answered
    rw [herase]
  case memory =>
    intro s n h line m t0 d hlive ht hk hl hw hst _ hlen hchan hdone hds hdl herr
    exact memDone_grants s n h line m t0 d hlive ht hk hl hw hst hlen hchan hdone hds hdl herr
  case timeout =>
    intro s n line hlive hwait
    refine completes_onSys _ _ s _ hlive rfl ?_
    have hraise : s.sys.snoopTimeout n line.toNat = s.sys.raise (srcTile n 10) := if_pos hwait
    rw [hraise]
    exact ⟨rfl, State.only_withSys (.raise s.sys _ _ rfl)⟩

end Sys2Proof.Machine
end

section
/-!
SUPPORT. What memory holds after a line is stored (R338).
-/
namespace Sys2Proof.Machine

/-! ## Sorted sets -/

theorem mem_setAdd (l : List Nat) (x y : Nat) : y ∈ setAdd l x ↔ y = x ∨ y ∈ l := by
  induction l with
  | nil => simp [setAdd]
  | cons a l ih =>
    unfold setAdd
    split
    · rw [List.mem_cons]
    · split
      · next h => simp [h]
      · rw [List.mem_cons, ih, List.mem_cons, or_left_comm]

theorem not_mem_setOk {l : List Nat} {lo x : Nat} (h : setOk lo l = true) (hx : x < lo) : x ∉ l := by
  induction l generalizing lo with
  | nil => exact List.not_mem_nil
  | cons a l ih =>
    unfold setOk at h
    simp only [Bool.and_eq_true, decide_eq_true_eq] at h
    obtain ⟨ha, h⟩ := h
    rw [List.mem_cons, not_or]
    exact ⟨by omega, ih h (by omega)⟩

theorem mem_setDel {l : List Nat} {lo : Nat} (h : setOk lo l = true) (x y : Nat) : y ∈ setDel l x ↔ y ≠ x ∧ y ∈ l := by
  induction l generalizing lo with
  | nil => simp [setDel]
  | cons a l ih =>
    unfold setOk at h
    simp only [Bool.and_eq_true, decide_eq_true_eq] at h
    have hnot := not_mem_setOk h.2 (Nat.lt_succ_self a)
    unfold setDel
    split
    · next e =>
      subst e
      rw [List.mem_cons]
      refine ⟨fun hy => ⟨fun e => hnot (e ▸ hy), .inr hy⟩, fun ⟨hne, hy⟩ => hy.resolve_left hne⟩
    · next e =>
      rw [List.mem_cons, ih h.2, List.mem_cons]
      refine ⟨fun hy => hy.elim (fun hy => ⟨fun hx => e (hy.symm.trans hx), .inl hy⟩) fun hy => ⟨hy.1, .inr hy.2⟩, fun ⟨hne, hy⟩ => hy.imp_right fun hy => ⟨hne, hy⟩⟩

/-! ## Bytes in order -/

theorem toNat_lt_bytes {n : Nat} (d : BitVec (8 * n)) : d.toNat < 256 ^ n := Nat.lt_of_lt_of_eq d.isLt (Nat.pow_mul 2 8 n)

theorem natLe_length (n v : Nat) : (natLe n v).length = n := by
  induction n generalizing v with
  | zero => rfl
  | succ n ih => rw [natLe, List.length_cons, ih]

theorem leNat_natLe (n v : Nat) (h : v < 256 ^ n) : leNat (natLe n v) = v := by
  induction n generalizing v with
  | zero =>
    rw [natLe, leNat]
    omega
  | succ n ih =>
    rw [natLe, leNat, ih (v / 256) (by rw [Nat.pow_succ] at h; omega), BitVec.toNat_ofNat]
    omega

theorem storeOps_cons (a : Nat) (b : Byte) (bs : List Byte) : storeOps a (b :: bs) = .byte a b :: storeOps (a + 1) bs := by
  unfold storeOps
  rw [List.mapIdx_cons, Nat.add_zero]
  refine congrArg _ (List.ext_getElem (by simp) fun i h _ => ?_)
  simp only [List.getElem_mapIdx]
  rw [Nat.add_right_comm, Nat.add_assoc]

section
variable {m : Mem} {a : Nat} {bs : List Byte}

theorem Mem.apply_cons (m : Mem) (o : MemOp) (ops : List MemOp) : m.apply (o :: ops) = (m.put o).apply ops := rfl

theorem Mem.store_parts (m : Mem) (a : Nat) (bs : List Byte) : (m.apply (storeOps a bs)).sram = m.sram ∧ (m.apply (storeOps a bs)).poison = m.poison := by
  induction bs generalizing a m with
  | nil => exact ⟨rfl, rfl⟩
  | cons b bs ih =>
    rw [storeOps_cons, Mem.apply_cons]
    exact ih _ _

theorem Mem.byte_store_other (h : m.wf = true) {x : Nat} (hx : x < a ∨ a + bs.length ≤ x) : (m.apply (storeOps a bs)).byte x = m.byte x := by
  induction bs generalizing a m with
  | nil => rfl
  | cons b bs ih =>
    rw [List.length_cons] at hx
    rw [storeOps_cons, Mem.apply_cons, ih (m.put_wf _ h) (by omega), Mem.byte_put_other m a x b h (by omega)]

theorem Mem.byte_store (h : m.wf = true) {i : Nat} (hi : i < bs.length) : (m.apply (storeOps a bs)).byte (a + i) = bs[i] := by
  induction bs generalizing a m i with
  | nil => exact absurd hi (Nat.not_lt_zero i)
  | cons b bs ih =>
    rw [storeOps_cons, Mem.apply_cons]
    cases i with
    | zero =>
      show ((m.put (.byte a b)).apply (storeOps (a + 1) bs)).byte a = b
      rw [Mem.byte_store_other (m.put_wf _ h) (.inl (Nat.lt_succ_self a)), Mem.byte_put_self m a b h]
    | succ i =>
      rw [show a + (i + 1) = a + 1 + i from by omega, ih (m.put_wf _ h) (Nat.lt_of_succ_lt_succ hi), List.getElem_cons_succ]

theorem Mem.bytes_store (h : m.wf = true) : (m.apply (storeOps a bs)).bytes a bs.length = bs := by
  refine List.ext_getElem (by simp [Mem.bytes]) fun i h1 h2 => ?_
  have hget : ((m.apply (storeOps a bs)).bytes a bs.length)[i] = (m.apply (storeOps a bs)).byte (a + i) := by simp [Mem.bytes, Mem.byte]
  rw [hget, Mem.byte_store h h2]

/-! ## A line -/

variable (m) (l : Nat) (d : BitVec 512) (p : Bool)

theorem Mem.apply_line : m.apply (lineOps l d p) = (m.apply (storeOps (64 * l) (natLe 64 d.toNat))).put (.poison l p) := by
  unfold lineOps
  rw [Mem.apply_append]
  rfl

theorem Mem.line_put_poison (k : Nat) : (m.put (.poison l p)).line k = m.line k := rfl

theorem Mem.line_stored (h : m.wf = true) : (m.apply (lineOps l d p)).line l = d := by
  have hbytes : (m.apply (storeOps (64 * l) (natLe 64 d.toNat))).bytes (64 * l) 64 = natLe 64 d.toNat := by
    have := Mem.bytes_store (a := 64 * l) (bs := natLe 64 d.toNat) h
    rwa [natLe_length] at this
  rw [Mem.apply_line, Mem.line_put_poison]
  generalize m.apply (storeOps (64 * l) (natLe 64 d.toNat)) = n at hbytes
  unfold Mem.line
  rw [hbytes, leNat_natLe 64 _ (toNat_lt_bytes (n := 64) d), BitVec.ofNat_toNat, BitVec.setWidth_eq]

/-- The poison marks after one is set or cleared. -/
theorem Mem.poisoned_put (h : m.wf = true) (k : Nat) : (m.put (.poison l p)).poisoned k = if k = l then p else m.poisoned k := by
  have hok : setOk 0 m.poison = true := by
    unfold Mem.wf at h
    simp only [Bool.and_eq_true] at h
    exact h.1.2
  have hmem : k ∈ (m.put (.poison l p)).poison ↔ if k = l then p = true else k ∈ m.poison := by
    cases p with
    | true =>
      rw [show (m.put (.poison l true)).poison = setAdd m.poison l from rfl, mem_setAdd]
      split <;> simp [*]
    | false =>
      rw [show (m.put (.poison l false)).poison = setDel m.poison l from rfl, mem_setDel hok]
      split <;> simp [*]
  unfold Mem.poisoned
  refine Bool.eq_iff_iff.mpr ?_
  rw [List.contains_iff_mem, hmem]
  split
  · exact Iff.rfl
  · rw [List.contains_iff_mem]

theorem Mem.poisoned_stored (h : m.wf = true) (k : Nat) : (m.apply (lineOps l d p)).poisoned k = if k = l then p else m.poisoned k := by
  rw [Mem.apply_line, Mem.poisoned_put _ _ _ (m.apply_wf _ h)]
  unfold Mem.poisoned
  rw [(m.store_parts _ _).2]

theorem Mem.byte_stored_other (h : m.wf = true) {x : Nat} (hx : x < 64 * l ∨ 64 * l + 64 ≤ x) : (m.apply (lineOps l d p)).byte x = m.byte x := by
  have hother := Mem.byte_store_other (a := 64 * l) (bs := natLe 64 d.toNat) h (x := x) (by rw [natLe_length]; exact hx)
  rw [Mem.apply_line]
  generalize m.apply (storeOps (64 * l) (natLe 64 d.toNat)) = n at hother
  exact hother

theorem Mem.sram_stored : (m.apply (lineOps l d p)).sram = m.sram := by
  have hparts := (m.store_parts (64 * l) (natLe 64 d.toNat)).1
  rw [Mem.apply_line]
  generalize m.apply (storeOps (64 * l) (natLe 64 d.toNat)) = n at hparts
  exact hparts

end

end Sys2Proof.Machine
end

section
/-!
SUPPORT. What a memory channel does with the reads and writes sent to it (R338, R342, R355, R358).
-/
namespace Sys2Proof.Machine

/-! ## Reads that arrive -/

/-- A channel's oldest sent read has been taken. -/
def Sys.fwdLeft (s : Sys) (m : Nat) (rest : List MRead) : Sys := s.onChan m (fun c => { c with fwd := rest })

/-- A channel has one more answer. -/
def Sys.doneAdd (s : Sys) (m : Nat) (d : MDone) : Sys := s.onChan m (fun c => { c with done := c.done ++ [d] })

/-- A channel has one more read queued. -/
def Sys.readAdd (s : Sys) (m : Nat) (r : MRead) : Sys := s.onChan m (fun c => { c with readQ := c.readQ ++ [r] })

section
variable (s : Sys) (m : Nat)

theorem Sys.chan_doneAdd (d : MDone) : (s.doneAdd m d).chan m = { s.chan m with done := (s.chan m).done ++ [d] } := Sys.chan_onChan_self ..
theorem Sys.chan_readAdd (r : MRead) : (s.readAdd m r).chan m = { s.chan m with readQ := (s.chan m).readQ ++ [r] } := Sys.chan_onChan_self ..
theorem Sys.chan_fwdLeft (rest : List MRead) : (s.fwdLeft m rest).chan m = { s.chan m with fwd := rest } := Sys.chan_onChan_self ..

end

theorem Sys.mcServes_offline {s : Sys} {m : Nat} (h : s.mcServes m = true) : s.mcState m ≠ mcOffline := by
  intro e
  unfold Sys.mcServes at h
  rw [e] at h
  exact absurd h (by decide)

section
variable {x : M} {m : Nat} {r : MRead} {rest : List MRead} (hf : (x.sys.chan m).fwd = r :: rest) (hw : (x.sys.chan m).mwr = [])
include hf hw

/-- A serving channel answers a read of a line in its write queue, and queues another. -/
theorem M.mcRead_serves (hs : x.sys.mcServes m = true) (hp : x.sys.mcState m ≠ mcFailing) : x.mcRead m =
    if (x.sys.chan m).writeQ.any (fun e => e.1 = r.line) then
      x.on (fun s => (s.fwdLeft m rest).doneAdd m ⟨r.line, r.slice, x.mem.line r.line, x.mem.poisoned r.line, false, false⟩)
    else x.on (fun s => (s.fwdLeft m rest).readAdd m r) := by
  have hperf : (x.sys.fwdLeft m rest).performer m = m := if_neg hp
  have hserve : (x.sys.fwdLeft m rest).mcServes m = true := hs
  have hoff : (x.sys.fwdLeft m rest).mcState m ≠ mcOffline := Sys.mcServes_offline hs
  have hq : ((x.sys.fwdLeft m rest).chan m).writeQ = (x.sys.chan m).writeQ := by rw [Sys.chan_fwdLeft]
  unfold M.mcRead
  rw [hf]
  dsimp only
  rw [hw, List.filter_nil, List.foldl_nil, show x.sys.onChan m (fun c => { c with fwd := rest }) = x.sys.fwdLeft m rest from rfl, if_neg hoff, hserve, hperf, hq]
  rfl

/-- A channel that does not serve answers at once. -/
theorem M.mcRead_idle (hs : x.sys.mcServes m = false) : x.mcRead m =
    x.on (fun s => (s.fwdLeft m rest).doneAdd m ⟨r.line, r.slice, 0, x.sys.mcState m == mcOffline, x.sys.mcState m != mcOffline, false⟩) := by
  have hserve : (x.sys.fwdLeft m rest).mcServes m = false := hs
  unfold M.mcRead
  rw [hf]
  dsimp only
  rw [hw, List.filter_nil, List.foldl_nil, show x.sys.onChan m (fun c => { c with fwd := rest }) = x.sys.fwdLeft m rest from rfl, hserve,
    show (x.sys.fwdLeft m rest).mcState m = x.sys.mcState m from rfl]
  by_cases h : x.sys.mcState m = mcOffline
  · rw [if_pos h, h]
    rfl
  · rw [if_neg h, beq_eq_false_iff_ne.mpr h, bne_iff_ne.mpr h]
    rfl

end

/-! ## Writes that arrive -/

/-- A channel takes its oldest write: it is in the write queue, and no longer in the rewrite queue. -/
def Chan.take (c : Chan) (w : MWr) : Chan :=
  ({ c with
      writeQ := if c.writeQ.any (fun e => e.1 = w.line) then c.writeQ else c.writeQ ++ [(w.line, w.slice)]
      rewriteQ := c.rewriteQ.filter (fun e => e.1 ≠ w.line) } : Chan).batched

def Sys.mwrLeft (s : Sys) (m : Nat) (w : MWr) : Sys := s.onChan m (fun c => { c with mwr := c.mwr.filter (fun v => v ≠ w) })

section
variable {x : M} {m : Nat} {w : MWr} {rest : List MWr} (hs : x.sys.mcServes m = true) (hp : x.sys.mcState m ≠ mcFailing) (hpair : x.sys.pair m ≠ 1)
include hs hp hpair

theorem M.acceptWrite_serves : x.acceptWrite m w = (x.on (fun s => (s.mwrLeft m w).onChan m (·.take w))).write (lineOps w.line w.data w.poison) := by
  have hperf : (x.sys.mwrLeft m w).performer m = m := if_neg hp
  have hserve : (x.sys.mwrLeft m w).mcServes m = true := hs
  have hoff : (x.sys.mwrLeft m w).mcState m ≠ mcOffline := Sys.mcServes_offline hs
  have hone : ((x.sys.mwrLeft m w).onChan m (·.take w)).pair m ≠ 1 := hpair
  unfold M.acceptWrite
  dsimp only
  rw [show (x.on (fun s => s.onChan m (fun c => { c with mwr := c.mwr.filter (fun v => v ≠ w) }))).sys = x.sys.mwrLeft m w from rfl, hserve, hperf]
  rw [if_neg (by simpa using hoff)]
  exact congrArg (fun y : Sys => (⟨x.mem0, y, x.ops⟩ : M).write (lineOps w.line w.data w.poison)) (if_neg fun h => hone (of_decide_eq_true (Bool.and_eq_true_iff.mp h).1))

end

/-- A channel with room takes its oldest write, for which no transaction waits. -/
theorem M.mcWrite_serves {x : M} {m : Nat} {w : MWr} {rest : List MWr} (hw : (x.sys.chan m).mwr = w :: rest) (hs : x.sys.mcServes m = true)
    (hp : x.sys.mcState m ≠ mcFailing) (hpair : x.sys.pair m ≠ 1) (hroom : (x.sys.chan m).writeQ.length < 192) (ht : (x.sys.slice w.slice).txns = []) :
    x.mcWrite m = (x.on (fun s => (s.mwrLeft m w).onChan m (·.take w))).write (lineOps w.line w.data w.poison) := by
  have hperf : x.sys.performer m = m := if_neg hp
  have hfull : (decide (192 ≤ (x.sys.chan m).writeQ.length) && !(x.sys.chan m).writeQ.any (fun e => e.1 = w.line)) = false := by
    rw [decide_eq_false (by omega), Bool.false_and]
  unfold M.mcWrite
  rw [hw]
  dsimp only
  rw [hperf, if_neg (fun h => Bool.false_ne_true (hfull.symm.trans h)), M.acceptWrite_serves hs hp hpair]
  rw [show (((x.on (fun s => (s.mwrLeft m w).onChan m (·.take w))).write (lineOps w.line w.data w.poison)).sys.slice w.slice).txns = [] from ht]
  rfl

theorem Chan.take_any (c : Chan) (w : MWr) : (c.take w).writeQ.any (fun e => e.1 = w.line) = true ∧ (c.take w).rewriteQ.any (fun e => e.1 = w.line) = false := by
  refine ⟨?_, ?_⟩
  · show (if c.writeQ.any (fun e => e.1 = w.line) then c.writeQ else c.writeQ ++ [(w.line, w.slice)]).any (fun e => e.1 = w.line) = true
    split
    · next h => exact h
    · simp
  · show (c.rewriteQ.filter (fun e => e.1 ≠ w.line)).any (fun e => e.1 = w.line) = false
    simp

/-! ## Results of reads -/

/-- A channel's oldest issued read has its answer. -/
def Sys.answered (s : Sys) (m : Nat) (rest : List MRead) (d : MDone) : Sys :=
  s.onChan m (fun c => { c with
    issued := rest
    done := c.done ++ [d] })

theorem Sys.chan_answered (s : Sys) (m : Nat) (rest : List MRead) (d : MDone) : (s.answered m rest d).chan m =
    { s.chan m with
        issued := rest
        done := (s.chan m).done ++ [d] } := Sys.chan_onChan_self ..

theorem M.dramRead_issued {x : M} {m : Nat} {q : MRead} {rest : List MRead} (h : (x.sys.chan m).issued = q :: rest) (r : DramResult) : x.dramRead m r =
    x.on (fun s => (s.dramResult m q.line q.ca (x.mem.poisoned q.line) r srcDemand).2.answered m rest
      ⟨q.line, q.slice, x.mem.line q.line, (s.dramResult m q.line q.ca (x.mem.poisoned q.line) r srcDemand).1, false, true⟩) := by
  unfold M.dramRead
  rw [h]
  rfl

theorem Sys.dramResult_clean (s : Sys) (m line ca source : Nat) : s.dramResult m line ca false .clean source = (false, s) := rfl

/-! ## Candidates for repair -/

theorem Sys.chan_put (s : Sys) (f : Fld) (v i j c : Nat) : (s.put f v i j).chan c = s.chan c := rfl

section
variable (s : Sys) (m : Nat) (l : DramLoc)

/-- What a candidate changes of its channel and of registers (R361). -/
theorem Sys.candidate_frame : Sys.FrameChan m s (s.candidate m l) (oneReg m [.MC_PPR_STATUS]) [.fcr] := by
  have hput (t : Sys) (f : Fld) (v : Nat) (h : f.reg = .MC_PPR_STATUS) : Sys.FrameChan m t (t.put f v m) (oneReg m [.MC_PPR_STATUS]) [.fcr] :=
    .of_frame (.put t f v m 0 (by simp [oneReg, h])) rfl
  unfold Sys.candidate
  refine .ite (fun _ => .ite (fun _ => ?_) fun _ => Sys.FrameChan.onChan s _) fun _ => ?_
  · exact ((Sys.FrameChan.onChan s _).trans (hput _ F.MC_PPR_STATUS_STEP _ rfl)).trans (hput _ F.MC_PPR_STATUS_RESULT _ rfl)
  · exact ((((((hput _ F.MC_PPR_STATUS_CANDIDATE _ rfl).trans (hput _ F.MC_PPR_STATUS_CAND_SUB _ rfl)).trans (hput _ F.MC_PPR_STATUS_CAND_RANK _ rfl)).trans
      (hput _ F.MC_PPR_STATUS_CAND_BG _ rfl)).trans (hput _ F.MC_PPR_STATUS_CAND_BANK _ rfl)).trans (hput _ F.MC_PPR_STATUS_CAND_ROW _ rfl)).trans
      (Sys.FrameChan.of_frame (.raise _ _ _ rfl) rfl)

/-- A candidate leaves its channel's queues alone. -/
theorem Sys.candidate_queues : ((s.candidate m l).chan m).rewriteQ = (s.chan m).rewriteQ ∧ ((s.candidate m l).chan m).done = (s.chan m).done := by
  unfold Sys.candidate
  split
  · split
    · rw [Sys.chan_put, Sys.chan_put, Sys.chan_onChan_self]
      exact ⟨rfl, rfl⟩
    · rw [Sys.chan_onChan_self]
      exact ⟨rfl, rfl⟩
  · exact ⟨rfl, rfl⟩

end

/-! ## The error log -/

/-- The event that a log holds. -/
def Sys.logEvent (s : Sys) (m : Nat) (mirrored : Bool) (source device synd : Nat) : Sys :=
  ((((s.put F.MC_ERR_LOG_UE 1 m).put F.MC_ERR_LOG_MIRRORED (b2n mirrored) m).put F.MC_ERR_LOG_SOURCE source m).put F.MC_ERR_LOG_DEVICE device m).put
    F.MC_ERR_LOG_SYNDROME synd m

/-- The place of a log's event. -/
def Sys.logPlace (s : Sys) (m ca : Nat) (l : DramLoc) : Sys :=
  ((((((s.put F.MC_ERR_ADDR_ADDR_VALID 1 m).put F.MC_ERR_ADDR_SUB l.sub m).put F.MC_ERR_ADDR_RANK l.rank m).put F.MC_ERR_ADDR_BG l.bg m).put
    F.MC_ERR_ADDR_BANK l.bank m).put F.MC_ERR_ADDR_ROW l.row m).put F.MC_ERR_ADDR_LINE (ca / 64) m

section
variable (s : Sys) (m ca : Nat) (l : DramLoc) (mirrored : Bool) (source device synd : Nat)

/-- An uncorrectable event replaces a corrected one, and else sets OVERFLOW (R374). -/
theorem Sys.mcLog_ue : s.mcLog m ca true mirrored false source device synd =
    if s.on F.MC_ERR_LOG_VALID m && s.on F.MC_ERR_LOG_UE m then s.put F.MC_ERR_LOG_OVERFLOW 1 m
    else ((s.put F.MC_ERR_LOG_VALID 1 m).logEvent m mirrored source device synd).logPlace m ca (s.dramLoc m ca) := rfl

theorem Sys.logPlace_frame : s.Frame (s.logPlace m ca l) (oneReg m [.MC_ERR_ADDR]) [] := by
  have hput (t : Sys) (f : Fld) (v : Nat) (h : f.reg = .MC_ERR_ADDR) : t.Frame (t.put f v m) (oneReg m [.MC_ERR_ADDR]) [] := .put t f v m 0 (by simp [oneReg, h])
  exact ((((((hput s F.MC_ERR_ADDR_ADDR_VALID _ rfl).trans (hput _ F.MC_ERR_ADDR_SUB _ rfl)).trans (hput _ F.MC_ERR_ADDR_RANK _ rfl)).trans
    (hput _ F.MC_ERR_ADDR_BG _ rfl)).trans (hput _ F.MC_ERR_ADDR_BANK _ rfl)).trans (hput _ F.MC_ERR_ADDR_ROW _ rfl)).trans (hput _ F.MC_ERR_ADDR_LINE _ rfl)

theorem Sys.logEvent_frame : s.Frame (s.logEvent m mirrored source device synd) (oneReg m [.MC_ERR_LOG]) [] := by
  have hput (t : Sys) (f : Fld) (v : Nat) (h : f.reg = .MC_ERR_LOG) : t.Frame (t.put f v m) (oneReg m [.MC_ERR_LOG]) [] := .put t f v m 0 (by simp [oneReg, h])
  exact ((((hput s F.MC_ERR_LOG_UE _ rfl).trans (hput _ F.MC_ERR_LOG_MIRRORED _ rfl)).trans (hput _ F.MC_ERR_LOG_SOURCE _ rfl)).trans
    (hput _ F.MC_ERR_LOG_DEVICE _ rfl)).trans (hput _ F.MC_ERR_LOG_SYNDROME _ rfl)

theorem Sys.logPlace_rf (f : Fld) (h : f.reg = .MC_ERR_LOG) : (s.logPlace m ca l).rf f m = s.rf f m :=
  (s.logPlace_frame m ca l).rf f m 0 (by simp [oneReg, h])

theorem Sys.logEvent_valid : (s.logEvent m mirrored source device synd).rf F.MC_ERR_LOG_VALID m = s.rf F.MC_ERR_LOG_VALID m := by
  unfold Sys.logEvent
  rw [Sys.rf_put_bits _ F.MC_ERR_LOG_SYNDROME _ _ _ _ _ _ (by decide), Sys.rf_put_bits _ F.MC_ERR_LOG_DEVICE _ _ _ _ _ _ (by decide),
    Sys.rf_put_bits _ F.MC_ERR_LOG_SOURCE _ _ _ _ _ _ (by decide), Sys.rf_put_bits _ F.MC_ERR_LOG_MIRRORED _ _ _ _ _ _ (by decide),
    Sys.rf_put_bits _ F.MC_ERR_LOG_UE _ _ _ _ _ _ (by decide)]

theorem Sys.logEvent_ue : (s.logEvent m mirrored source device synd).rf F.MC_ERR_LOG_UE m = 1 := by
  unfold Sys.logEvent
  rw [Sys.rf_put_bits _ F.MC_ERR_LOG_SYNDROME _ _ _ _ _ _ (by decide), Sys.rf_put_bits _ F.MC_ERR_LOG_DEVICE _ _ _ _ _ _ (by decide),
    Sys.rf_put_bits _ F.MC_ERR_LOG_SOURCE _ _ _ _ _ _ (by decide), Sys.rf_put_bits _ F.MC_ERR_LOG_MIRRORED _ _ _ _ _ _ (by decide)]
  exact Sys.rf_put_self _ _ _ _ _ (by decide)

theorem Sys.logEvent_mirrored : (s.logEvent m mirrored source device synd).rf F.MC_ERR_LOG_MIRRORED m = b2n mirrored := by
  unfold Sys.logEvent
  rw [Sys.rf_put_bits _ F.MC_ERR_LOG_SYNDROME _ _ _ _ _ _ (by decide), Sys.rf_put_bits _ F.MC_ERR_LOG_DEVICE _ _ _ _ _ _ (by decide),
    Sys.rf_put_bits _ F.MC_ERR_LOG_SOURCE _ _ _ _ _ _ (by decide)]
  exact (Sys.rf_put_self _ _ _ _ _ (by decide)).trans (by cases mirrored <;> rfl)

theorem Sys.logEvent_source : (s.logEvent m mirrored source device synd).rf F.MC_ERR_LOG_SOURCE m = source % 16 := by
  unfold Sys.logEvent
  rw [Sys.rf_put_bits _ F.MC_ERR_LOG_SYNDROME _ _ _ _ _ _ (by decide), Sys.rf_put_bits _ F.MC_ERR_LOG_DEVICE _ _ _ _ _ _ (by decide)]
  exact Sys.rf_put_self _ _ _ _ _ (by decide)

theorem Sys.mcLog_frame : s.Frame (s.mcLog m ca true mirrored false source device synd) (oneReg m [.MC_ERR_LOG, .MC_ERR_ADDR]) [] := by
  have hreg {l : List Reg} (hl : l ⊆ [.MC_ERR_LOG, .MC_ERR_ADDR]) (k : RK) (hk : oneReg m l k = true) : oneReg m [.MC_ERR_LOG, .MC_ERR_ADDR] k = true := by
    simp only [oneReg, Bool.and_eq_true, List.contains_iff_mem] at hk ⊢
    exact ⟨hl hk.1, hk.2⟩
  rw [Sys.mcLog_ue]
  refine .ite (fun _ => .put s F.MC_ERR_LOG_OVERFLOW 1 m 0 (by simp [oneReg])) fun _ => ?_
  exact ((Sys.Frame.put s F.MC_ERR_LOG_VALID 1 m 0 (by simp [oneReg])).trans ((Sys.logEvent_frame _ m mirrored source device synd).regs_mono (hreg (by decide)))).trans
    ((Sys.logPlace_frame _ m ca _).regs_mono (hreg (by decide)))

/-- After an uncorrectable event the log is valid. -/
theorem Sys.mcLog_valid : (s.mcLog m ca true mirrored false source device synd).rf F.MC_ERR_LOG_VALID m = 1 := by
  rw [Sys.mcLog_ue]
  split
  · next h =>
    rw [Sys.rf_put_bits _ F.MC_ERR_LOG_OVERFLOW _ _ _ _ _ _ (by decide)]
    exact beq_iff_eq.mp (Bool.and_eq_true_iff.mp h).1
  · rw [Sys.logPlace_rf _ _ _ _ _ rfl, Sys.logEvent_valid]
    exact Sys.rf_put_self _ _ _ _ _ (by decide)

end

/-- The event that a log takes which holds none. -/
theorem Sys.mcLog_first {s : Sys} {m : Nat} (h : s.on F.MC_ERR_LOG_VALID m = false) (ca : Nat) (mirrored : Bool) (source device synd : Nat) :
    (s.mcLog m ca true mirrored false source device synd).rf F.MC_ERR_LOG_UE m = 1 ∧
    (s.mcLog m ca true mirrored false source device synd).rf F.MC_ERR_LOG_MIRRORED m = b2n mirrored ∧
    (s.mcLog m ca true mirrored false source device synd).rf F.MC_ERR_LOG_SOURCE m = source % 16 := by
  rw [Sys.mcLog_ue, h, Bool.false_and, if_neg Bool.false_ne_true, Sys.logPlace_rf _ _ _ _ _ rfl, Sys.logPlace_rf _ _ _ _ _ rfl, Sys.logPlace_rf _ _ _ _ _ rfl]
  exact ⟨Sys.logEvent_ue .., Sys.logEvent_mirrored .., Sys.logEvent_source ..⟩

/-- A line that cannot be corrected, in no rank with a mark and with no good mirror, is poison (R358). -/
theorem Sys.dramResult_bad {s : Sys} {m ca : Nat} {pb : Bool} (line : Nat) (sy : Byte) (source : Nat)
    (hmk : (s.chan m).mark (s.dramLoc m ca).sub (s.dramLoc m ca).rank = 15) (hp : s.pair m ≠ 1 ∨ pb = true) :
    s.dramResult m line ca false (.bad pb sy) source =
      (true, (((((s.bump F.MC_ERR_CNT_UE m).candidate m (s.dramLoc m ca)).mcLog m ca true false false source 15 sy.toNat).queueRewrite m line true).raise
        (srcChan m 1))) := by
  have hpair : (((s.bump F.MC_ERR_CNT_UE m).candidate m (s.dramLoc m ca)).pair m) = s.pair m :=
    (((s.bump F.MC_ERR_CNT_UE m).candidate_frame m (s.dramLoc m ca)).1.rf F.MC_STATUS_PAIR m 0 (by simp [oneReg])).trans
      (Sys.rf_put_reg s F.MC_ERR_CNT_UE F.MC_STATUS_PAIR _ _ _ _ _ (by decide))
  have hmirror : (decide (((s.bump F.MC_ERR_CNT_UE m).candidate m (s.dramLoc m ca)).pair m = 1) && !pb) = false := by
    rw [hpair]
    rcases hp with h | h
    · rw [decide_eq_false h, Bool.false_and]
    · rw [h, Bool.not_true, Bool.and_false]
  unfold Sys.dramResult
  dsimp only
  rw [hmk]
  exact (if_neg Bool.false_ne_true).trans (if_neg fun h => Bool.false_ne_true (hmirror.symm.trans h))

end Sys2Proof.Machine
end

section
/-!
PROOFS. The queues of a memory channel (O39).
-/
namespace Sys2Proof.Machine

/-- A bit that is one in either word is one in both together. -/
theorem fget_or_one {w : Word} {lo : Nat} (old : Word) (h : fget w lo 1 = 1) : fget (old ||| w) lo 1 = 1 := by
  have hold : fget old lo 1 < 2 := (BitVec.extractLsb' lo 1 old).isLt
  have hor : fget (old ||| w) lo 1 = fget old lo 1 ||| fget w lo 1 := by
    unfold fget
    rw [BitVec.extractLsb'_or, BitVec.toNat_or]
  rw [hor, h]
  generalize fget old lo 1 = a at hold
  interval_cases a <;> rfl

/-! ## A command slot -/

/-- The ages that a command slot counts. -/
def Sys.aged (s : Sys) (m sub clocks : Nat) : Sys := s.onChan m (fun c => { c with
  readQ := c.readQ.map (fun q => if (s.dramLoc m q.ca).sub = sub then { q with age := q.age + clocks } else q)
  rowsOpen := c.rowsOpen.map (fun (o : OpenRow) => if o.loc.sub = sub then { o with quiet := o.quiet + clocks } else o) })

theorem DramLoc.sameBank_self (l : DramLoc) : l.sameBank l = true := by simp [DramLoc.sameBank]

theorem Chan.need_open {c : Chan} {o : OpenRow} (h : c.rowsOpen = [o]) : c.need o.loc = .column := by
  unfold Chan.need Chan.openRow
  rw [h, List.find?_cons_of_pos (p := fun r : OpenRow => r.loc.sameBank o.loc) (DramLoc.sameBank_self o.loc)]
  exact if_pos rfl

/-- A slot whose only request is a read of the open row, that the timing allows, sends it (R339, R340). -/
theorem Sys.slot_hit {s : Sys} {m sub k : Nat} {ready : List (Nat × Nat × Nat)} {q : MRead} {o : OpenRow} (hserve : s.mcServes m = true) (hwin : s.inWindow = false)
    (hread : (s.chan m).readQ = [q]) (hwrite : (s.chan m).writeQ = []) (hbatch : (s.chan m).batch = false) (hrow : (s.chan m).rowsOpen = [o])
    (hloc : o.loc = s.dramLoc m q.ca) (hsub : o.loc.sub = sub) (hready : ready.contains o.loc.bankOf = true) :
    s.slot m sub k ready = (s.aged m sub k).slotColumn m ⟨some { q with age := q.age + k }, q.line, o.loc⟩ false := by
  have hchan : (s.aged m sub k).chan m = { s.chan m with
      readQ := [{ q with age := q.age + k }]
      rowsOpen := [{ o with quiet := o.quiet + k }] } := by
    unfold Sys.aged
    rw [Sys.chan_onChan_self, hread, hrow, List.map_singleton, List.map_singleton, if_pos (hloc ▸ hsub), if_pos hsub]
  have hdram : (s.aged m sub k).dramLoc m q.ca = o.loc := hloc.symm
  generalize hr : (⟨some { q with age := q.age + k }, q.line, o.loc⟩ : SlotReq) = r
  have hrloc : r.loc = o.loc := by rw [← hr]
  have hreads : (s.aged m sub k).slotReads m sub = [r] := by
    unfold Sys.slotReads
    rw [hchan]
    dsimp only
    rw [List.map_singleton]
    dsimp only
    rw [hdram, hr, List.filter_cons_of_pos (by rw [hrloc]; simpa using hsub), List.filter_nil]
  have hwrites : (s.aged m sub k).slotWrites m sub = [] := by
    unfold Sys.slotWrites
    rw [hchan]
    dsimp only
    rw [hwrite]
    rfl
  have hneed : ((s.aged m sub k).chan m).need r.loc = .column := by
    rw [hrloc]
    exact Chan.need_open (o := { o with quiet := o.quiet + k }) (congrArg Chan.rowsOpen hchan)
  have hnobatch : ((s.aged m sub k).chan m).batch = false := by rw [hchan]; exact hbatch
  have hcan : r.loc.bankOf ∈ ready := List.contains_iff_mem.mp (by rw [hrloc]; exact hready)
  unfold Sys.slot
  rw [if_neg (by rw [hwin, hserve]; decide)]
  dsimp only
  rw [show s.onChan m _ = s.aged m sub k from rfl, hreads, hwrites]
  generalize s.aged m sub k = a at hneed hnobatch
  generalize a.chan m = c at hneed hnobatch
  simp only [List.append_nil, List.any_cons, List.any_nil, hneed, hnobatch]
  by_cases hurgent : a.urgent m r = true
  · simp [hurgent, hcan, hneed]
  · simp [hurgent, hcan, hneed]

/-- A read's column command: its row's run ends where no other row is wanted, and the read awaits its burst. -/
theorem Sys.chan_slotColumn {s : Sys} {m : Nat} {q : MRead} {r : SlotReq} {o : OpenRow} (hq : r.read = some q) (hrow : (s.chan m).rowsOpen = [o])
    (hsame : o.loc.sameBank r.loc = true) : (s.slotColumn m r false).chan m = { s.chan m with
      rowsOpen := [⟨o.loc, 0, 0⟩]
      readQ := (s.chan m).readQ.erase q
      issued := (s.chan m).issued ++ [q] } := by
  unfold Sys.slotColumn
  rw [Sys.chan_onChan_self, hq, hrow]
  dsimp only
  rw [List.map_singleton, if_pos hsame]
  rfl

/-! ## The rewrite queue, and a line that cannot be corrected -/

section
variable (s : Sys) (m l : Nat) (poison : Bool)

/-- With room the rewrite queue holds the line, and nothing else changes. -/
theorem Sys.queueRewrite_room (h : (s.chan m).rewriteQ.length < 16) : ((s.queueRewrite m l poison).chan m).rewriteQ.any (fun e => e.1 = l) = true ∧
    ((s.queueRewrite m l poison).chan m).done = (s.chan m).done ∧ Sys.FrameChan m s (s.queueRewrite m l poison) (fun _ => false) [] := by
  have hto (c : Chan) : s.chanTo m c = s.onChan m (fun _ => c) := rfl
  unfold Sys.queueRewrite
  by_cases hany : (s.chan m).rewriteQ.any (fun e => e.1 = l) = true
  · rw [if_pos hany]
    exact ⟨hany, rfl, .refl s⟩
  · rw [if_neg hany, if_pos h, hto, Sys.chan_onChan_self]
    exact ⟨by simp, rfl, Sys.FrameChan.onChan s _⟩

end

/-- What becomes of a channel and its registers when a line cannot be corrected. -/
def Sys.badLine (s : Sys) (m line ca : Nat) (source synd : Nat) : Sys :=
  ((((s.bump F.MC_ERR_CNT_UE m).candidate m (s.dramLoc m ca)).mcLog m ca true false false source 15 synd).queueRewrite m line true).raise (srcChan m 1)

section
variable {s : Sys} {m : Nat} (line ca source synd : Nat) (hq : (s.chan m).rewriteQ.length < 16) (hv : s.on F.MC_ERR_LOG_VALID m = false)
include hq

theorem Sys.badLine_chan : ((s.badLine m line ca source synd).chan m).rewriteQ.any (fun e => e.1 = line) = true ∧
    ((s.badLine m line ca source synd).chan m).done = (s.chan m).done := by
  obtain ⟨hre, hdone⟩ := (s.bump F.MC_ERR_CNT_UE m).candidate_queues m (s.dramLoc m ca)
  have hlog := ((s.bump F.MC_ERR_CNT_UE m).candidate m (s.dramLoc m ca)).mcLog_frame m ca false source 15 synd
  have hchan := congrFun (Sys.chan_of_chans (hlog.2 .chans rfl)) m
  obtain ⟨hany, hsame, -⟩ := Sys.queueRewrite_room (((s.bump F.MC_ERR_CNT_UE m).candidate m (s.dramLoc m ca)).mcLog m ca true false false source 15 synd) m line true
    (by rw [hchan, hre]; exact hq)
  exact ⟨hany, hsame.trans ((congrArg Chan.done hchan).trans hdone)⟩

theorem Sys.badLine_frame : Sys.FrameChan m s (s.badLine m line ca source synd) (oneReg m [.MC_ERR_LOG, .MC_ERR_ADDR, .MC_ERR_CNT, .MC_PPR_STATUS]) [.fcr] := by
  have hreg {l : List Reg} (hl : l ⊆ [.MC_ERR_LOG, .MC_ERR_ADDR, .MC_ERR_CNT, .MC_PPR_STATUS]) (k : RK) (hk : oneReg m l k = true) :
      oneReg m [.MC_ERR_LOG, .MC_ERR_ADDR, .MC_ERR_CNT, .MC_PPR_STATUS] k = true := by
    simp only [oneReg, Bool.and_eq_true, List.contains_iff_mem] at hk ⊢
    exact ⟨hl hk.1, hk.2⟩
  obtain ⟨hre, -⟩ := (s.bump F.MC_ERR_CNT_UE m).candidate_queues m (s.dramLoc m ca)
  have hlog := ((s.bump F.MC_ERR_CNT_UE m).candidate m (s.dramLoc m ca)).mcLog_frame m ca false source 15 synd
  have hchan := congrFun (Sys.chan_of_chans (hlog.2 .chans rfl)) m
  obtain ⟨-, -, hroom⟩ := Sys.queueRewrite_room (((s.bump F.MC_ERR_CNT_UE m).candidate m (s.dramLoc m ca)).mcLog m ca true false false source 15 synd) m line true
    (by rw [hchan, hre]; exact hq)
  have hcount : Sys.FrameChan m s (s.bump F.MC_ERR_CNT_UE m) (oneReg m [.MC_ERR_LOG, .MC_ERR_ADDR, .MC_ERR_CNT, .MC_PPR_STATUS]) [.fcr] :=
    .of_frame (.bump s _ m 0 (by simp [oneReg])) rfl
  have hcand := ((s.bump F.MC_ERR_CNT_UE m).candidate_frame m (s.dramLoc m ca)).mono (but' := oneReg m [.MC_ERR_LOG, .MC_ERR_ADDR, .MC_ERR_CNT, .MC_PPR_STATUS]) (parts' := [.fcr]) (hreg (by decide)) (List.Subset.refl _)
  exact (((hcount.trans hcand).trans (Sys.FrameChan.of_frame ((hlog.regs_mono (hreg (by decide))).parts_mono (List.nil_subset _)) rfl)).trans (hroom.mono nofun (List.nil_subset _))).trans
    (Sys.FrameChan.of_frame (.raise _ _ _ rfl) rfl)

theorem Sys.badLine_count : (s.badLine m line ca source synd).rf F.MC_ERR_CNT_UE m = min (2 ^ F.MC_ERR_CNT_UE.wd - 1) (s.rf F.MC_ERR_CNT_UE m + 1) := by
  obtain ⟨hre, -⟩ := (s.bump F.MC_ERR_CNT_UE m).candidate_queues m (s.dramLoc m ca)
  have hlog := ((s.bump F.MC_ERR_CNT_UE m).candidate m (s.dramLoc m ca)).mcLog_frame m ca false source 15 synd
  have hchan := congrFun (Sys.chan_of_chans (hlog.2 .chans rfl)) m
  obtain ⟨-, -, hroom⟩ := Sys.queueRewrite_room (((s.bump F.MC_ERR_CNT_UE m).candidate m (s.dramLoc m ca)).mcLog m ca true false false source 15 synd) m line true
    (by rw [hchan, hre]; exact hq)
  have hcand := (s.bump F.MC_ERR_CNT_UE m).candidate_frame m (s.dramLoc m ca)
  calc (s.badLine m line ca source synd).rf F.MC_ERR_CNT_UE m
      = (((s.bump F.MC_ERR_CNT_UE m).candidate m (s.dramLoc m ca)).mcLog m ca true false false source 15 synd).rf F.MC_ERR_CNT_UE m :=
        hroom.1.rf F.MC_ERR_CNT_UE m 0 rfl
    _ = ((s.bump F.MC_ERR_CNT_UE m).candidate m (s.dramLoc m ca)).rf F.MC_ERR_CNT_UE m := hlog.rf _ _ _ (by simp [oneReg])
    _ = (s.bump F.MC_ERR_CNT_UE m).rf F.MC_ERR_CNT_UE m := hcand.1.rf _ _ _ (by simp [oneReg])
    _ = _ := Sys.rf_bump _ _ _ _ (by decide)

include hv in
theorem Sys.badLine_log : (s.badLine m line ca source synd).rf F.MC_ERR_LOG_VALID m = 1 ∧ (s.badLine m line ca source synd).rf F.MC_ERR_LOG_UE m = 1 ∧
    (s.badLine m line ca source synd).rf F.MC_ERR_LOG_MIRRORED m = 0 ∧ (s.badLine m line ca source synd).rf F.MC_ERR_LOG_SOURCE m = source % 16 := by
  obtain ⟨hre, -⟩ := (s.bump F.MC_ERR_CNT_UE m).candidate_queues m (s.dramLoc m ca)
  have hcand := (s.bump F.MC_ERR_CNT_UE m).candidate_frame m (s.dramLoc m ca)
  have hvalid : ((s.bump F.MC_ERR_CNT_UE m).candidate m (s.dramLoc m ca)).on F.MC_ERR_LOG_VALID m = false := by
    unfold Sys.on at hv ⊢
    rw [hcand.1.rf F.MC_ERR_LOG_VALID m 0 (by simp [oneReg]), (Sys.Frame.bump s F.MC_ERR_CNT_UE m 0 (but := oneReg m [.MC_ERR_CNT]) (parts := []) (by simp [oneReg])).rf
      F.MC_ERR_LOG_VALID m 0 (by simp [oneReg])]
    exact hv
  generalize hu : (s.bump F.MC_ERR_CNT_UE m).candidate m (s.dramLoc m ca) = u at hre hvalid
  have hlog := u.mcLog_frame m ca false source 15 synd
  have hchan := congrFun (Sys.chan_of_chans (hlog.2 .chans rfl)) m
  obtain ⟨-, -, hroom⟩ := Sys.queueRewrite_room (u.mcLog m ca true false false source 15 synd) m line true (by rw [hchan, hre]; exact hq)
  have hrf (f : Fld) : (s.badLine m line ca source synd).rf f m = (u.mcLog m ca true false false source 15 synd).rf f m := by
    rw [← hu] at hroom ⊢
    exact hroom.1.rf f m 0 rfl
  obtain ⟨hue, hmir, hsrc⟩ := Sys.mcLog_first hvalid ca false source 15 synd
  rw [hrf, hrf, hrf, hrf]
  exact ⟨u.mcLog_valid m ca false source 15 synd, hue, hmir, hsrc⟩

end

/-- A read whose line cannot be corrected is answered with poison. -/
theorem M.dramRead_bad {x : M} {m : Nat} {q : MRead} {rest : List MRead} {pb : Bool} (hi : (x.sys.chan m).issued = q :: rest) (hp : x.mem.poisoned q.line = false)
    (hpair : x.sys.pair m ≠ 1 ∨ pb = true) (hmk : (x.sys.chan m).mark (x.sys.dramLoc m q.ca).sub (x.sys.dramLoc m q.ca).rank = 15) (sy : Byte) :
    x.dramRead m (.bad pb sy) = ⟨x.mem0, (x.sys.badLine m q.line q.ca srcDemand sy.toNat).answered m rest ⟨q.line, q.slice, x.mem.line q.line, true, false, true⟩, x.ops⟩ := by
  have hbad : x.sys.dramResult m q.line q.ca false (.bad pb sy) srcDemand = (true, x.sys.badLine m q.line q.ca srcDemand sy.toNat) :=
    Sys.dramResult_bad q.line sy srcDemand hmk hpair
  rw [M.dramRead_issued hi, hp]
  unfold M.on
  dsimp only
  rw [hbad]

/-- Settles O39: reads and writes sent to a channel, results, a command slot, link errors, and the SPD hub's read. -/
theorem mcQueues : Obligations.McQueues := by
  unfold Obligations.McQueues
  refine ⟨?read, ?refused, ?write, ?clean, ?bad, ?slot, ?link, ?spd, ?spdDone⟩
  case read =>
    intro s m r rest hl hf hw hs hp
    refine completes_onM _ _ s _ hl rfl ?_
    rw [M.mcRead_serves (x := s.ctx) hf hw hs hp]
    cases hq : (s.sys.chan m).writeQ.any (fun e => e.1 = r.line) with
    | true =>
      rw [show (s.ctx.sys.chan m).writeQ.any (fun e => e.1 = r.line) = true from hq, if_pos rfl]
      have hchan : ((s.sys.fwdLeft m rest).doneAdd m ⟨r.line, r.slice, s.mem.line r.line, s.mem.poisoned r.line, false, false⟩).chan m =
          { s.sys.chan m with
              fwd := rest
              done := (s.sys.chan m).done ++ [⟨r.line, r.slice, s.mem.line r.line, s.mem.poisoned r.line, false, false⟩] } := by
        rw [Sys.chan_doneAdd, Sys.chan_fwdLeft]
      refine ⟨congrArg Chan.fwd hchan, nofun, fun _ => ⟨(congrArg Chan.readQ hchan).trans rfl, congrArg Chan.done hchan⟩, ?_⟩
      exact State.onlyChan_after rfl ((Sys.FrameChan.onChan _ _).trans (Sys.FrameChan.onChan _ _))
    | false =>
      rw [show (s.ctx.sys.chan m).writeQ.any (fun e => e.1 = r.line) = false from hq, if_neg Bool.false_ne_true]
      have hchan : ((s.sys.fwdLeft m rest).readAdd m r).chan m =
          { s.sys.chan m with
              fwd := rest
              readQ := (s.sys.chan m).readQ ++ [r] } := by
        rw [Sys.chan_readAdd, Sys.chan_fwdLeft]
      refine ⟨congrArg Chan.fwd hchan, fun _ => ⟨congrArg Chan.readQ hchan, (congrArg Chan.done hchan).trans rfl⟩, nofun, ?_⟩
      exact State.onlyChan_after rfl ((Sys.FrameChan.onChan _ _).trans (Sys.FrameChan.onChan _ _))
  case refused =>
    intro s m r rest hl hf hw hs
    refine completes_onM _ _ s _ hl rfl ?_
    rw [M.mcRead_idle (x := s.ctx) hf hw hs]
    generalize hd : (⟨r.line, r.slice, 0, s.ctx.sys.mcState m == mcOffline, s.ctx.sys.mcState m != mcOffline, false⟩ : MDone) = d
    have hchan : ((s.sys.fwdLeft m rest).doneAdd m d).chan m =
        { s.sys.chan m with
            fwd := rest
            done := (s.sys.chan m).done ++ [d] } := by
      rw [Sys.chan_doneAdd, Sys.chan_fwdLeft]
    refine ⟨congrArg Chan.fwd hchan, (congrArg Chan.done hchan).trans ?_, ?_⟩
    · rw [← hd]
      rfl
    · exact State.onlyChan_after rfl ((Sys.FrameChan.onChan _ _).trans (Sys.FrameChan.onChan _ _))
  case write =>
    intro s m w rest hl hinv hmw hrest hserve hfail hpair hroom ht
    refine completes_onM _ _ s _ hl rfl ?_
    rw [M.mcWrite_serves (x := s.ctx) hmw hserve hfail hpair hroom ht]
    have hleft : (s.sys.chan m).mwr.filter (fun v => v ≠ w) = rest := by
      rw [hmw, List.filter_cons_of_neg (by simp), List.filter_eq_self]
      intro v hv
      have hne : v ≠ w := fun e => Bool.false_ne_true (hrest.symm.trans (List.contains_iff_mem.mpr (e ▸ hv)))
      simpa using hne
    have hmwr : (s.sys.mwrLeft m w).chan m = { s.sys.chan m with mwr := rest } := by
      unfold Sys.mwrLeft
      rw [Sys.chan_onChan_self, hleft]
    have hchan : ((s.sys.mwrLeft m w).onChan m (·.take w)).chan m = ({ s.sys.chan m with mwr := rest } : Chan).take w := by
      rw [Sys.chan_onChan_self, hmwr]
    have hother (c : Nat) (hc : c ≠ m) : ((s.sys.mwrLeft m w).onChan m (·.take w)).chan c = s.sys.chan c :=
      (Sys.chan_onChan_other _ _ _ hc).trans (Sys.chan_onChan_other _ _ _ hc)
    obtain ⟨hany, hre⟩ := ({ s.sys.chan m with mwr := rest } : Chan).take_any w
    have hline := s.mem.line_stored w.line w.data w.poison hinv
    have hpois := s.mem.poisoned_stored w.line w.data w.poison hinv
    have hbyte (a : Nat) (ha : a < 64 * w.line ∨ 64 * w.line + 64 ≤ a) := s.mem.byte_stored_other w.line w.data w.poison hinv ha
    have hsram := s.mem.sram_stored w.line w.data w.poison
    generalize lineOps w.line w.data w.poison = ops at hline hpois hbyte hsram ⊢
    have hsys : (s.after ((s.ctx.on (fun s => (s.mwrLeft m w).onChan m (·.take w))).write ops)).sys = (s.sys.mwrLeft m w).onChan m (·.take w) := rfl
    have hmem : (s.after ((s.ctx.on (fun s => (s.mwrLeft m w).onChan m (·.take w))).write ops)).mem = s.mem.apply ops := rfl
    rw [hsys, hmem, hchan]
    refine ⟨rfl, hany, hre, hline, (hpois w.line).trans (if_pos rfl), rfl, ?_, fun c hc => hother c fun e => hc (Fin.ext e), ?_⟩
    · refine ⟨rfl, hsram, hbyte, fun l hl => (hpois l).trans (if_neg (by omega))⟩
    · exact Sys.Frame.trans (.set_chans s.sys _ rfl) (.set_chans _ _ rfl)
  case clean =>
    intro s m q rest hl hi hp
    refine completes_onM _ _ s _ hl rfl ?_
    rw [M.dramRead_issued (x := s.ctx) hi]
    have hp' : s.ctx.mem.poisoned q.line = false := hp
    rw [hp']
    have hchan := Sys.chan_answered s.sys m rest ⟨q.line, q.slice, s.mem.line q.line, false, false, true⟩
    exact ⟨congrArg Chan.issued hchan, congrArg Chan.done hchan, State.onlyChan_after rfl (Sys.FrameChan.onChan _ _)⟩
  case bad =>
    intro s m q rest pb sy hl hi hp hpair hmk hlen hvalid
    refine completes_onM _ _ s _ hl rfl ?_
    rw [M.dramRead_bad (x := s.ctx) hi hp hpair hmk sy]
    have hchan := Sys.chan_answered (s.sys.badLine m q.line q.ca srcDemand sy.toNat) m rest ⟨q.line, q.slice, s.mem.line q.line, true, false, true⟩
    obtain ⟨hany, hdone⟩ := Sys.badLine_chan q.line q.ca srcDemand sy.toNat hlen
    obtain ⟨hv1, hue, hmir, hsrc⟩ := Sys.badLine_log q.line q.ca srcDemand sy.toNat hlen hvalid
    have hframe := Sys.badLine_frame q.line q.ca srcDemand sy.toNat hlen
    refine ⟨congrArg Chan.issued hchan, ?_, (congrArg (fun c : Chan => c.rewriteQ.any (fun e => e.1 = q.line)) hchan).trans hany,
      Sys.badLine_count q.line q.ca srcDemand sy.toNat hlen, hv1, hue, hmir, hsrc, ?_, State.onlyChan_after rfl (hframe.trans (Sys.FrameChan.onChan _ _))⟩
    · refine (congrArg (fun c : Chan => c.done.map (fun d => (d.line, d.slice, d.poison, d.err))) hchan).trans ?_
      rw [hdone, List.map_append]
      rfl
    · exact List.getLast?_concat
  case slot =>
    intro s m sub k ready q o b hl hserve hwin hread hwrite hbatch hrow hloc hsub hbank hready
    refine completes_onSys _ _ s _ hl rfl ?_
    have hmem : (ready.map (fun b => (b.1.val, b.2.1.val, b.2.2.val))).contains o.loc.bankOf = true := by
      rw [hbank]
      exact List.contains_iff_mem.mpr (List.mem_map.mpr ⟨b, List.contains_iff_mem.mp hready, rfl⟩)
    rw [Sys.slot_hit (k := k) hserve hwin hread hwrite hbatch hrow hloc hsub hmem, State.withSys_sys]
    have haged : (s.sys.aged m sub k).chan m = { s.sys.chan m with
        readQ := [{ q with age := q.age + k }]
        rowsOpen := [{ o with quiet := o.quiet + k }] } := by
      unfold Sys.aged
      rw [Sys.chan_onChan_self, hread, hrow, List.map_singleton, List.map_singleton, if_pos (hloc ▸ hsub), if_pos hsub]
    have hchan := Sys.chan_slotColumn (s := s.sys.aged m sub k) (m := m) (q := { q with age := q.age + k }) (r := ⟨some { q with age := q.age + k }, q.line, o.loc⟩)
      (o := { o with quiet := o.quiet + k }) rfl (congrArg Chan.rowsOpen haged) (DramLoc.sameBank_self o.loc)
    rw [haged] at hchan
    refine ⟨(congrArg Chan.readQ hchan).trans (List.erase_cons_head ..), congrArg Chan.issued hchan, congrArg Chan.rowsOpen hchan, ?_⟩
    exact State.onlyChan_withSys ((Sys.FrameChan.onChan _ _).trans (Sys.FrameChan.onChan _ _))
  case link =>
    intro s m n hl
    refine completes_onSys _ _ s _ hl rfl ?_
    rw [State.withSys_sys]
    unfold Sys.linkRetry
    by_cases hn : 8 < n
    · rw [if_pos hn, if_pos hn]
      have hlog := s.sys.mcLog_frame m 0 false srcLink 15 0
      refine ⟨?_, fun _ => s.sys.mcLog_valid m 0 false srcLink 15 0, ?_⟩
      · exact congrArg (fun f : FcrSt => f.events ++ [⟨srcChan m 5, 0⟩]) (hlog.2 .fcr rfl)
      · refine State.only_withSys ((hlog.mono (fun k hk => ?_) (List.nil_subset _)).trans (.raise _ _ _ rfl))
        rw [decide_eq_true hn, hk]
        rfl
    · rw [if_neg hn, if_neg hn]
      exact ⟨(List.append_nil _).symm, fun h => absurd h hn, State.only_withSys (.refl _)⟩
  case spd =>
    intro s req m v ht hgo
    refine ht.completes (Sys.spdWrite · m (fput v 63 1 1)) rfl rfl (fun _ => rfl) (fun t h => ?_) fun t h => ?_
    · have ho : s.sys.offsetOf ⟨.MC_SPD, m, 0⟩ = 0x2000030 + m * 0x10000 + 0 * 1 := rfl
      rw [ho]
      exact M.regWrite_tile _ _ _ _ rfl (by omega)
    · have he : t.spdWrite m (fput v 63 1 1) = t.wr ⟨.MC_SPD, m, 0⟩ (accWrite rows_MC_SPD false (t.rd ⟨.MC_SPD, m, 0⟩) (fput v 63 1 1)) :=
        if_neg (by rw [h.on F.MC_SPD_GO m 0 (by decide), hgo]; decide)
      have hset : (t.wr ⟨.MC_SPD, m, 0⟩ (accWrite rows_MC_SPD false (t.rd ⟨.MC_SPD, m, 0⟩) (fput v 63 1 1))).rf F.MC_SPD_GO m = 1 := by
        unfold Sys.rf
        rw [Sys.rd_wr_self]
        exact (fget_accWrite _ _ _ (l := rows_MC_SPD) (x := ⟨63, 1, .w1s, 0, .cw⟩) (by decide) (by decide)).trans (fget_or_one _ (fget_fput_self v 63 1 1 (by decide) (by decide)))
      rw [he, State.withSys_sys]
      exact ⟨hset, State.only_withSys (h.frame_write (.wr _ _ _ (by simp [writeReg, oneReg])) (fun k hk => by simp_all [writeReg, csStatus]) (List.Subset.refl _))⟩
  case spdDone =>
    intro s m d hl hgo
    refine completes_onSys _ _ s _ hl rfl ?_
    rw [State.withSys_sys]
    have hput (u : Sys) (f : Fld) (x : Nat) (hf : f.reg = .MC_SPD) : u.Frame (u.put f x m) (oneReg m [.MC_SPD]) [] := .put u f x m 0 (by simp [oneReg, hf])
    have hgo' : (s.sys.put F.MC_SPD_GO 0 m).rf F.MC_SPD_GO m = 0 := Sys.rf_put_self _ _ _ _ _ (by decide)
    have he : s.sys.spdDone m d = (match d with
        | some x => (s.sys.put F.MC_SPD_GO 0 m).put F.MC_SPD_DATA x.toNat m
        | none => (s.sys.put F.MC_SPD_GO 0 m).put F.MC_SPD_ERR 1 m) := if_pos hgo
    rw [he]
    cases d with
    | some x =>
      have hdata : ((s.sys.put F.MC_SPD_GO 0 m).put F.MC_SPD_DATA x.toNat m).rf F.MC_SPD_DATA m = x.toNat % 2 ^ F.MC_SPD_DATA.wd := Sys.rf_put_self _ _ _ _ _ (by decide)
      exact ⟨(Sys.rf_put_bits _ F.MC_SPD_DATA _ _ _ _ _ _ (by decide)).trans hgo', beq_iff_eq.mpr hdata, nofun,
        State.only_withSys ((hput _ F.MC_SPD_GO _ rfl).trans (hput _ F.MC_SPD_DATA _ rfl))⟩
    | none =>
      have herr : ((s.sys.put F.MC_SPD_GO 0 m).put F.MC_SPD_ERR 1 m).rf F.MC_SPD_ERR m = 1 := Sys.rf_put_self _ _ _ _ _ (by decide)
      exact ⟨(Sys.rf_put_bits _ F.MC_SPD_ERR _ _ _ _ _ _ (by decide)).trans hgo', rfl, fun _ => herr,
        State.only_withSys ((hput _ F.MC_SPD_GO _ rfl).trans (hput _ F.MC_SPD_ERR _ rfl))⟩

end Sys2Proof.Machine
end

section
/-!
PROOFS. The steps of a memory channel's window (O40).
-/
namespace Sys2Proof.Machine

/-! ## A step that starts -/

/-- A step of a channel's window has its time, and the order passes its place. -/
def Chan.stepped (c : Chan) (ns stage : Nat) : Chan := { c with
  used := c.used + ns
  stage := stage }

/-- What a step of a channel's window runs on. -/
def Sys.stepped (s : Sys) (m ns stage : Nat) : Sys := s.onChan m (·.stepped ns stage)

section
variable (s : Sys) (m ns stage : Nat)

theorem Sys.chan_stepped : (s.stepped m ns stage).chan m = (s.chan m).stepped ns stage := Sys.chan_onChan_self ..

theorem Sys.stepped_frame : Sys.FrameChan m s (s.stepped m ns stage) (fun _ => false) [] := Sys.FrameChan.onChan s _

theorem Sys.stepped_rf (f : Fld) (i j : Nat) : (s.stepped m ns stage).rf f i j = s.rf f i j := rfl

end

/-- In the window, with its place not passed and with room for it, a step runs (R343). -/
theorem Sys.mcStep_runs {s : Sys} {m o ns : Nat} {rep : Bool} {f : Sys → Sys} (hs : s.mcSteps m = true) (hw : s.inWindow = true) (ho : (s.chan m).stage ≤ o)
    (hu : (s.chan m).used + ns + 20 ≤ s.span.window * 25) : s.mcStep m o ns rep f = f (s.stepped m ns (if rep then o else o + 1)) := by
  unfold Sys.mcStep
  dsimp only
  rw [hs, hw, decide_eq_true ho, decide_eq_true hu]
  rfl

/-! ## Refresh and temperature -/

/-- Every rank-pair's debt of a same-bank refresh is taken, and the bank moves on (R344). -/
def Chan.refreshed (c : Chan) : Chan := { c with
  debts := c.debts.map (fun d => if 624 ≤ d then d - 624 else d)
  sbBank := (c.sbBank + 1) % 4 }

/-- What a poll makes of the doubled rate (R346). -/
def Chan.polled (c : Chan) (doubled : Bool) : Chan :=
  if doubled then { c with dblNext := true, normPolls := 0 }
  else { c with normPolls := min 2 (c.normPolls + 1), dblNext := if 2 ≤ c.normPolls + 1 then false else c.dblNext }

theorem Chan.polled_stage (c : Chan) (doubled : Bool) : (c.polled doubled).stage = c.stage := by cases doubled <;> rfl

theorem Chan.polled_normal (c : Chan) (h : 1 ≤ c.normPolls) : (c.polled false).dblNext = false := if_pos (by omega)

/-- The step that a retraining step makes due, of the next span (R351). -/
def RtDue.follow (d : RtDue) (ticks : Nat) : List RtDue :=
  match d.kind with
  | .oscStart => [⟨.oscRead, d.rank, ticks + 1, d.pass⟩]
  | .zqStart => [⟨.zqLatch, d.rank, ticks + 1, d.pass⟩]
  | _ => []

/-! ## The log of repairs -/

/-- The place of a repaired row, in an entry of the log. -/
def Sys.repairPlace (s : Sys) (m i : Nat) (l : DramLoc) : Sys :=
  (((s.put F.MC_PPR_LOG_SUB l.sub m i).put F.MC_PPR_LOG_RANK l.rank m i).put F.MC_PPR_LOG_BG l.bg m i).put F.MC_PPR_LOG_BANK l.bank m i

section
variable (s : Sys) (m : Nat)

theorem Sys.repairPlace_frame (i : Nat) (l : DramLoc) : s.Frame (s.repairPlace m i l) (oneReg m [.MC_PPR_LOG]) [] := by
  have hput (t : Sys) (f : Fld) (v : Nat) (h : f.reg = .MC_PPR_LOG) : t.Frame (t.put f v m i) (oneReg m [.MC_PPR_LOG]) [] := .put t f v m i (by simp [oneReg, h])
  exact (((hput s F.MC_PPR_LOG_SUB _ rfl).trans (hput _ F.MC_PPR_LOG_RANK _ rfl)).trans (hput _ F.MC_PPR_LOG_BG _ rfl)).trans (hput _ F.MC_PPR_LOG_BANK _ rfl)

theorem Sys.repairPlace_rf (i : Nat) (l : DramLoc) (f : Fld) (h : f.lo + f.wd ≤ 64) (hlo : 37 ≤ f.lo) : (s.repairPlace m i l).rf f m i = s.rf f m i := by
  unfold Sys.repairPlace
  rw [Sys.rf_put_bits _ F.MC_PPR_LOG_BANK _ _ _ _ _ _ ⟨h, .inl (Nat.le_trans (by decide) hlo)⟩, Sys.rf_put_bits _ F.MC_PPR_LOG_BG _ _ _ _ _ _ ⟨h, .inl (Nat.le_trans (by decide) hlo)⟩,
    Sys.rf_put_bits _ F.MC_PPR_LOG_RANK _ _ _ _ _ _ ⟨h, .inl (Nat.le_trans (by decide) hlo)⟩, Sys.rf_put_bits _ F.MC_PPR_LOG_SUB _ _ _ _ _ _ ⟨h, .inl (Nat.le_trans (by decide) hlo)⟩]

/-- The first entry of the log holds a repair. -/
def Sys.repairEntry (r : Repair) : Sys := (((s.put F.MC_PPR_LOG_VALID 1 m 0).put F.MC_PPR_LOG_HARD (b2n r.hard) m 0).repairPlace m 0 r.loc).put F.MC_PPR_LOG_ROW r.loc.row m 0

theorem Sys.repairEntry_frame (r : Repair) : s.Frame (s.repairEntry m r) (oneReg m [.MC_PPR_LOG]) [] := by
  have hput (t : Sys) (f : Fld) (v : Nat) (h : f.reg = .MC_PPR_LOG) : t.Frame (t.put f v m 0) (oneReg m [.MC_PPR_LOG]) [] := .put t f v m 0 (by simp [oneReg, h])
  exact (((hput s F.MC_PPR_LOG_VALID _ rfl).trans (hput _ F.MC_PPR_LOG_HARD _ rfl)).trans (Sys.repairPlace_frame _ m 0 r.loc)).trans (hput _ F.MC_PPR_LOG_ROW _ rfl)

theorem Sys.repairEntry_rf (r : Repair) : (s.repairEntry m r).rf F.MC_PPR_LOG_VALID m 0 = 1 ∧ (s.repairEntry m r).rf F.MC_PPR_LOG_HARD m 0 = b2n r.hard ∧
    (s.repairEntry m r).rf F.MC_PPR_LOG_ROW m 0 = r.loc.row % 2 ^ F.MC_PPR_LOG_ROW.wd := by
  unfold Sys.repairEntry
  refine ⟨?_, ?_, Sys.rf_put_self _ _ _ _ _ (by decide)⟩
  · rw [Sys.rf_put_bits _ F.MC_PPR_LOG_ROW _ _ _ _ _ _ (by decide), Sys.repairPlace_rf _ _ _ _ _ (by decide) (by decide),
      Sys.rf_put_bits _ F.MC_PPR_LOG_HARD _ _ _ _ _ _ (by decide)]
    exact Sys.rf_put_self _ _ _ _ _ (by decide)
  · rw [Sys.rf_put_bits _ F.MC_PPR_LOG_ROW _ _ _ _ _ _ (by decide), Sys.repairPlace_rf _ _ _ _ _ (by decide) (by decide)]
    exact (Sys.rf_put_self _ _ _ _ _ (by decide)).trans (by cases r.hard <;> rfl)

end

/-- A repair's step is counted, and one that finds no spare row is noted. -/
def Sys.repairCount (s : Sys) (m n : Nat) (r : Repair) (noSpare : Bool) : Sys :=
  (s.put F.MC_PPR_STATUS_STEP (n + 1) m).when (n == 8 && noSpare) (fun s => s.onChan m (fun c => { c with repair := some { r with noSpare := true } }))

/-- A repair has ended with success, and none is under way. -/
def Sys.repairOver (s : Sys) (m : Nat) : Sys :=
  ((s.onChan m (fun c => { c with repair := none, autoNext := none })).put F.MC_PPR_CTL_GO 0 m).put F.MC_PPR_STATUS_RESULT 2 m

section
variable (s : Sys) (m n : Nat) (r : Repair) (noSpare : Bool)

theorem Sys.chan_repairCount : (s.repairCount m n r noSpare).chan m =
    if n = 8 ∧ noSpare = true then { s.chan m with repair := some { r with noSpare := true } } else s.chan m := by
  unfold Sys.repairCount Sys.when
  simp only [Bool.and_eq_true, beq_iff_eq]
  split
  · rw [Sys.chan_onChan_self, Sys.chan_put]
  · rfl

theorem Sys.repairCount_step (h : n < 31) : (s.repairCount m n r noSpare).rf F.MC_PPR_STATUS_STEP m = n + 1 := by
  have hput : (s.put F.MC_PPR_STATUS_STEP (n + 1) m).rf F.MC_PPR_STATUS_STEP m = n + 1 :=
    (Sys.rf_put_self _ F.MC_PPR_STATUS_STEP _ _ _ (by decide)).trans (Nat.mod_eq_of_lt (show n + 1 < 32 by omega))
  unfold Sys.repairCount Sys.when
  split <;> exact hput

theorem Sys.repairCount_frame : Sys.FrameChan m s (s.repairCount m n r noSpare) (oneReg m [.MC_PPR_STATUS]) [] :=
  Sys.FrameAt.trans (Sys.FrameChan.of_frame (.put _ _ _ _ _ (by simp [oneReg])) rfl) (.when _ _ _ fun _ => Sys.FrameChan.onChan _ _)

theorem Sys.repairOver_result : (s.repairOver m).rf F.MC_PPR_STATUS_RESULT m = 2 := Sys.rf_put_self _ _ _ _ _ (by decide)

theorem Sys.repairOver_go : (s.repairOver m).rf F.MC_PPR_CTL_GO m = 0 :=
  (Sys.rf_put_reg _ F.MC_PPR_STATUS_RESULT F.MC_PPR_CTL_GO _ _ _ _ _ (by decide)).trans (Sys.rf_put_self _ _ _ _ _ (by decide))

theorem Sys.repairOver_chan : ((s.repairOver m).chan m).repair = none := by
  unfold Sys.repairOver
  rw [Sys.chan_put, Sys.chan_put, Sys.chan_onChan_self]

theorem Sys.repairOver_frame : Sys.FrameChan m s (s.repairOver m) (oneReg m [.MC_PPR_STATUS, .MC_PPR_CTL]) [] :=
  ((Sys.FrameChan.onChan s _).trans (Sys.FrameChan.of_frame (.put _ _ _ _ _ (by simp [oneReg])) rfl)).trans (Sys.FrameChan.of_frame (.put _ _ _ _ _ (by simp [oneReg])) rfl)

end

section
variable {s : Sys} {m : Nat}

theorem Sys.repairLog_first (r : Repair) (h : s.on F.MC_PPR_LOG_VALID m 0 = false) : s.repairLog m r = s.repairEntry m r := by
  have hfree : (below 16).find? (fun i => !s.on F.MC_PPR_LOG_VALID m i) = some 0 := by
    rw [show below 16 = 0 :: (below 16).tail from rfl]
    exact List.find?_cons_of_pos (by rw [h]; rfl)
  unfold Sys.repairLog
  rw [hfree]
  rfl

/-- With no candidate waiting, a repair's end leaves none under way. -/
theorem Sys.repairEnd_last (result : Nat) (h : (s.chan m).autoNext = none) : s.repairEnd m result =
    ((s.onChan m (fun c => { c with repair := none, autoNext := none })).put F.MC_PPR_CTL_GO 0 m).put F.MC_PPR_STATUS_RESULT result m := by
  unfold Sys.repairEnd
  rw [h]

end

/-! ## Steps of a repair -/

/-- What a repair's step runs, by its number (R363). -/
def Sys.repairStep (s : Sys) (m n : Nat) (r : Repair) (noSpare : Bool) : Sys :=
  let s := s.put F.MC_PPR_STATUS_STEP (n + 1) m
  let s := s.when (n == 8 && noSpare) (fun s => s.onChan m (fun c => { c with repair := some { r with noSpare := true } }))
  if n = 16 then
    if r.noSpare then (s.repairEnd m 3).raise (srcChan m 10) else (s.repairLog m r).repairEnd m 2
  else s

theorem M.write_nil (x : M) : x.write [] = x := by
  unfold M.write
  rw [List.append_nil]

/-- A repair's step of a channel in service that marks no line. -/
theorem M.pprStep_runs {x : M} {m : Nat} {r : Repair} {noSpare : Bool} (hr : (x.sys.chan m).repair = some r) (hserve : x.sys.mcInService m = true)
    (hs : x.sys.mcSteps m = true) (hw : x.sys.inWindow = true) (ho : (x.sys.chan m).stage ≤ 7) (hu : (x.sys.chan m).used + 160 ≤ x.sys.span.window * 25) :
    ∃ ns, x.pprStep m [] noSpare = x.on (fun s => (s.stepped m ns 8).repairStep m (s.rf F.MC_PPR_STATUS_STEP m) r noSpare) := by
  refine ⟨if x.sys.rf F.MC_PPR_STATUS_STEP m = 8 then 140 else 100, ?_⟩
  unfold M.pprStep
  rw [hr]
  dsimp only
  rw [hserve, if_pos rfl, Sys.mcStep_runs hs hw ho (by split <;> omega), List.filterMap_nil, List.map_nil, M.write_nil, ite_self]
  rfl

/-! ## Patrol scrub -/

/-- The results of a batch's lines are recorded (R360). -/
def Sys.scrubLines (s : Sys) (m p : Nat) (results : List DramResult) (mem : Mem) : Sys :=
  s.each (below 8) (fun s i =>
    match s.conf.paOf m (64 * (p + i)) with
    | none => s
    | some pa =>
      if (s.chan m).writeQ.any (fun e => e.1 = pa / 64) then s
      else (s.dramResult m (pa / 64) (64 * (p + i)) (mem.poisoned (pa / 64)) ((results[i]?).getD .clean) srcScrub).2)

/-- What a batch runs: its cost, its lines, and the pointer's way on. -/
def Sys.scrubbed (s : Sys) (m cost : Nat) (results : List DramResult) (mem : Mem) : Sys :=
  let p := s.rf F.MC_SCRUB_POINTER m
  let s := (s.onChan m (fun c => { c with allowance := c.allowance - 8 * cost })).scrubLines m p results mem
  if s.chanLines m ≤ p + 8 then (s.put F.MC_SCRUB_POINTER 0 m).bump F.MC_SCRUB_PASSES m else s.put F.MC_SCRUB_POINTER (p + 8) m

/-- The lines of a batch, all of whose cells are clean, change nothing (R360). -/
theorem Sys.scrubLines_clean {s : Sys} {m p : Nat} {results : List DramResult} (hclean : results.all (fun r => r == .clean) = true) {mem : Mem} (hp : mem.poison = []) :
    s.scrubLines m p results mem = s := by
  have hresult (i : Nat) : (results[i]?).getD .clean = .clean := by
    cases hi : results[i]? with
    | none => rfl
    | some r => exact beq_iff_eq.mp (List.all_eq_true.mp hclean r (List.mem_of_getElem? hi))
  have hpois (l : Nat) : mem.poisoned l = false := by
    unfold Mem.poisoned
    rw [hp]
    rfl
  refine List.foldlRecOn (motive := fun t => t = s) _ _ rfl fun t ht i _ => ?_
  subst ht
  cases t.conf.paOf m (64 * (p + i)) with
  | none => rfl
  | some pa =>
    dsimp only
    rw [hresult, hpois, Sys.dramResult_clean]
    exact ite_self _

/-- A batch of clean lines moves the pointer on. -/
theorem M.scrubBatch_clean {x : M} {m : Nat} {l : List DramResult} (hs : x.sys.mcSteps m = true) (hw : x.sys.inWindow = true) (ho : (x.sys.chan m).stage ≤ 9)
    (hu : (x.sys.chan m).used + 60 ≤ x.sys.span.window * 25) (hc0 : 0 < x.sys.scrubCost m) (hc : 8 * x.sys.scrubCost m ≤ (x.sys.chan m).allowance)
    (hend : x.sys.rf F.MC_SCRUB_POINTER m + 8 < x.sys.chanLines m) (hall : l.all (fun r => r == .clean) = true) (hp : x.mem.poison = []) :
    x.scrubBatch m l = x.on (fun s => ((s.stepped m 40 9).onChan m (fun c => { c with allowance := c.allowance - 8 * x.sys.scrubCost m })).put F.MC_SCRUB_POINTER
      (s.rf F.MC_SCRUB_POINTER m + 8) m) := by
  have hbatch : x.scrubBatch m l = if decide (0 < x.sys.scrubCost m) && decide (8 * x.sys.scrubCost m ≤ (x.sys.chan m).allowance) then
      x.on (fun s => s.mcStep m 9 40 true (fun t => t.scrubbed m (x.sys.scrubCost m) l x.mem)) else x := rfl
  rw [hbatch, decide_eq_true hc0, decide_eq_true hc]
  refine (if_pos rfl).trans ?_
  unfold M.on
  dsimp only
  rw [Sys.mcStep_runs hs hw ho hu]
  unfold Sys.scrubbed
  dsimp only
  rw [Sys.scrubLines_clean hall hp]
  exact congrArg (fun t : Sys => (⟨x.mem0, t, x.ops⟩ : M)) (if_neg (Nat.not_le.mpr hend))

/-! ## The rewrite queue -/

/-- The head of the rewrite queue leaves it, and is poison when it was queued as such. -/
theorem M.rewriteLine_runs {x : M} {m l : Nat} {p : Bool} {rest : List (Nat × Bool)} (hq : (x.sys.chan m).rewriteQ = (l, p) :: rest) (hs : x.sys.mcSteps m = true)
    (hw : x.sys.inWindow = true) (ho : (x.sys.chan m).stage ≤ 6) (hu : (x.sys.chan m).used + 65 ≤ x.sys.span.window * 25) :
    x.rewriteLine m = (x.on (fun s => (s.stepped m 45 6).onChan m (fun c => { c with rewriteQ := rest }))).write (if p then [.poison l true] else []) := by
  have hlen : ((((x.sys.stepped m 45 6).onChan m (fun c => { c with rewriteQ := rest })).chan m).rewriteQ.length < (x.sys.chan m).rewriteQ.length) := by
    rw [Sys.chan_onChan_self, hq]
    exact Nat.lt_succ_self _
  unfold M.rewriteLine
  rw [hq]
  dsimp only
  rw [Sys.mcStep_runs hs hw ho hu, if_pos rfl, ← hq, decide_eq_true hlen, Bool.true_and]
  cases p with
  | true => rfl
  | false => exact (M.write_nil _).symm

/-- Settles O40: the steps of a channel's window. -/
theorem mcWindow : Obligations.McWindow := by
  unfold Obligations.McWindow
  refine ⟨?refresh, ?temp, ?retrain, ?starved, ?rewrite, ?repair, ?repaired, ?resilver, ?scrub⟩
  case refresh =>
    intro s m hl hs hw ho hu hd
    refine completes_onSys _ _ s _ hl rfl ?_
    have he : s.sys.sameBank m = (((s.sys.stepped m (s.sys.trfcsb m) 4).onChan m Chan.refreshed).bump F.MC_REFRESH_SB_ISSUED m).showDebt m :=
      (if_pos hd).trans (Sys.mcStep_runs hs hw ho hu)
    rw [he, State.withSys_sys]
    have hchan : ((((s.sys.stepped m (s.sys.trfcsb m) 4).onChan m Chan.refreshed).bump F.MC_REFRESH_SB_ISSUED m).showDebt m).chan m =
        ((s.sys.chan m).stepped (s.sys.trfcsb m) 4).refreshed := (Sys.chan_onChan_self _ _ _).trans (congrArg Chan.refreshed (Sys.chan_stepped ..))
    have hcount : ((((s.sys.stepped m (s.sys.trfcsb m) 4).onChan m Chan.refreshed).bump F.MC_REFRESH_SB_ISSUED m).showDebt m).rf F.MC_REFRESH_SB_ISSUED m =
        min (2 ^ F.MC_REFRESH_SB_ISSUED.wd - 1) (s.sys.rf F.MC_REFRESH_SB_ISSUED m + 1) :=
      (Sys.rf_put_bits _ F.MC_REFRESH_DEBT _ _ _ _ _ _ (by decide)).trans (Sys.rf_bump _ _ _ _ (by decide))
    refine ⟨by rw [hchan]; rfl, by rw [hchan]; rfl, by rw [hchan]; rfl, by rw [hchan]; rfl, hcount, State.onlyChan_withSys ?_⟩
    exact (((s.sys.stepped_frame m _ 4).mono nofun (List.Subset.refl _)).trans (Sys.FrameChan.onChan _ _)).trans
      (Sys.FrameChan.of_frame ((Sys.Frame.bump _ _ _ _ (by simp [oneReg])).trans (.put _ _ _ _ _ (by simp [oneReg]))) rfl)
  case temp =>
    intro s m code dbl hot hl hs hw ho hu hspan
    refine completes_onSys _ _ s _ hl rfl ?_
    have he : s.sys.tempPoll m code.toNat dbl hot =
        (((s.sys.stepped m 30 5).put F.MC_STATUS_TEMP_CODE code.toNat m).onChan m (·.polled dbl)).when hot (fun s => s.raise (srcChan m 8)) :=
      (if_pos hspan).trans (Sys.mcStep_runs hs hw ho hu)
    rw [he, State.withSys_sys]
    generalize hu : ((s.sys.stepped m 30 5).put F.MC_STATUS_TEMP_CODE code.toNat m).onChan m (·.polled dbl) = u
    have hchan : u.chan m = ((s.sys.chan m).stepped 30 5).polled dbl := by
      rw [← hu, Sys.chan_onChan_self, Sys.chan_put, Sys.chan_stepped]
    have hcode : u.rf F.MC_STATUS_TEMP_CODE m = code.toNat := by
      rw [← hu]
      exact (Sys.rf_put_self _ F.MC_STATUS_TEMP_CODE _ _ _ (by decide)).trans (Nat.mod_eq_of_lt code.isLt)
    have hev : u.fcr = s.sys.fcr := by rw [← hu]; rfl
    have hframe : Sys.FrameChan m s.sys u (oneReg m [.MC_STATUS]) [.fcr] := by
      rw [← hu]
      exact (((s.sys.stepped_frame m _ 5).mono nofun (List.nil_subset _)).trans (Sys.FrameChan.of_frame (.put _ _ _ _ _ (by simp [oneReg])) rfl)).trans (Sys.FrameChan.onChan _ _)
    have hsame : (u.when hot (fun s => s.raise (srcChan m 8))).chan m = u.chan m := by cases hot <;> rfl
    rw [hsame, hchan]
    refine ⟨?_, Chan.polled_stage _ _, fun h => by rw [h]; rfl, fun h hn => by rw [h]; exact Chan.polled_normal _ hn, ?_, State.onlyChan_withSys ?_⟩
    · cases hot <;> exact hcode
    · rw [← hev]
      cases hot
      · exact (List.append_nil _).symm
      · rfl
    · exact hframe.trans (.when _ _ _ fun _ => Sys.FrameChan.of_frame (.raise _ _ _ rfl) rfl)
  case retrain =>
    intro s m d hl hs ht hw ho hu hd
    refine completes_onSys _ _ s _ hl rfl ?_
    have he : s.sys.retrainStep m false = (s.sys.stepped m d.kind.ns 6).onChan m (fun c => { c with due := c.due.erase d ++ d.follow s.sys.ticks }) := by
      unfold Sys.retrainStep
      rw [hd]
      dsimp only
      rw [if_pos ht, Sys.mcStep_runs hs hw ho hu]
      rfl
    rw [he, State.withSys_sys]
    have hchan := Sys.chan_onChan_self (s.sys.stepped m d.kind.ns 6) m (fun c => { c with due := c.due.erase d ++ d.follow s.sys.ticks })
    rw [Sys.chan_stepped] at hchan
    rw [hchan]
    exact ⟨rfl, rfl, rfl, State.onlyChan_withSys ((s.sys.stepped_frame m _ 6).trans (Sys.FrameChan.onChan _ _))⟩
  case starved =>
    intro s m hl hd ho
    refine completes_onSys _ _ s _ hl rfl ?_
    have he : s.sys.retrainStarved m = (s.sys.put F.MC_STATUS_RETRAIN_STARVED 1 m).raise (srcChan m 7) := if_pos (by rw [hd, ho]; rfl)
    rw [he, State.withSys_sys]
    exact ⟨Sys.rf_put_self _ F.MC_STATUS_RETRAIN_STARVED _ _ _ (by decide), rfl, State.only_withSys ((Sys.Frame.put _ _ _ _ _ (by simp [oneReg])).trans (.raise _ _ _ rfl))⟩
  case rewrite =>
    intro s m l p rest hl hs hw ho hu hq
    refine completes_onM _ _ s _ hl rfl ?_
    rw [M.rewriteLine_runs (x := s.ctx) hq hs hw ho hu]
    have hchan : ((s.sys.stepped m 45 6).onChan m (fun c => { c with rewriteQ := rest })).chan m = { (s.sys.chan m).stepped 45 6 with rewriteQ := rest } := by
      rw [Sys.chan_onChan_self, Sys.chan_stepped]
    have hframe : Sys.FrameChan m s.sys ((s.sys.stepped m 45 6).onChan m (fun c => { c with rewriteQ := rest })) (fun _ => false) [] :=
      (s.sys.stepped_frame m 45 6).trans (Sys.FrameChan.onChan _ _)
    refine ⟨congrArg Chan.rewriteQ hchan, congrArg Chan.stage hchan, ?_, ?_, ?_, ?_, rfl, fun c hc => hframe.2 c fun e => hc (Fin.ext e), hframe.1⟩
    · rintro rfl
      exact List.contains_iff_mem.mpr ((mem_setAdd _ _ _).mpr (.inl rfl))
    · rintro rfl
      rfl
    · cases p <;> rfl
    · cases p <;> rfl
  case repair =>
    intro s m ns r hl hs hserve hw ho hu hr hstep
    refine completes_onM _ _ s _ hl rfl ?_
    obtain ⟨k, he⟩ := M.pprStep_runs (x := s.ctx) (noSpare := ns) hr hserve hs hw ho hu
    have he' : s.ctx.pprStep m (([] : List (Fin 16)).map (·.val)) ns = _ := he
    rw [he']
    have hrun : (s.sys.stepped m k 8).repairStep m (s.sys.rf F.MC_PPR_STATUS_STEP m) r ns = (s.sys.stepped m k 8).repairCount m (s.sys.rf F.MC_PPR_STATUS_STEP m) r ns :=
      if_neg (by omega)
    have hon : s.ctx.on (fun t => (t.stepped m k 8).repairStep m (t.rf F.MC_PPR_STATUS_STEP m) r ns) =
        ⟨s.mem, (s.sys.stepped m k 8).repairCount m (s.sys.rf F.MC_PPR_STATUS_STEP m) r ns, []⟩ := congrArg (fun u : Sys => (⟨s.mem, u, []⟩ : M)) hrun
    rw [hon]
    have hsys : (s.after ⟨s.mem, (s.sys.stepped m k 8).repairCount m (s.sys.rf F.MC_PPR_STATUS_STEP m) r ns, []⟩).sys =
        (s.sys.stepped m k 8).repairCount m (s.sys.rf F.MC_PPR_STATUS_STEP m) r ns := rfl
    rw [hsys]
    generalize s.sys.rf F.MC_PPR_STATUS_STEP m = n at hstep
    have hframe := (s.sys.stepped_frame m k 8).mono (but' := oneReg m [.MC_PPR_STATUS]) nofun (List.Subset.refl _)
    have hchan := Sys.chan_repairCount (s.sys.stepped m k 8) m n r ns
    rw [Sys.chan_stepped] at hchan
    refine ⟨Sys.repairCount_step _ _ _ _ _ (by omega), ?_, ?_, State.onlyChan_after rfl (hframe.trans (Sys.repairCount_frame ..))⟩
    · rw [hchan]
      split <;> rfl
    · rw [hchan]
      split
      · rfl
      · exact hr
  case repaired =>
    intro s m r hl hs hserve hw ho hu hr hauto hspare hstep hlog
    refine completes_onM _ _ s _ hl rfl ?_
    obtain ⟨k, he⟩ := M.pprStep_runs (x := s.ctx) (noSpare := false) hr hserve hs hw ho hu
    have he' : s.ctx.pprStep m (([] : List (Fin 16)).map (·.val)) false = _ := he
    rw [he']
    have hcount : (s.sys.stepped m k 8).repairCount m 16 r false = (s.sys.stepped m k 8).put F.MC_PPR_STATUS_STEP 17 m := rfl
    generalize hu : (s.sys.stepped m k 8).repairCount m 16 r false = u at hcount
    have hfree : u.on F.MC_PPR_LOG_VALID m 0 = false := by
      unfold Sys.on
      rw [hcount, Sys.rf_put_reg _ F.MC_PPR_STATUS_STEP F.MC_PPR_LOG_VALID _ _ _ _ _ (by decide), Sys.stepped_rf]
      exact hlog
    have hnext : ((u.repairEntry m r).chan m).autoNext = none := by
      rw [congrFun (Sys.chan_of_chans ((u.repairEntry_frame m r).2 .chans rfl)) m, hcount, Sys.chan_put, Sys.chan_stepped]
      exact hauto
    have hrun : (s.sys.stepped m k 8).repairStep m (s.sys.rf F.MC_PPR_STATUS_STEP m) r false = (u.repairEntry m r).repairOver m := by
      rw [hstep]
      unfold Sys.repairStep
      dsimp only
      rw [if_pos rfl, hspare, if_neg Bool.false_ne_true, show ((s.sys.stepped m k 8).put F.MC_PPR_STATUS_STEP (16 + 1) m).when _ _ = u from hu,
        Sys.repairLog_first r hfree, Sys.repairEnd_last 2 hnext]
      rfl
    have hon : s.ctx.on (fun t => (t.stepped m k 8).repairStep m (t.rf F.MC_PPR_STATUS_STEP m) r false) = ⟨s.mem, (u.repairEntry m r).repairOver m, []⟩ :=
      congrArg (fun v : Sys => (⟨s.mem, v, []⟩ : M)) hrun
    rw [hon]
    obtain ⟨hvalid, hhard, hrow⟩ := u.repairEntry_rf m r
    have hover := (u.repairEntry m r).repairOver_frame m
    have hframe : Sys.FrameChan m s.sys ((u.repairEntry m r).repairOver m) (oneReg m [.MC_PPR_STATUS, .MC_PPR_LOG, .MC_PPR_CTL]) [] := by
      have hbefore : Sys.FrameChan m s.sys u (oneReg m [.MC_PPR_STATUS, .MC_PPR_LOG, .MC_PPR_CTL]) [] := by
        rw [hcount]
        exact ((s.sys.stepped_frame m k 8).mono nofun (List.Subset.refl _)).trans (Sys.FrameChan.of_frame (.put _ _ _ _ _ (by simp [oneReg])) rfl)
      refine (hbefore.trans (Sys.FrameChan.of_frame ((u.repairEntry_frame m r).regs_mono fun k hk => ?_) rfl)).trans (hover.mono (fun k hk => ?_) (List.Subset.refl _))
      · simp_all [oneReg]
      · simp only [oneReg, Bool.and_eq_true, List.contains_iff_mem, List.mem_cons, List.not_mem_nil, or_false] at hk ⊢
        tauto
    refine ⟨Sys.repairOver_result .., Sys.repairOver_go .., Sys.repairOver_chan .., ?_, ?_, ?_, State.onlyChan_after rfl hframe⟩
    · exact (hover.1.rf F.MC_PPR_LOG_VALID m 0 (by simp [oneReg])).trans hvalid
    · exact (hover.1.rf F.MC_PPR_LOG_HARD m 0 (by simp [oneReg])).trans hhard
    · exact (hover.1.rf F.MC_PPR_LOG_ROW m 0 (by simp [oneReg])).trans hrow
  case resilver =>
    intro s m hl hs hst hpend hw ho hu hp
    refine completes_onSys _ _ s _ hl rfl ?_
    have he : s.sys.resilverStep m = ((s.sys.stepped m 100 8).put F.MC_RESILVER_POINTER (s.sys.rf F.MC_RESILVER_POINTER m + 1) m).when
        (decide (s.sys.conf.pairEnd m ≤ (s.sys.rf F.MC_RESILVER_POINTER m + 1) * 1024)) (fun t => t.onChan m (fun c => { c with pend := .resilvered, since := t.ticks })) :=
      (if_pos (by rw [hst, hpend]; rfl)).trans (Sys.mcStep_runs hs hw ho hu)
    rw [he, State.withSys_sys]
    generalize hv : s.sys.rf F.MC_RESILVER_POINTER m + 1 = v at hp
    have hpoint : ((s.sys.stepped m 100 8).put F.MC_RESILVER_POINTER v m).rf F.MC_RESILVER_POINTER m = v :=
      (Sys.rf_put_self _ F.MC_RESILVER_POINTER _ _ _ (by decide)).trans (Nat.mod_eq_of_lt hp)
    have hchan : ((s.sys.stepped m 100 8).put F.MC_RESILVER_POINTER v m).chan m = (s.sys.chan m).stepped 100 8 := (Sys.chan_put ..).trans (Sys.chan_stepped ..)
    have hframe : Sys.FrameChan m s.sys ((s.sys.stepped m 100 8).put F.MC_RESILVER_POINTER v m) (oneReg m [.MC_RESILVER]) [] :=
      ((s.sys.stepped_frame m 100 8).mono nofun (List.Subset.refl _)).trans (Sys.FrameChan.of_frame (.put _ _ _ _ _ (by simp [oneReg])) rfl)
    generalize (s.sys.stepped m 100 8).put F.MC_RESILVER_POINTER v m = u at hpoint hchan hframe
    by_cases hend : s.sys.conf.pairEnd m ≤ v * 1024
    · rw [decide_eq_true hend, Sys.when_true, if_pos hend, Sys.chan_onChan_self, hchan]
      exact ⟨hpoint, rfl, rfl, rfl, State.onlyChan_withSys (hframe.trans (Sys.FrameChan.onChan _ _))⟩
    · rw [decide_eq_false hend, Sys.when_false, if_neg hend, hchan]
      exact ⟨hpoint, rfl, rfl, hpend, State.onlyChan_withSys hframe⟩
  case scrub =>
    intro s m l hl hs hw ho hu hc0 hc hend hp hall hpois
    refine completes_onM _ _ s _ hl rfl ?_
    rw [M.scrubBatch_clean (x := s.ctx) hs hw ho hu hc0 hc hend hall hpois]
    have hchan : (((s.sys.stepped m 40 9).onChan m (fun c => { c with allowance := c.allowance - 8 * s.sys.scrubCost m })).put F.MC_SCRUB_POINTER
        (s.sys.rf F.MC_SCRUB_POINTER m + 8) m).chan m = { (s.sys.chan m).stepped 40 9 with allowance := (s.sys.chan m).allowance - 8 * s.sys.scrubCost m } := by
      rw [Sys.chan_put, Sys.chan_onChan_self, Sys.chan_stepped]
      rfl
    refine ⟨(Sys.rf_put_self _ F.MC_SCRUB_POINTER _ _ _ (by decide)).trans (Nat.mod_eq_of_lt hp), congrArg Chan.allowance hchan, congrArg Chan.stage hchan, State.onlyChan_after rfl ?_⟩
    exact (((s.sys.stepped_frame m 40 9).mono nofun (List.Subset.refl _)).trans (Sys.FrameChan.onChan _ _)).trans (Sys.FrameChan.of_frame (.put _ _ _ _ _ (by simp [oneReg])) rfl)

end Sys2Proof.Machine
end
